-- ==== Sys2Proof/Word.lean ====
section
/-! DEFINITION. The 32-bit word and the byte: the units of cells, headers and registers (spec/02 R40, R53; spec/13 R367). -/

namespace Sys2Proof

/-- A 32-bit word. -/
abbrev Word := BitVec 32

/-- A byte. -/
abbrev Byte := BitVec 8

end Sys2Proof
end

