-- ==== Sys2Proof/Syntax.lean ====
section
/-! DEFINITION. The commands the block takes: one constructor of `Instr` for each row of spec/opcode_table.json, with
the operands the row's rule gives it. The words that carry bits (packet headers, cells, link blocks, descriptors) are
words; the rest are counts, names and byte strings. Operands called `at_` give the time, in ns on the model's clock, at
which a timed event happens; operands of Bool or Nat that say what a sensor, a decoder, a memory device or the host
answered are the outside world's part of the event (logs 1 and 9). -/

namespace Sys2Proof

/-- The three masters of the register space (12 R359). -/
inductive Master where
  | host | sideband | gesta (core : Nat)
  deriving DecidableEq, Repr

/-- The eight words of a packet header (02 R53). -/
structure Header where
  w0 : Word
  w1 : Word
  w2 : Word
  w3 : Word
  w4 : Word
  w5 : Word
  w6 : Word
  w7 : Word
  deriving DecidableEq, Repr

/-- A cell: its header word (02 R41) and its sixteen body words (02 R40). -/
structure Cell where
  hdr : Word
  body : List Word
  deriving DecidableEq, Repr

/-- A whole packet as the local station, the host path or a port's control logic receives it: header, payload bytes and
the logical port it arrived on (160 the host path, 161 the chip's own station). -/
structure StPkt where
  hdr : Header
  data : List Byte
  arr : Nat
  deriving DecidableEq, Repr

/-- What the FEC decoder of one lane, by position, found in the codewords of a block (11 R302): symbols corrected, and
whether a codeword was uncorrectable. -/
structure LaneFec where
  pos : Nat
  corr : Nat
  unc : Bool
  deriving DecidableEq, Repr

/-- A link block as received: sixteen slots, its two LCW bits, its trailer CRC, what the lanes' decoders found (11 R303, R305),
and the slots whose cells fail their parity check at the hand-off to the position (02 R46). Where `code` names a lane position and
the levels of a codeword, that codeword arrives there instead, the errors that its decoder corrects put right, and the slots, the
LCW bits and the CRC are those of the blocks that its words complete (11 R301, R302). -/
structure RxBlock where
  slots : List Cell
  lcw : Nat
  crc : Nat
  fec : List LaneFec
  par : List Nat
  code : Option (Nat × List Nat)
  deriving DecidableEq, Repr

/-- How one line of the well's memory answers the reads of a command (09 R251, R252): `corr` a correctable error was
corrected, the first `bad` tries of the primary and the first `copyBad` tries of the copy are bad. A line not listed reads
clean. -/
structure LineEv where
  addr : Nat
  corr : Bool
  bad : Nat
  copyBad : Nat
  deriving DecidableEq, Repr

/-- A DDR5 module as its SPD shows it (09 R239): its DIMM number, its size in GiB, and a number for everything else that must
be alike. -/
structure Dimm where
  num : Nat
  gib : Nat
  make : Nat
  deriving DecidableEq, Repr

/-- What the hardware finds during a boot (14 R398): the ROM checksum and SRAM self-test pass, the PUF seed is reconstructed, how
many copies of the Gesta body fail BODY_DIGEST, and what the tray controller wrote to the flash while it held the pins
(14 R403, 19 R503); the pumps that fail their self-test (07 R185), the memory devices that fail training (09 R253), the modules
found (09 R239). -/
structure BootEv where
  romOk : Bool
  pufOk : Bool
  bodyBad : Nat
  tray : List (Nat × List Byte)
  pumpBad : List Nat
  devBad : List Nat
  dimms : List Dimm
  deriving DecidableEq, Repr

/-- An ActivateFirmware (14 R407): its transport, and whether it asks for self-contained activation. -/
structure Activate where
  pcie : Bool
  self : Bool
  deriving DecidableEq, Repr

/-- A read access (13 R367, R368, R383): the byte enables of its words, four bits for each, the first word lowest, and which words
fail their parity check, a bit for each. -/
structure ReadAcc where
  be : Nat
  bad : Nat
  deriving DecidableEq, Repr

/-- The words that fail a parity check in a cell slot: one of the output store (02 R46), by its number in the cell; one of the
cistern from which a RESULT is read (07 R213), with the outcome of the pattern test of its line, true where it fails. -/
structure SlotPar where
  store : Option Nat
  cist : Option Bool
  deriving DecidableEq, Repr

/-- An access through BAR4 (09 R263): a read, a write with the line of it that fails its parity check (09 R251), or a PCIe AtomicOp
(12 R331). -/
inductive ApAccess where
  | rd
  | wr (bad : Option Nat)
  | atomicOp
  deriving DecidableEq, Repr

/-- A failed read of host memory: its address, and the cause (12 R331: 0 UR, 1 CA, 2 poisoned, 3 none in time). -/
structure ReadFail where
  addr : Nat
  cause : Nat
  deriving DecidableEq, Repr

/-- A pass over the configuration (13 R382): the words that hardware, or a master by another row, has read since the last pass with
a parity failure (R383, log 99), and when the pass ends. -/
structure CrcPass where
  parity : List Nat
  at_ : Nat
  deriving DecidableEq, Repr

/-- A low level of a reset pin: how long it has lasted, and when that is judged (19 R498, 14 R403). -/
structure LowPulse where
  lowNs : Nat
  at_ : Nat
  deriving DecidableEq, Repr

/-- A line of the console that names a command without arguments, or none: its characters as CONS_RX brings them, and when its
last comes (18 R481). A command with arguments carries the two apart. -/
structure Typed where
  chars : List Byte
  at_ : Nat
  deriving DecidableEq, Repr

/-- The commands of the block, in the order of spec/opcode_table.json. -/
inductive Instr where
  /-- REGISTER_WRITE (13 R374): A write by any master to a register field that has no row of its own, applied under the
  register-class, shadow, lock and access-fault rules. Of the host, a PCIe access of any number of words (13 R367, R371), `val` and
  `be` holding them all, at an offset in BAR0, at 2^28 plus an offset in BAR2, or at 2^29 plus the number of a word of configuration
  space (log 4). -/
  | registerWrite (m : Master) (off : Nat) (val : Nat) (be : Nat) (ev : BootEv)
  /-- LATCHED_PAIR_READ (13 R370): A read of the first half of a latched pair latches the other half for that master.
  Any read access, at an offset as REGISTER_WRITE has it. -/
  | latchedPairRead (m : Master) (off : Nat) (acc : ReadAcc)
  /-- GLB_PLACE_WRITE (01 R30): A write to GLB_PLACE that changes a port's mode or power stops that port's bring-up, which
  restarts at DETECT or is held in OFF. -/
  | glbPlaceWrite (m : Master) (val : Nat) (be : Nat)
  /-- LOCK (01 R27): A write of 1 to GLB_PLACE.LOCK judges the place and either fixes it or refuses it with an access fault. -/
  | lock (m : Master) (val : Nat) (be : Nat)
  /-- LINK_BLOCK_RECEIVE (11 R305): A received link block is checked and, when it is good and in sequence, its cells are
  released to ingress in slot order. -/
  | linkBlockReceive (lp : Nat) (blk : RxBlock) (at_ : Nat)
  /-- STAGE_ONE_ADMIT (03 R73): A waiting cell is offered to the connected relay buffer and is admitted when pool, reserve and
  output-cap rules allow. -/
  | stageOneAdmit (i : Nat) (k : Nat) (at_ : Nat)
  /-- STAGE_TWO_MOVE (03 R76): stage two moves a cell from a crosspoint queue into the output store, and the resequencer
  releases cells in sequence. -/
  | stageTwoMove (k : Nat) (pos : Nat) (par : Option Nat) (at_ : Nat)
  /-- RESEQUENCER_TIMEOUT (03 R77): A missing cell is not seen within TO, so the resequencer skips it and aborts the packet. -/
  | resequencerTimeout (src : Nat) (pos : Nat) (vc : Nat) (at_ : Nat)
  /-- EGRESS_CELL_SEND (04 R118): at a cell slot, egress picks a tier and queue under credits and budgets and sends the next
  cell. -/
  | egressCellSend (lp : Nat) (bad : SlotPar) (tx : Bool) (at_ : Nat)
  /-- INTER_CELL_GAP_TIMEOUT (02 R51): the next cell of an open packet does not arrive within GAP, so the packet ends with TCODE
  3. -/
  | interCellGapTimeout (lp : Nat) (vc : Nat) (at_ : Nat)
  /-- RESIDENCY_LIMIT (04 R115): A VC3 to VC6 head cell stays in the chip longer than RES_LIM, so the packet is discarded. -/
  | residencyLimit (pid : Nat) (at_ : Nat)
  /-- STARVE_PROMOTION (04 R119): an eligible VC3 to VC7 queue that goes unserved for STARVE is promoted to tier 3. -/
  | starvePromotion (lp : Nat) (vc : Nat) (at_ : Nat)
  /-- FENCE_RELEASE (04 R113): A fenced cross-rack request held at the head of VC3 is sent once its source's open-context count
  reaches 0. -/
  | fenceRelease (lp : Nat) (at_ : Nat)
  /-- PORT_FLUSH_DONE (03 R98): the flush of a port that left UP finishes, so the port may return to the up stage. -/
  | portFlushDone (lp : Nat) (at_ : Nat)
  /-- SWC_FWD_WRITE (03 R84): A write to a forwarding or port-set entry is accepted, moving the bank to EDIT, or is ignored with
  a fault in ACTIVE or DRAINING. -/
  | swcFwdWrite (m : Master) (b : Nat) (pset : Bool) (i : Nat) (val : Nat) (be : Nat)
  /-- SEAL_A (03 R85): forwarding bank A moves from EDIT to STANDBY. -/
  | sealA (m : Master)
  /-- SEAL_B (03 R85): forwarding bank B moves from EDIT to STANDBY. -/
  | sealB (m : Master)
  /-- BANK_DRAIN_END (03 R85): HOLD has elapsed and the in-flight count is 0, so a DRAINING bank becomes STANDBY. -/
  | bankDrainEnd (at_ : Nat)
  /-- TICK_EDGE (05 R129): A rising TICK edge corrects the fabric count by step or slew, applies an armed load at a marker, and
  checks markers for slip. -/
  | tickEdge (high : Nat) (at_ : Nat)
  /-- HOLDOVER_ENTER (05 R132): LOSS_N TICK edges or SYNC intervals are missed, so the chip enters holdover. -/
  | holdoverEnter (at_ : Nat)
  /-- TICK_BOUNDARY (05 R139): at each tick boundary, windows open or close and egress and unscheduled budgets are renewed. -/
  | tickBoundary (at_ : Nat)
  /-- INVAL (05 R126): writing INVAL clears VALID and cancels a pending commit of mode 1 to 3. -/
  | inval (m : Master)
  /-- LOAD_ARM (05 R131): writing LOAD_ARM arms a time load or refuses it. -/
  | loadArm (m : Master)
  /-- LOAD_TAKE_EFFECT (05 R131): in modes 1 and 3, an armed load sets the count at the chip's next own tick boundary. -/
  | loadTakeEffect (at_ : Nat)
  /-- TIM_CTRL_SRC_WRITE (05 R126): A write that changes SRC clears VALID and withdraws an armed load. -/
  | timCtrlSrcWrite (m : Master) (val : Nat) (be : Nat)
  /-- SYNC_SEND (05 R135): the master sends a SYNC to the relay at each tick that is a multiple of SYNC_IVL. -/
  | syncSend (at_ : Nat)
  /-- DELAY_REQ_SEND (05 R136): A chip in mode 1 or 2 sends a DELAY_REQ to the relay every 16 SYNC intervals. -/
  | delayReqSend (at_ : Nat)
  /-- DELAY_RSP_RECEIVE (05 R136): A received DELAY_RSP gives one delay measurement, and DELAY is updated as a mean. -/
  | delayRspReceive (p : StPkt) (at_ : Nat)
  /-- SYNC_RECEIVE (05 R136): A slave receiving a SYNC with V 1 corrects its count, or first sets it and sets VALID. -/
  | syncReceive (p : StPkt) (at_ : Nat)
  /-- TT_BANK_WRITE (05 R138): A write to a timetable bank is accepted, moving it to EDIT, or is refused while ACTIVE or during
  admission. -/
  | ttBankWrite (m : Master) (b : Nat) (kind : Nat) (i : Nat) (w : Nat) (val : Nat) (be : Nat)
  /-- TT_SEAL_A (05 R138): timetable bank A moves from EDIT to SEALED. -/
  | ttSealA (m : Master)
  /-- TT_SEAL_B (05 R138): timetable bank B moves from EDIT to SEALED. -/
  | ttSealB (m : Master)
  /-- ADMIT_A (05 R141): admission starts on SEALED timetable bank A. -/
  | admitA (m : Master)
  /-- ADMIT_B (05 R141): admission starts on SEALED timetable bank B. -/
  | admitB (m : Master)
  /-- ADMISSION_DONE (05 R141): admission finishes, sets RESULT, and the bank becomes ADMITTED or stays SEALED. -/
  | admissionDone (at_ : Nat)
  /-- TIMETABLE_RECHECK (05 R144): the checks on the active timetable are repeated after a condition change, and AT_RISK is set
  or cleared. -/
  | timetableRecheck (at_ : Nat)
  /-- DEADLINE_MISS (05 R140): A group's last RESULT has not left by START plus DEADLINE, so a miss is counted and a strict
  group is aborted. -/
  | deadlineMiss (g : Nat) (at_ : Nat)
  /-- ISSUE (13 R376): writing GLB_CMT.ISSUE issues a commit, which is judged for holder, boundary and checks and then becomes
  pending or is refused. -/
  | issue (m : Master)
  /-- REVERT (13 R379): writing GLB_CMT.REVERT copies every live value back into its shadow and clears DIRTY. -/
  | revert (m : Master)
  /-- CANCEL (05 R146): writing CANCEL withdraws the pending commit. -/
  | cancel (m : Master)
  /-- COMMIT_TAKE_EFFECT (13 R378): at its boundary a pending commit repeats its checks and copies every shadow to live, with
  all attached effects, in one core cycle. -/
  | commitTakeEffect (ev : BootEv) (at_ : Nat)
  /-- GRP_ENT_WRITE (06 R153): A write to a group entry opens a FREE entry, or is applied with locked fields kept and faulted
  when changed. -/
  | grpEntWrite (m : Master) (g : Nat) (w : Nat) (val : Nat) (be : Nat)
  /-- GRP_RANK_WRITE (06 R155): A write to a rank table entry is accepted, or is refused in an active group's ACT_BANK. -/
  | grpRankWrite (m : Master) (b : Nat) (i : Nat) (val : Nat) (be : Nat)
  /-- CREATE (06 R157): GRP_CMD CREATE checks an OPEN entry and makes it ACTIVE. -/
  | create (m : Master) (g : Nat)
  /-- CREATE_SHAPE (06 R158): GRP_CMD CREATE_SHAPE computes rank entries from GRP_SHAPE, checks them, and makes the group
  ACTIVE. -/
  | createShape (m : Master) (g : Nat)
  /-- DESTROY (06 R159): GRP_CMD DESTROY moves the group to CLOSING, withdraws queued descriptors and aborts the operation in
  progress with 0x07. -/
  | destroy (m : Master) (g : Nat)
  /-- ABORT (06 R159): GRP_CMD ABORT aborts the operation in progress, or the next queued one, with 0x07. -/
  | abort (m : Master) (g : Nat)
  /-- GROUP_FREE (06 R152): A CLOSING group with nothing in progress whose HOLD has elapsed returns to FREE with every field
  reset. -/
  | groupFree (g : Nat) (at_ : Nat)
  /-- DOORBELL (06 R168): A received DOORBELL fills or is compared with its queue slot, or is discarded, and is answered with
  GRANT kind 2. -/
  | doorbell (p : StPkt) (at_ : Nat)
  /-- LAUNCH (06 R166): A station launches the next SEQ once its launch conditions, gate and token hold, choosing path and
  chunking. -/
  | launch (g : Nat) (at_ : Nat)
  /-- GRANT_REQ (06 R171): A received GRANT_REQ is checked against the signature and takes its link's request slot. -/
  | grantReq (p : StPkt) (at_ : Nat)
  /-- WAVE_GRANT (08 R222): when all contributors have asked and cistern space is free, a wave is placed whole and GRANTs are
  sent, or it is refused with 0x08. -/
  | waveGrant (hostData : Option (List Byte)) (at_ : Nat)
  /-- GRANT (06 R173): A GRANT received from an up link lets the rack station send its partial for that wave. -/
  | grant (p : StPkt) (at_ : Nat)
  /-- CONTRIB (06 R172): A received contribution is checked for grant and signature and lands in its chunk's cistern lines. -/
  | contrib (p : StPkt) (at_ : Nat)
  /-- DISPATCH (08 R231): A received dispatch contribution is stored, and at route completion admission is decided per expert.
  -/
  | dispatch (p : StPkt) (at_ : Nat)
  /-- EXPERT_OUT (08 R235): A received expert output slice lands in its combine chunk for weighting. -/
  | expertOut (p : StPkt) (at_ : Nat)
  /-- RESULT (08 R224): A RESULT received by a rack station from a spine is delivered to members or forwarded as a partial up
  the column set. -/
  | result (p : StPkt) (at_ : Nat)
  /-- PROGRESS_TIMEOUT (06 R174): the progress timer reaches GTO, so the station raises abort 0x01. -/
  | progressTimeout (g : Nat) (at_ : Nat)
  /-- ABORT_REQ (06 R178): A received SEQCTL ABORT_REQ is forwarded once by key, and the active sequencer decides the
  operation's abort. -/
  | abortReq (p : StPkt) (at_ : Nat)
  /-- SEQCTL_ABORT (06 R179): A received SEQCTL ABORT ends or records the SEQ with its code and is forwarded once. -/
  | seqctlAbort (p : StPkt) (at_ : Nat)
  /-- TOKEN (06 R180): A received TOKEN records its SEQ and lets the station launch after an aborted SEQ. -/
  | token (p : StPkt) (at_ : Nat)
  /-- TOKEN_SEND (06 R180): TOKEN_DLY after an ABORT, the sequencer sends TOKEN carrying SEQ + 1. -/
  | tokenSend (g : Nat) (at_ : Nat)
  /-- SWEEP_START (07 R189): A pump begins sweeping a chunk once every granted contribution has arrived. -/
  | sweepStart (g : Nat) (idx : Nat) (at_ : Nat)
  /-- SWEEP_DONE (07 R208): A sweep ends and its residue check either lets outputs stand and RESULTs leave, or triggers
  re-sweep, retirement or give-up. -/
  | sweepDone (g : Nat) (idx : Nat) (mismatch : Bool) (parity : Option Bool) (at_ : Nat)
  /-- PUMP_DRAINED (07 R186): A DRAINING pump whose cistern no longer holds a chunk becomes RETIRED. -/
  | pumpDrained (n : Nat) (at_ : Nat)
  /-- RETIRE (07 R186): PMP_CTRL.RETIRE retires an ACTIVE or SPARE pump with cause 5. -/
  | retire (m : Master) (n : Nat)
  /-- TEST_GO (07 R210): PMP_CTRL.TEST_GO starts the known-vector self-test of a pump. -/
  | testGo (m : Master) (n : Nat)
  /-- SELF_TEST_DONE (07 R210): A pump self-test ends and sets PASS and NFAIL, and a failing pump retires with cause 4. -/
  | selfTestDone (n : Nat) (nfail : Nat) (at_ : Nat)
  /-- RESTORE (07 R186): PMP_CTRL.RESTORE returns a RETIRED pump that passed its self-test to SPARE. -/
  | restore (m : Master) (n : Nat)
  /-- CISTERN_SCRUB (07 R214): the scrubber reads cistern lines each IVL and handles parity failures under R213. -/
  | cisternScrub (n : Nat) (fail : Bool) (chunk : Option (Nat × Nat)) (bad : Bool) (at_ : Nat)
  /-- WELL_INIT_DONE (09 R241): the zero fill of both tiers finishes and INIT_DONE is set. -/
  | wellInitDone (ev : BootEv) (at_ : Nat)
  /-- WEL_FAR_CFG_WRITE (09 R239): A write of the far-tier population is applied, or ignored with a fault when reserved or after
  INIT_DONE. -/
  | welFarCfgWrite (m : Master) (val : Nat) (be : Nat)
  /-- READ (09 R243): A well READ is checked under R246 and admitted. -/
  | read (p : StPkt) (at_ : Nat)
  /-- WRITE (09 R243): A well WRITE is checked, parity-verified and admitted. -/
  | write (p : StPkt) (badLine : Option Nat) (at_ : Nat)
  /-- ATOMIC_FETCH_ADD (09 R244): an ATOMIC FETCH_ADD adds ARG0 to the 8 bytes and returns the old value. -/
  | atomicFetchAdd (p : StPkt) (badLine : Option Nat) (at_ : Nat)
  /-- ATOMIC_SWAP (09 R244): an ATOMIC SWAP writes ARG0 and returns the old value. -/
  | atomicSwap (p : StPkt) (badLine : Option Nat) (at_ : Nat)
  /-- ATOMIC_COMPARE_SWAP (09 R244): an ATOMIC COMPARE_SWAP writes ARG0 when old equals ARG1 and returns the old value. -/
  | atomicCompareSwap (p : StPkt) (badLine : Option Nat) (at_ : Nat)
  /-- ATOMIC_FETCH_AND (09 R244): an ATOMIC FETCH_AND ANDs ARG0 into the 8 bytes and returns the old value. -/
  | atomicFetchAnd (p : StPkt) (badLine : Option Nat) (at_ : Nat)
  /-- ATOMIC_FETCH_OR (09 R244): an ATOMIC FETCH_OR ORs ARG0 into the 8 bytes and returns the old value. -/
  | atomicFetchOr (p : StPkt) (badLine : Option Nat) (at_ : Nat)
  /-- ATOMIC_FETCH_XOR (09 R244): an ATOMIC FETCH_XOR XORs ARG0 into the 8 bytes and returns the old value. -/
  | atomicFetchXor (p : StPkt) (badLine : Option Nat) (at_ : Nat)
  /-- WELL_REQUEST_COMPLETE (09 R250): an admitted well or room request finishes in memory and its response is sent. -/
  | wellRequestComplete (id : Nat) (evs : List LineEv) (at_ : Nat)
  /-- TAKE_OUT (09 R253): WEL_DEV.TAKE_OUT takes a memory device out of service. -/
  | takeOut (m : Master) (d : Nat)
  /-- CONTEXT_TIMEOUT (09 R248): A context open for TO is closed and the source is sent ERR_RSP 0x06. -/
  | contextTimeout (c : Nat) (at_ : Nat)
  /-- PATROL_SCRUB (09 R254): the patrol scrubber reads every populated line of a tier in each interval. -/
  | patrolScrub (far : Bool) (evs : List LineEv) (at_ : Nat)
  /-- MIRROR_FILL_DONE (09 R257): A FILLING window finishes copying and becomes MIRRORED. -/
  | mirrorFillDone (w : Nat) (evs : List LineEv) (at_ : Nat)
  /-- MIGRATION_DONE (09 R260): A page copy ends, held requests are released, and a MOVE writes its forward entry. -/
  | migrationDone (evs : List LineEv) (at_ : Nat)
  /-- BAR4_ACCESS (09 R263): A PCIe access to BAR4 is admitted to the well at the aperture address, or completes with UR. -/
  | bar4Access (kind : ApAccess) (b : Nat) (n : Nat) (data : List Byte) (en : List Bool) (at_ : Nat)
  /-- SO_READ (09 R268): an SO_OP READ returns V. -/
  | soRead (p : StPkt) (at_ : Nat)
  /-- SO_FETCH_ADD (09 R268): an SO_OP FETCH_ADD adds ARG0 to V and scans the waiters. -/
  | soFetchAdd (p : StPkt) (at_ : Nat)
  /-- SO_COMPARE_SWAP (09 R268): an SO_OP COMPARE_SWAP replaces V when it equals ARG1 and scans the waiters. -/
  | soCompareSwap (p : StPkt) (at_ : Nat)
  /-- WAIT_GE (09 R271): an SO_OP WAIT_GE is satisfied at once or registers a waiter. -/
  | waitGe (p : StPkt) (at_ : Nat)
  /-- WAIT_EQ (09 R271): an SO_OP WAIT_EQ is satisfied at once or registers a waiter. -/
  | waitEq (p : StPkt) (at_ : Nat)
  /-- SIGNAL (09 R268): an SO_OP SIGNAL updates V by type, completes barriers and scans the waiters. -/
  | signal (p : StPkt) (at_ : Nat)
  /-- SO_CANCEL (09 R268): an SO_OP CANCEL removes the requester's waiters with that tag. -/
  | soCancel (p : StPkt) (at_ : Nat)
  /-- SO_WAIT_TIMEOUT (09 R271): A waiter's timeout expires and it is sent SO_NOTIFY status 4. -/
  | soWaitTimeout (n : Nat) (k : Nat) (at_ : Nat)
  /-- SO_CMD_READ (09 R268): WEL_SO_CMD READ returns V into RES. -/
  | soCmdRead (m : Master) (val : Nat) (be : Nat)
  /-- SO_CMD_FETCH_ADD (09 R268): WEL_SO_CMD FETCH_ADD adds ARG0 to V. -/
  | soCmdFetchAdd (m : Master) (val : Nat) (be : Nat)
  /-- SO_CMD_COMPARE_SWAP (09 R268): WEL_SO_CMD COMPARE_SWAP replaces V when it equals ARG1. -/
  | soCmdCompareSwap (m : Master) (val : Nat) (be : Nat)
  /-- SO_CMD_SIGNAL (09 R268): WEL_SO_CMD SIGNAL signals the object. -/
  | soCmdSignal (m : Master) (val : Nat) (be : Nat)
  /-- SO_TYPE_WRITE (09 R273): A write to W0 or W1 of a sync object resets its waiters, or is ignored for a reserved TYPE. -/
  | soTypeWrite (m : Master) (n : Nat) (w : Nat) (val : Nat) (be : Nat)
  /-- VAL_LO_WRITE (09 R273): A write to VAL_LO is held for the next VAL_HI write. -/
  | valLoWrite (m : Master) (n : Nat) (val : Nat) (be : Nat)
  /-- VAL_HI_WRITE (09 R273): A write to VAL_HI sets V as one operation and scans the waiters. -/
  | valHiWrite (m : Master) (n : Nat) (val : Nat) (be : Nat)
  /-- ROOM_SNAP (10 R284): A snapshot write is checked, opens or continues a FULL generation, and is written to the spare
  snapshot slot. -/
  | roomSnap (p : StPkt) (badLine : Option Nat) (at_ : Nat)
  /-- ROOM_JRNL (10 R284): A journal write is checked, opens or continues a DELTA generation, and is written to the journal. -/
  | roomJrnl (p : StPkt) (badLine : Option Nat) (at_ : Nat)
  /-- ROOM_READ (10 R286): A room read is checked and answered with ROOM_DATA packets in offset order. -/
  | roomRead (p : StPkt) (at_ : Nat)
  /-- HEARTBEAT_CHECK (10 R292): each ms the chip sets LATE for a room whose owner's heartbeat object has not changed for MISS
  times IVL. -/
  | heartbeatCheck (at_ : Nat)
  /-- HB_LATE_CLEAR (10 R292): clearing a LATE bit restarts that room's heartbeat watch. -/
  | hbLateClear (m : Master) (i : Nat) (val : Nat) (be : Nat)
  /-- LCW_BUILD (11 R310): at the start of each 32-block run the transmitter builds an LCW with ACK, NAK and per-VC credit
  grants. -/
  | lcwBuild (lp : Nat) (at_ : Nat)
  /-- LCW_RECEIVE (11 R306): A received LCW updates ACK, credit limits and triggers a replay on NAK. -/
  | lcwReceive (lp : Nat) (at_ : Nat)
  /-- REPLAY_TIMEOUT (11 R308): no ACK advances for REPLAY_TO, so the transmitter resends from the oldest unacknowledged block.
  -/
  | replayTimeout (lp : Nat) (at_ : Nat)
  /-- TRAINING_FRAME_RECEIVE (11 R314): A good training frame advances detect, polarity, reversal, rate and tap requests, or
  restarts training from UP. -/
  | trainingFrameReceive (lp : Nat) (pos : Nat) (frame : Nat) (at_ : Nat)
  /-- EQ_DONE (11 R317): equaliser adaptation completes and the link moves to FEC_LOCK. -/
  | eqDone (lp : Nat) (ready : Nat) (at_ : Nat)
  /-- FEC_LOCK_DONE (11 R314): FEC lock completes and lanes with uncorrectable codewords are excluded. -/
  | fecLockDone (lp : Nat) (bad : Nat) (at_ : Nat)
  /-- DESKEW_DONE (11 R314): lanes are aligned on the start-of-data mark and the link moves to CREDIT_INIT. -/
  | deskewDone (lp : Nat) (bad : Nat) (at_ : Nat)
  /-- BRINGUP_STAGE_TIMEOUT (11 R314): A bring-up stage exceeds its limit and the attempt ends. -/
  | bringupStageTimeout (lp : Nat) (at_ : Nat)
  /-- BRINGUP_RETRY (11 R314): DETECT_IVL after a failed attempt, the link restarts at DETECT. -/
  | bringupRetry (lp : Nat) (at_ : Nat)
  /-- IDENT_SEND (11 R318): in IDENT the port sends an IDENT every 100 µs. -/
  | identSend (lp : Nat) (at_ : Nat)
  /-- IDENT (11 R318): A received IDENT is recorded in PRT_PEER and the port goes up or raises a miswiring fault. -/
  | ident (p : StPkt) (at_ : Nat)
  /-- LANE_LOCK_LOSS (11 R320): A lane loses lock and is dropped, or every lane does and the link leaves UP. -/
  | laneLockLoss (lp : Nat) (mask : Nat) (at_ : Nat)
  /-- REFCLK_LOSS (11 R313): the reference clock is lost and every port leaves UP with cause 1. -/
  | refclkLoss (at_ : Nat)
  /-- RESTRIPE_DONE (11 R321): the re-stripe after a lane drop completes and traffic resumes over the new masks. -/
  | restripeDone (lp : Nat) (peer : Nat) (at_ : Nat)
  /-- DROP (11 R320): LNK_CTRL.DROP drops a lane from a link in UP. -/
  | drop (m : Master) (l : Nat)
  /-- RETRAIN (11 R319): PRT_CTRL.RETRAIN takes the port out of UP and restarts at DETECT. -/
  | retrain (m : Master) (n : Nat)
  /-- PORT_EN_WRITE (11 R319): writing PRT_CTRL.EN holds the port in OFF or lets it train. -/
  | portEnWrite (m : Master) (n : Nat) (en : Bool)
  /-- LOOP (11 R324): writing PRT_CTRL.LOOP puts the port in a loopback, or clearing it restarts bring-up. -/
  | loop (m : Master) (n : Nat) (k : Nat)
  /-- LOOP_ECHO_END (11 R324): far-end echo training frames stop, so the echoing port leaves LOOP. -/
  | loopEchoEnd (lp : Nat) (at_ : Nat)
  /-- EIDLE_ENTER (11 R322): after EIDLE_T, or at once under the brake, an idle transmitter enters electrical idle. -/
  | eidleEnter (lp : Nat) (at_ : Nat)
  /-- EIDLE_EXIT (11 R322): A ready cell or changed LCW field wakes the transmitter with a training burst. -/
  | eidleExit (lp : Nat) (at_ : Nat)
  /-- ESCAN_GO (11 R323): LNK_ESCAN.GO starts an eye scan at the chosen offsets. -/
  | escanGo (m : Master) (l : Nat)
  /-- ESCAN_DONE (11 R323): an eye scan finishes and LNK_ESCAN_ERR holds the disagreements. -/
  | escanDone (l : Nat) (n : Nat) (at_ : Nat)
  /-- PRBS_RX_EN_WRITE (11 R325): setting RX_EN starts PRBS31 checking and clears both counts. -/
  | prbsRxEnWrite (m : Master) (l : Nat) (val : Nat) (be : Nat)
  /-- PAUSE (15 R428): A received PAUSE stops cell sending on the link and sets PAUSED. -/
  | pause (p : StPkt) (at_ : Nat)
  /-- RESUME (15 R428): A received RESUME clears PAUSED. -/
  | resume (p : StPkt) (at_ : Nat)
  /-- PAUSE_LIMIT_EXPIRE (15 R428): LIMIT passes without RESUME, so the link leaves UP with cause 7. -/
  | pauseLimitExpire (lp : Nat) (at_ : Nat)
  /-- FUNCTION_LEVEL_RESET (12 R332): an FLR resets the host interface alone. -/
  | functionLevelReset (ev : BootEv) (at_ : Nat)
  /-- DL_DOWN (12 R332): A PCIe DL_Down without PERST_N resets the host interface alone. -/
  | dlDown (ev : BootEv) (at_ : Nat)
  /-- HOST_READ_FAIL (12 R331): A read of host memory fails by status, poison or timeout, ending its descriptor or stopping its
  ring. -/
  | hostReadFail (op : Option Nat) (fail : ReadFail) (at_ : Nat)
  /-- CR_EN_WRITE (12 R335): A write of HST_CR.EN enables a command ring or starts stopping it. -/
  | crEnWrite (m : Master) (ring : Nat) (val : Nat) (be : Nat)
  /-- CQ_EN_WRITE (12 R335): A write of HST_CQ.EN enables or disables a completion ring. -/
  | cqEnWrite (m : Master) (q : Nat) (val : Nat) (be : Nat)
  /-- TAIL (12 R336): A command ring doorbell sets TAIL or stops the ring with ERR 1. -/
  | tail (ring : Nat) (val : Nat) (be : Nat)
  /-- HEAD (12 R343): A completion ring doorbell sets HEAD, frees space for held completions and re-arms the interrupt. -/
  | head (q : Nat) (val : Nat) (be : Nat)
  /-- DESCRIPTOR_FETCH (12 R337): the device fetches the next descriptor from a running ring when a slot is free. -/
  | descriptorFetch (words : List Word) (at_ : Nat)
  /-- GROUP_OP (12 R346): A GROUP_OP descriptor is posted to the station's group queue. -/
  | groupOp (n : Nat) (at_ : Nat)
  /-- REG_WRITE (12 R347): A REG_WRITE descriptor writes COUNT words from host memory to BAR0. -/
  | regWrite (n : Nat) (words : List Word) (ev : BootEv) (at_ : Nat)
  /-- REG_READ (12 R347): A REG_READ descriptor reads COUNT BAR0 words into host memory. -/
  | regRead (n : Nat) (at_ : Nat)
  /-- DMA (12 R348): A DMA descriptor moves data between host memory and the well, or within the well. -/
  | dma (n : Nat) (data : List Byte) (evs : List LineEv) (bad : Option Nat) (at_ : Nat)
  /-- MIGRATE (12 R349): A MIGRATE descriptor is checked, skipped, or queued to move a 2 MiB page to the other tier. -/
  | migrate (n : Nat) (at_ : Nat)
  /-- ROOM_EXPORT (12 R350): A ROOM_EXPORT descriptor copies room content to host memory. -/
  | roomExport (n : Nat) (evs : List LineEv) (at_ : Nat)
  /-- TEL_DUMP (12 R351): A TEL_DUMP descriptor writes selected counter records to its host buffer. -/
  | telDump (n : Nat) (fail : Option Nat) (at_ : Nat)
  /-- FABRIC_SEND (12 R352): A FABRIC_SEND descriptor reads its payload and injects one MSG from the host endpoint. -/
  | fabricSend (n : Nat) (payload : List Byte) (at_ : Nat)
  /-- RECV_POST (12 R353): A RECV_POST adds a receive buffer to the host pool. -/
  | recvPost (n : Nat) (at_ : Nat)
  /-- NOP (12 R338): A NOP descriptor completes when it starts. -/
  | nop (n : Nat) (at_ : Nat)
  /-- COMPLETION_WRITE (12 R342): A finished operation's completion entry is written, or held while the ring is full. -/
  | completionWrite (q : Nat) (at_ : Nat)
  /-- CQ_IRQ_TIMER (12 R343): the oldest pending entry reaches TMR µs, so the completion ring's MSI-X is sent. -/
  | cqIrqTimer (q : Nat) (at_ : Nat)
  /-- HOST_PATH_DELIVER (12 R353): A packet for the host Endpoint ID is written to the oldest receive buffer, or discarded. -/
  | hostPathDeliver (at_ : Nat)
  /-- READ32 (12 R358): an MCTP vendor-defined READ32 performs one BAR0 read and returns the value. -/
  | read32 (pcie : Bool) (width : Nat) (len : Nat) (tag : Nat) (off : Nat) (at_ : Nat)
  /-- WRITE32 (12 R358): an MCTP vendor-defined WRITE32 performs one BAR0 write. -/
  | write32 (pcie : Bool) (width : Nat) (len : Nat) (tag : Nat) (off : Nat) (val : Nat) (ev : BootEv) (at_ : Nat)
  /-- SET_ENDPOINT_ID (12 R357): an MCTP Set Endpoint ID assigns the device's MCTP endpoint ID. -/
  | setEndpointId (pcie : Bool) (eid : Nat) (at_ : Nat)
  /-- GET_ENDPOINT_ID (12 R357): an MCTP Get Endpoint ID returns the endpoint ID. -/
  | getEndpointId (pcie : Bool) (at_ : Nat)
  /-- GET_MCTP_VERSION_SUPPORT (12 R357): an MCTP Get MCTP Version Support returns the supported versions. -/
  | getMctpVersionSupport (pcie : Bool) (kind : Nat) (at_ : Nat)
  /-- GET_MESSAGE_TYPE_SUPPORT (12 R357): an MCTP Get Message Type Support returns the supported message types. -/
  | getMessageTypeSupport (pcie : Bool) (at_ : Nat)
  /-- GET_VENDOR_DEFINED_MESSAGE_SUPPORT (12 R357): an MCTP Get Vendor Defined Message Support returns the vendor-defined
  support. -/
  | getVendorDefinedMessageSupport (pcie : Bool) (sel : Nat) (at_ : Nat)
  /-- ENTDAA (12 R356): an I3C ENTDAA assigns the target's dynamic address. -/
  | entdaa (addr : Nat) (at_ : Nat)
  /-- RSTDAA (12 R356): an I3C RSTDAA resets the dynamic address. -/
  | rstdaa (at_ : Nat)
  /-- SETNEWDA (12 R356): an I3C SETNEWDA changes the dynamic address. -/
  | setnewda (addr : Nat) (at_ : Nat)
  /-- GETPID (12 R356): an I3C GETPID returns the provisional ID. -/
  | getpid (at_ : Nat)
  /-- GETBCR (12 R356): an I3C GETBCR returns the bus characteristics register. -/
  | getbcr (at_ : Nat)
  /-- GETDCR (12 R356): an I3C GETDCR returns the device characteristics register. -/
  | getdcr (at_ : Nat)
  /-- GETSTATUS (12 R356): an I3C GETSTATUS returns the target status. -/
  | getstatus (at_ : Nat)
  /-- GETMRL (12 R356): an I3C GETMRL returns the maximum read length. -/
  | getmrl (at_ : Nat)
  /-- GETMWL (12 R356): an I3C GETMWL returns the maximum write length. -/
  | getmwl (at_ : Nat)
  /-- ENEC (12 R356): an I3C ENEC enables target events. -/
  | enec (mask : Nat) (at_ : Nat)
  /-- DISEC (12 R356): an I3C DISEC disables target events. -/
  | disec (mask : Nat) (at_ : Nat)
  /-- RSTACT (12 R356): an I3C RSTACT sets the target reset action. -/
  | rstact (act : Nat) (at_ : Nat)
  /-- GET_VERSION (14 R408): an SPDM GET_VERSION returns the supported versions. -/
  | getVersion (way : Nat) (at_ : Nat)
  /-- GET_CAPABILITIES (14 R408): an SPDM GET_CAPABILITIES returns the capabilities. -/
  | getCapabilities (way : Nat) (ver : Nat) (at_ : Nat)
  /-- NEGOTIATE_ALGORITHMS (14 R408): an SPDM NEGOTIATE_ALGORITHMS selects the algorithms. -/
  | negotiateAlgorithms (way : Nat) (at_ : Nat)
  /-- GET_DIGESTS (14 R408): an SPDM GET_DIGESTS returns the certificate chain digests. -/
  | getDigests (way : Nat) (at_ : Nat)
  /-- GET_CERTIFICATE (14 R408): an SPDM GET_CERTIFICATE returns the slot-0 certificate chain. -/
  | getCertificate (way : Nat) (slot : Nat) (off : Nat) (len : Nat) (at_ : Nat)
  /-- CHALLENGE (14 R408): an SPDM CHALLENGE is answered with a signed response. -/
  | challenge (way : Nat) (slot : Nat) (nonce : List Byte) (at_ : Nat)
  /-- GET_MEASUREMENTS (14 R408): an SPDM GET_MEASUREMENTS returns measurements 1 to 9, signed with the Alias key. -/
  | getMeasurements (way : Nat) (index : Nat) (nonce : List Byte) (at_ : Nat)
  /-- REQUEST_UPDATE (14 R407): A PLDM RequestUpdate starts a firmware update and takes the update lock. -/
  | requestUpdate (pcie : Bool) (at_ : Nat)
  /-- PASS_COMPONENT_TABLE (14 R407): A PLDM PassComponentTable names the slot-chain component. -/
  | passComponentTable (pcie : Bool) (comp : Nat) (at_ : Nat)
  /-- UPDATE_COMPONENT (14 R407): A PLDM UpdateComponent starts the transfer into the slot not running. -/
  | updateComponent (pcie : Bool) (comp : Nat) (at_ : Nat)
  /-- VERIFY_COMPLETE (14 R407): PLDM verification applies R391 to the written slot. -/
  | verifyComplete (pcie : Bool) (at_ : Nat)
  /-- APPLY_COMPLETE (14 R407): PLDM apply sets PREFER to the new slot with TRIAL 1. -/
  | applyComplete (pcie : Bool) (at_ : Nat)
  /-- ACTIVATE_FIRMWARE (14 R407): PLDM ActivateFirmware performs a GMC reset to run the new image. -/
  | activateFirmware (act : Activate) (ev : BootEv) (at_ : Nat)
  /-- SEM_READ (12 R361): A read of GLB_SEM acquires or renews the semaphore for the reading master. -/
  | semRead (m : Master)
  /-- RELEASE (12 R361): A whole write of RELEASE by the holder frees the semaphore. -/
  | release (m : Master) (ev : BootEv)
  /-- SEM_LEASE_LAPSE (12 R362): the holder's lease runs out, so the semaphore becomes free. -/
  | semLeaseLapse (ev : BootEv) (at_ : Nat)
  /-- CONFIG_CRC_PASS (13 R382): each 1 ms pass of the configuration image ends, writes CUR and is compared with REF. -/
  | configCrcPass (pass : CrcPass)
  /-- KICK (14 R388): A KICK bit write restarts that core's watchdog. -/
  | kick (m : Master) (c : Nat)
  /-- WATCHDOG_LAPSE (14 R388): A core's watchdog lapses, so the core leaves its role and restarts, or both lapse and a GMC
  reset follows. -/
  | watchdogLapse (c : Nat) (ev : BootEv) (at_ : Nat)
  /-- GMC_RST (14 R402): A GMC reset restarts both cores into the boot ROM without soft repair or microcode load. -/
  | gmcRst (m : Master) (ev : BootEv)
  /-- PERST_N_ASSERT (15 R432): PERST_N falls and every fabric transmitter turns off. -/
  | perstNAssert (low : LowPulse)
  /-- PERST_N_RELEASE (14 R398): PERST_N rises and the boot ROM runs its stages to RUNNING, HALTED or RECOVERY. -/
  | perstNRelease (ev : BootEv) (at_ : Nat)
  /-- RECOVERY_N_ASSERT (14 R403): RECOVERY_N low holds both cores in reset and floats the QSPI pins. -/
  | recoveryNAssert (low : LowPulse)
  /-- RECOVERY_N_RELEASE (14 R403): RECOVERY_N rises and the boot ROM starts afresh in the cold or GMC flow. -/
  | recoveryNRelease (ev : BootEv) (at_ : Nat)
  /-- TRIAL_CONFIRM (14 R405): after 60 s of both cores running cleanly, Gesta writes TRIAL 0. -/
  | trialConfirm (at_ : Nat)
  /-- UPDATE_LOCK_EXPIRE (14 R406): 60 s without update traffic releases the update lock. -/
  | updateLockExpire (at_ : Nat)
  /-- GET_INFO (14 R409): A mailbox GET_INFO returns slot versions and boot control. -/
  | getInfo (mb : Nat) (at_ : Nat)
  /-- FLASH_READ (14 R409): A mailbox FLASH_READ returns flash data. -/
  | flashRead (mb : Nat) (at_ : Nat)
  /-- FLASH_ERASE (14 R409): A mailbox FLASH_ERASE erases a flash range, subject to R406. -/
  | flashErase (mb : Nat) (ok : Bool) (at_ : Nat)
  /-- FLASH_WRITE (14 R409): A mailbox FLASH_WRITE programs erased flash, subject to R406. -/
  | flashWrite (mb : Nat) (ok : Bool) (at_ : Nat)
  /-- VERIFY_SLOT (14 R409): A mailbox VERIFY_SLOT applies R391 to a slot. -/
  | verifySlot (mb : Nat) (at_ : Nat)
  /-- SET_PREFER (14 R409): A mailbox SET_PREFER writes boot control for a verified slot. -/
  | setPrefer (mb : Nat) (at_ : Nat)
  /-- CONFIRM (14 R409): A mailbox CONFIRM sets TRIAL 0 for the running slot. -/
  | confirm (mb : Nat) (at_ : Nat)
  /-- LOG_READ (14 R409): A mailbox LOG_READ returns one event log entry. -/
  | logRead (mb : Nat) (at_ : Nat)
  /-- GESTA_CORE_RESIGN (15 R439): A Gesta core with an SRAM error or failed self-test resigns, and the standby core becomes
  ACTIVE. -/
  | gestaCoreResign (c : Nat) (at_ : Nat)
  /-- GESTA_TAKEBACK (15 R439): core 0 healthy in STANDBY for HOLDOFF takes the ACTIVE role back. -/
  | gestaTakeback (at_ : Nat)
  /-- FAULT_MESSAGE (15 R416): the collector takes a block's message, checks its CRC, captures and counts it, and applies the
  severity's reactions. -/
  | faultMessage (src : Nat) (bad : Option Nat) (parity : Option Nat) (ev : BootEv) (at_ : Nat)
  /-- SAFE_GO (15 R423): writing FLT_CTRL.SAFE_GO puts the device in the safe state. -/
  | safeGo (m : Master)
  /-- FAULT_N_MIN_END (15 R420): 10 µs after LATCH set, FAULT_N may rise if LATCH has been cleared. -/
  | faultNMinEnd (at_ : Nat)
  /-- CORE_WARM (15 R427): GLB_RST.CORE_WARM or a CHIP reaction starts a core warm reset with resign, PAUSE and flush. -/
  | coreWarm (m : Master)
  /-- CORE_WARM_RESET_END (15 R427): the core warm reset ends, self-refresh ends and RESUME is sent on paused links. -/
  | coreWarmResetEnd (fail : Option Nat) (ev : BootEv) (at_ : Nat)
  /-- PUMP (15 R430): GLB_RST.PUMP starts a pump-domain reset that clears cisterns and aborts collectives with 0x04. -/
  | pump (m : Master)
  /-- PUMP_RESET_END (15 R430): the pump-domain reset ends and grants resume. -/
  | pumpResetEnd (at_ : Nat)
  /-- POOL (09 R275): GLB_RST.POOL starts a pool-domain reset that ends pending requests with 0x0D and resets waiters. -/
  | pool (m : Master)
  /-- POOL_RESET_END (15 R431): the pool-domain reset ends and the well serves requests again. -/
  | poolResetEnd (at_ : Nat)
  /-- PORT_GO (15 R426): GLB_RST.PORT_GO resets one physical port through flush and bring-up. -/
  | portGo (m : Master) (n : Nat)
  /-- HEALTH_SEND (15 R435): every HIVL, or on a flag change, the chip sends HEALTH to its relay endpoints. -/
  | healthSend (at_ : Nat)
  /-- HEALTH (15 R436): A HEALTH from the partner is kept and may start covering or yield to a takeback. -/
  | health (p : StPkt) (at_ : Nat)
  /-- SEQ_KNOWN_ANSWER_TEST (15 R434): every 10 ms the sequencer engine runs a known-answer test of its decisions. -/
  | seqKnownAnswerTest (ok : Bool) (at_ : Nat)
  /-- COVER_DECIDE_START (15 R436): 2 ms after COVER_ACT is set, the covering engine begins deciding requests. -/
  | coverDecideStart (at_ : Nat)
  /-- TAKEBACK_CLAIM (15 R437): SEQ_OK held for HOLDOFF, so a resigned engine sends HEALTH with TAKEBACK. -/
  | takebackClaim (at_ : Nat)
  /-- TAKEBACK_COMPLETE (15 R437): the partner has yielded and 2 ms have passed, so the engine sets OWN_ACT. -/
  | takebackComplete (at_ : Nat)
  /-- TAKEBACK_TIMEOUT (15 R437): no yielding HEALTH within 1 s of TAKEBACK, so kind 0x05 is reported. -/
  | takebackTimeout (at_ : Nat)
  /-- PARTNER_SILENT (15 R438): no partner HEALTH for 16 times HIVL, so kind 0x04 is reported. -/
  | partnerSilent (at_ : Nat)
  /-- POWER_LOOP (16 R448): each 1 ms period the loop updates P_T, C and steps the pump clock and unscheduled rate. -/
  | powerLoop (p : Nat) (at_ : Nat)
  /-- PWR_CAP_HOST_WRITE (16 R443): A host cap write recomputes the effective cap and F_CAP and may start CAPDROP. -/
  | pwrCapHostWrite (m : Master) (val : Nat) (be : Nat)
  /-- PWR_CAP_RACK_WRITE (16 R444): A rack cap write restarts the lease and recomputes the effective cap. -/
  | pwrCapRackWrite (m : Master) (val : Nat) (be : Nat)
  /-- RACK_LEASE_LAPSE (16 R444): the rack lease runs out and the rack cap falls to FALLBACK. -/
  | rackLeaseLapse (at_ : Nat)
  /-- CAPDROP_END (16 R452): CAPDROP ends after BRK_HOLD. -/
  | capdropEnd (at_ : Nat)
  /-- PWR_BRK_REQ_WRITE (16 R450): A write of HOST_REQ or RACK_REQ starts or ends a brake cause. -/
  | pwrBrkReqWrite (m : Master) (val : Nat) (be : Nat)
  /-- PWRBRK_N_CHANGE (16 R450): PWRBRK_N held low 500 ns begins, or its rise ends, the PIN brake cause. -/
  | pwrbrkNChange (high : Bool) (lowNs : Nat) (at_ : Nat)
  /-- COOLANT_FAIL_N_CHANGE (16 R450): COOLANT_FAIL_N held low 500 ns begins, or its rise ends, the COOL brake cause. -/
  | coolantFailNChange (high : Bool) (lowNs : Nat) (at_ : Nat)
  /-- BUS_UV_N_CHANGE (16 R450): BUS_UV_N held low 500 ns begins, or its rise ends, the UV brake cause. -/
  | busUvNChange (high : Bool) (lowNs : Nat) (at_ : Nat)
  /-- COOLANT_SHUTDOWN (16 R453): coolant failure or leak held for CF_SHUT leads to thermal shutdown. -/
  | coolantShutdown (at_ : Nat)
  /-- DIODE_SAMPLE (16 R454): the 20 diodes are sampled, failures judged, and TJ_MAX drives TOPER and shutdown. -/
  | diodeSample (rs : List Int) (at_ : Nat)
  /-- THERMISTOR_READ (16 R458): thermistors and leak loop are read, plausibility is judged, and inlet and leak limits are
  applied. -/
  | thermistorRead (tin : Int) (tout : Int) (loopR : Nat) (at_ : Nat)
  /-- PWR_THERM_CFG_WRITE (16 R455): A write of the thermal limits is applied, or ignored when their order is broken. -/
  | pwrThermCfgWrite (m : Master) (val : Nat) (be : Nat)
  /-- THERMTRIP_N (16 R457): A diode reaching 115 °C drives THERMTRIP_N low until supplies are removed. -/
  | thermtripN (at_ : Nat)
  /-- EPO_N (16 R461): EPO_N low for 200 ns turns off transmitters and pumps and enters the safe state. -/
  | epoN (high : Bool) (lowNs : Nat) (at_ : Nat)
  /-- COUNTER_LOW_WRITE (17 R464): A write to a counter's low word is held. -/
  | counterLowWrite (m : Master) (off : Nat) (val : Nat) (be : Nat)
  /-- COUNTER_HIGH_WRITE (17 R464): A write to a counter's high word sets the 48-bit value. -/
  | counterHighWrite (m : Master) (off : Nat) (val : Nat) (be : Nat)
  /-- BW_WINDOW_END (17 R471): at a tick that is a multiple of WIN, LAST and PEAK bandwidth slots are written. -/
  | bwWindowEnd (at_ : Nat)
  /-- TEL_BW_CFG_WRITE (17 R471): A write to WIN abandons the window in progress. -/
  | telBwCfgWrite (m : Master) (val : Nat) (be : Nat)
  /-- TEL_RING_CFG_WRITE (17 R475): enabling the telemetry ring sets WPTR to 0, or is refused with PAGES 0. -/
  | telRingCfgWrite (m : Master) (val : Nat) (be : Nat)
  /-- PERIODIC_DUMP_START (17 R476): at a tick that is a multiple of IVL, a periodic dump starts or is skipped. -/
  | periodicDumpStart (fail : Option Nat) (at_ : Nat)
  /-- DUMP_END (17 R474): A dump finishes, writes its end record and sends the vector. -/
  | dumpEnd (fail : Option Nat) (at_ : Nat)
  /-- HELP (18 R484): the console lists the commands. -/
  | help (line : Typed)
  /-- STAT (18 R484): the console prints status registers and held ports. -/
  | stat (line : Typed)
  /-- VER (18 R484): the console prints versions and slot information. -/
  | ver (line : Typed)
  /-- FAULT (18 R484): the console prints the first fault and each pending or captured source. -/
  | faultList (line : Typed)
  /-- PORT (18 R484): the console prints a port's status and counters. -/
  | port (chars : List Byte) (at_ : Nat)
  /-- LANE (18 R484): the console prints a lane's status and counters. -/
  | lane (chars : List Byte) (at_ : Nat)
  /-- TEMP (18 R484): the console prints temperatures, thermistors and the leak loop. -/
  | temp (line : Typed)
  /-- POWER (18 R484): the console prints power measurement and levels. -/
  | power (line : Typed)
  /-- REG_RD (18 R484): the console reads words from BAR0. -/
  | regRd (chars : List Byte) (at_ : Nat)
  /-- LOG (18 R486): the console prints event log entries. -/
  | log (chars : List Byte) (at_ : Nat)
  /-- REG_WR (18 R484): the console performs one 32-bit BAR0 write. -/
  | regWr (chars : List Byte) (ev : BootEv) (at_ : Nat)
  /-- FAULT_CLEAR (18 R484): the console clears a source's PEND and VALID and FLT_PIN.LATCH. -/
  | faultClear (chars : List Byte) (ev : BootEv) (at_ : Nat)
  /-- ATEST (18 R487): the console writes PWR_ATEST to select the ATEST voltage. -/
  | atest (chars : List Byte) (ev : BootEv) (at_ : Nat)
  /-- SERVICE_PORT (18 R485): SERVICE PORT holds one physical port with EN 0. -/
  | servicePort (chars : List Byte) (ev : BootEv) (at_ : Nat)
  /-- SERVICE_ON (18 R485): SERVICE ON holds the whole chip when no port is in UP. -/
  | serviceOn (line : Typed)
  /-- SERVICE_ON_FORCE (18 R485): SERVICE ON FORCE writes EN 0 on every port and holds the chip. -/
  | serviceOnForce (ev : BootEv) (line : Typed)
  /-- SERVICE_OFF (18 R485): SERVICE OFF writes EN 1 on held ports and ends service state. -/
  | serviceOff (ev : BootEv) (line : Typed)
  /-- RESET_PORT (18 R484): the console resets a physical port through GLB_RST. -/
  | resetPort (chars : List Byte) (ev : BootEv) (at_ : Nat)
  /-- RESET_PUMP (18 R484): the console starts a pump-domain reset. -/
  | resetPump (ev : BootEv) (line : Typed)
  /-- RESET_POOL (18 R484): the console starts a pool-domain reset. -/
  | resetPool (ev : BootEv) (line : Typed)
  /-- RESET_CORE (18 R484): the console starts a core warm reset. -/
  | resetCore (ev : BootEv) (line : Typed)
  /-- RESET_GMC (18 R484): the console starts a GMC reset. -/
  | resetGmc (ev : BootEv) (line : Typed)
  /-- SELFTEST_RAILS (18 R488): the console checks each rail through ATEST and the internal converter. -/
  | selftestRails (cut : Bool) (bad : List Nat) (ev : BootEv) (line : Typed)
  /-- SELFTEST_SENSORS (18 R488): the console checks diodes, thermistors and leak loop for plausibility. -/
  | selftestSensors (cut : Bool) (bad : Bool) (ev : BootEv) (line : Typed)
  /-- SELFTEST_LANES (18 R488): the console runs PRBS31 on every lane of a port in a chosen loop. -/
  | selftestLanes (chars : List Byte) (cut : Bool) (errs : List Nat) (ev : BootEv) (at_ : Nat)
  /-- SELFTEST_PORT (18 R488): the console brings a port up and eye-scans each lane. -/
  | selftestPort (chars : List Byte) (cut : Bool) (up : Bool) (bad : List Nat) (ev : BootEv) (at_ : Nat)
  /-- SELFTEST_PUMPS (18 R490): the console runs the self-test on every pump not retired and prints vector 7. -/
  | selftestPumps (cut : Bool) (fails : List (Nat × Nat)) (vec : List Nat) (ev : BootEv) (line : Typed)
  /-- SELFTEST_CISTERNS (18 R488): the console pattern-tests free cistern lines, or every line in service state. -/
  | selftestCisterns (cut : Bool) (bad : List Nat) (line : Typed)
  /-- SELFTEST_HBM (18 R488): the console runs a four-pass march on one HBM4 stack. -/
  | selftestHbm (chars : List Byte) (cut : Bool) (corr : Nat) (unc : Nat) (at_ : Nat)
  /-- SELFTEST_DIMM (18 R488): the console reads SPD and runs a four-pass march on one DIMM. -/
  | selftestDimm (chars : List Byte) (cut : Bool) (corr : Nat) (unc : Nat) (at_ : Nat)
  /-- SELFTEST_WELL (18 R488): the console tests reads, writes, atomics and mirror fallback through the local station. -/
  | selftestWell (cut : Bool) (bad : List Nat) (line : Typed)
  /-- SELFTEST_SYNC (18 R488): the console tests every sync object in each type. -/
  | selftestSync (cut : Bool) (bad : List Nat) (line : Typed)
  /-- SELFTEST_ROOMS (18 R488): the console writes, commits and reads back test rooms. -/
  | selftestRooms (cut : Bool) (bad : List Nat) (line : Typed)
  /-- SELFTEST_GROUP (18 R488): the console declares test group 0x010 by shape and checks the abort path. -/
  | selftestGroup (cut : Bool) (ok : Bool) (ev : BootEv) (line : Typed)
  /-- REFCLK_RETURN (11 R313): the reference clock returns, so the PLLs lock and ports restart through DETECT, or a chip held at
  PERST_N release leaves reset. -/
  | refclkReturn (ev : BootEv) (at_ : Nat)
  /-- ALIVE_TOGGLE (15 R421): every 500 µs derived from REFCLK, ALIVE toggles while its conditions hold. -/
  | aliveToggle (at_ : Nat)
  /-- ROM_LINE_REPEAT (18 R482): in HALTED or RECOVERY the boot ROM repeats its last console line every 10 s. -/
  | romLineRepeat (at_ : Nat)
  /-- REORDER_HOLD_EXPIRE (11 R326): A packet held back by reorder injection is released after waiting at most 10 µs. -/
  | reorderHoldExpire (lp : Nat) (vc : Nat) (at_ : Nat)
  /-- ALWAYS_ON_SUPPLY_UP (18 R479): VDD_AON and VDD_3V3 rise, so ATEST drives the bandgap and the THERMTRIP_N and EPO_N paths
  come live while PERST_N is still low. -/
  | alwaysOnSupplyUp (at_ : Nat)
  /-- SUPPLY_REMOVAL (16 R457): the package supplies are removed, which releases THERMTRIP_N and loses all state except the
  flash. -/
  | supplyRemoval (at_ : Nat)
  /-- DOE_DISCOVERY (12 R330): A DOE Discovery request on the DOE mailbox is answered. -/
  | doeDiscovery (index : Nat) (at_ : Nat)
  /-- CONSOLE_UNKNOWN_COMMAND (18 R483): A console line that names no command is answered with ERR 0x01. -/
  | consoleUnknownCommand (line : Typed)
  /-- MAILBOX_UNKNOWN_CMD (14 R409): A mailbox request with an unknown CMD is answered with STATUS 0x01. -/
  | mailboxUnknownCmd (mb : Nat) (at_ : Nat)
  /-- VENDOR_UNKNOWN_CMD (12 R358): A vendor-defined register access message with an unknown CMD is answered with CC 0x05. -/
  | vendorUnknownCmd (pcie : Bool) (cmd : Nat) (tag : Nat) (off : Nat) (at_ : Nat)
  /-- PLDM_FIRMWARE_TRANSFER (14 R407): during a PLDM update, component data received in the transfer is written into the slot
  not running. -/
  | pldmFirmwareTransfer (pcie : Bool) (off : Nat) (data : List Byte) (ok : Bool) (at_ : Nat)
  deriving DecidableEq, Repr

end Sys2Proof
end

