-- ==== Sys2Proof/Decode.lean ====
section
/-! DEFINITION. The word form of commands. No row of spec/opcode_table.json gives bits: its commands are events, writes and
packets, which no numbered word spells. -/

namespace Sys2Proof

/-- The command that a word spells by the table's bits: none, since no row of the table has any. -/
def decodeTableWord (_nbits _w : Nat) : Option Instr := none

end Sys2Proof
end

