-- ==== Sys2Proof/Config.lean ====
section
/-! DEFINITION. What the spec leaves open, as constants without a value: nothing can be proved about what they answer
(logs 2, 10, 11, 16, 23, 28, 76 to 79, 101). -/

namespace Sys2Proof

/-- The n-th draw of the chip's random source (04 R107, 11 R326): 32 bits, unconstrained. -/
opaque Config.draw : Nat → BitVec 32

/-- The n-th value the spec leaves undefined, as a byte. -/
opaque Config.freeByte : Nat → Byte

/-- The n-th value the spec leaves open, as a number. -/
opaque Config.freeNat : Nat → Nat

/-- SHA-384 (14 R391, R393, R408): 48 bytes. -/
opaque Config.sha384 : List Byte → List Byte

/-- ECDSA P-384 signature check of 14 R391: key, message, signature. -/
opaque Config.ecdsaOk : List Byte → List Byte → List Byte → Bool

/-- The signature the device makes with a key (14 R408): key name, message. -/
opaque Config.ecdsaSign : List Byte → List Byte → List Byte

/-- The hash of the root key burnt in (14 R391): which of the two, maker or owner. -/
opaque Config.rootKeyHash : Nat → List Byte

/-- The public key of this chip's DeviceID, whose hash DEVID_HASH names (14 R393, R397). -/
opaque Config.deviceIdPub : List Byte

/-- The boot ROM's content (14 R408). -/
opaque Config.bootRom : List Byte

/-- What the PUF's SRAM reads after power-up, and the seed that is reconstructed from it with helper data (14 R397). -/
opaque Config.pufSram : List Byte
opaque Config.pufSeed : List Byte → List Byte → List Byte

/-- HKDF-SHA-384 of a key with a label, and HMAC-SHA-384 with a key (14 R397). -/
opaque Config.hkdf : List Byte → List Byte → List Byte
opaque Config.hmac : List Byte → List Byte → List Byte

/-- The part of the Alias certificate that is signed, from the Alias private key (14 R397). -/
opaque Config.aliasTbs : List Byte → List Byte

/-- The MIPI manufacturer ID of Oxonfold (12 R356). -/
opaque Config.mipiId : BitVec 15

/-- The PCI Vendor ID of 12 R330. -/
opaque Config.vendorId : BitVec 16

/-- Byte strings that the spec names and does not give, by number (log 11): 1 BCR, 2 DCR, 3 the I3C
status word, 4 the vendor root certificate, 5 the SPDM responder's nonce, 6 MCTP completion data of a message type. -/
opaque Config.blob : Nat → List Byte

/-- The errors that a lane's running PRBS checker has counted when it is looked at (11 R325, log 76): the lane, the time. -/
opaque Config.prbs : Nat → Nat → Nat

/-- Whether the partner's transmitter of a link is in electrical idle at a time (11 R322, log 78). -/
opaque Config.partnerIdle : Nat → Nat → Bool

/-- The 300 check bits that RS(544,514) adds to the 5,140 message bits of a codeword (11 R302, log 79). -/
opaque Config.rsCheck : List Bool → BitVec 300

/-- The voltage in mV of a supply rail at its sense point (18 R487, 19 R496, log 101): the rail's index, the time. -/
opaque Config.railMv : Nat → Nat → Nat

/-- What a lane's receiver asks of the partner's pre tap and post tap in EQ at a time (11 R314, R317, log 28): REQ_POST + 4 × REQ_PRE. -/
opaque Config.tapRequest : Nat → Nat → Nat

/-- How many responses the station's injector holds beyond the first (04 R122, log 16). -/
opaque Config.injSlots : Nat

/-- How many ranks the children of a row spine cover in a two-stage group (08 R224): the entry does not say (log 23). -/
opaque Config.rowRanks : Nat → Nat

/-- How many of a group's ranks stand below a child of a spine, by group and child position (08 R224, log 23). -/
opaque Config.childRanks : Nat → Nat → Nat

/-- The lowest rank below a child of a spine, by group and child position (07 R203, log 23). -/
opaque Config.childLow : Nat → Nat → Nat

/-- Where in the host member's output the spec leaves a result's bytes (12 R346, log 121): the operation, the chunk, the result. -/
opaque Config.hostPlace : Nat → Nat → Nat → Nat

/-- Whether a read by hardware or software of the word at an offset finds a parity failure (13 R383, log 99): the offset, a draw. -/
opaque Config.softError : Nat → Nat → Bool

end Sys2Proof
end

