-- ==== Sys2Proof/Machine/Registers.lean ====
section
/-! DEFINITION. The register file's map: every register array of the spec by name, where it stands in BAR0 (13 R366),
and every field of it with its place, its access code (00 R19), its reset value and its Shadowed mark, as the register
tables of files 01 to 18 of spec/ give them. The text was made from those tables. -/

namespace Sys2Proof.Machine

/-- Every register array of BAR0, under the manual's own name. -/
inductive RegName where
  | GLB_ID
  | GLB_CMT
  | GLB_CMT_STAT
  | GLB_CMT_OFS
  | GLB_SEM
  | GLB_SEM_CFG
  | GLB_CFG_CRC_CTRL
  | GLB_CFG_CRC_REF
  | GLB_CFG_CRC_CUR
  | GLB_RST
  | GLB_RST_STAT
  | GLB_PLACE
  | GLB_HOST_PLACE
  | FLT_CTRL
  | FLT_STAT
  | FLT_GFIRST
  | FLT_PIN
  | FLT_SEVMAP
  | FLT_DA_CFG
  | FLT_DA_RELAY
  | FLT_DA_STAT
  | FLT_PEND
  | FLT_SRC_CFG
  | FLT_KSEV
  | FLT_CAP
  | PWR_CAP_HOST
  | PWR_CAP_RACK
  | PWR_LEASE
  | PWR_LEASE_LEFT
  | PWR_LOOP
  | PWR_BRK_CFG
  | PWR_BRK_STAT
  | PWR_BRK_REQ
  | PWR_THERM_CFG
  | PWR_COOL_CFG
  | PWR_TEMP
  | PWR_SENS_FAIL
  | PWR_STAT
  | PWR_LEVEL
  | PWR_MEAS
  | PWR_FTAB
  | PWR_ATEST
  | TIM_NOW_LO
  | TIM_NOW_HI
  | TIM_CTRL
  | TIM_STAT
  | TIM_DISC
  | TIM_TICK_ADJ
  | TIM_LOAD_LO
  | TIM_LOAD_HI
  | TIM_PHASE_ERR
  | TIM_IB
  | TIM_IB_DELAY
  | TIM_CMT_WHEN
  | TIM_CMT_AT_LO
  | TIM_CMT_AT_HI
  | TIM_CMT_STAT
  | TIM_TT_CTRL
  | TIM_TT_STAT
  | TIM_TT_PER
  | TIM_TT_PHASE
  | TIM_ADM_CFG
  | TIM_ADM_STAT
  | TIM_ADM_NEED
  | TIM_ADM_HAVE
  | TIM_RISK
  | TIM_ADM_TICK
  | TIM_WIN_A
  | TIM_WIN_B
  | TIM_GRP_A
  | TIM_GRP_B
  | HST_STAT
  | HST_CR
  | HST_CQ
  | MSIX_TABLE
  | MSIX_PBA
  | SWC_BANK_CTRL
  | SWC_BANK_STAT
  | SWC_BANK_CNT
  | SWC_BANK_HOLD
  | SWC_RB_CFG
  | SWC_RESEQ_TO
  | SWC_RTE_CTRL
  | SWC_RTE_SEED
  | SWC_RTE_RESLIM
  | SWC_QMARK
  | SWC_RB_OCC
  | SWC_FWD_A
  | SWC_FWD_B
  | SWC_PSET_A
  | SWC_PSET_B
  | SWC_MIR_CTRL
  | SWC_MIR_MATCH
  | SWC_MIR_MASK
  | PRT_CTRL
  | PRT_LINK_CFG
  | PRT_LSTAT
  | PRT_LERR
  | PRT_PEER
  | PRT_CRED
  | PRT_INJ
  | PRT_CELL_GAP
  | PRT_ARB
  | PRT_ARB_WT
  | PRT_PAUSE
  | LNK_STAT
  | LNK_CTRL
  | LNK_TXEQ
  | LNK_TXEQ_ACT
  | LNK_FEC_CORR
  | LNK_FEC_UNC
  | LNK_ESCAN
  | LNK_ESCAN_ERR
  | LNK_PRBS
  | LNK_PRBS_ERR
  | LNK_PRBS_BITS
  | GRP_CMD
  | GRP_CMD_STAT
  | GRP_SHAPE
  | GRP_SEQ_CFG
  | GRP_ABORT_LAST
  | GRP_ABORT_SEQ
  | GRP_ALG_CFG
  | GRP_PLANE_LIVE
  | GRP_ENT
  | GRP_RANK_A
  | GRP_RANK_B
  | GRP_QSTORE
  | PMP_STAT
  | PMP_CTRL
  | PMP_TEST
  | PMP_ERRCNT
  | PMP_CIST
  | PMP_POOL
  | PMP_CFG
  | PMP_FREQ
  | PMP_SCRUB
  | WEL_STAT
  | WEL_FAR_CFG
  | WEL_CFG
  | WEL_SCRUB
  | WEL_CTX_CFG
  | WEL_AP_BASE
  | WEL_HOT_CFG
  | WEL_WAIT_STAT
  | WEL_DEV
  | WEL_MIR
  | WEL_SO_CMD
  | WEL_SO_ARG0_LO
  | WEL_SO_ARG0_HI
  | WEL_SO_ARG1_LO
  | WEL_SO_ARG1_HI
  | WEL_SO_RES_LO
  | WEL_SO_RES_HI
  | WEL_SO_CSTAT
  | WEL_CTX_OPEN
  | WEL_HOT_CNT
  | WEL_FWD
  | WEL_SO
  | RMS_CFG
  | RMS_HB_CFG
  | RMS_HB_LATE
  | RMS_FENCE
  | RMS_CMT
  | RMS_ROOM
  | TEL_USER_EN
  | TEL_BW_CFG
  | TEL_RING_LO
  | TEL_RING_HI
  | TEL_RING_CFG
  | TEL_RING_WPTR
  | TEL_RING_RPTR
  | TEL_PER_CFG
  | TEL_PER_IVL
  | TEL_STAT
  | TEL_DROP
  | TEL_FILT
  | TEL_CNT
  | GMC_STAT
  | GMC_VER
  | GMC_SVN
  | GMC_MIN_SVN
  | GMC_CTRL
  | GMC_WDT
  | GMC_MB_CTRL
  | GMC_MB_REQ
  | GMC_MB_RSP
  deriving DecidableEq, Repr

/-- The field classes of 13 R374: `rw` plain control, `ctr` a counter, the rest as the access codes of 00 R19. -/
inductive Access where
  | rw | ro | wo | w1c | w1s | rws | sc | ctr
  deriving DecidableEq, Repr

/-- One field of a register array: its register, its word within one instance, its lowest bit, its width. -/
structure Field where
  reg : RegName
  word : Nat
  lsb : Nat
  width : Nat
  acc : Access
  reset : Nat
  shadowed : Bool
  deriving DecidableEq, Repr

/-- Where an array stands: the base offset, the (count, stride) of each index from the outermost in, and the number
of 32-bit words of one instance. -/
structure RegInfo where
  base : Nat
  dims : List (Nat × Nat)
  words : Nat
  deriving DecidableEq, Repr

/-- The layout of each array, from the line that stands above its table in the spec. -/
def regInfo : RegName → RegInfo
  | .GLB_ID => ⟨0x0, [], 1⟩
  | .GLB_CMT => ⟨0x10, [], 1⟩
  | .GLB_CMT_STAT => ⟨0x14, [], 1⟩
  | .GLB_CMT_OFS => ⟨0x18, [], 1⟩
  | .GLB_SEM => ⟨0x40, [], 1⟩
  | .GLB_SEM_CFG => ⟨0x44, [], 1⟩
  | .GLB_CFG_CRC_CTRL => ⟨0x50, [], 1⟩
  | .GLB_CFG_CRC_REF => ⟨0x54, [], 1⟩
  | .GLB_CFG_CRC_CUR => ⟨0x58, [], 1⟩
  | .GLB_RST => ⟨0x80, [], 1⟩
  | .GLB_RST_STAT => ⟨0x84, [], 1⟩
  | .GLB_PLACE => ⟨0x100, [], 1⟩
  | .GLB_HOST_PLACE => ⟨0x104, [], 1⟩
  | .FLT_CTRL => ⟨0x100000, [], 1⟩
  | .FLT_STAT => ⟨0x100004, [], 1⟩
  | .FLT_GFIRST => ⟨0x100008, [], 1⟩
  | .FLT_PIN => ⟨0x100010, [], 1⟩
  | .FLT_SEVMAP => ⟨0x100020, [(8, 0x4)], 1⟩
  | .FLT_DA_CFG => ⟨0x100080, [], 1⟩
  | .FLT_DA_RELAY => ⟨0x100084, [], 1⟩
  | .FLT_DA_STAT => ⟨0x100088, [], 1⟩
  | .FLT_PEND => ⟨0x100100, [(32, 0x4)], 1⟩
  | .FLT_SRC_CFG => ⟨0x110000, [(1024, 0x4)], 1⟩
  | .FLT_KSEV => ⟨0x111000, [(1024, 0x20)], 8⟩
  | .FLT_CAP => ⟨0x120000, [(1024, 0x20)], 8⟩
  | .PWR_CAP_HOST => ⟨0x200000, [], 1⟩
  | .PWR_CAP_RACK => ⟨0x200004, [], 1⟩
  | .PWR_LEASE => ⟨0x200008, [], 1⟩
  | .PWR_LEASE_LEFT => ⟨0x20000C, [], 1⟩
  | .PWR_LOOP => ⟨0x200010, [], 1⟩
  | .PWR_BRK_CFG => ⟨0x200014, [], 1⟩
  | .PWR_BRK_STAT => ⟨0x200018, [], 1⟩
  | .PWR_BRK_REQ => ⟨0x20001C, [], 1⟩
  | .PWR_THERM_CFG => ⟨0x200020, [], 1⟩
  | .PWR_COOL_CFG => ⟨0x200024, [], 1⟩
  | .PWR_TEMP => ⟨0x200028, [], 1⟩
  | .PWR_SENS_FAIL => ⟨0x20002C, [], 1⟩
  | .PWR_STAT => ⟨0x200030, [], 1⟩
  | .PWR_LEVEL => ⟨0x200034, [], 1⟩
  | .PWR_MEAS => ⟨0x200038, [], 1⟩
  | .PWR_FTAB => ⟨0x200040, [(8, 0x4)], 1⟩
  | .PWR_ATEST => ⟨0x200060, [], 1⟩
  | .TIM_NOW_LO => ⟨0x300000, [], 1⟩
  | .TIM_NOW_HI => ⟨0x300004, [], 1⟩
  | .TIM_CTRL => ⟨0x300008, [], 1⟩
  | .TIM_STAT => ⟨0x30000C, [], 1⟩
  | .TIM_DISC => ⟨0x300010, [], 1⟩
  | .TIM_TICK_ADJ => ⟨0x300014, [], 1⟩
  | .TIM_LOAD_LO => ⟨0x300018, [], 1⟩
  | .TIM_LOAD_HI => ⟨0x30001C, [], 1⟩
  | .TIM_PHASE_ERR => ⟨0x300020, [], 1⟩
  | .TIM_IB => ⟨0x300024, [], 1⟩
  | .TIM_IB_DELAY => ⟨0x300028, [], 1⟩
  | .TIM_CMT_WHEN => ⟨0x300040, [], 1⟩
  | .TIM_CMT_AT_LO => ⟨0x300044, [], 1⟩
  | .TIM_CMT_AT_HI => ⟨0x300048, [], 1⟩
  | .TIM_CMT_STAT => ⟨0x30004C, [], 1⟩
  | .TIM_TT_CTRL => ⟨0x300060, [], 1⟩
  | .TIM_TT_STAT => ⟨0x300064, [], 1⟩
  | .TIM_TT_PER => ⟨0x300068, [(2, 0x8)], 1⟩
  | .TIM_TT_PHASE => ⟨0x30006C, [(2, 0x8)], 1⟩
  | .TIM_ADM_CFG => ⟨0x300080, [], 1⟩
  | .TIM_ADM_STAT => ⟨0x300084, [], 1⟩
  | .TIM_ADM_NEED => ⟨0x300088, [], 1⟩
  | .TIM_ADM_HAVE => ⟨0x30008C, [], 1⟩
  | .TIM_RISK => ⟨0x300090, [], 1⟩
  | .TIM_ADM_TICK => ⟨0x300094, [], 1⟩
  | .TIM_WIN_A => ⟨0x310000, [(4096, 0x10)], 4⟩
  | .TIM_WIN_B => ⟨0x320000, [(4096, 0x10)], 4⟩
  | .TIM_GRP_A => ⟨0x330000, [(512, 0x10)], 4⟩
  | .TIM_GRP_B => ⟨0x332000, [(512, 0x10)], 4⟩
  | .HST_STAT => ⟨0x400000, [], 1⟩
  | .HST_CR => ⟨0x410000, [(128, 0x40)], 8⟩
  | .HST_CQ => ⟨0x420000, [(128, 0x40)], 8⟩
  | .MSIX_TABLE => ⟨0x440000, [(2048, 0x10)], 4⟩
  | .MSIX_PBA => ⟨0x448000, [(64, 0x4)], 1⟩
  | .SWC_BANK_CTRL => ⟨0x800010, [], 1⟩
  | .SWC_BANK_STAT => ⟨0x800014, [], 1⟩
  | .SWC_BANK_CNT => ⟨0x800018, [(2, 0x4)], 1⟩
  | .SWC_BANK_HOLD => ⟨0x800020, [], 1⟩
  | .SWC_RB_CFG => ⟨0x800024, [], 1⟩
  | .SWC_RESEQ_TO => ⟨0x800028, [], 1⟩
  | .SWC_RTE_CTRL => ⟨0x800030, [], 1⟩
  | .SWC_RTE_SEED => ⟨0x800034, [], 1⟩
  | .SWC_RTE_RESLIM => ⟨0x800038, [], 1⟩
  | .SWC_QMARK => ⟨0x800040, [(8, 0x4)], 1⟩
  | .SWC_RB_OCC => ⟨0x800100, [(80, 0x4)], 1⟩
  | .SWC_FWD_A => ⟨0x801000, [(512, 0x4)], 1⟩
  | .SWC_FWD_B => ⟨0x801800, [(512, 0x4)], 1⟩
  | .SWC_PSET_A => ⟨0x802000, [(32, 0x4)], 1⟩
  | .SWC_PSET_B => ⟨0x802080, [(32, 0x4)], 1⟩
  | .SWC_MIR_CTRL => ⟨0x803000, [(4, 0x10)], 1⟩
  | .SWC_MIR_MATCH => ⟨0x803004, [(4, 0x10)], 1⟩
  | .SWC_MIR_MASK => ⟨0x803008, [(4, 0x10)], 1⟩
  | .PRT_CTRL => ⟨0x1000000, [(80, 0x10000)], 1⟩
  | .PRT_LINK_CFG => ⟨0x1000004, [(80, 0x10000)], 1⟩
  | .PRT_LSTAT => ⟨0x1000100, [(80, 0x10000), (2, 0x80)], 1⟩
  | .PRT_LERR => ⟨0x1000104, [(80, 0x10000), (2, 0x80)], 1⟩
  | .PRT_PEER => ⟨0x1000108, [(80, 0x10000), (2, 0x80)], 1⟩
  | .PRT_CRED => ⟨0x1000120, [(80, 0x10000), (2, 0x80), (8, 0x4)], 1⟩
  | .PRT_INJ => ⟨0x1000140, [(80, 0x10000), (2, 0x80), (8, 0x4)], 1⟩
  | .PRT_CELL_GAP => ⟨0x1000400, [(80, 0x10000)], 1⟩
  | .PRT_ARB => ⟨0x1000410, [(80, 0x10000)], 1⟩
  | .PRT_ARB_WT => ⟨0x1000414, [(80, 0x10000)], 1⟩
  | .PRT_PAUSE => ⟨0x1000418, [(80, 0x10000)], 1⟩
  | .LNK_STAT => ⟨0x1800000, [(640, 0x1000)], 1⟩
  | .LNK_CTRL => ⟨0x1800004, [(640, 0x1000)], 1⟩
  | .LNK_TXEQ => ⟨0x1800008, [(640, 0x1000)], 1⟩
  | .LNK_TXEQ_ACT => ⟨0x180000C, [(640, 0x1000)], 1⟩
  | .LNK_FEC_CORR => ⟨0x1800010, [(640, 0x1000)], 1⟩
  | .LNK_FEC_UNC => ⟨0x1800014, [(640, 0x1000)], 1⟩
  | .LNK_ESCAN => ⟨0x1800018, [(640, 0x1000)], 1⟩
  | .LNK_ESCAN_ERR => ⟨0x180001C, [(640, 0x1000)], 1⟩
  | .LNK_PRBS => ⟨0x1800020, [(640, 0x1000)], 1⟩
  | .LNK_PRBS_ERR => ⟨0x1800024, [(640, 0x1000)], 1⟩
  | .LNK_PRBS_BITS => ⟨0x1800028, [(640, 0x1000)], 1⟩
  | .GRP_CMD => ⟨0x2000000, [], 1⟩
  | .GRP_CMD_STAT => ⟨0x2000004, [], 1⟩
  | .GRP_SHAPE => ⟨0x2000008, [], 1⟩
  | .GRP_SEQ_CFG => ⟨0x2000010, [], 1⟩
  | .GRP_ABORT_LAST => ⟨0x2000020, [], 1⟩
  | .GRP_ABORT_SEQ => ⟨0x2000024, [], 1⟩
  | .GRP_ALG_CFG => ⟨0x2000030, [], 1⟩
  | .GRP_PLANE_LIVE => ⟨0x2000034, [], 1⟩
  | .GRP_ENT => ⟨0x2040000, [(4096, 0x20)], 8⟩
  | .GRP_RANK_A => ⟨0x2080000, [(65536, 0x4)], 1⟩
  | .GRP_RANK_B => ⟨0x20C0000, [(65536, 0x4)], 1⟩
  | .GRP_QSTORE => ⟨0x2100000, [(32768, 0x40)], 16⟩
  | .PMP_STAT => ⟨0x2800000, [(168, 0x2000)], 1⟩
  | .PMP_CTRL => ⟨0x2800004, [(168, 0x2000)], 1⟩
  | .PMP_TEST => ⟨0x2800008, [(168, 0x2000)], 1⟩
  | .PMP_ERRCNT => ⟨0x280000C, [(168, 0x2000)], 1⟩
  | .PMP_CIST => ⟨0x2800010, [(168, 0x2000)], 1⟩
  | .PMP_POOL => ⟨0x2F00000, [], 1⟩
  | .PMP_CFG => ⟨0x2F00004, [], 1⟩
  | .PMP_FREQ => ⟨0x2F00008, [], 1⟩
  | .PMP_SCRUB => ⟨0x2F0000C, [], 1⟩
  | .WEL_STAT => ⟨0x3000000, [], 1⟩
  | .WEL_FAR_CFG => ⟨0x3000004, [], 1⟩
  | .WEL_CFG => ⟨0x3000008, [], 1⟩
  | .WEL_SCRUB => ⟨0x300000C, [], 1⟩
  | .WEL_CTX_CFG => ⟨0x3000010, [], 1⟩
  | .WEL_AP_BASE => ⟨0x3000014, [], 1⟩
  | .WEL_HOT_CFG => ⟨0x3000018, [], 1⟩
  | .WEL_WAIT_STAT => ⟨0x300001C, [], 1⟩
  | .WEL_DEV => ⟨0x3000040, [(20, 0x4)], 1⟩
  | .WEL_MIR => ⟨0x3000100, [(16, 0x10)], 4⟩
  | .WEL_SO_CMD => ⟨0x3000200, [], 1⟩
  | .WEL_SO_ARG0_LO => ⟨0x3000204, [], 1⟩
  | .WEL_SO_ARG0_HI => ⟨0x3000208, [], 1⟩
  | .WEL_SO_ARG1_LO => ⟨0x300020C, [], 1⟩
  | .WEL_SO_ARG1_HI => ⟨0x3000210, [], 1⟩
  | .WEL_SO_RES_LO => ⟨0x3000214, [], 1⟩
  | .WEL_SO_RES_HI => ⟨0x3000218, [], 1⟩
  | .WEL_SO_CSTAT => ⟨0x300021C, [], 1⟩
  | .WEL_CTX_OPEN => ⟨0x3000400, [(128, 0x4)], 1⟩
  | .WEL_HOT_CNT => ⟨0x3200000, [(65536, 0x4)], 1⟩
  | .WEL_FWD => ⟨0x3300000, [(4096, 0x8)], 2⟩
  | .WEL_SO => ⟨0x3400000, [(8192, 0x20)], 8⟩
  | .RMS_CFG => ⟨0x3800000, [], 1⟩
  | .RMS_HB_CFG => ⟨0x3800004, [], 1⟩
  | .RMS_HB_LATE => ⟨0x3800010, [(4, 0x4)], 1⟩
  | .RMS_FENCE => ⟨0x3800020, [(4, 0x4)], 1⟩
  | .RMS_CMT => ⟨0x3800100, [(64, 0x8)], 2⟩
  | .RMS_ROOM => ⟨0x3801000, [(128, 0x20)], 8⟩
  | .TEL_USER_EN => ⟨0x3C00004, [], 1⟩
  | .TEL_BW_CFG => ⟨0x3C00008, [], 1⟩
  | .TEL_RING_LO => ⟨0x3C00010, [], 1⟩
  | .TEL_RING_HI => ⟨0x3C00014, [], 1⟩
  | .TEL_RING_CFG => ⟨0x3C00018, [], 1⟩
  | .TEL_RING_WPTR => ⟨0x3C0001C, [], 1⟩
  | .TEL_RING_RPTR => ⟨0x3C00020, [], 1⟩
  | .TEL_PER_CFG => ⟨0x3C00024, [], 1⟩
  | .TEL_PER_IVL => ⟨0x3C00028, [], 1⟩
  | .TEL_STAT => ⟨0x3C0002C, [], 1⟩
  | .TEL_DROP => ⟨0x3C00030, [], 1⟩
  | .TEL_FILT => ⟨0x3C00100, [(16, 0x20)], 8⟩
  | .TEL_CNT => ⟨0x3C10000, [(200192, 0x8)], 2⟩
  | .GMC_STAT => ⟨0x3E00000, [], 1⟩
  | .GMC_VER => ⟨0x3E00004, [], 1⟩
  | .GMC_SVN => ⟨0x3E00008, [], 1⟩
  | .GMC_MIN_SVN => ⟨0x3E0000C, [], 1⟩
  | .GMC_CTRL => ⟨0x3E00010, [], 1⟩
  | .GMC_WDT => ⟨0x3E00014, [], 1⟩
  | .GMC_MB_CTRL => ⟨0x3E00100, [(2, 0x10)], 1⟩
  | .GMC_MB_REQ => ⟨0x3E10000, [(2, 0x2000), (1024, 0x4)], 1⟩
  | .GMC_MB_RSP => ⟨0x3E11000, [(2, 0x2000), (1024, 0x4)], 1⟩

namespace F

/-! GLB_ID: spec/13_register_model.md, beside R366. -/
def GLB_ID_PART : Field := ⟨.GLB_ID, 0, 16, 16, .ro, 0x1280, false⟩
def GLB_ID_STEP : Field := ⟨.GLB_ID, 0, 8, 8, .ro, 0x1, false⟩

/-! GLB_CMT: spec/13_register_model.md, beside R380. -/
def GLB_CMT_REVERT : Field := ⟨.GLB_CMT, 0, 1, 1, .sc, 0x0, false⟩
def GLB_CMT_ISSUE : Field := ⟨.GLB_CMT, 0, 0, 1, .sc, 0x0, false⟩

/-! GLB_CMT_STAT: spec/13_register_model.md, beside R380. -/
def GLB_CMT_STAT_RESULT : Field := ⟨.GLB_CMT_STAT, 0, 28, 4, .ro, 0x0, false⟩
def GLB_CMT_STAT_MASTER : Field := ⟨.GLB_CMT_STAT, 0, 26, 2, .ro, 0x0, false⟩
def GLB_CMT_STAT_CHECK : Field := ⟨.GLB_CMT_STAT, 0, 16, 8, .ro, 0x0, false⟩
def GLB_CMT_STAT_TAKEN : Field := ⟨.GLB_CMT_STAT, 0, 0, 16, .ro, 0x0, false⟩

/-! GLB_CMT_OFS: spec/13_register_model.md, beside R380. -/
def GLB_CMT_OFS_OFFSET : Field := ⟨.GLB_CMT_OFS, 0, 0, 26, .ro, 0x0, false⟩

/-! GLB_SEM: spec/12_host_interface.md, beside R360. -/
def GLB_SEM_HELD : Field := ⟨.GLB_SEM, 0, 31, 1, .ro, 0x0, false⟩
def GLB_SEM_GOT : Field := ⟨.GLB_SEM, 0, 30, 1, .ro, 0x0, false⟩
def GLB_SEM_HOLDER : Field := ⟨.GLB_SEM, 0, 28, 2, .ro, 0x0, false⟩
def GLB_SEM_DIRTY : Field := ⟨.GLB_SEM, 0, 27, 1, .ro, 0x0, false⟩
def GLB_SEM_REMAIN : Field := ⟨.GLB_SEM, 0, 8, 16, .ro, 0x0, false⟩
def GLB_SEM_RELEASE : Field := ⟨.GLB_SEM, 0, 0, 1, .wo, 0x0, false⟩

/-! GLB_SEM_CFG: spec/12_host_interface.md, beside R360. -/
def GLB_SEM_CFG_LEASE : Field := ⟨.GLB_SEM_CFG, 0, 0, 16, .rw, 0x3E8, false⟩

/-! GLB_CFG_CRC_CTRL: spec/13_register_model.md, beside R383. -/
def GLB_CFG_CRC_CTRL_EN : Field := ⟨.GLB_CFG_CRC_CTRL, 0, 31, 1, .rw, 0x0, true⟩
def GLB_CFG_CRC_CTRL_MISMATCH : Field := ⟨.GLB_CFG_CRC_CTRL, 0, 30, 1, .w1c, 0x0, false⟩
def GLB_CFG_CRC_CTRL_MCOUNT : Field := ⟨.GLB_CFG_CRC_CTRL, 0, 0, 16, .ctr, 0x0, false⟩

/-! GLB_CFG_CRC_REF: spec/13_register_model.md, beside R383. -/
def GLB_CFG_CRC_REF_REF : Field := ⟨.GLB_CFG_CRC_REF, 0, 0, 32, .rw, 0x0, true⟩

/-! GLB_CFG_CRC_CUR: spec/13_register_model.md, beside R383. -/
def GLB_CFG_CRC_CUR_CUR : Field := ⟨.GLB_CFG_CRC_CUR, 0, 0, 32, .ro, 0x0, false⟩

/-! GLB_RST: spec/15_faults_resets_failover.md, beside R432. -/
def GLB_RST_CORE_WARM : Field := ⟨.GLB_RST, 0, 31, 1, .sc, 0x0, false⟩
def GLB_RST_PUMP : Field := ⟨.GLB_RST, 0, 30, 1, .sc, 0x0, false⟩
def GLB_RST_POOL : Field := ⟨.GLB_RST, 0, 29, 1, .sc, 0x0, false⟩
def GLB_RST_PORT_GO : Field := ⟨.GLB_RST, 0, 28, 1, .sc, 0x0, false⟩
def GLB_RST_PORT : Field := ⟨.GLB_RST, 0, 0, 7, .wo, 0x0, false⟩

/-! GLB_RST_STAT: spec/15_faults_resets_failover.md, beside R432. -/
def GLB_RST_STAT_BUSY : Field := ⟨.GLB_RST_STAT, 0, 31, 1, .ro, 0x0, false⟩
def GLB_RST_STAT_LAST : Field := ⟨.GLB_RST_STAT, 0, 28, 3, .ro, 0x0, false⟩
def GLB_RST_STAT_BY_FLT : Field := ⟨.GLB_RST_STAT, 0, 27, 1, .ro, 0x0, false⟩
def GLB_RST_STAT_SRC : Field := ⟨.GLB_RST_STAT, 0, 16, 10, .ro, 0x0, false⟩
def GLB_RST_STAT_COUNT : Field := ⟨.GLB_RST_STAT, 0, 0, 16, .ro, 0x0, false⟩

/-! GLB_PLACE: spec/01_place_in_the_fabric.md, beside R26. -/
def GLB_PLACE_LOCK : Field := ⟨.GLB_PLACE, 0, 31, 1, .w1s, 0x0, false⟩
def GLB_PLACE_ROWS : Field := ⟨.GLB_PLACE, 0, 24, 4, .rw, 0x0, false⟩
def GLB_PLACE_COLS : Field := ⟨.GLB_PLACE, 0, 20, 4, .rw, 0x0, false⟩
def GLB_PLACE_SELF_EID : Field := ⟨.GLB_PLACE, 0, 0, 20, .rw, 0x0, false⟩

/-! GLB_HOST_PLACE: spec/01_place_in_the_fabric.md, beside R26. -/
def GLB_HOST_PLACE_HOST_EP_EN : Field := ⟨.GLB_HOST_PLACE, 0, 7, 1, .rw, 0x0, false⟩
def GLB_HOST_PLACE_HOST_NUM : Field := ⟨.GLB_HOST_PLACE, 0, 0, 7, .rw, 0x0, false⟩

/-! FLT_CTRL: spec/15_faults_resets_failover.md, beside R425. -/
def FLT_CTRL_SAFE_GO : Field := ⟨.FLT_CTRL, 0, 31, 1, .sc, 0x0, false⟩

/-! FLT_STAT: spec/15_faults_resets_failover.md, beside R425. -/
def FLT_STAT_SAFE : Field := ⟨.FLT_STAT, 0, 31, 1, .ro, 0x0, false⟩
def FLT_STAT_CAUSE : Field := ⟨.FLT_STAT, 0, 28, 3, .ro, 0x0, false⟩
def FLT_STAT_ALIVE_RUN : Field := ⟨.FLT_STAT, 0, 27, 1, .ro, 0x0, false⟩
def FLT_STAT_WHERE : Field := ⟨.FLT_STAT, 0, 0, 20, .ro, 0x0, false⟩

/-! FLT_GFIRST: spec/15_faults_resets_failover.md, beside R419. -/
def FLT_GFIRST_VALID : Field := ⟨.FLT_GFIRST, 0, 31, 1, .w1c, 0x0, false⟩
def FLT_GFIRST_SEV : Field := ⟨.FLT_GFIRST, 0, 28, 3, .ro, 0x0, false⟩
def FLT_GFIRST_KIND : Field := ⟨.FLT_GFIRST, 0, 22, 6, .ro, 0x0, false⟩
def FLT_GFIRST_SOURCE : Field := ⟨.FLT_GFIRST, 0, 12, 10, .ro, 0x0, false⟩

/-! FLT_PIN: spec/15_faults_resets_failover.md, beside R420. -/
def FLT_PIN_LATCH : Field := ⟨.FLT_PIN, 0, 31, 1, .w1c, 0x0, false⟩
def FLT_PIN_FORCE : Field := ⟨.FLT_PIN, 0, 30, 1, .rw, 0x0, false⟩
def FLT_PIN_LEVEL : Field := ⟨.FLT_PIN, 0, 29, 1, .ro, 0x0, false⟩

/-! FLT_SEVMAP: spec/15_faults_resets_failover.md, beside R417. -/
def FLT_SEVMAP_IRQ : Field := ⟨.FLT_SEVMAP, 0, 31, 1, .rw, 0x0, false⟩
def FLT_SEVMAP_SB : Field := ⟨.FLT_SEVMAP, 0, 30, 1, .rw, 0x0, false⟩
def FLT_SEVMAP_NMI : Field := ⟨.FLT_SEVMAP, 0, 29, 1, .rw, 0x0, false⟩
def FLT_SEVMAP_BLK : Field := ⟨.FLT_SEVMAP, 0, 28, 1, .rw, 0x0, false⟩
def FLT_SEVMAP_CHIP : Field := ⟨.FLT_SEVMAP, 0, 27, 1, .rw, 0x0, false⟩
def FLT_SEVMAP_PIN : Field := ⟨.FLT_SEVMAP, 0, 26, 1, .rw, 0x0, false⟩
def FLT_SEVMAP_VEC : Field := ⟨.FLT_SEVMAP, 0, 0, 11, .rw, 0x0, false⟩

/-! FLT_DA_CFG: spec/15_faults_resets_failover.md, beside R439. -/
def FLT_DA_CFG_HOLDOFF : Field := ⟨.FLT_DA_CFG, 0, 16, 16, .rw, 0x64, false⟩
def FLT_DA_CFG_HIVL : Field := ⟨.FLT_DA_CFG, 0, 0, 16, .rw, 0x64, false⟩

/-! FLT_DA_RELAY: spec/15_faults_resets_failover.md, beside R439. -/
def FLT_DA_RELAY_LP3 : Field := ⟨.FLT_DA_RELAY, 0, 24, 8, .rw, 0xFF, false⟩
def FLT_DA_RELAY_LP2 : Field := ⟨.FLT_DA_RELAY, 0, 16, 8, .rw, 0xFF, false⟩
def FLT_DA_RELAY_LP1 : Field := ⟨.FLT_DA_RELAY, 0, 8, 8, .rw, 0xFF, false⟩
def FLT_DA_RELAY_LP0 : Field := ⟨.FLT_DA_RELAY, 0, 0, 8, .rw, 0xFF, false⟩

/-! FLT_DA_STAT: spec/15_faults_resets_failover.md, beside R439. -/
def FLT_DA_STAT_SEQ_OK : Field := ⟨.FLT_DA_STAT, 0, 31, 1, .ro, 0x0, false⟩
def FLT_DA_STAT_OWN_ACT : Field := ⟨.FLT_DA_STAT, 0, 30, 1, .ro, 0x0, false⟩
def FLT_DA_STAT_COVER_ACT : Field := ⟨.FLT_DA_STAT, 0, 29, 1, .ro, 0x0, false⟩
def FLT_DA_STAT_RESIGNED : Field := ⟨.FLT_DA_STAT, 0, 28, 1, .ro, 0x0, false⟩
def FLT_DA_STAT_TAKEBACK : Field := ⟨.FLT_DA_STAT, 0, 27, 1, .ro, 0x0, false⟩
def FLT_DA_STAT_P_SEEN : Field := ⟨.FLT_DA_STAT, 0, 26, 1, .ro, 0x0, false⟩
def FLT_DA_STAT_P_FLAGS : Field := ⟨.FLT_DA_STAT, 0, 20, 6, .ro, 0x0, false⟩
def FLT_DA_STAT_HOLD_LEFT : Field := ⟨.FLT_DA_STAT, 0, 0, 16, .ro, 0x0, false⟩

/-! FLT_PEND: spec/15_faults_resets_failover.md, beside R417. -/
def FLT_PEND_PEND : Field := ⟨.FLT_PEND, 0, 0, 32, .ro, 0x0, false⟩

/-! FLT_SRC_CFG: spec/15_faults_resets_failover.md, beside R417. -/
def FLT_SRC_CFG_EN : Field := ⟨.FLT_SRC_CFG, 0, 31, 1, .rw, 0x1, false⟩
def FLT_SRC_CFG_PEND : Field := ⟨.FLT_SRC_CFG, 0, 30, 1, .w1c, 0x0, false⟩
def FLT_SRC_CFG_SEV : Field := ⟨.FLT_SRC_CFG, 0, 27, 3, .rw, 0x2, false⟩
def FLT_SRC_CFG_PSEV : Field := ⟨.FLT_SRC_CFG, 0, 24, 3, .ro, 0x0, false⟩

/-! FLT_CAP: spec/15_faults_resets_failover.md, beside R419. -/
def FLT_CAP_VALID : Field := ⟨.FLT_CAP, 0, 31, 1, .w1c, 0x0, false⟩
def FLT_CAP_SEV : Field := ⟨.FLT_CAP, 0, 28, 3, .ro, 0x0, false⟩
def FLT_CAP_KIND : Field := ⟨.FLT_CAP, 0, 22, 6, .ro, 0x0, false⟩
def FLT_CAP_MASTER : Field := ⟨.FLT_CAP, 0, 19, 3, .ro, 0x0, false⟩
def FLT_CAP_ACCESS : Field := ⟨.FLT_CAP, 0, 16, 3, .ro, 0x0, false⟩
def FLT_CAP_PORT : Field := ⟨.FLT_CAP, 0, 8, 8, .ro, 0x0, false⟩
def FLT_CAP_ADDR_LO : Field := ⟨.FLT_CAP, 1, 0, 32, .ro, 0x0, false⟩
def FLT_CAP_ADDR_HI : Field := ⟨.FLT_CAP, 2, 0, 16, .ro, 0x0, false⟩
def FLT_CAP_TIME_LO : Field := ⟨.FLT_CAP, 3, 0, 32, .ro, 0x0, false⟩
def FLT_CAP_TIME_HI : Field := ⟨.FLT_CAP, 4, 0, 32, .ro, 0x0, false⟩
def FLT_CAP_COUNT : Field := ⟨.FLT_CAP, 5, 0, 32, .ctr, 0x0, false⟩
def FLT_CAP_LAST_KIND : Field := ⟨.FLT_CAP, 6, 26, 6, .ro, 0x0, false⟩

/-! PWR_CAP_HOST: spec/16_power_and_thermal.md, beside R446. -/
def PWR_CAP_HOST_CAP : Field := ⟨.PWR_CAP_HOST, 0, 0, 16, .rw, 0x0, false⟩

/-! PWR_CAP_RACK: spec/16_power_and_thermal.md, beside R446. -/
def PWR_CAP_RACK_CAP : Field := ⟨.PWR_CAP_RACK, 0, 0, 16, .rw, 0x0, false⟩

/-! PWR_LEASE: spec/16_power_and_thermal.md, beside R446. -/
def PWR_LEASE_LEASE : Field := ⟨.PWR_LEASE, 0, 16, 16, .rw, 0x12C, false⟩
def PWR_LEASE_FALLBACK : Field := ⟨.PWR_LEASE, 0, 0, 16, .rw, 0x3D4, false⟩

/-! PWR_LEASE_LEFT: spec/16_power_and_thermal.md, beside R446. -/
def PWR_LEASE_LEFT_LEFT : Field := ⟨.PWR_LEASE_LEFT, 0, 0, 16, .ro, 0x0, false⟩

/-! PWR_LOOP: spec/16_power_and_thermal.md, beside R449. -/
def PWR_LOOP_PSTEP_U : Field := ⟨.PWR_LOOP, 0, 24, 8, .rw, 0x8, false⟩
def PWR_LOOP_PSTEP_F : Field := ⟨.PWR_LOOP, 0, 16, 8, .rw, 0x3, false⟩
def PWR_LOOP_HYST : Field := ⟨.PWR_LOOP, 0, 8, 8, .rw, 0x14, false⟩
def PWR_LOOP_U_MIN : Field := ⟨.PWR_LOOP, 0, 0, 7, .rw, 0x10, false⟩

/-! PWR_BRK_CFG: spec/16_power_and_thermal.md, beside R453. -/
def PWR_BRK_CFG_BRK_F : Field := ⟨.PWR_BRK_CFG, 0, 20, 12, .rw, 0x3E8, false⟩
def PWR_BRK_CFG_BRK_HOLD : Field := ⟨.PWR_BRK_CFG, 0, 16, 4, .rw, 0x5, false⟩
def PWR_BRK_CFG_BRK_MARGIN : Field := ⟨.PWR_BRK_CFG, 0, 8, 8, .rw, 0x32, false⟩
def PWR_BRK_CFG_BRK_U : Field := ⟨.PWR_BRK_CFG, 0, 0, 7, .rw, 0x20, false⟩

/-! PWR_BRK_STAT: spec/16_power_and_thermal.md, beside R453. -/
def PWR_BRK_STAT_PIN : Field := ⟨.PWR_BRK_STAT, 0, 31, 1, .ro, 0x0, false⟩
def PWR_BRK_STAT_COOL : Field := ⟨.PWR_BRK_STAT, 0, 30, 1, .ro, 0x0, false⟩
def PWR_BRK_STAT_UV : Field := ⟨.PWR_BRK_STAT, 0, 29, 1, .ro, 0x0, false⟩
def PWR_BRK_STAT_CAPDROP : Field := ⟨.PWR_BRK_STAT, 0, 28, 1, .ro, 0x0, false⟩
def PWR_BRK_STAT_LEAK : Field := ⟨.PWR_BRK_STAT, 0, 27, 1, .ro, 0x0, false⟩
def PWR_BRK_STAT_TOPER : Field := ⟨.PWR_BRK_STAT, 0, 26, 1, .ro, 0x0, false⟩
def PWR_BRK_STAT_HOST_REQ : Field := ⟨.PWR_BRK_STAT, 0, 25, 1, .ro, 0x0, false⟩
def PWR_BRK_STAT_RACK_REQ : Field := ⟨.PWR_BRK_STAT, 0, 24, 1, .ro, 0x0, false⟩
def PWR_BRK_STAT_COUNT : Field := ⟨.PWR_BRK_STAT, 0, 0, 16, .ctr, 0x0, false⟩

/-! PWR_BRK_REQ: spec/16_power_and_thermal.md, beside R453. -/
def PWR_BRK_REQ_RACK_REQ : Field := ⟨.PWR_BRK_REQ, 0, 1, 1, .rw, 0x0, false⟩
def PWR_BRK_REQ_HOST_REQ : Field := ⟨.PWR_BRK_REQ, 0, 0, 1, .rw, 0x0, false⟩

/-! PWR_THERM_CFG: spec/16_power_and_thermal.md, beside R457. -/
def PWR_THERM_CFG_T_SHUT : Field := ⟨.PWR_THERM_CFG, 0, 24, 8, .rw, 0x6E, false⟩
def PWR_THERM_CFG_T_OPER : Field := ⟨.PWR_THERM_CFG, 0, 16, 8, .rw, 0x69, false⟩
def PWR_THERM_CFG_T_THR : Field := ⟨.PWR_THERM_CFG, 0, 8, 8, .rw, 0x5F, false⟩
def PWR_THERM_CFG_INLET_MAX : Field := ⟨.PWR_THERM_CFG, 0, 0, 8, .rw, 0x2D, false⟩

/-! PWR_COOL_CFG: spec/16_power_and_thermal.md, beside R460. -/
def PWR_COOL_CFG_CF_SHUT : Field := ⟨.PWR_COOL_CFG, 0, 16, 16, .rw, 0x64, false⟩
def PWR_COOL_CFG_KFLOW : Field := ⟨.PWR_COOL_CFG, 0, 8, 8, .rw, 0x46, false⟩

/-! PWR_TEMP: spec/16_power_and_thermal.md, beside R457. -/
def PWR_TEMP_TJ_MAX : Field := ⟨.PWR_TEMP, 0, 24, 8, .ro, 0x0, false⟩
def PWR_TEMP_T_IN : Field := ⟨.PWR_TEMP, 0, 16, 8, .ro, 0x0, false⟩
def PWR_TEMP_T_OUT : Field := ⟨.PWR_TEMP, 0, 8, 8, .ro, 0x0, false⟩
def PWR_TEMP_HOT : Field := ⟨.PWR_TEMP, 0, 0, 8, .ro, 0x0, false⟩

/-! PWR_SENS_FAIL: spec/16_power_and_thermal.md, beside R460. -/
def PWR_SENS_FAIL_FAILED : Field := ⟨.PWR_SENS_FAIL, 0, 0, 23, .ro, 0x0, false⟩

/-! PWR_STAT: spec/16_power_and_thermal.md, beside R446. -/
def PWR_STAT_EFF_CAP : Field := ⟨.PWR_STAT, 0, 16, 16, .ro, 0x578, false⟩
def PWR_STAT_BIND : Field := ⟨.PWR_STAT, 0, 13, 3, .ro, 0x0, false⟩
def PWR_STAT_LEASE_OK : Field := ⟨.PWR_STAT, 0, 12, 1, .ro, 0x0, false⟩
def PWR_STAT_BRAKE : Field := ⟨.PWR_STAT, 0, 11, 1, .ro, 0x0, false⟩
def PWR_STAT_OVERRUN : Field := ⟨.PWR_STAT, 0, 10, 1, .ro, 0x0, false⟩
def PWR_STAT_THROT : Field := ⟨.PWR_STAT, 0, 9, 1, .ro, 0x0, false⟩

/-! PWR_LEVEL: spec/16_power_and_thermal.md, beside R449. -/
def PWR_LEVEL_F_NOW : Field := ⟨.PWR_LEVEL, 0, 20, 12, .ro, 0x7D0, false⟩
def PWR_LEVEL_F_CAP : Field := ⟨.PWR_LEVEL, 0, 8, 12, .ro, 0x7D0, false⟩
def PWR_LEVEL_U_NOW : Field := ⟨.PWR_LEVEL, 0, 0, 7, .ro, 0x40, false⟩

/-! PWR_MEAS: spec/16_power_and_thermal.md, beside R449. -/
def PWR_MEAS_P : Field := ⟨.PWR_MEAS, 0, 16, 16, .ro, 0x0, false⟩
def PWR_MEAS_P_T : Field := ⟨.PWR_MEAS, 0, 0, 16, .ro, 0x578, false⟩

/-! PWR_FTAB: spec/16_power_and_thermal.md, beside R447. -/
def PWR_FTAB_CAP : Field := ⟨.PWR_FTAB, 0, 16, 16, .rw, 0x0, true⟩
def PWR_FTAB_F : Field := ⟨.PWR_FTAB, 0, 0, 12, .rw, 0x0, true⟩

/-! PWR_ATEST: spec/18_field_service.md, beside R486. -/
def PWR_ATEST_SEL : Field := ⟨.PWR_ATEST, 0, 16, 3, .rw, 0x1, false⟩
def PWR_ATEST_IDX : Field := ⟨.PWR_ATEST, 0, 0, 8, .rw, 0x0, false⟩

/-! TIM_NOW_LO: spec/05_fabric_time_and_timetables.md, beside R127. -/
def TIM_NOW_LO_NOW : Field := ⟨.TIM_NOW_LO, 0, 0, 32, .ro, 0x0, false⟩

/-! TIM_NOW_HI: spec/05_fabric_time_and_timetables.md, beside R127. -/
def TIM_NOW_HI_NOW : Field := ⟨.TIM_NOW_HI, 0, 0, 32, .ro, 0x0, false⟩

/-! TIM_CTRL: spec/05_fabric_time_and_timetables.md, beside R127. -/
def TIM_CTRL_LATE_FLT : Field := ⟨.TIM_CTRL, 0, 7, 1, .rw, 0x0, false⟩
def TIM_CTRL_NEXT_TT : Field := ⟨.TIM_CTRL, 0, 6, 1, .rw, 0x0, true⟩
def TIM_CTRL_INVAL : Field := ⟨.TIM_CTRL, 0, 5, 1, .sc, 0x0, false⟩
def TIM_CTRL_LOAD_ARM : Field := ⟨.TIM_CTRL, 0, 4, 1, .sc, 0x0, false⟩
def TIM_CTRL_SSC : Field := ⟨.TIM_CTRL, 0, 3, 1, .rw, 0x0, false⟩
def TIM_CTRL_SRC : Field := ⟨.TIM_CTRL, 0, 0, 2, .rw, 0x0, false⟩

/-! TIM_STAT: spec/05_fabric_time_and_timetables.md, beside R127. -/
def TIM_STAT_SLIP : Field := ⟨.TIM_STAT, 0, 7, 1, .w1c, 0x0, false⟩
def TIM_STAT_STEPPED : Field := ⟨.TIM_STAT, 0, 6, 1, .w1c, 0x0, false⟩
def TIM_STAT_HOLDOVER : Field := ⟨.TIM_STAT, 0, 5, 1, .ro, 0x0, false⟩
def TIM_STAT_VALID : Field := ⟨.TIM_STAT, 0, 4, 1, .ro, 0x0, false⟩

/-! TIM_DISC: spec/05_fabric_time_and_timetables.md, beside R132. -/
def TIM_DISC_LOSS_N : Field := ⟨.TIM_DISC, 0, 24, 8, .rw, 0x4, false⟩
def TIM_DISC_SLEW_MAX : Field := ⟨.TIM_DISC, 0, 16, 8, .rw, 0x2, false⟩
def TIM_DISC_STEP_THR : Field := ⟨.TIM_DISC, 0, 0, 16, .rw, 0x32, false⟩

/-! TIM_TICK_ADJ: spec/05_fabric_time_and_timetables.md, beside R132. -/
def TIM_TICK_ADJ_ADJ : Field := ⟨.TIM_TICK_ADJ, 0, 0, 16, .rw, 0x0, false⟩

/-! TIM_LOAD_LO: spec/05_fabric_time_and_timetables.md, beside R132. -/
def TIM_LOAD_LO_LOAD : Field := ⟨.TIM_LOAD_LO, 0, 0, 32, .rw, 0x0, false⟩

/-! TIM_LOAD_HI: spec/05_fabric_time_and_timetables.md, beside R132. -/
def TIM_LOAD_HI_LOAD : Field := ⟨.TIM_LOAD_HI, 0, 0, 32, .rw, 0x0, false⟩

/-! TIM_PHASE_ERR: spec/05_fabric_time_and_timetables.md, beside R132. -/
def TIM_PHASE_ERR_ERR : Field := ⟨.TIM_PHASE_ERR, 0, 0, 32, .ro, 0x0, false⟩

/-! TIM_IB: spec/05_fabric_time_and_timetables.md, beside R136. -/
def TIM_IB_RELAY_LP : Field := ⟨.TIM_IB, 0, 16, 8, .rw, 0x0, false⟩
def TIM_IB_SYNC_IVL : Field := ⟨.TIM_IB, 0, 0, 16, .rw, 0x10, false⟩

/-! TIM_IB_DELAY: spec/05_fabric_time_and_timetables.md, beside R136. -/
def TIM_IB_DELAY_DELAY : Field := ⟨.TIM_IB_DELAY, 0, 0, 16, .ro, 0x0, false⟩

/-! TIM_CMT_WHEN: spec/05_fabric_time_and_timetables.md, beside R148. -/
def TIM_CMT_WHEN_CANCEL : Field := ⟨.TIM_CMT_WHEN, 0, 2, 1, .sc, 0x0, false⟩
def TIM_CMT_WHEN_MODE : Field := ⟨.TIM_CMT_WHEN, 0, 0, 2, .rw, 0x0, false⟩

/-! TIM_CMT_AT_LO: spec/05_fabric_time_and_timetables.md, beside R148. -/
def TIM_CMT_AT_LO_AT : Field := ⟨.TIM_CMT_AT_LO, 0, 0, 32, .rw, 0x0, false⟩

/-! TIM_CMT_AT_HI: spec/05_fabric_time_and_timetables.md, beside R148. -/
def TIM_CMT_AT_HI_AT : Field := ⟨.TIM_CMT_AT_HI, 0, 0, 32, .rw, 0x0, false⟩

/-! TIM_CMT_STAT: spec/05_fabric_time_and_timetables.md, beside R148. -/
def TIM_CMT_STAT_PENDING : Field := ⟨.TIM_CMT_STAT, 0, 31, 1, .ro, 0x0, false⟩
def TIM_CMT_STAT_RESULT : Field := ⟨.TIM_CMT_STAT, 0, 24, 4, .ro, 0x0, false⟩

/-! TIM_TT_CTRL: spec/05_fabric_time_and_timetables.md, beside R138. -/
def TIM_TT_CTRL_ADMIT_B : Field := ⟨.TIM_TT_CTRL, 0, 3, 1, .sc, 0x0, false⟩
def TIM_TT_CTRL_ADMIT_A : Field := ⟨.TIM_TT_CTRL, 0, 2, 1, .sc, 0x0, false⟩
def TIM_TT_CTRL_SEAL_B : Field := ⟨.TIM_TT_CTRL, 0, 1, 1, .sc, 0x0, false⟩
def TIM_TT_CTRL_SEAL_A : Field := ⟨.TIM_TT_CTRL, 0, 0, 1, .sc, 0x0, false⟩

/-! TIM_TT_STAT: spec/05_fabric_time_and_timetables.md, beside R138. -/
def TIM_TT_STAT_ACTIVE : Field := ⟨.TIM_TT_STAT, 0, 4, 1, .ro, 0x0, false⟩
def TIM_TT_STAT_STATE_B : Field := ⟨.TIM_TT_STAT, 0, 2, 2, .ro, 0x0, false⟩
def TIM_TT_STAT_STATE_A : Field := ⟨.TIM_TT_STAT, 0, 0, 2, .ro, 0x3, false⟩

/-! TIM_TT_PER: spec/05_fabric_time_and_timetables.md, beside R138. -/
def TIM_TT_PER_PERIOD : Field := ⟨.TIM_TT_PER, 0, 0, 17, .rw, 0x0, false⟩

/-! TIM_TT_PHASE: spec/05_fabric_time_and_timetables.md, beside R138. -/
def TIM_TT_PHASE_PHASE : Field := ⟨.TIM_TT_PHASE, 0, 0, 16, .rw, 0x0, false⟩

/-! TIM_ADM_CFG: spec/05_fabric_time_and_timetables.md, beside R144. -/
def TIM_ADM_CFG_HOP_T : Field := ⟨.TIM_ADM_CFG, 0, 28, 4, .rw, 0x2, false⟩
def TIM_ADM_CFG_CIST_RSV : Field := ⟨.TIM_ADM_CFG, 0, 0, 18, .rw, 0xA000, false⟩

/-! TIM_ADM_STAT: spec/05_fabric_time_and_timetables.md, beside R144. -/
def TIM_ADM_STAT_BUSY : Field := ⟨.TIM_ADM_STAT, 0, 31, 1, .ro, 0x0, false⟩
def TIM_ADM_STAT_BANK : Field := ⟨.TIM_ADM_STAT, 0, 30, 1, .ro, 0x0, false⟩
def TIM_ADM_STAT_RESULT : Field := ⟨.TIM_ADM_STAT, 0, 24, 4, .ro, 0x0, false⟩
def TIM_ADM_STAT_LP : Field := ⟨.TIM_ADM_STAT, 0, 16, 8, .ro, 0x0, false⟩
def TIM_ADM_STAT_VC : Field := ⟨.TIM_ADM_STAT, 0, 13, 3, .ro, 0x0, false⟩
def TIM_ADM_STAT_GID : Field := ⟨.TIM_ADM_STAT, 0, 0, 12, .ro, 0x0, false⟩

/-! TIM_ADM_NEED: spec/05_fabric_time_and_timetables.md, beside R144. -/
def TIM_ADM_NEED_NEED : Field := ⟨.TIM_ADM_NEED, 0, 0, 32, .ro, 0x0, false⟩

/-! TIM_ADM_HAVE: spec/05_fabric_time_and_timetables.md, beside R144. -/
def TIM_ADM_HAVE_HAVE : Field := ⟨.TIM_ADM_HAVE, 0, 0, 32, .ro, 0x0, false⟩

/-! TIM_RISK: spec/05_fabric_time_and_timetables.md, beside R144. -/
def TIM_RISK_AT_RISK : Field := ⟨.TIM_RISK, 0, 31, 1, .ro, 0x0, false⟩
def TIM_RISK_RESULT : Field := ⟨.TIM_RISK, 0, 24, 4, .ro, 0x0, false⟩
def TIM_RISK_LP : Field := ⟨.TIM_RISK, 0, 16, 8, .ro, 0x0, false⟩
def TIM_RISK_VC : Field := ⟨.TIM_RISK, 0, 13, 3, .ro, 0x0, false⟩
def TIM_RISK_GID : Field := ⟨.TIM_RISK, 0, 0, 12, .ro, 0x0, false⟩

/-! TIM_ADM_TICK: spec/05_fabric_time_and_timetables.md, beside R144. -/
def TIM_ADM_TICK_OFFSET : Field := ⟨.TIM_ADM_TICK, 0, 0, 16, .ro, 0x0, false⟩

/-! TIM_WIN_A: spec/05_fabric_time_and_timetables.md, beside R138. -/
def TIM_WIN_A_VALID : Field := ⟨.TIM_WIN_A, 0, 31, 1, .rw, 0x0, false⟩
def TIM_WIN_A_GV : Field := ⟨.TIM_WIN_A, 0, 30, 1, .rw, 0x0, false⟩
def TIM_WIN_A_VC : Field := ⟨.TIM_WIN_A, 0, 27, 3, .rw, 0x0, false⟩
def TIM_WIN_A_LP : Field := ⟨.TIM_WIN_A, 0, 16, 8, .rw, 0x0, false⟩
def TIM_WIN_A_GID : Field := ⟨.TIM_WIN_A, 0, 0, 12, .rw, 0x0, false⟩
def TIM_WIN_A_START : Field := ⟨.TIM_WIN_A, 1, 16, 16, .rw, 0x0, false⟩
def TIM_WIN_A_LEN : Field := ⟨.TIM_WIN_A, 1, 0, 16, .rw, 0x0, false⟩
def TIM_WIN_A_LEN_HI : Field := ⟨.TIM_WIN_A, 2, 16, 1, .rw, 0x0, false⟩
def TIM_WIN_A_RATE : Field := ⟨.TIM_WIN_A, 2, 0, 12, .rw, 0x0, false⟩

/-! TIM_WIN_B: spec/05_fabric_time_and_timetables.md, beside R138. -/
def TIM_WIN_B_VALID : Field := ⟨.TIM_WIN_B, 0, 31, 1, .rw, 0x0, false⟩
def TIM_WIN_B_GV : Field := ⟨.TIM_WIN_B, 0, 30, 1, .rw, 0x0, false⟩
def TIM_WIN_B_VC : Field := ⟨.TIM_WIN_B, 0, 27, 3, .rw, 0x0, false⟩
def TIM_WIN_B_LP : Field := ⟨.TIM_WIN_B, 0, 16, 8, .rw, 0x0, false⟩
def TIM_WIN_B_GID : Field := ⟨.TIM_WIN_B, 0, 0, 12, .rw, 0x0, false⟩
def TIM_WIN_B_START : Field := ⟨.TIM_WIN_B, 1, 16, 16, .rw, 0x0, false⟩
def TIM_WIN_B_LEN : Field := ⟨.TIM_WIN_B, 1, 0, 16, .rw, 0x0, false⟩
def TIM_WIN_B_LEN_HI : Field := ⟨.TIM_WIN_B, 2, 16, 1, .rw, 0x0, false⟩
def TIM_WIN_B_RATE : Field := ⟨.TIM_WIN_B, 2, 0, 12, .rw, 0x0, false⟩

/-! TIM_GRP_A: spec/05_fabric_time_and_timetables.md, beside R138. -/
def TIM_GRP_A_VALID : Field := ⟨.TIM_GRP_A, 0, 31, 1, .rw, 0x0, false⟩
def TIM_GRP_A_STRICT : Field := ⟨.TIM_GRP_A, 0, 30, 1, .rw, 0x0, false⟩
def TIM_GRP_A_CIST_KIB : Field := ⟨.TIM_GRP_A, 0, 12, 18, .rw, 0x0, false⟩
def TIM_GRP_A_GID : Field := ⟨.TIM_GRP_A, 0, 0, 12, .rw, 0x0, false⟩
def TIM_GRP_A_START : Field := ⟨.TIM_GRP_A, 1, 16, 16, .rw, 0x0, false⟩
def TIM_GRP_A_DEADLINE : Field := ⟨.TIM_GRP_A, 1, 0, 16, .rw, 0x0, false⟩
def TIM_GRP_A_VOL : Field := ⟨.TIM_GRP_A, 2, 0, 32, .rw, 0x0, false⟩
def TIM_GRP_A_OPS : Field := ⟨.TIM_GRP_A, 3, 0, 24, .rw, 0x0, false⟩

/-! TIM_GRP_B: spec/05_fabric_time_and_timetables.md, beside R138. -/
def TIM_GRP_B_VALID : Field := ⟨.TIM_GRP_B, 0, 31, 1, .rw, 0x0, false⟩
def TIM_GRP_B_STRICT : Field := ⟨.TIM_GRP_B, 0, 30, 1, .rw, 0x0, false⟩
def TIM_GRP_B_CIST_KIB : Field := ⟨.TIM_GRP_B, 0, 12, 18, .rw, 0x0, false⟩
def TIM_GRP_B_GID : Field := ⟨.TIM_GRP_B, 0, 0, 12, .rw, 0x0, false⟩
def TIM_GRP_B_START : Field := ⟨.TIM_GRP_B, 1, 16, 16, .rw, 0x0, false⟩
def TIM_GRP_B_DEADLINE : Field := ⟨.TIM_GRP_B, 1, 0, 16, .rw, 0x0, false⟩
def TIM_GRP_B_VOL : Field := ⟨.TIM_GRP_B, 2, 0, 32, .rw, 0x0, false⟩
def TIM_GRP_B_OPS : Field := ⟨.TIM_GRP_B, 3, 0, 24, .rw, 0x0, false⟩

/-! HST_STAT: spec/12_host_interface.md, beside R334. -/
def HST_STAT_RECV : Field := ⟨.HST_STAT, 0, 16, 13, .ro, 0x0, false⟩
def HST_STAT_INFLIGHT : Field := ⟨.HST_STAT, 0, 0, 11, .ro, 0x0, false⟩

/-! HST_CR: spec/12_host_interface.md, beside R334. -/
def HST_CR_EN : Field := ⟨.HST_CR, 0, 31, 1, .rw, 0x0, false⟩
def HST_CR_STATE : Field := ⟨.HST_CR, 0, 29, 2, .ro, 0x0, false⟩
def HST_CR_ERR : Field := ⟨.HST_CR, 0, 26, 3, .ro, 0x0, false⟩
def HST_CR_LOG2N : Field := ⟨.HST_CR, 0, 16, 4, .rw, 0x0, false⟩
def HST_CR_CQ : Field := ⟨.HST_CR, 0, 0, 7, .rw, 0x0, false⟩
def HST_CR_BASE_LO : Field := ⟨.HST_CR, 1, 12, 20, .rw, 0x0, false⟩
def HST_CR_BASE_HI : Field := ⟨.HST_CR, 2, 0, 32, .rw, 0x0, false⟩
def HST_CR_KINDMASK : Field := ⟨.HST_CR, 3, 0, 16, .rw, 0x83FE, false⟩
def HST_CR_HEAD : Field := ⟨.HST_CR, 4, 0, 12, .ro, 0x0, false⟩
def HST_CR_TAIL : Field := ⟨.HST_CR, 5, 0, 12, .ro, 0x0, false⟩
def HST_CR_INFLIGHT : Field := ⟨.HST_CR, 6, 0, 11, .ro, 0x0, false⟩

/-! HST_CQ: spec/12_host_interface.md, beside R334. -/
def HST_CQ_EN : Field := ⟨.HST_CQ, 0, 31, 1, .rw, 0x0, false⟩
def HST_CQ_IRQ_EN : Field := ⟨.HST_CQ, 0, 30, 1, .rw, 0x0, false⟩
def HST_CQ_FULL : Field := ⟨.HST_CQ, 0, 29, 1, .ro, 0x0, false⟩
def HST_CQ_LOG2N : Field := ⟨.HST_CQ, 0, 16, 4, .rw, 0x0, false⟩
def HST_CQ_VEC : Field := ⟨.HST_CQ, 0, 0, 11, .rw, 0x0, false⟩
def HST_CQ_BASE_LO : Field := ⟨.HST_CQ, 1, 12, 20, .rw, 0x0, false⟩
def HST_CQ_BASE_HI : Field := ⟨.HST_CQ, 2, 0, 32, .rw, 0x0, false⟩
def HST_CQ_TMR : Field := ⟨.HST_CQ, 3, 16, 16, .rw, 0x0, false⟩
def HST_CQ_CNT : Field := ⟨.HST_CQ, 3, 0, 16, .rw, 0x0, false⟩
def HST_CQ_HEAD : Field := ⟨.HST_CQ, 4, 0, 12, .ro, 0x0, false⟩
def HST_CQ_PHASE : Field := ⟨.HST_CQ, 5, 31, 1, .ro, 0x1, false⟩
def HST_CQ_TAIL : Field := ⟨.HST_CQ, 5, 0, 12, .ro, 0x0, false⟩
def HST_CQ_HELD : Field := ⟨.HST_CQ, 6, 0, 11, .ro, 0x0, false⟩

/-! MSIX_TABLE: spec/12_host_interface.md, beside R355. -/
def MSIX_TABLE_ADDR_LO : Field := ⟨.MSIX_TABLE, 0, 2, 30, .rw, 0x0, false⟩
def MSIX_TABLE_ADDR_HI : Field := ⟨.MSIX_TABLE, 1, 0, 32, .rw, 0x0, false⟩
def MSIX_TABLE_DATA : Field := ⟨.MSIX_TABLE, 2, 0, 32, .rw, 0x0, false⟩
def MSIX_TABLE_MASK : Field := ⟨.MSIX_TABLE, 3, 0, 1, .rw, 0x1, false⟩

/-! MSIX_PBA: spec/12_host_interface.md, beside R355. -/
def MSIX_PBA_PEND : Field := ⟨.MSIX_PBA, 0, 0, 32, .ro, 0x0, false⟩

/-! SWC_BANK_CTRL: spec/03_switch_core.md, beside R88. -/
def SWC_BANK_CTRL_SEAL_B : Field := ⟨.SWC_BANK_CTRL, 0, 4, 1, .sc, 0x0, false⟩
def SWC_BANK_CTRL_SEAL_A : Field := ⟨.SWC_BANK_CTRL, 0, 3, 1, .sc, 0x0, false⟩
def SWC_BANK_CTRL_NEXT_ACTIVE : Field := ⟨.SWC_BANK_CTRL, 0, 0, 1, .rw, 0x0, true⟩

/-! SWC_BANK_STAT: spec/03_switch_core.md, beside R88. -/
def SWC_BANK_STAT_ACTIVE : Field := ⟨.SWC_BANK_STAT, 0, 4, 1, .ro, 0x0, false⟩
def SWC_BANK_STAT_STATE_B : Field := ⟨.SWC_BANK_STAT, 0, 2, 2, .ro, 0x0, false⟩
def SWC_BANK_STAT_STATE_A : Field := ⟨.SWC_BANK_STAT, 0, 0, 2, .ro, 0x2, false⟩

/-! SWC_BANK_CNT: spec/03_switch_core.md, beside R88. -/
def SWC_BANK_CNT_COUNT : Field := ⟨.SWC_BANK_CNT, 0, 0, 24, .ro, 0x0, false⟩

/-! SWC_BANK_HOLD: spec/03_switch_core.md, beside R88. -/
def SWC_BANK_HOLD_HOLD : Field := ⟨.SWC_BANK_HOLD, 0, 0, 16, .rw, 0x64, false⟩

/-! SWC_RB_CFG: spec/03_switch_core.md, beside R73. -/
def SWC_RB_CFG_OUT_CAP : Field := ⟨.SWC_RB_CFG, 0, 16, 16, .rw, 0x3000, true⟩
def SWC_RB_CFG_VC_RSV : Field := ⟨.SWC_RB_CFG, 0, 0, 12, .rw, 0x400, true⟩

/-! SWC_RESEQ_TO: spec/03_switch_core.md, beside R77. -/
def SWC_RESEQ_TO_TO : Field := ⟨.SWC_RESEQ_TO, 0, 0, 16, .rw, 0xC8, false⟩

/-! SWC_RTE_CTRL: spec/04_routing_and_flow_control.md, beside R112. -/
def SWC_RTE_CTRL_PIN_RSP : Field := ⟨.SWC_RTE_CTRL, 0, 2, 1, .rw, 0x0, true⟩
def SWC_RTE_CTRL_PIN_REQ : Field := ⟨.SWC_RTE_CTRL, 0, 1, 1, .rw, 0x0, true⟩
def SWC_RTE_CTRL_RND_VIA : Field := ⟨.SWC_RTE_CTRL, 0, 0, 1, .rw, 0x1, true⟩

/-! SWC_RTE_SEED: spec/04_routing_and_flow_control.md, beside R112. -/
def SWC_RTE_SEED_SEED : Field := ⟨.SWC_RTE_SEED, 0, 0, 32, .rw, 0xFFFFFFFF, true⟩

/-! SWC_RTE_RESLIM: spec/04_routing_and_flow_control.md, beside R115. -/
def SWC_RTE_RESLIM_RES_LIM : Field := ⟨.SWC_RTE_RESLIM, 0, 0, 16, .rw, 0xC8, false⟩

/-! SWC_QMARK: spec/03_switch_core.md, beside R100. -/
def SWC_QMARK_THR : Field := ⟨.SWC_QMARK, 0, 0, 16, .rw, 0x400, false⟩

/-! SWC_RB_OCC: spec/03_switch_core.md, beside R74. -/
def SWC_RB_OCC_CUR : Field := ⟨.SWC_RB_OCC, 0, 0, 16, .ro, 0x0, false⟩

/-! SWC_FWD_A: spec/03_switch_core.md, beside R80. -/
def SWC_FWD_A_VALID : Field := ⟨.SWC_FWD_A, 0, 31, 1, .rw, 0x0, false⟩
def SWC_FWD_A_ACT : Field := ⟨.SWC_FWD_A, 0, 28, 3, .rw, 0x0, false⟩
def SWC_FWD_A_PSET : Field := ⟨.SWC_FWD_A, 0, 16, 5, .rw, 0x0, false⟩
def SWC_FWD_A_LPORT : Field := ⟨.SWC_FWD_A, 0, 0, 8, .rw, 0x0, false⟩

/-! SWC_FWD_B: spec/03_switch_core.md, beside R80. -/
def SWC_FWD_B_VALID : Field := ⟨.SWC_FWD_B, 0, 31, 1, .rw, 0x0, false⟩
def SWC_FWD_B_ACT : Field := ⟨.SWC_FWD_B, 0, 28, 3, .rw, 0x0, false⟩
def SWC_FWD_B_PSET : Field := ⟨.SWC_FWD_B, 0, 16, 5, .rw, 0x0, false⟩
def SWC_FWD_B_LPORT : Field := ⟨.SWC_FWD_B, 0, 0, 8, .rw, 0x0, false⟩

/-! SWC_PSET_A: spec/03_switch_core.md, beside R80. -/
def SWC_PSET_A_VALID : Field := ⟨.SWC_PSET_A, 0, 31, 1, .rw, 0x0, false⟩
def SWC_PSET_A_MASK : Field := ⟨.SWC_PSET_A, 0, 8, 8, .rw, 0x0, false⟩
def SWC_PSET_A_BASE_P : Field := ⟨.SWC_PSET_A, 0, 0, 7, .rw, 0x0, false⟩

/-! SWC_PSET_B: spec/03_switch_core.md, beside R80. -/
def SWC_PSET_B_VALID : Field := ⟨.SWC_PSET_B, 0, 31, 1, .rw, 0x0, false⟩
def SWC_PSET_B_MASK : Field := ⟨.SWC_PSET_B, 0, 8, 8, .rw, 0x0, false⟩
def SWC_PSET_B_BASE_P : Field := ⟨.SWC_PSET_B, 0, 0, 7, .rw, 0x0, false⟩

/-! SWC_MIR_CTRL: spec/03_switch_core.md, beside R95. -/
def SWC_MIR_CTRL_EN : Field := ⟨.SWC_MIR_CTRL, 0, 31, 1, .rw, 0x0, false⟩
def SWC_MIR_CTRL_DIR : Field := ⟨.SWC_MIR_CTRL, 0, 30, 1, .rw, 0x0, false⟩
def SWC_MIR_CTRL_TO_HOST : Field := ⟨.SWC_MIR_CTRL, 0, 29, 1, .rw, 0x0, false⟩
def SWC_MIR_CTRL_DST_LP : Field := ⟨.SWC_MIR_CTRL, 0, 16, 8, .rw, 0x0, false⟩
def SWC_MIR_CTRL_SRC_LP : Field := ⟨.SWC_MIR_CTRL, 0, 8, 8, .rw, 0x0, false⟩
def SWC_MIR_CTRL_SAMPLE_N : Field := ⟨.SWC_MIR_CTRL, 0, 0, 8, .rw, 0x0, false⟩

/-! SWC_MIR_MATCH: spec/03_switch_core.md, beside R95. -/
def SWC_MIR_MATCH_HASH : Field := ⟨.SWC_MIR_MATCH, 0, 16, 16, .rw, 0x0, false⟩
def SWC_MIR_MATCH_OPCODE : Field := ⟨.SWC_MIR_MATCH, 0, 8, 8, .rw, 0x0, false⟩
def SWC_MIR_MATCH_VC_MASK : Field := ⟨.SWC_MIR_MATCH, 0, 0, 8, .rw, 0x0, false⟩

/-! SWC_MIR_MASK: spec/03_switch_core.md, beside R95. -/
def SWC_MIR_MASK_HASH_MASK : Field := ⟨.SWC_MIR_MASK, 0, 16, 16, .rw, 0x0, false⟩
def SWC_MIR_MASK_OPC_EN : Field := ⟨.SWC_MIR_MASK, 0, 8, 1, .rw, 0x0, false⟩

/-! PRT_CTRL: spec/11_links_and_lanes.md, beside R329. -/
def PRT_CTRL_EN : Field := ⟨.PRT_CTRL, 0, 31, 1, .rw, 0x1, false⟩
def PRT_CTRL_RETRAIN : Field := ⟨.PRT_CTRL, 0, 30, 1, .sc, 0x0, false⟩
def PRT_CTRL_LOOP : Field := ⟨.PRT_CTRL, 0, 28, 2, .rw, 0x0, false⟩
def PRT_CTRL_SPLIT : Field := ⟨.PRT_CTRL, 0, 27, 1, .ro, 0x0, false⟩
def PRT_CTRL_CLKMODE : Field := ⟨.PRT_CTRL, 0, 26, 1, .rw, 0x0, false⟩
def PRT_CTRL_WIDTH_MIN : Field := ⟨.PRT_CTRL, 0, 20, 4, .rw, 0x1, false⟩
def PRT_CTRL_EIDLE_T : Field := ⟨.PRT_CTRL, 0, 0, 16, .rw, 0x64, false⟩

/-! PRT_LINK_CFG: spec/11_links_and_lanes.md, beside R329. -/
def PRT_LINK_CFG_REPLAY_MAX : Field := ⟨.PRT_LINK_CFG, 0, 28, 4, .rw, 0x4, false⟩
def PRT_LINK_CFG_REPLAY_TO : Field := ⟨.PRT_LINK_CFG, 0, 16, 12, .rw, 0x64, false⟩
def PRT_LINK_CFG_UNC_LIM : Field := ⟨.PRT_LINK_CFG, 0, 8, 8, .rw, 0x10, false⟩
def PRT_LINK_CFG_DETECT_IVL : Field := ⟨.PRT_LINK_CFG, 0, 0, 8, .rw, 0xA, false⟩

/-! PRT_LSTAT: spec/11_links_and_lanes.md, beside R329. -/
def PRT_LSTAT_STAGE : Field := ⟨.PRT_LSTAT, 0, 28, 4, .ro, 0x0, false⟩
def PRT_LSTAT_REVERSED : Field := ⟨.PRT_LSTAT, 0, 27, 1, .ro, 0x0, false⟩
def PRT_LSTAT_EIDLE_TX : Field := ⟨.PRT_LSTAT, 0, 26, 1, .ro, 0x0, false⟩
def PRT_LSTAT_EIDLE_RX : Field := ⟨.PRT_LSTAT, 0, 25, 1, .ro, 0x0, false⟩
def PRT_LSTAT_LOOP_SLAVE : Field := ⟨.PRT_LSTAT, 0, 24, 1, .ro, 0x0, false⟩
def PRT_LSTAT_TXW : Field := ⟨.PRT_LSTAT, 0, 20, 4, .ro, 0x0, false⟩
def PRT_LSTAT_RXW : Field := ⟨.PRT_LSTAT, 0, 16, 4, .ro, 0x0, false⟩
def PRT_LSTAT_TXMASK : Field := ⟨.PRT_LSTAT, 0, 8, 8, .ro, 0x0, false⟩
def PRT_LSTAT_RXMASK : Field := ⟨.PRT_LSTAT, 0, 0, 8, .ro, 0x0, false⟩

/-! PRT_LERR: spec/11_links_and_lanes.md, beside R329. -/
def PRT_LERR_LAST_DOWN : Field := ⟨.PRT_LERR, 0, 28, 4, .ro, 0x0, false⟩
def PRT_LERR_REPLAYS : Field := ⟨.PRT_LERR, 0, 16, 12, .ctr, 0x0, false⟩
def PRT_LERR_BAD_BLOCKS : Field := ⟨.PRT_LERR, 0, 0, 16, .ctr, 0x0, false⟩

/-! PRT_PEER: spec/11_links_and_lanes.md, beside R329. -/
def PRT_PEER_VALID : Field := ⟨.PRT_PEER, 0, 31, 1, .ro, 0x0, false⟩
def PRT_PEER_MATCH : Field := ⟨.PRT_PEER, 0, 30, 1, .ro, 0x0, false⟩
def PRT_PEER_HALF : Field := ⟨.PRT_PEER, 0, 29, 1, .ro, 0x0, false⟩
def PRT_PEER_PPORT : Field := ⟨.PRT_PEER, 0, 22, 7, .ro, 0x0, false⟩
def PRT_PEER_EID : Field := ⟨.PRT_PEER, 0, 0, 20, .ro, 0x0, false⟩

/-! PRT_CRED: spec/11_links_and_lanes.md, beside R329. -/
def PRT_CRED_RSV : Field := ⟨.PRT_CRED, 0, 16, 12, .rw, 0x20, false⟩
def PRT_CRED_FLEX_SH : Field := ⟨.PRT_CRED, 0, 0, 5, .rw, 0x6, false⟩

/-! PRT_INJ: spec/11_links_and_lanes.md, beside R329. -/
def PRT_INJ_KIND : Field := ⟨.PRT_INJ, 0, 30, 2, .rw, 0x0, false⟩
def PRT_INJ_CMODE : Field := ⟨.PRT_INJ, 0, 29, 1, .rw, 0x0, false⟩
def PRT_INJ_RATE : Field := ⟨.PRT_INJ, 0, 0, 24, .rw, 0x0, false⟩

/-! PRT_CELL_GAP: spec/02_cells_and_packets.md, beside R51. -/
def PRT_CELL_GAP_GAP : Field := ⟨.PRT_CELL_GAP, 0, 0, 16, .rw, 0xC8, false⟩

/-! PRT_ARB: spec/04_routing_and_flow_control.md, beside R119. -/
def PRT_ARB_STARVE : Field := ⟨.PRT_ARB, 0, 16, 16, .rw, 0x32, false⟩

/-! PRT_ARB_WT: spec/04_routing_and_flow_control.md, beside R119. -/
def PRT_ARB_WT_W7 : Field := ⟨.PRT_ARB_WT, 0, 28, 4, .rw, 0x1, false⟩
def PRT_ARB_WT_W6 : Field := ⟨.PRT_ARB_WT, 0, 24, 4, .rw, 0x1, false⟩
def PRT_ARB_WT_W5 : Field := ⟨.PRT_ARB_WT, 0, 20, 4, .rw, 0x1, false⟩
def PRT_ARB_WT_W4 : Field := ⟨.PRT_ARB_WT, 0, 16, 4, .rw, 0x1, false⟩
def PRT_ARB_WT_W3 : Field := ⟨.PRT_ARB_WT, 0, 12, 4, .rw, 0x1, false⟩
def PRT_ARB_WT_W2 : Field := ⟨.PRT_ARB_WT, 0, 8, 4, .rw, 0x1, false⟩
def PRT_ARB_WT_W1 : Field := ⟨.PRT_ARB_WT, 0, 4, 4, .rw, 0x1, false⟩

/-! PRT_PAUSE: spec/15_faults_resets_failover.md, beside R429. -/
def PRT_PAUSE_LIMIT : Field := ⟨.PRT_PAUSE, 0, 16, 16, .rw, 0x32, false⟩
def PRT_PAUSE_LAST_DUR : Field := ⟨.PRT_PAUSE, 0, 2, 14, .ro, 0x0, false⟩
def PRT_PAUSE_PAUSED1 : Field := ⟨.PRT_PAUSE, 0, 1, 1, .ro, 0x0, false⟩
def PRT_PAUSE_PAUSED0 : Field := ⟨.PRT_PAUSE, 0, 0, 1, .ro, 0x0, false⟩

/-! LNK_STAT: spec/11_links_and_lanes.md, beside R329. -/
def LNK_STAT_LOCK : Field := ⟨.LNK_STAT, 0, 31, 1, .ro, 0x0, false⟩
def LNK_STAT_IN_USE : Field := ⟨.LNK_STAT, 0, 30, 1, .ro, 0x0, false⟩
def LNK_STAT_POL_INV : Field := ⟨.LNK_STAT, 0, 29, 1, .ro, 0x0, false⟩
def LNK_STAT_BAD : Field := ⟨.LNK_STAT, 0, 28, 1, .ro, 0x0, false⟩
def LNK_STAT_BADWHY : Field := ⟨.LNK_STAT, 0, 26, 2, .ro, 0x0, false⟩
def LNK_STAT_POS : Field := ⟨.LNK_STAT, 0, 23, 3, .ro, 0x0, false⟩

/-! LNK_CTRL: spec/11_links_and_lanes.md, beside R329. -/
def LNK_CTRL_DROP : Field := ⟨.LNK_CTRL, 0, 31, 1, .sc, 0x0, false⟩

/-! LNK_TXEQ: spec/11_links_and_lanes.md, beside R329. -/
def LNK_TXEQ_ADAPT : Field := ⟨.LNK_TXEQ, 0, 31, 1, .rw, 0x1, false⟩
def LNK_TXEQ_POST : Field := ⟨.LNK_TXEQ, 0, 8, 5, .rw, 0x8, false⟩
def LNK_TXEQ_PRE : Field := ⟨.LNK_TXEQ, 0, 0, 5, .rw, 0x4, false⟩

/-! LNK_TXEQ_ACT: spec/11_links_and_lanes.md, beside R329. -/
def LNK_TXEQ_ACT_MAIN : Field := ⟨.LNK_TXEQ_ACT, 0, 16, 7, .ro, 0x34, false⟩
def LNK_TXEQ_ACT_POST : Field := ⟨.LNK_TXEQ_ACT, 0, 8, 5, .ro, 0x8, false⟩
def LNK_TXEQ_ACT_PRE : Field := ⟨.LNK_TXEQ_ACT, 0, 0, 5, .ro, 0x4, false⟩

/-! LNK_FEC_CORR: spec/11_links_and_lanes.md, beside R329. -/
def LNK_FEC_CORR_COUNT : Field := ⟨.LNK_FEC_CORR, 0, 0, 32, .ctr, 0x0, false⟩

/-! LNK_FEC_UNC: spec/11_links_and_lanes.md, beside R329. -/
def LNK_FEC_UNC_COUNT : Field := ⟨.LNK_FEC_UNC, 0, 0, 32, .ctr, 0x0, false⟩

/-! LNK_ESCAN: spec/11_links_and_lanes.md, beside R329. -/
def LNK_ESCAN_GO : Field := ⟨.LNK_ESCAN, 0, 31, 1, .sc, 0x0, false⟩
def LNK_ESCAN_BUSY : Field := ⟨.LNK_ESCAN, 0, 30, 1, .ro, 0x0, false⟩
def LNK_ESCAN_EYE : Field := ⟨.LNK_ESCAN, 0, 28, 2, .rw, 0x0, false⟩
def LNK_ESCAN_PHASE : Field := ⟨.LNK_ESCAN, 0, 22, 6, .rw, 0x0, false⟩
def LNK_ESCAN_VOFF : Field := ⟨.LNK_ESCAN, 0, 15, 7, .rw, 0x0, false⟩
def LNK_ESCAN_LOG2N : Field := ⟨.LNK_ESCAN, 0, 0, 6, .rw, 0x14, false⟩

/-! LNK_ESCAN_ERR: spec/11_links_and_lanes.md, beside R329. -/
def LNK_ESCAN_ERR_ERR : Field := ⟨.LNK_ESCAN_ERR, 0, 0, 32, .ro, 0x0, false⟩

/-! LNK_PRBS: spec/11_links_and_lanes.md, beside R329. -/
def LNK_PRBS_TX_EN : Field := ⟨.LNK_PRBS, 0, 31, 1, .rw, 0x0, false⟩
def LNK_PRBS_RX_EN : Field := ⟨.LNK_PRBS, 0, 30, 1, .rw, 0x0, false⟩

/-! LNK_PRBS_ERR: spec/11_links_and_lanes.md, beside R329. -/
def LNK_PRBS_ERR_COUNT : Field := ⟨.LNK_PRBS_ERR, 0, 0, 32, .ro, 0x0, false⟩

/-! LNK_PRBS_BITS: spec/11_links_and_lanes.md, beside R329. -/
def LNK_PRBS_BITS_COUNT : Field := ⟨.LNK_PRBS_BITS, 0, 0, 32, .ro, 0x0, false⟩

/-! GRP_CMD: spec/06_collective_groups.md, beside R156. -/
def GRP_CMD_OPC : Field := ⟨.GRP_CMD, 0, 28, 4, .wo, 0x0, false⟩
def GRP_CMD_GID : Field := ⟨.GRP_CMD, 0, 0, 12, .wo, 0x0, false⟩

/-! GRP_CMD_STAT: spec/06_collective_groups.md, beside R156. -/
def GRP_CMD_STAT_BUSY : Field := ⟨.GRP_CMD_STAT, 0, 31, 1, .ro, 0x0, false⟩
def GRP_CMD_STAT_RESULT : Field := ⟨.GRP_CMD_STAT, 0, 24, 4, .ro, 0x0, false⟩
def GRP_CMD_STAT_GID : Field := ⟨.GRP_CMD_STAT, 0, 0, 12, .ro, 0x0, false⟩

/-! GRP_SHAPE: spec/06_collective_groups.md, beside R156. -/
def GRP_SHAPE_NROW : Field := ⟨.GRP_SHAPE, 0, 28, 4, .rw, 0x0, false⟩
def GRP_SHAPE_ROW0 : Field := ⟨.GRP_SHAPE, 0, 25, 3, .rw, 0x0, false⟩
def GRP_SHAPE_NCOL : Field := ⟨.GRP_SHAPE, 0, 21, 4, .rw, 0x0, false⟩
def GRP_SHAPE_COL0 : Field := ⟨.GRP_SHAPE, 0, 18, 3, .rw, 0x0, false⟩
def GRP_SHAPE_SLOT0 : Field := ⟨.GRP_SHAPE, 0, 11, 7, .rw, 0x0, false⟩
def GRP_SHAPE_NSLOT : Field := ⟨.GRP_SHAPE, 0, 3, 8, .rw, 0x0, false⟩

/-! GRP_SEQ_CFG: spec/06_collective_groups.md, beside R180. -/
def GRP_SEQ_CFG_TOKEN_DLY : Field := ⟨.GRP_SEQ_CFG, 0, 0, 16, .rw, 0x64, false⟩

/-! GRP_ABORT_LAST: spec/06_collective_groups.md, beside R180. -/
def GRP_ABORT_LAST_CODE : Field := ⟨.GRP_ABORT_LAST, 0, 24, 4, .ro, 0x0, false⟩
def GRP_ABORT_LAST_GID : Field := ⟨.GRP_ABORT_LAST, 0, 0, 12, .ro, 0x0, false⟩

/-! GRP_ABORT_SEQ: spec/06_collective_groups.md, beside R180. -/
def GRP_ABORT_SEQ_SEQ : Field := ⟨.GRP_ABORT_SEQ, 0, 0, 24, .ro, 0x0, false⟩

/-! GRP_ALG_CFG: spec/08_collective_algorithms.md, beside . -/
def GRP_ALG_CFG_WAVE : Field := ⟨.GRP_ALG_CFG, 0, 16, 8, .rw, 0x40, true⟩

/-! GRP_PLANE_LIVE: spec/08_collective_algorithms.md, beside . -/
def GRP_PLANE_LIVE_LIVE : Field := ⟨.GRP_PLANE_LIVE, 0, 0, 16, .rw, 0xFFFF, true⟩

/-! GRP_ENT: spec/06_collective_groups.md, beside R151. -/
def GRP_ENT_STATE : Field := ⟨.GRP_ENT, 0, 30, 2, .ro, 0x0, false⟩
def GRP_ENT_MODE : Field := ⟨.GRP_ENT, 0, 29, 1, .rw, 0x0, false⟩
def GRP_ENT_ROW_ST : Field := ⟨.GRP_ENT, 0, 28, 1, .rw, 0x0, false⟩
def GRP_ENT_COL_ST : Field := ⟨.GRP_ENT, 0, 27, 1, .rw, 0x0, false⟩
def GRP_ENT_ACT_BANK : Field := ⟨.GRP_ENT, 0, 25, 1, .ro, 0x0, false⟩
def GRP_ENT_NEXT_BANK : Field := ⟨.GRP_ENT, 0, 24, 1, .rw, 0x0, true⟩
def GRP_ENT_HOME : Field := ⟨.GRP_ENT, 0, 20, 4, .rw, 0x0, false⟩
def GRP_ENT_PMASK : Field := ⟨.GRP_ENT, 0, 0, 16, .rw, 0x0, false⟩
def GRP_ENT_GEPOCH : Field := ⟨.GRP_ENT, 1, 16, 16, .rw, 0x0, false⟩
def GRP_ENT_RBASE : Field := ⟨.GRP_ENT, 1, 0, 16, .rw, 0x0, false⟩
def GRP_ENT_HOME_ROW : Field := ⟨.GRP_ENT, 2, 29, 3, .rw, 0x0, false⟩
def GRP_ENT_HOME_COL : Field := ⟨.GRP_ENT, 2, 26, 3, .rw, 0x0, false⟩
def GRP_ENT_NRANK : Field := ⟨.GRP_ENT, 2, 9, 14, .rw, 0x0, false⟩
def GRP_ENT_NLOCAL : Field := ⟨.GRP_ENT, 2, 0, 9, .rw, 0x0, false⟩
def GRP_ENT_GTO : Field := ⟨.GRP_ENT, 3, 16, 16, .rw, 0x0, false⟩
def GRP_ENT_WEIGHT : Field := ⟨.GRP_ENT, 3, 12, 4, .rw, 0x0, false⟩
def GRP_ENT_QLOG : Field := ⟨.GRP_ENT, 3, 8, 4, .rw, 0x0, false⟩
def GRP_ENT_QBASE : Field := ⟨.GRP_ENT, 4, 0, 15, .rw, 0x0, false⟩
def GRP_ENT_CIST_MAX : Field := ⟨.GRP_ENT, 5, 0, 18, .rw, 0x0, false⟩
def GRP_ENT_LAT_KIB : Field := ⟨.GRP_ENT, 6, 0, 16, .rw, 0x80, false⟩
def GRP_ENT_NEXT_SEQ : Field := ⟨.GRP_ENT, 7, 0, 24, .ro, 0x0, false⟩

/-! GRP_RANK_A: spec/06_collective_groups.md, beside R153. -/
def GRP_RANK_A_VALID : Field := ⟨.GRP_RANK_A, 0, 31, 1, .rw, 0x0, false⟩
def GRP_RANK_A_CHILD : Field := ⟨.GRP_RANK_A, 0, 30, 1, .rw, 0x0, false⟩
def GRP_RANK_A_RANK : Field := ⟨.GRP_RANK_A, 0, 16, 14, .rw, 0x0, false⟩
def GRP_RANK_A_LP : Field := ⟨.GRP_RANK_A, 0, 0, 8, .rw, 0x0, false⟩

/-! GRP_RANK_B: spec/06_collective_groups.md, beside R153. -/
def GRP_RANK_B_VALID : Field := ⟨.GRP_RANK_B, 0, 31, 1, .rw, 0x0, false⟩
def GRP_RANK_B_CHILD : Field := ⟨.GRP_RANK_B, 0, 30, 1, .rw, 0x0, false⟩
def GRP_RANK_B_RANK : Field := ⟨.GRP_RANK_B, 0, 16, 14, .rw, 0x0, false⟩
def GRP_RANK_B_LP : Field := ⟨.GRP_RANK_B, 0, 0, 8, .rw, 0x0, false⟩

/-! PMP_STAT: spec/07_pumps_and_arithmetic.md, beside R214. -/
def PMP_STAT_STATE : Field := ⟨.PMP_STAT, 0, 30, 2, .ro, 0x0, false⟩
def PMP_STAT_CAUSE : Field := ⟨.PMP_STAT, 0, 27, 3, .ro, 0x0, false⟩
def PMP_STAT_REPL : Field := ⟨.PMP_STAT, 0, 8, 8, .ro, 0xFF, false⟩

/-! PMP_CTRL: spec/07_pumps_and_arithmetic.md, beside R214. -/
def PMP_CTRL_RETIRE : Field := ⟨.PMP_CTRL, 0, 31, 1, .sc, 0x0, false⟩
def PMP_CTRL_TEST_GO : Field := ⟨.PMP_CTRL, 0, 30, 1, .sc, 0x0, false⟩
def PMP_CTRL_RESTORE : Field := ⟨.PMP_CTRL, 0, 29, 1, .sc, 0x0, false⟩

/-! PMP_TEST: spec/07_pumps_and_arithmetic.md, beside R214. -/
def PMP_TEST_BUSY : Field := ⟨.PMP_TEST, 0, 31, 1, .ro, 0x0, false⟩
def PMP_TEST_PASS : Field := ⟨.PMP_TEST, 0, 30, 1, .ro, 0x0, false⟩
def PMP_TEST_NFAIL : Field := ⟨.PMP_TEST, 0, 0, 16, .ro, 0x0, false⟩

/-! PMP_ERRCNT: spec/07_pumps_and_arithmetic.md, beside R214. -/
def PMP_ERRCNT_MISMATCH : Field := ⟨.PMP_ERRCNT, 0, 16, 16, .ctr, 0x0, false⟩
def PMP_ERRCNT_PARITY : Field := ⟨.PMP_ERRCNT, 0, 0, 16, .ctr, 0x0, false⟩

/-! PMP_CIST: spec/07_pumps_and_arithmetic.md, beside R214. -/
def PMP_CIST_FREE : Field := ⟨.PMP_CIST, 0, 0, 11, .ro, 0x400, false⟩

/-! PMP_POOL: spec/07_pumps_and_arithmetic.md, beside R214. -/
def PMP_POOL_RETIRED : Field := ⟨.PMP_POOL, 0, 16, 8, .ro, 0x0, false⟩
def PMP_POOL_SPARES : Field := ⟨.PMP_POOL, 0, 8, 8, .ro, 0x0, false⟩
def PMP_POOL_ACTIVE : Field := ⟨.PMP_POOL, 0, 0, 8, .ro, 0x0, false⟩

/-! PMP_CFG: spec/07_pumps_and_arithmetic.md, beside R214. -/
def PMP_CFG_SOFT_WIN : Field := ⟨.PMP_CFG, 0, 16, 16, .rw, 0x3E8, false⟩
def PMP_CFG_SOFT_LIM : Field := ⟨.PMP_CFG, 0, 0, 8, .rw, 0x8, false⟩

/-! PMP_FREQ: spec/07_pumps_and_arithmetic.md, beside R214. -/
def PMP_FREQ_F : Field := ⟨.PMP_FREQ, 0, 0, 12, .ro, 0x7D0, false⟩

/-! PMP_SCRUB: spec/07_pumps_and_arithmetic.md, beside R214. -/
def PMP_SCRUB_IVL : Field := ⟨.PMP_SCRUB, 0, 0, 16, .rw, 0x64, false⟩

/-! WEL_STAT: spec/09_the_well.md, beside R241. -/
def WEL_STAT_INIT_DONE : Field := ⟨.WEL_STAT, 0, 31, 1, .ro, 0x0, false⟩
def WEL_STAT_STACK_OK : Field := ⟨.WEL_STAT, 0, 16, 4, .ro, 0x0, false⟩
def WEL_STAT_DIMM_OK : Field := ⟨.WEL_STAT, 0, 0, 16, .ro, 0x0, false⟩

/-! WEL_FAR_CFG: spec/09_the_well.md, beside R241. -/
def WEL_FAR_CFG_DPC2 : Field := ⟨.WEL_FAR_CFG, 0, 20, 1, .rw, 0x0, false⟩
def WEL_FAR_CFG_NCH : Field := ⟨.WEL_FAR_CFG, 0, 16, 4, .rw, 0x0, false⟩
def WEL_FAR_CFG_DIMM_GIB : Field := ⟨.WEL_FAR_CFG, 0, 0, 9, .rw, 0x0, false⟩

/-! WEL_CFG: spec/09_the_well.md, beside R254. -/
def WEL_CFG_UE_LIM : Field := ⟨.WEL_CFG, 0, 16, 8, .rw, 0x4, false⟩
def WEL_CFG_RETRY : Field := ⟨.WEL_CFG, 0, 0, 4, .rw, 0x2, false⟩

/-! WEL_SCRUB: spec/09_the_well.md, beside R254. -/
def WEL_SCRUB_FAR_H : Field := ⟨.WEL_SCRUB, 0, 16, 16, .rw, 0x18, false⟩
def WEL_SCRUB_NEAR_H : Field := ⟨.WEL_SCRUB, 0, 0, 16, .rw, 0x18, false⟩

/-! WEL_CTX_CFG: spec/09_the_well.md, beside R249. -/
def WEL_CTX_CFG_TO : Field := ⟨.WEL_CTX_CFG, 0, 0, 16, .rw, 0x7D0, false⟩

/-! WEL_AP_BASE: spec/09_the_well.md, beside R264. -/
def WEL_AP_BASE_BASE : Field := ⟨.WEL_AP_BASE, 0, 0, 12, .rw, 0x0, true⟩

/-! WEL_HOT_CFG: spec/09_the_well.md, beside R262. -/
def WEL_HOT_CFG_EN : Field := ⟨.WEL_HOT_CFG, 0, 31, 1, .rw, 0x0, false⟩
def WEL_HOT_CFG_BASE : Field := ⟨.WEL_HOT_CFG, 0, 0, 27, .rw, 0x0, false⟩

/-! WEL_WAIT_STAT: spec/09_the_well.md, beside R275. -/
def WEL_WAIT_STAT_INUSE : Field := ⟨.WEL_WAIT_STAT, 0, 0, 15, .ro, 0x0, false⟩

/-! WEL_DEV: spec/09_the_well.md, beside R254. -/
def WEL_DEV_OUT : Field := ⟨.WEL_DEV, 0, 31, 1, .ro, 0x0, false⟩
def WEL_DEV_TAKE_OUT : Field := ⟨.WEL_DEV, 0, 30, 1, .sc, 0x0, false⟩
def WEL_DEV_CORR : Field := ⟨.WEL_DEV, 0, 12, 12, .ctr, 0x0, false⟩
def WEL_DEV_UNCORR : Field := ⟨.WEL_DEV, 0, 0, 12, .ctr, 0x0, false⟩

/-! WEL_MIR: spec/09_the_well.md, beside R257. -/
def WEL_MIR_EN : Field := ⟨.WEL_MIR, 0, 31, 1, .rw, 0x0, true⟩
def WEL_MIR_STATE : Field := ⟨.WEL_MIR, 0, 26, 2, .ro, 0x0, false⟩
def WEL_MIR_SIZE_G : Field := ⟨.WEL_MIR, 0, 0, 13, .rw, 0x0, true⟩
def WEL_MIR_BASE_G : Field := ⟨.WEL_MIR, 1, 0, 13, .rw, 0x0, true⟩
def WEL_MIR_MBASE_G : Field := ⟨.WEL_MIR, 2, 0, 13, .rw, 0x0, true⟩

/-! WEL_SO_CMD: spec/09_the_well.md, beside R275. -/
def WEL_SO_CMD_SOP : Field := ⟨.WEL_SO_CMD, 0, 28, 4, .wo, 0x0, false⟩
def WEL_SO_CMD_SO : Field := ⟨.WEL_SO_CMD, 0, 0, 13, .wo, 0x0, false⟩

/-! WEL_SO_ARG0_LO: spec/09_the_well.md, beside R275. -/
def WEL_SO_ARG0_LO_VAL : Field := ⟨.WEL_SO_ARG0_LO, 0, 0, 32, .rw, 0x0, false⟩

/-! WEL_SO_ARG0_HI: spec/09_the_well.md, beside R275. -/
def WEL_SO_ARG0_HI_VAL : Field := ⟨.WEL_SO_ARG0_HI, 0, 0, 32, .rw, 0x0, false⟩

/-! WEL_SO_ARG1_LO: spec/09_the_well.md, beside R275. -/
def WEL_SO_ARG1_LO_VAL : Field := ⟨.WEL_SO_ARG1_LO, 0, 0, 32, .rw, 0x0, false⟩

/-! WEL_SO_ARG1_HI: spec/09_the_well.md, beside R275. -/
def WEL_SO_ARG1_HI_VAL : Field := ⟨.WEL_SO_ARG1_HI, 0, 0, 32, .rw, 0x0, false⟩

/-! WEL_SO_RES_LO: spec/09_the_well.md, beside R275. -/
def WEL_SO_RES_LO_VAL : Field := ⟨.WEL_SO_RES_LO, 0, 0, 32, .ro, 0x0, false⟩

/-! WEL_SO_RES_HI: spec/09_the_well.md, beside R275. -/
def WEL_SO_RES_HI_VAL : Field := ⟨.WEL_SO_RES_HI, 0, 0, 32, .ro, 0x0, false⟩

/-! WEL_SO_CSTAT: spec/09_the_well.md, beside R275. -/
def WEL_SO_CSTAT_BUSY : Field := ⟨.WEL_SO_CSTAT, 0, 31, 1, .ro, 0x0, false⟩
def WEL_SO_CSTAT_STATUS : Field := ⟨.WEL_SO_CSTAT, 0, 0, 8, .ro, 0x0, false⟩

/-! WEL_CTX_OPEN: spec/09_the_well.md, beside R249. -/
def WEL_CTX_OPEN_OPEN : Field := ⟨.WEL_CTX_OPEN, 0, 0, 12, .ro, 0x0, false⟩

/-! WEL_HOT_CNT: spec/09_the_well.md, beside R262. -/
def WEL_HOT_CNT_CNT : Field := ⟨.WEL_HOT_CNT, 0, 0, 16, .ctr, 0x0, false⟩

/-! WEL_FWD: spec/09_the_well.md, beside R261. -/
def WEL_FWD_VALID : Field := ⟨.WEL_FWD, 0, 31, 1, .rw, 0x0, false⟩
def WEL_FWD_SRC_PAGE : Field := ⟨.WEL_FWD, 0, 0, 27, .rw, 0x0, false⟩
def WEL_FWD_DST_PAGE : Field := ⟨.WEL_FWD, 1, 0, 27, .rw, 0x0, false⟩

/-! WEL_SO: spec/09_the_well.md, beside R275. -/
def WEL_SO_TYPE : Field := ⟨.WEL_SO, 0, 29, 3, .rw, 0x0, false⟩
def WEL_SO_WAITERS : Field := ⟨.WEL_SO, 0, 0, 15, .ro, 0x0, false⟩
def WEL_SO_TARGET : Field := ⟨.WEL_SO, 1, 0, 32, .rw, 0x0, false⟩
def WEL_SO_VAL_LO : Field := ⟨.WEL_SO, 2, 0, 32, .rw, 0x0, false⟩
def WEL_SO_VAL_HI : Field := ⟨.WEL_SO, 3, 0, 32, .rw, 0x0, false⟩
def WEL_SO_LAST_TICK : Field := ⟨.WEL_SO, 4, 0, 32, .ro, 0x0, false⟩

/-! RMS_CFG: spec/10_rooms_and_recovery.md, beside . -/
def RMS_CFG_EN : Field := ⟨.RMS_CFG, 0, 31, 1, .rw, 0x0, true⟩
def RMS_CFG_BASE_G : Field := ⟨.RMS_CFG, 0, 16, 12, .rw, 0x0, true⟩
def RMS_CFG_STRIPE_G : Field := ⟨.RMS_CFG, 0, 8, 6, .rw, 0x0, true⟩
def RMS_CFG_SNAP_G : Field := ⟨.RMS_CFG, 0, 0, 6, .rw, 0x0, true⟩

/-! RMS_HB_CFG: spec/10_rooms_and_recovery.md, beside R291. -/
def RMS_HB_CFG_EN : Field := ⟨.RMS_HB_CFG, 0, 31, 1, .rw, 0x0, true⟩
def RMS_HB_CFG_HB_BASE : Field := ⟨.RMS_HB_CFG, 0, 16, 13, .rw, 0x0, true⟩
def RMS_HB_CFG_MISS : Field := ⟨.RMS_HB_CFG, 0, 8, 8, .rw, 0x4, true⟩
def RMS_HB_CFG_IVL : Field := ⟨.RMS_HB_CFG, 0, 0, 8, .rw, 0x64, true⟩

/-! RMS_HB_LATE: spec/10_rooms_and_recovery.md, beside R291. -/
def RMS_HB_LATE_LATE : Field := ⟨.RMS_HB_LATE, 0, 0, 32, .w1c, 0x0, false⟩

/-! RMS_FENCE: spec/10_rooms_and_recovery.md, beside R293. -/
def RMS_FENCE_FENCE : Field := ⟨.RMS_FENCE, 0, 0, 32, .rw, 0x0, true⟩

/-! RMS_CMT: spec/10_rooms_and_recovery.md, beside R287. -/
def RMS_CMT_VALID : Field := ⟨.RMS_CMT, 0, 31, 1, .rw, 0x0, true⟩
def RMS_CMT_ADOPT : Field := ⟨.RMS_CMT, 0, 30, 1, .rw, 0x0, true⟩
def RMS_CMT_SO : Field := ⟨.RMS_CMT, 0, 12, 13, .rw, 0x0, true⟩
def RMS_CMT_GID : Field := ⟨.RMS_CMT, 0, 0, 12, .rw, 0x0, true⟩
def RMS_CMT_COMMITS : Field := ⟨.RMS_CMT, 1, 0, 32, .ro, 0x0, false⟩

/-! RMS_ROOM: spec/10_rooms_and_recovery.md, beside R280. -/
def RMS_ROOM_EN : Field := ⟨.RMS_ROOM, 0, 31, 1, .ro, 0x0, false⟩
def RMS_ROOM_NEXT_EN : Field := ⟨.RMS_ROOM, 0, 30, 1, .rw, 0x0, true⟩
def RMS_ROOM_OPEN_KIND : Field := ⟨.RMS_ROOM, 0, 28, 2, .ro, 0x0, false⟩
def RMS_ROOM_BSLOT : Field := ⟨.RMS_ROOM, 0, 27, 1, .ro, 0x0, false⟩
def RMS_ROOM_OWNER : Field := ⟨.RMS_ROOM, 0, 20, 7, .ro, 0x0, false⟩
def RMS_ROOM_NEXT_OWNER : Field := ⟨.RMS_ROOM, 0, 12, 7, .rw, 0x0, true⟩
def RMS_ROOM_GID : Field := ⟨.RMS_ROOM, 0, 0, 12, .rw, 0x0, true⟩
def RMS_ROOM_LOCK_EPOCH : Field := ⟨.RMS_ROOM, 1, 16, 16, .ro, 0x0, false⟩
def RMS_ROOM_CMT_GEN : Field := ⟨.RMS_ROOM, 2, 0, 32, .ro, 0x0, false⟩
def RMS_ROOM_BASE_GEN : Field := ⟨.RMS_ROOM, 3, 0, 32, .ro, 0x0, false⟩
def RMS_ROOM_JCMT : Field := ⟨.RMS_ROOM, 4, 0, 32, .ro, 0x0, false⟩
def RMS_ROOM_SNAP_LEN : Field := ⟨.RMS_ROOM, 5, 0, 32, .ro, 0x0, false⟩
def RMS_ROOM_OPEN_HIGH : Field := ⟨.RMS_ROOM, 6, 0, 32, .ro, 0x0, false⟩

/-! TEL_USER_EN: spec/17_telemetry.md, beside R477. -/
def TEL_USER_EN_REGION : Field := ⟨.TEL_USER_EN, 0, 0, 7, .rw, 0x0, false⟩

/-! TEL_BW_CFG: spec/17_telemetry.md, beside R477. -/
def TEL_BW_CFG_WIN : Field := ⟨.TEL_BW_CFG, 0, 0, 17, .rw, 0x3E8, false⟩

/-! TEL_RING_LO: spec/17_telemetry.md, beside R477. -/
def TEL_RING_LO_BASE : Field := ⟨.TEL_RING_LO, 0, 0, 32, .rw, 0x0, false⟩

/-! TEL_RING_HI: spec/17_telemetry.md, beside R477. -/
def TEL_RING_HI_BASE : Field := ⟨.TEL_RING_HI, 0, 0, 32, .rw, 0x0, false⟩

/-! TEL_RING_CFG: spec/17_telemetry.md, beside R477. -/
def TEL_RING_CFG_EN : Field := ⟨.TEL_RING_CFG, 0, 31, 1, .rw, 0x0, false⟩
def TEL_RING_CFG_IRQ_EN : Field := ⟨.TEL_RING_CFG, 0, 30, 1, .rw, 0x0, false⟩
def TEL_RING_CFG_VEC : Field := ⟨.TEL_RING_CFG, 0, 16, 11, .rw, 0x0, false⟩
def TEL_RING_CFG_PAGES : Field := ⟨.TEL_RING_CFG, 0, 0, 16, .rw, 0x0, false⟩

/-! TEL_RING_WPTR: spec/17_telemetry.md, beside R477. -/
def TEL_RING_WPTR_PTR : Field := ⟨.TEL_RING_WPTR, 0, 0, 28, .ro, 0x0, false⟩

/-! TEL_RING_RPTR: spec/17_telemetry.md, beside R477. -/
def TEL_RING_RPTR_PTR : Field := ⟨.TEL_RING_RPTR, 0, 0, 28, .rw, 0x0, false⟩

/-! TEL_PER_CFG: spec/17_telemetry.md, beside R477. -/
def TEL_PER_CFG_EN : Field := ⟨.TEL_PER_CFG, 0, 31, 1, .rw, 0x0, false⟩
def TEL_PER_CFG_CLEAR : Field := ⟨.TEL_PER_CFG, 0, 8, 1, .rw, 0x0, false⟩
def TEL_PER_CFG_SEL : Field := ⟨.TEL_PER_CFG, 0, 0, 7, .rw, 0x0, false⟩

/-! TEL_PER_IVL: spec/17_telemetry.md, beside R477. -/
def TEL_PER_IVL_IVL : Field := ⟨.TEL_PER_IVL, 0, 0, 32, .rw, 0x0, false⟩

/-! TEL_STAT: spec/17_telemetry.md, beside R477. -/
def TEL_STAT_BUSY : Field := ⟨.TEL_STAT, 0, 31, 1, .ro, 0x0, false⟩
def TEL_STAT_DUMP_SEQ : Field := ⟨.TEL_STAT, 0, 0, 16, .ro, 0x0, false⟩

/-! TEL_DROP: spec/17_telemetry.md, beside R477. -/
def TEL_DROP_SKIPPED : Field := ⟨.TEL_DROP, 0, 16, 16, .ctr, 0x0, false⟩
def TEL_DROP_MIR_DROP : Field := ⟨.TEL_DROP, 0, 0, 16, .ctr, 0x0, false⟩

/-! TEL_FILT: spec/17_telemetry.md, beside R472. -/
def TEL_FILT_EN : Field := ⟨.TEL_FILT, 0, 31, 1, .rw, 0x0, false⟩
def TEL_FILT_SPACE : Field := ⟨.TEL_FILT, 0, 30, 1, .rw, 0x0, false⟩
def TEL_FILT_PRIV : Field := ⟨.TEL_FILT, 0, 24, 4, .rw, 0x0, false⟩
def TEL_FILT_CLASS : Field := ⟨.TEL_FILT, 0, 16, 8, .rw, 0x0, false⟩
def TEL_FILT_SRC_LP : Field := ⟨.TEL_FILT, 0, 8, 8, .rw, 0xFF, false⟩
def TEL_FILT_ADDR_LO : Field := ⟨.TEL_FILT, 1, 0, 32, .rw, 0x0, false⟩
def TEL_FILT_ADDR_LO_HI : Field := ⟨.TEL_FILT, 2, 0, 16, .rw, 0x0, false⟩
def TEL_FILT_ADDR_HI : Field := ⟨.TEL_FILT, 3, 0, 32, .rw, 0x0, false⟩
def TEL_FILT_ADDR_HI_HI : Field := ⟨.TEL_FILT, 4, 0, 16, .rw, 0x0, false⟩

/-! GMC_STAT: spec/14_gesta_and_security.md, beside R388. -/
def GMC_STAT_ROLE0 : Field := ⟨.GMC_STAT, 0, 30, 2, .ro, 0x0, false⟩
def GMC_STAT_ROLE1 : Field := ⟨.GMC_STAT, 0, 28, 2, .ro, 0x0, false⟩
def GMC_STAT_SLOT : Field := ⟨.GMC_STAT, 0, 27, 1, .ro, 0x0, false⟩
def GMC_STAT_TRIAL : Field := ⟨.GMC_STAT, 0, 26, 1, .ro, 0x0, false⟩
def GMC_STAT_FALLBACK : Field := ⟨.GMC_STAT, 0, 25, 1, .ro, 0x0, false⟩
def GMC_STAT_OWNER_IMG : Field := ⟨.GMC_STAT, 0, 24, 1, .ro, 0x0, false⟩
def GMC_STAT_STAGE : Field := ⟨.GMC_STAT, 0, 16, 8, .ro, 0x0, false⟩
def GMC_STAT_ERROR : Field := ⟨.GMC_STAT, 0, 8, 8, .ro, 0x0, false⟩

/-! GMC_VER: spec/14_gesta_and_security.md, beside R388. -/
def GMC_VER_VALUE : Field := ⟨.GMC_VER, 0, 0, 32, .ro, 0x0, false⟩

/-! GMC_SVN: spec/14_gesta_and_security.md, beside R388. -/
def GMC_SVN_VALUE : Field := ⟨.GMC_SVN, 0, 0, 32, .ro, 0x0, false⟩

/-! GMC_MIN_SVN: spec/14_gesta_and_security.md, beside R388. -/
def GMC_MIN_SVN_VALUE : Field := ⟨.GMC_MIN_SVN, 0, 0, 32, .ro, 0x0, false⟩

/-! GMC_CTRL: spec/14_gesta_and_security.md, beside R388. -/
def GMC_CTRL_GMC_RST : Field := ⟨.GMC_CTRL, 0, 31, 1, .sc, 0x0, false⟩

/-! GMC_WDT: spec/14_gesta_and_security.md, beside R388. -/
def GMC_WDT_PERIOD : Field := ⟨.GMC_WDT, 0, 16, 16, .rw, 0xFA, false⟩
def GMC_WDT_KICK1 : Field := ⟨.GMC_WDT, 0, 1, 1, .sc, 0x0, false⟩
def GMC_WDT_KICK0 : Field := ⟨.GMC_WDT, 0, 0, 1, .sc, 0x0, false⟩

/-! GMC_MB_CTRL: spec/14_gesta_and_security.md, beside R408. -/
def GMC_MB_CTRL_GO : Field := ⟨.GMC_MB_CTRL, 0, 31, 1, .sc, 0x0, false⟩
def GMC_MB_CTRL_BUSY : Field := ⟨.GMC_MB_CTRL, 0, 30, 1, .ro, 0x0, false⟩
def GMC_MB_CTRL_DONE : Field := ⟨.GMC_MB_CTRL, 0, 29, 1, .w1c, 0x0, false⟩
def GMC_MB_CTRL_IRQ_EN : Field := ⟨.GMC_MB_CTRL, 0, 28, 1, .rw, 0x0, false⟩
def GMC_MB_CTRL_VEC : Field := ⟨.GMC_MB_CTRL, 0, 0, 11, .rw, 0x0, false⟩

/-! GMC_MB_REQ: spec/14_gesta_and_security.md, beside R408. -/
def GMC_MB_REQ_DATA : Field := ⟨.GMC_MB_REQ, 0, 0, 32, .rw, 0x0, false⟩

/-! GMC_MB_RSP: spec/14_gesta_and_security.md, beside R408. -/
def GMC_MB_RSP_DATA : Field := ⟨.GMC_MB_RSP, 0, 0, 32, .ro, 0x0, false⟩

/-! FLT_KSEV: spec/15_faults_resets_failover.md, beside R417; kind `k` of a source has its pair in word k / 8. -/
def FLT_KSEV_OVR (k : Nat) : Field := ⟨.FLT_KSEV, k / 8, 4 * (k % 8) + 3, 1, .rw, 0, false⟩
def FLT_KSEV_SEV (k : Nat) : Field := ⟨.FLT_KSEV, k / 8, 4 * (k % 8), 3, .rw, 0, false⟩

end F

/-- The fields of each array, in the order of its table. -/
def fieldsOf : RegName → List Field
  | .GLB_ID => [F.GLB_ID_PART, F.GLB_ID_STEP]
  | .GLB_CMT => [F.GLB_CMT_REVERT, F.GLB_CMT_ISSUE]
  | .GLB_CMT_STAT => [F.GLB_CMT_STAT_RESULT, F.GLB_CMT_STAT_MASTER, F.GLB_CMT_STAT_CHECK, F.GLB_CMT_STAT_TAKEN]
  | .GLB_CMT_OFS => [F.GLB_CMT_OFS_OFFSET]
  | .GLB_SEM => [F.GLB_SEM_HELD, F.GLB_SEM_GOT, F.GLB_SEM_HOLDER, F.GLB_SEM_DIRTY, F.GLB_SEM_REMAIN, F.GLB_SEM_RELEASE]
  | .GLB_SEM_CFG => [F.GLB_SEM_CFG_LEASE]
  | .GLB_CFG_CRC_CTRL => [F.GLB_CFG_CRC_CTRL_EN, F.GLB_CFG_CRC_CTRL_MISMATCH, F.GLB_CFG_CRC_CTRL_MCOUNT]
  | .GLB_CFG_CRC_REF => [F.GLB_CFG_CRC_REF_REF]
  | .GLB_CFG_CRC_CUR => [F.GLB_CFG_CRC_CUR_CUR]
  | .GLB_RST => [F.GLB_RST_CORE_WARM, F.GLB_RST_PUMP, F.GLB_RST_POOL, F.GLB_RST_PORT_GO, F.GLB_RST_PORT]
  | .GLB_RST_STAT => [F.GLB_RST_STAT_BUSY, F.GLB_RST_STAT_LAST, F.GLB_RST_STAT_BY_FLT, F.GLB_RST_STAT_SRC, F.GLB_RST_STAT_COUNT]
  | .GLB_PLACE => [F.GLB_PLACE_LOCK, F.GLB_PLACE_ROWS, F.GLB_PLACE_COLS, F.GLB_PLACE_SELF_EID]
  | .GLB_HOST_PLACE => [F.GLB_HOST_PLACE_HOST_EP_EN, F.GLB_HOST_PLACE_HOST_NUM]
  | .FLT_CTRL => [F.FLT_CTRL_SAFE_GO]
  | .FLT_STAT => [F.FLT_STAT_SAFE, F.FLT_STAT_CAUSE, F.FLT_STAT_ALIVE_RUN, F.FLT_STAT_WHERE]
  | .FLT_GFIRST => [F.FLT_GFIRST_VALID, F.FLT_GFIRST_SEV, F.FLT_GFIRST_KIND, F.FLT_GFIRST_SOURCE]
  | .FLT_PIN => [F.FLT_PIN_LATCH, F.FLT_PIN_FORCE, F.FLT_PIN_LEVEL]
  | .FLT_SEVMAP => [F.FLT_SEVMAP_IRQ, F.FLT_SEVMAP_SB, F.FLT_SEVMAP_NMI, F.FLT_SEVMAP_BLK, F.FLT_SEVMAP_CHIP, F.FLT_SEVMAP_PIN, F.FLT_SEVMAP_VEC]
  | .FLT_DA_CFG => [F.FLT_DA_CFG_HOLDOFF, F.FLT_DA_CFG_HIVL]
  | .FLT_DA_RELAY => [F.FLT_DA_RELAY_LP3, F.FLT_DA_RELAY_LP2, F.FLT_DA_RELAY_LP1, F.FLT_DA_RELAY_LP0]
  | .FLT_DA_STAT => [F.FLT_DA_STAT_SEQ_OK, F.FLT_DA_STAT_OWN_ACT, F.FLT_DA_STAT_COVER_ACT, F.FLT_DA_STAT_RESIGNED, F.FLT_DA_STAT_TAKEBACK, F.FLT_DA_STAT_P_SEEN, F.FLT_DA_STAT_P_FLAGS, F.FLT_DA_STAT_HOLD_LEFT]
  | .FLT_PEND => [F.FLT_PEND_PEND]
  | .FLT_SRC_CFG => [F.FLT_SRC_CFG_EN, F.FLT_SRC_CFG_PEND, F.FLT_SRC_CFG_SEV, F.FLT_SRC_CFG_PSEV]
  | .FLT_KSEV => (List.range 64).flatMap fun k => [F.FLT_KSEV_OVR k, F.FLT_KSEV_SEV k]
  | .FLT_CAP => [F.FLT_CAP_VALID, F.FLT_CAP_SEV, F.FLT_CAP_KIND, F.FLT_CAP_MASTER, F.FLT_CAP_ACCESS, F.FLT_CAP_PORT, F.FLT_CAP_ADDR_LO, F.FLT_CAP_ADDR_HI, F.FLT_CAP_TIME_LO, F.FLT_CAP_TIME_HI, F.FLT_CAP_COUNT, F.FLT_CAP_LAST_KIND]
  | .PWR_CAP_HOST => [F.PWR_CAP_HOST_CAP]
  | .PWR_CAP_RACK => [F.PWR_CAP_RACK_CAP]
  | .PWR_LEASE => [F.PWR_LEASE_LEASE, F.PWR_LEASE_FALLBACK]
  | .PWR_LEASE_LEFT => [F.PWR_LEASE_LEFT_LEFT]
  | .PWR_LOOP => [F.PWR_LOOP_PSTEP_U, F.PWR_LOOP_PSTEP_F, F.PWR_LOOP_HYST, F.PWR_LOOP_U_MIN]
  | .PWR_BRK_CFG => [F.PWR_BRK_CFG_BRK_F, F.PWR_BRK_CFG_BRK_HOLD, F.PWR_BRK_CFG_BRK_MARGIN, F.PWR_BRK_CFG_BRK_U]
  | .PWR_BRK_STAT => [F.PWR_BRK_STAT_PIN, F.PWR_BRK_STAT_COOL, F.PWR_BRK_STAT_UV, F.PWR_BRK_STAT_CAPDROP, F.PWR_BRK_STAT_LEAK, F.PWR_BRK_STAT_TOPER, F.PWR_BRK_STAT_HOST_REQ, F.PWR_BRK_STAT_RACK_REQ, F.PWR_BRK_STAT_COUNT]
  | .PWR_BRK_REQ => [F.PWR_BRK_REQ_RACK_REQ, F.PWR_BRK_REQ_HOST_REQ]
  | .PWR_THERM_CFG => [F.PWR_THERM_CFG_T_SHUT, F.PWR_THERM_CFG_T_OPER, F.PWR_THERM_CFG_T_THR, F.PWR_THERM_CFG_INLET_MAX]
  | .PWR_COOL_CFG => [F.PWR_COOL_CFG_CF_SHUT, F.PWR_COOL_CFG_KFLOW]
  | .PWR_TEMP => [F.PWR_TEMP_TJ_MAX, F.PWR_TEMP_T_IN, F.PWR_TEMP_T_OUT, F.PWR_TEMP_HOT]
  | .PWR_SENS_FAIL => [F.PWR_SENS_FAIL_FAILED]
  | .PWR_STAT => [F.PWR_STAT_EFF_CAP, F.PWR_STAT_BIND, F.PWR_STAT_LEASE_OK, F.PWR_STAT_BRAKE, F.PWR_STAT_OVERRUN, F.PWR_STAT_THROT]
  | .PWR_LEVEL => [F.PWR_LEVEL_F_NOW, F.PWR_LEVEL_F_CAP, F.PWR_LEVEL_U_NOW]
  | .PWR_MEAS => [F.PWR_MEAS_P, F.PWR_MEAS_P_T]
  | .PWR_FTAB => [F.PWR_FTAB_CAP, F.PWR_FTAB_F]
  | .PWR_ATEST => [F.PWR_ATEST_SEL, F.PWR_ATEST_IDX]
  | .TIM_NOW_LO => [F.TIM_NOW_LO_NOW]
  | .TIM_NOW_HI => [F.TIM_NOW_HI_NOW]
  | .TIM_CTRL => [F.TIM_CTRL_LATE_FLT, F.TIM_CTRL_NEXT_TT, F.TIM_CTRL_INVAL, F.TIM_CTRL_LOAD_ARM, F.TIM_CTRL_SSC, F.TIM_CTRL_SRC]
  | .TIM_STAT => [F.TIM_STAT_SLIP, F.TIM_STAT_STEPPED, F.TIM_STAT_HOLDOVER, F.TIM_STAT_VALID]
  | .TIM_DISC => [F.TIM_DISC_LOSS_N, F.TIM_DISC_SLEW_MAX, F.TIM_DISC_STEP_THR]
  | .TIM_TICK_ADJ => [F.TIM_TICK_ADJ_ADJ]
  | .TIM_LOAD_LO => [F.TIM_LOAD_LO_LOAD]
  | .TIM_LOAD_HI => [F.TIM_LOAD_HI_LOAD]
  | .TIM_PHASE_ERR => [F.TIM_PHASE_ERR_ERR]
  | .TIM_IB => [F.TIM_IB_RELAY_LP, F.TIM_IB_SYNC_IVL]
  | .TIM_IB_DELAY => [F.TIM_IB_DELAY_DELAY]
  | .TIM_CMT_WHEN => [F.TIM_CMT_WHEN_CANCEL, F.TIM_CMT_WHEN_MODE]
  | .TIM_CMT_AT_LO => [F.TIM_CMT_AT_LO_AT]
  | .TIM_CMT_AT_HI => [F.TIM_CMT_AT_HI_AT]
  | .TIM_CMT_STAT => [F.TIM_CMT_STAT_PENDING, F.TIM_CMT_STAT_RESULT]
  | .TIM_TT_CTRL => [F.TIM_TT_CTRL_ADMIT_B, F.TIM_TT_CTRL_ADMIT_A, F.TIM_TT_CTRL_SEAL_B, F.TIM_TT_CTRL_SEAL_A]
  | .TIM_TT_STAT => [F.TIM_TT_STAT_ACTIVE, F.TIM_TT_STAT_STATE_B, F.TIM_TT_STAT_STATE_A]
  | .TIM_TT_PER => [F.TIM_TT_PER_PERIOD]
  | .TIM_TT_PHASE => [F.TIM_TT_PHASE_PHASE]
  | .TIM_ADM_CFG => [F.TIM_ADM_CFG_HOP_T, F.TIM_ADM_CFG_CIST_RSV]
  | .TIM_ADM_STAT => [F.TIM_ADM_STAT_BUSY, F.TIM_ADM_STAT_BANK, F.TIM_ADM_STAT_RESULT, F.TIM_ADM_STAT_LP, F.TIM_ADM_STAT_VC, F.TIM_ADM_STAT_GID]
  | .TIM_ADM_NEED => [F.TIM_ADM_NEED_NEED]
  | .TIM_ADM_HAVE => [F.TIM_ADM_HAVE_HAVE]
  | .TIM_RISK => [F.TIM_RISK_AT_RISK, F.TIM_RISK_RESULT, F.TIM_RISK_LP, F.TIM_RISK_VC, F.TIM_RISK_GID]
  | .TIM_ADM_TICK => [F.TIM_ADM_TICK_OFFSET]
  | .TIM_WIN_A => [F.TIM_WIN_A_VALID, F.TIM_WIN_A_GV, F.TIM_WIN_A_VC, F.TIM_WIN_A_LP, F.TIM_WIN_A_GID, F.TIM_WIN_A_START, F.TIM_WIN_A_LEN, F.TIM_WIN_A_LEN_HI, F.TIM_WIN_A_RATE]
  | .TIM_WIN_B => [F.TIM_WIN_B_VALID, F.TIM_WIN_B_GV, F.TIM_WIN_B_VC, F.TIM_WIN_B_LP, F.TIM_WIN_B_GID, F.TIM_WIN_B_START, F.TIM_WIN_B_LEN, F.TIM_WIN_B_LEN_HI, F.TIM_WIN_B_RATE]
  | .TIM_GRP_A => [F.TIM_GRP_A_VALID, F.TIM_GRP_A_STRICT, F.TIM_GRP_A_CIST_KIB, F.TIM_GRP_A_GID, F.TIM_GRP_A_START, F.TIM_GRP_A_DEADLINE, F.TIM_GRP_A_VOL, F.TIM_GRP_A_OPS]
  | .TIM_GRP_B => [F.TIM_GRP_B_VALID, F.TIM_GRP_B_STRICT, F.TIM_GRP_B_CIST_KIB, F.TIM_GRP_B_GID, F.TIM_GRP_B_START, F.TIM_GRP_B_DEADLINE, F.TIM_GRP_B_VOL, F.TIM_GRP_B_OPS]
  | .HST_STAT => [F.HST_STAT_RECV, F.HST_STAT_INFLIGHT]
  | .HST_CR => [F.HST_CR_EN, F.HST_CR_STATE, F.HST_CR_ERR, F.HST_CR_LOG2N, F.HST_CR_CQ, F.HST_CR_BASE_LO, F.HST_CR_BASE_HI, F.HST_CR_KINDMASK, F.HST_CR_HEAD, F.HST_CR_TAIL, F.HST_CR_INFLIGHT]
  | .HST_CQ => [F.HST_CQ_EN, F.HST_CQ_IRQ_EN, F.HST_CQ_FULL, F.HST_CQ_LOG2N, F.HST_CQ_VEC, F.HST_CQ_BASE_LO, F.HST_CQ_BASE_HI, F.HST_CQ_TMR, F.HST_CQ_CNT, F.HST_CQ_HEAD, F.HST_CQ_PHASE, F.HST_CQ_TAIL, F.HST_CQ_HELD]
  | .MSIX_TABLE => [F.MSIX_TABLE_ADDR_LO, F.MSIX_TABLE_ADDR_HI, F.MSIX_TABLE_DATA, F.MSIX_TABLE_MASK]
  | .MSIX_PBA => [F.MSIX_PBA_PEND]
  | .SWC_BANK_CTRL => [F.SWC_BANK_CTRL_SEAL_B, F.SWC_BANK_CTRL_SEAL_A, F.SWC_BANK_CTRL_NEXT_ACTIVE]
  | .SWC_BANK_STAT => [F.SWC_BANK_STAT_ACTIVE, F.SWC_BANK_STAT_STATE_B, F.SWC_BANK_STAT_STATE_A]
  | .SWC_BANK_CNT => [F.SWC_BANK_CNT_COUNT]
  | .SWC_BANK_HOLD => [F.SWC_BANK_HOLD_HOLD]
  | .SWC_RB_CFG => [F.SWC_RB_CFG_OUT_CAP, F.SWC_RB_CFG_VC_RSV]
  | .SWC_RESEQ_TO => [F.SWC_RESEQ_TO_TO]
  | .SWC_RTE_CTRL => [F.SWC_RTE_CTRL_PIN_RSP, F.SWC_RTE_CTRL_PIN_REQ, F.SWC_RTE_CTRL_RND_VIA]
  | .SWC_RTE_SEED => [F.SWC_RTE_SEED_SEED]
  | .SWC_RTE_RESLIM => [F.SWC_RTE_RESLIM_RES_LIM]
  | .SWC_QMARK => [F.SWC_QMARK_THR]
  | .SWC_RB_OCC => [F.SWC_RB_OCC_CUR]
  | .SWC_FWD_A => [F.SWC_FWD_A_VALID, F.SWC_FWD_A_ACT, F.SWC_FWD_A_PSET, F.SWC_FWD_A_LPORT]
  | .SWC_FWD_B => [F.SWC_FWD_B_VALID, F.SWC_FWD_B_ACT, F.SWC_FWD_B_PSET, F.SWC_FWD_B_LPORT]
  | .SWC_PSET_A => [F.SWC_PSET_A_VALID, F.SWC_PSET_A_MASK, F.SWC_PSET_A_BASE_P]
  | .SWC_PSET_B => [F.SWC_PSET_B_VALID, F.SWC_PSET_B_MASK, F.SWC_PSET_B_BASE_P]
  | .SWC_MIR_CTRL => [F.SWC_MIR_CTRL_EN, F.SWC_MIR_CTRL_DIR, F.SWC_MIR_CTRL_TO_HOST, F.SWC_MIR_CTRL_DST_LP, F.SWC_MIR_CTRL_SRC_LP, F.SWC_MIR_CTRL_SAMPLE_N]
  | .SWC_MIR_MATCH => [F.SWC_MIR_MATCH_HASH, F.SWC_MIR_MATCH_OPCODE, F.SWC_MIR_MATCH_VC_MASK]
  | .SWC_MIR_MASK => [F.SWC_MIR_MASK_HASH_MASK, F.SWC_MIR_MASK_OPC_EN]
  | .PRT_CTRL => [F.PRT_CTRL_EN, F.PRT_CTRL_RETRAIN, F.PRT_CTRL_LOOP, F.PRT_CTRL_SPLIT, F.PRT_CTRL_CLKMODE, F.PRT_CTRL_WIDTH_MIN, F.PRT_CTRL_EIDLE_T]
  | .PRT_LINK_CFG => [F.PRT_LINK_CFG_REPLAY_MAX, F.PRT_LINK_CFG_REPLAY_TO, F.PRT_LINK_CFG_UNC_LIM, F.PRT_LINK_CFG_DETECT_IVL]
  | .PRT_LSTAT => [F.PRT_LSTAT_STAGE, F.PRT_LSTAT_REVERSED, F.PRT_LSTAT_EIDLE_TX, F.PRT_LSTAT_EIDLE_RX, F.PRT_LSTAT_LOOP_SLAVE, F.PRT_LSTAT_TXW, F.PRT_LSTAT_RXW, F.PRT_LSTAT_TXMASK, F.PRT_LSTAT_RXMASK]
  | .PRT_LERR => [F.PRT_LERR_LAST_DOWN, F.PRT_LERR_REPLAYS, F.PRT_LERR_BAD_BLOCKS]
  | .PRT_PEER => [F.PRT_PEER_VALID, F.PRT_PEER_MATCH, F.PRT_PEER_HALF, F.PRT_PEER_PPORT, F.PRT_PEER_EID]
  | .PRT_CRED => [F.PRT_CRED_RSV, F.PRT_CRED_FLEX_SH]
  | .PRT_INJ => [F.PRT_INJ_KIND, F.PRT_INJ_CMODE, F.PRT_INJ_RATE]
  | .PRT_CELL_GAP => [F.PRT_CELL_GAP_GAP]
  | .PRT_ARB => [F.PRT_ARB_STARVE]
  | .PRT_ARB_WT => [F.PRT_ARB_WT_W7, F.PRT_ARB_WT_W6, F.PRT_ARB_WT_W5, F.PRT_ARB_WT_W4, F.PRT_ARB_WT_W3, F.PRT_ARB_WT_W2, F.PRT_ARB_WT_W1]
  | .PRT_PAUSE => [F.PRT_PAUSE_LIMIT, F.PRT_PAUSE_LAST_DUR, F.PRT_PAUSE_PAUSED1, F.PRT_PAUSE_PAUSED0]
  | .LNK_STAT => [F.LNK_STAT_LOCK, F.LNK_STAT_IN_USE, F.LNK_STAT_POL_INV, F.LNK_STAT_BAD, F.LNK_STAT_BADWHY, F.LNK_STAT_POS]
  | .LNK_CTRL => [F.LNK_CTRL_DROP]
  | .LNK_TXEQ => [F.LNK_TXEQ_ADAPT, F.LNK_TXEQ_POST, F.LNK_TXEQ_PRE]
  | .LNK_TXEQ_ACT => [F.LNK_TXEQ_ACT_MAIN, F.LNK_TXEQ_ACT_POST, F.LNK_TXEQ_ACT_PRE]
  | .LNK_FEC_CORR => [F.LNK_FEC_CORR_COUNT]
  | .LNK_FEC_UNC => [F.LNK_FEC_UNC_COUNT]
  | .LNK_ESCAN => [F.LNK_ESCAN_GO, F.LNK_ESCAN_BUSY, F.LNK_ESCAN_EYE, F.LNK_ESCAN_PHASE, F.LNK_ESCAN_VOFF, F.LNK_ESCAN_LOG2N]
  | .LNK_ESCAN_ERR => [F.LNK_ESCAN_ERR_ERR]
  | .LNK_PRBS => [F.LNK_PRBS_TX_EN, F.LNK_PRBS_RX_EN]
  | .LNK_PRBS_ERR => [F.LNK_PRBS_ERR_COUNT]
  | .LNK_PRBS_BITS => [F.LNK_PRBS_BITS_COUNT]
  | .GRP_CMD => [F.GRP_CMD_OPC, F.GRP_CMD_GID]
  | .GRP_CMD_STAT => [F.GRP_CMD_STAT_BUSY, F.GRP_CMD_STAT_RESULT, F.GRP_CMD_STAT_GID]
  | .GRP_SHAPE => [F.GRP_SHAPE_NROW, F.GRP_SHAPE_ROW0, F.GRP_SHAPE_NCOL, F.GRP_SHAPE_COL0, F.GRP_SHAPE_SLOT0, F.GRP_SHAPE_NSLOT]
  | .GRP_SEQ_CFG => [F.GRP_SEQ_CFG_TOKEN_DLY]
  | .GRP_ABORT_LAST => [F.GRP_ABORT_LAST_CODE, F.GRP_ABORT_LAST_GID]
  | .GRP_ABORT_SEQ => [F.GRP_ABORT_SEQ_SEQ]
  | .GRP_ALG_CFG => [F.GRP_ALG_CFG_WAVE]
  | .GRP_PLANE_LIVE => [F.GRP_PLANE_LIVE_LIVE]
  | .GRP_ENT => [F.GRP_ENT_STATE, F.GRP_ENT_MODE, F.GRP_ENT_ROW_ST, F.GRP_ENT_COL_ST, F.GRP_ENT_ACT_BANK, F.GRP_ENT_NEXT_BANK, F.GRP_ENT_HOME, F.GRP_ENT_PMASK, F.GRP_ENT_GEPOCH, F.GRP_ENT_RBASE, F.GRP_ENT_HOME_ROW, F.GRP_ENT_HOME_COL, F.GRP_ENT_NRANK, F.GRP_ENT_NLOCAL, F.GRP_ENT_GTO, F.GRP_ENT_WEIGHT, F.GRP_ENT_QLOG, F.GRP_ENT_QBASE, F.GRP_ENT_CIST_MAX, F.GRP_ENT_LAT_KIB, F.GRP_ENT_NEXT_SEQ]
  | .GRP_RANK_A => [F.GRP_RANK_A_VALID, F.GRP_RANK_A_CHILD, F.GRP_RANK_A_RANK, F.GRP_RANK_A_LP]
  | .GRP_RANK_B => [F.GRP_RANK_B_VALID, F.GRP_RANK_B_CHILD, F.GRP_RANK_B_RANK, F.GRP_RANK_B_LP]
  | .GRP_QSTORE => []
  | .PMP_STAT => [F.PMP_STAT_STATE, F.PMP_STAT_CAUSE, F.PMP_STAT_REPL]
  | .PMP_CTRL => [F.PMP_CTRL_RETIRE, F.PMP_CTRL_TEST_GO, F.PMP_CTRL_RESTORE]
  | .PMP_TEST => [F.PMP_TEST_BUSY, F.PMP_TEST_PASS, F.PMP_TEST_NFAIL]
  | .PMP_ERRCNT => [F.PMP_ERRCNT_MISMATCH, F.PMP_ERRCNT_PARITY]
  | .PMP_CIST => [F.PMP_CIST_FREE]
  | .PMP_POOL => [F.PMP_POOL_RETIRED, F.PMP_POOL_SPARES, F.PMP_POOL_ACTIVE]
  | .PMP_CFG => [F.PMP_CFG_SOFT_WIN, F.PMP_CFG_SOFT_LIM]
  | .PMP_FREQ => [F.PMP_FREQ_F]
  | .PMP_SCRUB => [F.PMP_SCRUB_IVL]
  | .WEL_STAT => [F.WEL_STAT_INIT_DONE, F.WEL_STAT_STACK_OK, F.WEL_STAT_DIMM_OK]
  | .WEL_FAR_CFG => [F.WEL_FAR_CFG_DPC2, F.WEL_FAR_CFG_NCH, F.WEL_FAR_CFG_DIMM_GIB]
  | .WEL_CFG => [F.WEL_CFG_UE_LIM, F.WEL_CFG_RETRY]
  | .WEL_SCRUB => [F.WEL_SCRUB_FAR_H, F.WEL_SCRUB_NEAR_H]
  | .WEL_CTX_CFG => [F.WEL_CTX_CFG_TO]
  | .WEL_AP_BASE => [F.WEL_AP_BASE_BASE]
  | .WEL_HOT_CFG => [F.WEL_HOT_CFG_EN, F.WEL_HOT_CFG_BASE]
  | .WEL_WAIT_STAT => [F.WEL_WAIT_STAT_INUSE]
  | .WEL_DEV => [F.WEL_DEV_OUT, F.WEL_DEV_TAKE_OUT, F.WEL_DEV_CORR, F.WEL_DEV_UNCORR]
  | .WEL_MIR => [F.WEL_MIR_EN, F.WEL_MIR_STATE, F.WEL_MIR_SIZE_G, F.WEL_MIR_BASE_G, F.WEL_MIR_MBASE_G]
  | .WEL_SO_CMD => [F.WEL_SO_CMD_SOP, F.WEL_SO_CMD_SO]
  | .WEL_SO_ARG0_LO => [F.WEL_SO_ARG0_LO_VAL]
  | .WEL_SO_ARG0_HI => [F.WEL_SO_ARG0_HI_VAL]
  | .WEL_SO_ARG1_LO => [F.WEL_SO_ARG1_LO_VAL]
  | .WEL_SO_ARG1_HI => [F.WEL_SO_ARG1_HI_VAL]
  | .WEL_SO_RES_LO => [F.WEL_SO_RES_LO_VAL]
  | .WEL_SO_RES_HI => [F.WEL_SO_RES_HI_VAL]
  | .WEL_SO_CSTAT => [F.WEL_SO_CSTAT_BUSY, F.WEL_SO_CSTAT_STATUS]
  | .WEL_CTX_OPEN => [F.WEL_CTX_OPEN_OPEN]
  | .WEL_HOT_CNT => [F.WEL_HOT_CNT_CNT]
  | .WEL_FWD => [F.WEL_FWD_VALID, F.WEL_FWD_SRC_PAGE, F.WEL_FWD_DST_PAGE]
  | .WEL_SO => [F.WEL_SO_TYPE, F.WEL_SO_WAITERS, F.WEL_SO_TARGET, F.WEL_SO_VAL_LO, F.WEL_SO_VAL_HI, F.WEL_SO_LAST_TICK]
  | .RMS_CFG => [F.RMS_CFG_EN, F.RMS_CFG_BASE_G, F.RMS_CFG_STRIPE_G, F.RMS_CFG_SNAP_G]
  | .RMS_HB_CFG => [F.RMS_HB_CFG_EN, F.RMS_HB_CFG_HB_BASE, F.RMS_HB_CFG_MISS, F.RMS_HB_CFG_IVL]
  | .RMS_HB_LATE => [F.RMS_HB_LATE_LATE]
  | .RMS_FENCE => [F.RMS_FENCE_FENCE]
  | .RMS_CMT => [F.RMS_CMT_VALID, F.RMS_CMT_ADOPT, F.RMS_CMT_SO, F.RMS_CMT_GID, F.RMS_CMT_COMMITS]
  | .RMS_ROOM => [F.RMS_ROOM_EN, F.RMS_ROOM_NEXT_EN, F.RMS_ROOM_OPEN_KIND, F.RMS_ROOM_BSLOT, F.RMS_ROOM_OWNER, F.RMS_ROOM_NEXT_OWNER, F.RMS_ROOM_GID, F.RMS_ROOM_LOCK_EPOCH, F.RMS_ROOM_CMT_GEN, F.RMS_ROOM_BASE_GEN, F.RMS_ROOM_JCMT, F.RMS_ROOM_SNAP_LEN, F.RMS_ROOM_OPEN_HIGH]
  | .TEL_USER_EN => [F.TEL_USER_EN_REGION]
  | .TEL_BW_CFG => [F.TEL_BW_CFG_WIN]
  | .TEL_RING_LO => [F.TEL_RING_LO_BASE]
  | .TEL_RING_HI => [F.TEL_RING_HI_BASE]
  | .TEL_RING_CFG => [F.TEL_RING_CFG_EN, F.TEL_RING_CFG_IRQ_EN, F.TEL_RING_CFG_VEC, F.TEL_RING_CFG_PAGES]
  | .TEL_RING_WPTR => [F.TEL_RING_WPTR_PTR]
  | .TEL_RING_RPTR => [F.TEL_RING_RPTR_PTR]
  | .TEL_PER_CFG => [F.TEL_PER_CFG_EN, F.TEL_PER_CFG_CLEAR, F.TEL_PER_CFG_SEL]
  | .TEL_PER_IVL => [F.TEL_PER_IVL_IVL]
  | .TEL_STAT => [F.TEL_STAT_BUSY, F.TEL_STAT_DUMP_SEQ]
  | .TEL_DROP => [F.TEL_DROP_SKIPPED, F.TEL_DROP_MIR_DROP]
  | .TEL_FILT => [F.TEL_FILT_EN, F.TEL_FILT_SPACE, F.TEL_FILT_PRIV, F.TEL_FILT_CLASS, F.TEL_FILT_SRC_LP, F.TEL_FILT_ADDR_LO, F.TEL_FILT_ADDR_LO_HI, F.TEL_FILT_ADDR_HI, F.TEL_FILT_ADDR_HI_HI]
  | .TEL_CNT => []
  | .GMC_STAT => [F.GMC_STAT_ROLE0, F.GMC_STAT_ROLE1, F.GMC_STAT_SLOT, F.GMC_STAT_TRIAL, F.GMC_STAT_FALLBACK, F.GMC_STAT_OWNER_IMG, F.GMC_STAT_STAGE, F.GMC_STAT_ERROR]
  | .GMC_VER => [F.GMC_VER_VALUE]
  | .GMC_SVN => [F.GMC_SVN_VALUE]
  | .GMC_MIN_SVN => [F.GMC_MIN_SVN_VALUE]
  | .GMC_CTRL => [F.GMC_CTRL_GMC_RST]
  | .GMC_WDT => [F.GMC_WDT_PERIOD, F.GMC_WDT_KICK1, F.GMC_WDT_KICK0]
  | .GMC_MB_CTRL => [F.GMC_MB_CTRL_GO, F.GMC_MB_CTRL_BUSY, F.GMC_MB_CTRL_DONE, F.GMC_MB_CTRL_IRQ_EN, F.GMC_MB_CTRL_VEC]
  | .GMC_MB_REQ => [F.GMC_MB_REQ_DATA]
  | .GMC_MB_RSP => [F.GMC_MB_RSP_DATA]

/-- A run of the arrays, in rising order of base offset. -/
def regRun0 : List RegName := [.GLB_ID, .GLB_CMT, .GLB_CMT_STAT, .GLB_CMT_OFS, .GLB_SEM, .GLB_SEM_CFG, .GLB_CFG_CRC_CTRL, .GLB_CFG_CRC_REF, .GLB_CFG_CRC_CUR, .GLB_RST, .GLB_RST_STAT, .GLB_PLACE, .GLB_HOST_PLACE, .FLT_CTRL, .FLT_STAT, .FLT_GFIRST]
/-- A run of the arrays, in rising order of base offset. -/
def regRun1 : List RegName := [.FLT_PIN, .FLT_SEVMAP, .FLT_DA_CFG, .FLT_DA_RELAY, .FLT_DA_STAT, .FLT_PEND, .FLT_SRC_CFG, .FLT_KSEV, .FLT_CAP, .PWR_CAP_HOST, .PWR_CAP_RACK, .PWR_LEASE, .PWR_LEASE_LEFT, .PWR_LOOP, .PWR_BRK_CFG, .PWR_BRK_STAT]
/-- A run of the arrays, in rising order of base offset. -/
def regRun2 : List RegName := [.PWR_BRK_REQ, .PWR_THERM_CFG, .PWR_COOL_CFG, .PWR_TEMP, .PWR_SENS_FAIL, .PWR_STAT, .PWR_LEVEL, .PWR_MEAS, .PWR_FTAB, .PWR_ATEST, .TIM_NOW_LO, .TIM_NOW_HI, .TIM_CTRL, .TIM_STAT, .TIM_DISC, .TIM_TICK_ADJ]
/-- A run of the arrays, in rising order of base offset. -/
def regRun3 : List RegName := [.TIM_LOAD_LO, .TIM_LOAD_HI, .TIM_PHASE_ERR, .TIM_IB, .TIM_IB_DELAY, .TIM_CMT_WHEN, .TIM_CMT_AT_LO, .TIM_CMT_AT_HI, .TIM_CMT_STAT, .TIM_TT_CTRL, .TIM_TT_STAT, .TIM_TT_PER, .TIM_TT_PHASE, .TIM_ADM_CFG, .TIM_ADM_STAT, .TIM_ADM_NEED]
/-- A run of the arrays, in rising order of base offset. -/
def regRun4 : List RegName := [.TIM_ADM_HAVE, .TIM_RISK, .TIM_ADM_TICK, .TIM_WIN_A, .TIM_WIN_B, .TIM_GRP_A, .TIM_GRP_B, .HST_STAT, .HST_CR, .HST_CQ, .MSIX_TABLE, .MSIX_PBA, .SWC_BANK_CTRL, .SWC_BANK_STAT, .SWC_BANK_CNT, .SWC_BANK_HOLD]
/-- A run of the arrays, in rising order of base offset. -/
def regRun5 : List RegName := [.SWC_RB_CFG, .SWC_RESEQ_TO, .SWC_RTE_CTRL, .SWC_RTE_SEED, .SWC_RTE_RESLIM, .SWC_QMARK, .SWC_RB_OCC, .SWC_FWD_A, .SWC_FWD_B, .SWC_PSET_A, .SWC_PSET_B, .SWC_MIR_CTRL, .SWC_MIR_MATCH, .SWC_MIR_MASK, .PRT_CTRL, .PRT_LINK_CFG]
/-- A run of the arrays, in rising order of base offset. -/
def regRun6 : List RegName := [.PRT_LSTAT, .PRT_LERR, .PRT_PEER, .PRT_CRED, .PRT_INJ, .PRT_CELL_GAP, .PRT_ARB, .PRT_ARB_WT, .PRT_PAUSE, .LNK_STAT, .LNK_CTRL, .LNK_TXEQ, .LNK_TXEQ_ACT, .LNK_FEC_CORR, .LNK_FEC_UNC, .LNK_ESCAN]
/-- A run of the arrays, in rising order of base offset. -/
def regRun7 : List RegName := [.LNK_ESCAN_ERR, .LNK_PRBS, .LNK_PRBS_ERR, .LNK_PRBS_BITS, .GRP_CMD, .GRP_CMD_STAT, .GRP_SHAPE, .GRP_SEQ_CFG, .GRP_ABORT_LAST, .GRP_ABORT_SEQ, .GRP_ALG_CFG, .GRP_PLANE_LIVE, .GRP_ENT, .GRP_RANK_A, .GRP_RANK_B, .GRP_QSTORE]
/-- A run of the arrays, in rising order of base offset. -/
def regRun8 : List RegName := [.PMP_STAT, .PMP_CTRL, .PMP_TEST, .PMP_ERRCNT, .PMP_CIST, .PMP_POOL, .PMP_CFG, .PMP_FREQ, .PMP_SCRUB, .WEL_STAT, .WEL_FAR_CFG, .WEL_CFG, .WEL_SCRUB, .WEL_CTX_CFG, .WEL_AP_BASE, .WEL_HOT_CFG]
/-- A run of the arrays, in rising order of base offset. -/
def regRun9 : List RegName := [.WEL_WAIT_STAT, .WEL_DEV, .WEL_MIR, .WEL_SO_CMD, .WEL_SO_ARG0_LO, .WEL_SO_ARG0_HI, .WEL_SO_ARG1_LO, .WEL_SO_ARG1_HI, .WEL_SO_RES_LO, .WEL_SO_RES_HI, .WEL_SO_CSTAT, .WEL_CTX_OPEN, .WEL_HOT_CNT, .WEL_FWD, .WEL_SO, .RMS_CFG]
/-- A run of the arrays, in rising order of base offset. -/
def regRun10 : List RegName := [.RMS_HB_CFG, .RMS_HB_LATE, .RMS_FENCE, .RMS_CMT, .RMS_ROOM, .TEL_USER_EN, .TEL_BW_CFG, .TEL_RING_LO, .TEL_RING_HI, .TEL_RING_CFG, .TEL_RING_WPTR, .TEL_RING_RPTR, .TEL_PER_CFG, .TEL_PER_IVL, .TEL_STAT, .TEL_DROP]
/-- A run of the arrays, in rising order of base offset. -/
def regRun11 : List RegName := [.TEL_FILT, .TEL_CNT, .GMC_STAT, .GMC_VER, .GMC_SVN, .GMC_MIN_SVN, .GMC_CTRL, .GMC_WDT, .GMC_MB_CTRL, .GMC_MB_REQ, .GMC_MB_RSP]

/-- Every array, in rising order of base offset. -/
def allRegs : List RegName :=
  List.flatten [regRun0, regRun1, regRun2, regRun3, regRun4, regRun5, regRun6, regRun7, regRun8, regRun9, regRun10, regRun11]

/-- The same field of a sister array with the same table (bank B for bank A). -/
def Field.onReg (f : Field) (r : RegName) : Field := { f with reg := r }

end Sys2Proof.Machine
end

