-- ==== Sys2Proof/Machine/Bits.lean ====
section
/-! DEFINITION. Bit fields of words, byte order, the three CRCs the spec names, and the sorted list maps that hold
sparse state (an entry equal to what an unlisted key reads as is not listed). -/

namespace Sys2Proof.Machine

/-- Bits [lo + width − 1 : lo] of a number. -/
def bits (v lo width : Nat) : Nat := (v / 2 ^ lo) % 2 ^ width

/-- One bit of a number. -/
def bitAt (v i : Nat) : Bool := v / 2 ^ i % 2 == 1

/-- `v` with bits [lo + width − 1 : lo] replaced by `x` (cut to `width` bits). -/
def putBits (v lo width x : Nat) : Nat :=
  v - bits v lo width * 2 ^ lo + (x % 2 ^ width) * 2 ^ lo

/-- Bits of a word. -/
def wbits (w : Word) (lo width : Nat) : Nat := Sys2Proof.Machine.bits w.toNat lo width

/-- A word with some bits replaced. -/
def wput (w : Word) (lo width x : Nat) : Word := BitVec.ofNat 32 (putBits w.toNat lo width x)

def b2n (b : Bool) : Nat := if b then 1 else 0

/-- `n` bytes of a number, the least significant first. -/
def leBytes : Nat → Nat → List Byte
  | 0, _ => []
  | n + 1, v => BitVec.ofNat 8 v :: leBytes n (v / 256)

/-- The number that bytes spell, the least significant first. -/
def leNat : List Byte → Nat
  | [] => 0
  | b :: bs => b.toNat + 256 * leNat bs

/-- A word as four bytes, little-endian (02 R40). -/
def wbytes (w : Word) : List Byte := leBytes 4 w.toNat

/-- Bytes as words, four at a time, little-endian. The fuel is the number of words. -/
def wordsOf : Nat → List Byte → List Word
  | 0, _ => []
  | n + 1, bs => BitVec.ofNat 32 (leNat (bs.take 4)) :: wordsOf n (bs.drop 4)

/-- Two's complement reading of the low `width` bits. -/
def signed (width v : Nat) : Int :=
  let m := v % 2 ^ width
  if m < 2 ^ (width - 1) then (m : Int) else (m : Int) - (2 ^ width : Nat)

/-- The low `width` bits of an integer in two's complement. -/
def unsigned (width : Nat) (i : Int) : Nat := (i % ((2 ^ width : Nat) : Int)).toNat

/-- One bit step of a reflected CRC. -/
def crcBit (poly c : Nat) : Nat := if c % 2 = 1 then Nat.xor (c / 2) poly else c / 2

/-- One byte of a reflected CRC. -/
def crcByte (poly c : Nat) (b : Byte) : Nat :=
  let x := Nat.xor c b.toNat
  crcBit poly (crcBit poly (crcBit poly (crcBit poly
    (crcBit poly (crcBit poly (crcBit poly (crcBit poly x)))))))

/-- CRC-32C (Castagnoli), bytes taken least significant bit first, no final XOR (04 R112, 11 R303, 13 R381).
PRESUMED: the usual reflected form of CRC-32C (log 8). -/
def crc32c (init : Nat) (bs : List Byte) : Nat := bs.foldl (crcByte 0x82F63B78) init

/-- One bit of the CRC-8 of 15 R412 (polynomial 0x07, most significant bit first). -/
def crc8Bit (c : Nat) (b : Bool) : Nat :=
  let x := (c * 2) % 256
  if xor (c / 128 % 2 == 1) b then Nat.xor x 0x07 else x

/-- The CRC-8 of 15 R412 over bits [n−1 : 0] of a message, the highest bit first. -/
def crc8 : Nat → Nat → Nat → Nat
  | 0, _, c => c
  | n + 1, v, c => crc8 n v (crc8Bit c (bitAt v n))

/-- One bit of a CRC-16, most significant bit first. -/
def crc16Bit (poly c : Nat) : Nat :=
  let x := (c * 2) % 65536
  if c / 32768 % 2 = 1 then Nat.xor x poly else x

/-- A CRC-16, bytes most significant bit first. -/
def crc16 (poly : Nat) (init : Nat) (bs : List Byte) : Nat :=
  bs.foldl (fun c b =>
    let x := Nat.xor c (b.toNat * 256)
    crc16Bit poly (crc16Bit poly (crc16Bit poly (crc16Bit poly
      (crc16Bit poly (crc16Bit poly (crc16Bit poly (crc16Bit poly x)))))))) init

/-! ## Sorting -/

/-- Put an element before the first that it is not greater than. -/
def insertBy {α : Type} (le : α → α → Bool) (x : α) : List α → List α
  | [] => [x]
  | y :: ys => if le x y then x :: y :: ys else y :: insertBy le x ys

/-- Sort a list, equals in their order. -/
def sortBy {α : Type} (le : α → α → Bool) : List α → List α
  | [] => []
  | x :: xs => insertBy le x (sortBy le xs)

/-! ## Sorted list maps -/

/-- The value at a key. -/
def mget {α : Type} (m : List (Nat × α)) (k : Nat) : Option α :=
  match m with
  | [] => none
  | (j, v) :: r => if j = k then some v else mget r k

/-- Set a key, keeping the keys strictly rising. -/
def mput {α : Type} (m : List (Nat × α)) (k : Nat) (v : α) : List (Nat × α) :=
  match m with
  | [] => [(k, v)]
  | (j, w) :: r =>
    if k < j then (k, v) :: (j, w) :: r
    else if k = j then (k, v) :: r
    else (j, w) :: mput r k v

/-- Remove a key. -/
def mdel {α : Type} (m : List (Nat × α)) (k : Nat) : List (Nat × α) :=
  m.filter fun e => e.1 != k

/-- Set a key to `v`, or remove it where `v` is what an unlisted key reads as. -/
def mset {α : Type} [DecidableEq α] (dflt : α) (m : List (Nat × α)) (k : Nat) (v : α) : List (Nat × α) :=
  if v = dflt then mdel m k else mput m k v

/-- The value at a key, or the default. -/
def mgetD {α : Type} (m : List (Nat × α)) (k : Nat) (d : α) : α := (mget m k).getD d

/-- The canonical form: keys strictly rising, no value the unlisted one. -/
def mapWf {α : Type} [DecidableEq α] (dflt : α) (m : List (Nat × α)) : Bool :=
  match m with
  | [] => true
  | (_, v) :: [] => v != dflt
  | (j, v) :: (k, w) :: r => decide (j < k) && (v != dflt) && mapWf dflt ((k, w) :: r)

end Sys2Proof.Machine
end

