-- ==== Sys2Proof/Machine/State.lean ====
section
/-! DEFINITION. The state of the block as plain data, its two closed lists of reasons to stop, and the state right
after reset. Registers live in `Regs` under the bit address of each field (see Registers.lean); everything the spec
describes that is not a register field stands in the records below. -/

namespace Sys2Proof.Machine

/-! ## Registers -/

/-- The register file. `plain` holds every field that is not Shadowed, `shadow` and `live` the two copies of each
Shadowed field (13 R375). Keys are bit addresses (byte offset × 8 + lowest bit); a field at its reset value is not
listed. -/
structure Regs where
  plain : List (Nat × Nat)
  shadow : List (Nat × Nat)
  live : List (Nat × Nat)
  deriving DecidableEq, Repr

/-! ## What the block drives out -/

/-- One thing the block has sent, newest first in `State.outbox` (the model's own record of outputs). -/
inductive Out where
  /-- A link block sent on a logical port: sequence number, slots, LCW bits, CRC (11 R303). -/
  | block (lp seq : Nat) (slots : List Cell) (lcw crc : Nat)
  /-- Training frames sent on a logical port in a stage, one for each lane that sends (11 R314, R315). -/
  | train (lp stage : Nat) (frames : List Nat)
  /-- A training burst on a logical port with the RMASK it carries (11 R321, R322). -/
  | burst (lp rmask : Nat)
  /-- PAM4 levels on a physical lane: of a codeword, or the first of a PRBS31 pattern (11 R301, R302, R325). -/
  | levels (lane : Nat) (ys : List Nat)
  /-- A training frame echoed on the physical lane on which it came (11 R324). -/
  | echo (lane frame : Nat)
  /-- A register or BAR read answered to a master. -/
  | readData (m : Master) (off val : Nat)
  /-- Bytes written to host memory. -/
  | hostWrite (addr : Nat) (data : List Byte)
  /-- An MSI-X message (12 R355). -/
  | msix (vec : Nat)
  /-- An I3C in-band interrupt with its mandatory byte (12 R357, 15 R415). -/
  | ibi (byte : Nat)
  /-- The trap to the ACTIVE Gesta core (15 R415). -/
  | nmi
  /-- ERR_FATAL on PCIe (15 R424). -/
  | errFatal
  /-- A completion of a BAR4 access: its data, or Unsupported Request (09 R263), which also completes a PCIe AtomicOp and every read
  in D3hot (12 R330, R331). -/
  | bar4 (data : List Byte)
  | bar4Ur
  /-- An I3C response. -/
  | i3c (data : List Byte)
  /-- An MCTP control or vendor-defined response (12 R357, R358). -/
  | mctp (data : List Byte)
  /-- A PLDM message of the firmware update: its command and completion code or result (14 R407). -/
  | pldm (cmd code : Nat)
  /-- With an ActivateFirmware: the microcode waits for the next chip cold reset (14 R407). -/
  | ucodePending
  /-- An SPDM response on a way in (0 DOE, 1 MCTP over PCIe, 2 MCTP over I3C): the request answered and its parts (14 R408). -/
  | spdm (way code : Nat) (parts : List (List Byte))
  /-- A DOE answer, or Busy (12 R330, 14 R400). -/
  | doe (data : List Byte)
  | doeBusy
  /-- A console line (18 R482, R483). -/
  | line (text : String)
  /-- Bytes that the console prints in a layout the spec does not give. -/
  | cons (data : List Byte)
  deriving DecidableEq, Repr

/-! ## Switch core (files 02, 03, 04) -/

/-- Reassembly of one (logical port, VC): 02 R42. `drop` is set when the rest of the packet is being discarded;
`pend` is the discard reason waiting to be counted at the packet's end (02 R67); `ncells` is 0 for a reserved LEN (R53);
`hdr` the header as it came in. -/
structure Asm where
  pid : Nat
  hdr : Header
  next : Nat
  ncells : Nat
  drop : Bool
  pend : Nat
  tLast : Nat
  deriving DecidableEq, Repr

/-- What a mirror copy keeps of its session from the moment the packet's head was examined (03 R96, R101; 17 R474): the session,
its direction, the logical port observed, the fabric time. -/
structure MirTag where
  ses : Nat
  dir : Nat
  lp : Nat
  time : Nat
  deriving DecidableEq, Repr

/-- One output of a packet: its port `lp` is a logical port, 160 for the host path, 161 for the local station, 162 + m for a
copy of mirror session m to the host. `id` names the output within the packet: the port itself, or 1,000 × (m + 1) above it for
a copy of session m. `mir` is that session (03 R96) and `hdr` the header its copy carries; `sent` counts the cells that have left; `rewrite` asks for the DST_EID of the port's partner
(02 R62); `fin` is set when nothing more will leave there; `endTc` is the tail code that ends it there (02 R49). -/
structure Target where
  id : Nat
  lp : Nat
  mir : Option MirTag
  hdr : Option Header
  sent : Nat
  rewrite : Bool
  fin : Bool
  endTc : Option Nat
  mark : Bool
  deriving DecidableEq, Repr

/-- What a packet that the station sent belongs to, so that a RESULT can be sent again (06 R181) and the last RESULT of
an operation known (05 R140): the group, the chunk and the up or down direction. -/
structure ResTag where
  gid : Nat
  seq : Nat
  chunk : Nat
  k : Nat
  deriving DecidableEq, Repr

/-- A packet inside the chip. `arr` is the logical port it arrived on (160 host path, 161 local station), `src` the
stage-one source (0–79 a position's ingress, 80–159 an injector slice), `tHead` when its head was checked or injected and `tFab` the fabric time then,
`rxDone` when its last cell has arrived, `data` the payload gathered for the station. -/
structure PktRec where
  pid : Nat
  hdr : Header
  arr : Nat
  src : Nat
  bank : Nat
  tgts : List Target
  tHead : Nat
  tFab : Nat
  rxDone : Bool
  data : List Byte
  emit : Option (Nat × Nat × Nat)
  res : Option ResTag
  fenceHeld : Bool
  deriving DecidableEq, Repr

/-- A cell that waits at a position for stage one (03 R70, R71), oldest first in its list: `vc` is the VC it arrived on, whose
ingress queue it stands in. -/
structure WaitCell where
  pid : Nat
  src : Nat
  lp : Nat
  vc : Nat
  bad : Bool
  cell : Cell
  deriving DecidableEq, Repr

/-- Where an admitted cell is: in relay buffer `k`, or in its output position's store. -/
inductive Loc where
  | relay (k : Nat)
  | store
  deriving DecidableEq, Repr

/-- The body of a cell that stage one has admitted, stored once in relay buffer `relay` for all the cell's copies, with the number
of copies that the chip still holds (03 R93). -/
structure Body where
  pid : Nat
  cidx : Nat
  relay : Nat
  refs : Nat
  cell : Cell
  deriving DecidableEq, Repr

/-- One copy of a cell that stage one has admitted, the pointer to its body: 03 R72, R75, R93. `cidx` is the cell's place in its
packet, `tgt` the output's `id` within the packet and `vc` the packet's VC after a turn (04 R108). `cls` says which slots it takes: 0 shared,
1 the (VC, output) reserve of 04 R120, 2 the VC's pooled reserve, in the output store 1 the pair's own cells. `rel` is
set when the resequencer has released it. -/
structure CellRec where
  pid : Nat
  tgt : Nat
  vc : Nat
  src : Nat
  seq : Nat
  loc : Loc
  cls : Nat
  bad : Bool
  rel : Bool
  tArr : Nat
  cidx : Nat
  deriving DecidableEq, Repr

/-- Egress of one (logical port, VC): the open packet (04 R118) and whether tier 2 opened it, the promotion (R119), the
tier-2 budget (05 R139), service left in the round, the packet and time held for reordering and the packet whose hold is over
(11 R326). `openPid` gives the packet's number and the output's id. -/
structure Egr where
  openPid : Option (Nat × Nat)
  promoted : Option Nat
  eligSince : Option Nat
  budget : Int
  wrrLeft : Nat
  held : Option (Nat × Nat)
  let_ : Option Nat
  inT2 : Bool
  deriving DecidableEq, Repr

/-- Egress of one logical port: the unscheduled budget of 16 R449, the round-robin pointers of tiers 2, 4 and 5. -/
structure EgrPort where
  unsched : Int
  rr2 : Nat
  rrW : Nat
  spent : Bool
  deriving DecidableEq, Repr

/-- A packet the local station has received and not yet begun, with the time its head was checked, on the model's clock and as the
fabric time of that moment (05 R134). -/
structure Waiting where
  pid : Nat
  pkt : StPkt
  since : Nat
  rxFab : Nat
  bank : Nat
  deriving DecidableEq, Repr

/-- A packet that the host path holds whole: its arrival port is in `pkt`, `mir` the session of a mirror copy, `tcode` the
tail code with which it ended, `res` what a RESULT of the own station belongs to. -/
structure HostPkt where
  pkt : StPkt
  mir : Option MirTag
  tcode : Nat
  res : Option ResTag
  deriving DecidableEq, Repr

/-- The switch core. `gather` holds the payload that has come out for a host-path target, by packet number × 8,192 + target id;
`oneUse`, `twoUse` and `hostUse` the core cycle in which a position's stage-one connection, a relay buffer's stage-two connection
and its read port for the host path were last used, with the cells that passed in it (03 R69, R94). -/
structure SwitchSt where
  wait : List WaitCell
  cells : List CellRec
  bodies : List Body
  pkts : List PktRec
  nextPid : Nat
  seqNext : List (Nat × Nat)
  seqExp : List (Nat × Nat)
  skips : List (Nat × Nat)
  asm : List (Nat × Asm)
  egr : List (Nat × Egr)
  eport : List (Nat × EgrPort)
  altPtr : List (Nat × Nat)
  rrPtr : List (Nat × Nat)
  tie : List (Nat × Nat)
  mirCnt : List (Nat × Nat)
  stationQ : List Waiting
  hostQ : List HostPkt
  ctlQ : List StPkt
  drainSince : Option Nat
  gather : List (Nat × List Byte)
  oneUse : List (Nat × (Nat × Nat))
  twoUse : List (Nat × (Nat × Nat))
  hostUse : List (Nat × (Nat × Nat))
  deriving DecidableEq, Repr

/-! ## Links and lanes (file 11) -/

/-- A block kept for resending (11 R307). -/
structure TxBlock where
  seq : Nat
  slots : List Cell
  deriving DecidableEq, Repr

/-- The link layer of one logical port: the block being filled and whether a bit of it is to be flipped (R326), the port's own
cells that wait for a slot (R318, 15 R428), the numbers of the next word sent and received of the stream (R302), sequence numbers and block counts (11 R303, R306), the
retry buffer and resends, `again` a replay that waits for the end of the block in progress (R307, R308), the receive side, credits (R310), bring-up (R314: `stageAt` when the stage began,
`rateCount` frames since READY, `stopped` a refused credit configuration of R311, `failRun` a run of failed attempts,
`retryAt` when the next begins), re-stripe, flush, pause and idle. -/
structure Link where
  txSlots : List Cell
  flip : Bool
  ctlOut : List Header
  txWord : Nat
  rxWord : Nat
  txSeq : Nat
  txCount : Nat
  txLcw : Nat
  txKind : Nat
  lcwRun : Option Nat
  retry : List TxBlock
  again : Bool
  resends : Nat
  resendSeq : Nat
  ackAt : Nat
  rxSeq : Nat
  rxCount : Nat
  rxLcw : Nat
  rxLcwOk : Bool
  rxEarly : Option Nat
  rxReady : Option Nat
  rxKinds : Nat
  replayWait : Bool
  nak : Bool
  grant : List (Nat × Nat)
  limOut : List (Nat × Nat)
  limIn : List (Nat × Nat)
  sent : List (Nat × Nat)
  cred : List (Nat × Nat)
  flex : List (Nat × Nat)
  stageAt : Nat
  rateCount : Nat
  peerMask : Nat
  stopped : Bool
  failRun : Bool
  retryAt : Option Nat
  restripe : Bool
  flushing : Bool
  pausedAt : Option Nat
  idleSince : Option Nat
  clkMode : Nat
  deriving DecidableEq, Repr

/-- What a lane keeps beside its registers: the times of recent uncorrectable codewords (11 R320), its exclusion from the
attempt, good training frames in a row, the LANE number received (R314), the STS bits it sends (R317), the words of the codeword
being filled and the last level sent (R301, R302), the words received that no block has taken yet, each with whether its codeword was
uncorrectable, and the last level received (R301 to R305), for how many ns its PRBS checker has run and since when it runs, and where
its generator stands while it runs (R325). -/
structure Lane where
  unc : List Nat
  excluded : Bool
  good : Nat
  rxLane : Option Nat
  sts : Nat
  txWords : List (Bool × List Byte)
  txPrev : Nat
  rxWords : List ((Bool × List Byte) × Bool)
  rxPrev : Nat
  prbsNs : Nat
  prbsAt : Option Nat
  prbsGen : Option Nat
  deriving DecidableEq, Repr

/-! ## Fabric time and timetables (file 05) -/

/-- Fabric time and its discipline. `count` is the 64-bit ns count as of `now`; `frac` the remainder of a spread
REFCLK (05 R128), `still` ns for which a negative step holds the count, `slew` the signed correction being spread
over 1,000 ns, `slewAge` how much of that has passed. `lastEdge`/`lastSync` are the clock at the last TICK edge or SYNC,
`armed` the value of an armed load and `armTick` the tick count when it was armed, `reqAt` the T1 of a DELAY_REQ waiting, `lastTick` the
tick last begun, `jump` the clock at the last forward jump and the count before it (R130), `admCut` that F has changed while
an admission runs (16 R447). -/
structure TimeSt where
  count : Nat
  frac : Nat
  slew : Int
  slewAge : Nat
  still : Nat
  armed : Option Nat
  armTick : Nat
  lastEdge : Option Nat
  lastSync : Option Nat
  delays : List Int
  reqAt : Option Nat
  syncSeq : Nat
  lastTick : Nat
  jump : Option (Nat × Nat)
  admCut : Bool
  deriving DecidableEq, Repr

/-- A commit that waits for its boundary (05 R145): the mode, the tick or ns of its boundary, its issuer. -/
structure PendCommit where
  mode : Nat
  boundary : Nat
  issuer : Master
  deriving DecidableEq, Repr

/-! ## Fault collector, resets and dual-active control (file 15) -/

/-- A message a block holds for the collector, with the number merged into it (15 R412, R414). -/
structure HeldMsg where
  kind : Nat
  addr : Nat
  master : Nat
  access : Nat
  port : Nat
  merged : Nat
  deriving DecidableEq, Repr

/-- The collector and the dual-active control beside their registers. `latchAt`: when LATCH last went from 0 to 1 (R420);
`safeAt` when the safe state was entered; `hseq` the sender's HEALTH counter, `sent` when HEALTH last went and with which
flags; `pSeq`, `pAt` the HSEQ and time of the last partner HEALTH kept, `silent` that its silence has been reported;
`okSince` since when SEQ_OK has been 1 while resigned; `claimAt` when TAKEBACK was first sent, `yielded` that the partner has
yielded since, `claimLate` that kind 0x05 has been reported. -/
structure FltSt where
  held : List (Nat × HeldMsg)
  latchAt : Option Nat
  safeAt : Option Nat
  hseq : Nat
  sent : Option (Nat × Nat)
  pSeq : Option Nat
  pAt : Option Nat
  silent : Bool
  okSince : Option Nat
  claimAt : Option Nat
  yielded : Bool
  claimLate : Bool
  deriving DecidableEq, Repr

/-- A register access held until a core warm reset ends (15 R427); `reply` is the tag of a side-band or MCTP access that is
answered then (12 R358). -/
structure HeldAcc where
  master : Master
  isWrite : Bool
  off : Nat
  val : Nat
  be : Nat
  reply : Option Nat
  deriving DecidableEq, Repr

/-- The reset controller: when the core warm reset that runs began, the physical ports whose reset was asked for during it,
the register accesses it holds back; the physical ports whose bring-up after a port reset runs (R417, R426). -/
structure RstSt where
  coreAt : Option Nat
  ports : List (Nat × Option Nat)
  held : List HeldAcc
  running : List Nat
  deriving DecidableEq, Repr

/-! ## Pins and supplies (files 16, 18, 19) -/

/-- The levels of the input pins (true is high), what the outside supplies, and the outputs that have no register:
THERMTRIP_N (true while driven low) and the level of ALIVE. `waitClk` holds a chip in reset after PERST_N rose with REFCLK
absent (19 R498); `bootDue` says that the boot ROM has still to run (log 7), `noBoot` that EPO_N was low as PERST_N rose, so that no
boot stage beyond 0x01 runs (19 R498). -/
structure PinSt where
  aon : Bool
  supplies : Bool
  perst : Bool
  refclk : Bool
  recovery : Bool
  epo : Bool
  pwrbrk : Bool
  coolant : Bool
  busUv : Bool
  thermtrip : Bool
  alive : Bool
  aliveAt : Nat
  waitClk : Bool
  bootDue : Bool
  noBoot : Bool
  deriving DecidableEq, Repr

/-! ## Power and temperature (file 16) -/

/-- Power control beside its registers: the loop's clock and rate, how the rack cap stands (0 never written, 1 in use, 2
lapsed), the end of its lease, when CAPDROP began, since when COOLANT_FAIL_N and the leak have held, the highest TJ_MAX of
the loop period, whether the last sample stood at T_SHUT, diodes by the time since which they deviate, the last thermistor
readings in tenths of a degree offset by 1,000 with since when each has not changed and the span of P meanwhile, since when the
heat balance has been broken below and above, whether the loop reads a leak, the inlet limit on P_T. -/
structure PwrSt where
  f : Nat
  u : Nat
  rack : Nat
  leaseEnd : Option Nat
  capdrop : Option Nat
  coolSince : Option Nat
  leakSince : Option Nat
  tPeak : Option Int
  hotLast : Bool
  dev : List (Nat × Nat)
  diodes : List Int
  thLast : List (Nat × (Int × Nat × Nat × Nat))
  below : Option Nat
  above : Option Nat
  leak : Bool
  inletHot : Bool
  deriving DecidableEq, Repr

/-! ## Telemetry (file 17) -/

/-- A dump asked for (17 R473): the regions, whether counters clear, whether it is periodic, the host operation whose buffer
it fills (none: the telemetry ring), that buffer and what is left of it, the bytes written, the address of a host write that
failed. -/
structure DumpReq where
  sel : Nat
  clear : Bool
  hop : Option Nat
  buf : Nat
  len : Nat
  done : Nat
  failed : Option Nat
  full : Bool
  deriving DecidableEq, Repr

/-- Telemetry beside its registers: counters by offset in the counter space, bytes sent and received in the window now
open per logical port, the dump that runs and those that wait, when the window now open began, the counters of waiting core cycles
that run (17 R467 STALL, R468 slot 15) with the time from which their cycles are not yet in `cnt`. -/
structure TelSt where
  cnt : List (Nat × Nat)
  bwTx : List (Nat × Nat)
  bwRx : List (Nat × Nat)
  running : Option DumpReq
  queue : List DumpReq
  winStart : Nat
  waits : List (Nat × Nat)
  deriving DecidableEq, Repr

/-! ## Gesta, the side-band and the console (files 12, 14, 18) -/

/-- A signed record in force (14 R393, R394). -/
structure Rec where
  seq : Nat
  bytes : List Byte
  body : List Byte
  deriving DecidableEq, Repr

/-- An update under way (14 R406, R407): who holds the lock (0 a mailbox, 1 PLDM) and when its last traffic came, the PLDM
step reached (0 idle, 1 requested, 2 table passed, 3 transfer, 4 verified, 5 applied). -/
structure UpdSt where
  lock : Option (Nat × Nat)
  step : Nat
  got : Nat
  verified : Bool
  deriving DecidableEq, Repr

/-- The side-band: its I3C address and enabled events and reset action, the MCTP endpoint IDs over I3C and over PCIe, the SPDM
version agreed with each of the three ways in (0 DOE, 1 MCTP over PCIe, 2 MCTP over I3C). -/
structure BusSt where
  i3cAddr : Option Nat
  i3cPid : Option Nat
  events : Nat
  rstAct : Nat
  eids : List (Nat × Nat)
  spdm : List (Nat × Nat)
  deriving DecidableEq, Repr

/-- Gesta. `flash` lists the bytes that are not 0xFF (log 6); `log` the event log's entries; `owner`, `factory`, `site` the
records in force; `fw`, `ucode`, `phyCode` what measurements 2 to 4 hash; `bootBc` and `bootRegs` what measurement 8 holds; `kick0`,
`kick1` when the cores last kicked; `runSince` since when both cores have run without lapse or resignation; `core0Ready` since
when core 0 has been STANDBY and healthy; `siteWait` that LOCK is still to be set when the well is ready; `mbox` the mailboxes
whose request waits; `line` the boot ROM's last line and when it was written; `service` the chip's service state, `ports` the
ports held, `svc` those in service state; `siteDue` that the site record is still to be written; `alias_` the Alias private key that
the boot derived and `aliasCert` its certificate (R397); `sram0`, `sram1` what the boot loaded into each core's 4 MiB SRAM (R386, R401);
`repair` the soft repair and trims applied, by tag (R398); `early` the events kept back until the collector is configured, `collCfg`
(R411, log 122); `resigned` the cores that resigned, with when (15 R439); `ucodePending` that microcode of an update waits for the next
cold reset (R407). -/
structure GmcSt where
  flash : List (Nat × Byte)
  log : List (List Byte)
  owner : Option Rec
  factory : Option Rec
  site : Option Rec
  fw : List Byte
  ucode : List Byte
  phyCode : List Byte
  bootBc : Nat
  bootRegs : List Nat
  kick0 : Nat
  kick1 : Nat
  runSince : Option Nat
  core0Ready : Option Nat
  siteWait : Bool
  mbox : List Nat
  line : Option (String × Nat)
  service : Bool
  ports : List Nat
  svc : List Nat
  siteDue : Bool
  alias_ : List Byte
  aliasCert : List Byte
  sram0 : List Byte
  sram1 : List Byte
  repair : List (Nat × List Byte)
  early : List (Nat × Nat)
  collCfg : Bool
  resigned : List (Nat × Nat)
  ucodePending : Bool
  upd : UpdSt
  deriving DecidableEq, Repr

/-! ## Transaction contexts (09 R247) -/

/-- An open context: its request's number in the chip, when it opened, the request's opcode, whether it crosses racks (04 R113), the source's ID. -/
structure Ctx where
  pid : Nat
  openAt : Nat
  opcode : Nat
  cross : Bool
  srcE : Nat
  deriving DecidableEq, Repr

/-! ## Groups (files 06, 07, 08) -/

/-- A group link of a station (06 R150): a member on a logical port, the host path, the row or column up set, a child. -/
inductive GLink where
  | member (lp : Nat)
  | host
  | rowUp
  | colUp
  | child (k : Nat)
  deriving DecidableEq, Repr

/-- A queued operation (06 R167, R168): its SEQ, the descriptor that filled the slot, who has rung with which
descriptor, and the host operation it came from. -/
structure QEnt where
  seq : Nat
  desc : List Word
  rung : List (GLink × List Word)
  hop : Option Nat
  deriving DecidableEq, Repr

/-- A GRANT_REQ slot in use (04 R124, 06 R164). -/
structure GReq where
  link : GLink
  seq : Nat
  chunk : Nat
  d1 : Nat
  sig : List Byte
  since : Nat
  deriving DecidableEq, Repr

/-- A packet that a chunk sends, kept in the cistern until it has left (06 R181). `hostOff` is where the host path's copy
goes in the host member's output. -/
structure OutPkt where
  hdr : Header
  data : List Byte
  links : List GLink
  hostOff : Option (Nat × Nat)
  deriving DecidableEq, Repr

/-- A chunk that has been granted (08 R222). `want` are the bytes granted to each contributor (for staged links the
elements), `got` the payloads received in order, `stage` 0 filling, 1 full, 2 sweeping, 3 partial made, 5 row
partial received, 4 results being sent; `due` the copies that have not left. -/
structure Chunk where
  idx : Nat
  pump : Nat
  lines : Nat
  first : Nat
  elems : Nat
  want : List (GLink × Nat)
  got : List (GLink × List (List Byte))
  stage : Nat
  sweeper : Nat
  retried : Bool
  failedOn : List Nat
  partialUp : List (List Byte)
  down : List (List Byte)
  sentUp : List GLink
  out : List OutPkt
  due : List (Nat × Nat)
  flags : Nat
  deriving DecidableEq, Repr

/-- One route entry (08 R229, R230): source rank, token, choice, weight, the expert (none when treated as 0xFFFF) and the
slot when admitted. -/
structure RouteEnt where
  src : Nat
  tok : Nat
  choice : Nat
  weight : Nat
  expert : Option Nat
  slot : Option Nat
  deriving DecidableEq, Repr

/-- The route record that a DISPATCH leaves (08 R229, R234). -/
structure RouteRec where
  seq : Nat
  count : Nat
  cap : Nat
  ents : List RouteEnt
  pump : Nat
  lines : Nat
  deriving DecidableEq, Repr

/-- The operation that a station has launched (06 R166, 08 R217 to R222). `ranks` are the members by rising rank, `done`
the local chunks that have ended, `upReq` and `upGot` the waves requested and granted on each up link. -/
structure GrpOp where
  seq : Nat
  d : List Word
  ep : Nat
  gto : Nat
  weight : Nat
  latency : Bool
  np : Nat
  pj : Nat
  ec : Nat
  nc : Nat
  wave : Nat
  ranks : List (Nat × GLink)
  nextWave : Nat
  chunks : List Chunk
  done : List Nat
  upReq : List (GLink × Nat)
  upGot : List (GLink × Nat)
  flags : Nat
  hop : Option Nat
  atStart : Option Nat
  deriving DecidableEq, Repr

/-- What a station keeps of a group beside its entry. `firsts` are the times of the first DOORBELL or GRANT_REQ of each SEQ
(06 R174), `later` the aborts recorded for a later SEQ (R176, R179), `keys` the last 64 keys (R176), `decided` the last 16
aborts (R178), `tokenMax`, `tokenWait` and `tokenDue` R180, `shaped` NCOL and NSLOT where CREATE_SHAPE made the group (R158), `echo` the ABORTs recorded of the acting sequencer and `asked` the requests it has still to cover (15 R436). -/
structure GrpSt where
  op : Option GrpOp
  queue : List QEnt
  firsts : List (Nat × Nat)
  reqs : List GReq
  timer : Option Nat
  gate : Option Nat
  later : List (Nat × Nat)
  keys : List (List Nat)
  decided : List Nat
  tokenMax : Option Nat
  tokenWait : Option Nat
  tokenDue : List (Nat × Nat)
  closingAt : Option Nat
  route : Option RouteRec
  echo : List (Nat × Nat × Nat)
  asked : List (Nat × Nat)
  shaped : Option (Nat × Nat)
  deriving DecidableEq, Repr

/-- A pump beside its registers: the times of its first-sweep mismatches (07 R209), whether it must retire at the end of
its sweep and with which cause, whether its last self-test since retirement passed, when its test began. -/
structure Pump where
  soft : List Nat
  retireNext : Nat
  testPass : Bool
  testing : Bool
  deriving DecidableEq, Repr

/-- The host-memory side: a descriptor with an operation slot or waiting to start (12 R337), its sixteen words as fetched.
`stage` is 0 fetched, 1 started, 2 finished with its completion to be written. -/
structure HostOp where
  ring : Nat
  words : List Word
  stage : Nat
  status : Nat
  flags : Nat
  count : Nat
  addr : Nat
  drop : Bool
  deriving DecidableEq, Repr

/-- A base address register of the function (12 R333): its number, the logarithm of its size, whether it is prefetchable, the base
that the host has given it. All are of 64 bits. -/
structure PciBar where
  num : Nat
  log2 : Nat
  prefetch : Bool
  base : Nat
  deriving DecidableEq, Repr

/-- The configuration state of the PCIe function (12 R330, R331): its identity, its power state (0 D0, 3 D3hot), ECRC generation and
check, the default completion timeout in ms and the range the host has chosen (0 the default), the maximum payload and read request
(128 × 2^n bytes), ASPM L1, MSI-X enabled and masked as a whole, the BARs, the error bits of Status and the AER uncorrectable error
status, where failed reads of host memory are logged (PRESUMED, log 4: their bits are those of the PCIe Base Specification). -/
structure PcieSt where
  deviceId : Nat
  classCode : Nat
  dstate : Nat
  ecrcGen : Bool
  ecrcChk : Bool
  timeout : Nat
  toRange : Nat
  maxPayload : Nat
  maxRead : Nat
  aspm : Bool
  msixOn : Bool
  msixMask : Bool
  bars : List PciBar
  status : Nat
  aer : Nat
  deriving DecidableEq, Repr

/-- The host interface beside its registers: operations by number in fetch order, finished ones in the order they became
ready, the receive pool oldest first, the armed completion rings and when their pending entries were written. -/
structure HostSt where
  ops : List (Nat × HostOp)
  nextOp : Nat
  ready : List Nat
  recv : List Nat
  armed : List Nat
  written : List (Nat × List Nat)
  rr : Nat
  pcie : PcieSt
  deriving DecidableEq, Repr

/-! ## The well, sync objects and rooms (files 09 and 10) -/

/-- What an admitted request asks of the well. An atomic carries its ATOP; `roomWrite` and `roomRead` stand behind the room
checks; `apRead` and `apWrite` come through BAR4. -/
inductive WKind where
  | read
  | write
  | atomic (atop : Nat)
  | roomWrite
  | roomRead
  | apRead
  | apWrite
  deriving DecidableEq, Repr

/-- A request that the well has admitted (09 R250): its number in admission order, its bytes, which of them are enabled
(aperture writes), the request's header for the answer, the port it arrived on. -/
structure WReq where
  id : Nat
  kind : WKind
  addr : Nat
  size : Nat
  data : List Byte
  en : List Bool
  hdr : Header
  arr : Nat
  deriving DecidableEq, Repr

/-- A waiter of the pool of 16,384 (09 R271), in registration order in its list; `no` is its number in that order, which gates
share (R274). -/
structure Waiter where
  obj : Nat
  ge : Bool
  cons : Bool
  arg : Nat
  src : Nat
  tag : Nat
  opw0 : Nat
  since : Nat
  ticks : Nat
  no : Nat
  deriving DecidableEq, Repr

/-- A migration that runs (the first of its list) or waits (12 R349): the host operation, the two page addresses,
the number of the first request that the well admits after its start. -/
structure Mig where
  hop : Nat
  src : Nat
  dst : Nat
  move : Bool
  thresh : Nat
  since : Nat
  deriving DecidableEq, Repr

/-- How much of a window's range has a copy: `none` where its fill has ended, else the prefix filled and the lines
written since the fill began (09 R257). -/
structure WinCopy where
  upTo : Option Nat
  lines : List Nat
  deriving DecidableEq, Repr

/-- The well, the sync objects' waiters and the rooms beside their registers. `clearing` while the zero fill of R241 runs,
`ue` the times of recent uncorrectable reads by device (R253), `poolUntil` when the pool-domain reset that runs began (15 R431), `regNo` the
number of the next waiter or gate to be registered, `mute` the RMS_CMT entries that ignore completions (10 R290), `hb` when each room's heartbeat watch began (R292). -/
structure WellSt where
  queue : List WReq
  nextId : Nat
  clearing : Bool
  ue : List (Nat × List Nat)
  wins : List (Nat × WinCopy)
  migs : List Mig
  poolUntil : Option Nat
  waiters : List Waiter
  regNo : Nat
  mute : List Nat
  hb : List (Nat × Nat)
  deriving DecidableEq, Repr

/-! ## The state -/

/-- Everything the spec gives the block, and the model's own clock, free-value counter, command queue and outbox. -/
structure State where
  /-- The model's clock: ns since reset (log 1). -/
  now : Nat
  /-- The free-value counter (log 2). -/
  freeCtr : Nat
  /-- The commands that wait, first in first out. -/
  pending : List Instr
  /-- What the block has driven out, newest first. -/
  outbox : List Out
  /-- The register file. -/
  regs : Regs
  /-- Read latches of 13 R370, by master × 2^26 + offset. -/
  latch : List (Nat × Nat)
  /-- Held low-word writes (09 R273, 17 R464), by master × 2^26 + offset. -/
  heldW : List (Nat × Nat)
  /-- Fabric time. -/
  time : TimeSt
  /-- The pending commit. -/
  commit : Option PendCommit
  /-- When the semaphore's lease ends; none while it is free or the lease has no end. -/
  semEnd : Option Nat
  /-- The kind of the last access fault, by which the command whose access raised it learns of it (12 R347, R358; 14 R401). -/
  lastFault : Option Nat
  /-- A commit has taken effect during the pass over the configuration image that runs (13 R382). -/
  passCut : Bool
  /-- The switch core. -/
  sw : SwitchSt
  /-- Link layers by logical port; one not listed is as at link down. -/
  links : List (Nat × Link)
  /-- Lanes. -/
  lanes : List (Nat × Lane)
  /-- The fault collector and the dual-active control. -/
  flt : FltSt
  /-- The reset controller. -/
  rst : RstSt
  /-- Pins and supplies. -/
  pin : PinSt
  /-- Power and temperature. -/
  pwr : PwrSt
  /-- Gesta. -/
  gmc : GmcSt
  /-- The side-band's buses. -/
  bus : BusSt
  /-- Telemetry. -/
  tel : TelSt
  /-- Open transaction contexts, by context number. -/
  ctx : List (Nat × Ctx)
  /-- Fenced slots whose first discard has been reported since the commit that set the bit (10 R294). -/
  fenceHit : List Nat
  /-- The (logical port × 8 + VC) queues with a timetable window open in this tick (05 R139). -/
  winOpen : List (Nat × Bool)
  /-- RESULTs that a station must send again, with the output concerned (06 R181). -/
  resend : List (ResTag × Nat)
  /-- Groups, by group ID; one not listed keeps nothing. -/
  grps : List (Nat × GrpSt)
  /-- Weighted round robin of grants (06 R171): the group served last and its service left. -/
  grpRr : Nat × Nat
  /-- The queue store GRP_QSTORE, words by slot × 16 + word (06 R161). -/
  qstore : List (Nat × Nat)
  /-- Pumps beside their registers; one not listed keeps nothing. -/
  pumps : List (Nat × Pump)
  /-- When a covering sequencer may begin to decide (15 R436). -/
  coverFrom : Option Nat
  /-- When the pump-domain reset that holds grants back began (15 R430). -/
  pumpHold : Option Nat
  /-- The host interface's rings. -/
  host : HostSt
  /-- The well's memory by pool address; a byte not listed is 0 (09 R241, log 30). -/
  mem : List (Nat × Byte)
  /-- The well, sync objects and rooms beside their registers. -/
  well : WellSt
  deriving DecidableEq, Repr

/-- Reasons a step can stop with a fault. No meaning raises one: every command of the table has an effect, and an access to
a place that does not exist is answered as the spec says. -/
inductive Fault where
  /-- No meaning raises it; kept so that the type has a value. Safe. -/
  | none
  deriving DecidableEq, Repr

/-- Reasons a command is refused. -/
inductive Refusal where
  /-- Raised by the dispatcher for a row whose meaning is not written. Safe: nothing can be proved about it. -/
  | notModelled (mnemonic : String)
  deriving DecidableEq, Repr

/-- The block right after reset: every register at its reset value, PERST_N high with the boot ROM still to run (log 7),
no command waiting. -/
def State.reset : State where
  now := 0
  freeCtr := 0
  pending := []
  outbox := []
  regs := ⟨[], [], []⟩
  latch := []
  heldW := []
  time :=
    { count := 0, frac := 0, slew := 0, slewAge := 1000, still := 0, armed := none, armTick := 0,
      lastEdge := none, lastSync := none, delays := [], reqAt := none, syncSeq := 0, lastTick := 0, jump := none,
      admCut := false }
  commit := none
  semEnd := none
  lastFault := none
  passCut := false
  sw :=
    { wait := [], cells := [], bodies := [], pkts := [], nextPid := 0, seqNext := [], seqExp := [], skips := [], asm := [],
      egr := [], eport := [], altPtr := [], rrPtr := [], tie := [], mirCnt := [], stationQ := [], hostQ := [],
      ctlQ := [], drainSince := none, gather := [], oneUse := [], twoUse := [], hostUse := [] }
  links := []
  lanes := []
  flt :=
    { held := [], latchAt := none, safeAt := none, hseq := 0, sent := none, pSeq := none, pAt := none,
      silent := false, okSince := none, claimAt := none, yielded := false, claimLate := false }
  rst := ⟨none, [], [], []⟩
  pin :=
    { aon := true, supplies := true, perst := true, refclk := true, recovery := true, epo := true,
      pwrbrk := true, coolant := true, busUv := true, thermtrip := false, alive := false, aliveAt := 0,
      waitClk := false, bootDue := true, noBoot := false }
  pwr :=
    { f := 2000, u := 64, rack := 0, leaseEnd := none, capdrop := none, coolSince := none, leakSince := none,
      tPeak := none, hotLast := false, dev := [], diodes := [], thLast := [], below := none, above := none,
      leak := false, inletHot := false }
  gmc :=
    { flash := [], log := [], owner := none, factory := none, site := none, fw := [], ucode := [], phyCode := [],
      bootBc := 0, bootRegs := [], kick0 := 0, kick1 := 0, runSince := none, core0Ready := none, siteWait := false,
      mbox := [], line := none, service := false, ports := [], svc := [], siteDue := false, alias_ := [], aliasCert := [],
      sram0 := [], sram1 := [], repair := [], early := [], collCfg := false, resigned := [], ucodePending := false,
      upd := ⟨none, 0, 0, false⟩ }
  bus :=
    { i3cAddr := none, i3cPid := none, events := 1, rstAct := 0, eids := [], spdm := [] }
  tel := { cnt := [], bwTx := [], bwRx := [], running := none, queue := [], winStart := 0, waits := [] }
  ctx := []
  fenceHit := []
  winOpen := []
  resend := []
  grps := []
  grpRr := (0, 0)
  qstore := []
  pumps := []
  coverFrom := none
  pumpHold := none
  host :=
    { ops := [], nextOp := 0, ready := [], recv := [], armed := [], written := [], rr := 0,
      pcie :=
        { deviceId := 0x1280, classCode := 0x120000, dstate := 0, ecrcGen := false, ecrcChk := false, timeout := 50,
          toRange := 0, maxPayload := 0, maxRead := 2, aspm := false, msixOn := false, msixMask := false,
          bars := [⟨0, 26, false, 0⟩, ⟨2, 28, false, 0⟩, ⟨4, 36, true, 0⟩], status := 0, aer := 0 } }
  mem := []
  well :=
    { queue := [], nextId := 0, clearing := false, ue := [], wins := [], migs := [], poolUntil := none,
      waiters := [], regNo := 0, mute := [], hb := [] }

end Sys2Proof.Machine
end

