-- ==== Sys2Proof/Machine/Ops.lean ====
section
/-! DEFINITION. The named operations over the register file, the clock, the counters and the fault messages that every
family of commands is written with. -/

namespace Sys2Proof.Machine

open Sys2Proof

/-! ## The register file -/

/-- The instance number spread over an array's indices, the outermost first: the byte offset it adds. -/
def dimOffset : List (Nat × Nat) → Nat → Nat
  | [], _ => 0
  | (_, stride) :: rest, i =>
    let inner := (rest.map (·.1)).foldl (· * ·) 1
    (i / inner) * stride + dimOffset rest (i % inner)

/-- The BAR0 offset of instance `i` of an array (13 R366 and the line above each register table). -/
def regOff (r : RegName) (i : Nat) : Nat := (regInfo r).base + dimOffset (regInfo r).dims i

/-- How many instances an array has. -/
def regCount (r : RegName) : Nat := ((regInfo r).dims.map (·.1)).foldl (· * ·) 1

/-- Find the instance whose words hold byte offset `rem` from the base, or nothing between instances. -/
def dimLocate (words : Nat) : List (Nat × Nat) → Nat → Option (Nat × Nat)
  | [], rem => if rem < 4 * words then some (0, rem / 4) else none
  | (count, stride) :: rest, rem =>
    let q := rem / stride
    if q < count then
      match dimLocate words rest (rem % stride) with
      | some (j, w) => some (q * ((rest.map (·.1)).foldl (· * ·) 1) + j, w)
      | none => none
    else none

/-- The array, instance and word at a BAR0 offset, none where no register is assigned (13 R366). -/
def locateIn : List RegName → Nat → Option (RegName × Nat × Nat)
  | [], _ => none
  | r :: rs, off =>
    if off < (regInfo r).base then locateIn rs off
    else match dimLocate (regInfo r).words (regInfo r).dims (off - (regInfo r).base) with
      | some (i, w) => some (r, i, w)
      | none => locateIn rs off

def locate (off : Nat) : Option (RegName × Nat × Nat) := locateIn allRegs off

/-- The reset value of a field of instance `i`; the two arrays whose tables say "See below" are listed (15 R417,
16 R447). -/
def resetOf (f : Field) (i : Nat) : Nat :=
  match f.reg with
  | .FLT_SEVMAP =>
    bits (([0, 0x80000000, 0xC0000000, 0xE0000000, 0xE4000000, 0xF4000000, 0xEC000000, 0xFC000000][i]?).getD 0) f.lsb f.width
  | .PWR_FTAB =>
    if f.lsb = 16 then 1400 - 100 * i
    else ([2000, 1800, 1600, 1400, 1200, 1000, 750, 500][i]?).getD 0
  | _ => f.reset

/-- The key of a field of instance `i`: its bit address. -/
def fkey (f : Field) (i : Nat) : Nat := (regOff f.reg i + 4 * f.word) * 8 + f.lsb

/-- One map's value of a field. -/
def fget (m : List (Nat × Nat)) (f : Field) (i : Nat) : Nat := (mget m (fkey f i)).getD (resetOf f i)

/-- One map with a field set (cut to its width), nothing listed where that is the reset value. -/
def fset (m : List (Nat × Nat)) (f : Field) (i v : Nat) : List (Nat × Nat) :=
  mset (resetOf f i) m (fkey f i) (v % 2 ^ f.width)

/-- What hardware acts on: the live copy of a Shadowed field, else the field (13 R375). -/
def State.rd (s : State) (f : Field) (i : Nat) : Nat :=
  if f.shadowed then fget s.regs.live f i else fget s.regs.plain f i

/-- What software reads: the shadow of a Shadowed field, else the field (13 R375). -/
def State.rdSw (s : State) (f : Field) (i : Nat) : Nat :=
  if f.shadowed then fget s.regs.shadow f i else fget s.regs.plain f i

/-- A field of a one-instance register. -/
def State.rd0 (s : State) (f : Field) : Nat := s.rd f 0

/-- A one-bit field as a Bool. -/
def State.flag (s : State) (f : Field) (i : Nat := 0) : Bool := s.rd f i == 1

/-- Set a field that is not Shadowed; of a Shadowed field, both copies (13 R378). -/
def State.wr (s : State) (f : Field) (i v : Nat) : State :=
  if f.shadowed then
    { s with regs := { s.regs with shadow := fset s.regs.shadow f i v, live := fset s.regs.live f i v } }
  else { s with regs := { s.regs with plain := fset s.regs.plain f i v } }

def State.wr0 (s : State) (f : Field) (v : Nat) : State := s.wr f 0 v

/-- A software write of a field: the shadow of a Shadowed field (13 R375). -/
def State.wrSw (s : State) (f : Field) (i v : Nat) : State :=
  if f.shadowed then { s with regs := { s.regs with shadow := fset s.regs.shadow f i v } }
  else s.wr f i v

/-- Add events to a counter field, saturating (13 R374). -/
def State.bump (s : State) (f : Field) (i : Nat) (n : Nat := 1) : State :=
  s.wr f i (min (2 ^ f.width - 1) (s.rd f i + n))

/-- Return every field of an array's instances whose key lies in a byte range to its reset value, keeping those that
`keep` holds of. -/
def dropKeys (m : List (Nat × Nat)) (drop : Nat → Bool) : List (Nat × Nat) := m.filter fun e => !drop e.1

/-! ## Outputs, free values, the clock -/

/-- Record an output. -/
def State.emit (s : State) (o : Out) : State := { s with outbox := o :: s.outbox }

/-- A fresh free-value index (log 2). -/
def State.tick (s : State) : State := { s with freeCtr := s.freeCtr + 1 }

/-- A fresh 32-bit draw of the random source, and the state after it. -/
def State.draw (s : State) : Nat × State := ((Config.draw s.freeCtr).toNat, s.tick)

/-- The fabric count after `d` ns of the reference clock (05 R128, R129): scaled where SSC is set, held during a
standstill, with the slew spread over 1,000 ns. It never runs backwards (R126). -/
def TimeSt.run (t : TimeSt) (ssc : Bool) (d : Nat) : TimeSt :=
  let total := if ssc then d * 800 + t.frac else d
  let adv := if ssc then total / 799 else d
  let frac := if ssc then total % 799 else t.frac
  let held := min t.still adv
  let age := min 1000 (t.slewAge + d)
  let dslew := (t.slew * age).tdiv 1000 - (t.slew * t.slewAge).tdiv 1000
  let go := if adv ≤ held then 0 else (((adv - held : Nat) : Int) + dslew).toNat
  { t with count := (t.count + go) % 2 ^ 64, frac := frac, still := t.still - held, slewAge := age }

/-- Let the clock reach `at_`; it never runs backwards (log 1). Fabric time runs only while the chip is powered, out of reset
and has its REFCLK. -/
def State.advance (s : State) (at_ : Nat) : State :=
  if s.now < at_ then
    let runs := s.pin.supplies && s.pin.perst && s.pin.refclk
    { s with now := at_, time := if runs then s.time.run (s.flag F.TIM_CTRL_SSC) (at_ - s.now) else s.time }
  else s

/-- Fabric time in ns. -/
def State.fabric (s : State) : Nat := s.time.count

/-- The tick count (05 R126). -/
def State.tickCount (s : State) : Nat := s.time.count / 1000

/-- This is a tick whose count is a multiple of `n`, or such a tick has just been jumped over (05 R130). -/
def State.atTick (s : State) (n : Nat) : Bool :=
  s.tickCount % n == 0 || s.time.jump.any fun e => e.1 == s.now && decide (e.2 / 1000 / n < s.tickCount / n)

/-! ## Telemetry counters (17 R464 to R470) -/

/-- Add to a 48-bit counter, saturating (17 R465). -/
def State.cnt (s : State) (off n : Nat) : State :=
  { s with tel := { s.tel with cnt := mset 0 s.tel.cnt off (min (2 ^ 48 - 1) (mgetD s.tel.cnt off 0 + n)) } }

/-- Core cycles begun before a time: cycle t begins at t ÷ 1.75 ns (log 83). -/
def cyclesBefore (t : Nat) : Nat := (7 * t + 3) / 4

/-- Cycles that a counter of waiting cycles has run on beside what is stored. -/
def State.waited (s : State) (off : Nat) : Nat :=
  match mget s.tel.waits off with
  | some t => cyclesBefore s.now - cyclesBefore t
  | none => 0

/-- Region P: (logical port, VC, slot). -/
def State.cntP (s : State) (lp vc k : Nat) (n : Nat := 1) : State :=
  if lp < 160 then s.cnt (((lp * 8 + vc) * 16 + k) * 8) n else s

/-- Region P slot 9, MAXQ: the largest level seen (17 R465). -/
def State.maxQ (s : State) (lp vc level : Nat) : State :=
  let off := ((lp * 8 + vc) * 16 + 9) * 8
  { s with tel := { s.tel with cnt := mset 0 s.tel.cnt off (max level (mgetD s.tel.cnt off 0)) } }

/-- Region G: (group, slot). -/
def State.cntG (s : State) (g k : Nat) (n : Nat := 1) : State := s.cnt (0x100000 + (g * 16 + k) * 8) n

/-- Region U: (pump, slot). -/
def State.cntU (s : State) (p k : Nat) (n : Nat := 1) : State := s.cnt (0x182000 + (p * 8 + k) * 8) n

/-- Region W: slot. -/
def State.cntW (s : State) (k : Nat) (n : Nat := 1) : State := s.cnt (0x185000 + k * 8) n

/-! ## Fault messages -/

/-- The effective severity of a kind of a source (15 R415). -/
def State.severity (s : State) (src kind : Nat) : Nat :=
  if s.flag (F.FLT_KSEV_OVR kind) src then s.rd (F.FLT_KSEV_SEV kind) src else s.rd F.FLT_SRC_CFG_SEV src

/-- A block reports an event: the message is held for the collector, or merged with the one held, the more severe of
the two kept, the first among equals (15 R412, R414). -/
def State.report (s : State) (src kind addr : Nat) (master : Nat := 0) (access : Nat := 0) (port : Nat := 0) : State :=
  let m : HeldMsg := ⟨kind % 64, addr % 2 ^ 48, master, access, port % 256, 0⟩
  let held := match mget s.flt.held src with
    | none => mput s.flt.held src m
    | some o =>
      if s.severity src o.kind < s.severity src m.kind then mput s.flt.held src { m with merged := o.merged + 1 }
      else mput s.flt.held src { o with merged := o.merged + 1 }
  { s with flt := { s.flt with held := held } }

/-- A block reports the same event `n` times, for the first time at an address: the first message is held or merged, and the
others are only counted (15 R414). -/
def State.reportMany (s : State) (src kind addr n : Nat) : State :=
  if n = 0 then s
  else
    let s1 := s.report src kind addr
    { s1 with flt := { s1.flt with held :=
      (match mget s1.flt.held src with
      | some o => mput s1.flt.held src { o with merged := o.merged + (n - 1) }
      | none => s1.flt.held) } }

/-- The code of a master in messages and in GLB_CMT_STAT (13 R376, 15 R412). -/
def masterCode : Master → Nat
  | .host => 1
  | .sideband => 2
  | .gesta _ => 3

/-- An access fault of the register block (13 R373, R385): source 0x000. -/
def State.accessFault (s : State) (m : Master) (kind off : Nat) (access : Nat := 2) : State :=
  ({ s with lastFault := some kind }).report 0 kind off (masterCode m) access

/-- Count a discard on a logical port and report it (02 R67, R509; 15 R413). `arr` says it is counted on the packet's
arrival port. Code 0x15 is counted only (03 R102). -/
def State.discard (s : State) (lp vc reason : Nat) (arr : Bool) : State :=
  let s1 := (s.cnt (0x40000 + ((lp * 8 + vc) * 64 + reason) * 8) 1).cntP lp vc 6
  if reason = 0x15 then s1
  else s1.report (0x100 + lp / 2) reason (lp + vc * 256) (if arr then 4 else 0) 4 lp

/-- Count and report a discard of the host path (12 R354, source 0x00C), or of a packet of the local station before an
output was chosen (source 0x004 kind 4), or of a port: by where it is counted. Arrival 160 is the host path, 161 the
station: they have no logical port number, and the report names them so (DESIGN CHOICE, log 117). -/
def State.discardAt (s : State) (arr vc reason : Nat) : State :=
  if arr = 161 then s.report 4 4 (reason + vc * 256)
  else if arr = 160 then s.report 0xC reason (160 + vc * 256) 0 4 160
  else s.discard arr vc reason true

end Sys2Proof.Machine
end

