-- ==== Sys2Proof/Machine/Operands.lean ====
section
/-! DEFINITION. The operand forms of the block: Endpoint IDs (00 R13 to R15), packet headers (02 R53), cells (02 R40 to
R48), the opcode table (02 R63), the place and the mode of each port (01 R20 to R32). -/

namespace Sys2Proof.Machine

open Sys2Proof

/-! ## Endpoint IDs -/

def eidRow (e : Nat) : Nat := bits e 17 3
def eidCol (e : Nat) : Nat := bits e 14 3
def eidSlot (e : Nat) : Nat := bits e 7 7
def eidKind (e : Nat) : Nat := bits e 4 3
def eidIdx (e : Nat) : Nat := bits e 0 4

/-- The Endpoint ID of row, column, slot, kind and index (00 R13). -/
def mkEid (row col slot kind idx : Nat) : Nat := row * 0x20000 + col * 0x4000 + slot * 0x80 + kind * 0x10 + idx

/-- 00 R15. -/
def eidMalformed (e : Nat) : Bool :=
  eidKind e ≥ 4 || (eidKind e == 2 && eidSlot e != 0) || (eidKind e == 3 && eidSlot e ≥ 16)

end Sys2Proof.Machine

namespace Sys2Proof

open Sys2Proof.Machine

/-! ## Header fields (02 R53) -/

def Header.opcode (h : Header) : Nat := wbits h.w0 24 8
def Header.dst (h : Header) : Nat := wbits h.w0 0 20
def Header.vc (h : Header) : Nat := wbits h.w1 29 3
def Header.bank (h : Header) : Nat := wbits h.w1 28 1
def Header.fence (h : Header) : Bool := wbits h.w1 27 1 == 1
def Header.cmark (h : Header) : Bool := wbits h.w1 26 1 == 1
def Header.sched (h : Header) : Bool := wbits h.w1 25 1 == 1
def Header.srcE (h : Header) : Nat := wbits h.w1 0 20
def Header.hash (h : Header) : Nat := wbits h.w2 16 16
def Header.len (h : Header) : Nat := wbits h.w2 0 13
def Header.gepoch (h : Header) : Nat := wbits h.w3 16 16
def Header.deadline (h : Header) : Nat := wbits h.w3 0 16
def Header.viaV (h : Header) : Bool := wbits h.w4 31 1 == 1
def Header.viaRow (h : Header) : Nat := wbits h.w4 28 3
def Header.viaCol (h : Header) : Nat := wbits h.w4 25 3
def Header.seq (h : Header) : Nat := wbits h.w4 0 24
def Header.opw0 (h : Header) : Nat := h.w5.toNat
def Header.opw1 (h : Header) : Nat := h.w6.toNat
def Header.opw2 (h : Header) : Nat := h.w7.toNat
/-- The group ID that opcodes with GEPOCH "Yes" carry (02 R64). -/
def Header.gid (h : Header) : Nat := wbits h.w5 0 12

def Header.setVc (h : Header) (v : Nat) : Header := { h with w1 := wput h.w1 29 3 v }
def Header.setBank (h : Header) (b : Nat) : Header := { h with w1 := wput h.w1 28 1 b }
def Header.setCmark (h : Header) : Header := { h with w1 := wput h.w1 26 1 1 }
def Header.setDst (h : Header) (e : Nat) : Header := { h with w0 := wput h.w0 0 20 e }
def Header.setVia (h : Header) (row col : Nat) : Header :=
  { h with w4 := wput h.w4 25 7 (64 + row * 8 + col) }

end Sys2Proof

namespace Sys2Proof.Machine

open Sys2Proof

/-- A header built by the chip: every field not named is 0. -/
def mkHdr (opcode dst vc src len gepoch seq opw0 opw1 opw2 : Nat) : Header :=
  { w0 := BitVec.ofNat 32 (opcode * 2 ^ 24 + dst % 2 ^ 20)
    w1 := BitVec.ofNat 32 (vc * 2 ^ 29 + src % 2 ^ 20)
    w2 := BitVec.ofNat 32 (len % 2 ^ 13)
    w3 := BitVec.ofNat 32 (gepoch % 2 ^ 16 * 2 ^ 16)
    w4 := BitVec.ofNat 32 (seq % 2 ^ 24)
    w5 := BitVec.ofNat 32 opw0
    w6 := BitVec.ofNat 32 opw1
    w7 := BitVec.ofNat 32 opw2 }

end Sys2Proof.Machine

namespace Sys2Proof

open Sys2Proof.Machine

def Header.words (h : Header) : List Word := [h.w0, h.w1, h.w2, h.w3, h.w4, h.w5, h.w6, h.w7]

end Sys2Proof

namespace Sys2Proof.Machine

open Sys2Proof

def headerOf (ws : List Word) : Header :=
  let g := fun i => (ws[i]?).getD 0
  ⟨g 0, g 1, g 2, g 3, g 4, g 5, g 6, g 7⟩

/-! ## Cells (02 R40 to R48; 11 R304) -/

end Sys2Proof.Machine

namespace Sys2Proof

open Sys2Proof.Machine

def Cell.ctype (c : Cell) : Nat := wbits c.hdr 30 2
def Cell.vc (c : Cell) : Nat := wbits c.hdr 27 3
def Cell.tcode (c : Cell) : Nat := wbits c.hdr 24 3
def Cell.cidx (c : Cell) : Nat := wbits c.hdr 17 7
def Cell.isHead (c : Cell) : Bool := c.ctype % 2 == 1
def Cell.isLast (c : Cell) : Bool := c.ctype ≥ 2
def Cell.bytes (c : Cell) : List Byte := c.body.flatMap wbytes
def Cell.isIdle (c : Cell) : Bool := c.hdr == 0x00FE0000

end Sys2Proof

namespace Sys2Proof.Machine

open Sys2Proof

/-- The cell header word of 02 R41; types 0 body, 1 head, 2 tail, 3 single. -/
def cellHdr (ctype vc tcode cidx : Nat) : Word :=
  BitVec.ofNat 32 (ctype * 2 ^ 30 + vc * 2 ^ 27 + tcode * 2 ^ 24 + cidx * 2 ^ 17)

/-- An idle slot (11 R304). -/
def idleCell : Cell := ⟨0x00FE0000, List.replicate 16 0⟩

/-- How many cells a packet of LEN bytes has (02 R48). -/
def ncells (len : Nat) : Nat := max 1 ((32 + len + 63) / 64)

/-- The cells of a packet (02 R48), the last with TCODE 1. -/
def mkCells (h : Header) (data : List Byte) : List Cell :=
  let n := ncells h.len
  let all := h.words ++ wordsOf (n * 16 - 8) ((data ++ List.replicate (n * 64) 0#8).take (n * 64))
  (List.range n).map fun i =>
    let ct := if n = 1 then 3 else if i = 0 then 1 else if i + 1 = n then 2 else 0
    ⟨cellHdr ct h.vc (if ct ≥ 2 then 1 else 0) i, (all.drop (16 * i)).take 16⟩

/-! ## Opcodes (02 R63) -/

/-- The VCs an opcode is allowed on; empty for an opcode that is not in the table. -/
def opcodeVcs (op : Nat) : List Nat :=
  if 0x01 ≤ op ∧ op ≤ 0x06 then [0]
  else if op = 0x10 ∨ op = 0x12 ∨ op = 0x14 ∨ op = 0x15 ∨ op = 0x16 then [1]
  else if op = 0x11 ∨ op = 0x13 then [2]
  else if op = 0x20 ∨ op = 0x21 ∨ op = 0x22 ∨ op = 0x30 ∨ op = 0x42 then [3, 4]
  else if op = 0x28 ∨ op = 0x29 ∨ op = 0x2A ∨ op = 0x2B ∨ op = 0x31 ∨ op = 0x32 ∨ op = 0x44 then [5, 6]
  else if op = 0x40 ∨ op = 0x41 ∨ op = 0x43 then [7]
  else if op = 0x50 then [3, 4, 7]
  else []

/-- The opcodes that carry a GEPOCH (02 R63, R64). -/
def opcodeEpoch (op : Nat) : Bool :=
  op == 0x06 || (0x10 ≤ op && op ≤ 0x16) || (0x40 ≤ op && op ≤ 0x44)

def isRoomOp (op : Nat) : Bool := 0x40 ≤ op && op ≤ 0x44

/-- The counted requests of 04 R113. -/
def isCountedReq (op : Nat) : Bool := op == 0x20 || op == 0x21 || op == 0x22 || op == 0x30

/-- The responses that close a context (09 R247). -/
def isClosingRsp (op : Nat) : Bool := op == 0x28 || op == 0x29 || op == 0x2A || op == 0x31 || op == 0x2B

/-- 02 R55: old, ahead or equal, of a GEPOCH against the epoch `e` the chip holds. -/
def epochOld (e g : Nat) : Bool := let d := (e + 65536 - g) % 65536; 1 ≤ d && d ≤ 32768
def epochAhead (e g : Nat) : Bool := let d := (g + 65536 - e) % 65536; 1 ≤ d && d ≤ 32767

/-! ## The place (file 01) -/

def State.selfEid (s : State) : Nat := s.rd0 F.GLB_PLACE_SELF_EID
def State.rows (s : State) : Nat := s.rd0 F.GLB_PLACE_ROWS
def State.cols (s : State) : Nat := s.rd0 F.GLB_PLACE_COLS
def State.isRack (s : State) : Bool := eidKind s.selfEid == 2
def State.isSpine (s : State) : Bool := eidKind s.selfEid == 3
def State.plane (s : State) : Nat := eidIdx s.selfEid
def State.line (s : State) : Nat := eidSlot s.selfEid
def State.ownRow (s : State) : Nat := eidRow s.selfEid
def State.ownCol (s : State) : Nat := eidCol s.selfEid

/-- The host's Endpoint ID through this chip (01 R36). -/
def State.hostEid (s : State) : Nat := mkEid s.ownRow s.ownCol (s.rd0 F.GLB_HOST_PLACE_HOST_NUM) 1 s.plane
def State.hostEpOn (s : State) : Bool := s.isRack && s.flag F.GLB_HOST_PLACE_HOST_EP_EN

/-- The mode of a physical port that the place gives (01 R20, R23, R30, R32): 0 held off, 1 split, 2 unsplit. -/
def portModeOf (eid rows cols p : Nat) : Nat :=
  if eidKind eid = 2 then
    if p < 64 then 1
    else if p < 72 then (if cols ≥ 2 then 2 else 0)
    else if p < 80 then (if rows ≥ 2 then 2 else 0)
    else 0
  else if eidKind eid = 3 then
    let racks := if eidSlot eid < 8 then cols else rows
    if p < 64 ∧ p < 8 * racks then 2 else 0
  else 0

def State.portMode (s : State) (p : Nat) : Nat := portModeOf s.selfEid s.rows s.cols p

/-- A logical port that exists in the present mode: not the odd number of an unsplit port (00 R12), not off. -/
def State.lpExists (s : State) (lp : Nat) : Bool :=
  lp < 160 && (s.portMode (lp / 2) == 1 || (s.portMode (lp / 2) == 2 && lp % 2 == 0))

/-- An accelerator port of a rack chip, where a packet enters its first chip (02 R66). -/
def State.isAccelPort (s : State) (lp : Nat) : Bool := s.isRack && lp < 128

/-- The stage of a link (11 R314). -/
def State.stage (s : State) (lp : Nat) : Nat := s.rd F.PRT_LSTAT_STAGE lp
def State.linkUp (s : State) (lp : Nat) : Bool := s.stage lp == 10
def State.paused (s : State) (lp : Nat) : Bool :=
  if lp % 2 = 1 then s.flag F.PRT_PAUSE_PAUSED1 (lp / 2) else s.flag F.PRT_PAUSE_PAUSED0 (lp / 2)

/-- The identity expected of the partner of a logical port (01 R31): its Endpoint ID and its physical port, with the
index of an accelerator left open (`none` where no row of the table names the port). The second number is 0x7F for an
endpoint. -/
def State.partner (s : State) (lp : Nat) : Option (Nat × Nat) :=
  let p := lp / 2
  if s.isRack then
    if lp < 128 then some (mkEid s.ownRow s.ownCol lp 0 0, 0x7F)
    else if p < 72 then some (mkEid 0 0 s.ownRow 3 s.plane, 8 * s.ownCol + (p - 64))
    else if p < 80 then some (mkEid 0 0 (8 + s.ownCol) 3 s.plane, 8 * s.ownRow + (p - 72))
    else none
  else if s.isSpine then
    if p < 64 then
      if s.line < 8 then some (mkEid s.line (p / 8) 0 2 s.plane, 64 + p % 8)
      else some (mkEid (p / 8) (s.line - 8) 0 2 s.plane, 72 + p % 8)
    else none
  else none

/-- A packet's logical port lies toward a spine, or on a spine (04 R105: "an uplink or a spine port"). -/
def State.isUplink (s : State) (lp : Nat) : Bool := (s.isRack && 128 ≤ lp && lp < 160) || (s.isSpine && lp < 160)

end Sys2Proof.Machine
end

