-- ==== Sys2Proof/Machine/RegFile.lean ====
section
/-! DEFINITION. Writing and reading whole register words by field class (13 R367 to R375): byte enables, W1C and W1S, the
shadows and their lock while a commit is pending (05 R146), DIRTY (12 R364). Registers with rules of their own use these
for their plain fields. -/

namespace Sys2Proof.Machine

open Sys2Proof

/-- The 32-bit mask of four byte enables. -/
def beMask (be : Nat) : Nat :=
  b2n (bitAt be 0) * 0xFF + b2n (bitAt be 1) * 0xFF00 + b2n (bitAt be 2) * 0xFF0000 + b2n (bitAt be 3) * 0xFF000000

/-- A whole 32-bit write. -/
def wholeBe (be : Nat) : Bool := be % 16 == 15

/-- What a field of software's copy holds after a write of its bits, disabled bytes keeping theirs (13 R368). -/
def fieldAfter (s : State) (f : Field) (i val be : Nat) : Nat :=
  let mask := bits (beMask be) f.lsb f.width
  let v := bits val f.lsb f.width
  let old := s.rdSw f i
  match f.acc with
  | .w1c => old - Nat.land old (Nat.land v mask)
  | .w1s => Nat.lor old (Nat.land v mask)
  | _ => Nat.lor (Nat.land v mask) (old - Nat.land old mask)

/-- A field that a plain write changes. -/
def Access.writable : Access → Bool
  | .rw => true
  | .ctr => true
  | .rws => true
  | .w1c => true
  | .w1s => true
  | _ => false

/-- Write one field by its class; answers whether the shadow lock of a pending commit refused it (05 R146). A write that
reaches a shadow sets DIRTY (12 R364). -/
def writeField (s : State) (f : Field) (i val be : Nat) : Bool × State :=
  if !f.acc.writable then (false, s)
  else
    let v := fieldAfter s f i val be
    if f.shadowed then
      if s.commit.isSome then (v != s.rdSw f i, s)
      else if bits (beMask be) f.lsb f.width = 0 then (false, s)
      else (false, (s.wrSw f i v).wr0 F.GLB_SEM_DIRTY 1)
    else (false, s.wr f i v)

/-- The fields of one word of a register. -/
def wordFields (r : RegName) (w : Nat) : List Field := (fieldsOf r).filter (·.word == w)

/-- Write the selected fields of a word; kind 0x03 when the shadow lock refused one. -/
def writeWord (s : State) (m : Master) (r : RegName) (i w val be : Nat) (sel : Field → Bool := fun _ => true) : State :=
  let (bad, s1) := ((wordFields r w).filter sel).foldl (fun (acc : Bool × State) f =>
    let (b, s2) := writeField acc.2 f i val be
    (acc.1 || b, s2)) (false, s)
  if bad then s1.accessFault m 3 (regOff r i + 4 * w) else s1

/-- A word as software reads it from its stored fields; write-only and go bits that no action holds read 0. -/
def readStored (s : State) (r : RegName) (i w : Nat) : Nat :=
  ((wordFields r w).map fun f => if f.acc == .wo then 0 else s.rdSw f i * 2 ^ f.lsb).foldl (· + ·) 0

/-- Put every field of an instance that `sel` holds of at its reset value, both copies. -/
def resetFields (s : State) (r : RegName) (i : Nat) (sel : Field → Bool := fun _ => true) : State :=
  ((fieldsOf r).filter sel).foldl (fun s f => s.wr f i (resetOf f i)) s

end Sys2Proof.Machine
end

