-- ==== Sys2Proof/Machine/Arith.lean ====
section
/-! DEFINITION. Number formats and exact arithmetic (file 07, R191 to R206): elements, MX tiles, the exact accumulator, the
one rounding, binary64 in order, weighted products. Values are exact: a finite number is a natural significand, a sign and
a power of two. -/

namespace Sys2Proof.Machine

open Sys2Proof

/-! ## Formats (07 R191) -/

def fmtBits (f : Nat) : Nat :=
  match f with
  | 0x01 => 32 | 0x02 => 16 | 0x03 => 16 | 0x04 => 64
  | 0x08 => 8 | 0x09 => 8 | 0x0A => 6 | 0x0B => 6 | 0x0C => 4
  | 0x10 => 8 | 0x11 => 32
  | _ => 0

def fmtMx (f : Nat) : Bool := 0x08 ≤ f && f ≤ 0x0C
def fmtInt (f : Nat) : Bool := f == 0x10 || f == 0x11

/-- Exponent bits and mantissa bits of a floating format. -/
def fmtExp (f : Nat) : Nat :=
  match f with
  | 0x01 => 8 | 0x02 => 5 | 0x03 => 8 | 0x04 => 11 | 0x08 => 4 | 0x09 => 5 | 0x0A => 2 | 0x0B => 3 | 0x0C => 2 | _ => 0
def fmtMan (f : Nat) : Nat :=
  match f with
  | 0x01 => 23 | 0x02 => 10 | 0x03 => 7 | 0x04 => 52 | 0x08 => 3 | 0x09 => 2 | 0x0A => 3 | 0x0B => 2 | 0x0C => 1 | _ => 0
def fmtBias (f : Nat) : Nat := 2 ^ (fmtExp f - 1) - 1

/-- Bytes of `n` elements: MX blocks of 32 carry one scale byte each (07 R192). -/
def fmtBytes (f n : Nat) : Nat :=
  if fmtMx f then (n + 31) / 32 * (1 + 4 * fmtBits f) else n * fmtBits f / 8

/-! ## Numbers -/

/-- An element's value: a NaN, an infinity, a zero with its sign, or (−1)^neg × m × 2^e with m ≠ 0. -/
inductive Num where
  | nan
  | inf (neg : Bool)
  | zero (neg : Bool)
  | fin (neg : Bool) (m : Nat) (e : Int)
  deriving DecidableEq, Repr

/-- Decode one element of a floating format (07 R191). -/
def decodeFloat (f v : Nat) : Num :=
  let mb := fmtMan f
  let eb := fmtExp f
  let m := v % 2 ^ mb
  let ex := bits v mb eb
  let neg := bitAt v (mb + eb)
  let top := ex == 2 ^ eb - 1
  let ieee := f == 0x01 || f == 0x02 || f == 0x03 || f == 0x04 || f == 0x09
  if top && ieee then (if m = 0 then .inf neg else .nan)
  else if top && f == 0x08 && m == 7 then .nan
  else if ex = 0 then (if m = 0 then .zero neg else .fin neg m (1 - (fmtBias f : Int) - mb))
  else .fin neg (m + 2 ^ mb) ((ex : Int) - fmtBias f - mb)

/-- Decode an integer element. -/
def decodeInt (f v : Nat) : Num :=
  let i := signed (fmtBits f) v
  if i = 0 then .zero false else .fin (decide (i < 0)) i.natAbs 0

/-- An element with its block's scale byte (127 outside the MX formats): 07 R192. -/
def decodeElem (f v scale : Nat) : Num :=
  if fmtInt f then decodeInt f v
  else if fmtMx f && scale == 0xFF then .nan
  else match decodeFloat f v with
    | .fin n m e => .fin n m (e + scale - 127)
    | x => x

/-! ## Rounding (07 R197) -/

/-- m ÷ 2^s to nearest, ties to even. -/
def rneShift (m s : Nat) : Nat :=
  let q := m / 2 ^ s
  let r := m % 2 ^ s
  if s = 0 then m
  else if 2 * r > 2 ^ s ∨ (2 * r = 2 ^ s ∧ q % 2 = 1) then q + 1 else q

/-- Round m × 2^e to `mb` fraction bits with least exponent `emin` and no largest exponent: the answer is k × 2^q with
k ≤ 2^(mb+1) − 1 (gradual underflow). -/
def roundTo (mb : Nat) (emin : Int) (m : Nat) (e : Int) : Nat × Int :=
  let lead := e + Nat.log2 m
  let q := max (lead - mb) (emin - mb)
  let k := if q ≤ e then m * 2 ^ (e - q).toNat else rneShift m (q - e).toNat
  if k = 2 ^ (mb + 1) then (2 ^ mb, q + 1) else (k, q)

/-- The encoding of k × 2^q in a floating format, none when it lies above the format's exponents. -/
def encodeKq (f : Nat) (neg : Bool) (k : Nat) (q : Int) : Option Nat :=
  let mb := fmtMan f
  let eb := fmtExp f
  let sgn := b2n neg * 2 ^ (mb + eb)
  if k < 2 ^ mb then some (sgn + k)
  else
    let field := q + mb + fmtBias f
    let lim : Int := if f == 0x08 || f == 0x0A || f == 0x0B || f == 0x0C then 2 ^ eb else 2 ^ eb - 1
    if field ≥ lim then none else some (sgn + field.toNat * 2 ^ mb + (k - 2 ^ mb))

/-- Infinity and the canonical quiet NaN of a binary format (07 R197, R201). -/
def fmtInf (f : Nat) (neg : Bool) : Nat := (b2n neg * 2 ^ fmtExp f + (2 ^ fmtExp f - 1)) * 2 ^ fmtMan f
def fmtNan (f : Nat) : Nat := (2 ^ fmtExp f - 1) * 2 ^ fmtMan f + 2 ^ (fmtMan f - 1)

/-- A number into a binary format, rounded once. -/
def encodeBin (f : Nat) (x : Num) : Nat :=
  match x with
  | .nan => fmtNan f
  | .inf n => fmtInf f n
  | .zero n => b2n n * 2 ^ (fmtExp f + fmtMan f)
  | .fin n m e =>
    let (k, q) := roundTo (fmtMan f) (1 - (fmtBias f : Int)) m e
    (encodeKq f n k q).getD (fmtInf f n)

/-! ## The exact accumulator (07 R194, R195) -/

/-- CLASS (0 finite, 1 negative zero, 2 +∞, 3 −∞, 4 NaN) and SUM, in units of 2^−149. -/
structure Acc where
  cls : Nat
  sum : Int
  deriving DecidableEq, Repr

/-- A floating-point sweep starts at CLASS 1, an integer sweep at CLASS 0. -/
def Acc.init (isInt : Bool) : Acc := ⟨if isInt then 0 else 1, 0⟩

/-- An input as an accumulator that has taken it alone. -/
def Acc.ofNum (x : Num) : Acc :=
  match x with
  | .nan => ⟨4, 0⟩
  | .inf n => ⟨if n then 3 else 2, 0⟩
  | .zero n => ⟨if n then 1 else 0, 0⟩
  | .fin n m e =>
    let v : Int := (m : Int) * 2 ^ (e + 149).toNat
    ⟨0, if n then -v else v⟩

/-- The class after two contributions. -/
def Acc.joinCls (a b : Nat) : Nat :=
  if a = 4 ∨ b = 4 then 4
  else if (a = 2 ∧ b = 3) ∨ (a = 3 ∧ b = 2) then 4
  else if a = 2 ∨ b = 2 then 2
  else if a = 3 ∨ b = 3 then 3
  else if a = 1 ∧ b = 1 then 1
  else 0

/-- Exact addition: classes joined, SUMs added, SUM updated whatever the class. -/
def Acc.add (a b : Acc) : Acc := ⟨Acc.joinCls a.cls b.cls, a.sum + b.sum⟩

/-- The value that an accumulator stands for. -/
def Acc.toNum (a : Acc) : Num :=
  match a.cls with
  | 4 => .nan
  | 2 => .inf false
  | 3 => .inf true
  | 1 => .zero true
  | _ => if a.sum = 0 then .zero false else .fin (decide (a.sum < 0)) a.sum.natAbs (-149)

/-- Order of exact values, −0 below +0 (07 R201). NaN is handled before. -/
def Acc.lt (a b : Acc) : Bool :=
  if a.cls = 3 then b.cls != 3
  else if b.cls = 3 then false
  else if b.cls = 2 then a.cls != 2
  else if a.cls = 2 then false
  else decide (a.sum < b.sum) || (a.sum == b.sum && a.cls == 1 && b.cls == 0)

def Acc.min (a b : Acc) : Acc := if a.cls = 4 then a else if b.cls = 4 then b else if Acc.lt b a then b else a
def Acc.max (a b : Acc) : Acc := if a.cls = 4 then a else if b.cls = 4 then b else if Acc.lt a b then b else a

/-! ## Rounding the outputs (07 R197 to R200) -/

/-- Flags of R200 as bits: 4 NAN, 2 INF, 1 SAT. -/
def binFlags (f v : Nat) : Nat :=
  match decodeFloat f v with
  | .nan => 4
  | .inf _ => 2
  | _ => 0

/-- An integer output, clamped (07 R199). -/
def roundInt (f : Nat) (a : Acc) : Nat × Nat :=
  let v := a.sum / (2 ^ 149 : Nat)
  let hi : Int := 2 ^ (fmtBits f - 1) - 1
  let lo : Int := -(2 ^ (fmtBits f - 1))
  if v > hi then (unsigned (fmtBits f) hi, 1)
  else if v < lo then (unsigned (fmtBits f) lo, 1)
  else (unsigned (fmtBits f) v, 0)

/-- EMAX and the largest element's encoding of an MX format (07 R198). -/
def mxEmax (f : Nat) : Int :=
  match f with
  | 0x08 => 8 | 0x09 => 15 | 0x0A => 2 | 0x0B => 4 | _ => 2
def mxLargest (f : Nat) : Nat :=
  match f with
  | 0x08 => 0x7E | 0x09 => 0x7B | 0x0A => 0x1F | 0x0B => 0x1F | _ => 0x7

/-- One MX element: value ÷ 2^x rounded once, saturated at the largest magnitude. -/
def mxElem (f : Nat) (x : Int) (a : Acc) : Nat × Nat :=
  let sgn := fun (n : Bool) => b2n n * 2 ^ (fmtBits f - 1)
  match a.toNum with
  | .fin n m e =>
    let (k, q) := roundTo (fmtMan f) (1 - (fmtBias f : Int)) m (e - x)
    match encodeKq f false k q with
    | some v => if v > mxLargest f then (sgn n + mxLargest f, 1) else (sgn n + v, 0)
    | none => (sgn n + mxLargest f, 1)
  | .zero n => (sgn n, 0)
  | _ => (0, 0)

/-- One block of 32 outputs: scale, elements, flags. -/
def mxBlock (f : Nat) (as_ : List Acc) : Nat × List Nat × Nat :=
  let bad := as_.any fun a => a.cls == 2 || a.cls == 3 || a.cls == 4
  if bad then
    (0xFF, as_.map fun _ => 0,
      (if as_.any (·.cls == 4) then 4 else 0) + (if as_.any fun a => a.cls == 2 || a.cls == 3 then 2 else 0))
  else
    let amax := as_.foldl (fun m a => Max.max m a.sum.natAbs) 0
    let x : Int := if amax = 0 then -127 else Max.max (-127) (Min.min 127 ((Nat.log2 amax : Int) - 149 - mxEmax f))
    let es := as_.map (mxElem f x)
    ((x + 127).toNat, es.map (·.1), if es.any (·.2 == 1) then 1 else 0)

/-! ## Packing (07 R192) -/

/-- Raw elements with their scale bytes (127 where the format has none). -/
abbrev RawElem := Nat × Nat

/-- `n` fields of `w` bits of a number, the lowest first. -/
def fieldsLe (w : Nat) : Nat → Nat → List Nat
  | 0, _ => []
  | n + 1, v => v % 2 ^ w :: fieldsLe w n (v / 2 ^ w)

/-- Fields joined into a number, the first lowest. -/
def joinLe (w : Nat) : List Nat → Nat
  | [] => 0
  | x :: xs => x % 2 ^ w + 2 ^ w * joinLe w xs

/-- The elements of a tile of `nb` blocks. -/
def tileElems (f nb : Nat) (bs : List Byte) : List RawElem :=
  let scales := bs.take nb
  let es := fieldsLe (fmtBits f) (32 * nb) (leNat ((bs.drop nb).take (nb * 4 * fmtBits f)))
  (List.range (32 * nb)).map fun i => (es.getD i 0, (scales.getD (i / 32) 0).toNat)

/-- The elements of MX data of `nb` blocks: tiles of 32 blocks, the last with the rest. The fuel is the tile count. -/
def mxElems (f : Nat) : Nat → Nat → List Byte → List RawElem
  | 0, _, _ => []
  | fuel + 1, nb, bs =>
    if nb = 0 then []
    else
      let t := Min.min 32 nb
      tileElems f t bs ++ mxElems f fuel (nb - t) (bs.drop (t * (1 + 4 * fmtBits f)))

/-- The `n` elements of a buffer. -/
def unpackElems (f n : Nat) (bs : List Byte) : List RawElem :=
  if fmtMx f then mxElems f (n / 1024 + 1) (n / 32) bs
  else (fieldsLe (fmtBits f) n (leNat bs)).map fun v => (v, 127)

/-- A tile from its elements. -/
def packTile (f : Nat) (es : List RawElem) : List Byte :=
  let nb := es.length / 32
  (List.range nb).map (fun b => BitVec.ofNat 8 ((es.getD (32 * b) (0, 0)).2))
    ++ leBytes (nb * 4 * fmtBits f) (joinLe (fmtBits f) (es.map (·.1)))

/-- MX data from its elements, tile by tile. -/
def packMx (f : Nat) : Nat → List RawElem → List Byte
  | 0, _ => []
  | fuel + 1, es => if es.isEmpty then [] else packTile f (es.take 1024) ++ packMx f fuel (es.drop 1024)

/-- A buffer from its elements. -/
def packElems (f : Nat) (es : List RawElem) : List Byte :=
  if fmtMx f then packMx f (es.length / 1024 + 1) es
  else leBytes (es.length * fmtBits f / 8) (joinLe (fmtBits f) (es.map (·.1)))

/-- How many elements a number of bytes holds. -/
def elemsIn (f bytes : Nat) : Nat :=
  if fmtBits f = 0 then 0
  else if fmtMx f then bytes / (1 + 4 * fmtBits f) * 32 else bytes * 8 / fmtBits f

/-- Split a list into runs of `k`. The fuel bounds the number of runs. -/
def runsOf {α : Type} (k : Nat) : Nat → List α → List (List α)
  | 0, _ => []
  | fuel + 1, l => if l.isEmpty then [] else l.take k :: runsOf k fuel (l.drop k)

/-- Round accumulators into the output format: the elements and the ORed flags (07 R197 to R200). -/
def roundOut (f : Nat) (as_ : List Acc) : List RawElem × Nat :=
  if fmtMx f then
    let blocks := (runsOf 32 (as_.length / 32 + 1) as_).map (mxBlock f)
    (blocks.flatMap fun b => b.2.1.map fun v => (v, b.1), blocks.foldl (fun fl b => Nat.lor fl b.2.2) 0)
  else if fmtInt f then
    let es := as_.map (roundInt f)
    (es.map fun e => (e.1, 127), es.foldl (fun fl e => Nat.lor fl e.2) 0)
  else
    let es := as_.map fun a => encodeBin f a.toNum
    (es.map fun e => (e, 127), es.foldl (fun fl e => Nat.lor fl (binFlags f e)) 0)

/-! ## binary64 (07 R201, R203) -/

/-- IEEE 754 addition in binary64, to nearest even. -/
def add64 (a b : Nat) : Nat :=
  match decodeFloat 4 a, decodeFloat 4 b with
  | .nan, _ => fmtNan 4
  | _, .nan => fmtNan 4
  | .inf x, .inf y => if x = y then fmtInf 4 x else fmtNan 4
  | .inf x, _ => fmtInf 4 x
  | _, .inf y => fmtInf 4 y
  | .zero x, .zero y => encodeBin 4 (.zero (x && y))
  | .zero _, _ => b
  | _, .zero _ => a
  | .fin n m e, .fin n2 m2 e2 =>
    let v := fun (n : Bool) (m : Nat) (e : Int) => let x : Int := (m : Int) * 2 ^ (e + 1074).toNat; if n then -x else x
    let t := v n m e + v n2 m2 e2
    if t = 0 then 0 else encodeBin 4 (.fin (decide (t < 0)) t.natAbs (-1074))

/-- Exact order of binary64 values, −0 below +0. -/
def lt64 (a b : Nat) : Bool :=
  let key := fun v => match decodeFloat 4 v with
    | .inf n => (if n then -(2 ^ 2200 : Int) else 2 ^ 2200)
    | .zero n => if n then -1 else 0
    | .fin n m e => let x : Int := (m : Int) * 2 ^ (e + 1075).toNat; if n then -x else x
    | .nan => 0
  decide (key a < key b)

def isNan64 (v : Nat) : Bool := decodeFloat 4 v == .nan

/-- Fold one REDOP over binary64 inputs in the order given: 0 sum, 1 min, 2 max. The first input starts the fold. -/
def fold64 (redop : Nat) (vs : List Nat) : Nat :=
  if redop = 0 then
    match vs with
    | [] => 0x8000000000000000
    | v :: r => r.foldl add64 (if isNan64 v then fmtNan 4 else v)
  else if vs.any isNan64 then fmtNan 4
  else match vs with
    | [] => 0
    | v :: r => r.foldl (fun b x => if redop = 1 then (if lt64 x b then x else b) else (if lt64 b x then x else b)) v

/-! ## Bitwise operators (07 R202) -/

def foldBits (redop : Nat) (vs : List Nat) : Nat :=
  match vs with
  | [] => 0
  | v :: r => r.foldl (fun a b => if redop = 3 then Nat.land a b else if redop = 4 then Nat.lor a b else Nat.xor a b) v

/-! ## Weighted products (07 R204) -/

/-- One product of a binary32 weight and an element, rounded once to binary32. -/
def mulWeight (w : Nat) (x : Num) : Num :=
  match decodeFloat 1 w, x with
  | .nan, _ => .nan
  | _, .nan => .nan
  | .inf _, .zero _ => .nan
  | .zero _, .inf _ => .nan
  | .inf a, .inf b => .inf (xor a b)
  | .inf a, .fin b _ _ => .inf (xor a b)
  | .fin a _ _, .inf b => .inf (xor a b)
  | .zero a, .zero b => .zero (xor a b)
  | .zero a, .fin b _ _ => .zero (xor a b)
  | .fin a _ _, .zero b => .zero (xor a b)
  | .fin a m e, .fin b m2 e2 => decodeFloat 1 (encodeBin 1 (.fin (xor a b) (m * m2) (e + e2)))

/-! ## XP partials (07 R205, R206) -/

/-- Bytes and window bits of WIDTH 0, 1, 2. -/
def xpBytes (w : Nat) : Nat := if w = 0 then 8 else if w = 1 then 16 else 40
def xpBits (w : Nat) : Nat := 8 * xpBytes w - 3

/-- An XP element under WIDTH and BASE. -/
def xpDecode (w base : Nat) (bs : List Byte) : Acc :=
  let v := leNat (bs.take (xpBytes w))
  ⟨v / 2 ^ xpBits w, signed (xpBits w) v * 2 ^ base⟩

/-- Whether an accumulator is exact under WIDTH and BASE. -/
def xpFits (w base : Nat) (a : Acc) : Bool :=
  let q := a.sum / (2 ^ base : Nat)
  q * (2 ^ base : Nat) == a.sum && decide (-(2 ^ (xpBits w - 1) : Int) ≤ q) && decide (q < (2 ^ (xpBits w - 1) : Int))

/-- Trailing zero bits of a SUM, 316 for 0. -/
def sumTrail (i : Int) : Nat :=
  if i = 0 then 316 else Nat.log2 (Nat.gcd i.natAbs (2 ^ 316))

/-- WIDTH and BASE of a packet: the narrowest width, and for it the largest BASE, that keep every element exact. -/
def xpChoose (as_ : List Acc) : Nat × Nat :=
  let base := as_.foldl (fun b a => Min.min b (sumTrail a.sum)) 316
  if as_.all (xpFits 0 base) then (0, base)
  else if as_.all (xpFits 1 base) then (1, base)
  else (2, 0)

def xpEncode (w base : Nat) (a : Acc) : List Byte :=
  leBytes (xpBytes w) (a.cls * 2 ^ xpBits w + unsigned (xpBits w) (a.sum / (2 ^ base : Nat)))

/-- The XP packets of a chunk's partial: payloads with their headers. The widest count that one width allows goes in each
packet: the narrowest width that its own elements admit. -/
def xpPackets : Nat → Nat → List Acc → List (List Byte)
  | 0, _, _ => []
  | fuel + 1, first, as_ =>
    if as_.isEmpty then []
    else
      let try_ := fun w => let run := as_.take (4088 / xpBytes w); ((xpChoose run).1 ≤ w, run)
      let (w, run) := if (try_ 0).1 then (0, (try_ 0).2) else if (try_ 1).1 then (1, (try_ 1).2) else (2, (try_ 2).2)
      let base := if w = 2 then 0 else run.foldl (fun b a => Min.min b (sumTrail a.sum)) 316
      (leBytes 8 (first * 2 ^ 32 + w * 2 ^ 9 + base) ++ run.flatMap (xpEncode w base))
        :: xpPackets fuel (first + run.length) (as_.drop run.length)

end Sys2Proof.Machine
end

