-- ==== Sys2Proof/Machine/Forward.lean ====
section
/-! DEFINITION. Shared operations of the switch core (files 02, 03, 04): the packets and cells held in the chip, ending and
discarding packets, the lookup, the choice of a member, entry checks, and injection by the local station. -/

namespace Sys2Proof.Machine

open Sys2Proof

/-! ## Packets and targets -/

def modSw (s : State) (f : SwitchSt → SwitchSt) : State := { s with sw := f s.sw }

def findPkt (s : State) (pid : Nat) : Option PktRec := s.sw.pkts.find? (·.pid == pid)

/-- Change one packet's record. -/
def updPkt (s : State) (pid : Nat) (f : PktRec → PktRec) : State :=
  modSw s fun w => { w with pkts := w.pkts.map fun p => if p.pid = pid then f p else p }

/-- Change one target of a packet, named by its id. -/
def updTgt (s : State) (pid id : Nat) (f : Target → Target) : State :=
  updPkt s pid fun p => { p with tgts := p.tgts.map fun t => if t.id = id then f t else t }

/-- The port of a target's id. -/
def portOf (id : Nat) : Nat := id % 1000

/-- The output position of a target's id: its port, or 80 for the host path (03 R94). -/
def posOf (id : Nat) : Nat := if portOf id ≥ 160 then 80 else portOf id / 2

/-- The key of a (source, output position, VC) of 03 R75. -/
def flowKey (src pos vc : Nat) : Nat := (src * 81 + pos) * 8 + vc

def newTarget (lp : Nat) : Target := ⟨lp, lp, none, none, 0, false, false, none, false⟩

/-- More of a packet may leave at this target: it is not finished and no abort tail is due there. -/
def Target.live (t : Target) : Bool := !t.fin && t.endTc.isNone

/-- Drop the record of a packet whose targets are all done and whose last cell has arrived. -/
def cleanup (s : State) (pid : Nat) : State :=
  modSw s fun w => { w with pkts := w.pkts.filter fun p => !(p.pid == pid && p.rxDone && p.tgts.all (·.fin)) }

/-! ## The link record -/

/-- A link as it stands at link down: counters at 0, nothing kept (11 R303, R311). -/
def linkInit : Link :=
  { txSlots := [], flip := false, ctlOut := [], txWord := 0, rxWord := 0, txSeq := 0, txCount := 0, txLcw := 0, txKind := 0, lcwRun := none, retry := [], again := false, resends := 0,
    resendSeq := 0, ackAt := 0, rxSeq := 0, rxCount := 0, rxLcw := 0, rxLcwOk := true, rxEarly := none, rxReady := none,
    rxKinds := 0, replayWait := false, nak := false, grant := [], limOut := [], limIn := [], sent := [], cred := [],
    flex := [], stageAt := 0, rateCount := 0, peerMask := 0, stopped := false, failRun := false, retryAt := none,
    restripe := false, flushing := false, pausedAt := none, idleSince := none, clkMode := 0 }

def getLink (s : State) (lp : Nat) : Link := mgetD s.links lp linkInit
def setLink (s : State) (lp : Nat) (l : Link) : State := { s with links := mset linkInit s.links lp l }
def modLink (s : State) (lp : Nat) (f : Link → Link) : State := setLink s lp (f (getLink s lp))

/-- Credits that the partner has granted and that are not yet used on a VC (11 R310). -/
def credits (s : State) (lp vc : Nat) : Nat :=
  let l := getLink s lp
  (4 * mgetD l.limIn vc 0 + 16384 - mgetD l.sent vc 0 % 16384) % 16384

/-! ## Egress queues -/

def egrInit : Egr := ⟨none, none, none, 0, 0, none, none, false⟩
def egrPortInit : EgrPort := ⟨0, 0, 0, false⟩
def getEgr (s : State) (lp vc : Nat) : Egr := mgetD s.sw.egr (lp * 8 + vc) egrInit
def modEgr (s : State) (lp vc : Nat) (f : Egr → Egr) : State :=
  modSw s fun w => { w with egr := mset egrInit w.egr (lp * 8 + vc) (f (mgetD w.egr (lp * 8 + vc) egrInit)) }
def getEPort (s : State) (lp : Nat) : EgrPort := mgetD s.sw.eport lp egrPortInit
def modEPort (s : State) (lp : Nat) (f : EgrPort → EgrPort) : State :=
  modSw s fun w => { w with eport := mset egrPortInit w.eport lp (f (mgetD w.eport lp egrPortInit)) }

/-- A packet has a cell or an abort tail ready at one of its outputs. -/
def pktReady (s : State) (pid id : Nat) : Bool :=
  (s.sw.cells.any fun c => c.pid == pid && c.tgt == id && c.rel)
  || (s.sw.pkts.any fun p => p.pid == pid && p.tgts.any fun t => t.id == id && !t.fin && t.endTc.isSome)

/-- Whether a cell is ready for egress on a queue: of its open packet, else the head of one that is not held back. -/
def readyOn (s : State) (lp vc : Nat) : Bool :=
  match (getEgr s lp vc).openPid with
  | some (pid, id) => pktReady s pid id
  | none => s.sw.cells.any fun c => portOf c.tgt == lp && c.vc == vc && c.rel && c.cidx == 0
      && !(c.tgt == lp && (getEgr s lp vc).held.any fun e => e.1 == c.pid)

/-- A queue's eligibility (04 R118). -/
def eligible (s : State) (lp vc : Nat) : Bool := readyOn s lp vc && decide (0 < credits s lp vc)

/-- Keep the time since which a queue has been eligible and unserved (04 R119). -/
def touchElig (s : State) (lp vc : Nat) : State :=
  if lp ≥ 160 then s
  else if eligible s lp vc then modEgr s lp vc fun e => { e with eligSince := some (e.eligSince.getD s.now) }
  else modEgr s lp vc fun e => { e with eligSince := none }

/-- Look at the queues of a position on one VC again after cells came in or went (04 R119). -/
def touchPos (s : State) (pos vc : Nat) : State :=
  if pos ≥ 80 then s else touchElig (touchElig s (2 * pos) vc) (2 * pos + 1) vc

/-! ## Release and removal -/

/-- The resequencer of one (source, position, VC) releases the cells that are next in sequence (03 R75); numbers of cells
removed before release are passed over. The fuel bounds the run by the cells and gaps held. -/
def releaseRun : Nat → SwitchSt → Nat → SwitchSt
  | 0, w, _ => w
  | n + 1, w, key =>
    let e := mgetD w.seqExp key 0
    let isIt := fun (c : CellRec) => flowKey c.src (posOf c.tgt) c.vc == key && c.seq == e && !c.rel && c.loc == .store
    if w.cells.any isIt then
      releaseRun n { w with cells := w.cells.map fun c => if isIt c then { c with rel := true } else c
                            seqExp := mset 0 w.seqExp key ((e + 1) % 65536) } key
    else if w.skips.contains (key, e) then
      releaseRun n { w with skips := w.skips.filter (· != (key, e)), seqExp := mset 0 w.seqExp key ((e + 1) % 65536) } key
    else w

def release (s : State) (key : Nat) : State :=
  touchPos (modSw s fun w => releaseRun (w.cells.length + w.skips.length) w key) (key / 8 % 81) (key % 8)

/-! ### Bodies and their copies (03 R93) -/

/-- The body that a copy points to. -/
def bodyOf (w : SwitchSt) (c : CellRec) : Cell :=
  ((w.bodies.find? fun b => b.pid == c.pid && b.cidx == c.cidx).map (·.cell)).getD idleCell

/-- One more copy of a cell's body: the first one stores it in relay buffer `k`. -/
def addRef (bs : List Body) (pid k : Nat) (c : Cell) : List Body :=
  if bs.any fun b => b.pid == pid && b.cidx == c.cidx then
    bs.map fun b => if b.pid = pid ∧ b.cidx = c.cidx then { b with refs := b.refs + 1 } else b
  else bs ++ [⟨pid, c.cidx, k, 1, c⟩]

/-- A copy of a cell has left or been discarded: its body is freed with the last one. -/
def dropRef (bs : List Body) (c : CellRec) : List Body :=
  (bs.map fun b => if b.pid = c.pid ∧ b.cidx = c.cidx then { b with refs := b.refs - 1 } else b).filter fun b => b.refs != 0

/-- Take copies out of the chip, with their references to bodies. -/
def dropCopies (w : SwitchSt) (p : CellRec → Bool) : SwitchSt :=
  { w with cells := w.cells.filter (!p ·), bodies := (w.cells.filter p).foldl dropRef w.bodies }

/-- Take one copy out of the chip. -/
def dropCopy (w : SwitchSt) (c : CellRec) : SwitchSt :=
  { w with cells := w.cells.erase c, bodies := dropRef w.bodies c }

/-- Slots of relay buffer `k` in use: the bodies of which a copy still stands in it. Its admission rule counts every copy as a
cell (`relayClass`; DEDUCED, log 118). -/
def relaySlots (w : SwitchSt) (k : Nat) : Nat :=
  (w.bodies.filter fun b => b.relay == k
    && w.cells.any fun c => c.loc == .relay k && c.pid == b.pid && c.cidx == b.cidx).length

/-- Remove the admitted cells of one copy of a packet; the numbers of those not yet released are remembered as gaps. -/
def removeCells (s : State) (pid id : Nat) : State :=
  let isOurs := fun (c : CellRec) => c.pid == pid && c.tgt == id
  let gone := (s.sw.cells.filter isOurs).filter (!·.rel)
  let keys := (gone.map fun c => flowKey c.src (posOf c.tgt) c.vc).dedup
  let s1 := modSw s fun w =>
    { dropCopies w isOurs with
      skips := w.skips ++ gone.map fun c => (flowKey c.src (posOf c.tgt) c.vc, c.seq) }
  let vcs := ((s.sw.cells.filter isOurs).map (·.vc)).dedup
  vcs.foldl (fun s v => touchElig s (portOf id) v) (keys.foldl release s1)

/-! ### The end of a packet at an output -/

/-- The host path's ports: the host itself and the mirror sessions' places for it. -/
def isHostTgt (lp : Nat) : Bool := lp == 160 || decide (162 ≤ lp)

/-- The payload gathered for a host-path output. -/
def gatherKey (pid id : Nat) : Nat := pid * 8192 + id

/-- A RESULT of the station that was discarded or aborted in the chip is to be sent again on its link (06 R181). -/
def againOn (s : State) (res : Option ResTag) (lp : Nat) : State :=
  match res with
  | none => s
  | some r => { s with resend := s.resend ++ [(r, lp)] }

/-- The same for a packet at one of its outputs; a mirror copy is no copy of the RESULT's own. -/
def askResend (s : State) (p : PktRec) (t : Target) : State := if t.mir.isSome then s else againOn s p.res t.lp

/-- A host-path output of a packet has ended with a tail code: a good packet, or a mirror copy with any tail, is handed to the
host path whole (02 R50, 03 R96); another is dropped. -/
def hostHand (s : State) (p : PktRec) (t : Target) (tc : Nat) : State :=
  let data := mgetD s.sw.gather (gatherKey p.pid t.id) []
  let s1 := modSw s fun w => { w with gather := mdel w.gather (gatherKey p.pid t.id) }
  let s2 := if tc = 1 ∨ t.mir.isSome = true then
      modSw s1 fun w => { w with hostQ := w.hostQ ++ [⟨⟨t.hdr.getD p.hdr, data.take p.hdr.len, p.arr⟩, t.mir, tc, p.res⟩] }
    else askResend s1 p t
  updTgt s2 p.pid t.id fun t => { t with fin := true }

/-- End one output of a packet: with its head gone, the next cell sent there is an abort tail with `tc`; otherwise the
packet is discarded there (02 R49, 03 R91). At the host path, which has no link to carry a tail, it ends at once. Either way none of its cells enters there any more (Target.live). -/
def endOutput (s : State) (pid id tc : Nat) : State :=
  match findPkt s pid with
  | none => s
  | some p =>
    match p.tgts.find? (·.id == id) with
    | none => s
    | some t =>
      if t.fin then s
      else
        let s1 := removeCells s pid id
        if t.sent > 0 ∧ isHostTgt t.lp = true then hostHand s1 p t tc
        else if t.sent > 0 then
          touchElig (updTgt s1 pid id fun t => { t with endTc := some (t.endTc.getD tc) }) t.lp p.hdr.vc
        else updTgt s1 pid id fun t => { t with fin := true }

/-- The copies that DIR 1 sessions made of a packet as it left at an output (03 R96). -/
def outCopies (p : PktRec) (t : Target) : List Target :=
  if t.mir.isSome then [] else p.tgts.filter fun x => x.mir.any fun m => m.dir == 1 && m.lp == t.lp

/-- End one target of a packet, and with it the copies that DIR 1 sessions make of what leaves there: a copy is whole, its abort
tail included (03 R96). -/
def endTarget (s : State) (pid id tc : Nat) : State :=
  let s1 := endOutput s pid id tc
  match (findPkt s pid).bind fun p => (p.tgts.find? (·.id == id)).map fun t => (p, t) with
  | none => s1
  | some (p, t) => if t.sent = 0 then s1 else (outCopies p t).foldl (fun s x => endOutput s pid x.id tc) s1

/-- End a packet everywhere (03 R92); no more of its cells will arrive. -/
def endPacket (s : State) (pid tc : Nat) : State :=
  match findPkt s pid with
  | none => s
  | some p =>
    let s1 := modSw s fun w => { w with wait := w.wait.filter (·.pid != pid) }
    let s2 := p.tgts.foldl (fun s t => endTarget s pid t.id tc) s1
    cleanup (updPkt s2 pid fun p => { p with rxDone := true }) pid

/-- The queue depth of a logical port and VC (03 R100): cells in crosspoint queues and the output store. -/
def depth (s : State) (lp vc : Nat) : Nat := (s.sw.cells.filter fun c => portOf c.tgt == lp && c.vc == vc).length

/-! ## Lookup (03 R80 to R84, 04 R109 to R112) -/

inductive Route where
  | disc (reason : Nat)
  | out (lp : Nat)
  deriving DecidableEq, Repr

/-- The table index that a destination forms, or the local station, or reason 0x13 (03 R80, 04 R109). -/
inductive Key where
  | entry (i : Nat)
  | station
  | bad
  deriving DecidableEq, Repr

def lookupKey (s : State) (h : Header) : Key :=
  let d := h.dst
  if eidKind d ≠ 0 ∧ eidIdx d ≠ s.plane then .bad
  else if (h.vc = 3 ∨ h.vc = 5) ∧ h.viaV = true then .entry (256 + 8 * h.viaRow + h.viaCol)
  else if s.isRack then
    if eidKind d = 3 then .entry (320 + eidSlot d)
    else if eidRow d = s.ownRow ∧ eidCol d = s.ownCol then
      if eidKind d = 0 then .entry (eidSlot d)
      else if eidKind d = 1 then .entry (128 + eidSlot d)
      else .station
    else .entry (256 + 8 * eidRow d + eidCol d)
  else if eidKind d = 3 then
    if eidSlot d = s.line then .station else .entry (320 + eidSlot d)
  else .entry (256 + 8 * eidRow d + eidCol d)

def fwdReg (b : Nat) : RegName := if b = 0 then .SWC_FWD_A else .SWC_FWD_B
def psetReg (b : Nat) : RegName := if b = 0 then .SWC_PSET_A else .SWC_PSET_B

/-- The physical ports of a port set of a bank, in rising order. -/
def psetMembers (s : State) (b p : Nat) : List Nat :=
  let r := psetReg b
  let mask := s.rd (F.SWC_PSET_B_MASK.onReg r) p
  let base := s.rd (F.SWC_PSET_B_BASE_P.onReg r) p
  ((List.range 8).filter fun q => bitAt mask q).map fun q => base + q

/-- 03 R81: the entry is invalid. -/
def entryInvalid (s : State) (b i : Nat) : Bool :=
  let r := fwdReg b
  let act := s.rd (F.SWC_FWD_B_ACT.onReg r) i
  let lp := s.rd (F.SWC_FWD_B_LPORT.onReg r) i
  let ps := s.rd (F.SWC_FWD_B_PSET.onReg r) i
  !s.flag (F.SWC_FWD_B_VALID.onReg r) i || act ≥ 3
  || (act == 0 && !s.lpExists lp)
  || (act == 1 && (!s.flag (F.SWC_PSET_B_VALID.onReg (psetReg b)) ps
        || s.rd (F.SWC_PSET_B_MASK.onReg (psetReg b)) ps == 0
        || (psetMembers s b ps).any fun p => decide (p > 79) || s.portMode p == 1))
  || (act == 2 && (!s.hostEpOn || i != 128 + s.rd0 F.GLB_HOST_PLACE_HOST_NUM))

/-- The pin key of a packet (04 R112). -/
def pinKey (s : State) (h : Header) : Nat :=
  crc32c (s.rd0 F.SWC_RTE_SEED_SEED) (leBytes 3 h.srcE ++ leBytes 3 h.dst ++ leBytes 2 h.hash)

/-- The score of a member for a pinned packet (04 R112). -/
def pinScore (s : State) (k q : Nat) : Nat :=
  crc32c (s.rd0 F.SWC_RTE_SEED_SEED) (leBytes 4 k ++ leBytes 3 s.selfEid ++ leBytes 1 q)

def isPinned (s : State) (h : Header) : Bool :=
  ((h.vc == 3 || h.vc == 4) && s.flag F.SWC_RTE_CTRL_PIN_REQ)
  || ((h.vc == 5 || h.vc == 6) && s.flag F.SWC_RTE_CTRL_PIN_RSP)

/-- The element of a list with the largest score, the first on a tie. -/
def bestBy (score : Nat → Nat) : List Nat → Option Nat
  | [] => none
  | x :: xs => some (xs.foldl (fun b y => if score y > score b then y else b) x)

/-- Choose the member of a port set: pinned by score, else the shallowest queue with the rotating pointer of the set
breaking ties (04 R111, R112); paused members are left out while another is up (15 R428). Members are physical ports;
`q` of the score is the member's place in the set. The pointer names the first physical port to prefer. -/
def chooseMember (s : State) (h : Header) (b ps : Nat) : Option Nat × State :=
  let base := s.rd (F.SWC_PSET_B_BASE_P.onReg (psetReg b)) ps
  let up := (psetMembers s b ps).filter fun p => s.linkUp (2 * p)
  let free := up.filter fun p => !s.paused (2 * p)
  let cand := if free.isEmpty then up else free
  if isPinned s h then
    (bestBy (fun p => pinScore s (pinKey s h) (p - base)) cand, s)
  else
    let least := (cand.map fun p => depth s (2 * p) h.vc).min?.getD 0
    let ties := cand.filter fun p => depth s (2 * p) h.vc == least
    let ptr := mgetD s.sw.tie (b * 32 + ps) 0
    let pick := match ties.find? (· ≥ ptr) with
      | some p => some p
      | none => ties.head?
    match pick with
    | none => (none, s)
    | some p => (some p, modSw s fun w => { w with tie := mset 0 w.tie (b * 32 + ps) (p + 1) })

def bankState (s : State) (b : Nat) : Nat :=
  if b = 0 then s.rd0 F.SWC_BANK_STAT_STATE_A else s.rd0 F.SWC_BANK_STAT_STATE_B

/-- The lookup of a head cell in its bank: reasons in the order 0x13, 0x12, 0x10, 0x11 (03 R102). -/
def routeOf (s : State) (h : Header) : Route × State :=
  match lookupKey s h with
  | .bad => (.disc 0x13, s)
  | .station => (.out 161, s)
  | .entry i =>
    let b := h.bank
    if bankState s b = 0 then (.disc 0x12, s)
    else if entryInvalid s b i then (.disc 0x10, s)
    else
      let act := s.rd (F.SWC_FWD_B_ACT.onReg (fwdReg b)) i
      if act = 0 then
        let lp := s.rd (F.SWC_FWD_B_LPORT.onReg (fwdReg b)) i
        if s.linkUp lp then (.out lp, s) else (.disc 0x11, s)
      else if act = 1 then
        match chooseMember s h b (s.rd (F.SWC_FWD_B_PSET.onReg (fwdReg b)) i) with
        | (some p, s1) => (.out (2 * p), s1)
        | (none, s1) => (.disc 0x11, s1)
      else (.out 160, s)

/-- The first chip's writes: BANK (02 R54) and the VIA fields of a VC3 or VC5 packet for another rack (04 R107). -/
def stampEntry (s : State) (h0 : Header) : Header × State :=
  let h := h0.setBank (s.rd0 F.SWC_BANK_STAT_ACTIVE)
  if h.vc ≠ 3 ∧ h.vc ≠ 5 then (h, s)
  else
    let d := h.dst
    let own := s.isRack && eidKind d != 3 && eidRow d == s.ownRow && eidCol d == s.ownCol
    if own then (h, s)
    else if s.isSpine then
      if s.line < 8 then (h.setVia s.line (eidCol d), s) else (h.setVia (eidRow d) (s.line - 8), s)
    else if eidKind d = 3 then
      if eidSlot d < 8 then (h.setVia (eidSlot d) s.ownCol, s) else (h.setVia s.ownRow (eidSlot d - 8), s)
    else if s.flag F.SWC_RTE_CTRL_RND_VIA then
      let n := s.rows * s.cols
      if isPinned s h then
        let i := pinKey s h * n / 2 ^ 32
        (h.setVia (i / s.cols) (i % s.cols), s)
      else
        let (x, s1) := s.draw
        let i := x * n / 2 ^ 32
        (h.setVia (i / s.cols) (i % s.cols), s1)
    else (h.setVia (eidRow d) (eidCol d), s)

/-- The turn at the intermediate rack (04 R108). -/
def turn (s : State) (h : Header) : Header :=
  if s.isRack ∧ (h.vc = 3 ∨ h.vc = 5) ∧ h.viaV = true ∧ h.viaRow = s.ownRow ∧ h.viaCol = s.ownCol then h.setVc (h.vc + 1)
  else h

/-! ## Entry checks -/

/-- A group's state code and epoch (06 R152, R153). -/
def groupActive (s : State) (g : Nat) : Bool := s.rd F.GRP_ENT_STATE g == 2
def groupLive (s : State) (g : Nat) : Bool := s.rd F.GRP_ENT_STATE g == 2 || s.rd F.GRP_ENT_STATE g == 3

/-- The room that a room packet names (10 R282). -/
def roomOf (h : Header) : Nat := wbits h.w5 16 7

/-- The epoch the first chip holds for a packet's group or room, none where R55 is skipped (02 R55, 06 R160, 10 R283). -/
def heldEpoch (s : State) (h : Header) : Option Nat :=
  if !opcodeEpoch h.opcode then none
  else if isRoomOp h.opcode then
    if s.flag F.RMS_ROOM_EN (roomOf h) then some (s.rd F.RMS_ROOM_LOCK_EPOCH (roomOf h))
    else if groupActive s h.gid then some (s.rd F.GRP_ENT_GEPOCH h.gid) else none
  else if groupLive s h.gid then some (s.rd F.GRP_ENT_GEPOCH h.gid) else none

def slotFenced (s : State) (slot : Nat) : Bool := bitAt (s.rd F.RMS_FENCE_FENCE (slot / 32)) (slot % 32)

/-- The header checks of a head cell that has arrived on a port or the host path, in the order of 10 R294 and 02 R67:
0x24, 0x03, 0x05, 0x06, 0x07, 0x09, 0x08, 0x0A, 0x0B; 0 when all pass. -/
def entryReason (s : State) (h : Header) (cellVc arr : Nat) : Nat :=
  let first := arr = 160 ∨ s.isAccelPort arr = true
  if s.isAccelPort arr = true ∧ slotFenced s arr = true then 0x24
  else if h.len > 4096 then 0x03
  else if (opcodeVcs h.opcode).isEmpty then 0x05
  else if !(opcodeVcs h.opcode).contains h.vc then 0x06
  else if cellVc ≠ h.vc then 0x07
  else if first ∧ (if arr = 160 then h.srcE != s.hostEid
      else h.srcE / 16 != mkEid s.ownRow s.ownCol arr 0 0 / 16) = true then 0x09
  else if eidMalformed h.dst then 0x08
  else if first then
    match heldEpoch s h with
    | none => 0
    | some e => if epochOld e h.gepoch then 0x0A else if epochAhead e h.gepoch then 0x0B else 0
  else 0

/-- Whether a packet will leave the rack of this rack chip (04 R114). -/
def crossesRacks (s : State) (d : Nat) : Bool := eidKind d == 3 || eidRow d != s.ownRow || eidCol d != s.ownCol

/-- The reach and fence checks of 04 R105 and R114, in the order of R125; 0 when all pass. -/
def reachReason (s : State) (h : Header) (arr : Nat) : Nat :=
  let endpoint := arr = 160 ∨ s.isAccelPort arr = true
  if endpoint ∧ (h.vc = 2 ∨ h.vc = 4 ∨ h.vc = 5 ∨ h.vc = 6) then 0x19
  else if h.vc ≤ 2 ∧ h.dst ≠ s.selfEid then 0x17
  else if (h.vc = 7 ∨ isRoomOp h.opcode = true) ∧
      (s.isSpine || crossesRacks s h.dst || (s.isRack && s.isUplink arr)) = true then 0x17
  else if (h.vc = 3 ∨ h.vc = 5) ∧ s.isUplink arr = true ∧ h.viaV = false then 0x17
  else if endpoint ∧ h.fence = true ∧ crossesRacks s h.dst = true ∧ isCountedReq h.opcode = false then 0x18
  else 0

/-- The context of a tag of a slot (09 R247). -/
def ctxNum (slot seq : Nat) : Nat := slot * 2048 + seq % 2048

/-- A response that closes a context at the entry chip (09 R247, 10 R285), or a ROOM_DATA that does not. -/
def isCtxRsp (op : Nat) : Bool := isClosingRsp op || op == 0x43 || op == 0x44
def opensCtx (op : Nat) : Bool := op == 0x20 || op == 0x21 || op == 0x22 || op == 0x30 || op == 0x40 || op == 0x41 || op == 0x42

/-- The context and source checks of 09 R247 to R249; 0 when all pass. A response is checked where its output is the
accelerator port of its destination. -/
def contextReason (s : State) (h : Header) (arr : Nat) (r : Route) : Nat :=
  let first := arr = 160 ∨ s.isAccelPort arr = true
  if first then
    if s.isAccelPort arr = true ∧ opensCtx h.opcode = true ∧ (mget s.ctx (ctxNum arr h.seq)).isSome = true then 0x20
    else if isCountedReq h.opcode = true ∧ eidKind h.srcE = 1 then 0x22
    else if isCountedReq h.opcode = true ∧ eidKind h.dst ≤ 1 then 0x23
    else 0
  else
    match r with
    | .out lp =>
      if s.isAccelPort lp = true ∧ isCtxRsp h.opcode = true ∧ (mget s.ctx (ctxNum lp h.seq)).isNone = true then 0x21 else 0
    | .disc _ => 0

/-- Open the context of a request from an accelerator (09 R247). -/
def openCtx (s : State) (pid : Nat) (h : Header) (arr : Nat) : State :=
  if s.isAccelPort arr = true ∧ opensCtx h.opcode = true then
    let c : Ctx := ⟨pid, s.now, h.opcode, isCountedReq h.opcode && crossesRacks s h.dst, h.srcE⟩
    State.cntW { s with ctx := mput s.ctx (ctxNum arr h.seq) c } 32
  else s

/-- Close the context that a response toward an accelerator port names (09 R247, 10 R285). -/
def closeCtx (s : State) (h : Header) (lp : Nat) : State :=
  let ends := fun (req : Nat) =>
    if req = 0x40 ∨ req = 0x41 then h.opcode == 0x44 || h.opcode == 0x2B
    else if req = 0x42 then (h.opcode == 0x43 && wbits h.w5 30 1 == 1) || h.opcode == 0x2B
    else isClosingRsp h.opcode
  if s.isAccelPort lp = true ∧ ((mget s.ctx (ctxNum lp h.seq)).any fun c => ends c.opcode) = true then
    { s with ctx := mdel s.ctx (ctxNum lp h.seq) }
  else s

/-- Open contexts of a slot (WEL_CTX_OPEN); and its open cross-rack requests that came before packet `pid` (the count of
04 R113; DEDUCED, log 13: the fenced request itself and those behind it do not count). -/
def ctxOpen (s : State) (slot : Nat) : Nat := (s.ctx.filter fun e => e.1 / 2048 == slot).length
def fenceCount (s : State) (slot pid : Nat) : Nat :=
  (s.ctx.filter fun e => e.1 / 2048 == slot && e.2.cross && e.2.pid < pid).length

/-! ## Mirror sessions (03 R96, R97) -/

/-- Whether a session matches a packet seen in a direction (0 entering, 1 leaving) at a logical port. -/
def mirrorMatch (s : State) (m dir lp : Nat) (h : Header) : Bool :=
  s.flag F.SWC_MIR_CTRL_EN m && s.rd F.SWC_MIR_CTRL_DIR m == dir && s.rd F.SWC_MIR_CTRL_SRC_LP m == lp
  && bitAt (s.rd F.SWC_MIR_MATCH_VC_MASK m) h.vc
  && (!s.flag F.SWC_MIR_MASK_OPC_EN m || s.rd F.SWC_MIR_MATCH_OPCODE m == h.opcode)
  && Nat.land (Nat.xor (s.rd F.SWC_MIR_MATCH_HASH m) h.hash) (s.rd F.SWC_MIR_MASK_HASH_MASK m) == 0

/-- Count a match and say whether this packet is to be copied: the SAMPLE_N-th match since the session was enabled and
every SAMPLE_N-th after it. -/
def mirrorSample (s : State) (m : Nat) : Bool × State :=
  let n := s.rd F.SWC_MIR_CTRL_SAMPLE_N m
  let c := mgetD s.sw.mirCnt m 0 + 1
  (n != 0 && c % n == 0, modSw s fun w => { w with mirCnt := mset 0 w.mirCnt m c })

/-- The target of a session's copy of a packet with this header: its analysis port, or the host path's place for the session. It
keeps what the session's registers say at this moment (03 R101). -/
def mirrorTarget (s : State) (m dir olp : Nat) (h : Header) : Target :=
  let lp := if s.flag F.SWC_MIR_CTRL_TO_HOST m then 162 + m else s.rd F.SWC_MIR_CTRL_DST_LP m
  { newTarget lp with id := 1000 * (m + 1) + lp, mir := some ⟨m, dir, olp, s.fabric⟩, hdr := some h }

/-- The targets that the sessions add to a packet. A copy for an analysis port that is down is dropped, reason 0x16 (03 R95). -/
def mirrorTargets (s : State) (dir lp : Nat) (h : Header) : List Target × State :=
  (List.range 4).foldl (fun (acc : List Target × State) m =>
    if mirrorMatch acc.2 m dir lp h then
      let (hit, s1) := mirrorSample acc.2 m
      let t := mirrorTarget s1 m dir lp h
      if !hit then (acc.1, s1)
      else if t.lp < 160 && !s1.linkUp t.lp then (acc.1, s1.discard t.lp h.vc 0x16 false)
      else (acc.1 ++ [t], s1)
    else acc) ([], s)

/-! ## Injection by the local station -/

/-- A position for an injected packet: that of its first target's port (log 12). -/
def injSrc (tgts : List Target) : Nat :=
  match tgts with
  | [] => 80
  | t :: _ => if t.lp ≥ 160 then 80 else 80 + t.lp / 2

/-- Queue a packet's cells at an injector slice, with the targets given (03 R93). -/
def enqueue (s : State) (h : Header) (data : List Byte) (tgts : List Target) (emitKey : Option (Nat × Nat × Nat))
    (res : Option ResTag) : State :=
  let pid := s.sw.nextPid
  let src := injSrc tgts
  let p : PktRec := ⟨pid, h, 161, src, h.bank, tgts, s.now, s.fabric, true, [], emitKey, res, false⟩
  modSw s fun w => { w with
    nextPid := pid + 1
    pkts := w.pkts ++ [p]
    wait := w.wait ++ (mkCells h data).map fun c => WaitCell.mk pid src 161 h.vc false c }

/-- A packet addressed to this chip's own station, as received whole. -/
def toStation (s : State) (p : StPkt) (since : Nat) : State :=
  modSw s fun w => { w with stationQ := w.stationQ ++ [⟨w.nextPid, p, since, s.fabric, p.hdr.bank⟩], nextPid := w.nextPid + 1 }

/-- Inject a unicast packet that the local station originates: first-chip stamp, turn, lookup (04 R107). A packet that
fails before an output is chosen, by a malformed destination (00 R15) or at the lookup, is reported by source 0x004 (02 R509). A
response whose context is gone is counted on its output port. `noCtx` leaves the context check out, for the
ERR_RSP of a context already closed (09 R248). -/
def injectUnicast (s : State) (h0 : Header) (data : List Byte) (noCtx : Bool := false) (res : Option ResTag := none) : State :=
  let (h1, s1) := stampEntry s h0
  let h := turn s1 h1
  let (r, s2) := if eidMalformed h.dst then (.disc 0x08, s1) else routeOf s1 h
  match r with
  | .disc c => s2.discardAt 161 h.vc c
  | .out lp =>
    let late := !noCtx && contextReason s2 h 161 (.out lp) == 0x21
    if late then (s2.discard lp h.vc 0x21 false).cntW 34
    else
      let s3 := closeCtx s2 h lp
      if lp = 161 then toStation s3 ⟨h, data, 161⟩ s3.now
      else enqueue s3 h data [newTarget lp] none res

/-- The link of a group at a logical port. -/
def linkCode (s : State) (lp : Nat) : GLink :=
  if lp = 160 then .host
  else if s.isSpine then .child (lp / 16)
  else if lp < 128 then .member lp
  else if lp < 144 then .rowUp
  else .colUp

/-- Whether a link code names the same link as a number in a chunk's list of copies due. -/
def linkNum : GLink → Nat
  | .member lp => lp
  | .host => 160
  | .rowUp => 200
  | .colUp => 201
  | .child k => 210 + k

/-- A copy of a RESULT of `len` payload bytes has left with TCODE 1 (06 R166, R181, 07 R212; 17 R468): it is no longer due. -/
def resultLeft (s0 : State) (tag : Option ResTag) (lp len : Nat) : State :=
  match tag with
  | none => s0
  | some r =>
    let s := s0.cntG r.gid 11 len
    match mget s.grps r.gid with
    | none => s
    | some g =>
      match g.op with
      | none => s
      | some o =>
        if o.seq ≠ r.seq then s
        else
          let n := linkNum (linkCode s lp)
          let chunks := o.chunks.map fun c =>
            if c.idx = r.chunk then { c with due := c.due.filter (· != (r.k, n)) } else c
          { s with grps := mput s.grps r.gid { g with op := some { o with chunks := chunks } } }

/-- Inject a packet once for several targets (03 R93, R94): DST_EID is rewritten per copy. Targets that are down at
injection are dropped and counted (03 R95), and asked for again where the packet is a RESULT (06 R181). -/
def injectMulti (s : State) (h0 : Header) (data : List Byte) (lps : List Nat) (res : Option ResTag := none) : State :=
  let h := h0.setBank (s.rd0 F.SWC_BANK_STAT_ACTIVE)
  let isUp := fun lp => if lp = 160 then s.hostEpOn else s.linkUp lp
  let s1 := (lps.filter fun lp => !isUp lp).foldl
    (fun s lp => againOn (if lp = 160 then s else s.discard lp h.vc 0x16 false) res lp) s
  let tgts := (lps.filter isUp).map fun lp => { newTarget lp with rewrite := true }
  if tgts.isEmpty then s1 else enqueue s1 h data tgts none res

/-- Send a VC0 message on one port through its emit slot: a newer message of the same port, kind (opcode, with a SEQCTL's or a
TIME packet's own kind) and group takes the place of one not yet sent (04 R106). `rewrite` as for a multicast copy. -/
def emitVc0 (s : State) (lp : Nat) (h0 : Header) (data : List Byte) (gid : Nat) (rewrite : Bool := false) : State :=
  let h := h0.setBank (s.rd0 F.SWC_BANK_STAT_ACTIVE)
  let key := (lp, h.opcode + (if h.opcode = 6 then h.opw0 / 2 ^ 28 * 256 else if h.opcode = 2 then h.opw0 % 4 * 256 else 0), gid)
  match s.sw.pkts.find? (fun p => p.emit == some key && p.tgts.all fun t => t.sent == 0 && !t.fin) with
  | some p =>
    let cell := ((mkCells h data).head?).getD idleCell
    modSw s fun w => { w with
      pkts := w.pkts.map fun q => if q.pid = p.pid then { q with hdr := h } else q
      wait := w.wait.map fun c => if c.pid = p.pid then { c with cell := cell } else c
      bodies := w.bodies.map fun b => if b.pid = p.pid then { b with cell := cell } else b }
  | none =>
    if lp = 160 || s.linkUp lp then enqueue s h data [{ newTarget lp with rewrite := rewrite }] (some key) none
    else s.discard lp 0 0x16 false

/-- A FENCED notice to the source of a discarded packet (10 R295), on the port it arrived on. -/
def sendFenced (s : State) (h : Header) (arr reason epoch : Nat) : State :=
  let gid := if opcodeEpoch h.opcode then h.gid else 0
  let n := mkHdr 0x04 h.srcE 0 s.selfEid 0 0 0 (reason * 2 ^ 24 + gid) (if gid = 0 then 0 else epoch) h.opcode
  if arr = 160 then s else emitVc0 s arr n [] gid

/-- The epoch a notice carries: the one the chip holds for the group or room, whatever its state. -/
def noticeEpoch (s : State) (h : Header) : Nat :=
  if isRoomOp h.opcode ∧ s.flag F.RMS_ROOM_EN (roomOf h) = true then s.rd F.RMS_ROOM_LOCK_EPOCH (roomOf h)
  else s.rd F.GRP_ENT_GEPOCH h.gid

end Sys2Proof.Machine
end

