-- ==== Sys2Proof/Machine/Signal.lean ====
section
/-! DEFINITION. What goes on a lane (11 R301, R302, R325): Gray levels and precoding of PAM4, the words of a link block, codewords,
the PRBS31 pattern. -/

namespace Sys2Proof.Machine

open Sys2Proof

/-- The Gray value of a pair of bits, the first the more significant (11 R301): 00, 01, 11, 10 are 0 to 3. -/
def grayOf (a b : Bool) : Nat := if a then (if b then 2 else 3) else b2n b

/-- The pair of bits of a Gray value. -/
def grayBits (x : Nat) : List Bool :=
  if x = 0 then [false, false] else if x = 1 then [false, true] else if x = 2 then [true, true] else [true, false]

/-- Bits as Gray values, two at a time. -/
def grayPairs : List Bool → List Nat
  | a :: b :: r => grayOf a b :: grayPairs r
  | _ => []

/-- The 1/(1+D) precoder: each level sent is the value less the level before it, modulo 4 (11 R301). -/
def precode : Nat → List Nat → List Nat
  | _, [] => []
  | y, x :: xs => (x + 4 - y % 4) % 4 :: precode ((x + 4 - y % 4) % 4) xs

/-- The receiver's way back: each value is the sum of a level and the level before it, modulo 4 (11 R301). -/
def recover : Nat → List Nat → List Nat
  | _, [] => []
  | y, z :: zs => (z + y) % 4 :: recover z zs

/-- The bits of a byte as they are sent, the least significant first (PRESUMED, log 79). -/
def byteBits (b : Byte) : List Bool := (List.range 8).map (bitAt b.toNat)

/-- A 257-bit word: a trailer bit and 32 data bytes (11 R302). -/
def wordBits (w : Bool × List Byte) : List Bool := w.1 :: w.2.flatMap byteBits

/-- The 34 words of a link block from its 1,088 slot bytes and its 34 trailer bits (11 R303). -/
def blockWords (bytes : List Byte) (trailer : Nat) : List (Bool × List Byte) :=
  (List.range 34).map fun i => (bitAt trailer i, (bytes.drop (32 * i)).take 32)

/-- The 300 check bits of a codeword of RS(544,514), an unconstrained function of its 5,140 message bits (11 R302, log 79). -/
def checkBits (msg : List Bool) : List Bool := (List.range 300).map (Config.rsCheck msg).getLsbD

/-- The levels of a codeword of twenty words on a lane whose last level was `prev` (11 R301, R302). -/
def codewordLevels (prev : Nat) (ws : List (Bool × List Byte)) : List Nat :=
  let msg := ws.flatMap wordBits
  precode prev (grayPairs (msg ++ checkBits msg))

/-- A byte from its bits as they come, the least significant first. -/
def bitsByte (bs : List Bool) : Byte := BitVec.ofNat 8 (bs.foldr (fun b n => b2n b + 2 * n) 0)

/-- A word from its 257 bits (11 R302). -/
def bitsWord (bs : List Bool) : Bool × List Byte :=
  (bs.headD false, (List.range 32).map fun i => bitsByte ((bs.drop (1 + 8 * i)).take 8))

/-- The twenty words of a codeword received on a lane whose last level was `prev` (11 R301, R302). -/
def levelsWords (prev : Nat) (ys : List Nat) : List (Bool × List Byte) :=
  let msg := (recover prev ys).flatMap grayBits
  (List.range 20).map fun i => bitsWord ((msg.drop (257 * i)).take 257)

/-- The slot bytes and the 34 trailer bits of a block of 34 words (11 R303). -/
def wordsBlock (ws : List (Bool × List Byte)) : List Byte × Nat :=
  (ws.flatMap (·.2), ws.foldr (fun w n => b2n w.1 + 2 * n) 0)

/-- One bit of PRBS31, x^31 + x^28 + 1, from the 31 bits before it; and the bits after the step (11 R325). -/
def prbsStep (r : Nat) : Bool × Nat :=
  let b := xor (bitAt r 30) (bitAt r 27)
  (b, r * 2 % 2 ^ 31 + b2n b)

/-- The next `n` bits of PRBS31, and the bits after them. -/
def prbsRun : Nat → Nat → List Bool × Nat
  | 0, r => ([], r)
  | n + 1, r =>
    let (b, r1) := prbsStep r
    let (bs, r2) := prbsRun n r1
    (b :: bs, r2)

end Sys2Proof.Machine
end

