-- ==== Sys2Proof/Machine/Egress.lean ====
section
/-! DEFINITION. Shared operations of the transmit side: link blocks, the link control word and replays (11 R303 to R311),
the two stages and the resequencer (03 R69 to R79), egress (04 R118, R119), the flush of a port (03 R98). -/

namespace Sys2Proof.Machine

open Sys2Proof

/-! ## Lanes -/

def laneInit : Lane := ⟨[], false, 0, none, 0, [], 0, [], 0, 0, none, none⟩
def getLane (s : State) (l : Nat) : Lane := mgetD s.lanes l laneInit
def modLane (s : State) (l : Nat) (f : Lane → Lane) : State :=
  { s with lanes := mset laneInit s.lanes l (f (getLane s l)) }

/-- Lanes of a link: 4 of a split half, 8 of an unsplit port (00 R11, 01 R20). -/
def linkWidth (s : State) (lp : Nat) : Nat := if s.portMode (lp / 2) = 1 then 4 else 8

/-- The physical lane at a position of a link. -/
def laneAt (s : State) (lp pos : Nat) : Nat := if s.portMode (lp / 2) = 1 then 4 * lp + pos else 8 * (lp / 2) + pos

/-- The link that owns a physical lane, and the lane's position in it. -/
def linkOfLane (s : State) (l : Nat) : Nat × Nat :=
  if s.portMode (l / 8) = 1 then (l / 4, l % 4) else (2 * (l / 8), l % 8)

def positions (s : State) (lp : Nat) : List Nat := List.range (linkWidth s lp)

/-! ## Credits and the link control word -/

/-- Receive buffer of a logical port in cells (11 R310). -/
def bufCells (s : State) (lp : Nat) : Nat := if s.portMode (lp / 2) = 1 then 8192 else 16384

/-- Cells of a VC held in the ingress queue of a logical port. -/
def ingressHeld (s : State) (lp vc : Nat) : Nat := (s.sw.wait.filter fun c => c.lp == lp && c.vc == vc).length

/-- The grant of one VC at the build of an LCW (11 R310), all counts in cells. -/
def grantVc (s : State) (lp v : Nat) (l : Link) : Link :=
  let o := fun u => (ingressHeld s lp u : Int)
  let g := fun u => ((mgetD l.grant u 0 : Nat) : Int)
  let rsv := fun u => ((mgetD l.cred u 0 : Nat) : Int)
  let flex := ((mgetD l.flex v 0 : Nat) : Int)
  let vcs := List.range 8
  let owed := ((vcs.filter (· != v)).map fun u => max 0 (rsv u - o u - g u)).foldl (· + ·) 0
  let floor := max 0 (rsv v - o v - g v)
  let want := if g v < rsv v then rsv v + flex - o v - g v else floor
  let free := (bufCells s lp : Int) - (vcs.map o).foldl (· + ·) 0 - (vcs.map g).foldl (· + ·) 0
  let add0 := max floor (min want (free - owed))
  let add := (add0 - add0 % 4).toNat
  { l with grant := mset 0 l.grant v (mgetD l.grant v 0 + add)
           limOut := mset 0 l.limOut v ((mgetD l.limOut v 0 + add / 4) % 4096) }

/-- Build the LCW of the run that starts now (11 R306, R307, R310). -/
def buildLcw (s : State) (lp : Nat) : State :=
  let l0 := getLink s lp
  let k := l0.txKind
  let l := [0, 1, 2, 3].foldl (fun l i => grantVc s lp (4 * k + i) l) l0
  let lim := fun i => mgetD l.limOut (4 * k + i) 0
  let nak := l.replayWait && l.nak
  let w := lim 3 * 2 ^ 50 + lim 2 * 2 ^ 38 + lim 1 * 2 ^ 26 + lim 0 * 2 ^ 14 + k * 2 ^ 13 + b2n nak * 2 ^ 12 + l.rxSeq
  setLink s lp { l with txLcw := w, txKind := 1 - k, lcwRun := some l.txCount, nak := if nak then false else l.nak }

/-- The CRC of a block under a sequence number (11 R303). -/
def blockCrc (seq : Nat) (slots : List Cell) (lcw : Nat) : Nat :=
  crc32c 0xFFFFFFFF (leBytes 2 seq ++ (slots.flatMap fun c => wbytes c.hdr ++ c.bytes) ++ leBytes 1 lcw)

/-- One word goes on a physical lane; the twentieth completes a codeword, whose levels are sent (11 R301, R302). -/
def putWord (s : State) (lane : Nat) (w : Bool × List Byte) : State :=
  let x := getLane s lane
  let ws := x.txWords ++ [w]
  if ws.length < 20 then modLane s lane fun x => { x with txWords := ws }
  else
    let ys := codewordLevels x.txPrev ws
    (modLane s lane fun x => { x with txWords := [], txPrev := ys.getLastD 0 }).emit (.levels lane ys)

/-- The words of a block go on the active lanes in turn: word k of the stream on the lane at place k mod w (11 R302). -/
def putWords (s : State) (lp : Nat) (ws : List (Bool × List Byte)) : State :=
  let act := (positions s lp).filter fun p => bitAt (s.rd F.PRT_LSTAT_TXMASK lp) p
  let k0 := (getLink s lp).txWord
  if act.isEmpty then s
  else
    let s1 := ws.zipIdx.foldl (fun s e => putWord s (laneAt s lp ((act[(k0 + e.2) % act.length]?).getD 0)) e.1) s
    modLink s1 lp fun l => { l with txWord := k0 + ws.length }

/-- Put one block on the link: the LCW of a run is built at its first block. `flip` is the injected error of 11 R326. -/
def putBlock (s : State) (lp seq : Nat) (slots : List Cell) (flip : Bool := false) : State :=
  let l0 := getLink s lp
  let s1 := if l0.txCount % 32 = 0 ∧ l0.lcwRun ≠ some l0.txCount then buildLcw s lp else s
  let l := getLink s1 lp
  let two := bits l.txLcw (2 * (l.txCount % 32)) 2
  let crc := blockCrc seq slots two
  let sent := if flip then Nat.xor crc 1 else crc
  let s2 := (setLink s1 lp { l with txCount := l.txCount + 1 }).emit (.block lp seq slots two sent)
  putWords s2 lp (blockWords (slots.flatMap fun c => wbytes c.hdr ++ c.bytes) (sent + two * 2 ^ 32))

/-- Every block not acknowledged goes out again, from the oldest (11 R307). -/
def resendAll (s : State) (lp : Nat) : State :=
  (getLink s lp).retry.foldl (fun s b => putBlock s lp b.seq b.slots) s

/-- Place a cell in the next slot of a link; the sixteenth completes a block, which is kept for resending
(11 R303, R307); a replay that has waited for its end follows. `flip` asks for a flipped bit in the block that carries this
cell (R326). -/
def pushSlot (s : State) (lp : Nat) (c : Cell) (flip : Bool := false) : State :=
  let l := getLink s lp
  let slots := l.txSlots ++ [c]
  if slots.length < 16 then setLink s lp { l with txSlots := slots, flip := l.flip || flip }
  else
    let s1 := setLink s lp { l with txSlots := [], flip := false, again := false, txSeq := (l.txSeq + 1) % 4096
                                    retry := l.retry ++ [⟨l.txSeq, slots⟩]
                                    ackAt := if l.retry.isEmpty then s.now else l.ackAt }
    let s2 := putBlock s1 lp l.txSeq slots (l.flip || flip)
    if l.again then resendAll s2 lp else s2

/-- Idle slots to the end of the block in progress. -/
def fillBlock : Nat → State → Nat → State
  | 0, s, _ => s
  | n + 1, s, lp => if (getLink s lp).txSlots.isEmpty then s else fillBlock n (pushSlot s lp idleCell) lp

/-- A training burst at the operating rate with the lanes that the receiver accepts; the block in progress is finished first
(11 R321, R322). -/
def sendBurst (s0 : State) (lp : Nat) : State :=
  let s := fillBlock 16 s0 lp
  s.emit (.burst lp (s.rd F.PRT_LSTAT_RXMASK lp))

/-- Blocks flow on a link from CREDIT_INIT on (11 R314). -/
def blocksFlow (s : State) (lp : Nat) : Bool := 8 ≤ s.stage lp && s.stage lp ≤ 10

/-! ## The connections of the two stages (03 R69, R94) -/

/-- The core cycles that begin in the ns `now`: cycle t begins at t ÷ 1.75 ns, cycle 0 at clock 0 (DESIGN CHOICE, log 83). -/
def coreCycles (now : Nat) : List Nat :=
  let a := (7 * now + 3) / 4
  (List.range ((7 * now + 10) / 4 - a)).map (a + ·)

/-- The cycle of this ns in which stage one connects position `i` to relay buffer `k`, or stage two relay buffer `i` to position
`k` (03 R69). -/
def linkCycle (now i k : Nat) : Option Nat := (coreCycles now).find? fun t => (i + t) % 80 == k

/-- A connection has carried fewer than `cap` cells in cycle `t`. -/
def useFree (use : List (Nat × (Nat × Nat))) (key t cap : Nat) : Bool :=
  match mget use key with
  | none => true
  | some (c, n) => c != t || decide (n < cap)

/-- One more cell of a connection in cycle `t`. -/
def useOne (use : List (Nat × (Nat × Nat))) (key t : Nat) : List (Nat × (Nat × Nat)) :=
  mput use key (t, match mget use key with
    | some (c, n) => if c = t then n + 1 else 1
    | none => 1)

/-- The cycle of this ns in which relay buffer `k` has not yet fed the host path's store (03 R94: one cell a cycle). -/
def hostCycle (s : State) (k : Nat) : Option Nat :=
  (coreCycles s.now).find? fun t => match mget s.sw.hostUse k with
    | none => true
    | some (c, _) => decide (c < t)

/-! ## Lateness, and packets for the local station -/

/-- 05 R140: late against its deadline. -/
def isLate (s : State) (h : Header) : Bool :=
  let d := (s.tickCount % 65536 + 65536 - h.deadline) % 65536
  s.flag F.TIM_STAT_VALID && h.deadline != 0 && decide (1 ≤ d) && decide (d ≤ 32767)

/-- Count a late delivery on a logical port, and report it when LATE_FLT is set (05 R140, R149). `where_` is the delivering
logical port, or 0xFF for the station and the host. -/
def countLate (s : State) (h : Header) (lp where_ : Nat) : State :=
  if isLate s h then
    let s1 := s.cntP lp h.vc 12
    if s.flag F.TIM_CTRL_LATE_FLT then s1.report 2 6 (where_ + h.deadline * 256) 0 4 where_ else s1
  else s

/-- The station's store of 512 VC0 packets has room (04 R106); packets of other VCs do not use it. -/
def stationRoom (s : State) (h : Header) : Bool :=
  h.vc != 0 || decide ((s.sw.stationQ.filter fun w => w.pkt.hdr.vc == 0).length < 512)

/-- A cell of a packet for the station comes to it; with the last the packet is handed over whole. One that failed its parity
check at the hand-off discards the packet (02 R47), counted on its arrival port (R509). Lateness is judged here (log 84). -/
def stationCell (s : State) (c : WaitCell) : State :=
  match findPkt s c.pid with
  | none => s
  | some p =>
    if c.bad then (endPacket s c.pid 2).discardAt c.lp c.vc 0x0C
    else
      let data := p.data ++ (if c.cell.isHead then c.cell.bytes.drop 32 else c.cell.bytes)
      if c.cell.isLast then
        let s1 := modSw s fun w =>
          { w with stationQ := w.stationQ ++ [⟨c.pid, ⟨p.hdr, data.take p.hdr.len, p.arr⟩, p.tHead, p.tFab, p.bank⟩] }
        cleanup (countLate (updTgt s1 c.pid 161 fun t => { t with fin := true }) p.hdr c.lp 0xFF) c.pid
      else updPkt s c.pid fun p => { p with data := data }

/-- A cell stands in the queue of a VC of a stage-one source: one queue per VC at a position's ingress, whose two halves share it
(03 R71); at an injector slice the local station and the host path have one each (log 12). -/
def inQueue (src lp vc : Nat) (c : WaitCell) : Bool := c.src == src && c.vc == vc && (decide (src < 80) || c.lp == lp)

/-- The cells at the front of an ingress queue that go to the local station only are taken in, as far as they are not behind
others, not held by a fence (04 R113) and their packet finds room. The fuel is the number of cells that wait. -/
def stationPull : Nat → State → Nat → Nat → Nat → State
  | 0, s, _, _, _ => s
  | n + 1, s, src, lp, vc =>
    match s.sw.wait.find? (inQueue src lp vc) with
    | none => s
    | some c =>
      let s1 := modSw s fun w => { w with wait := w.wait.erase c }
      match findPkt s c.pid with
      | none => stationPull n s1 src lp vc
      | some p =>
        let live := p.tgts.filter (·.live)
        if live.isEmpty then stationPull n s1 src lp vc
        else if !p.fenceHeld && live.all (·.lp == 161) && (!c.cell.isLast || stationRoom s p.hdr) then
          stationPull n (stationCell s1 c) src lp vc
        else s

/-- The front of every ingress queue. -/
def pullAll (s : State) : State :=
  ((s.sw.wait.filter (·.lp != 161)).map fun c => (c.src, c.lp, c.vc)).dedup.foldl
    (fun s e => stationPull s.sw.wait.length s e.1 e.2.1 e.2.2) s

/-! ## Stage one (03 R70 to R75, 04 R120) -/

/-- The slot class a cell takes in relay buffer `k`, none when it is refused (03 R73, 04 R120; a mirror copy takes shared
slots only, 03 R97). -/
def relayClass (w : SwitchSt) (vcRsv outCap k vc pos : Nat) (mir : Bool) : Option Nat :=
  let here := w.cells.filter fun c => c.loc == .relay k
  let count := fun (p : CellRec → Bool) => (here.filter p).length
  if outCap ≠ 0 ∧ count (fun c => posOf c.tgt == pos) ≥ outCap then none
  else if count (fun c => c.cls == 0) < 49152 - 8 * vcRsv then some 0
  else if mir then none
  else if pos < 80 ∧ count (fun c => c.cls == 1 && c.vc == vc && posOf c.tgt == pos) < vcRsv / 80 then some 1
  else if count (fun c => c.cls == 2 && c.vc == vc) < vcRsv % 80 then some 2
  else none

/-- Drop a mirror copy (03 R97): reason 0x15 on the analysis port. -/
def dropMirror (s : State) (pid id vc : Nat) : State :=
  cleanup (if portOf id < 160 then (endTarget s pid id 5).discard (portOf id) vc 0x15 false else endTarget s pid id 5) pid

/-- Try to admit one copy of a cell of a packet into relay buffer `k`, under the packet's own VC (04 R108); none when the relay
buffer refuses it. A mirror copy is never marked (03 R96). -/
def admitCopy (s : State) (k : Nat) (c : WaitCell) (p : PktRec) (t : Target) : Option State :=
  let v := p.hdr.vc
  let pos := posOf t.id
  match relayClass s.sw (s.rd0 F.SWC_RB_CFG_VC_RSV) (s.rd0 F.SWC_RB_CFG_OUT_CAP) k v pos t.mir.isSome with
  | none => if t.mir.isSome then some (dropMirror s c.pid t.id v) else none
  | some cl =>
    if t.mir.isSome ∧ depth s t.lp v > 2048 then some (dropMirror s c.pid t.id v)
    else
      let key := flowKey c.src pos v
      let n := mgetD s.sw.seqNext key 0
      let rec1 : CellRec := ⟨c.pid, t.id, v, c.src, n, .relay k, cl, c.bad, false, s.now, c.cell.cidx⟩
      let thr := s.rd F.SWC_QMARK_THR v
      let mark := c.cell.isHead && t.mir.isNone && thr != 0 && decide (depth s t.lp v > thr) && !p.hdr.sched
      let s1 := modSw s fun w => { w with
        cells := w.cells ++ [rec1], bodies := addRef w.bodies c.pid k c.cell
        seqNext := mset 0 w.seqNext key ((n + 1) % 65536) }
      let s2 := if mark then updTgt s1 c.pid t.id fun t => { t with mark := true } else s1
      some (s2.maxQ t.lp v (depth s2 t.lp v))

/-- Offer a waiting cell to relay buffer `k`: every copy is admitted, or the cell stays where it is (DESIGN CHOICE, log 85). A
cell that goes to the local station too is taken in there. Outputs at which the packet has been ended get no more of it. -/
def admitCell (s : State) (k : Nat) (c : WaitCell) : Option State :=
  let s0 := modSw s fun w => { w with wait := w.wait.erase c }
  match findPkt s c.pid with
  | none => some s0
  | some p =>
    ((p.tgts.filter fun t => t.live && t.lp != 161).foldl
      (fun (acc : Option State) t => acc.bind fun s => admitCopy s k c p t) (some s0)).map
      fun s => if p.tgts.any fun t => t.live && t.lp == 161 then stationCell s c else s

/-- Whether a cell at the front of its queue is offered to stage one: a packet that a fence holds is not (04 R113), nor a cell
that goes to the local station only, nor the last cell of one that finds no room there. -/
def offered (s : State) (c : WaitCell) : Bool :=
  match findPkt s c.pid with
  | none => true
  | some p =>
    let live := p.tgts.filter (·.live)
    !p.fenceHeld && live.any (·.lp != 161) && (!(live.any (·.lp == 161)) || !c.cell.isLast || stationRoom s p.hdr)

/-- The oldest waiting cell of each VC of one stage-one source, oldest first, without those that may not be offered
(03 R71). -/
def offerList (s : State) (src : Nat) : List WaitCell :=
  let mine := s.sw.wait.filter (·.src == src)
  let heads := mine.foldl (fun (acc : List WaitCell) c => if acc.any (inQueue src c.lp c.vc) then acc else acc ++ [c]) []
  heads.filter (offered s)

/-- The first cell of a list that the relay buffer admits. -/
def offerFirst (s : State) (k : Nat) : List WaitCell → Option State
  | [] => none
  | c :: cs =>
    match admitCell s k c with
    | some s1 => some s1
    | none => offerFirst s k cs

/-- One offer of position `i` to relay buffer `k` in the cycle that connects them: ingress and injector slice are taken
alternately when both have cells, and one that is refused does not hold back the other (03 R70). -/
def stageOne (s : State) (i k : Nat) : State :=
  match linkCycle s.now i k with
  | none => s
  | some t =>
    if !useFree s.sw.oneUse i t 2 then s
    else
      let done := fun (s1 : State) (next : Nat) =>
        modSw s1 fun w => { w with altPtr := mset 0 w.altPtr i next, oneUse := useOne w.oneUse i t }
      let ing := offerFirst s k (offerList s i)
      let inj := offerFirst s k (offerList s (80 + i))
      match mgetD s.sw.altPtr i 0 == 1, ing, inj with
      | true, _, some s1 => done s1 0
      | true, some s1, none => done s1 1
      | false, some s1, _ => done s1 1
      | false, none, some s1 => done s1 0
      | _, none, none => s

/-! ## Stage two and the resequencer (03 R75 to R77, R94) -/

/-- The class of slot a cell takes in its output store, none when it must wait (03 R76; the host path's store, R94): a shared slot
first, then the pair's own (DESIGN CHOICE, log 86). -/
def storeClass (w : SwitchSt) (c : CellRec) (mir : Bool) : Option Nat :=
  let pos := posOf c.tgt
  let shared := if pos = 80 then 768 else 5632
  let pair := if pos = 80 then 1 else 2
  let here := w.cells.filter fun d => d.loc == .store && posOf d.tgt == pos
  if (here.filter fun d => d.cls == 0).length < shared then some 0
  else if mir then none
  else if c.seq = mgetD w.seqExp (flowKey c.src pos c.vc) 0 ∧
      (here.filter fun d => d.cls == 1 && d.src == c.src && d.vc == c.vc).length < pair then some 1
  else none

/-- The heads of the crosspoint queues of relay buffer `k` for a position, one for each (source, VC). -/
def crosspointHeads (w : SwitchSt) (k pos : Nat) : List CellRec :=
  (w.cells.filter fun c => c.loc == .relay k && posOf c.tgt == pos).foldl
    (fun (acc : List CellRec) c => if acc.any (fun d => d.src == c.src && d.vc == c.vc) then acc else acc ++ [c]) []

/-- A cell is of a mirror copy: its output's id stands above 1,000. -/
def isMirCell (c : CellRec) : Bool := decide (1000 ≤ c.tgt)

/-- Count and report a discard at the output of the host path, which is no logical port: on the packet's arrival port; for one that
came over the host path, by source 0x00C; for one of the station, by source 0x004 (DESIGN CHOICE, log 87). -/
def discardHostOut (s : State) (p : PktRec) (reason : Nat) : State := s.discardAt p.arr p.hdr.vc reason

/-- A released cell of the host path's open packet is taken from its store and gathered. A packet with a cell that fails its parity
check is discarded, reason 0x0C (02 R47), a mirror copy too (log 88); a good packet's lateness is judged with its last cell
(log 84). -/
def hostTake (s : State) (c : CellRec) (p : PktRec) (t : Target) : State :=
  let cell := bodyOf s.sw c
  let part := if cell.isHead then cell.bytes.drop 32 else cell.bytes
  let key := gatherKey c.pid c.tgt
  let s1 := modSw s fun w => { dropCopy w c with gather := mput w.gather key (mgetD w.gather key [] ++ part) }
  let s2 := updTgt s1 c.pid c.tgt fun t => { t with sent := t.sent + 1 }
  if c.bad then
    let s3 := modSw (removeCells s2 c.pid c.tgt) fun w => { w with gather := mdel w.gather key }
    cleanup (updTgt (discardHostOut (askResend s3 p t) p 0x0C) c.pid c.tgt fun t => { t with fin := true }) c.pid
  else if cell.isLast then
    let s3 := if t.mir.isNone && cell.tcode == 1 then countLate s2 p.hdr p.arr 0xFF else s2
    cleanup (hostHand s3 p t cell.tcode) c.pid
  else s2

/-- The next cell the host path takes on a VC: of the packet it has open there, else the head of the one that entered stage one
first (03 R79). None while a packet of that VC waits to be delivered, so that the others stay in the store of R94
(DESIGN CHOICE, log 104). -/
def hostNext (s : State) (vc : Nat) : Option (CellRec × PktRec × Target) :=
  if s.sw.hostQ.any (·.pkt.hdr.vc == vc) then none
  else
    let ready := s.sw.cells.filter fun c => isHostTgt (portOf c.tgt) && c.rel && c.vc == vc
    let opened := fun (c : CellRec) => s.sw.pkts.any fun p => p.pid == c.pid && p.tgts.any fun t => t.id == c.tgt && t.sent != 0 && !t.fin
    let anyOpen := s.sw.pkts.any fun p => p.hdr.vc == vc && p.tgts.any fun t => isHostTgt t.lp && t.sent != 0 && !t.fin
    let pick := if anyOpen then ready.find? opened else ready.find? (·.cidx == 0)
    pick.bind fun c => (findPkt s c.pid).bind fun p => (p.tgts.find? (·.id == c.tgt)).map fun t => (c, p, t)

/-- Take the cells the host path can take on a VC. The fuel is the number of cells in the chip. -/
def hostRun : Nat → State → Nat → State
  | 0, s, _ => s
  | n + 1, s, vc =>
    match hostNext s vc with
    | some (c, p, t) => hostRun n (hostTake s c p t) vc
    | none => s

/-- Cells for the host path that the resequencer has released are taken from its store and gathered (03 R94, 12 R353). -/
def hostCollect (s : State) : State := (List.range 8).foldl (fun s v => hostRun s.sw.cells.length s v) s

/-- The core cycle in which relay buffer `k` may feed a position's output store, or the host path's (position 80). -/
def moveCycle (s : State) (k pos : Nat) : Option Nat :=
  if pos = 80 then hostCycle s k
  else (linkCycle s.now k pos).bind fun t => if useFree s.sw.twoUse k t 2 then some t else none

/-- The element of least rank. -/
def leastBy (rank : CellRec → Nat) : List CellRec → Option CellRec
  | [] => none
  | c :: cs => some (cs.foldl (fun b d => if rank d < rank b then d else b) c)

/-- The abort tail that ends a packet waits at an output, made here or received: its first reason has been met (03 R102). -/
def tailDue (s : State) (p : PktRec) (t : Target) : Bool :=
  let cut := fun (c : Cell) => c.isLast && c.tcode != 1
  t.endTc.isSome || (s.sw.wait.any fun c => c.pid == p.pid && cut c.cell)
    || s.sw.cells.any fun c => c.pid == p.pid && c.tgt == t.id && cut (bodyOf s.sw c)

/-- A packet goes on at its own output. One that was ended or discarded there, or flushed, has met its first reason: no other is
counted for it (02 R67, 03 R102). -/
def goesOn (s : State) (pid : Nat) : Bool :=
  (findPkt s pid).any fun p => p.tgts.any fun t => t.mir.isNone && t.live && !tailDue s p t

/-- Stage two serves one crosspoint queue of relay buffer `k` for a position: round robin among those whose head the
output store takes. Mirror copies that find no shared slot are dropped first (03 R97). `par` says that the parity check on the
cell read failed, with its slot (03 R78). -/
def stageTwo (s0 : State) (k pos : Nat) (par : Option Nat) : State :=
  match moveCycle s0 k pos with
  | none => s0
  | some t =>
    let s := ((crosspointHeads s0.sw k pos).filter fun c => isMirCell c && (storeClass s0.sw c true).isNone).foldl
      (fun s c => dropMirror s c.pid c.tgt c.vc) s0
    let heads := (crosspointHeads s.sw k pos).filter fun c => (storeClass s.sw c (isMirCell c)).isSome
    let idx := fun (c : CellRec) => c.src * 8 + c.vc
    let ptr := mgetD s.sw.rrPtr pos 0
    match (leastBy idx (heads.filter fun c => idx c ≥ ptr)).or (leastBy idx heads) with
    | none => s
    | some c =>
      let c1 : CellRec := { c with loc := .store, cls := (storeClass s.sw c (isMirCell c)).getD 0, tArr := s.now,
                                   bad := c.bad || par.isSome }
      let s1 := modSw s fun w => { w with
        cells := w.cells.map (fun d => if d = c then c1 else d)
        rrPtr := mset 0 w.rrPtr pos (idx c + 1)
        twoUse := if pos = 80 then w.twoUse else useOne w.twoUse k t
        hostUse := if pos = 80 then useOne w.hostUse k t else w.hostUse }
      let s2 := match par with
        | some slot => s1.report 4 1 (k * 2 ^ 16 + slot) 0 4 (portOf c.tgt)
        | none => s1
      let s3 := release s2 (flowKey c.src pos c.vc)
      if pos = 80 then hostCollect s3 else touchElig s3 (portOf c.tgt) c.vc

/-- A packet is ended at one output by the resequencer (03 R77): TCODE 5 where its head has left, and reason 0x14. -/
def reseqEnd (s : State) (pid id vc : Nat) : State :=
  match findPkt s pid with
  | none => s
  | some p =>
    match p.tgts.find? (·.id == id) with
    | none => s
    | some t =>
      if t.fin then s
      else
        let s1 := endTarget s pid id 5
        let s2 := if t.sent > 0 then s1 else askResend s1 p t
        cleanup (if t.lp ≥ 160 then discardHostOut s2 p 0x14 else s2.discard t.lp vc 0x14 false) pid

/-- The resequencer of a (source, position, VC) skips the cells it waits for (03 R77): the copies they belong to are ended
with TCODE 5 and counted 0x14. Fires only when a later cell has waited TO. -/
def reseqSkip (s : State) (src pos vc : Nat) : State :=
  let key := flowKey src pos vc
  let e := mgetD s.sw.seqExp key 0
  let mine := s.sw.cells.filter fun c => flowKey c.src (posOf c.tgt) c.vc == key && !c.rel
  let later := mine.filter fun c => c.loc == .store && c.seq != e
  let lim := s.rd0 F.SWC_RESEQ_TO_TO
  let dist := fun n => (n + 65536 - e) % 65536
  let due := later.any fun c => c.tArr + 10 * lim ≤ s.now
  if lim = 0 ∨ due = false then s
  else
    let next := (later.map fun c => dist c.seq).min?.getD 0
    let missing := mine.filter fun c => dist c.seq < next
    let openHere := s.sw.pkts.flatMap fun p => if p.src == src && p.hdr.vc == vc then
        (p.tgts.filter fun t => posOf t.id == pos && t.live &&
          (t.sent > 0 || s.sw.cells.any fun c => c.pid == p.pid && c.tgt == t.id && c.rel)).map fun t => (p.pid, t.id)
      else []
    let hit := if missing.isEmpty then openHere.take 1 else (missing.map fun c => (c.pid, c.tgt)).dedup
    let s1 := modSw s fun w => { w with skips := w.skips ++
      ((List.range next).filter fun d => !(mine.any fun c => dist c.seq == d)).map fun d => (key, (e + d) % 65536) }
    let s2 := hit.foldl (fun s x => reseqEnd s x.1 x.2 vc) s1
    let s3 := (release s2 key).report 4 2 pos 0 0 0
    if pos = 80 then hostCollect s3 else s3

/-! ## Egress (04 R118, R119; 05 R139; 16 R449) -/

/-- The weight of a VC (04 R118). -/
def weight (s : State) (lp vc : Nat) : Nat :=
  let p := lp / 2
  match vc with
  | 1 => s.rd F.PRT_ARB_WT_W1 p
  | 2 => s.rd F.PRT_ARB_WT_W2 p
  | 3 => s.rd F.PRT_ARB_WT_W3 p
  | 4 => s.rd F.PRT_ARB_WT_W4 p
  | 5 => s.rd F.PRT_ARB_WT_W5 p
  | 6 => s.rd F.PRT_ARB_WT_W6 p
  | 7 => s.rd F.PRT_ARB_WT_W7 p
  | _ => 0

/-- The first of `vcs` after `ptr` in cyclic order. -/
def nextAfter (ptr : Nat) (vcs : List Nat) : Option Nat :=
  match vcs.find? (fun v => decide (v > ptr)) with
  | some v => some v
  | none => vcs.head?

/-- Weighted round robin: the next queue after the last one served with service left in this round; a new round when none
has (log 14). -/
def wrrPick (s : State) (lp : Nat) (vcs : List Nat) : Option Nat × State :=
  let cand := vcs.filter fun v => decide (0 < weight s lp v)
  let ptr := (getEPort s lp).rrW
  match nextAfter ptr (cand.filter fun v => decide (0 < (getEgr s lp v).wrrLeft)) with
  | some v => (some v, modEPort (modEgr s lp v fun e => { e with wrrLeft := e.wrrLeft - 1 }) lp fun e => { e with rrW := v })
  | none =>
    match nextAfter ptr cand with
    | none => (none, s)
    | some v =>
      let s1 := vcs.foldl (fun s u => modEgr s lp u fun e => { e with wrrLeft := weight s lp u }) s
      (some v, modEPort (modEgr s1 lp v fun e => { e with wrrLeft := e.wrrLeft - 1 }) lp fun e => { e with rrW := v })

/-- The tier and VC egress serves at a cell slot, with the state after the choice (04 R118). No window is open while the time is
not valid (05 R127). -/
def pickVc (s : State) (lp : Nat) : Option (Nat × Nat) × State :=
  let el := fun v => eligible s lp v
  let hasB := s.rd0 F.PWR_LEVEL_U_NOW == 64 || decide ((getEPort s lp).unsched > 0)
  let mid := [1, 2, 3, 4, 5, 6, 7].filter fun v => el v && (getEgr s lp v).inT2 && (getEgr s lp v).openPid.isSome
  let tier2 := if s.flag F.TIM_STAT_VALID = false then []
    else if mid.isEmpty then [1, 2, 3, 4, 5, 6, 7].filter fun v => el v && decide ((getEgr s lp v).budget > 0)
    else mid
  if el 0 then (some (1, 0), s)
  else
    match nextAfter (getEPort s lp).rr2 tier2 with
    | some v => (some (2, v), modEgr (modEPort s lp fun e => { e with rr2 := v }) lp v fun e => { e with inT2 := true })
    | none =>
      if !hasB then (none, s)
      else
        let prom := [3, 4, 5, 6, 7].filter fun v => el v && (getEgr s lp v).promoted.isSome
        let oldest := prom.foldl (fun (b : Option Nat) v => match b with
          | none => some v
          | some u => if (getEgr s lp v).promoted.getD 0 < (getEgr s lp u).promoted.getD 0 then some v else b) none
        match oldest with
        | some v => (some (3, v), s)
        | none =>
          match wrrPick s lp ([1, 2].filter el) with
          | (some v, s1) => (some (4, v), s1)
          | (none, _) =>
            match wrrPick s lp ([3, 4, 5, 6].filter el) with
            | (some v, s1) => (some (5, v), s1)
            | (none, _) => if el 7 && decide (0 < weight s lp 7) then (some (6, 7), s) else (none, s)

/-- The header as it leaves on a port: a mirror copy's own, else with the copy's DST_EID and the mark (02 R58, R62). -/
def leavingHeader (s : State) (p : PktRec) (t : Target) : Header :=
  let h := if t.rewrite then
      p.hdr.setDst (match s.partner t.lp with
        | some (e, _) => if t.lp < 128 && s.isRack then e + eidIdx (s.rd F.PRT_PEER_EID t.lp) else e
        | none => p.hdr.dst)
    else p.hdr
  t.hdr.getD (if t.mark then h.setCmark else h)

/-- Words of which the first `n` bytes are kept and the others are 0. -/
def keepBytes : Nat → List Word → List Word
  | _, [] => []
  | n, w :: ws => (if 4 ≤ n then w else BitVec.ofNat 32 (w.toNat % 2 ^ (8 * n))) :: keepBytes (n - 4) ws

/-- A cell as it leaves: its header word built afresh (02 R41), the packet's header in the head cell, and 0 in the bytes after
the last payload byte (R48) and in the body of an abort tail (R49). -/
def leavingCell (h : Header) (c : Cell) : Cell :=
  let body := if c.isHead then h.words ++ c.body.drop 8 else c.body
  let abort := c.isLast && c.tcode != 1
  ⟨cellHdr c.ctype h.vc (if c.isLast then c.tcode else 0) c.cidx,
    keepBytes (if abort then 0 else 32 + h.len - 64 * c.cidx) body⟩

/-- A window of the queue is open now (05 R139: its tick budget came from one). -/
def windowOpen (s : State) (lp vc : Nat) : Bool :=
  mgetD s.winOpen (lp * 8 + vc) false

/-- Discard a packet whole at one output, before any cell has left, with its reason on that port. -/
def discardHere (s : State) (p : PktRec) (t : Target) (reason : Nat) : State :=
  cleanup ((askResend (endTarget s p.pid t.id 5) p t).discard t.lp p.hdr.vc reason false) p.pid

/-- Send one cell of a queue into the next slot, with the accounts of 11 R310, 05 R139, 16 R449 and 17 R467. -/
def sendCell (s : State) (lp vc tier : Nat) (c : Cell) (flip : Bool) : State :=
  let s1 := modLink s lp fun l => { l with sent := mset 0 l.sent vc ((mgetD l.sent vc 0 + 1) % 16384), idleSince := none }
  let s2 := s1.cntP lp vc 3
  let s3 := if tier = 2 then (modEgr s2 lp vc fun e => { e with budget := e.budget - 1 }).cntP lp vc 10 else s2
  let s4 := if tier ≥ 3 ∧ s.rd0 F.PWR_LEVEL_U_NOW ≠ 64 then
      let left := (getEPort s3 lp).unsched - 1
      let s5 := modEPort s3 lp fun e => { e with unsched := left }
      if left = 0 then s5.cntP lp vc 14 else s5
    else s3
  pushSlot s4 lp c flip

/-- After a queue has been served: the tail sent ends a promotion and restarts its timer (04 R119), and lets go a packet that
was held back for the next one (11 R326). -/
def served (s : State) (lp vc : Nat) (tail : Bool) : State :=
  let s1 := modEgr s lp vc fun e => { e with
    eligSince := none, promoted := if tail then none else e.promoted,
    openPid := if tail then none else e.openPid, inT2 := if tail then false else e.inT2,
    let_ := if tail then (e.held.map (·.1)).or e.let_ else e.let_
    held := if tail then none else e.held }
  touchElig s1 lp vc

/-- The packets whose head cell is ready on a queue, as (packet, output id), the one that entered stage one first at the front
(03 R79). -/
def openable (s : State) (lp vc : Nat) : List (Nat × Nat) :=
  (s.sw.cells.filter fun c => portOf c.tgt == lp && c.vc == vc && c.rel && c.cidx == 0).map fun c => (c.pid, c.tgt)

/-- End a queue's open packet with its abort tail (02 R49), and the copies of what leaves here (03 R96). -/
def sendAbortTail (s : State) (p : PktRec) (t : Target) (vc tier tc : Nat) : State :=
  let c : Cell := ⟨cellHdr 2 p.hdr.vc tc t.sent, List.replicate 16 0⟩
  let s1 := sendCell s t.lp vc tier c false
  let s2 := updTgt s1 p.pid t.id fun t => { t with fin := true, endTc := none }
  let s3 := (outCopies p t).foldl (fun s x => endTarget s p.pid x.id tc) s2
  cleanup (askResend (served s3 t.lp vc true) p t) p.pid

/-- What the last cell of a packet does as it leaves: a good packet is counted, its lateness judged as the cell leaves
(log 84) and a RESULT noted as gone; one ended upstream with an abort tail is asked for again where it is a RESULT. -/
def lastLeft (s : State) (p : PktRec) (t : Target) (h : Header) (vc tc : Nat) : State :=
  let lp := t.lp
  let s1 := updTgt s p.pid t.id fun t => { t with fin := true, sent := t.sent + 1 }
  let s2 := if tc = 1 then
      let s3 := (s1.cntP lp vc 5).cntP lp vc 4 h.len
      let s4 := { s3 with tel := { s3.tel with bwTx := mset 0 s3.tel.bwTx lp (mgetD s3.tel.bwTx lp 0 + h.len) } }
      if t.mir.isSome then s4 else resultLeft (if s.isAccelPort lp then countLate s4 h lp lp else s4) p.res lp h.len
    else askResend s1 p t
  cleanup (served s2 lp vc true) p.pid

/-- Report the parity failure found as a cell is read for egress: in the output store, slot `par`, or by the transmitter's final
check `tx` (02 R46, R47; 03 R78). -/
def parityReport (s : State) (lp : Nat) (par : Option Nat) (tx : Bool) : State :=
  match par with
  | some slot => s.report 4 1 (0xFF0000 + slot) 0 4 lp
  | none => if tx then s.report 4 3 lp 0 4 lp else s

/-- Serve the open packet of a queue: its abort tail, or its next cell. -/
def serveOpen (s : State) (p : PktRec) (t : Target) (vc tier : Nat) (par : Option Nat) (tx : Bool) : State :=
  let lp := t.lp
  match t.endTc with
  | some tc => sendAbortTail s p t vc tier tc
  | none =>
    match s.sw.cells.find? (fun c => c.pid == p.pid && c.tgt == t.id && c.rel) with
    | none => pushSlot s lp idleCell
    | some c =>
      let s0 := parityReport s lp par tx
      if c.bad || par.isSome || tx then sendAbortTail (removeCells s0 p.pid t.id) p t vc tier 2
      else
        let cell := bodyOf s.sw c
        let s1 := modSw s0 fun w => dropCopy w c
        let h := leavingHeader s p t
        let s2 := sendCell s1 lp vc tier (leavingCell h cell) false
        if cell.isLast then lastLeft s2 p t h vc cell.tcode
        else served (updTgt s2 p.pid t.id fun t => { t with sent := t.sent + 1 }) lp vc false

/-- Copies that a DIR 1 session makes of a packet as it opens at egress, with its header as sent: the cells already admitted
enter the analysis port's output store while it has shared slots (03 R96, R97). A copy is not copied again (log 88). -/
def mirrorOut (s : State) (p : PktRec) (t : Target) (h : Header) : State :=
  if t.mir.isSome then s
  else
    let (ts, s1) := mirrorTargets s 1 t.lp h
    ts.foldl (fun s x =>
      let s2 := updPkt s p.pid fun p => { p with tgts := p.tgts ++ [x] }
      (s.sw.cells.filter fun c => c.pid == p.pid && c.tgt == t.id).foldl (fun s c =>
        let pos := posOf x.id
        let key := flowKey c.src pos c.vc
        let used := (s.sw.cells.filter fun d => d.loc == .store && posOf d.tgt == pos && d.cls == 0).length
        let gone := !(s.sw.pkts.any fun q => q.pid == p.pid && q.tgts.any fun y => y.id == x.id && y.live)
        if gone then s
        else if used ≥ (if pos = 80 then 768 else 5632) ∨ depth s x.lp c.vc > 2048 then dropMirror s p.pid x.id c.vc
        else
          let n := mgetD s.sw.seqNext key 0
          let s3 := modSw s fun w => { w with
            cells := w.cells ++ [{ c with tgt := x.id, seq := n, loc := .store, cls := 0, rel := false, tArr := s.now }]
            bodies := addRef w.bodies c.pid 0 (bodyOf w c)
            seqNext := mset 0 w.seqNext key ((n + 1) % 65536) }
          release (s3.maxQ x.lp c.vc (depth s3 x.lp c.vc)) key) s2) s1

/-- The injection of 11 R326 on an opening packet: the kind that acts, by a draw against RATE ÷ 2^24. -/
def injection (s : State) (lp vc : Nat) : Nat × State :=
  let k := s.rd F.PRT_INJ_KIND (lp * 8 + vc)
  let rate := s.rd F.PRT_INJ_RATE (lp * 8 + vc)
  if k = 0 ∨ rate = 0 then (0, s)
  else
    let (x, s1) := s.draw
    if x % 2 ^ 24 < rate then (if k = 2 ∧ s.rd F.PRT_INJ_CMODE (lp * 8 + vc) = 1 then 4 else k, s1) else (0, s1)

/-- A TIME packet of the station takes its time stamp as its cell leaves: T_A of a SYNC and T1 of a DELAY_REQ, the fabric time
of that moment (05 R134). -/
def stampTime (s : State) (p : PktRec) (c : Cell) : State × Cell :=
  let mode := p.hdr.opw0 % 4
  if p.arr = 161 ∧ p.hdr.opcode = 0x02 ∧ mode ≤ 1 then
    (if mode = 1 then { s with time := { s.time with reqAt := some s.fabric } } else s,
      { c with body := c.body.take 8 ++ wordsOf 2 (leBytes 8 s.fabric) ++ c.body.drop 10 })
  else (s, c)

/-- A queue chosen in tier 2 opened no packet after all. -/
def notOpened (s : State) (lp vc : Nat) : State := modEgr s lp vc fun e => { e with inT2 := false }

/-- Open a packet on a queue and send its first cell (03 R79); one with a bad cell is discarded whole (R78). A packet let go
after it was held back is not drawn for again (11 R326). -/
def serveOpening (s : State) (p : PktRec) (t : Target) (vc tier : Nat) (par : Option Nat) (tx : Bool) : State :=
  let lp := t.lp
  match s.sw.cells.find? (fun c => c.pid == p.pid && c.tgt == t.id && c.rel && c.cidx == 0) with
  | none => pushSlot (notOpened s lp vc) lp idleCell
  | some c =>
    let s0 := parityReport s lp par tx
    let bad := s.sw.cells.any fun d => d.pid == p.pid && d.tgt == t.id && d.bad
    if bad || par.isSome || tx then pushSlot (notOpened (discardHere s0 p t 0x0C) lp vc) lp idleCell
    else
      let (inj, s1) := if t.mir.isSome || (getEgr s0 lp vc).let_ == some p.pid then (0, s0) else injection s0 lp vc
      if inj = 1 then pushSlot (notOpened (discardHere s1 p t 0x25) lp vc) lp idleCell
      else if inj = 3 ∧ p.hdr.fence = false ∧ (getEgr s1 lp vc).held = none then
        pushSlot (touchElig (modEgr (notOpened s1 lp vc) lp vc fun e => { e with held := some (p.pid, s.now) }) lp vc) lp idleCell
      else
        let h := leavingHeader s p t
        let s2 := mirrorOut s1 p t h
        let s3 := if p.hdr.sched && s.flag F.TIM_STAT_VALID && !windowOpen s lp vc then s2.cntP lp vc 11 else s2
        let s4 := if t.mark then s3.cntP lp vc 7 else s3
        let s5 := modSw s4 fun w => dropCopy w c
        let s6 := modEgr s5 lp vc fun e => { e with
          openPid := some (p.pid, t.id)
          let_ := if e.let_ = some p.pid then none else e.let_ }
        let (s6t, cell) := stampTime s6 p (bodyOf s.sw c)
        let s7 := sendCell s6t lp vc tier (leavingCell h cell) (inj == 2)
        if cell.isLast then lastLeft s7 p t h vc cell.tcode
        else
          let s8 := updTgt s7 p.pid t.id fun t => { t with sent := 1 }
          served (if inj = 4 then endTarget s8 p.pid t.id 2 else s8) lp vc false

/-- The packet to open on a queue: the one whose head entered stage one first, without one held back; a fenced packet lets the
held one go ahead of it, since none is held past it (03 R79, 11 R326). -/
def nextToOpen (s : State) (lp vc : Nat) : Option (Nat × Nat) :=
  let held := fun (x : Nat × Nat) => ((getEgr s lp vc).held.any fun e => e.1 == x.1) && x.2 == lp
  let cand := openable s lp vc
  match cand.find? fun x => !held x with
  | none => none
  | some x => if (findPkt s x.1).any (·.hdr.fence) then (cand.find? held).or (some x) else some x

/-- Let go the packet that a queue holds back (11 R326). -/
def letGo (s : State) (lp vc : Nat) : State :=
  modEgr s lp vc fun e => { e with held := none, let_ := (e.held.map (·.1)).or e.let_ }

/-- A packet and its target. -/
def pktTarget (s : State) (x : Nat × Nat) : Option (PktRec × Target) :=
  (findPkt s x.1).bind fun p => (p.tgts.find? (·.id == x.2)).map fun t => (p, t)

/-- Serve one queue: the open packet, or open the next one. -/
def serveVc (s : State) (lp vc tier : Nat) (par : Option Nat) (tx : Bool) : State :=
  match (getEgr s lp vc).openPid with
  | some x =>
    match pktTarget s x with
    | some (p, t) => serveOpen s p t vc tier par tx
    | none => pushSlot (modEgr s lp vc fun e => { e with openPid := none }) lp idleCell
  | none =>
    match (nextToOpen s lp vc).bind (pktTarget s) with
    | some (p, t) =>
      serveOpening (if (getEgr s lp vc).held.any fun e => e.1 == p.pid then letGo s lp vc else s) p t vc tier par tx
    | none => pushSlot s lp idleCell

/-- The port's own single cell takes a slot and a VC0 credit (11 R310, R318), and counts as sent like any other (17 R467). -/
def pushCtl (s : State) (lp : Nat) (h : Header) : State :=
  match mkCells h [] with
  | c :: _ =>
    let s1 := modLink s lp fun l => { l with sent := mset 0 l.sent 0 ((mgetD l.sent 0 0 + 1) % 16384), idleSince := none }
    pushSlot (((s1.cntP lp 0 3).cntP lp 0 4 h.len).cntP lp 0 5) lp c
  | [] => s

/-- Put a port's own single cell on its link, ahead of the queues (11 R318, 15 R428), out of electrical idle where it stands
there (R322). Where no slot or credit is free now it waits for one, once. A paused link sends it too (DESIGN CHOICE, log 89). -/
def portCell (s : State) (lp : Nat) (h : Header) : State :=
  if !blocksFlow s lp then s
  else if (getLink s lp).retry.length ≥ 256 ∨ (getLink s lp).restripe = true ∨ credits s lp 0 = 0 then
    modLink s lp fun l => { l with ctlOut := if l.ctlOut.contains h then l.ctlOut else l.ctlOut ++ [h] }
  else
    pushCtl (if s.flag F.PRT_LSTAT_EIDLE_TX lp then sendBurst (s.wr F.PRT_LSTAT_EIDLE_TX lp 0) lp else s) lp h

/-- No cell slot is filled: the link carries no blocks, its retry buffer is full (11 R307), a re-stripe runs (R321) or it stands
in electrical idle (R322). -/
def egressShut (s : State) (lp : Nat) : Bool :=
  !blocksFlow s lp || decide ((getLink s lp).retry.length ≥ 256) || (getLink s lp).restripe || s.flag F.PRT_LSTAT_EIDLE_TX lp

/-- The packet whose cell the next slot of a port takes. -/
def servedPkt (s : State) (lp : Nat) : Option (PktRec × Target) :=
  if egressShut s lp || !(getLink s lp).ctlOut.isEmpty || !s.linkUp lp || s.paused lp then none
  else (pickVc s lp).1.bind fun x => ((getEgr s lp x.2).openPid.or (nextToOpen s lp x.2)).bind (pktTarget s)

/-- The next cell of a packet at an output is found bad. -/
def spoilNext (s : State) (pid tgt : Nat) : State :=
  match s.sw.cells.find? fun c => c.pid == pid && c.tgt == tgt && c.rel with
  | some c => modSw s fun w => { w with cells := w.cells.map fun d => if d = c then { d with bad := true } else d }
  | none => s

/-- One cell slot of a logical port (04 R118): a cell of the port's own, one of the queue chosen, or an idle slot. Nothing is sent while the retry
buffer is full (11 R307) or a re-stripe runs (R321); a paused link sends no cell (15 R428). -/
def egressSlot (s : State) (lp : Nat) (par : Option Nat) (tx : Bool) : State :=
  if egressShut s lp then s
  else
    match (getLink s lp).ctlOut with
    | h :: _ =>
      if credits s lp 0 = 0 then pushSlot s lp idleCell
      else pushCtl (modLink s lp fun l => { l with ctlOut := l.ctlOut.drop 1 }) lp h
    | [] =>
      if !s.linkUp lp ∨ s.paused lp = true then pushSlot s lp idleCell
      else
        match pickVc s lp with
        | (none, s1) => pushSlot s1 lp idleCell
        | (some (tier, vc), s1) => serveVc s1 lp vc tier par tx

end Sys2Proof.Machine
end

