-- ==== Sys2Proof/Machine/GroupCore.lean ====
section
/-! DEFINITION. Shared operations of collective groups (files 06 and 08): the entry and its links, plane sets, what a
station sends on a group link, cistern lines, how operations end, aborts and the sequencer. -/

namespace Sys2Proof.Machine

open Sys2Proof

/-! ## The group's record -/

def grpInit : GrpSt :=
  { op := none, queue := [], firsts := [], reqs := [], timer := none, gate := none, later := [], keys := [], decided := [],
    tokenMax := none, tokenWait := none, tokenDue := [], closingAt := none, route := none, echo := [], asked := [],
    shaped := none }

def getGrp (s : State) (g : Nat) : GrpSt := mgetD s.grps g grpInit
def setGrp (s : State) (g : Nat) (x : GrpSt) : State := { s with grps := mset grpInit s.grps g x }
def modGrp (s : State) (g : Nat) (f : GrpSt → GrpSt) : State := setGrp s g (f (getGrp s g))
def modOp (s : State) (g : Nat) (f : GrpOp → GrpOp) : State := modGrp s g fun x => { x with op := x.op.map f }
def modChunk (s : State) (g idx : Nat) (f : Chunk → Chunk) : State :=
  modOp s g fun o => { o with chunks := o.chunks.map fun c => if c.idx = idx then f c else c }

/-! ## SEQ arithmetic, modulo 2^24 -/

def seqSub (a b : Nat) : Nat := (a + 2 ^ 24 - b % 2 ^ 24) % 2 ^ 24
def seqInc (a : Nat) : Nat := (a + 1) % 2 ^ 24
def seqDec (a : Nat) : Nat := (a + 2 ^ 24 - 1) % 2 ^ 24
/-- `a` is `b` or higher. -/
def seqGe (a b : Nat) : Bool := decide (seqSub a b < 2 ^ 23)

def nextSeq (s : State) (g : Nat) : Nat := s.rd F.GRP_ENT_NEXT_SEQ g

/-- A SEQ that has ended at the station: before NEXT_SEQ, or a later one whose abort is recorded (06 R166, R179). -/
def seqEnded (s : State) (g seq : Nat) : Bool :=
  (let d := seqSub (nextSeq s g) seq; decide (1 ≤ d) && decide (d ≤ 2 ^ 23)) || (getGrp s g).later.any (·.1 == seq)

/-! ## Links (06 R150, R154) -/

def rankReg (b : Nat) : RegName := if b = 0 then .GRP_RANK_A else .GRP_RANK_B

/-- One rank table entry: VALID, CHILD, RANK, LP. -/
structure RankEnt where
  valid : Bool
  child : Bool
  rank : Nat
  lp : Nat
  deriving DecidableEq, Repr

def rankEntry (s : State) (b i : Nat) : RankEnt :=
  let r := rankReg b
  ⟨s.flag (F.GRP_RANK_B_VALID.onReg r) i, s.flag (F.GRP_RANK_B_CHILD.onReg r) i, s.rd (F.GRP_RANK_B_RANK.onReg r) i,
    s.rd (F.GRP_RANK_B_LP.onReg r) i⟩

/-- The entries of a group in a bank. -/
def rankEntries (s : State) (g b : Nat) : List RankEnt :=
  let base := s.rd F.GRP_ENT_RBASE g
  (List.range (s.rd F.GRP_ENT_NLOCAL g)).map fun i => rankEntry s b (base + i)

/-- The valid members of a rack station by rising rank, or the children of a spine station by rising position. -/
def groupMembers (s : State) (g : Nat) : List (Nat × GLink) :=
  let es := (rankEntries s g (s.rd F.GRP_ENT_ACT_BANK g)).filter (·.valid)
  sortBy (fun a b => decide (a.1 ≤ b.1)) (if s.isSpine then es.map fun e => (e.lp, GLink.child e.lp)
    else es.map fun e => (e.rank, if e.lp = 0xFF then GLink.host else GLink.member e.lp))

/-- The up links of a rack station. -/
def groupUps (s : State) (g : Nat) : List GLink :=
  if s.isSpine then []
  else (if s.flag F.GRP_ENT_ROW_ST g then [GLink.rowUp] else []) ++ (if s.flag F.GRP_ENT_COL_ST g then [GLink.colUp] else [])

def groupLinks (s : State) (g : Nat) : List GLink := (groupMembers s g).map (·.2) ++ groupUps s g

/-- A logical port is a link of a group at this chip. -/
def isGroupLink (s : State) (g lp : Nat) : Bool := decide (lp ≤ 160) && (groupLinks s g).contains (linkCode s lp)

/-- 06 R152, R160: the discard of a collective packet for the station, 0x1D, or 0. -/
def collectiveReason (s : State) (h : Header) (arr : Nat) : Nat :=
  let coll := h.opcode == 0x06 || (0x10 ≤ h.opcode && h.opcode ≤ 0x16)
  if coll && !(groupLive s h.gid && isGroupLink s h.gid arr) then 0x1D else 0

/-- The physical ports of a set of eight, or the port of a member. -/
def linkPorts : GLink → List Nat
  | .member lp => [lp]
  | .host => [160]
  | .rowUp => (List.range 8).map fun i => 2 * (64 + i)
  | .colUp => (List.range 8).map fun i => 2 * (72 + i)
  | .child k => (List.range 8).map fun i => 2 * (8 * k + i)

def linkIsUp (s : State) (l : GLink) : Bool :=
  match l with
  | .host => s.hostEpOn
  | l => (linkPorts l).any s.linkUp

/-- A logical port of a link, to name it by. -/
def linkLp : GLink → Nat
  | .member lp => lp
  | .host => 160
  | .rowUp => 128
  | .colUp => 144
  | .child k => 16 * k

/-- The port that carries a packet on a link. A packet for a spine or for a rack of a spine's line takes the member of the port set
that the ACTIVE bank's entry for that partner names, chosen by the lookup like any other (03 R80 to R82, 04 R110, R111, R117;
DEDUCED, log 21). -/
def linkPort (s : State) (l : GLink) (vc : Nat) : Route × State :=
  match l with
  | .member lp => (.out lp, s)
  | .host => (.out 160, s)
  | l =>
    match s.partner (linkLp l) with
    | some (e, _) => routeOf s ((mkHdr 0 e vc s.selfEid 0 0 0 0 0 0).setBank (s.rd0 F.SWC_BANK_STAT_ACTIVE))
    | none => (.disc 0x11, s)

/-- Send one packet on several links (04 R117): one injection with a copy for each. One that finds no output is reported
with its reason (02 R509), and a RESULT for it is asked for again (06 R181). -/
def sendLinks (s : State) (h : Header) (data : List Byte) (ls : List GLink) (res : Option ResTag := none) : State :=
  let (lps, s1) := ls.foldl (fun (acc : List Nat × State) l =>
    match linkPort acc.2 l h.vc with
    | (.out p, s2) => (acc.1 ++ [p], s2)
    | (.disc r, s2) => (acc.1, againOn (s2.discardAt 161 h.vc r) res (linkLp l))) ([], s)
  if lps.isEmpty then s1 else injectMulti s1 h data lps res

/-- Send a sequencer message on the links of a group but one (06 R176), through the emit slots of VC0 (04 R106). The copy for
a host member goes to the host path like any other (04 R117) and is discarded there, since it is no MSG (12 R353; log 22).
`membersOnly` leaves the member links, of which a spine has none (08 R218). -/
def sendSeqctl (s : State) (g : Nat) (h : Header) (skip : Option GLink) (membersOnly : Bool := false) : State :=
  let ls := (if !membersOnly then groupLinks s g else if s.isSpine then [] else (groupMembers s g).map (·.2)).filter fun l => some l != skip
  ls.foldl (fun s l =>
    if !linkIsUp s l then s
    else match linkPort s l 0 with
      | (.out p, s1) => emitVc0 s1 p h [] g true
      | (.disc r, s1) => s1.discardAt 161 0 r) s

/-- A SEQCTL header (06 R164). -/
def seqctlHdr (s : State) (g kind seq code origin : Nat) : Header :=
  mkHdr 0x06 0 0 s.selfEid 0 (s.rd F.GRP_ENT_GEPOCH g) seq (kind * 2 ^ 28 + code * 2 ^ 16 + g) origin 0

/-- A GRANT to a link (06 R164). -/
def sendGrant (s : State) (g : Nat) (l : GLink) (kind seq chunk bytes : Nat) : State :=
  if l = .host then s
  else sendLinks s (mkHdr 0x11 0 2 s.selfEid 0 (s.rd F.GRP_ENT_GEPOCH g) seq (kind * 2 ^ 30 + g) chunk bytes) [] [l]

/-! ## Planes (08 R216) -/

def planeSet (s : State) (g : Nat) : Nat := Nat.land (s.rd F.GRP_ENT_PMASK g) (s.rd0 F.GRP_PLANE_LIVE_LIVE)

def planesOf (set : Nat) : List Nat := (List.range 16).filter (bitAt set)

def effHome (s : State) (g : Nat) : Option Nat :=
  let h := s.rd F.GRP_ENT_HOME g
  let set := planeSet s g
  if bitAt set h then some h else if bitAt set (Nat.xor h 8) then some (Nat.xor h 8) else none

/-- This chip stands in the group's home rack (06 R151). -/
def inHomeRack (s : State) (g : Nat) : Bool :=
  s.isRack && s.rd F.GRP_ENT_HOME_ROW g == s.ownRow && s.rd F.GRP_ENT_HOME_COL g == s.ownCol

/-- This chip's sequencer engine acts for the group (15 R433): for its own plane under OWN_ACT, for its partner's under
COVER_ACT. -/
def actsFor (s : State) (g : Nat) : Bool :=
  inHomeRack s g && match effHome s g with
  | none => false
  | some h => (h == s.plane && s.flag F.FLT_DA_STAT_OWN_ACT) || (h == Nat.xor s.plane 8 && s.flag F.FLT_DA_STAT_COVER_ACT)

/-- It acts for its partner's groups but may not decide yet (15 R436). -/
def coverWaits (s : State) (g : Nat) : Bool :=
  effHome s g == some (Nat.xor s.plane 8) && s.coverFrom.any fun t => decide (s.now < t)

/-! ## Cisterns (07 R188, R212) -/

def pumpState (s : State) (n : Nat) : Nat := s.rd F.PMP_STAT_STATE n

/-- Give a chunk's lines back (07 R212). -/
def freeLines (s : State) (c : Chunk) : State :=
  if c.lines = 0 then s else s.wr F.PMP_CIST_FREE c.pump (min 1024 (s.rd F.PMP_CIST_FREE c.pump + c.lines))

/-- The route record of a DISPATCH is freed with the lines it holds (08 R229, R234). -/
def dropRoute (s : State) (g : Nat) : State :=
  match (getGrp s g).route with
  | none => s
  | some r =>
    let s1 := if r.lines = 0 then s
      else s.wr F.PMP_CIST_FREE r.pump (min 1024 (s.rd F.PMP_CIST_FREE r.pump + r.lines))
    modGrp s1 g fun x => { x with route := none }

/-! ## The progress timer (06 R174) -/

/-- The first DOORBELL or GRANT_REQ of a SEQ starts its timer. -/
def noteFirst (s : State) (g seq : Nat) : State :=
  let x := getGrp s g
  if x.firsts.any (·.1 == seq) then s
  else
    let x1 := { x with firsts := x.firsts ++ [(seq, s.now)] }
    setGrp s g (if seq = nextSeq s g ∧ x.op = none ∧ x.timer = none then { x1 with timer := some s.now } else x1)

/-! ## Completions of host operations (12 R341) -/

/-- An operation of the host has finished with a status: its completion is ready. -/
def hostDone (s : State) (n status flags count addr : Nat) : State :=
  match mget s.host.ops n with
  | none => s
  | some o =>
    if o.drop then { s with host := { s.host with ops := mdel s.host.ops n } }
    else
      let o1 : HostOp := { o with stage := 2, status := status, flags := flags, count := count, addr := addr }
      { s with host := { s.host with ops := mput s.host.ops n o1, ready := s.host.ready ++ [n] } }

/-! ## Ends of operations (06 R166, R176, R179) -/

/-- Count and report an abort that has ended here, and name it in GRP_ABORT_LAST and GRP_ABORT_SEQ. -/
def recordAbort (s : State) (g seq code : Nat) : State :=
  let s1 := ((s.wr0 F.GRP_ABORT_LAST_CODE code).wr0 F.GRP_ABORT_LAST_GID g).wr0 F.GRP_ABORT_SEQ_SEQ seq
  let s2 := if 1 ≤ code ∧ code ≤ 8 then s1.cntG g (code + 1) else s1
  s2.report 5 code g

/-- Everything of a SEQ is withdrawn and NEXT_SEQ passes it. -/
def closeSeq (s : State) (g seq : Nat) : State :=
  let s1 := modGrp s g fun x => { x with
    op := none, gate := none
    queue := x.queue.filter (·.seq != seq), firsts := x.firsts.filter (·.1 != seq)
    reqs := x.reqs.filter (·.seq != seq)
    timer := (x.firsts.find? (·.1 == seqInc seq)).map (·.2) }
  s1.wr F.GRP_ENT_NEXT_SEQ g (seqInc seq)

/-- The host operation that posted a SEQ. -/
def seqHop (x : GrpSt) (seq : Nat) : Option Nat :=
  match x.op with
  | some o => if o.seq = seq then o.hop else (x.queue.find? (·.seq == seq)).bind (·.hop)
  | none => (x.queue.find? (·.seq == seq)).bind (·.hop)

/-- End NEXT_SEQ by an abort: its cistern space is freed, its slot withdrawn, its completion made, a flag
set counted (07 R200). `token` says that
NEXT_SEQ then waits for a TOKEN (06 R180). -/
def endNow (s : State) (g seq code : Nat) (token : Bool) : State :=
  let x := getGrp s g
  let s1 := match x.op with
    | some o => o.chunks.foldl freeLines s
    | none => s
  let fl := (x.op.map (·.flags)).getD 0
  let s2 := match seqHop x seq with
    | some n => hostDone s1 n code fl 0 0
    | none => s1
  let routed := x.op.any fun o => let k := bits (o.d.getD 1 0).toNat 28 4; k == 6 || k == 7
  let s2f : State := if fl == (0 : Nat) then s2 else s2.cntG g 12
  let s3 := modGrp (if routed then dropRoute s2f g else s2f) g fun y => { y with
    tokenWait := if token then some (seqInc seq) else y.tokenWait }
  recordAbort (closeSeq s3 g seq) g seq code

/-- SEQs whose abort was recorded end at their turn (06 R176, R179). -/
def endTurns : Nat → State → Nat → State
  | 0, s, _ => s
  | n + 1, s, g =>
    let seq := nextSeq s g
    match (getGrp s g).op, (getGrp s g).later.find? (·.1 == seq) with
    | none, some (_, code) =>
      endTurns n (endNow (modGrp s g fun x => { x with later := x.later.filter (·.1 != seq) }) g seq code true) g
    | _, _ => s

def settleTurns (s : State) (g : Nat) : State := endTurns (getGrp s g).later.length s g

/-- End a SEQ by an abort now, or record it for its turn; a SEQ that has ended stays as it is. `repl`: an ABORT's code
replaces the station's own where it can (06 R179). -/
def endSeq (s : State) (g seq code : Nat) (repl : Bool) : State :=
  let x := getGrp s g
  if seq = nextSeq s g then settleTurns (endNow s g seq code true) g
  else if x.later.any (·.1 == seq) then
    if repl then modGrp s g fun y => { y with later := y.later.map fun e => if e.1 = seq then (seq, code) else e } else s
  else if seqEnded s g seq then
    if !repl then s
    else
      let s1 := if s.rd0 F.GRP_ABORT_LAST_GID = g ∧ s.rd0 F.GRP_ABORT_SEQ_SEQ = seq ∧ s.rd0 F.GRP_ABORT_LAST_CODE ≠ 0
        then s.wr0 F.GRP_ABORT_LAST_CODE code else s
      { s1 with host := { s1.host with ops := s1.host.ops.map fun e =>
          let o := e.2
          let d1 := (o.words.getD 1 0).toNat
          let ours := decide (o.stage ≥ 2) && bits (o.words.getD 0 0).toNat 28 4 == 1 && d1 % 4096 == g &&
            (o.words.getD 2 0).toNat % 2 ^ 24 == seq && 1 ≤ o.status && o.status ≤ 8
          (e.1, if ours then { o with status := code } else o) } }
  else modGrp s g fun y => { y with later := y.later ++ [(seq, code)] }

/-! ## Keys and the sequencer (06 R176 to R180) -/

/-- Remember a key; answers whether it was new. -/
def noteKey (s : State) (g : Nat) (k : List Nat) : Bool × State :=
  let x := getGrp s g
  if x.keys.contains k then (false, s) else (true, setGrp s g { x with keys := (k :: x.keys).take 64 })

/-- Send TOKEN for a SEQ (06 R180): on every group link, and this station keeps it. -/
def noteToken (s : State) (g seq : Nat) : State :=
  modGrp s g fun x => { x with tokenMax := match x.tokenMax with
    | none => some seq
    | some t => if seqGe t seq then some t else some seq }

def sendToken (s : State) (g seq : Nat) : State :=
  let s1 := modGrp s g fun x => { x with tokenDue := x.tokenDue.filter (·.1 != seq) }
  let s2 := (noteKey s1 g [seq, 2]).2
  noteToken (sendSeqctl s2 g (seqctlHdr s2 g 2 seq 0 s.selfEid) none) g seq

/-- The acting sequencer decides an abort (06 R178): the first for a SEQ; it ends the SEQ here, ABORT goes out, TOKEN
becomes due. -/
def decideAbort (s : State) (g seq code : Nat) : State :=
  let x := getGrp s g
  if x.decided.contains seq then s
  else
    let s1 := setGrp s g { x with decided := (seq :: x.decided).take 16, asked := x.asked.filter (·.1 != seq) }
    let s2 := endSeq s1 g seq code true
    let s3 := (noteKey s2 g [seq, 1]).2
    let s4 := sendSeqctl s3 g (seqctlHdr s3 g 1 seq code s.selfEid) none
    let dly := s.rd0 F.GRP_SEQ_CFG_TOKEN_DLY
    if dly = 0 then sendToken s4 g (seqInc seq)
    else modGrp s4 g fun y => { y with tokenDue := y.tokenDue ++ [(seqInc seq, s.now + 1000 * dly)] }

/-- A station raises an abort (06 R176): the acting sequencer decides it; another ends the SEQ itself and sends the request,
which a station of the home rack keeps for when it takes over (06 R182, 15 R436). An operation whose last RESULT has left has
ended. -/
def raiseAbort (s : State) (g seq code : Nat) : State :=
  if !groupLive s g || (seqEnded s g seq && seq != nextSeq s g) then s
  else if actsFor s g && !coverWaits s g then decideAbort s g seq code
  else
    let s1 := endSeq s g seq code false
    let s2 := if inHomeRack s g && !(getGrp s1 g).decided.contains seq && !(getGrp s1 g).asked.contains (seq, code) then
        modGrp s1 g fun x => { x with asked := (x.asked ++ [(seq, code)]).take 64 } else s1
    let (new, s3) := noteKey s2 g [seq, 0, code, s.selfEid]
    if new then sendSeqctl s3 g (seqctlHdr s3 g 0 seq code s.selfEid) none else s3

/-- 06 R175, code 0x03: an old-epoch packet of the group has been discarded while an operation is in progress. -/
def oldEpochAbort (s : State) (h : Header) : State :=
  if isRoomOp h.opcode then s
  else match (getGrp s h.gid).op with
    | some o => raiseAbort s h.gid o.seq 3
    | none => s

/-! ## Signatures (06 R163) -/

def dW (d : List Word) (i : Nat) : Nat := (d.getD i 0).toNat

/-- The 24-byte signature of a descriptor under an epoch. -/
def signatureOf (d : List Word) (ep : Nat) : List Byte :=
  leBytes 4 (dW d 1) ++ leBytes 4 (dW d 2 - bits (dW d 2) 24 5 * 2 ^ 24 - bits (dW d 2) 31 1 * 2 ^ 31)
    ++ leBytes 4 (dW d 3) ++ leBytes 4 (dW d 4) ++ leBytes 2 ep ++ leBytes 6 0

def sigcOf (sig : List Byte) : Nat := crc32c 0xFFFFFFFF sig

/-- A descriptor rebuilt from a signature, as a spine station knows it. -/
def descOfSig (sig : List Byte) : List Word :=
  0 :: wordsOf 4 sig ++ List.replicate 11 0

/-! ## Operations -/

def opCode (d : List Word) : Nat := bits (dW d 1) 28 4
def opRed (d : List Word) : Nat := bits (dW d 1) 25 3
def opIn (d : List Word) : Nat := bits (dW d 1) 20 5
def opOut (d : List Word) : Nat := bits (dW d 1) 15 5
def opCount (d : List Word) : Nat := dW d 3
def opCap (d : List Word) : Nat := bits (dW d 4) 16 16
def opRoot (d : List Word) : Nat := bits (dW d 4) 0 13
/-- The fields of COUNT for DISPATCH and COMBINE (08 R228). -/
def opHB (d : List Word) : Nat := bits (dW d 3) 20 12
def opXPRL (d : List Word) : Nat := bits (dW d 3) 16 4
def opK (d : List Word) : Nat := bits (dW d 3) 12 4
def opT (d : List Word) : Nat := bits (dW d 3) 0 12
def isRoute (d : List Word) : Bool := opCode d == 6 || opCode d == 7
/-- The operation reduces by sweeping (08 R223); a zero count is a barrier (06 R183). -/
def sweeps (d : List Word) : Bool := opCount d != 0 && (opCode d ≤ 2 || opCode d == 7)

/-- 07 R193: an allowed combination of OP, REDOP, ITYPE and OTYPE. -/
def comboOk (op red it ot : Nat) : Bool :=
  let fl := fun f => f == 1 || f == 2 || f == 3 || fmtMx f
  if op ≤ 2 then
    (red ≤ 2 && ((fl it && fl ot) || (it == 4 && ot == 4) || (fmtInt it && fmtInt ot)))
    || (3 ≤ red && red ≤ 5 && fmtInt it && ot == it)
  else if op = 3 ∨ op = 4 ∨ op = 6 then red == 0 && it != 0 && fmtBits it != 0 && ot == it
  else if op = 5 then red == 0 && it == 0 && ot == 0
  else if op = 7 then red == 6 && (it == 1 || it == 2 || it == 3 || it == 8 || it == 9) && (ot == 1 || ot == 2 || ot == 3)
  else false

/-- A reserved encoding of a descriptor (06 R161, R162; 07 R193; 08 R217, R228) for a group. `doorbell` asks D0 to be 0. -/
def descReserved (s : State) (g : Nat) (d : List Word) (doorbell : Bool) : Bool :=
  let op := opCode d
  let nr := s.rd F.GRP_ENT_NRANK g
  let n := opCount d
  let mx := fmtMx (opIn d) || fmtMx (opOut d)
  let path := bits (dW d 2) 29 2
  (doorbell && dW d 0 != 0) || bits (dW d 1) 12 3 != 0 || bits (dW d 2) 24 5 != 0 || path == 3
  || bits (dW d 4) 13 3 != 0 || bits (dW d 5) 31 1 != 0 || bits (dW d 5) 13 17 != 0
  || dW d 13 != 0 || dW d 14 != 0 || dW d 15 != 0
  || !comboOk op (opRed d) (opIn d) (opOut d)
  || (!isRoute d && opCap d != 0)
  || (op != 1 && op != 4 && opRoot d != 0) || decide (opRoot d ≥ nr)
  || (op == 5 && n != 0)
  || (op == 2 && (if mx then n % (32 * nr) != 0 else n % nr != 0))
  || (mx && n % 32 != 0)
  || (isRoute d && (path == 1 || s.flag F.GRP_ENT_ROW_ST g || s.flag F.GRP_ENT_COL_ST g
        || (n != 0 && (decide (opXPRL d > 6) || opK d == 0 || decide (opK d > 8) || decide (nr * 2 ^ opXPRL d > 65535)))))

/-! ## Results that have left, chunks that end (06 R166, 07 R212) -/

/-- The operation has ended without abort. -/
def finishOp (s : State) (g : Nat) : State :=
  match (getGrp s g).op with
  | none => s
  | some o =>
    let s1 := s.cntG g 1
    let s2 := if o.flags ≠ 0 then s1.cntG g 12 else s1
    let s3 := match o.hop with
      | some n => hostDone s2 n 0 o.flags 0 0
      | none => s2
    let s4 := if opCode o.d = 7 then dropRoute s3 g else s3
    settleTurns (closeSeq s4 g o.seq) g

/-- End the chunks whose results have all left, and the operation with its last chunk. -/
def settleGroup (s : State) (g : Nat) : State :=
  match (getGrp s g).op with
  | none => s
  | some o =>
    let ended := o.chunks.filter fun c => c.stage == 4 && c.due.isEmpty
    if ended.isEmpty then s
    else
      let s1 := ended.foldl freeLines s
      let s2 := modGrp s1 g fun x => { x with
        op := x.op.map fun o => { o with
          chunks := o.chunks.filter fun c => !(c.stage == 4 && c.due.isEmpty)
          done := o.done ++ ended.map (·.idx) } }
      if o.done.length + ended.length ≥ max 1 o.nc then finishOp s2 g else s2

/-- RESULTs to be sent again (06 R181): those whose link is up go out from the cistern, the others wait for it (log 43). -/
def doResends (s : State) : State :=
  s.resend.foldl (fun s e =>
    let t := e.1
    match (getGrp s t.gid).op with
    | none => s
    | some o =>
      match if o.seq = t.seq then o.chunks.find? (·.idx == t.chunk) else none with
      | none => s
      | some c =>
        match c.out[t.k]? with
        | none => s
        | some p =>
          if linkIsUp s (linkCode s e.2) then sendLinks s p.hdr p.data [linkCode s e.2] (some t)
          else { s with resend := s.resend ++ [e] }) { s with resend := [] }

/-- What follows the leaving of cells: resends, then the ends of chunks and operations. -/
def settleGroups (s : State) : State :=
  let s1 := doResends s
  (s1.grps.map (·.1)).foldl settleGroup s1

end Sys2Proof.Machine
end

