-- ==== Sys2Proof/Machine/Ingress.lean ====
section
/-! DEFINITION. Shared operations of the receive side: a checked cell's way into the chip (02 R42 to R52, R66, R67), the
whole packet's way to the local station, and the discard of a packet by number. -/

namespace Sys2Proof.Machine

open Sys2Proof

def asmKey (lp vc : Nat) : Nat := lp * 8 + vc
def getAsm (s : State) (lp vc : Nat) : Option Asm := mget s.sw.asm (asmKey lp vc)
def putAsm (s : State) (lp vc : Nat) (a : Asm) : State := modSw s fun w => { w with asm := mput w.asm (asmKey lp vc) a }
def delAsm (s : State) (lp vc : Nat) : State := modSw s fun w => { w with asm := mdel w.asm (asmKey lp vc) }

/-- Count a discard found on arrival (02 R509). -/
def discardArr (s : State) (lp vc reason : Nat) : State := s.discardAt lp vc reason

/-- A cell check has failed on an open packet: a packet still going on is ended with `tc` and the reason counted; one that
a header check is discarding is counted with this reason instead, the cell checks coming first (02 R67); one already
counted goes on being discarded. `last` says the failing cell was the packet's last. -/
def asmFail (s : State) (lp vc tc reason : Nat) (last : Bool) (a : Asm) : State :=
  let s1 := if a.drop then (if a.pend = 0 then s else discardArr s lp vc reason)
    else if goesOn s a.pid then discardArr (endPacket s a.pid tc) lp vc reason
    else endPacket s a.pid tc
  if last then delAsm s1 lp vc else putAsm s1 lp vc { a with drop := true, pend := 0 }

/-- Hand a cell to the ingress queue of its VC; what goes to the station only is taken in when its turn comes. `bad` says that
the words failed their parity check at the hand-off (02 R46), which is reported with the packet's output port (15 R412, R413). -/
def takeCell (s : State) (pid lp : Nat) (c : Cell) (bad : Bool) : State :=
  match findPkt s pid with
  | none => s
  | some p =>
    match p.tgts.find? (·.live) with
    | none => s
    | some t =>
      let s1 := modSw s fun w => { w with wait := w.wait ++ [⟨pid, p.src, lp, c.vc, bad, c⟩] }
      let s2 := if bad then s1.report 4 3 t.lp 0 4 t.lp else s1
      stationPull (s2.sw.wait.length + 1) s2 p.src lp c.vc

/-- A packet has been received whole, its tail with TCODE 1, whatever becomes of it (17 R467, R471). A reserved LEN adds no
bytes. -/
def rxGood (s : State) (h : Header) (lp vc : Nat) : State :=
  let len := if h.len ≤ 4096 then h.len else 0
  let s1 := (s.cntP lp vc 2).cntP lp vc 1 len
  { s1 with tel := { s1.tel with bwRx := mset 0 s1.tel.bwRx lp (mgetD s1.tel.bwRx lp 0 + len) } }

/-- The last cell of a packet has arrived: no more of it will. -/
def packetDone (s : State) (pid : Nat) : State := cleanup (updPkt s pid fun p => { p with rxDone := true }) pid

/-- A packet goes on behind an abort tail received from upstream (02 R50): where its head has left, the tail follows the cells
that wait, unchanged (a TCODE of 0 counts as 5, R44); elsewhere the packet is discarded. -/
def passAbort (s : State) (pid lp : Nat) (c : Cell) : State :=
  match findPkt s pid with
  | none => s
  | some p =>
    let s1 := (p.tgts.filter fun t => t.sent == 0).foldl (fun s t => endTarget s pid t.id 5) s
    if p.tgts.any fun t => t.live && t.sent != 0 then
      let tc := if c.tcode = 0 then 5 else c.tcode
      let s2 := takeCell s1 pid lp { c with hdr := cellHdr 2 c.vc tc c.cidx } false
      updPkt s2 pid fun p => { p with rxDone := true }
    else endPacket s1 pid 5

/-- What a header-level discard does when it is counted: the notice to a fenced slot with its count and kind 0x02 for the first
since the commit that set the bit (10 R294, R295), the notice of an old epoch (02 R55). -/
def discardHeader (s : State) (h : Header) (lp vc reason : Nat) : State :=
  let s1 := if reason = 0x24 then
      let s2 := (sendFenced s h lp 2 (noticeEpoch s h)).cntW 27
      if s2.fenceHit.contains lp then s2
      else { s2 with fenceHit := lp :: s2.fenceHit }.report 8 2 lp 4 4 lp
    else if reason = 0x0A then oldEpochAbort (sendFenced s h lp 1 (noticeEpoch s h)) h
    else s
  discardArr s1 lp vc reason

/-- The checks that follow a cell's place in its packet (02 R43, R44, R52), then the cell's way on. An abort tail stands in place
of the rest of its packet (R49), so that R52 does not judge its CIDX (DEDUCED, log 25). -/
def cellAfter (s : State) (lp : Nat) (c : Cell) (a : Asm) (bad : Bool) : State :=
  let vc := c.vc
  let last := c.isLast
  if a.drop = true ∧ a.pend = 0 then (if last then delAsm s lp vc else s)
  else if c.cidx ≠ a.next then asmFail s lp vc 5 0x02 last a
  else if (last = true ∧ c.tcode = 1 ∧ c.cidx + 1 < a.ncells) ∨ (c.cidx + 1 = a.ncells ∧ last = false) then
    asmFail s lp vc 4 0x04 last a
  else if last = false then
    let s1 := if a.drop then s else takeCell s a.pid lp c bad
    match getAsm s1 lp vc with
    | some b => putAsm s1 lp vc { b with next := a.next + 1, tLast := s.now }
    | none => s1
  else if c.tcode = 1 then
    let s1 := rxGood s a.hdr lp vc
    if a.drop then delAsm (discardHeader s1 a.hdr lp vc a.pend) lp vc
    else delAsm (packetDone (takeCell s1 a.pid lp c bad) a.pid) lp vc
  else
    let reason := if 2 ≤ c.tcode ∧ c.tcode ≤ 5 then 0x0D else 0x0F
    let s1 := if a.drop then s else passAbort s a.pid lp c
    delAsm (if a.drop || goesOn s a.pid then discardArr s1 lp vc reason else s1) lp vc

/-- The slot that a DOORBELL or a GRANT_REQ takes at the station for its link and group is in use (04 R124): another one waits
there, is on its way there, or waits for its grant. -/
def slotBusy (s : State) (h : Header) (arr : Nat) : Bool :=
  let same := fun (q : Header) (a : Nat) => q.opcode == h.opcode && q.gid == h.gid && linkCode s a == linkCode s arr
  (h.opcode == 0x14 || h.opcode == 0x10) && (s.sw.stationQ.any (fun w => same w.pkt.hdr w.pkt.arr)
    || s.sw.pkts.any (fun p => same p.hdr p.arr && p.tgts.any fun t => t.lp == 161 && t.live)
    || (h.opcode == 0x10 && (getGrp s h.gid).reqs.any fun r => r.link == linkCode s arr))

/-- The checks of a collective packet for the station (06 R152, R160; 04 R124): 0x1D first, then 0x1B; 0 when both pass. -/
def stationReason (s : State) (h : Header) (arr : Nat) : Nat :=
  let r := collectiveReason s h arr
  if r ≠ 0 then r else if slotBusy s h arr then 0x1B else 0

/-- The header checks and the lookup of a head or single cell (02 R66, R67; 03 R80; 04 R105, R107, R108; 09 R247 to R249).
Answers the packet's number, or the reason it is being discarded with. A packet that this discards is not examined by a mirror
session (DESIGN CHOICE, log 88). -/
def headCell (s : State) (lp : Nat) (c : Cell) : (Nat × Nat) × State :=
  let h0 := headerOf c.body
  let r0 := entryReason s h0 c.vc lp
  if r0 ≠ 0 then ((0, r0), s)
  else
    let first := lp = 160 ∨ s.isAccelPort lp = true
    let (h1, s1) := if first then stampEntry s h0 else (h0, s)
    let h := turn s h1
    let (r, s2) := routeOf s1 h
    match r with
    | .disc reason => ((0, reason), s)
    | .out o =>
      let r1 := reachReason s h0 lp
      let r3 := if r1 ≠ 0 then r1 else contextReason s2 h lp r
      let r2 := if r3 = 0 ∧ o = 161 then stationReason s h lp else r3
      if r2 ≠ 0 then ((0, r2), if r2 = 0x21 then s.cntW 34 else s)
      else
        let pid := s2.sw.nextPid
        let s3 := closeCtx (openCtx s2 pid h lp) h o
        let (ms, s4) := mirrorTargets s3 0 lp h
        let held := first && h.fence && isCountedReq h.opcode && crossesRacks s h.dst
        let src := if lp = 160 then injSrc [newTarget o] else lp / 2
        let p : PktRec := ⟨pid, h, lp, src, h.bank, newTarget o :: ms, s.now, s.fabric, false, [], none, none, decide held⟩
        ((pid, 0), modSw s4 fun w => { w with pkts := w.pkts ++ [p], nextPid := pid + 1 })

/-- The entry of a packet that its port keeps for itself, IDENT and PAUSE: the checks of its header's length, VC and opcode
(02 R67), or 0. -/
def controlReason (h : Header) : Nat := if h.len > 4096 then 0x03 else if h.vc ≠ 0 then 0x06 else 0

/-- A single cell that carries an IDENT or a PAUSE on VC0 (11 R318, 15 R428). -/
def isControl (c : Cell) : Bool :=
  c.ctype == 3 && c.vc == 0 && ((headerOf c.body).opcode == 0x01 || (headerOf c.body).opcode == 0x03)

/-- Such a cell goes through the cell checks like any other packet, then to its port's own control. -/
def controlCell (s : State) (lp : Nat) (c : Cell) : State :=
  let h := headerOf c.body
  let tail := if 2 ≤ c.tcode ∧ c.tcode ≤ 5 then 0x0D else 0x0F
  let reason := if c.cidx ≠ 0 then 0x02 else if c.tcode = 1 ∧ h.len ≤ 4096 ∧ 1 < ncells h.len then 0x04
    else if c.tcode ≠ 1 then tail else controlReason h
  if reason ≠ 0 then discardArr s lp 0 reason
  else modSw (rxGood s h lp 0) fun w => { w with ctlQ := w.ctlQ ++ [⟨h, (c.bytes.drop 32).take h.len, lp⟩] }

/-- A head or single cell ends the packet that is open on its VC (02 R43). -/
def endOpen (s : State) (lp vc : Nat) : State :=
  match getAsm s lp vc with
  | none => s
  | some a => if a.drop = true ∧ a.pend = 0 then delAsm s lp vc else asmFail s lp vc 5 0x01 true a

/-- One cell that the link layer has checked is handed to ingress (02 R45). IDENT and PAUSE single cells on VC0 go to the
port's own control (11 R318, 15 R428), an IDENT in UP neither counted nor acted on; a port out of UP carries no other traffic
(01 R29). -/
def receiveCell (s0 : State) (lp : Nat) (c : Cell) (bad : Bool := false) : State :=
  let vc := c.vc
  let h := headerOf c.body
  let up := decide (160 ≤ lp) || s0.linkUp lp
  if isControl c then
    if up && h.opcode == 0x01 then s0
    else controlCell (endOpen (s0.cntP lp vc 0) lp vc) lp c
  else if !up then s0
  else
    let s := s0.cntP lp vc 0
    if c.isHead then
      let ((pid, pend), s2) := headCell (endOpen s lp vc) lp c
      let n := if h.len ≤ 4096 then ncells h.len else 0
      let a : Asm := ⟨pid, h, 0, n, pend != 0, pend, s.now⟩
      cellAfter (putAsm s2 lp vc a) lp c a bad
    else
      match getAsm s lp vc with
      | none => discardArr s lp vc 0x01
      | some a => cellAfter s lp c a bad

/-- 02 R51: the packet open on a VC has waited GAP for its next cell. -/
def gapTimeout (s : State) (lp vc : Nat) : State :=
  let gap := s.rd F.PRT_CELL_GAP_GAP (lp / 2)
  match getAsm s lp vc with
  | none => s
  | some a => if gap ≠ 0 ∧ a.tLast + 10 * gap ≤ s.now then asmFail s lp vc 3 0x0E false a else s

/-- 04 R115: a VC3 to VC6 packet has stayed RES_LIM with none of its cells sent. A packet that waits for the station is
counted on its arrival port (02 R509), any other on its output port. -/
def residencyLimit (s : State) (pid : Nat) : State :=
  let lim := s.rd0 F.SWC_RTE_RESLIM_RES_LIM
  if lim = 0 then s
  else
    match s.sw.stationQ.find? (·.pid == pid) with
    | some w =>
      let vc := w.pkt.hdr.vc
      if 3 ≤ vc ∧ vc ≤ 6 ∧ w.since + 1000 * lim < s.now then
        (modSw s fun q => { q with stationQ := q.stationQ.erase w }).discardAt w.pkt.arr vc 0x1A
      else s
    | none =>
      match findPkt s pid with
      | none => s
      | some p =>
        let vc := p.hdr.vc
        let unsent := p.tgts.all fun t => t.mir.isSome || (t.sent == 0 && t.live)
        if 3 ≤ vc ∧ vc ≤ 6 ∧ unsent = true ∧ p.tHead + 1000 * lim < s.now then
          let lp : Nat := ((p.tgts.find? (·.mir.isNone)).map (·.lp)).getD 161
          let s1 := endPacket s pid 5
          if lp ≥ 160 then s1.discardAt p.arr vc 0x1A else s1.discard lp vc 0x1A false
        else s

/-- 04 R113: the fenced packet at the head of a port's VC3 queue is let go once no earlier cross-rack request of its source
is open. -/
def fenceRelease (s : State) (lp : Nat) : State :=
  match s.sw.wait.find? (fun c => c.lp == lp && c.vc == 3) with
  | none => s
  | some c =>
    match findPkt s c.pid with
    | none => s
    | some p =>
      let front := s.sw.wait.find? (inQueue c.src lp 3) == some c
      if front = true ∧ p.fenceHeld = true ∧ fenceCount s lp p.pid = 0 then updPkt s p.pid fun p => { p with fenceHeld := false } else s

/-- 04 R119: a queue eligible and unserved for STARVE is promoted. -/
def starvePromote (s : State) (lp vc : Nat) : State :=
  let lim := s.rd F.PRT_ARB_STARVE (lp / 2)
  match (getEgr s lp vc).eligSince with
  | none => s
  | some t =>
    if 3 ≤ vc ∧ vc ≤ 7 ∧ lim ≠ 0 ∧ (getEgr s lp vc).promoted = none ∧ eligible s lp vc = true ∧ t + 1000 * lim ≤ s.now then
      (modEgr s lp vc fun e => { e with promoted := some s.now }).cntP lp vc 13
    else s

/-- The abort tail's 0x16 (03 R98): the flush of a port is finished. -/
def flushDone (s : State) (lp : Nat) : State := modLink s lp fun l => { l with flushing := false }

/-- 11 R326: a packet held back is sent after the next one of its queue or after 10 µs. -/
def reorderExpire (s : State) (lp vc : Nat) : State :=
  match (getEgr s lp vc).held with
  | none => s
  | some (_, t) => if t + 10000 ≤ s.now then touchElig (letGo s lp vc) lp vc else s

/-! ## Flush (03 R98) -/

/-- The reason with which a packet that a header check is discarding is counted where its arrival port leaves UP, or the chip is
flushed, before its tail: 0x16 comes before the reasons of 04 R125, 06 R184 and 09 R277, after those of 02 R67 and 03 R102 and
0x24 (10 R294). -/
def flushReason (pend : Nat) : Nat := if 0x17 ≤ pend ∧ pend ≠ 0x24 then 0x16 else pend

/-- Flush a logical port that leaves the up stage: packets queued for it are discarded or their copies dropped (0x16 on this
port; a RESULT is asked for again, 06 R181), packets still arriving on it are ended with TCODE 5 or discarded (0x16 on the arrival
port either way, 02 R509, under the VC on which they arrived, DESIGN CHOICE, log 103), its ingress queues are emptied. A packet that has met a
reason already is not counted again. -/
def flushPort (s : State) (lp : Nat) : State :=
  let outs := s.sw.pkts.flatMap fun p => (p.tgts.filter fun t => t.lp == lp && !t.fin).map fun t => (p, t)
  let s1 := outs.foldl (fun s x =>
    let counted := x.2.mir.isNone && tailDue s x.1 x.2
    let s2 := updTgt (removeCells s x.1.pid x.2.id) x.1.pid x.2.id fun t => { t with fin := true, endTc := none }
    let s3 := askResend s2 x.1 x.2
    cleanup (if counted then s3 else s3.discard lp x.1.hdr.vc 0x16 false) x.1.pid) s
  let away := fun (s : State) (pid vc : Nat) =>
    if goesOn s pid then discardArr (endPacket s pid 5) lp vc 0x16 else endPacket s pid 5
  let s2 := (s1.sw.asm.filter fun e => e.1 / 8 == lp).foldl (fun s e =>
    let a := e.2
    let vc := e.1 % 8
    let s3 := if !a.drop then away s a.pid vc
      else if a.pend ≠ 0 then discardHeader s a.hdr lp vc (flushReason a.pend) else s
    delAsm s3 lp vc) s1
  let s3 := ((s2.sw.wait.filter (·.lp == lp)).map fun c => (c.pid, c.vc)).dedup.foldl (fun s e => away s e.1 e.2) s2
  modSw s3 fun w => { w with
    wait := w.wait.filter (·.lp != lp)
    egr := w.egr.filter fun e => e.1 / 8 != lp
    eport := mdel w.eport lp
    ctlQ := w.ctlQ.filter (·.arr != lp) }

/-! ## Forwarding banks (03 R84, R85) -/

def setBankState (s : State) (b v : Nat) : State :=
  if b = 0 then s.wr0 F.SWC_BANK_STAT_STATE_A v else s.wr0 F.SWC_BANK_STAT_STATE_B v

/-- SEAL: EDIT → STANDBY; no effect in other states. -/
def sealBank (s : State) (b : Nat) : State := if bankState s b = 0 then setBankState s b 1 else s

/-- The in-flight count of a bank (03 R88): packets that carry it and have not left. -/
def bankCount (s : State) (b : Nat) : Nat :=
  (s.sw.pkts.filter (·.bank == b)).length + (s.sw.stationQ.filter (·.bank == b)).length
    + (s.sw.hostQ.filter (·.pkt.hdr.bank == b)).length

/-- DRAINING → STANDBY when HOLD has passed and the in-flight count is 0. -/
def bankDrainEnd (s : State) : State :=
  match s.sw.drainSince with
  | none => s
  | some t =>
    let b := 1 - s.rd0 F.SWC_BANK_STAT_ACTIVE
    if bankState s b = 3 ∧ t + 1000 * s.rd0 F.SWC_BANK_HOLD_HOLD ≤ s.now ∧ bankCount s b = 0 then
      modSw (setBankState s b 1) fun w => { w with drainSince := none }
    else s

/-- The bank part of a commit (03 R85 to R87): NEXT_ACTIVE becomes active, the other drains. -/
def bankSwitch (s : State) (next : Nat) : State :=
  if s.rd0 F.SWC_BANK_STAT_ACTIVE = next then s
  else
    let s1 := setBankState (setBankState s next 2) (1 - next) 3
    modSw (s1.wr0 F.SWC_BANK_STAT_ACTIVE next) fun w => { w with drainSince := some s.now }

end Sys2Proof.Machine
end

