-- ==== Sys2Proof/Machine/Time.lean ====
section
/-! DEFINITION. Fabric time and timetables (file 05): the discipline of the count, loads, in-band time, the timetable banks,
admission, the budgets of a tick. -/

namespace Sys2Proof.Machine

open Sys2Proof

def modTime (s : State) (f : TimeSt → TimeSt) : State := { s with time := f s.time }

/-! ## Discipline (05 R129) -/

/-- Correct the count by a phase error `e` in ns (05 R129): a step above STEP_THR, else a slew over the next tick. A step takes the
place of a correction not yet finished (DEDUCED, log 15). -/
def applyPhase (s : State) (e : Int) : State :=
  let thr := s.rd0 F.TIM_DISC_STEP_THR
  let smax : Int := ((s.rd0 F.TIM_DISC_SLEW_MAX : Nat) : Int)
  let s1 := s.wr0 F.TIM_PHASE_ERR_ERR (unsigned 32 e)
  if thr ≠ 0 ∧ e.natAbs > thr then
    let s2 := if e < 0 then modTime s1 fun t =>
        { t with count := (t.count + e.natAbs) % 2 ^ 64, still := 0, slew := 0, slewAge := 1000, jump := some (s.now, t.count) }
      else modTime s1 fun t => { t with still := e.natAbs, slew := 0, slewAge := 1000 }
    (s2.wr0 F.TIM_STAT_STEPPED 1).report 2 2 (unsigned 48 e)
  else if smax ≠ 0 then
    modTime s1 fun t => { t with slew := -(max (-smax) (min smax e)), slewAge := 0 }
  else s1

def loadValue (s : State) : Nat := s.rd0 F.TIM_LOAD_HI_LOAD * 2 ^ 32 + s.rd0 F.TIM_LOAD_LO_LOAD

/-- Take an armed load: the count is set and VALID is 1 (05 R131). -/
def takeLoad (s : State) (v : Nat) : State :=
  ((modTime s fun t => { t with count := v % 2 ^ 64, still := 0, slew := 0, slewAge := 1000, armed := none }).wr0
    F.TIM_STAT_VALID 1).wr0 F.TIM_CTRL_LOAD_ARM 0

/-- The chip's classification of a TICK pulse by its high time in ns (05 R128). -/
def isMarker (high : Nat) : Bool := decide (400 < high)

/-- A rising TICK edge of a pulse that is high for `high` ns (05 R128, R129, R131, R132). Only SRC 0 is disciplined by it, and only
then are markers checked for slip (DESIGN CHOICE, log 69). -/
def tickEdge (s : State) (high : Nat) : State :=
  if s.rd0 F.TIM_CTRL_SRC ≠ 0 then s
  else
    let s0 := modTime s fun t => { t with lastEdge := some s.now }
    let adj := signed 16 (s.rd0 F.TIM_TICK_ADJ_ADJ)
    let t : Int := (s.fabric : Int) + adj
    let e := (t + 500) % 1000 - 500
    let s1 := (applyPhase s0 e).wr0 F.TIM_STAT_HOLDOVER 0
    if isMarker high then
      match s1.time.armed with
      | some v => takeLoad s1 v
      | none =>
        let near := (s.fabric + 500) / 1000
        if s1.flag F.TIM_STAT_VALID ∧ near % 65536 ≠ 0 then
          (s1.wr0 F.TIM_STAT_SLIP 1).report 2 3 (s.fabric % 2 ^ 48)
        else s1
    else s1

/-- Loss of the time source (05 R132): LOSS_N edges (mode 0) or SYNC intervals (mode 2) missed since the last. -/
def holdoverEnter (s : State) : State :=
  let n := s.rd0 F.TIM_DISC_LOSS_N
  let src := s.rd0 F.TIM_CTRL_SRC
  let ivl := s.rd0 F.TIM_IB_SYNC_IVL
  let late := fun (o : Option Nat) (per : Nat) => (o.any fun t => decide (t + n * per < s.now))
  if n = 0 ∨ s.flag F.TIM_STAT_HOLDOVER = true then s
  else if src = 0 ∧ late s.time.lastEdge 1000 = true then
    (s.wr0 F.TIM_STAT_HOLDOVER 1).report 2 1 0
  else if src = 2 ∧ ivl ≠ 0 ∧ late s.time.lastSync (1000 * ivl) = true then
    ((s.wr0 F.TIM_STAT_HOLDOVER 1).report 2 1 2).report 2 4 0
  else s

/-! ## TIM_CTRL -/

/-- Withdraw an armed load (05 R131). -/
def withdrawLoad (s : State) : State :=
  (modTime s fun t => { t with armed := none }).wr0 F.TIM_CTRL_LOAD_ARM 0

/-- The pending commit is withdrawn (05 R146): TIM_CMT_STAT and GLB_CMT_STAT say cancelled; shadows and DIRTY stay
(13 R379). -/
def cancelCommit (s : State) : State :=
  match s.commit with
  | none => s
  | some _ =>
    (({ s with commit := none }.wr0 F.TIM_CMT_STAT_PENDING 0).wr0 F.TIM_CMT_STAT_RESULT 2).wr0 F.GLB_CMT_STAT_RESULT 3

/-- While the time is not valid no window is open (05 R127): the budgets of the windows go. -/
def closeWindows (s : State) : State :=
  { modSw s fun w => { w with egr := (w.egr.map fun e => (e.1, { e.2 with budget := 0 })).filter fun e => e.2 != egrInit } with winOpen := [] }

/-- INVAL (05 R126): VALID 0, a pending commit of mode 1 to 3 cancelled, an armed load withdrawn. -/
def timeInval (s : State) : State :=
  let s1 := closeWindows (withdrawLoad (s.wr0 F.TIM_STAT_VALID 0))
  if s1.commit.any fun c => c.mode != 0 then cancelCommit s1 else s1

/-- A write that changes SRC (05 R126, R131, R132). -/
def timeSrc (s : State) (v : Nat) : State :=
  if s.rd0 F.TIM_CTRL_SRC = v then s
  else
    let s1 := closeWindows (withdrawLoad ((s.wr0 F.TIM_CTRL_SRC v).wr0 F.TIM_STAT_VALID 0))
    modTime (s1.wr0 F.TIM_STAT_HOLDOVER 0) fun t => { t with lastEdge := none, lastSync := none }

/-- LOAD_ARM (05 R131), judged after the other fields of its write. -/
def timeLoadArm (s : State) (m : Master) : State :=
  let src := s.rd0 F.TIM_CTRL_SRC
  let v := loadValue s
  if s.flag F.TIM_STAT_VALID ∨ src = 2 ∨ (src = 0 ∧ v % 65536000 ≠ 0) ∨ ((src = 1 ∨ src = 3) ∧ v % 1000 ≠ 0) then
    s.accessFault m 1 (regOff .TIM_CTRL 0)
  else (modTime s fun t => { t with armed := some v, armTick := s.tickCount }).wr0 F.TIM_CTRL_LOAD_ARM 1

/-- 05 R131: in modes 1 and 3 an armed load takes effect at the chip's next own tick boundary. -/
def loadTakeEffect (s : State) : State :=
  let src := s.rd0 F.TIM_CTRL_SRC
  match s.time.armed with
  | some v => if (src = 1 ∨ src = 3) ∧ s.tickCount ≠ s.time.armTick then takeLoad s v else s
  | none => s

/-! ## In-band time (05 R133 to R136) -/

/-- The relay's Endpoint ID: the accelerator of slot RELAY_LP (05 R133). -/
def relayEid (s : State) : Nat := mkEid s.ownRow s.ownCol (s.rd0 F.TIM_IB_RELAY_LP) 0 0

/-- The measured delay to the relay: the mean of the last eight, 0 before the first (05 R136; halves round down, log 15). -/
def meanDelay (s : State) : Int :=
  if s.time.delays.isEmpty then 0 else s.time.delays.foldl (· + ·) 0 / (s.time.delays.length : Int)

/-- The local count as it stood when the cell of a packet that waits at the station came in, whatever has corrected it since
(05 R134; DEDUCED, log 15). -/
def rxTime (s : State) (p : StPkt) : Nat :=
  match s.sw.stationQ.find? (·.pkt == p) with
  | some w => w.rxFab
  | none => s.fabric

/-- A TIME packet (05 R134). -/
def timePkt (s : State) (seq mode v corr ta tb : Nat) : Header × List Byte :=
  (mkHdr 0x02 (relayEid s) 0 s.selfEid 16 0 seq (mode + 4 * v) corr 0, leBytes 8 ta ++ leBytes 8 tb)

/-- 05 R135. -/
def syncSend (s : State) : State :=
  let ivl := s.rd0 F.TIM_IB_SYNC_IVL
  if s.rd0 F.TIM_CTRL_SRC = 1 ∧ ivl ≠ 0 ∧ s.atTick ivl = true then
    let (h, d) := timePkt s s.time.syncSeq 0 (s.rd0 F.TIM_STAT_VALID) (unsigned 32 (meanDelay s)) s.fabric 0
    emitVc0 (modTime s fun t => { t with syncSeq := (t.syncSeq + 1) % 2 ^ 24 }) (s.rd0 F.TIM_IB_RELAY_LP) h d 0
  else s

/-- 05 R136: T1 is noted as the packet leaves (stampTime). SEQ, which the spec gives only for SYNC, is 0 (DESIGN CHOICE,
log 105). -/
def delayReqSend (s : State) : State :=
  let ivl := s.rd0 F.TIM_IB_SYNC_IVL
  let src := s.rd0 F.TIM_CTRL_SRC
  if (src = 1 ∨ src = 2) ∧ ivl ≠ 0 ∧ s.atTick (16 * ivl) = true then
    let (h, d) := timePkt s 0 1 0 0 s.fabric 0
    emitVc0 s (s.rd0 F.TIM_IB_RELAY_LP) h d 0
  else s

/-- A DELAY_RSP that came in at fabric time `t4`: one delay measurement, DELAY the mean of the last eight (05 R134, R136). -/
def delayRsp (s : State) (p : StPkt) (t4 : Nat) : State :=
  let src := s.rd0 F.TIM_CTRL_SRC
  match s.time.reqAt with
  | none => s
  | some t1 =>
    if (src ≠ 1 ∧ src ≠ 2) ∨ p.hdr.opw0 % 4 ≠ 2 then s
    else
      let t2 := leNat (p.data.take 8)
      let t3 := leNat ((p.data.drop 8).take 8)
      let d : Int := (((t4 : Int) - (t1 : Int)) - ((t3 : Int) - (t2 : Int))) / 2
      let s1 := modTime s fun t => { t with reqAt := none, delays := (d :: t.delays).take 8 }
      s1.wr0 F.TIM_IB_DELAY_DELAY (unsigned 16 (meanDelay s1))

/-- A SYNC that a slave has received at fabric time `rx` (05 R136). One with V = 0 counts as received: it ends holdover and is not
missed (DESIGN CHOICE, log 91). -/
def syncReceive (s : State) (p : StPkt) (rx : Nat) : State :=
  if s.rd0 F.TIM_CTRL_SRC ≠ 2 ∨ p.hdr.opw0 % 4 ≠ 0 then s
  else
    let s0 := modTime (s.wr0 F.TIM_STAT_HOLDOVER 0) fun t => { t with lastSync := some s.now }
    if bits p.hdr.opw0 2 1 = 0 then s0
    else
      let v : Int := (leNat (p.data.take 8) + p.hdr.opw1 : Nat) + meanDelay s
      if s.flag F.TIM_STAT_VALID ∨ s.time.delays.isEmpty = true then applyPhase s0 ((rx : Int) - v)
      else
        let c := ((v + ((s.fabric - rx : Nat) : Int)) % 2 ^ 64).toNat
        (modTime s0 fun t => { t with count := c, still := 0, slew := 0, slewAge := 1000 }).wr0 F.TIM_STAT_VALID 1

/-! ## Timetable banks (05 R137 to R144) -/

def ttState (s : State) (b : Nat) : Nat := if b = 0 then s.rd0 F.TIM_TT_STAT_STATE_A else s.rd0 F.TIM_TT_STAT_STATE_B
def setTtState (s : State) (b v : Nat) : State :=
  if b = 0 then s.wr0 F.TIM_TT_STAT_STATE_A v else s.wr0 F.TIM_TT_STAT_STATE_B v
def winReg (b : Nat) : RegName := if b = 0 then .TIM_WIN_A else .TIM_WIN_B
def ttGrpReg (b : Nat) : RegName := if b = 0 then .TIM_GRP_A else .TIM_GRP_B

/-- A window of a bank. -/
structure Window where
  lp : Nat
  vc : Nat
  gv : Bool
  gid : Nat
  start : Nat
  len : Nat
  lenHi : Nat
  rate : Nat
  deriving DecidableEq, Repr

/-- A group entry of a bank. -/
structure TtGroup where
  gid : Nat
  strict : Bool
  cist : Nat
  start : Nat
  deadline : Nat
  vol : Nat
  ops : Nat
  deriving DecidableEq, Repr

/-- The windows of a bank; one with LEN 0 or RATE 0 is ignored (05 R137). -/
def windowsOf (s : State) (b : Nat) : List Window :=
  let g := fun (f : Field) i => s.rd (f.onReg (winReg b)) i
  List.filter (fun w => w.len != 0 && w.rate != 0) <| ((List.range 4096).filter fun i => g F.TIM_WIN_B_VALID i == 1).map fun i =>
    { lp := g F.TIM_WIN_B_LP i, vc := g F.TIM_WIN_B_VC i, gv := g F.TIM_WIN_B_GV i == 1, gid := g F.TIM_WIN_B_GID i
      start := g F.TIM_WIN_B_START i, len := g F.TIM_WIN_B_LEN_HI i * 65536 + g F.TIM_WIN_B_LEN i
      lenHi := g F.TIM_WIN_B_LEN_HI i, rate := g F.TIM_WIN_B_RATE i }

/-- The valid group entries of a bank. -/
def ttGroupsOf (s : State) (b : Nat) : List TtGroup :=
  let g := fun (f : Field) i => s.rd (f.onReg (ttGrpReg b)) i
  ((List.range 512).filter fun i => g F.TIM_GRP_B_VALID i == 1).map fun i =>
    { gid := g F.TIM_GRP_B_GID i, strict := g F.TIM_GRP_B_STRICT i == 1, cist := g F.TIM_GRP_B_CIST_KIB i
      start := g F.TIM_GRP_B_START i, deadline := g F.TIM_GRP_B_DEADLINE i, vol := g F.TIM_GRP_B_VOL i
      ops := g F.TIM_GRP_B_OPS i }

/-- A window is open at offset `o` of a period of `p` ticks (05 R137). -/
def openAt (p o : Nat) (w : Window) : Bool := decide ((o + p - w.start % p) % p < w.len)

/-- The offset of the present tick in the period of a bank (05 R137). -/
def ttOffset (s : State) (b : Nat) : Nat :=
  let p := s.rd F.TIM_TT_PER_PERIOD b
  if p = 0 then 0 else (s.tickCount + p - s.rd F.TIM_TT_PHASE_PHASE b % p) % p

/-- Cells a port of transmit width `w` carries per tick (05 R141). -/
def cellsPerTick (w : Nat) : Nat := 25000 * w / 68

/-- A result of admission: the code and its detail. -/
structure AdmResult where
  code : Nat
  lp : Nat
  vc : Nat
  gid : Nat
  need : Nat
  have_ : Nat
  offset : Nat
  deriving DecidableEq, Repr

def admOk : AdmResult := ⟨0, 0, 0, 0, 0, 0, 0⟩

/-- The first result of a list that is not 0. -/
def firstFail : List AdmResult → AdmResult
  | [] => admOk
  | r :: rs => if r.code = 0 then firstFail rs else r

/-- Check 0x9 (05 R141). With a PERIOD of 0 only a PHASE of 0 passes (DESIGN CHOICE, log 116). -/
def ttCheck9 (p phase : Nat) (ws : List Window) (gs : List TtGroup) : AdmResult :=
  let badW := ws.find? fun w => p == 0 || decide (w.start ≥ p) || decide (w.len > p) || w.vc == 0
    || (w.lenHi == 1 && (p != 65536 || w.len != 65536))
  let badG := gs.find? fun g => p == 0 || decide (g.start ≥ p) || decide ((gs.filter (·.gid == g.gid)).length > 1)
  if p > 65536 ∨ (p ≠ 0 ∧ phase ≥ p) ∨ (p = 0 ∧ phase ≠ 0) then { admOk with code := 9 }
  else match badW with
    | some w => { admOk with code := 9, lp := w.lp, vc := w.vc, gid := w.gid }
    | none => match badG with
      | some g => { admOk with code := 9, gid := g.gid }
      | none => admOk

/-- Check 0x5. A window whose LP is 160 to 255 fails it, as one of a port that does not exist (DESIGN CHOICE, log 115). -/
def ttCheck5 (s : State) (ws : List Window) : AdmResult :=
  match ws.find? fun w => !(s.lpExists w.lp && s.linkUp w.lp) with
  | some w => { admOk with code := 5, lp := w.lp }
  | none => admOk

/-- Check 0x7. -/
def ttCheck7 (s : State) (ws : List Window) (gs : List TtGroup) : AdmResult :=
  match ws.find? fun w => w.gv && !(gs.any (·.gid == w.gid)) with
  | some w => { admOk with code := 7, gid := w.gid }
  | none => match gs.find? fun g => !groupActive s g.gid with
    | some g => { admOk with code := 7, gid := g.gid }
    | none => admOk

/-- Check 0x1: the lowest port and offset that fails (a sum first exceeds its limit at offset 0 or at a window's START). The detail's
VC is that of the first window open there (DESIGN CHOICE, log 92). -/
def ttCheck1 (s : State) (p : Nat) (ws : List Window) : AdmResult :=
  firstFail ((List.range 160).map fun lp =>
    let mine := ws.filter (·.lp == lp)
    let lim := 9 * cellsPerTick (s.rd F.PRT_LSTAT_TXW lp) / 10
    let offs := sortBy (fun a b => decide (a ≤ b)) (0 :: mine.map (·.start))
    let sum := fun o => ((mine.filter (openAt p o)).map (·.rate)).foldl (· + ·) 0
    match offs.find? fun o => decide (sum o > lim) with
    | some o => { code := 1, lp := lp, vc := (((mine.filter (openAt p o)).head?).map (·.vc)).getD 0, gid := 0,
                  need := sum o, have_ := lim, offset := o }
    | none => admOk)

/-- f_w of 05 R142: the least j with enough open ticks among the first j offsets from the group's START; none when a
period does not hold them. -/
def winFill (p : Nat) (g : TtGroup) (w : Window) : Option Nat :=
  if g.vol = 0 then some 0
  else
    let n := (g.vol + w.rate - 1) / w.rate
    let d := (w.start + p - g.start % p) % p
    if n > w.len then none
    else if d + w.len ≤ p then some (d + n)
    else
      let k := d + w.len - p
      if n ≤ k then some n else some (d + (n - k))

/-- Check 0x6. -/
def ttCheck6 (p : Nat) (ws : List Window) (gs : List TtGroup) : AdmResult :=
  firstFail (gs.flatMap fun g => (ws.filter fun w => w.gv && w.gid == g.gid).map fun w =>
    match winFill p g w with
    | some _ => admOk
    | none => { admOk with code := 6, gid := g.gid, lp := w.lp, vc := w.vc })

def activePumps (s : State) : Nat := s.rd0 F.PMP_POOL_ACTIVE

/-- Checks 0x2, 0x3, 0x4 (05 R141, R142). With no pump capacity pump_t, which R142 then divides by 0, is taken as 0 (DESIGN CHOICE,
log 93); a limit below 0 shows as 0 (log 92). -/
def ttCheck234 (s : State) (p : Nat) (ws : List Window) (gs : List TtGroup) : AdmResult :=
  let a := activePumps s
  let f := s.rd0 F.PMP_FREQ_F
  let cistNeed : Nat := (gs.map (·.cist)).foldl (· + ·) 0
  let cistHave : Int := ((a * 1024 : Nat) : Int) - (s.rd0 F.TIM_ADM_CFG_CIST_RSV : Nat)
  let ops := (gs.map (·.ops)).foldl (· + ·) 0
  let cap := 9 * a * 64 * f / 10
  let have_ := cap * p / 1024
  let pumpT := if cap = 0 then 0 else (ops * 1024 + cap - 1) / cap
  if (cistNeed : Int) > cistHave then { admOk with code := 2, need := cistNeed, have_ := cistHave.toNat }
  else if ops > have_ then { admOk with code := 3, need := ops, have_ := have_ }
  else
    let wcl := fun g => (((ws.filter fun w => w.gv && w.gid == g.gid).filterMap (winFill p g)).foldl max 0) + pumpT
      + s.rd0 F.TIM_ADM_CFG_HOP_T
    match gs.find? fun (g : TtGroup) => g.deadline != 0 && decide (g.deadline < wcl g) with
    | some g => { admOk with code := 4, gid := g.gid, need := wcl g, have_ := g.deadline }
    | none => admOk

/-- Checks 0x5 to 0x4 in the order of 05 R141. -/
def ttConditions (s : State) (b : Nat) : AdmResult :=
  let p := s.rd F.TIM_TT_PER_PERIOD b
  let ws := windowsOf s b
  let gs := ttGroupsOf s b
  firstFail [ttCheck5 s ws, ttCheck7 s ws gs, ttCheck1 s p ws, ttCheck6 p ws gs, ttCheck234 s p ws gs]

/-- All the checks of admission (05 R141). -/
def ttAdmit (s : State) (b : Nat) : AdmResult :=
  if ttState s b ≠ 1 then { admOk with code := 0xA }
  else if s.flag F.TIM_STAT_VALID = false then { admOk with code := 8 }
  else
    let c9 := ttCheck9 (s.rd F.TIM_TT_PER_PERIOD b) (s.rd F.TIM_TT_PHASE_PHASE b) (windowsOf s b) (ttGroupsOf s b)
    if c9.code ≠ 0 then c9 else ttConditions s b

/-- SEAL of a timetable bank: EDIT → SEALED (05 R138). -/
def ttSeal (s : State) (b : Nat) : State := if ttState s b = 0 then setTtState s b 1 else s

/-- ADMIT: admission starts on a SEALED bank when none runs. -/
def ttAdmitStart (s : State) (b : Nat) : State :=
  if ttState s b = 1 ∧ s.flag F.TIM_ADM_STAT_BUSY = false then
    (((modTime s fun t => { t with admCut := false }).wr0 F.TIM_ADM_STAT_BUSY 1).wr0 F.TIM_ADM_STAT_BANK b).wr0 (if b = 0 then F.TIM_TT_CTRL_ADMIT_A else F.TIM_TT_CTRL_ADMIT_B) 1
  else s

/-- Admission finishes (05 R141). A bank that passes is SEALED again at once where F has changed meanwhile (16 R447). -/
def admissionDone (s : State) : State :=
  if s.flag F.TIM_ADM_STAT_BUSY = false then s
  else
    let b := s.rd0 F.TIM_ADM_STAT_BANK
    let r := ttAdmit s b
    let s0 := (s.wr0 F.TIM_TT_CTRL_ADMIT_A 0).wr0 F.TIM_TT_CTRL_ADMIT_B 0
    let s1 := (((((((s0.wr0 F.TIM_ADM_STAT_BUSY 0).wr0 F.TIM_ADM_STAT_RESULT r.code).wr0 F.TIM_ADM_STAT_LP r.lp).wr0
      F.TIM_ADM_STAT_VC r.vc).wr0 F.TIM_ADM_STAT_GID r.gid).wr0 F.TIM_ADM_NEED_NEED r.need).wr0
      F.TIM_ADM_HAVE_HAVE r.have_).wr0 F.TIM_ADM_TICK_OFFSET r.offset
    if r.code = 0 ∧ s.time.admCut = false then setTtState s1 b 2 else s1

/-- 05 R143: a change of the width or up state of a port that it names, of A or of F (no port) returns an ADMITTED bank to SEALED. -/
def conditionChange (s : State) (lp : Option Nat) : State :=
  let hit := fun b => ttState s b == 2 && lp.all fun p => (windowsOf s b).any (·.lp == p)
  let s1 := if hit 0 then setTtState s 0 1 else s
  if hit 1 then setTtState s1 1 1 else s1

/-- 05 R144: the checks of the active timetable are repeated. -/
def ttRecheck (s : State) : State :=
  let b := s.rd0 F.TIM_TT_STAT_ACTIVE
  if s.rd F.TIM_TT_PER_PERIOD b = 0 then s
  else
    let r := ttConditions s b
    let set := fun (s : State) (x : AdmResult) (risk : Nat) =>
      ((((s.wr0 F.TIM_RISK_AT_RISK risk).wr0 F.TIM_RISK_RESULT x.code).wr0 F.TIM_RISK_LP x.lp).wr0 F.TIM_RISK_VC x.vc).wr0
        F.TIM_RISK_GID x.gid
    if r.code = 0 then set s admOk 0 else (set s r 1).report 2 5 r.code

/-- The timetable part of a commit (05 R138, R144): the bank named becomes ACTIVE, the other SEALED. -/
def ttSwitch (s : State) (next : Nat) : State :=
  if s.rd0 F.TIM_TT_STAT_ACTIVE = next then s
  else
    ((setTtState (setTtState s next 3) (1 - next) 1).wr0 F.TIM_TT_STAT_ACTIVE next).wr0 F.TIM_RISK_AT_RISK 0

/-- The start of a tick that the count has newly reached (05 R130, R139, 16 R449): the queues' budgets come from the windows open
at its offset; every port's unscheduled budget is renewed. -/
def tickBoundary (s : State) : State :=
  if s.tickCount = s.time.lastTick then s else
  let b := s.rd0 F.TIM_TT_STAT_ACTIVE
  let p := s.rd F.TIM_TT_PER_PERIOD b
  let o := ttOffset s b
  let open_ := if s.flag F.TIM_STAT_VALID = false ∨ p = 0 then [] else (windowsOf s b).filter (openAt p o)
  let keys := (open_.map fun w => w.lp * 8 + w.vc).dedup
  let rate := fun k => ((open_.filter fun w => w.lp * 8 + w.vc == k).map (·.rate)).foldl (· + ·) 0
  let u := s.rd0 F.PWR_LEVEL_U_NOW
  let s1 := modSw s fun w => { w with egr := (w.egr.map fun e => (e.1, { e.2 with budget := 0 })).filter fun e => e.2 != egrInit }
  let s2 := keys.foldl (fun s k => modEgr s (k / 8) (k % 8) fun e => { e with budget := ((rate k : Nat) : Int) }) s1
  let s3 := (List.range 160).foldl (fun s lp =>
    if s.linkUp lp then modEPort s lp fun e => { e with unsched := ((u * cellsPerTick (s.rd F.PRT_LSTAT_TXW lp) / 64 : Nat) : Int) }
    else s) s2
  modTime { s3 with winOpen := (sortBy (fun a b => decide (a ≤ b)) keys).map fun k => (k, true) } fun t =>
    { t with lastTick := s.tickCount }

end Sys2Proof.Machine
end

