-- ==== Sys2Proof/Machine/Groups.lean ====
section
/-! DEFINITION. Group entries, rank tables, group commands, doorbells and sequencer messages (file 06, R152 to R160, R167,
R168, R174 to R180, and the commit effects R156 and R218). -/

namespace Sys2Proof.Machine

open Sys2Proof

/-! ## Packets handed to the station -/

/-- A packet that a command names leaves the station's queue if it waits there. -/
def takeStation (s : State) (p : StPkt) : State :=
  match s.sw.stationQ.find? (·.pkt == p) with
  | some w => modSw s fun q => { q with stationQ := q.stationQ.erase w }
  | none => s

/-- Count a discard of a packet at the station on its arrival port. -/
def stDiscard (s : State) (p : StPkt) (reason : Nat) : State := s.discardAt p.arr p.hdr.vc reason

/-! ## Entry and rank table writes (06 R152, R153, R155) -/

def grpLocked (f : Field) : Bool :=
  !(f == F.GRP_ENT_GTO || f == F.GRP_ENT_WEIGHT || f == F.GRP_ENT_LAT_KIB || f == F.GRP_ENT_NEXT_BANK)

/-- A write of one word of a group entry. -/
def groupEntWrite (s : State) (m : Master) (g w val be : Nat) : State :=
  if groupLive s g then
    let bad := (wordFields .GRP_ENT w).any fun f =>
      grpLocked f && fieldAfter s f g val be != s.rdSw f g
    let s1 := writeWord s m .GRP_ENT g w val be fun f => !grpLocked f
    if bad then s1.accessFault m 1 (regOff .GRP_ENT g + 4 * w) else s1
  else
    let s1 := writeWord s m .GRP_ENT g w val be
    if s.rd F.GRP_ENT_STATE g = 0 then s1.wr F.GRP_ENT_STATE g 1 else s1

/-- A rank table entry that an ACTIVE or CLOSING group uses. -/
def rankLocked (s : State) (b i : Nat) : Bool :=
  (List.range 4096).any fun g =>
    groupLive s g && s.rd F.GRP_ENT_ACT_BANK g == b && decide (s.rd F.GRP_ENT_RBASE g ≤ i)
      && decide (i < s.rd F.GRP_ENT_RBASE g + s.rd F.GRP_ENT_NLOCAL g)

def groupRankWrite (s : State) (m : Master) (b i val be : Nat) : State :=
  if rankLocked s b i then s.accessFault m 1 (regOff (rankReg b) i) else writeWord s m (rankReg b) i 0 val be

/-! ## Creation (06 R154, R157, R158) -/

/-- The fields that the checks judge: as written, or as CREATE_SHAPE computes them. -/
structure GrpPlan where
  nrank : Nat
  nlocal : Nat
  row : Bool
  col : Bool
  inside : Bool
  entsA : List RankEnt
  entsB : List RankEnt
  deriving DecidableEq, Repr

/-- 06 R154 over one bank. -/
def rankEntsOk (s : State) (mode nrank : Nat) (es : List RankEnt) : Bool :=
  let v := es.filter (·.valid)
  let one := fun (e : RankEnt) =>
    if s.isSpine then e.child && e.lp ≤ 7 && e.rank == 0
    else !e.child && decide (e.rank < nrank)
      && (decide (e.lp ≤ 127) || (e.lp == 0xFF && s.flag F.GLB_HOST_PLACE_HOST_EP_EN && mode == 0))
  v.all one && decide ((v.map (·.lp)).Nodup) && (s.isSpine || decide ((v.map (·.rank)).Nodup))

/-- The plan of CREATE: the entry as written. -/
def planWritten (s : State) (g : Nat) : GrpPlan :=
  ⟨s.rd F.GRP_ENT_NRANK g, s.rd F.GRP_ENT_NLOCAL g, s.flag F.GRP_ENT_ROW_ST g, s.flag F.GRP_ENT_COL_ST g, true,
    rankEntries s g 0, rankEntries s g 1⟩

/-- The plan of CREATE_SHAPE (06 R158). -/
def planShape (s : State) : GrpPlan :=
  let nrow := s.rd0 F.GRP_SHAPE_NROW
  let row0 := s.rd0 F.GRP_SHAPE_ROW0
  let ncol := s.rd0 F.GRP_SHAPE_NCOL
  let col0 := s.rd0 F.GRP_SHAPE_COL0
  let slot0 := s.rd0 F.GRP_SHAPE_SLOT0
  let nslot := s.rd0 F.GRP_SHAPE_NSLOT
  let inRow := fun r => decide (row0 ≤ r) && decide (r < row0 + nrow)
  let inCol := fun c => decide (col0 ≤ c) && decide (c < col0 + ncol)
  let es : Option (List RankEnt) :=
    if s.isRack then
      if inRow s.ownRow && inCol s.ownCol then
        let base := ((s.ownRow - row0) * ncol + (s.ownCol - col0)) * nslot
        some ((List.range nslot).map fun i => ⟨true, false, base + i, slot0 + i⟩)
      else none
    else if s.isSpine then
      if s.line < 8 then
        if inRow s.line && decide (ncol > 1) then some ((List.range ncol).map fun k => ⟨true, true, 0, col0 + k⟩) else none
      else if inCol (s.line - 8) && decide (nrow > 1) then some ((List.range nrow).map fun k => ⟨true, true, 0, row0 + k⟩)
      else none
    else none
  ⟨nrow * ncol * nslot, (es.getD []).length, decide (ncol > 1), decide (nrow > 1), es.isSome, es.getD [], es.getD []⟩

/-- GRP_SHAPE holds a shape within the grid (06 R157, check 0x2). -/
def shapeOk (s : State) : Bool :=
  let nrow := s.rd0 F.GRP_SHAPE_NROW
  let ncol := s.rd0 F.GRP_SHAPE_NCOL
  let nslot := s.rd0 F.GRP_SHAPE_NSLOT
  nrow != 0 && ncol != 0 && nslot != 0 && decide (s.rd0 F.GRP_SHAPE_ROW0 + nrow ≤ 8)
    && decide (s.rd0 F.GRP_SHAPE_COL0 + ncol ≤ 8) && decide (s.rd0 F.GRP_SHAPE_SLOT0 + nslot ≤ 128)

/-- The queue range of a group overlaps that of another ACTIVE or CLOSING group. -/
def queueOverlaps (s : State) (g : Nat) : Bool :=
  let lo := s.rd F.GRP_ENT_QBASE g
  let hi := lo + 2 ^ s.rd F.GRP_ENT_QLOG g
  (List.range 4096).any fun o =>
    o != g && groupLive s o && decide (lo < s.rd F.GRP_ENT_QBASE o + 2 ^ s.rd F.GRP_ENT_QLOG o)
      && decide (s.rd F.GRP_ENT_QBASE o < hi)

/-- The RESULT of the checks of 06 R157, in their order; 0 when all pass. The valid entry of check 0x4 and the links of check
0x5 are those of bank A, which CREATE makes active, and the host member counts as up (DESIGN CHOICE, log 94). -/
def createResult (s : State) (g : Nat) (shape : Bool) (p : GrpPlan) : Nat :=
  let rd := fun f => s.rd f g
  let pm := rd F.GRP_ENT_PMASK
  let rack := s.isRack
  if s.rd F.GRP_ENT_STATE g ≠ 1 then 1
  else if (shape && !shapeOk s) || p.nrank == 0 || decide (p.nrank > 8192) || (p.inside && (p.nlocal == 0 || decide (p.nlocal > 256)))
      || rd F.GRP_ENT_WEIGHT == 0 || (rack && (decide (rd F.GRP_ENT_QLOG < 2) || decide (rd F.GRP_ENT_QLOG > 10))) then 2
  else if !(rack || s.isSpine) || !bitAt pm (rd F.GRP_ENT_HOME) || !bitAt pm s.plane
      || decide (rd F.GRP_ENT_HOME_ROW ≥ s.rows) || decide (rd F.GRP_ENT_HOME_COL ≥ s.cols)
      || (shape && (decide (s.rd0 F.GRP_SHAPE_ROW0 + s.rd0 F.GRP_SHAPE_NROW > s.rows)
            || decide (s.rd0 F.GRP_SHAPE_COL0 + s.rd0 F.GRP_SHAPE_NCOL > s.cols)))
      || (rack && ((p.row && decide (s.cols < 2)) || (p.col && decide (s.rows < 2))))
      || (s.isSpine && !(if s.line < 8 then p.row else p.col)) then 3
  else if !p.inside then 7
  else if decide (rd F.GRP_ENT_RBASE + p.nlocal > 65536) || !rankEntsOk s (rd F.GRP_ENT_MODE) p.nrank p.entsA
      || !rankEntsOk s (rd F.GRP_ENT_MODE) p.nrank p.entsB || !(p.entsA.any (·.valid)) then 4
  else if (p.entsA.any fun e => e.valid &&
        !(if s.isSpine then linkIsUp s (.child e.lp) else e.lp == 0xFF || s.linkUp e.lp))
      || (rack && ((p.row && !linkIsUp s .rowUp) || (p.col && !linkIsUp s .colUp))) then 5
  else if rack && (decide (rd F.GRP_ENT_QBASE + 2 ^ rd F.GRP_ENT_QLOG > 32768) || queueOverlaps s g) then 6
  else 0

/-- Write one rank entry. -/
def putRankEnt (s : State) (b i : Nat) (e : RankEnt) : State :=
  let r := rankReg b
  (((s.wr (F.GRP_RANK_B_VALID.onReg r) i (b2n e.valid)).wr (F.GRP_RANK_B_CHILD.onReg r) i (b2n e.child)).wr
    (F.GRP_RANK_B_RANK.onReg r) i e.rank).wr (F.GRP_RANK_B_LP.onReg r) i e.lp

/-- Put the computed entries and fields of CREATE_SHAPE in place. -/
def putShape (s : State) (g : Nat) (p : GrpPlan) : State :=
  let base := s.rd F.GRP_ENT_RBASE g
  let s1 := (((s.wr F.GRP_ENT_NRANK g p.nrank).wr F.GRP_ENT_NLOCAL g p.nlocal).wr F.GRP_ENT_ROW_ST g (b2n p.row)).wr
    F.GRP_ENT_COL_ST g (b2n p.col)
  ((List.range p.nlocal).zip p.entsA).foldl (fun s e => putRankEnt (putRankEnt s 0 (base + e.1) e.2) 1 (base + e.1) e.2) s1

def cmdResult (s : State) (g r : Nat) : State := (s.wr0 F.GRP_CMD_STAT_RESULT r).wr0 F.GRP_CMD_STAT_GID g

/-- CREATE and CREATE_SHAPE. -/
def groupCreate (s : State) (g : Nat) (shape : Bool) : State :=
  let p := if shape then planShape s else planWritten s g
  let r := createResult s g shape p
  if r ≠ 0 then cmdResult s g r
  else
    let s1 := if shape then putShape s g p else s
    cmdResult (setGrp ((s1.wr F.GRP_ENT_STATE g 2).wr F.GRP_ENT_ACT_BANK g 0) g
      { grpInit with shaped := if shape then some (s.rd0 F.GRP_SHAPE_NCOL, s.rd0 F.GRP_SHAPE_NSLOT) else none }) g 0

/-! ## DESTROY, ABORT, FREE (06 R152, R159) -/

/-- Descriptors queued and not launched are withdrawn; those of the host complete with 0x07. -/
def withdrawQueued (s : State) (g : Nat) : State :=
  let x := getGrp s g
  let cur := x.op.map (·.seq)
  let gone := x.queue.filter fun q => some q.seq != cur
  let s1 := gone.foldl (fun s q => match q.hop with
    | some n => hostDone s n 7 0 0 0
    | none => s) s
  modGrp s1 g fun y => { y with
    queue := y.queue.filter fun q => some q.seq == cur
    firsts := y.firsts.filter fun e => some e.1 == cur
    reqs := y.reqs.filter fun r => some r.seq == cur
    gate := none
    timer := if y.op.isSome then y.timer else none }

def groupDestroy (s : State) (g : Nat) : State :=
  if !groupActive s g then cmdResult s g 1
  else
    let s1 := modGrp (withdrawQueued (s.wr F.GRP_ENT_STATE g 3) g) g fun x => { x with closingAt := some s.now }
    let s2 := match (getGrp s1 g).op with
      | some o => raiseAbort s1 g o.seq 7
      | none => s1
    cmdResult s2 g 0

def groupAbort (s : State) (g : Nat) : State :=
  if !groupActive s g then cmdResult s g 1
  else
    let x := getGrp s g
    let ns := nextSeq s g
    let seq := match x.op with
      | some o => some o.seq
      | none => ((x.queue.map fun q => seqSub q.seq ns).min?).map fun d => (ns + d) % 2 ^ 24
    cmdResult (match seq with
      | some q => raiseAbort s g q 7
      | none => s) g 0

/-- CLOSING becomes FREE once nothing is in progress and HOLD has passed. -/
def groupFree (s : State) (g : Nat) : State :=
  let x := getGrp s g
  if s.rd F.GRP_ENT_STATE g = 3 ∧ x.op = none ∧
      (x.closingAt.all fun t => decide (t + 1000 * s.rd0 F.SWC_BANK_HOLD_HOLD ≤ s.now)) = true then
    let s1 := resetFields s .GRP_ENT g
    let s2 := setGrp s1 g grpInit
    let own := fun (e : Nat × Nat) => decide (0x100000 + g * 128 ≤ e.1) && decide (e.1 < 0x100000 + (g + 1) * 128)
    { s2 with tel := { s2.tel with cnt := s2.tel.cnt.filter (!own ·), waits := s2.tel.waits.filter (!own ·) } }
  else s

/-- A write of GRP_CMD (06 R157): partial or while BUSY, reserved, or one of the four commands. -/
def groupCmd (s : State) (m : Master) (val be : Nat) : State :=
  let off := regOff .GRP_CMD 0
  let opc := bits val 28 4
  let g := bits val 0 12
  if !wholeBe be then s.accessFault m 2 off
  else if s.flag F.GRP_CMD_STAT_BUSY then s.accessFault m 1 off
  else if opc = 1 then groupCreate s g false
  else if opc = 2 then groupCreate s g true
  else if opc = 3 then groupDestroy s g
  else if opc = 4 then groupAbort s g
  else s.accessFault m 2 off

/-! ## Doorbells (06 R168) -/

/-- Put a descriptor in the queue store. -/
def putQstore (s : State) (g seq : Nat) (d : List Word) : State :=
  let slot := s.rd F.GRP_ENT_QBASE g + seq % 2 ^ s.rd F.GRP_ENT_QLOG g
  { s with qstore := (List.range 16).foldl (fun m i => mset 0 m (slot * 16 + i) (dW d i)) s.qstore }

/-- GRANT_REQs held for a SEQ that do not agree with its descriptor (06 R165). -/
def reqsDiffer (s : State) (g seq : Nat) (sig : List Byte) : Bool := (getGrp s g).reqs.any fun r => r.seq == seq && r.sig != sig

/-- A DOORBELL at the station (06 R168). One that finds its slot in use does not come so far: it is discarded as it arrives
(`slotBusy`, 04 R124). -/
def doorbell (s0 : State) (p : StPkt) : State :=
  let g := p.hdr.gid
  let seq := p.hdr.seq
  let s := takeStation s0 p
  let l := linkCode s p.arr
  if collectiveReason s p.hdr p.arr ≠ 0 then stDiscard s p 0x1D
  else if s.flag F.GRP_ENT_MODE g = false then s
  else
    let n := 2 ^ s.rd F.GRP_ENT_QLOG g
    let back := seqSub (nextSeq s g) seq
    let ahead := seqSub seq (nextSeq s g)
    if 1 ≤ back ∧ back ≤ n then sendGrant (stDiscard s p 0x1E) g l 2 seq 0 0
    else if ahead ≥ n then sendGrant (stDiscard s p 0x1C) g l 2 seq 0 0
    else
      let d := wordsOf 16 p.data
      let ep := s.rd F.GRP_ENT_GEPOCH g
      let s1 := noteFirst s g seq
      let bad := p.hdr.len != 64 || descReserved s g d true
      match (getGrp s1 g).queue.find? (·.seq == seq) with
      | some q =>
        let differs := bad || signatureOf q.desc ep != signatureOf d ep
        let s2 := modGrp s1 g fun x => { x with queue := x.queue.map fun e =>
          if e.seq = seq then { e with rung := e.rung.filter (·.1 != l) ++ [(l, d)] } else e }
        sendGrant (if differs then raiseAbort s2 g seq 2 else s2) g l 2 seq 0 0
      | none =>
        if bad then sendGrant (raiseAbort s1 g seq 2) g l 2 seq 0 0
        else
          let s2 := putQstore (modGrp s1 g fun x => { x with queue := x.queue ++ [⟨seq, d, [(l, d)], none⟩] }) g seq d
          let s3 := if reqsDiffer s2 g seq (signatureOf d ep) then raiseAbort s2 g seq 2 else s2
          sendGrant s3 g l 2 seq 0 0

/-! ## GROUP_OP of a host ring (06 R167, 12 R346) -/

/-- The status that refuses a host descriptor, 0 when it is accepted. -/
def groupOpStatus (s : State) (d : List Word) : Nat :=
  let g := dW d 1 % 4096
  let seq := dW d 2 % 2 ^ 24
  if !groupActive s g then 0x10
  else if s.flag F.GRP_ENT_MODE g then 0x11
  else if seqSub seq (nextSeq s g) ≥ 2 ^ s.rd F.GRP_ENT_QLOG g ∨ ((getGrp s g).queue.any (·.seq == seq)) = true then 0x12
  else if descReserved s g d false then 0x13
  else 0

/-- Post the host descriptor of operation `n`. -/
def groupOp (s : State) (n : Nat) (d : List Word) : State :=
  let st := groupOpStatus s d
  if st ≠ 0 then hostDone s n st 0 0 0
  else
    let g := dW d 1 % 4096
    let seq := dW d 2 % 2 ^ 24
    let s1 := putQstore (modGrp s g fun x => { x with queue := x.queue ++ [⟨seq, d, [], some n⟩] }) g seq d
    if reqsDiffer s1 g seq (signatureOf d (s.rd F.GRP_ENT_GEPOCH g)) then raiseAbort s1 g seq 2 else s1

/-! ## The progress timer (06 R174) -/

def progressTimeout (s : State) (g : Nat) : State :=
  let x := getGrp s g
  let gto := match x.op with
    | some o => o.gto
    | none => s.rd F.GRP_ENT_GTO g
  let seq := nextSeq s g
  let live := x.op.isSome || x.firsts.any (·.1 == seq)
  match x.timer with
  | none => s
  | some t =>
    if gto ≠ 0 ∧ live = true ∧ x.gate = none ∧ t + 1000 * gto ≤ s.now then settleGroups (raiseAbort s g seq 1) else s

/-! ## Sequencer messages (06 R176 to R180) -/

def seqKind (p : StPkt) : Nat := p.hdr.opw0 / 2 ^ 28
def seqCode (p : StPkt) : Nat := bits p.hdr.opw0 16 8

/-- Forward a SEQCTL to every link but the one it came on. -/
def forwardSeqctl (s : State) (g : Nat) (p : StPkt) : State :=
  let h := mkHdr 0x06 0 0 s.selfEid 0 p.hdr.gepoch p.hdr.seq p.hdr.opw0 p.hdr.opw1 p.hdr.opw2
  sendSeqctl s g h (some (linkCode s p.arr))

/-- An ABORT_REQ at a station or the sequencer (06 R176 to R178). A SEQCTL with a KIND above 2, which the spec reserves, is refused
whole (00 R17) and counted nowhere (DESIGN CHOICE, log 106). -/
def abortReq (s0 : State) (p : StPkt) : State :=
  let g := p.hdr.gid
  let s := takeStation s0 p
  if collectiveReason s p.hdr p.arr ≠ 0 then stDiscard s p 0x1D
  else if seqKind p ≠ 0 then s
  else
    let (new, s1) := noteKey s g [p.hdr.seq, 0, seqCode p, p.hdr.opw1 % 2 ^ 20]
    if !new then s
    else
      let s2 := forwardSeqctl s1 g p
      if actsFor s2 g && !coverWaits s2 g then decideAbort s2 g p.hdr.seq (seqCode p)
      else if inHomeRack s2 g && !(getGrp s2 g).decided.contains p.hdr.seq
          && !(getGrp s2 g).asked.contains (p.hdr.seq, seqCode p) then
        modGrp s2 g fun x => { x with asked := (x.asked ++ [(p.hdr.seq, seqCode p)]).take 64 }
      else s2

def seqctlAbort (s0 : State) (p : StPkt) : State :=
  let g := p.hdr.gid
  let seq := p.hdr.seq
  let s := takeStation s0 p
  if collectiveReason s p.hdr p.arr ≠ 0 then stDiscard s p 0x1D
  else if seqKind p ≠ 1 then s
  else
    let (new, s1) := noteKey s g [seq, 1]
    if !new then s
    else
      let s2 := endSeq (forwardSeqctl s1 g p) g seq (seqCode p) true
      if inHomeRack s2 g then
        modGrp s2 g fun x => { x with
          decided := (seq :: x.decided).take 16
          asked := x.asked.filter (·.1 != seq)
          echo := ((s.now, seq, seqCode p) :: x.echo).filter fun e => decide (s.now ≤ e.1 + 2000000) }
      else s2

def tokenReceive (s0 : State) (p : StPkt) : State :=
  let g := p.hdr.gid
  let s := takeStation s0 p
  if collectiveReason s p.hdr p.arr ≠ 0 then stDiscard s p 0x1D
  else if seqKind p ≠ 2 then s
  else
    let (new, s1) := noteKey s g [p.hdr.seq, 2]
    if !new then s else noteToken (forwardSeqctl s1 g p) g p.hdr.seq

/-- TOKEN_DLY after an ABORT the acting sequencer sends TOKEN (06 R180). -/
def tokenSend (s : State) (g : Nat) : State :=
  if !groupLive s g || !actsFor s g then s
  else
    match (getGrp s g).tokenDue.find? fun e => decide (e.2 ≤ s.now) with
    | some (seq, _) => sendToken s g seq
    | none => s

/-- A sequencer that takes the active role for the groups of a plane resends the ABORTs it recorded in the last 2 ms (06 R182,
15 R436). -/
def resendAborts (s : State) (plane : Nat) : State :=
  let dly := s.rd0 F.GRP_SEQ_CFG_TOKEN_DLY
  (s.grps.map (·.1)).foldl (fun s g =>
    if actsFor s g && effHome s g == some plane then
      ((getGrp s g).echo.filter fun e => decide (s.now ≤ e.1 + 2000000)).reverse.foldl (fun s e =>
        modGrp (sendSeqctl s g (seqctlHdr s g 1 e.2.1 e.2.2 s.selfEid) none) g fun x =>
          { x with tokenDue := x.tokenDue ++ [(seqInc e.2.1, s.now + 1000 * dly)] }) s
    else s) s

/-- A copy that begins to cover its partner's plane. -/
def coverResend (s : State) : State := resendAborts s (Nat.xor s.plane 8)

/-- The requests for the groups of a plane that no ABORT has covered are decided (06 R182). -/
def decideAsked (s : State) (plane : Nat) : State :=
  (s.grps.map (·.1)).foldl (fun s g =>
    if actsFor s g && effHome s g == some plane then (getGrp s g).asked.foldl (fun s e => decideAbort s g e.1 e.2) s else s) s

/-- The covering copy begins to decide: the requests that no resent ABORT covered (15 R436). -/
def coverDecide (s : State) : State :=
  match s.coverFrom with
  | none => s
  | some t =>
    if s.now < t then s
    else decideAsked { s with coverFrom := none } (Nat.xor s.plane 8)

/-! ## Commit effects (06 R156, 08 R218) -/

/-- The epoch boundary of one group (06 R156): the bank switches, GEPOCH rises in ACTIVE only (13 R374), the operation in progress
ends, what was queued is withdrawn. GRANT_REQs of the old epoch that wait for a grant leave their slots (DESIGN CHOICE, log 107). -/
def epochBoundary (s : State) (g : Nat) : State :=
  let seq := (getGrp s g).op.map (·.seq)
  let s0 := s.wr F.GRP_ENT_ACT_BANK g (s.rd F.GRP_ENT_NEXT_BANK g)
  let s1 := if groupActive s g then s0.wr F.GRP_ENT_GEPOCH g ((s.rd F.GRP_ENT_GEPOCH g + 1) % 65536) else s0
  let s2 := withdrawQueued s1 g
  let s3 := match seq with
    | some q => endNow s2 g q 3 false
    | none => s2
  settleTurns (modGrp (dropRoute s3 g) g fun x => { x with reqs := [], firsts := [], timer := none, gate := none, shaped := none }) g

/-- A change of plane set at a commit. `ended` is what an epoch boundary of the same commit ended and whether there was
one. -/
def planeSetChange (s : State) (g : Nat) (switched : Bool) (ended : Option Nat) : State :=
  let cur := if switched then ended else (getGrp s g).op.map (·.seq)
  let code := if switched then 3 else 5
  let s1 := match cur with
    | some q => if switched then s else settleTurns (endNow s g q 5 false) g
    | none => s
  let seq := cur.getD (seqDec (nextSeq s1 g))
  let s2 := (noteKey s1 g [seq, 1]).2
  sendSeqctl s2 g (seqctlHdr s2 g 1 seq code s.selfEid) none true

/-- The groups' part of a commit: `old` is the live GRP_PLANE_LIVE before it. -/
def groupsCommit (s : State) (old : Nat) : State :=
  let new := s.rd0 F.GRP_PLANE_LIVE_LIVE
  (List.range 4096).foldl (fun s g =>
    if !groupLive s g then s
    else
      let sw := s.rd F.GRP_ENT_NEXT_BANK g != s.rd F.GRP_ENT_ACT_BANK g
      let seq := (getGrp s g).op.map (·.seq)
      let s1 := if sw then epochBoundary s g else s
      let pm := s.rd F.GRP_ENT_PMASK g
      if groupActive s1 g ∧ Nat.land pm old ≠ Nat.land pm new then planeSetChange s1 g sw seq else s1) s

/-! ## Links that go down (08 R227) -/

/-- The up sets that an operation uses at this rack station (08 R224). -/
def usesLink (s : State) (g : Nat) : List GLink := groupUps s g

/-- A station without any up member, without a stage's set, or with a child lost. -/
def planeLost (s : State) (g : Nat) : Bool :=
  let ms := (groupMembers s g).map (·.2)
  if s.isSpine then ms.any fun l => !linkIsUp s l
  else (!ms.isEmpty && ms.all fun l => !linkIsUp s l) || (usesLink s g).any fun l => !linkIsUp s l

def groupsLinkDown (s : State) (lp : Nat) : State :=
  (s.grps.map (·.1)).foldl (fun s g =>
    match (getGrp s g).op with
    | some o => if isGroupLink s g lp && planeLost s g then raiseAbort s g o.seq 5 else s
    | none => s) s

end Sys2Proof.Machine
end

