-- ==== Sys2Proof/Machine/Collective.lean ====
section
/-! DEFINITION. Running a collective operation (files 06, 07, 08): launch, chunks, waves and grants, contributions, expert
routing, the results a station sends. -/

namespace Sys2Proof.Machine

open Sys2Proof

/-! ## Launch: path, planes, chunk size (08 R216 to R221, R228, R229) -/

/-- What launch decides: run with these numbers, end quietly, or end with a code. -/
inductive LaunchPlan where
  | run (latency : Bool) (np pj ec nc wave : Nat)
  | unused
  | fail (code : Nat)
  deriving DecidableEq, Repr

/-- The bytes of one rank's input (08 R217). -/
def messageBytes (d : List Word) : Nat := fmtBytes (opIn d) (opCount d)

/-- The starting chunk size (08 R220). -/
def startEc (it : Nat) : Nat :=
  if it = 4 then 512 else if it = 1 ∨ it = 0x11 then 1024 else if it = 2 ∨ it = 3 then 2048 else 4096

/-- Bytes × 32 of one element of a format. -/
def ib32 (it : Nat) : Nat := if fmtMx it then 4 * fmtBits it + 1 else 4 * fmtBits it

/-- L_e × 32 (08 R220). -/
def le32 (d : List Word) (nrank : Nat) : Nat :=
  let it := opIn d
  let pb := if opRed d ≥ 3 then ib32 it else if it = 4 then 8 * 32 else 40 * 32
  if opCode d ≤ 2 then min nrank 129 * ib32 it + 3 * pb
  else if opCode d = 3 then 2 * nrank * ib32 it
  else 3 * ib32 it

/-- Halve the chunk size until it fits a cistern; none when 32 elements do not. The fuel bounds the halvings. -/
def fitEc (le : Nat) : Nat → Nat → Option Nat
  | 0, _ => none
  | n + 1, ec =>
    if ec * le ≤ 1048576 * 32 then some ec
    else if ec ≤ 32 then none
    else fitEc le n (ec / 2)

/-- The chunk size of the latency path before its cap: the least power of two of 08 R221. -/
def latencyEc (count : Nat) : Nat → Nat → Nat
  | 0, e => e
  | n + 1, e => if e * 32 ≥ count then e else latencyEc count n (2 * e)

/-- The blocks of a token that plane `j` of `p` carries (08 R229). -/
def planeBlocks (hb p j : Nat) : Nat := if p = 0 then 0 else (hb + p - 1 - j) / p

/-- Bytes of a plane's slice of a token in a format. -/
def sliceBytes (f blocks : Nat) : Nat := fmtBytes f (32 * blocks)

/-- Tokens per data chunk of a DISPATCH (08 R231). -/
def tokensPer (f blocks : Nat) : Nat := max 1 (4096 / max 1 (sliceBytes f blocks))

def launchPlan (s : State) (g : Nat) (d : List Word) : LaunchPlan :=
  let planes := planesOf (planeSet s g)
  let np := planes.length
  let pj := planes.findIdx (· == s.plane)
  let mine := planes.contains s.plane
  let nrank := s.rd F.GRP_ENT_NRANK g
  let n := opCount d
  let zero := n == 0 || opCode d == 5
  let lk := s.rd F.GRP_ENT_LAT_KIB g
  let path := bits (dW d 2) 29 2
  let wave := s.rd0 F.GRP_ALG_CFG_WAVE
  match effHome s g with
  | none => .fail 5
  | some home =>
    let lat := zero || (!isRoute d && (path == 1 || (path == 0 && lk != 0 && decide (messageBytes d ≤ lk * 1024))))
    if !lat && wave == 0 then .fail 8
    else if zero then (if home = s.plane then .run true 1 0 0 1 1 else .unused)
    else if isRoute d then
      let bl := planeBlocks (opHB d) np pj
      if !mine || bl == 0 then .unused
      else
        let nc := if opCode d = 6 then
            (if opT d = 0 then 0 else if opCap d = 0 then 1 else 1 + (opT d + tokensPer (opIn d) bl - 1) / tokensPer (opIn d) bl)
          else (nrank * opT d + 7) / 8
        .run false np pj (32 * bl) nc wave
    else
      match fitEc (le32 d nrank) 16 (startEc (opIn d)) with
      | none => .fail 8
      | some ec =>
        if lat then
          let el := min ec (latencyEc n 24 256)
          let nc := (n + el - 1) / el
          if home = s.plane then .run true 1 0 el nc nc else .unused
        else
          let all := (n + ec - 1) / ec
          if !mine || decide (pj ≥ all) then .unused else .run false np pj ec ((all + np - 1 - pj) / np) wave

/-- First element and number of elements of a local chunk (08 R221). -/
def chunkSpan (o : GrpOp) (idx : Nat) : Nat × Nat :=
  let first := (idx * o.np + o.pj) * o.ec
  (first, min o.ec (opCount o.d - first))

/-! ## Formats on the links -/

/-- An operation that runs as a barrier: COUNT 0, or OP 5 (06 R183). -/
def isBarrier (d : List Word) : Bool := opCount d == 0 || opCode d == 5

/-- Partials travel in XP format (07 R205). -/
def usesXp (d : List Word) : Bool := opCode d ≤ 2 && opRed d ≤ 2 && opIn d != 4

/-- Bytes that room for `n` elements of a partial takes (07 R206). -/
def partialBytes (d : List Word) (n : Nat) : Nat := if usesXp d then 40 * n else fmtBytes (opIn d) n

/-- The format of final results. -/
def finalFmt (d : List Word) : Nat := if opCode d ≤ 2 then opOut d else opIn d

def isTwoStage (s : State) (g : Nat) : Bool := s.flag F.GRP_ENT_ROW_ST g && s.flag F.GRP_ENT_COL_ST g
def isStaged (s : State) (g : Nat) : Bool := s.flag F.GRP_ENT_ROW_ST g || s.flag F.GRP_ENT_COL_ST g

/-- This spine is a row spine that passes a partial on (08 R224). -/
def midSpine (s : State) (g : Nat) : Bool := s.isSpine && s.line < 8 && isTwoStage s g

/-- The link on which the final result reaches a rack station. -/
def lastUp (s : State) (g : Nat) : GLink := if s.flag F.GRP_ENT_COL_ST g then .colUp else .rowUp

/-- The 8-byte stage header (07 R205, 08 R225). -/
def stageHdr (first : Nat) : List Byte := leBytes 8 (first * 2 ^ 32)

/-- Native packets of a run of elements, first element `first` (08 R225): whole elements or tiles, a short last tile where it
fits. The fuel bounds the packets. -/
def nativeRuns (f : Nat) : Nat → Nat → List Byte → List (List Byte)
  | 0, _, _ => []
  | fuel + 1, first, bs =>
    let unit := if fmtMx f then 32 * (1 + 4 * fmtBits f) else fmtBits f / 8
    let per := if bs.length ≤ 4088 then 4088 else 4088 / unit * unit
    if bs.isEmpty then []
    else (stageHdr first ++ bs.take per) :: nativeRuns f fuel (first + elemsIn f per) (bs.drop per)

def nativePackets (f first : Nat) (bs : List Byte) : List (List Byte) := nativeRuns f (bs.length / 2000 + 1) first bs

/-- The fields of a staged payload: FIRST, WIDTH, BASE, body. -/
structure StagePart where
  first : Nat
  width : Nat
  base : Nat
  body : List Byte
  deriving DecidableEq, Repr

def stagePart (p : List Byte) : StagePart :=
  let h := leNat (p.take 8)
  ⟨h / 2 ^ 32, bits h 9 2, bits h 0 9, p.drop 8⟩

/-- Elements in staged payloads. -/
def stageElems (xp : Bool) (f : Nat) (ps : List (List Byte)) : Nat :=
  (ps.map fun p =>
    let q := stagePart p
    if xp then q.body.length / xpBytes q.width else elemsIn f q.body.length).foldl (· + ·) 0

/-- Bytes of staged native payloads in element order. -/
def stageJoin (ps : List (List Byte)) : List Byte :=
  (sortBy (fun a b => decide (a.first ≤ b.first)) (ps.map stagePart)).flatMap (·.body)

/-- Accumulators of staged XP payloads in element order. -/
def stageAccs (ps : List (List Byte)) : List Acc :=
  (sortBy (fun a b => decide (a.first ≤ b.first)) (ps.map stagePart)).flatMap fun q =>
    (runsOf (xpBytes q.width) (q.body.length + 1) q.body).map (xpDecode q.width q.base)

/-- An XP partial with a reserved encoding: WIDTH 3, a BASE above 316 or beside XP40, or an element of a CLASS above 4 (07 R205).
It is refused whole (R17); no count is given for it (DESIGN CHOICE, log 97). -/
def xpReserved (p : List Byte) : Bool :=
  let q := stagePart p
  q.width == 3 || decide (q.base > 316) || (q.width == 2 && q.base != 0) || (stageAccs [p]).any fun a => decide (a.cls > 4)

/-! ## What each link contributes (08 R223, R229, R231, R234) -/

/-- The member link of a rank. -/
def linkOfRank (o : GrpOp) (r : Nat) : Option GLink := (o.ranks.find? (·.1 == r)).map (·.2)

/-- The rank of a member link. -/
def rankOfLink (o : GrpOp) (l : GLink) : Nat := ((o.ranks.find? (·.2 == l)).map (·.1)).getD 0

/-- The tokens (source rank, token) of a COMBINE chunk. -/
def combineTokens (d : List Word) (nrank idx : Nat) : List (Nat × Nat) :=
  let t := opT d
  ((List.range 8).map (8 * idx + ·)).filter (· < nrank * t) |>.map fun k => (k / max 1 t, k % max 1 t)

/-- The admitted entries of some tokens. -/
def admittedOf (r : RouteRec) (toks : List (Nat × Nat)) : List RouteEnt :=
  r.ents.filter fun e => e.slot.isSome && toks.contains (e.src, e.tok)

/-- The tokens of a DISPATCH data chunk (08 R231): first and how many. -/
def dispatchTokens (o : GrpOp) (idx : Nat) : Nat × Nat :=
  let m := tokensPer (opIn o.d) (o.ec / 32)
  let f := (idx - 1) * m
  (f, min m (opT o.d - f))

/-- Whether the member's packets for the chunk are asked for, and the bytes. -/
def memberWant (s : State) (g : Nat) (o : GrpOp) (route : Option RouteRec) (idx : Nat) (rank : Nat) : Option Nat :=
  let d := o.d
  let n := (chunkSpan o idx).2
  if isBarrier d then some 0
  else match opCode d with
    | 4 => some (if rank = opRoot d then fmtBytes (opIn d) n else 0)
    | 6 =>
      if idx = 0 then some (opT d * opK d * 8)
      else some ((dispatchTokens o idx).2 * sliceBytes (opIn d) (o.ec / 32))
    | 7 =>
      match route with
      | none => none
      | some r =>
        let mine := (admittedOf r (combineTokens d (s.rd F.GRP_ENT_NRANK g) idx)).filter fun e =>
          e.expert.any fun x => x / 2 ^ opXPRL d == rank
        if mine.isEmpty then none else some (mine.length * sliceBytes (opIn d) (o.ec / 32))
    | _ => some (fmtBytes (opIn d) n)

/-- The ranks of a group in one row: NCOL × NSLOT where CREATE_SHAPE made it (06 R158); else the entry does not say (log 23). -/
def rowRanks (s : State) (g : Nat) : Nat :=
  match (getGrp s g).shaped with
  | some (ncol, nslot) => ncol * nslot
  | none => Config.rowRanks g

/-- The ranks below child `k` of a spine: a rack's NSLOT at a row spine, a row's at a column spine, where CREATE_SHAPE made the
group; else the entry does not say (log 23). -/
def childRanks (s : State) (g k : Nat) : Nat :=
  match (getGrp s g).shaped with
  | some (ncol, nslot) => if s.line < 8 then nslot else ncol * nslot
  | none => Config.childRanks g k

/-- The ranks that the children of a spine cover together: all of the group, but at a row spine that passes a partial on those
of its row. -/
def coveredRanks (s : State) (g : Nat) : Nat := if midSpine s g then rowRanks s g else s.rd F.GRP_ENT_NRANK g

/-- Contributors of a chunk with the bytes granted to each. -/
def chunkWant (s : State) (g : Nat) (o : GrpOp) (idx : Nat) : List (GLink × Nat) :=
  let n := (chunkSpan o idx).2
  if s.isSpine then
    o.ranks.map fun e => (e.2, if opCode o.d = 3 then childRanks s g e.1 * fmtBytes (opIn o.d) n else partialBytes o.d n)
  else o.ranks.filterMap fun e => (memberWant s g o (getGrp s g).route idx e.1).map fun b => (e.2, b)

/-- Cistern lines of a chunk (07 R188). In an ALL_GATHER a spine grants each child the pieces of its ranks, together those of
`coveredRanks`; a rack of two stages receives its row's pieces and then all. -/
def chunkLines (s : State) (g : Nat) (o : GrpOp) (idx : Nat) (want : List (GLink × Nat)) : Nat :=
  let d := o.d
  let n := (chunkSpan o idx).2
  let nrank := s.rd F.GRP_ENT_NRANK g
  let fin := if opCode d = 3 then nrank * fmtBytes (opIn d) n else fmtBytes (finalFmt d) n
  let mid := if opCode d = 3 then rowRanks s g * fmtBytes (opIn d) n else partialBytes d n
  let members := (want.map (·.2)).foldl (· + ·) 0
  let ups := if s.isSpine ∨ isStaged s g = false then 0 else if isTwoStage s g then mid + fin else fin
  let inB := if s.isSpine ∧ opCode d = 3 then coveredRanks s g * fmtBytes (opIn d) n else members + ups
  let outB := if !sweeps d then 0
    else if opCode d = 7 then (combineTokens d nrank idx).length * sliceBytes (opOut d) (o.ec / 32)
    else if (!s.isSpine && isStaged s g) || midSpine s g then partialBytes d n
    else fmtBytes (opOut d) n
  (inB + 1023) / 1024 + (outB + 1023) / 1024

/-! ## Results (08 R223, R226) -/

/-- One result to send: links, bytes, RANK, KIND, the place in the host member's output: its first element and how many the
output buffer holds. -/
structure ResItem where
  links : List GLink
  data : List Byte
  rank : Nat
  kind : Nat
  hostOff : Option (Nat × Nat)
  deriving DecidableEq, Repr

/-- Cut bytes into packets of at most 4,096 with whole elements or tiles. The fuel bounds the packets. -/
def cutPackets (f : Nat) : Nat → Option (Nat × Nat) → List Byte → List (List Byte × Option (Nat × Nat))
  | 0, _, _ => []
  | fuel + 1, off, bs =>
    let unit := if fmtMx f then 32 * (1 + 4 * fmtBits f) else max 1 (fmtBits f / 8)
    let per := if bs.length ≤ 4096 then 4096 else 4096 / unit * unit
    if bs.isEmpty then []
    else (bs.take per, off) :: cutPackets f fuel (off.map fun e => (e.1 + elemsIn f per, e.2)) (bs.drop per)

def cutItem (f : Nat) (it : ResItem) : List ResItem :=
  if it.data.isEmpty then [it]
  else (cutPackets f (it.data.length / 3000 + 1) it.hostOff it.data).map fun p => { it with data := p.1, hostOff := p.2 }

/-- Local chunks whose results have been made. -/
def producedCount (o : GrpOp) : Nat := o.done.length + (o.chunks.filter fun c => c.stage == 4).length

/-- A chunk's results are made: they go out. With the last chunk each member's last RESULT carries LAST and the flags of the whole
operation; a member for which that chunk holds nothing gets one of LEN 0 (08 R223, R226). No member has LAST before the operation
is made, since an abort may still come (06 R182; DEDUCED, log 108). -/
def sendResults (s : State) (g idx flags : Nat) (items : List ResItem) : State :=
  match (getGrp s g).op with
  | none => s
  | some o0 =>
    let o : GrpOp := { o0 with
      flags := Nat.lor o0.flags flags
      chunks := o0.chunks.map fun c => if c.idx = idx then { c with stage := 4, flags := Nat.lor c.flags flags } else c }
    let chunkFl := ((o.chunks.find? (·.idx == idx)).map (·.flags)).getD 0
    let final := decide (producedCount o ≥ o.nc)
    let n := items.length
    let lastIdx := fun l => (List.range n).foldl (fun (b : Option Nat) i =>
      if ((items.getD i ⟨[], [], 0, 0, none⟩).links.contains l) then some i else b) none
    let mk := fun (it : ResItem) (last : Bool) (ls : List GLink) =>
      let fl := if last then o.flags else chunkFl
      let opw2 := b2n last * 2 ^ 31 + fl * 2 ^ 28 + it.kind * 2 ^ 26 + it.rank * 2 ^ 13
      (⟨mkHdr 0x13 0 2 s.selfEid it.data.length o.ep o.seq (dW o.d 1) idx opw2, it.data, ls, it.hostOff⟩ : OutPkt)
    let body := (List.range n).flatMap fun i =>
      let it := items.getD i ⟨[], [], 0, 0, none⟩
      let isLast := fun l => final && lastIdx l == some i
      let a := it.links.filter (!isLast ·)
      let b := it.links.filter isLast
      (if a.isEmpty then [] else [mk it false a]) ++ (if b.isEmpty then [] else [mk it true b])
    let none_ := if final && !s.isSpine then (o.ranks.map (·.2)).filter fun l => (lastIdx l).isNone else []
    let out := if none_.isEmpty then body else body ++ [mk ⟨none_, [], 0, 0, none⟩ true none_]
    let due := ((List.range out.length).zip out).flatMap fun e => e.2.links.map fun l => (e.1, linkNum l)
    let s1 := modGrp s g fun x => { x with op := some { o with
      chunks := o.chunks.map fun c => if c.idx = idx then { c with out := out, due := due } else c } }
    let s2 := ((List.range out.length).zip out).foldl (fun s e =>
      sendLinks s e.2.hdr e.2.data e.2.links (some ⟨g, o.seq, idx, e.1⟩)) s1
    settleGroup s2 g

/-- The member results of a chunk whose final data this rack station holds: bytes in the final format, or for ALL_GATHER
the pieces in rank order. The pieces of an ALL_GATHER stand in the host member's output one after the other (DEDUCED, log 95). -/
def memberResults (s : State) (g : Nat) (o : GrpOp) (c : Chunk) (flags : Nat) (data : List Byte) : State :=
  let d := o.d
  let f := finalFmt d
  let ls := o.ranks.map (·.2)
  let nrank := max 1 (s.rd F.GRP_ENT_NRANK g)
  let off := some (c.first, opCount d)
  let items : List ResItem :=
    if isBarrier d then [⟨ls, [], 0, 0, off⟩]
    else match opCode d with
      | 1 => match linkOfRank o (opRoot d) with
        | some l => [⟨[l], data, 0, 0, off⟩]
        | none => []
      | 2 =>
        let k := opCount d / nrank
        let es := unpackElems f c.elems data
        o.ranks.filterMap fun e =>
          let lo := max c.first (e.1 * k)
          let hi := min (c.first + c.elems) ((e.1 + 1) * k)
          if lo < hi then
            some ⟨[e.2], packElems f ((es.drop (lo - c.first)).take (hi - lo)), 0, 0, some (lo - e.1 * k, k)⟩
          else none
      | 3 => (List.range nrank).map fun r =>
          let b := fmtBytes f c.elems
          ⟨ls, (data.drop (r * b)).take b, r, 0, some (r * opCount d + c.first, nrank * opCount d)⟩
      | _ => [⟨ls, data, 0, 0, off⟩]
  sendResults s g c.idx flags (items.flatMap (cutItem f))

/-- A spine's results to every child, as staged payloads (08 R224). -/
def spineResults (s : State) (g : Nat) (o : GrpOp) (c : Chunk) (flags kind : Nat) (payloads : List (List Byte)) : State :=
  let ls := o.ranks.map (·.2)
  let nrank := max 1 (s.rd F.GRP_ENT_NRANK g)
  let rankOf := fun (p : List Byte) => if opCode o.d = 3 ∧ o.ec ≠ 0 then min (nrank - 1) ((stagePart p).first / o.ec) else 0
  sendResults s g c.idx flags (payloads.map fun p => ⟨ls, p, rankOf p, kind, none⟩)

/-! ## Partials that go up (08 R224) -/

/-- Send a chunk's partial, or the row partial it received, on the next up link once that link has granted the wave. -/
def trySendUp (s : State) (g idx : Nat) : State :=
  match (getGrp s g).op with
  | none => s
  | some o =>
    match o.chunks.find? (·.idx == idx) with
    | none => s
    | some c =>
      let ups := groupUps s g
      let next : Option GLink :=
        if c.stage = 3 then ups.head?
        else if c.stage = 5 then some .colUp else none
      match next with
      | none => s
      | some l =>
        if c.sentUp.contains l || !(o.upGot.contains (l, idx / max 1 o.wave)) then s
        else
          let sigc := sigcOf (signatureOf o.d o.ep)
          let s1 := c.partialUp.foldl (fun s p =>
            sendLinks s (mkHdr 0x12 0 1 s.selfEid p.length o.ep o.seq (dW o.d 1) idx sigc) p [l]) s
          modChunk s1 g idx fun c => { c with sentUp := c.sentUp ++ [l] }

/-- A rack station's own partial of a chunk is made. -/
def partialMade (s : State) (g idx : Nat) (payloads : List (List Byte)) : State :=
  trySendUp (modChunk s g idx fun c => { c with stage := 3, partialUp := payloads }) g idx

/-! ## Contributions that are in -/

def gotOf (c : Chunk) (l : GLink) : List (List Byte) := ((c.got.find? (·.1 == l)).map (·.2)).getD []

/-- One contributor's packets are all in. -/
def linkComplete (s : State) (o : GrpOp) (c : Chunk) (l : GLink) (bytes : Nat) : Bool :=
  let ps := gotOf c l
  if s.isSpine then
    let el := stageElems (usesXp o.d) (opIn o.d) ps
    !ps.isEmpty && (if opCode o.d = 3 ∧ c.elems ≠ 0 then true
      else decide (el ≥ c.elems) || ps.any (·.length == 8))
  else if opCode o.d = 7 ∧ isBarrier o.d = false then decide ((ps.map fun p => p.length - 8).foldl (· + ·) 0 ≥ bytes)
  else !ps.isEmpty && decide ((ps.map (·.length)).foldl (· + ·) 0 ≥ bytes)

/-- Every granted contribution of a chunk has arrived (07 R189). ALL_GATHER at a spine counts the pieces (log 23). -/
def chunkComplete (s : State) (g : Nat) (o : GrpOp) (c : Chunk) : Bool :=
  c.want.all (fun w => linkComplete s o c w.1 w.2)
  && (!(s.isSpine && opCode o.d == 3 && c.elems != 0)
    || decide (stageElems false (opIn o.d) (c.got.flatMap (·.2))
        ≥ coveredRanks s g * c.elems))

/-! ## Expert routing (08 R229 to R233) -/

/-- The entries of one member's route contribution. -/
def routeEntries (rank k limit : Nat) (bs : List Byte) : Nat → Nat → List RouteEnt
  | 0, _ => []
  | n + 1, i =>
    let v := leNat ((bs.drop (8 * i)).take 8)
    let x := v % 65536
    ⟨rank, i / max 1 k, i % max 1 k, v / 2 ^ 32, if x < limit then some x else none, none⟩
      :: routeEntries rank k limit bs n (i + 1)

/-- A second entry of one token for one expert counts as no expert. -/
def dropTwice : List RouteEnt → List RouteEnt → List RouteEnt
  | _, [] => []
  | seen, e :: r =>
    let dup := e.expert.isSome && seen.any fun x => x.src == e.src && x.tok == e.tok && x.expert == e.expert
    let e1 := if dup then { e with expert := none } else e
    e1 :: dropTwice (e1 :: seen.filter fun x => x.src == e.src && x.tok == e.tok) r

/-- Admission in canonical order: the first CAP entries of each expert get slots 0, 1, … (08 R230). `m` counts the
admitted so far by expert. -/
def admitEnts (cap : Nat) : List (Nat × Nat) → List RouteEnt → List RouteEnt
  | _, [] => []
  | m, e :: r =>
    match e.expert with
    | none => e :: admitEnts cap m r
    | some x =>
      let k := mgetD m x 0
      if k < cap then { e with slot := some k } :: admitEnts cap (mput m x (k + 1)) r else e :: admitEnts cap m r

/-- The route record of a complete route chunk. -/
def makeRoute (s : State) (g : Nat) (o : GrpOp) (c : Chunk) : RouteRec :=
  let limit := s.rd F.GRP_ENT_NRANK g * 2 ^ opXPRL o.d
  let ents := o.ranks.flatMap fun e =>
    routeEntries e.1 (opK o.d) limit ((gotOf c e.2).flatMap id) (opT o.d * opK o.d) 0
  ⟨o.seq, opCount o.d, opCap o.d, admitEnts (opCap o.d) [] (dropTwice [] ents), c.pump, c.lines⟩

/-- The token header (08 R231). -/
def tokenHdr (boff tok src lx slot : Nat) : List Byte :=
  leBytes 8 (boff * 2 ^ 49 + tok * 2 ^ 37 + src * 2 ^ 24 + lx * 2 ^ 16 + slot)

/-- The packets of one slice: token header and whole blocks. The fuel bounds the packets. -/
def slicePackets (f tok src lx slot : Nat) : Nat → Nat → List RawElem → List (List Byte)
  | 0, _, _ => []
  | fuel + 1, boff, es =>
    let per := 4088 / max 1 (fmtBytes f 32)
    if es.isEmpty then []
    else (tokenHdr boff tok src lx slot ++ packElems f (es.take (32 * per)))
      :: slicePackets f tok src lx slot fuel (boff + per) (es.drop (32 * per))

/-- The count record of a member after a DISPATCH (08 R233). -/
def dispatchRecord (o : GrpOp) (r : Option RouteRec) (rank : Nat) : List Byte :=
  let nx := 2 ^ opXPRL o.d
  let es := (r.map (·.ents)).getD []
  let per := fun x =>
    let mine := es.filter fun e => e.expert == some (rank * nx + x)
    let ok := (mine.filter (·.slot.isSome)).length
    leBytes 4 (min 65535 (mine.length - ok) * 65536 + ok)
  (List.range nx).flatMap per ++ leBytes 4 ((es.filter fun e => e.src == rank && e.slot.isNone).length)

/-- The count record of a member after a COMBINE (08 R235): its tokens with no admitted expert. -/
def combineRecord (o : GrpOp) (r : Option RouteRec) (rank : Nat) : List Byte :=
  let es := (r.map (·.ents)).getD []
  leBytes 4 (((List.range (opT o.d)).filter fun t => !(es.any fun e => e.src == rank && e.tok == t && e.slot.isSome)).length)

/-- The count records that end a DISPATCH or a COMBINE, when this chunk is the last to be made. -/
def recordItems (s : State) (g : Nat) (o : GrpOp) (idx : Nat) : List ResItem :=
  let made := o.done.length + (o.chunks.filter fun c => c.stage == 4 && c.idx != idx).length + 1
  if made < o.nc then []
  else
    let r := (getGrp s g).route
    o.ranks.map fun e =>
      ⟨[e.2], if opCode o.d = 6 then dispatchRecord o r e.1 else combineRecord o r e.1, 0, 3, none⟩

/-- The deliveries of a DISPATCH data chunk (08 R231). -/
def dispatchItems (o : GrpOp) (r : RouteRec) (c : Chunk) : List ResItem :=
  let f := opIn o.d
  let bl := o.ec / 32
  let sz := sliceBytes f bl
  let (t0, m) := dispatchTokens o c.idx
  (r.ents.filter fun e => e.slot.isSome && decide (t0 ≤ e.tok) && decide (e.tok < t0 + m)).flatMap fun e =>
    let x := e.expert.getD 0
    match linkOfRank o (x / 2 ^ opXPRL o.d), linkOfRank o e.src with
    | some dst, some src =>
      let bytes := (((gotOf c src).flatMap id).drop ((e.tok - t0) * sz)).take sz
      (slicePackets f e.tok e.src (x % 2 ^ opXPRL o.d) (e.slot.getD 0) (bl + 1) 0 (unpackElems f o.ec bytes)).map fun p =>
        ⟨[dst], p, 0, 2, none⟩
    | _, _ => []

/-! ## A chunk is full -/

/-- A full chunk of an operation that does not sweep sends its results, or its partial up (08 R223, R224). -/
def chunkPlain (s : State) (g : Nat) (o : GrpOp) (c : Chunk) : State :=
  let f := opIn o.d
  let zero := isBarrier o.d
  if s.isSpine then
    let parts := c.got.flatMap (·.2)
    let full := if zero then [] else parts.filter (·.length > 8)
    let pay := if full.isEmpty then [stageHdr 0] else full
    spineResults s g o c 0 (if midSpine s g then 1 else 0) pay
  else if isStaged s g then
    let pay := if zero then []
      else if opCode o.d = 3 then o.ranks.flatMap fun e => nativePackets f (e.1 * o.ec) ((gotOf c e.2).flatMap id)
      else match linkOfRank o (opRoot o.d) with
        | some l => nativePackets f 0 ((gotOf c l).flatMap id)
        | none => []
    partialMade s g c.idx (if pay.isEmpty then [stageHdr 0] else pay)
  else
    let data := if zero then []
      else if opCode o.d = 3 then o.ranks.flatMap fun e => ((gotOf c e.2).flatMap id).take (fmtBytes f c.elems)
      else match linkOfRank o (opRoot o.d) with
        | some l => (gotOf c l).flatMap id
        | none => []
    memberResults s g o c 0 data

/-- Full data chunks of a DISPATCH wait for the route (08 R230, R231). -/
def dispatchFull (s : State) (g idx : Nat) : State :=
  match (getGrp s g).op, (getGrp s g).route with
  | some o, some r =>
    if r.seq ≠ o.seq then s
    else match o.chunks.find? fun c => c.idx == idx && c.stage == 1 with
      | some c => sendResults s g idx 0 (dispatchItems o r c ++ recordItems s g o idx)
      | none => s
  | _, _ => s

/-- The route chunk is complete: admission, the drops counted, the record kept; then the data chunks that waited. -/
def routeFull (s : State) (g : Nat) (o : GrpOp) (c : Chunk) : State :=
  let r := makeRoute s g o c
  let drops := (r.ents.filter (·.slot.isNone)).length
  let s1 := (modGrp s g fun x => { x with route := some r }).cntG g 13 drops
  let s2 := modChunk s1 g c.idx fun c => { c with lines := 0 }
  let s3 := sendResults s2 g c.idx 0 (recordItems s2 g o c.idx)
  ((o.chunks.filter fun c => c.stage == 1).map (·.idx)).foldl (fun s i => dispatchFull s g i) s3

/-- A contribution has come: a chunk that is now complete restarts the progress timer (06 R174) and goes on. -/
def chunkArrived (s : State) (g idx : Nat) : State :=
  match (getGrp s g).op with
  | none => s
  | some o =>
    match o.chunks.find? fun c => c.idx == idx && c.stage == 0 with
    | none => s
    | some c =>
      if !chunkComplete s g o c then s
      else
        let s1 := modGrp (modChunk s g idx fun c => { c with stage := 1 }) g fun x => { x with timer := some s.now }
        if sweeps o.d then s1
        else if opCode o.d = 6 ∧ opCount o.d ≠ 0 then (if idx = 0 then routeFull s1 g o c else dispatchFull s1 g idx)
        else chunkPlain s1 g o c

/-- CONTRIB, DISPATCH or EXPERT_OUT at the station (06 R165, R172). -/
def contribution (s0 : State) (p : StPkt) : State :=
  let g := p.hdr.gid
  let seq := p.hdr.seq
  let s := takeStation s0 p
  let l := linkCode s p.arr
  let idx := p.hdr.opw1
  if collectiveReason s p.hdr p.arr ≠ 0 then stDiscard s p 0x1D
  else if seqEnded s g seq then stDiscard s p 0x1E
  else
    match (getGrp s g).op with
    | none => stDiscard s p 0x1F
    | some o =>
      match if o.seq = seq then o.chunks.find? fun c => c.idx == idx && c.stage == 0 else none with
      | none => stDiscard s p 0x1F
      | some c =>
        match c.want.find? (·.1 == l) with
        | none => stDiscard s p 0x1F
        | some w =>
          if !(gotOf c l).isEmpty && linkComplete s o c l w.2 && !(s.isSpine && opCode o.d == 3) then stDiscard s p 0x1F
          else if s.isSpine && usesXp o.d && !isBarrier o.d && xpReserved p.data then s
          else if p.hdr.opw0 ≠ dW o.d 1 ∨ p.hdr.opw2 ≠ sigcOf (signatureOf o.d o.ep) then
            settleGroups (raiseAbort s g seq 2)
          else
            let s1 := modChunk s g idx fun c => { c with
              got := c.got.filter (·.1 != l) ++ [(l, gotOf c l ++ [p.data])] }
            chunkArrived (s1.cntG g 10 p.hdr.len) g idx

/-! ## Grants (06 R171, R173; 08 R222) -/

/-- A wave's GRANT_REQ to an up link, with room for its result held (06 R173). -/
def askUp (s : State) (g : Nat) (l : GLink) (w : Nat) : State :=
  match (getGrp s g).op with
  | none => s
  | some o =>
    if o.upReq.contains (l, w) || (w != 0 && !(o.upGot.contains (l, w - 1))) || decide (w ≥ o.nextWave) then s
    else
      let sig := signatureOf o.d o.ep
      let s1 := sendLinks s (mkHdr 0x10 0 1 s.selfEid 24 o.ep o.seq (dW o.d 1) (w * o.wave) 0) sig [l]
      modOp s1 g fun o => { o with upReq := o.upReq ++ [(l, w)] }

/-- A received GRANT_REQ (06 R165, R171; 08 R222). One that names another wave than the next raises code 0x02, also one past
the last chunk. One with a reserved encoding in its signature, or whose OPW0 is not the signature's D1, is refused whole (00 R17):
it takes no slot and raises code 0x02 as a DOORBELL does (06 R168; DEDUCED, log 109). -/
def grantReq (s0 : State) (p : StPkt) : State :=
  let g := p.hdr.gid
  let seq := p.hdr.seq
  let s := takeStation s0 p
  let l := linkCode s p.arr
  let x := getGrp s g
  if collectiveReason s p.hdr p.arr ≠ 0 then stDiscard s p 0x1D
  else if x.reqs.any (·.link == l) then stDiscard s p 0x1B
  else if seqEnded s g seq then stDiscard s p 0x1E
  else
    let sig := p.data.take 24
    let ep := s.rd F.GRP_ENT_GEPOCH g
    if p.hdr.len ≠ 24 ∨ p.hdr.opw0 ≠ dW (descOfSig sig) 1 ∨ descReserved s g (descOfSig sig) false = true then
      settleGroups (raiseAbort s g seq 2)
    else
    let s1 := modGrp (noteFirst s g seq) g fun x =>
      { x with reqs := x.reqs ++ [⟨l, seq, p.hdr.opw1, p.hdr.opw0, sig, s.now⟩] }
    let own : Option (List Byte) :=
      match x.op with
      | some o => if o.seq = seq then some (signatureOf o.d o.ep)
        else (x.queue.find? (·.seq == seq)).map fun q => signatureOf q.desc ep
      | none =>
        if s.isSpine then (x.reqs.find? (·.seq == seq)).map (·.sig)
        else (x.queue.find? (·.seq == seq)).map fun q => signatureOf q.desc ep
    let wrongWave := match x.op with
      | some o => o.seq == seq && (p.hdr.opw1 != o.nextWave * o.wave || decide (o.nextWave * o.wave ≥ max 1 o.nc))
      | none => false
    if (own.any (· != sig)) || wrongWave then settleGroups (raiseAbort s1 g seq 2) else s1

/-- The next wave of a group's operation has been asked for by every link and may be granted under the two-wave rule. -/
def waveReady (s : State) (g : Nat) : Bool :=
  match (getGrp s g).op with
  | none => false
  | some o =>
    let w := o.nextWave
    let first := w * o.wave
    let prev := (List.range o.wave).map fun i => (w - 2) * o.wave + i
    decide (first < o.nc) && (decide (w < 2) || prev.all o.done.contains)
      && (o.ranks.all fun e => e.2 == .host || (getGrp s g).reqs.any fun r => r.link == e.2 && r.seq == o.seq && r.chunk == first)

/-- Lines that a group holds. -/
def heldLines (s : State) (g : Nat) : Nat :=
  let x := getGrp s g
  (((x.op.map (·.chunks)).getD []).map (·.lines)).foldl (· + ·) 0 + ((x.route.map (·.lines)).getD 0)

/-- Cistern space outside the active timetable's other groups, in lines. -/
def openSpace (s : State) (g : Nat) : Nat :=
  let b := s.rd0 F.TIM_TT_STAT_ACTIVE
  let other := if s.rd F.TIM_TT_PER_PERIOD b = 0 then [] else (ttGroupsOf s b).filter (·.gid != g)
  activePumps s * 1024 - (other.map (·.cist)).foldl (· + ·) 0

/-- The pump for a chunk: ACTIVE, not under test, with room, the most free lines, the lowest number on a tie (07 R188). -/
def pickPump (s : State) (lines : Nat) : Option Nat :=
  (List.range 168).foldl (fun (b : Option Nat) n =>
    let free := s.rd F.PMP_CIST_FREE n
    if pumpState s n = 0 ∧ s.flag F.PMP_TEST_BUSY n = false ∧ lines ≤ free ∧ decide (n < 168) = true then
      match b with
      | none => some n
      | some m => if s.rd F.PMP_CIST_FREE m < free then some n else b
    else b) none

/-- Place chunks one by one, or none of them. -/
def placeChunks (s : State) : List Chunk → Option (List Chunk × State)
  | [] => some ([], s)
  | c :: cs =>
    if c.lines = 0 then (placeChunks s cs).map fun r => (c :: r.1, r.2)
    else match pickPump s c.lines with
      | none => none
      | some n =>
        (placeChunks (s.wr F.PMP_CIST_FREE n (s.rd F.PMP_CIST_FREE n - c.lines)) cs).map fun r =>
          ({ c with pump := n, sweeper := n } :: r.1, r.2)

/-- A chunk with nothing in it yet. -/
def newChunk (i : Nat) : Chunk :=
  { idx := i
    pump := 0
    lines := 0
    first := 0
    elems := 0
    want := []
    got := []
    stage := 0
    sweeper := 0
    retried := false
    failedOn := []
    partialUp := []
    down := []
    sentUp := []
    out := []
    due := []
    flags := 0 }

/-- Hand the host member's data, as host memory answered it, to the chunks of a wave in order (12 R346). A COMBINE slice
gets the token header that names its expert and slot. -/
def hostPieces (s : State) (g : Nat) (o : GrpOp) (c : Chunk) (bs : List Byte) : List (List Byte) :=
  if isBarrier o.d then [[]]
  else if opCode o.d = 7 then
    let sz := sliceBytes (opIn o.d) (o.ec / 32)
    let rank := rankOfLink o .host
    let es := match (getGrp s g).route with
      | some r => (admittedOf r (combineTokens o.d (s.rd F.GRP_ENT_NRANK g) c.idx)).filter fun e =>
          e.expert.any fun x => x / 2 ^ opXPRL o.d == rank
      | none => []
    ((List.range es.length).zip es).map fun e =>
      tokenHdr 0 0 0 (e.2.expert.getD 0 % 2 ^ opXPRL o.d) (e.2.slot.getD 0) ++ (bs.drop (e.1 * sz)).take sz
  else [bs]

/-- The same for the chunks of a wave in order. A chunk that asks no bytes of the host member, as in a barrier, needs no data. -/
def giveHost (s : State) (g : Nat) (o : GrpOp) : List Chunk → Option (List Byte) → List Chunk
  | [], _ => []
  | c :: cs, bs =>
    match c.want.find? (·.1 == .host), bs with
    | none, _ => c :: giveHost s g o cs bs
    | some w, some b =>
      { c with got := c.got ++ [(.host, hostPieces s g o c (b.take w.2))] } :: giveHost s g o cs (some (b.drop w.2))
    | some w, none =>
      (if w.2 = 0 then { c with got := c.got ++ [(.host, hostPieces s g o c [])] } else c) :: giveHost s g o cs none

/-- Payload bytes that a wave's chunks hold of the host member (17 R468). -/
def hostGiven (cs : List Chunk) : Nat :=
  (cs.map fun c => ((gotOf c .host).map (·.length)).foldl (· + ·) 0).foldl (· + ·) 0

/-- The chunks of the next wave of an operation, with the lines each needs. -/
def waveChunks (s : State) (g : Nat) (o : GrpOp) : List Chunk :=
  ((List.range o.wave).map (o.nextWave * o.wave + ·)).filter (· < o.nc) |>.map fun i =>
    let want := chunkWant s g o i
    let sp := chunkSpan o i
    let sp2 := if isRoute o.d ∨ opCount o.d = 0 then (0, 0) else sp
    { newChunk i with lines := chunkLines s g o i want, first := sp2.1, elems := sp2.2, want := want }

/-- The cistern lines that chunks need. -/
def waveLines (cs : List Chunk) : Nat := (cs.map (·.lines)).foldl (· + ·) 0

/-- A wave that can never be granted (06 R172): it needs more lines than the group may hold, or than the space open to it has. -/
def waveTooBig (s : State) (g : Nat) (cs : List Chunk) : Bool :=
  let cmax := s.rd F.GRP_ENT_CIST_MAX g
  (cmax != 0 && decide (waveLines cs > cmax)) || decide (waveLines cs > openSpace s g) || cs.any fun c => decide (c.lines > 1024)

/-- Where the chunks of a wave stand when they are given space now: none while their space is not free. -/
def waveSpace (s : State) (g : Nat) (cs : List Chunk) : Option (List Chunk × State) :=
  let cmax := s.rd F.GRP_ENT_CIST_MAX g
  if cmax ≠ 0 ∧ waveLines cs + heldLines s g > cmax then none else placeChunks s cs

/-- A complete wave request of a group waits for cistern space (17 R468 slot 15). -/
def waveWaits (s : State) (g : Nat) : Bool :=
  match (getGrp s g).op with
  | none => false
  | some o =>
    let cs := waveChunks s g o
    waveReady s g && !waveTooBig s g cs && (waveSpace s g cs).isNone

/-- Grant or refuse the next wave of a group; none while its space is not free. `hostData` is what host memory gave for
the host member, none when it could not be read. -/
def grantWave (s : State) (g : Nat) (hostData : Option (List Byte)) : Option State :=
  match (getGrp s g).op with
  | none => none
  | some o =>
    let w := o.nextWave
    let first := w * o.wave
    let chunks := waveChunks s g o
    let reqs := (getGrp s g).reqs.filter (·.seq == o.seq)
    let clear := fun s => modGrp s g fun x => { x with reqs := x.reqs.filter (·.seq != o.seq) }
    if waveTooBig s g chunks then
      let s1 := reqs.foldl (fun s r => sendGrant s g r.link 1 o.seq first 0) (clear s)
      some (raiseAbort s1 g o.seq 8)
    else if s.pumpHold.isSome then none
    else
      match waveSpace s g chunks with
      | none => none
      | some (placed, s1) =>
        let placed := giveHost s1 g o placed hostData
        let s2 := modOp ((clear s1).cntG g 10 (hostGiven placed)) g fun o => { o with nextWave := w + 1, chunks := o.chunks ++ placed }
        let s3 := reqs.foldl (fun s r =>
          let bytes := (placed.map fun c => ((c.want.find? (·.1 == r.link)).map (·.2)).getD 0).foldl (· + ·) 0
          sendGrant s g r.link 0 o.seq first bytes) s2
        let s4 := (groupUps s3 g).foldl (fun s l => askUp s g l w) s3
        some ((placed.map (·.idx)).foldl (fun s i => chunkArrived s g i) s4)

/-- The groups in the order that weighted round robin offers them (06 R171): the one served last while it has service
left, then by rising ID. -/
def grantOrder (s : State) : List Nat :=
  let gs := (s.grps.map (·.1)).filter (waveReady s)
  let (cur, left) := s.grpRr
  let head := if left = 0 then [] else gs.filter (· == cur)
  head ++ gs.filter (· > cur) ++ gs.filter (fun g => g < cur || (g == cur && left == 0))

/-- One turn of the grant arbiter. -/
def waveGrant (s : State) (hostData : Option (List Byte)) : State :=
  let r := (grantOrder s).foldl (fun (acc : Option State) g => match acc with
    | some t => some t
    | none => (grantWave s g hostData).map fun t =>
        let w := ((getGrp s g).op.map (·.weight)).getD 1
        { t with grpRr := if s.grpRr.1 = g ∧ s.grpRr.2 ≠ 0 then (g, s.grpRr.2 - 1) else (g, w - 1) }) none
  settleGroups (r.getD s)

/-- A GRANT from an up link (06 R173). A refusal is followed by the spine's own abort. -/
def grantReceive (s0 : State) (p : StPkt) : State :=
  let g := p.hdr.gid
  let s := takeStation s0 p
  let l := linkCode s p.arr
  let kind := p.hdr.opw0 / 2 ^ 30
  if collectiveReason s p.hdr p.arr ≠ 0 then stDiscard s p 0x1D
  else if seqEnded s g p.hdr.seq then stDiscard s p 0x1E
  else
    match (getGrp s g).op with
    | none => s
    | some o =>
      if o.seq ≠ p.hdr.seq ∨ kind ≠ 0 then s
      else
        let w := p.hdr.opw1 / max 1 o.wave
        if !(o.upReq.contains (l, w)) || o.upGot.contains (l, w) then s
        else
          let s1 := modOp s g fun o => { o with upGot := o.upGot ++ [(l, w)] }
          let s2 := askUp s1 g l (w + 1)
          (((getGrp s2 g).op.map (·.chunks)).getD [] |>.map (·.idx)).foldl (fun s i => trySendUp s g i) s2

/-! ## Results from a spine (08 R224) -/

/-- A RESULT received by a rack station from its row or column spine. Its flags are those of the whole operation where it carries
LAST, else of its chunk (08 R226). -/
def resultReceive (s0 : State) (p : StPkt) : State :=
  let g := p.hdr.gid
  let s := takeStation s0 p
  let l := linkCode s p.arr
  let idx := p.hdr.opw1
  let kind := bits p.hdr.opw2 26 2
  let fl := bits p.hdr.opw2 28 3
  if collectiveReason s p.hdr p.arr ≠ 0 then stDiscard s p 0x1D
  else if seqEnded s g p.hdr.seq then stDiscard s p 0x1E
  else
    match (getGrp s g).op with
    | none => s
    | some o =>
      match if o.seq = p.hdr.seq then o.chunks.find? (·.idx == idx) else none with
      | none => s
      | some c =>
        let two := isTwoStage s g
        let mid := two && l == .rowUp && kind == 1 && c.stage == 3
        let fin := l == lastUp s g && kind == 0 && c.stage == (if two then 5 else 3)
        if !(mid || fin) || !(c.sentUp.contains l) || (mid && usesXp o.d && !isBarrier o.d && xpReserved p.data) then s
        else
          let down := c.down ++ [p.data]
          let last := bitAt p.hdr.opw2 31
          let s1 := modOp (modChunk s g idx fun c => { c with down := down, flags := if last then c.flags else Nat.lor c.flags fl }) g
            fun o => { o with flags := Nat.lor o.flags fl }
          let nrank := s.rd F.GRP_ENT_NRANK g
          let full := if isBarrier o.d then true
            else if mid then
              (if opCode o.d = 3 then decide (stageElems false (opIn o.d) down ≥ rowRanks s g * c.elems)
               else decide (stageElems (usesXp o.d) (opIn o.d) down ≥ c.elems)
                 || (opCode o.d == 4 && down.any (·.length == 8)))
            else decide (stageElems false (finalFmt o.d) down ≥ (if opCode o.d = 3 then nrank else 1) * c.elems)
          if !full then s1
          else if mid then trySendUp (modChunk s1 g idx fun c => { c with stage := 5, partialUp := down, down := [] }) g idx
          else
            match (getGrp s1 g).op.bind fun o => o.chunks.find? (·.idx == idx) with
            | some c1 => memberResults s1 g o c1 c1.flags (stageJoin down)
            | none => s1

/-! ## Launch (06 R166, R168 to R170) -/

/-- The descriptor that a station would launch next, when the launch conditions hold but for the gate. A station whose rank bank
holds no valid entry launches nothing (DESIGN CHOICE, log 110). -/
def launchDesc (s : State) (g : Nat) : Option (List Word × Option Nat) :=
  let x := getGrp s g
  let seq := nextSeq s g
  let ms := (groupMembers s g).map (·.2)
  let tokenOk := x.tokenWait.all fun t => x.tokenMax.any fun m => seqGe m t
  if !groupActive s g || x.op.isSome || !tokenOk || ms.isEmpty || x.later.any (·.1 == seq) then none
  else if s.isSpine then
    if ms.all fun l => x.reqs.any fun r => r.link == l && r.seq == seq then
      (x.reqs.find? (·.seq == seq)).map fun r => (descOfSig r.sig, none)
    else none
  else
    match x.queue.find? (·.seq == seq) with
    | none => none
    | some q =>
      if s.flag F.GRP_ENT_MODE g then
        if ms.all fun l => q.rung.any (·.1 == l) then
          let gateD := ((ms.head?).bind fun l => q.rung.find? (·.1 == l)).map (·.2)
          let gd := gateD.getD q.desc
          some ((q.desc.take 2) ++ [BitVec.ofNat 32 (dW q.desc 2 % 2 ^ 31 + bits (dW gd 2) 31 1 * 2 ^ 31)]
            ++ ((q.desc.drop 3).take 2) ++ ((gd.drop 5).take 3) ++ q.desc.drop 8, none)
        else none
      else some (q.desc, q.hop)

/-- The value of a sync object. -/
def soValue (s : State) (n : Nat) : Nat := s.rd F.WEL_SO_VAL_HI n * 2 ^ 32 + s.rd F.WEL_SO_VAL_LO n

/-- A gate's condition on its sync object (06 R161, R169; 09 R274). -/
def gateMet (s : State) (d : List Word) : Bool :=
  let v := soValue s (dW d 5 % 8192)
  let want := dW d 7 * 2 ^ 32 + dW d 6
  if bitAt (dW d 5) 30 then v == want else decide (v ≥ want)

/-- Launch the next SEQ of a group. -/
def launchNow (s : State) (g : Nat) (d : List Word) (hop : Option Nat) : State :=
  let seq := nextSeq s g
  let plan := launchPlan s g d
  let ep := s.rd F.GRP_ENT_GEPOCH g
  let b := s.rd0 F.TIM_TT_STAT_ACTIVE
  let start := (if s.flag F.TIM_STAT_VALID = false ∨ s.rd F.TIM_TT_PER_PERIOD b = 0 then none
    else (ttGroupsOf s b).find? fun t => t.gid == g && t.start == ttOffset s b).map fun _ => s.tickCount
  let mk := fun (lat : Bool) (np pj ec nc wave : Nat) =>
    ({ seq := seq, d := d, ep := ep, gto := s.rd F.GRP_ENT_GTO g, weight := s.rd F.GRP_ENT_WEIGHT g, latency := lat, np := np,
       pj := pj, ec := ec, nc := nc, wave := wave, ranks := groupMembers s g, nextWave := 0, chunks := [], done := [],
       upReq := [], upGot := [], flags := 0, hop := hop, atStart := start } : GrpOp)
  let s0 := if opCode d = 7 then s else dropRoute s g
  let begin_ := fun o => (modGrp s0 g fun x => { x with op := some o, timer := some s.now, gate := none, tokenWait := none }).cntG g 0
  match plan with
  | .unused => finishOp (begin_ (mk true 1 0 0 0 1)) g
  | .fail code => settleTurns (endNow (begin_ (mk true 1 0 0 0 1)) g seq code false) g
  | .run lat np pj ec nc wave =>
    let s1 := begin_ (mk lat np pj ec nc wave)
    let noRoute := opCode d == 7 && opCount d != 0 &&
      !((getGrp s1 g).route.any fun r => seqInc r.seq == seq && r.count == opCount d && r.cap == opCap d)
    let firstBad := (getGrp s1 g).reqs.any fun r => r.seq == seq && r.chunk != 0
    if noRoute || firstBad || reqsDiffer s1 g seq (signatureOf d ep) then raiseAbort s1 g seq 2
    else if planeLost s1 g then raiseAbort s1 g seq 5
    else if nc = 0 then
      let c : Chunk := newChunk 0
      let s2 := modOp s1 g fun o => { o with chunks := [c] }
      match (getGrp s2 g).op with
      | some o => sendResults s2 g 0 0 (recordItems s2 g o 0)
      | none => s2
    else s1

/-- LAUNCH: the conditions hold; with a gate the station waits until its sync object meets it (06 R169). -/
def launch (s : State) (g : Nat) : State :=
  match launchDesc s g with
  | none => s
  | some (d, hop) =>
    if bitAt (dW d 2) 31 ∧ (getGrp s g).gate = none ∧ gateMet s d = false then
      modGrp { s with well := { s.well with regNo := s.well.regNo + 1 } } g fun x => { x with gate := some s.well.regNo, timer := none }
    else if (getGrp s g).gate.isSome ∧ gateMet s d = false then s
    else launchNow s g d hop

/-- The last RESULT of an operation that began at its START has not left by START + DEADLINE (05 R140). -/
def deadlineMiss (s : State) (g : Nat) : State :=
  let b := s.rd0 F.TIM_TT_STAT_ACTIVE
  match (getGrp s g).op with
  | none => s
  | some o =>
    match o.atStart, (ttGroupsOf s b).find? (·.gid == g) with
    | some t0, some e =>
      if e.deadline ≠ 0 ∧ s.tickCount ≥ t0 + e.deadline then
        let s1 := (modOp s g fun o => { o with atStart := none }).cntG g 14
        if e.strict then settleGroups (raiseAbort s1 g o.seq 6) else s1
      else s
    | _, _ => s

end Sys2Proof.Machine
end

