-- ==== Sys2Proof/Machine/Filters.lean ====
section
/-! DEFINITION. The access filters of telemetry (17 R472), which the well and the register space both count into. -/

namespace Sys2Proof.Machine

open Sys2Proof

/-- Bits of TEL_FILT W0.PRIV: host, side-band, Gesta, fabric. -/
def privOf : Master → Nat
  | .host => 0
  | .sideband => 1
  | .gesta _ => 2

/-- The range of a filter holds an address. -/
def filterRange (s : State) (f addr : Nat) : Bool :=
  decide (s.rd F.TEL_FILT_ADDR_LO_HI f * 2 ^ 32 + s.rd F.TEL_FILT_ADDR_LO f ≤ addr)
    && decide (addr ≤ s.rd F.TEL_FILT_ADDR_HI_HI f * 2 ^ 32 + s.rd F.TEL_FILT_ADDR_HI f)

/-- A filter matches an access: its space, the privilege and class bits, its address, its source port when it comes from
the fabric. -/
def filterMatch (s : State) (f space priv cls addr : Nat) (lp : Option Nat) : Bool :=
  s.flag F.TEL_FILT_EN f && s.rd F.TEL_FILT_SPACE f == space && bitAt (s.rd F.TEL_FILT_PRIV f) priv
    && bitAt (s.rd F.TEL_FILT_CLASS f) cls && filterRange s f addr
    && (match lp with
      | some p => s.rd F.TEL_FILT_SRC_LP f == 0xFF || s.rd F.TEL_FILT_SRC_LP f == p
      | none => true)

/-- Count one access in every filter that it matches: EVENTS and BYTES. Classes: 0 read, 1 write, 2 atomic, 3 sync
operation, 4 room, 5 migration, 6 DMA, 7 aperture. -/
def countAccess (s : State) (space priv cls addr size : Nat) (lp : Option Nat := none) : State :=
  (List.range 16).foldl (fun s f =>
    if filterMatch s f space priv cls addr lp then (s.cnt (0x186000 + f * 16) 1).cnt (0x186000 + f * 16 + 8) size else s) s

end Sys2Proof.Machine
end

