-- ==== Sys2Proof/Machine/Well.lean ====
section
/-! DEFINITION. The well (file 09, R236 to R264, R275): the address map, memory devices, mirror windows, lines with replay
and copies, the admission and the execution of requests, migration, contexts that time out. -/

namespace Sys2Proof.Machine

open Sys2Proof

def modWell (s : State) (f : WellSt → WellSt) : State := { s with well := f s.well }

/-! ## Bytes of the pool -/

def farBase : Nat := 0x040000000000

/-- One byte of the pool's memory. -/
def memByte (s : State) (a : Nat) : Byte := mgetD s.mem a 0#8

/-- Write one byte. -/
def memPut (s : State) (a : Nat) (b : Byte) : State := { s with mem := mset 0#8 s.mem a b }

/-- Bytes from an address on. -/
def memBytes (s : State) (a n : Nat) : List Byte := (List.range n).map fun i => memByte s (a + i)

/-- Write bytes from an address on. -/
def memWrite : State → Nat → List Byte → State
  | s, _, [] => s
  | s, a, b :: bs => memWrite (memPut s a b) (a + 1) bs

/-! ## The address map (R236 to R239) -/

def nch (s : State) : Nat := s.rd0 F.WEL_FAR_CFG_NCH
def dimmBytes (s : State) : Nat := s.rd0 F.WEL_FAR_CFG_DIMM_GIB * 2 ^ 30
/-- The populated far-tier size F in bytes (R238). -/
def farSize (s : State) : Nat := nch s * (if s.flag F.WEL_FAR_CFG_DPC2 then 2 else 1) * dimmBytes s

/-- The DIMM that holds a far-tier offset (R238). -/
def dimmOf (s : State) (o : Nat) : Nat :=
  let ch := o / 4096 % max 1 (nch s)
  let a := o / (4096 * max 1 (nch s)) * 4096 + o % 4096
  2 * ch + (if a < dimmBytes s then 0 else 1)

/-- The device index of WEL_DEV that holds a pool address (R276). -/
def devOf (s : State) (p : Nat) : Nat := if p < farBase then p / 2 ^ 36 else 4 + dimmOf s (p - farBase)

def devOut (s : State) (d : Nat) : Bool := s.flag F.WEL_DEV_OUT d

/-- The devices that hold any part of a far-tier range (R256, R257). -/
def rangeDevs (s : State) (o n : Nat) : List Nat :=
  if n = 0 then []
  else
    (List.range 16).map (4 + ·) |>.filter fun d =>
      let ch := (d - 4) / 2
      let pos := (d - 4) % 2
      let posAt := fun x => if x / (4096 * max 1 (nch s)) * 4096 < dimmBytes s then 0 else 1
      decide (ch < nch s) && decide (posAt o ≤ pos) && decide (pos ≤ posAt (o + n - 1))

/-- The end of the far tier's range (R236). -/
def farEnd : Nat := 0x080000000000

/-- A pool address lies in no reserved range and no unpopulated part. -/
def populated (s : State) (p : Nat) : Bool :=
  decide (p < 2 ^ 38) || (decide (farBase ≤ p) && decide (p < farEnd) && decide (p - farBase < farSize s))

/-! ## The room area (R240, 10 R278) -/

def roomAreaLo (s : State) : Nat := farBase + s.rd0 F.RMS_CFG_BASE_G * 2 ^ 30
def roomAreaHi (s : State) : Nat := farBase + (s.rd0 F.RMS_CFG_BASE_G + 256 * s.rd0 F.RMS_CFG_STRIPE_G) * 2 ^ 30
def inRoomArea (s : State) (p n : Nat) : Bool :=
  s.flag F.RMS_CFG_EN && decide (p < roomAreaHi s) && decide (roomAreaLo s < p + max 1 n)

/-! ## Mirror windows (R255 to R257) -/

def winState (s : State) (m : Nat) : Nat := s.rd F.WEL_MIR_STATE m
def winBase (s : State) (m : Nat) : Nat := s.rd F.WEL_MIR_BASE_G m * 2 ^ 30
def winSize (s : State) (m : Nat) : Nat := s.rd F.WEL_MIR_SIZE_G m * 2 ^ 30
def winMBase (s : State) (m : Nat) : Nat := s.rd F.WEL_MIR_MBASE_G m * 2 ^ 30

/-- The running window that covers a pool address. -/
def winOf (s : State) (p : Nat) : Option Nat :=
  if p < farBase then none
  else (List.range 16).find? fun m =>
    winState s m != 0 && decide (winBase s m ≤ p - farBase) && decide (p - farBase < winBase s m + winSize s m)

/-- The pool address of the copy of a pool address in window `m` (R255). -/
def copyOf (s : State) (m p : Nat) : Nat :=
  farBase + Nat.xor ((p - farBase - winBase s m) + winMBase s m) (nch s / 2 * 4096)

/-- A line of a window has a copy (R257). -/
def hasCopy (s : State) (m p : Nat) : Bool :=
  match mget s.well.wins m with
  | none => true
  | some w =>
    let o := p - farBase - winBase s m
    match w.upTo with
    | none => true
    | some n => decide (o < n) || w.lines.contains (o / 64)

/-- The window whose copy serves the reads of a line, if one does (R252). -/
def servingWin (s : State) (p : Nat) : Option Nat :=
  (winOf s p).bind fun m =>
    if (winState s m == 2 || winState s m == 3) && hasCopy s m p && !devOut s (devOf s (copyOf s m p)) then some m else none

def winDevs (s : State) (m : Nat) : List Nat :=
  rangeDevs s (winBase s m) (winSize s m) ++ rangeDevs s (winMBase s m) (winSize s m)

/-- Copy the lines of a window's first `n` bytes to their copies. -/
def copyPrefix (s : State) (m n : Nat) : State :=
  let lo := farBase + winBase s m
  let src := s.mem.filter fun e => decide (lo ≤ e.1) && decide (e.1 < lo + n)
  let back := fun a => Nat.xor (a - farBase) (nch s / 2 * 4096)
  let kept := s.mem.filter fun e =>
    !(decide (farBase ≤ e.1) && decide (winMBase s m ≤ back e.1) && decide (back e.1 < winMBase s m + n))
  { s with mem := src.foldl (fun mem e => mset 0#8 mem (copyOf s m e.1) e.2) kept }

/-- A window degrades (R257): a fill stops where it had got to, which the spec leaves open. -/
def degrade (s : State) (m : Nat) : State :=
  let s1 := if winState s m = 1 then
      let n := Config.freeNat s.freeCtr % (winSize s m / 64 + 1) * 64
      let w := mgetD s.well.wins m ⟨none, []⟩
      modWell (copyPrefix s.tick m n) fun x => { x with wins := mput x.wins m { w with upTo := some n } }
    else s
  (s1.wr F.WEL_MIR_STATE m 3).report 7 9 m

/-- A device goes out of service (R253). -/
def takeOut (s : State) (d : Nat) : State :=
  if devOut s d then s
  else
    let s1 := s.wr F.WEL_DEV_OUT d 1
    let s2 := if d < 4 then
        s1.wr0 F.WEL_STAT_STACK_OK (putBits (s1.rd0 F.WEL_STAT_STACK_OK) d 1 0)
      else s1.wr0 F.WEL_STAT_DIMM_OK (putBits (s1.rd0 F.WEL_STAT_DIMM_OK) (d - 4) 1 0)
    let s3 := s2.report 7 5 d
    (List.range 16).foldl (fun s m =>
      if (winState s m == 1 || winState s m == 2) && (winDevs s m).contains d then degrade s m else s) s3

/-- An uncorrectable read of a device (R253): counted; UE_LIM within 1 s take it out of service. -/
def uncorrectable (s : State) (d : Nat) : State :=
  let s1 := s.bump F.WEL_DEV_UNCORR d
  let ts := (s.now :: mgetD s.well.ue d []).filter fun t => decide (s.now < t + 1000000000)
  let s2 := modWell s1 fun w => { w with ue := mput w.ue d ts }
  let lim := s.rd0 F.WEL_CFG_UE_LIM
  if lim ≠ 0 ∧ lim ≤ ts.length then takeOut s2 d else s2

/-! ## Lines (R250 to R252) -/

def corrected (s : State) (p : Nat) (ev : LineEv) : State :=
  if ev.corr then (s.bump F.WEL_DEV_CORR (devOf s p)).report 7 1 p else s

def lineEv (evs : List LineEv) (p : Nat) : LineEv := (evs.find? (·.addr == p)).getD ⟨p, false, 0, 0⟩

/-- Write a whole line to its primary and its copy, where their devices are in service (R250, R256, R257). -/
def writeLine (s : State) (p : Nat) (data : List Byte) : State :=
  let s1 := if devOut s (devOf s p) then s else memWrite s p data
  match winOf s p with
  | none => s1
  | some m =>
    let c := copyOf s m p
    if devOut s (devOf s c) then s1
    else
      let s2 := memWrite s1 c data
      match mget s.well.wins m with
      | none => s2
      | some w =>
        let k := (p - farBase - winBase s m) / 64
        let w1 := { w with lines := if w.lines.contains k then w.lines else k :: w.lines }
        modWell s2 fun x => { x with wins := mput x.wins m w1 }

/-- Read a line (R252): its data, or code 0x03 or 0x07. -/
def readLine (s : State) (evs : List LineEv) (p : Nat) : (Nat × List Byte) × State :=
  let retry := s.rd0 F.WEL_CFG_RETRY
  let ev := lineEv evs p
  let gone := devOut s (devOf s p)
  if gone = false ∧ ev.bad ≤ retry then
    let s1 := if ev.bad = 0 then s else s.report 7 2 p
    ((0, memBytes s p 64), corrected s1 p ev)
  else
    let s1 := if gone then s else uncorrectable s (devOf s p)
    match servingWin s1 p with
    | none => if gone then ((7, []), s1) else ((3, []), s1.report 7 4 p)
    | some m =>
      let c := copyOf s1 m p
      if ev.copyBad ≤ retry then
        let data := memBytes s1 c 64
        let s2 := if devOut s1 (devOf s1 p) then s1 else memWrite s1 p data
        ((0, data), (corrected s2 c ev).report 7 3 p)
      else ((3, []), (uncorrectable s1 (devOf s1 c)).report 7 4 p)

/-- Read lines in rising order, up to the first that fails: its code and address, and the data read before it. -/
def readLines (evs : List LineEv) : List Nat → State → (Nat × Nat × List Byte) × State
  | [], s => ((0, 0, []), s)
  | p :: ps, s =>
    let ((c, d), s1) := readLine s evs p
    if c ≠ 0 then ((c, p, []), s1)
    else
      let ((c2, p2, ds), s2) := readLines evs ps s1
      ((c2, p2, d ++ ds), s2)

/-- The lines of a range. -/
def linesOf (p n : Nat) : List Nat :=
  if n = 0 then [] else (List.range ((p + n - 1) / 64 - p / 64 + 1)).map fun i => p / 64 * 64 + 64 * i

/-- Write lines in rising order. -/
def writeLines : List Nat → List Byte → State → State
  | [], _, s => s
  | p :: ps, d, s => writeLines ps (d.drop 64) (writeLine s p (d.take 64))

/-- Code 0x07 (R246): the line lies on a device out of service and no copy serves it. A write of the whole line needs a copy to go
to; a line that the fill had not reached has none (R257). -/
def unserved (s : State) (p : Nat) (whole : Bool) : Bool :=
  devOut s (devOf s p) &&
    (if whole then (match winOf s p with
      | none => true
      | some m => devOut s (devOf s (copyOf s m p)) || !hasCopy s m p)
    else (servingWin s p).isNone)

/-! ## Checks (R246) -/

/-- The forward entry whose source is the page of an address (R261). -/
def fwdOf (s : State) (p : Nat) : Option Nat :=
  (List.range 4096).find? fun i => s.flag F.WEL_FWD_VALID i && s.rd F.WEL_FWD_SRC_PAGE i == p / 2 ^ 21

/-- Codes 0x01, 0x04, 0x05, 0x07 for a range inside one page, in the order of R246; 0 when all pass. `whole` says which
lines are written whole. -/
def placeCode (s : State) (p n : Nat) (whole : Nat → Bool) : Nat :=
  if !populated s p || !populated s (p + max 1 n - 1) then 1
  else if inRoomArea s p n then 4
  else if (fwdOf s p).isSome then 5
  else if (linesOf p n).any fun l => unserved s l (whole l) then 7
  else 0

/-! ## Answers (R245) -/

/-- The header of an answer to a request: to its source, its SEQ and FLOW_HASH, on VC5. -/
def rspHdr (s : State) (q : Header) (op len opw0 opw1 opw2 : Nat) : Header :=
  let h := mkHdr op q.srcE 5 s.selfEid len 0 q.seq opw0 opw1 opw2
  { h with w2 := wput h.w2 16 16 q.hash }

/-- An error answer. -/
def sendErr (s : State) (q : Header) (code : Nat) (opw0 opw1 : Nat) : State :=
  injectUnicast s (rspHdr s q 0x2B 0 opw0 opw1 (q.opcode * 2 ^ 24 + code)) []

/-- A counter of region W of an address's tier (17 R470). -/
def cntTier (s : State) (p k : Nat) (n : Nat := 1) : State := s.cntW ((if p < farBase then 0 else 8) + k) n

/-- The error answer to a READ, WRITE or ATOMIC: a moved page names the same offset in its destination (R246, R261). -/
def refuse (s : State) (q : Header) (p code : Nat) : State :=
  let s1 := cntTier s p 5
  if code = 5 then
    let dst := ((fwdOf s p).map fun i => s.rd F.WEL_FWD_DST_PAGE i).getD 0 * 2 ^ 21 + p % 2 ^ 21
    sendErr s1 q 5 (dst % 2 ^ 32) (q.opw1 / 2 ^ 16 * 2 ^ 16 + dst / 2 ^ 32 % 65536)
  else sendErr s1 q code q.opw0 q.opw1

/-! ## Access counts (R262) -/

def countHot (s : State) (p : Nat) : State :=
  let i := p / 2 ^ 21 - s.rd0 F.WEL_HOT_CFG_BASE
  if s.flag F.WEL_HOT_CFG_EN ∧ s.rd0 F.WEL_HOT_CFG_BASE ≤ p / 2 ^ 21 ∧ i < 65536 then s.bump F.WEL_HOT_CNT_CNT i else s

/-- A request of `n` bytes counts once for each page that it has lines of. -/
def countPages (s : State) (p n : Nat) : State :=
  (List.range ((p + max 1 n - 1) / 2 ^ 21 + 1 - p / 2 ^ 21)).foldl (fun s i => countHot s (p + i * 2 ^ 21)) s

/-- Put a request at the end of the well's queue (R250). -/
def admitReq (s : State) (kind : WKind) (p n : Nat) (data : List Byte) (en : List Bool) (q : Header) (arr : Nat) : State :=
  modWell s fun w => { w with queue := w.queue ++ [⟨w.nextId, kind, p, n, data, en, q, arr⟩], nextId := w.nextId + 1 }

/-! ## READ, WRITE and ATOMIC (R242 to R246) -/

def reqAddr (q : Header) : Nat := bits q.opw1 0 16 * 2 ^ 32 + q.opw0

/-- 0x0C or 0x02 of a READ, WRITE or ATOMIC (R242 to R244); 0 when its form is right. -/
def formCode (q : Header) (data : List Byte) : Nat :=
  let p := reqAddr q
  if q.opcode = 0x22 then
    let atop := bits q.opw1 28 4
    if bits q.opw1 16 12 ≠ 0 ∨ q.opw2 ≠ 0 ∨ atop > 5 ∨ (atop ≠ 2 ∧ leNat ((data.drop 8).take 8) ≠ 0) then 0x0C
    else if p % 8 ≠ 0 ∨ q.len ≠ 16 then 2 else 0
  else
    let n := if q.opcode = 0x20 then bits q.opw2 0 13 else q.len
    if bits q.opw1 16 16 ≠ 0 ∨ (if q.opcode = 0x20 then bits q.opw2 13 19 else q.opw2) ≠ 0 then 0x0C
    else if p % 64 ≠ 0 ∨ n % 64 ≠ 0 ∨ n > 4096 ∨ (n ≠ 0 ∧ p / 2 ^ 21 ≠ (p + n - 1) / 2 ^ 21) ∨ (q.opcode = 0x20 ∧ q.len ≠ 0)
    then 2 else 0

/-- A READ, WRITE or ATOMIC reaches the well: one for another chip's EID is not executed (R243; no answer is given, DESIGN CHOICE,
log 97); else it is counted, whatever its answer (17 R470; in the filters and page counts as well, DEDUCED, log 119), and refused
with the first check that fails, or admitted. `bad` is the first line
(counted from the request's first) whose data failed its parity check on entry (R251). -/
def wellRequest (s0 : State) (pk : StPkt) (bad : Option Nat) : State :=
  let q := pk.hdr
  let s := takeStation s0 pk
  let p := reqAddr q
  let isR := q.opcode == 0x20
  let isA := q.opcode == 0x22
  let n := if isR then bits q.opw2 0 13 else if isA then 8 else q.len
  let lp := if pk.arr < 160 then some pk.arr else none
  let s1 := countAccess (countHot (cntTier s p (if isR then 0 else if isA then 2 else 1)) p) 0 3 (if isR then 0 else if isA then 2 else 1) p n lp
  if q.dst ≠ s.selfEid then s
  else if s.well.poolUntil.isSome then refuse s1 q p 0x0D
  else
    let f := formCode q pk.data
    if f ≠ 0 then refuse s1 q p f
    else
      let c := placeCode s p n fun _ => !isR && !isA
      if c ≠ 0 then refuse s1 q p c
      else
        match (if isR then none else bad) with
        | some i => refuse (s1.report 7 6 (p / 64 * 64 + 64 * i)) q p 8
        | none => admitReq s1 (if isR then .read else if isA then .atomic (bits q.opw1 28 4) else .write) p n pk.data [] q pk.arr

/-- The new value of an atomic (R244). -/
def atomNew (atop old a0 a1 : Nat) : Nat :=
  if atop = 0 then (old + a0) % 2 ^ 64
  else if atop = 1 then a0
  else if atop = 2 then (if old = a1 then a0 else old)
  else if atop = 3 then Nat.land old a0
  else if atop = 4 then Nat.lor old a0
  else Nat.xor old a0

/-- Replace bytes of a line from an offset on, where enabled. -/
def overlay : List Byte → Nat → List Byte → List Bool → List Byte
  | [], _, _, _ => []
  | b :: bs, 0, d :: ds, e :: es => (if e then d else b) :: overlay bs 0 ds es
  | bs, 0, _, _ => bs
  | b :: bs, k + 1, ds, es => b :: overlay bs k ds es

/-! ## Execution (R250) -/

def WKind.writes : WKind → Bool
  | .read => false
  | .roomRead => false
  | .apRead => false
  | _ => true

/-- Two requests share a line. -/
def shareLine (a b : WReq) : Bool :=
  a.size != 0 && b.size != 0 && decide (a.addr / 64 ≤ (b.addr + b.size - 1) / 64) && decide (b.addr / 64 ≤ (a.addr + a.size - 1) / 64)

/-- Bytes [p, p + n) touch the page at `page`. -/
def touchesPage (p n page : Nat) : Bool := n != 0 && decide (p < page + 2 ^ 21) && decide (page < p + n)

/-- A request that a migration meets on its pages: it writes the source, or touches the destination (R259). -/
def meetsMig (m : Mig) (writes : Bool) (p n : Nat) : Bool := (writes && touchesPage p n m.src) || touchesPage p n m.dst

/-- The running migration holds a request that the well admits from its start on (R259). -/
def heldByMig (s : State) (writes : Bool) (p n : Nat) : Bool :=
  match s.well.migs with
  | [] => false
  | m :: _ => meetsMig m writes p n

/-- The running migration waits for a request admitted before its start (R250; a migration is admitted as it starts, DEDUCED,
log 98). -/
def migWaits (s : State) : Bool :=
  match s.well.migs with
  | [] => false
  | m :: _ => s.well.queue.any fun r => decide (r.id < m.since) && meetsMig m r.kind.writes r.addr r.size

/-- A request may execute: none admitted earlier shares a line with it, and the migration that runs does not hold it. -/
def mayRun (s : State) (r : WReq) : Bool :=
  !(s.well.queue.any fun o => decide (o.id < r.id) && shareLine o r)
    && !(heldByMig s r.kind.writes r.addr r.size && s.well.migs.head?.any fun m => decide (m.since ≤ r.id))

/-- UR of an aperture access with its access fault (R263). -/
def apRefuse (s : State) (p : Nat) : State := (((cntTier s p 5).report 0 8 p 1 6).emit .bar4Ur)

/-- ROOM_DATA packets of a room read: (offset in the request, payload), at most 4,096 bytes each (10 R286). -/
def roomPieces : Nat → Nat → List Byte → List (Nat × List Byte)
  | 0, _, _ => []
  | n + 1, o, bs => if bs.length ≤ 4096 then [(o, bs)] else (o, bs.take 4096) :: roomPieces n (o + 4096) (bs.drop 4096)

/-- The header of a room answer: ROOM_DATA on VC7 or ROOM_ACK on VC5, every field not listed 0 (10 R282). -/
def roomHdr (s : State) (q : Header) (op vc len opw0 opw1 opw2 : Nat) : Header :=
  mkHdr op q.srcE vc s.selfEid len (s.rd F.RMS_ROOM_LOCK_EPOCH (roomOf q)) q.seq opw0 opw1 opw2

/-- Send the ROOM_DATA of a read; `whole` says that the last piece ends the request. -/
def sendRoomData (s : State) (q : Header) (whole : Bool) : List (Nat × List Byte) → State
  | [] => s
  | (o, d) :: rest =>
    let last := b2n (whole && rest.isEmpty)
    let area := bits q.opw0 28 2
    let gen := if area = 0 then s.rd F.RMS_ROOM_BASE_GEN (roomOf q) else s.rd F.RMS_ROOM_CMT_GEN (roomOf q)
    let h := roomHdr s q 0x43 7 d.length (putBits q.opw0 30 1 last) gen (q.opw2 + o / 64)
    sendRoomData (injectUnicast s h d) q whole rest

/-- A line that an access writes whole, every byte enabled. -/
def wholeLine (p n : Nat) (en : List Bool) (l : Nat) : Bool :=
  decide (p ≤ l) && decide (l + 64 ≤ p + n) && ((en.drop (l - p)).take 64).all id

/-- Write the lines of an aperture write; `old` holds the lines that were read to be modified, in order (R263). -/
def apLines (r : WReq) : List Nat → List Byte → State → State
  | [], _, s => s
  | l :: ls, old, s =>
    let whole := wholeLine r.addr r.size r.en l
    let base := if whole then List.replicate 64 0#8 else old.take 64
    let line := overlay base (r.addr - l) (r.data.drop (l - r.addr)) (r.en.drop (l - r.addr))
    apLines r ls (if whole then old else old.drop 64) (writeLine s l line)

/-- Execute a request on its lines and answer it (R244, R245, R250 to R252; 10 R284, R286). -/
def runOn (s : State) (r : WReq) (evs : List LineEv) : State :=
  let q := r.hdr
  match r.kind with
  | .read =>
    let ((c, _, d), s1) := readLines evs (linesOf r.addr r.size) s
    if c ≠ 0 then refuse s1 q r.addr c
    else injectUnicast (cntTier s1 r.addr 3 r.size) (rspHdr s1 q 0x28 r.size q.opw0 q.opw1 0) d
  | .write =>
    if (linesOf r.addr r.size).any fun l => unserved s l true then refuse s q r.addr 7
    else
      let s1 := writeLines (linesOf r.addr r.size) r.data s
      injectUnicast (cntTier s1 r.addr 4 r.size) (rspHdr s1 q 0x29 0 q.opw0 q.opw1 0) []
  | .atomic atop =>
    let l := r.addr / 64 * 64
    let ((c, d), s1) := readLine s evs l
    if c ≠ 0 then refuse s1 q r.addr c
    else
      let old := (d.drop (r.addr - l)).take 8
      let new := atomNew atop (leNat old) (leNat (r.data.take 8)) (leNat ((r.data.drop 8).take 8))
      let s2 := writeLine s1 l (overlay d (r.addr - l) (leBytes 8 new) (List.replicate 8 true))
      injectUnicast s2 (rspHdr s2 q 0x2A 8 q.opw0 q.opw1 0) old
  | .roomWrite =>
    if (linesOf r.addr r.size).any fun l => unserved s l true then sendErr (s.report 8 3 (roomOf q)) q 7 q.opw0 q.opw1
    else
      let s1 := (writeLines (linesOf r.addr r.size) r.data s).cntW 24 r.size
      injectUnicast s1 (roomHdr s1 q 0x44 5 0 (putBits q.opw0 28 3 0) q.opw1 0) []
  | .roomRead =>
    let ((c, at_, d), s1) := readLines evs (linesOf r.addr r.size) s
    let n := if c ≠ 0 then (at_ - r.addr) / 4096 * 4096 else r.size
    let s2 := if c ≠ 0 ∧ n = 0 then s1
      else sendRoomData (s1.cntW 25 n) q (c = 0) (roomPieces 513 0 (d.take n))
    if c = 0 then s2 else sendErr (s2.report 8 4 (roomOf q)) q c q.opw0 q.opw1
  | .apRead =>
    let ((c, _, d), s1) := readLines evs (linesOf r.addr r.size) s
    if c ≠ 0 then apRefuse s1 r.addr
    else (cntTier s1 r.addr 3 r.size).emit (.bar4 ((d.drop (r.addr % 64)).take r.size))
  | .apWrite =>
    let ls := linesOf r.addr r.size
    let ((c, _, d), s1) := readLines evs (ls.filter fun l => !wholeLine r.addr r.size r.en l) s
    if c ≠ 0 then apRefuse s1 r.addr
    else if ls.any fun l => wholeLine r.addr r.size r.en l && unserved s1 l true then apRefuse s1 r.addr
    else cntTier (apLines r ls d s1) r.addr 4 r.size

/-- Execute an admitted request: one to a page that a MOVE has meanwhile made the source of a forward entry is answered so (R259
to R261). -/
def runReq (s : State) (r : WReq) (evs : List LineEv) : State :=
  if (fwdOf s r.addr).isNone then runOn s r evs
  else match r.kind with
    | .read => refuse s r.hdr r.addr 5
    | .write => refuse s r.hdr r.addr 5
    | .atomic _ => refuse s r.hdr r.addr 5
    | .apRead => apRefuse s r.addr
    | .apWrite => apRefuse s r.addr
    | .roomWrite => runOn s r evs
    | .roomRead => runOn s r evs

/-- WELL_REQUEST_COMPLETE: the request numbered `id` executes if its turn has come. -/
def wellComplete (s : State) (id : Nat) (evs : List LineEv) : State :=
  match s.well.queue.find? (·.id == id) with
  | none => s
  | some r =>
    if mayRun s r then runReq (modWell s fun w => { w with queue := w.queue.filter (·.id != id) }) r evs else s

/-! ## The aperture (R263) -/

/-- A BAR4 access: its pool address, or Unsupported Request. `bad` is the first line of a write whose data failed its parity check
on entry (R251). -/
def aperture (s : State) (isWrite : Bool) (b n : Nat) (data : List Byte) (en : List Bool) (bad : Option Nat) : State :=
  let base := s.rd0 F.WEL_AP_BASE_BASE
  let p := base * 2 ^ 36 + b
  let s1 := countAccess (countHot (cntTier s p (b2n isWrite)) p) 0 0 7 p n
  if !(base ≤ 3 || (0x40 ≤ base && base ≤ 0x7F)) || b + n > 2 ^ 36 || s.well.poolUntil.isSome then apRefuse s1 p
  else if placeCode s p n (fun l => isWrite && wholeLine p n en l) ≠ 0 then apRefuse s1 p
  else if isWrite && bad.isSome then apRefuse (s1.report 7 6 (p / 64 * 64 + 64 * bad.getD 0)) p
  else
    admitReq s1 (if isWrite then .apWrite else .apRead) p n data en (headerOf []) 160

/-! ## Migration (R258 to R262) -/

/-- The devices of a page are in service. -/
def pageServed (s : State) (p : Nat) : Bool :=
  if p < farBase then !devOut s (devOf s p) else (rangeDevs s (p - farBase) (2 ^ 21)).all fun d => !devOut s d

/-- The status that refuses or skips a migration, in the order of R246; 0 when it may run. -/
def migCode (s : State) (m : Mig) : Nat :=
  let i := m.src / 2 ^ 21 - s.rd0 F.WEL_HOT_CFG_BASE
  let tier := fun (p : Nat) => if p < 2 ^ 38 then 1 else if farBase ≤ p ∧ p < farEnd then 2 else 0
  if tier m.src ≠ 0 ∧ tier m.src = tier m.dst then 0x0C
  else if m.src % 2 ^ 21 ≠ 0 ∨ m.dst % 2 ^ 21 ≠ 0 then 2
  else if !populated s m.src || !populated s (m.src + 2 ^ 21 - 1) || !populated s m.dst || !populated s (m.dst + 2 ^ 21 - 1) then 1
  else if inRoomArea s m.src (2 ^ 21) || inRoomArea s m.dst (2 ^ 21) then 4
  else if (fwdOf s m.src).isSome then 5
  else if !pageServed s m.src || !pageServed s m.dst then 7
  else if m.thresh ≠ 0 ∧ s.rd0 F.WEL_HOT_CFG_BASE ≤ m.src / 2 ^ 21 ∧ i < 65536 ∧ s.rd F.WEL_HOT_CNT_CNT i < m.thresh then 0x20
  else if m.move ∧ ((List.range 4096).all fun i => s.flag F.WEL_FWD_VALID i) = true then 0x0E
  else 0

/-- Start the next migration that may run; those refused or skipped end at once. The fuel is the list's length. -/
def migNext : Nat → State → State
  | 0, s => s
  | k + 1, s =>
    match s.well.migs with
    | [] => s
    | m :: rest =>
      let c := if s.well.poolUntil.isSome then 0x0D else migCode s m
      if c = 0 then
        let s0 := modWell s fun w => { w with migs := { m with since := w.nextId } :: rest }
        let s1 := countAccess (countAccess s0 0 0 5 m.src (2 ^ 21)) 0 0 5 m.dst (2 ^ 21)
        cntTier (cntTier (countHot (countHot s1 m.src) m.dst) m.src 0) m.dst 1
      else migNext k (hostDone (modWell s fun w => { w with migs := rest }) m.hop c 0 0 0)

/-- Queue a migration; it starts when none runs. -/
def migQueue (s : State) (m : Mig) : State :=
  let s1 := modWell s fun w => { w with migs := w.migs ++ [m] }
  if s.well.migs.isEmpty then migNext 1 s1 else s1

/-- A migration ends with an error code: counted in the error slot of the tier of the page that it failed at (17 R470). -/
def migFail (s : State) (m : Mig) (p c : Nat) : State := hostDone (cntTier s p 5) m.hop c 0 0 0

/-- Move lines one by one, up to the first that fails: the page it failed at and the code. -/
def moveLines (evs : List LineEv) (src dst : Nat) : Nat → Nat → State → (Nat × Nat) × State
  | 0, _, s => ((src, 0), s)
  | k + 1, i, s =>
    let ((c, d), s1) := readLine s evs (src + 64 * i)
    if c ≠ 0 then ((src, c), s1)
    else if unserved s1 (dst + 64 * i) true then ((dst, 7), s1)
    else moveLines evs src dst k (i + 1) (writeLine s1 (dst + 64 * i) d)

/-- A page copy ends (R259, R260), once the requests admitted before its start have run. -/
def migDone (s : State) (evs : List LineEv) : State :=
  match s.well.migs with
  | [] => s
  | m :: rest =>
    if migWaits s then s else
    let ((at_, c), s1) := moveLines evs m.src m.dst 32768 0 s
    let s2 := modWell s1 fun w => { w with migs := rest }
    let free := (List.range 4096).find? fun i => !s.flag F.WEL_FWD_VALID i
    let s3 := if c ≠ 0 then migFail s2 m at_ c
      else
        let s4 := cntTier (cntTier s2 m.src 3 (2 ^ 21)) m.dst 4 (2 ^ 21)
        let s5 := s4.cntW (if m.dst < farBase then 40 else 41)
        match m.move, free with
        | true, some i =>
          hostDone (((s5.wr F.WEL_FWD_VALID i 1).wr F.WEL_FWD_SRC_PAGE i (m.src / 2 ^ 21)).wr F.WEL_FWD_DST_PAGE i
            (m.dst / 2 ^ 21)) m.hop 0 0 0 0
        | true, none => migFail s5 m m.src 0x0E
        | false, _ => hostDone s5 m.hop 0 0 0 0
    migNext rest.length s3

/-! ## Fill, scrub, zero fill -/

/-- The zero fill of both tiers ends (R241). -/
def initDone (s : State) : State :=
  if s.well.clearing then
    ({ modWell s (fun w => { w with clearing := false }) with mem := [] }).wr0 F.WEL_STAT_INIT_DONE 1
  else s

/-- A line that cannot be read leaves its copy undefined. -/
def freeLine (s : State) (p : Nat) : State :=
  (List.range 64).foldl (fun s i => (memPut s (p + i) (Config.freeByte s.freeCtr)).tick) s

/-- The fill of a window ends (R257). -/
def fillDone (s : State) (m : Nat) (evs : List LineEv) : State :=
  if winState s m ≠ 1 then s
  else
    let mine := evs.filter fun e => winOf s e.addr == some m
    let (bad, s1) := mine.foldl (fun (acc : List Nat × State) e =>
      let ((c, _), s2) := readLine acc.2 mine e.addr
      (if c = 0 then acc.1 else acc.1 ++ [e.addr], s2)) ([], s)
    if winState s1 m ≠ 1 then s1
    else
      let s2 := bad.foldl (fun s p => freeLine s (copyOf s m p)) (copyPrefix s1 m (winSize s1 m))
      (modWell s2 fun w => { w with wins := mdel w.wins m }).wr F.WEL_MIR_STATE m 2

/-- A line's device is out, and its copy serves it (R252). -/
def byCopy (s : State) (p : Nat) : Bool := devOut s (devOf s p) && (servingWin s p).isSome

/-- Lines below far-tier offset `x` on channel `ch`. -/
def chLines (s : State) (ch x : Nat) : Nat :=
  x / (4096 * nch s) * 64 + min 4096 (x % (4096 * nch s) - ch * 4096) / 64

/-- Lines of [lo, hi) of window `m` that their copies serve, by channel, where neither range changes its DIMM. -/
def segByCopy (s : State) (m lo hi : Nat) : Nat :=
  (((List.range (nch s)).filter fun ch => byCopy s (farBase + (lo / (4096 * nch s) * nch s + ch) * 4096)).map fun ch =>
    chLines s ch hi - chLines s ch lo).foldl (· + ·) 0 * b2n (winState s m != 0)

/-- How many lines of window `m` their copies serve. The window and its copy range change the DIMM of a channel where they pass
offset `h`. -/
def winByCopy (s : State) (m : Nat) : Nat :=
  let b := winBase s m
  let w := mgetD s.well.wins m ⟨none, []⟩
  let e := b + w.upTo.getD (winSize s m)
  let h := nch s * dimmBytes s
  let cut := fun x => min e (max b x)
  let x1 := cut (min h (h + b - winMBase s m))
  let x2 := cut (max h (h + b - winMBase s m))
  let beyond := w.lines.filter fun k => decide (e ≤ b + 64 * k) && byCopy s (farBase + b + 64 * k)
  segByCopy s m b x1 + segByCopy s m x1 x2 + segByCopy s m x2 e + beyond.dedup.length

/-- The lowest line of window `m` that its copy serves and that is none of `but`. -/
def firstByCopy (s : State) (m : Nat) (but : List Nat) : Option Nat :=
  let b := winBase s m
  let h := nch s * dimmBytes s
  let from_ := fun (x : Nat) => (List.range (64 * nch s * (2 + but.length / 64))).map fun i => x + 64 * i
  let cand : List Nat := from_ b ++ from_ h ++ from_ (h + b - winMBase s m) ++ (mgetD s.well.wins m ⟨none, []⟩).lines.map (b + 64 * ·)
  ((cand.map (farBase + ·)).filter fun p => winOf s p == some m && byCopy s p && !but.contains p).min?

/-- One pass of the patrol scrubber over a tier, each line read as R252 has it (R254): first those that meet an error, then the
clean ones, whose read does nothing unless their device is out and their copy is read. Their reports merge (15 R414). -/
def patrol (s : State) (far : Bool) (evs : List LineEv) : State :=
  let h := if far then s.rd0 F.WEL_SCRUB_FAR_H else s.rd0 F.WEL_SCRUB_NEAR_H
  if h = 0 then s
  else
    let mine := evs.filter fun e => decide (farBase ≤ e.addr) == far && populated s e.addr
    let s1 := mine.foldl (fun s e => (readLine s evs e.addr).2) s
    if !far then s1
    else
      let but := (mine.map (·.addr)).dedup
      let n := ((List.range 16).map (winByCopy s1)).foldl (· + ·) 0 - (but.filter (byCopy s1)).length
      match ((List.range 16).filterMap fun m => firstByCopy s1 m but).min? with
      | none => s1
      | some p => s1.reportMany 7 3 p n

/-! ## Contexts that time out (R248) -/

def contextTimeout (s : State) (c : Nat) : State :=
  let lim := s.rd0 F.WEL_CTX_CFG_TO
  match mget s.ctx c with
  | none => s
  | some x =>
    if lim = 0 ∨ s.now < x.openAt + 1000 * lim ∨ s.well.poolUntil.isSome = true then s
    else
      let s1 := (({ s with ctx := mdel s.ctx c } : State).cntW 33).report 7 7 c
      injectUnicast s1 (mkHdr 0x2B x.srcE 5 s.selfEid 0 0 (c % 2048) 0 0 (x.opcode * 2 ^ 24 + 6)) [] true

/-! ## The far-tier population (R239) -/

/-- A write of WEL_FAR_CFG. -/
def farCfgWrite (s : State) (m : Master) (val be : Nat) : State :=
  let n := fieldAfter s F.WEL_FAR_CFG_NCH 0 val be
  let off := regOff .WEL_FAR_CFG 0
  if s.flag F.WEL_STAT_INIT_DONE then s.accessFault m 1 off
  else if n = 0 ∨ n = 1 ∨ n = 2 ∨ n = 4 ∨ n = 8 then writeWord s m .WEL_FAR_CFG 0 0 val be
  else s.accessFault m 1 off

end Sys2Proof.Machine
end

