-- ==== Sys2Proof/Machine/Rooms.lean ====
section
/-! DEFINITION. Rooms (file 10): room packets, generations and their commits, the epoch boundary and the enabling of rooms,
heartbeats. -/

namespace Sys2Proof.Machine

open Sys2Proof

/-! ## Layout (R278) -/

def snapBytes (s : State) : Nat := s.rd0 F.RMS_CFG_SNAP_G * 2 ^ 30
def stripeBytes (s : State) : Nat := s.rd0 F.RMS_CFG_STRIPE_G * 2 ^ 30

/-- Pool address of the region of a room's copy. -/
def regionOf (s : State) (r copy : Nat) : Nat := roomAreaLo s + (2 * r + copy) * stripeBytes s

/-- Pool address and size of an area of a region: 0 or 1 a snapshot slot, 2 the journal. -/
def areaOf (s : State) (r copy k : Nat) : Nat × Nat :=
  if k = 2 then (regionOf s r copy + 2 * snapBytes s, stripeBytes s - 2 * snapBytes s)
  else (regionOf s r copy + k * snapBytes s, snapBytes s)

def roomOn (s : State) (r : Nat) : Bool := s.flag F.RMS_ROOM_EN r

/-! ## Checks (R283) -/

/-- Codes 0x0C, 0x10, 0x11 that every room request meets; 0 when they pass. -/
def roomCode (s : State) (q : Header) (isRead : Bool) : Nat :=
  let r := roomOf q
  let res := bits q.opw0 23 5 != 0 || bits q.opw0 12 4 != 0 || bitAt q.opw0 30
    || (if isRead then decide (bits q.opw0 28 2 ≥ 2) || bits q.opw1 22 10 != 0 || decide (bits q.opw1 0 22 > 2 ^ 21)
        else bits q.opw0 28 2 != 0)
  if res then 0x0C
  else if !roomOn s r || s.rd F.RMS_ROOM_GID r != q.gid then 0x10
  else if eidSlot q.srcE ≠ s.rd F.RMS_ROOM_OWNER r then 0x11
  else 0

/-- A refused room request (R283): kind 0x03 for a write refused with 0x07 or 0x08, kind 0x04 for a read that ends with 0x03
or 0x07 (R299). -/
def roomRefuse (s : State) (q : Header) (code : Nat) (isRead : Bool) : State :=
  let s1 := if isRead then (if code = 3 ∨ code = 7 then s.report 8 4 (roomOf q) else s)
    else if code = 7 ∨ code = 8 then s.report 8 3 (roomOf q) else s
  sendErr s1 q code q.opw0 q.opw1

def nextGen (s : State) (r : Nat) : Nat := (s.rd F.RMS_ROOM_CMT_GEN r + 1) % 2 ^ 32

/-- A room request that passes the room's own checks goes to the well, which counts it by filter and page (09 R262, 17 R472). -/
def roomCount (s : State) (pk : StPkt) (p n : Nat) : State :=
  countPages (countAccess s 0 3 4 p n (if pk.arr < 160 then some pk.arr else none)) p n

/-- ROOM_SNAP and ROOM_JRNL (R283, R284). `bad` is the first line whose data failed its parity check on entry. -/
def roomWrite (s0 : State) (pk : StPkt) (snap : Bool) (bad : Option Nat) : State :=
  let q := pk.hdr
  let s := takeStation s0 pk
  let r := roomOf q
  let kind := if snap then 1 else 2
  let opened := s.rd F.RMS_ROOM_OPEN_KIND r
  let c := roomCode s q false
  let copy := bits q.opw0 31 1
  let (base, size) := areaOf s r copy (if snap then 1 - s.rd F.RMS_ROOM_BSLOT r else 2)
  let off := q.opw2 * 64
  let p := base + off
  let c1 := roomCount s pk p q.len
  if s.well.poolUntil.isSome then roomRefuse s q 0x0D false
  else if c ≠ 0 then roomRefuse s q c false
  else if q.opw1 ≠ nextGen s r ∨ (opened ≠ 0 ∧ opened ≠ kind) then roomRefuse s q 0x12 false
  else if q.len % 64 ≠ 0 ∨ off + q.len > size ∨ (snap = false ∧ q.opw2 < s.rd F.RMS_ROOM_JCMT r) then roomRefuse s q 0x14 false
  else if bad.isSome then roomRefuse (c1.report 7 6 (p + 64 * bad.getD 0)) q 8 false
  else if (linesOf p q.len).any fun l => unserved s l true then roomRefuse c1 q 7 false
  else
    let s1 := if opened = 0 then
        (c1.wr F.RMS_ROOM_OPEN_KIND r kind).wr F.RMS_ROOM_OPEN_HIGH r (if snap then 0 else s.rd F.RMS_ROOM_JCMT r)
      else c1
    let s2 := s1.wr F.RMS_ROOM_OPEN_HIGH r (max (s1.rd F.RMS_ROOM_OPEN_HIGH r) ((off + q.len) / 64))
    admitReq s2 .roomWrite p q.len pk.data [] q pk.arr

/-- ROOM_READ (R283, R286). -/
def roomRead (s0 : State) (pk : StPkt) : State :=
  let q := pk.hdr
  let s := takeStation s0 pk
  let r := roomOf q
  let c := roomCode s q true
  let area := bits q.opw0 28 2
  let copy := bits q.opw0 31 1
  let (base, size) := areaOf s r copy (if area = 0 then s.rd F.RMS_ROOM_BSLOT r else 2)
  let n := bits q.opw1 0 22
  let off := q.opw2 * 64
  let lim := (if area = 0 then s.rd F.RMS_ROOM_SNAP_LEN r else s.rd F.RMS_ROOM_JCMT r) * 64
  let c1 := roomCount s pk (base + off) n
  if s.well.poolUntil.isSome then roomRefuse s q 0x0D true
  else if c ≠ 0 then roomRefuse s q c true
  else if n % 64 ≠ 0 ∨ q.len ≠ 0 ∨ off + n > size then roomRefuse s q 0x14 true
  else if off + n > lim then roomRefuse s q 0x15 true
  else if (linesOf (base + off) n).any fun l => unserved s l false then roomRefuse c1 q 7 true
  else
    admitReq c1 .roomRead (base + off) n [] [] q pk.arr

/-! ## Generations (R288 to R290) -/

/-- Commit one room's generation. -/
def commitRoom (s : State) (r : Nat) : State :=
  let k := s.rd F.RMS_ROOM_OPEN_KIND r
  let high := s.rd F.RMS_ROOM_OPEN_HIGH r
  let gen := nextGen s r
  let s1 := if k = 1 then
      (((s.wr F.RMS_ROOM_BSLOT r (1 - s.rd F.RMS_ROOM_BSLOT r)).wr F.RMS_ROOM_BASE_GEN r gen).wr F.RMS_ROOM_SNAP_LEN r high).wr
        F.RMS_ROOM_JCMT r 0
    else if k = 2 then s.wr F.RMS_ROOM_JCMT r high else s
  (((s1.wr F.RMS_ROOM_CMT_GEN r gen).wr F.RMS_ROOM_OPEN_KIND r 0).wr F.RMS_ROOM_OPEN_HIGH r 0).cntW 26

/-- The enabled rooms of a group. -/
def roomsOf (s : State) (g : Nat) : List Nat := (List.range 128).filter fun r => roomOn s r && s.rd F.RMS_ROOM_GID r == g

/-- The valid entries whose commit object is `n`. -/
def entriesOf (s : State) (n : Nat) : List Nat :=
  (List.range 64).filter fun k => s.flag F.RMS_CMT_VALID k && s.rd F.RMS_CMT_SO k == n

/-- The generation of a commit object has increased: every enabled room of each entry's group commits (R288), but for
entries that ignore completions since an epoch boundary (R290). -/
def roomCommits (s : State) (n : Nat) : State :=
  ((entriesOf s n).filter fun k => !s.well.mute.contains k).foldl (fun s k =>
    ((roomsOf s (s.rd F.RMS_CMT_GID k)).foldl commitRoom s).bump F.RMS_CMT_COMMITS k) s

/-- Restart the heartbeat watch of a room (R292). -/
def watchRoom (s : State) (r : Nat) : State := modWell s fun w => { w with hb := mput w.hb r s.now }

/-- Abandon an open generation. -/
def abandonRoom (s : State) (r : Nat) : State := (s.wr F.RMS_ROOM_OPEN_KIND r 0).wr F.RMS_ROOM_OPEN_HIGH r 0

/-- The rooms' part of the epoch boundary of a group (R290). -/
def roomsBoundary (s : State) (g : Nat) : State :=
  let es := (List.range 64).filter fun k => s.flag F.RMS_CMT_VALID k && s.rd F.RMS_CMT_GID k == g
  let s1 := es.foldl (fun s k =>
    let rs := (roomsOf s g).filter fun r => s.rd F.RMS_ROOM_OPEN_KIND r != 0
    if s.flag F.RMS_CMT_ADOPT k && !rs.isEmpty then (rs.foldl commitRoom s).bump F.RMS_CMT_COMMITS k else s) s
  let s2 := (roomsOf s1 g).foldl (fun s r =>
    let next := s.rd F.RMS_ROOM_NEXT_OWNER r
    let s3 := if s.rd F.RMS_ROOM_OWNER r = next then s else watchRoom (s.wr F.RMS_ROOM_OWNER r next) r
    abandonRoom (s3.wr F.RMS_ROOM_LOCK_EPOCH r (s.rd F.GRP_ENT_GEPOCH g)) r) s1
  modWell s2 fun w => { w with mute := w.mute ++ es.filter fun k => !w.mute.contains k }

/-- Rooms that a commit enables or disables (R281). -/
def roomsEnable (s : State) : State :=
  (List.range 128).foldl (fun s r =>
    let want := s.flag F.RMS_ROOM_NEXT_EN r
    if want && !roomOn s r then
      let g := s.rd F.RMS_ROOM_GID r
      let s1 := ((s.wr F.RMS_ROOM_EN r 1).wr F.RMS_ROOM_OWNER r (s.rd F.RMS_ROOM_NEXT_OWNER r)).wr F.RMS_ROOM_LOCK_EPOCH r
        (s.rd F.GRP_ENT_GEPOCH g)
      let s2 := (((s1.wr F.RMS_ROOM_CMT_GEN r 0).wr F.RMS_ROOM_BASE_GEN r 0).wr F.RMS_ROOM_JCMT r 0).wr F.RMS_ROOM_SNAP_LEN r 0
      watchRoom (abandonRoom (s2.wr F.RMS_ROOM_BSLOT r 0) r) r
    else if !want && roomOn s r then s.wr F.RMS_ROOM_EN r 0
    else s) s

/-! ## Heartbeats (R292) -/

def roomLate (s : State) (r : Nat) : Bool := bitAt (s.rd F.RMS_HB_LATE_LATE (r / 32)) (r % 32)

/-- The owner's heartbeat object has been still for MISS × IVL ms. -/
def heartStill (s : State) (r : Nat) : Bool :=
  let ms := s.rd0 F.RMS_HB_CFG_MISS * s.rd0 F.RMS_HB_CFG_IVL
  let so := s.rd0 F.RMS_HB_CFG_HB_BASE + s.rd F.RMS_ROOM_OWNER r
  let quiet := (s.tickCount % 2 ^ 32 + 2 ^ 32 - s.rd F.WEL_SO_LAST_TICK so) % 2 ^ 32
  decide (1000 * ms ≤ quiet) && decide (mgetD s.well.hb r 0 + 1000000 * ms ≤ s.now)

/-- The examination of every enabled room, once a millisecond. -/
def heartbeatCheck (s : State) : State :=
  if !s.flag F.RMS_HB_CFG_EN ∨ s.rd0 F.RMS_HB_CFG_MISS = 0 ∨ s.rd0 F.RMS_HB_CFG_IVL = 0 then s
  else
    ((List.range 128).filter fun r => roomOn s r && !roomLate s r && heartStill s r).foldl (fun s r =>
      (s.wr F.RMS_HB_LATE_LATE (r / 32) (putBits (s.rd F.RMS_HB_LATE_LATE (r / 32)) (r % 32) 1 1)).report 8 1 r) s

/-- Software clears LATE bits: those rooms' watch starts again. -/
def lateClear (s : State) (m : Master) (i val be : Nat) : State :=
  let was := s.rd F.RMS_HB_LATE_LATE i
  let s1 := writeWord s m .RMS_HB_LATE i 0 val be
  ((List.range 32).filter fun j => bitAt was j && !bitAt (s1.rd F.RMS_HB_LATE_LATE i) j).foldl (fun s j => watchRoom s (32 * i + j)) s1

end Sys2Proof.Machine
end

