-- ==== Sys2Proof/Machine/Sync.lean ====
section
/-! DEFINITION. Sync objects (09 R267 to R275): the operations, the scan of waiters, gates and room commits as internal
waiters, WEL_SO_CMD, the object's registers. -/

namespace Sys2Proof.Machine

open Sys2Proof

def soType (s : State) (n : Nat) : Nat := s.rd F.WEL_SO_TYPE n

/-- Registered waiters of an object, and consuming ones. -/
def soWaiters (s : State) (n : Nat) : List Waiter := s.well.waiters.filter (·.obj == n)

/-- Give V a value; LAST_TICK follows a change. -/
def setV (s : State) (n v : Nat) : State :=
  let s1 := (s.wr F.WEL_SO_VAL_LO n (v % 2 ^ 32)).wr F.WEL_SO_VAL_HI n (v / 2 ^ 32 % 2 ^ 32)
  if soValue s n = v then s1 else s1.wr F.WEL_SO_LAST_TICK n (s.tickCount % 2 ^ 32)

/-- The new V of an operation (R268), and whether a barrier completed. -/
def soApply (s : State) (n sop a0 a1 : Nat) : Nat × Bool :=
  let v := soValue s n
  let ty := soType s n
  if sop = 1 then ((v + a0) % 2 ^ 64, false)
  else if sop = 2 then (if v = a1 then a0 else v, false)
  else if sop = 5 then
    if ty = 3 then
      let c := min (v % 2 ^ 32 + a0 % 2 ^ 32) (2 ^ 32 - 1)
      let t := s.rd F.WEL_SO_TARGET n
      if t ≠ 0 ∧ c ≥ t then ((v / 2 ^ 32 + 1) % 2 ^ 32 * 2 ^ 32, true) else (v / 2 ^ 32 * 2 ^ 32 + c, false)
    else if ty = 4 then (a0, false)
    else ((v + a0) % 2 ^ 64, false)
  else (v, false)

/-- SO_NOTIFY to a waiter (R272). -/
def notify (s : State) (w : Waiter) (status : Nat) : State :=
  injectUnicast (s.cntW 17) (mkHdr 0x32 w.src 5 s.selfEid 8 0 0 w.opw0 status w.tag) (leBytes 8 (soValue s w.obj))

def dropWaiter (s : State) (w : Waiter) : State := modWell s fun x => { x with waiters := x.waiters.erase w }

def waiterHolds (w : Waiter) (v : Nat) : Bool := if w.ge then decide (v ≥ w.arg) else v == w.arg

/-- What a scan looks at: a waiter, or the gate of a group (R274). -/
inductive ScanItem where
  | waiter (w : Waiter)
  | gate (g : Nat)
  deriving DecidableEq, Repr

/-- The group's gate waits on an object. -/
def gateOn (s : State) (g n : Nat) : Bool :=
  (getGrp s g).gate.isSome && (launchDesc s g).any fun e => dW e.1 5 % 8192 == n

/-- The waiters of an object and the gates on it in registration order (R270, R274). -/
def scanItems (s : State) (n : Nat) : List ScanItem :=
  let ws := (soWaiters s n).map fun w => (w.no, ScanItem.waiter w)
  let gs := ((s.grps.map (·.1)).filter fun g => gateOn s g n).map fun g => (((getGrp s g).gate).getD 0, ScanItem.gate g)
  (sortBy (fun a b => decide (a.1 ≤ b.1)) (ws ++ gs)).map (·.2)

/-- The scan in registration order (R270); `stop` once a consuming waiter does not hold. -/
def scanList (n : Nat) : List ScanItem → Bool → State → State
  | [], _, s => s
  | .gate g :: ws, stop, s => scanList n ws stop (if gateOn s g n then launch s g else s)
  | .waiter w :: ws, stop, s =>
    let v := soValue s n
    if w.cons then
      if stop then scanList n ws stop s
      else if v ≥ w.arg then
        let s1 := setV (dropWaiter s w) n (v - w.arg)
        scanList n ws stop (notify s1 w 1)
      else scanList n ws true s
    else if waiterHolds w v then scanList n ws stop (notify (dropWaiter s w) w 1)
    else scanList n ws stop s

def scan (s : State) (n : Nat) : State := scanList n (scanItems s n) false s

/-- The generation field of an object has increased, whatever its type: room commits (R274, 10 R288). -/
def genUp (s0 s : State) (n : Nat) (completed : Bool) : State :=
  if completed || decide (soValue s0 n / 2 ^ 32 < soValue s n / 2 ^ 32) then roomCommits s n else s

/-- An operation that may change V, without its answer and scan. -/
def soDo (s : State) (n sop a0 a1 : Nat) : State :=
  let (v, done) := soApply s n sop a0 a1
  genUp s (setV s n v) n done

/-! ## SO_OP (R267 to R272) -/

def sendSo (s : State) (q : Header) (status v : Nat) : State :=
  injectUnicast s (rspHdr s q 0x31 8 q.opw0 0 status) (leBytes 8 v)

/-- Codes 0x0C, 0x02, 0x09 of an SO_OP. -/
def soCode (s : State) (q : Header) (data : List Byte) : Nat :=
  let sop := bits q.opw0 28 4
  let isWait := sop == 3 || sop == 4
  if decide (sop ≥ 7) || bits q.opw0 13 15 != 0 || (!isWait && q.opw1 != 0) || (!isWait && sop != 6 && q.opw2 != 0)
      || (sop != 2 && leNat ((data.drop 8).take 8) != 0) then 0x0C
  else if q.len ≠ 16 then 2
  else if soType s (q.opw0 % 8192) = 0 then 9
  else 0

/-- A wait arrives (R271). -/
def soWait (s : State) (q : Header) (n sop a0 : Nat) : State :=
  let v := soValue s n
  let cons := sop == 3 && soType s n == 2
  let queued := (soWaiters s n).any (·.cons)
  let holds := if sop = 3 then decide (v ≥ a0) else v == a0
  if holds && !(cons && queued) then
    if cons then
      let s1 := setV s n (v - a0)
      scan (sendSo s1 q 1 (soValue s1 n)) n
    else sendSo s q 1 v
  else if s.well.waiters.length ≥ 16384 then sendSo ((s.cntW 19).report 7 8 n) q 3 v
  else
    let w : Waiter := ⟨n, sop == 3, cons, a0, q.srcE, q.opw2, q.opw0, s.now, q.opw1, s.well.regNo⟩
    scan (sendSo (modWell s fun x => { x with waiters := x.waiters ++ [w], regNo := x.regNo + 1 }) q 2 v) n

/-- CANCEL: the requester's waiters with the tag. -/
def soCancel (s : State) (q : Header) (n : Nat) : State :=
  let mine := fun (w : Waiter) => w.obj == n && w.src == q.srcE && w.tag == q.opw2
  let k := (s.well.waiters.filter mine).length
  sendSo (modWell s fun x => { x with waiters := x.waiters.filter (!mine ·) }) q 0 k

/-- A sync operation is counted, whatever its answer (17 R470, R472): by a filter at an address that the spec does not state, free
(log 33). -/
def soCount (s : State) (priv : Nat) (lp : Option Nat) : State :=
  (countAccess (s.cntW 16) 0 priv 3 (Config.freeNat s.freeCtr % 2 ^ 48) 8 lp).tick

/-- An SO_OP reaches the objects. `want` is the operation that the command's row names: another valid operation is another
row's event. -/
def soOp (s0 : State) (pk : StPkt) (want : Nat) : State :=
  let q := pk.hdr
  let sop := bits q.opw0 28 4
  if sop < 7 ∧ sop ≠ want then s0
  else
    let s := takeStation s0 pk
    if q.dst ≠ s.selfEid then s
    else
      let n := q.opw0 % 8192
      let s2 := soCount s 3 (if pk.arr < 160 then some pk.arr else none)
      let c := if s.well.poolUntil.isSome then 0x0D else soCode s2 q pk.data
      if c ≠ 0 then sendErr s2 q c q.opw0 q.opw1
      else
        let a0 := leNat (pk.data.take 8)
        let a1 := leNat ((pk.data.drop 8).take 8)
        if sop = 3 ∨ sop = 4 then soWait s2 q n sop a0
        else if sop = 6 then soCancel s2 q n
        else if sop = 0 then sendSo s2 q 0 (soValue s2 n)
        else scan (sendSo (soDo s2 n sop a0 a1) q 0 (soValue s2 n)) n

/-- A waiter's timeout (R271): the `k`-th waiter of an object, once a tick boundary at or after its limit has come. -/
def soTimeout (s : State) (n k : Nat) : State :=
  match (soWaiters s n)[k]? with
  | none => s
  | some w =>
    if w.ticks = 0 ∨ s.now - s.fabric % 1000 < w.since + 1000 * w.ticks then s
    else notify ((dropWaiter s w).cntW 18) w 4

/-! ## WEL_SO_CMD -/

def soArg (s : State) (k : Nat) : Nat :=
  if k = 0 then s.rd0 F.WEL_SO_ARG0_HI_VAL * 2 ^ 32 + s.rd0 F.WEL_SO_ARG0_LO_VAL
  else s.rd0 F.WEL_SO_ARG1_HI_VAL * 2 ^ 32 + s.rd0 F.WEL_SO_ARG1_LO_VAL

/-- A write of WEL_SO_CMD. A command runs whole in its write, so BUSY is never seen set. -/
def soCmd (s0 : State) (m : Master) (val be : Nat) : State :=
  let sop := bits val 28 4
  let n := val % 8192
  let off := regOff .WEL_SO_CMD 0
  if !wholeBe be then s0.accessFault m 2 off
  else
    let s := soCount s0 (masterCode m - 1) none
    let a0 := soArg s 0
    let a1 := soArg s 1
    if !(sop == 0 || sop == 1 || sop == 2 || sop == 5) || (sop != 2 && a1 != 0) then s.wr0 F.WEL_SO_CSTAT_STATUS 0x0C
    else if soType s n = 0 then s.wr0 F.WEL_SO_CSTAT_STATUS 9
    else
      let old := soValue s n
      let s1 := ((s.wr0 F.WEL_SO_RES_LO_VAL (old % 2 ^ 32)).wr0 F.WEL_SO_RES_HI_VAL (old / 2 ^ 32)).wr0 F.WEL_SO_CSTAT_STATUS 0
      if sop = 0 then s1 else scan (soDo s1 n sop a0 a1) n

/-- The row of a WEL_SO_CMD operation: another valid operation is another row's. -/
def soCmdRow (s : State) (m : Master) (val be want : Nat) : State :=
  let sop := bits val 28 4
  if (sop = 0 ∨ sop = 1 ∨ sop = 2 ∨ sop = 5) ∧ sop ≠ want then s else soCmd s m val be

/-! ## The object's registers (R273) -/

/-- Every waiter of an object is removed with status 6. -/
def resetWaiters (s : State) (n : Nat) : State :=
  (soWaiters s n).foldl (fun s w => notify (dropWaiter s w) w 6) s

/-- A write to W0 or W1. -/
def soTypeWrite (s : State) (m : Master) (n w val be : Nat) : State :=
  if w = 0 ∧ fieldAfter s F.WEL_SO_TYPE n val be ≥ 5 then s.accessFault m 1 (regOff .WEL_SO n)
  else resetWaiters (writeWord s m .WEL_SO n w val be) n

/-- The key of a master's held write of VAL_LO (13 R370). -/
def soHoldKey (m : Master) (n : Nat) : Nat := masterCode m * 2 ^ 26 + regOff .WEL_SO n + 8

def soValLo (s : State) (m : Master) (n val be : Nat) : State :=
  { s with heldW := mput s.heldW (soHoldKey m n) (fieldAfter s F.WEL_SO_VAL_LO n val be) }

/-- A write to VAL_HI sets V with the held low word, or 0; a write that ends an entry's ignoring of completions is none
itself (10 R290). -/
def soValHi (s : State) (m : Master) (n val be : Nat) : State :=
  let lo := mgetD s.heldW (soHoldKey m n) 0
  let hi := fieldAfter s F.WEL_SO_VAL_HI n val be
  let s1 := setV { s with heldW := mdel s.heldW (soHoldKey m n) } n (hi * 2 ^ 32 + lo)
  let s3 := modWell (genUp s s1 n false) fun w => { w with mute := w.mute.filter fun k => !(entriesOf s n).contains k }
  scan s3 n

/-! ## The pool-domain reset's part in the well (R275, 15 R431) -/

/-- Requests not complete, waiters and migrations end. -/
def poolEnd (s : State) : State :=
  let s1 := s.well.queue.foldl (fun s r => match r.kind with
    | .apRead => apRefuse s r.addr
    | .apWrite => apRefuse s r.addr
    | .roomWrite => sendErr s r.hdr 0x0D r.hdr.opw0 r.hdr.opw1
    | .roomRead => sendErr s r.hdr 0x0D r.hdr.opw0 r.hdr.opw1
    | _ => refuse s r.hdr r.addr 0x0D) (modWell s fun w => { w with queue := [] })
  let s2 := s1.well.waiters.foldl (fun s w => notify (dropWaiter s w) w 6) s1
  let s3 := modWell s2 fun w => { w with migs := [] }
  match s2.well.migs with
  | [] => s3
  | m :: rest => rest.foldl (fun s m => hostDone s m.hop 0x0D 0 0 0) (migFail s3 m m.src 0x0D)

end Sys2Proof.Machine
end

