-- ==== Sys2Proof/Machine/Links.lean ====
section
/-! DEFINITION. Links and lanes (file 11) and the pause of a link (15 R428): bring-up, received blocks, the link control
word, replays, degraded width, electrical idle, eye scan, loopbacks, leaving UP. -/

namespace Sys2Proof.Machine

open Sys2Proof

/-! ## Lanes -/

def maskOf (ps : List Nat) : Nat := (ps.map fun p => 2 ^ p).foldl (· + ·) 0
def popCount (m : Nat) : Nat := ((List.range 8).filter (bitAt m)).length

/-- Positions that take part in the attempt. -/
def liveLanes (s : State) (lp : Nat) : List Nat := (positions s lp).filter fun p => !(getLane s (laneAt s lp p)).excluded

def minLanes (s : State) (lp : Nat) : Nat := max 1 (s.rd F.PRT_CTRL_WIDTH_MIN (lp / 2))

/-- Report a link kind of a logical port (R328). -/
def linkFault (s : State) (lp kind : Nat) (addr : Nat := lp) : State := s.report (0x100 + lp / 2) kind addr

/-! ## Stages (R314) -/

/-- The half of its port that a link is. -/
def halfOf (s : State) (lp : Nat) : Nat := if s.portMode (lp / 2) = 1 then lp % 2 else 0

/-- The CRC of a training frame: CRC-16/CCITT over its bits [63:16] (R315). -/
def crcFrame (v : Nat) : Nat := crc16 0x1021 0xFFFF ((leBytes 6 (v / 2 ^ 16)).reverse)

/-- The partner's lane position that reaches a lane position of this end, and the other way round: the receiver corrects the order of
a reversed link (R314, R316). -/
def rxPos (s : State) (lp pos : Nat) : Nat := if s.flag F.PRT_LSTAT_REVERSED lp then linkWidth s lp - 1 - pos else pos

/-- The lanes that the receiver accepts, by the partner's positions (R315, R316). -/
def rxMask (s : State) (lp : Nat) : Nat := maskOf ((liveLanes s lp).map (rxPos s lp))

/-- The training frame that a lane sends in a stage (R315). READY is set in RATE (R314) and where the sender has finished its part of
a stage; in EQ the frame carries what the lane's receiver asks of the partner's taps, which the spec does not give (log 28), and the
answer to the partner's requests (R317). -/
def trainFrame (s : State) (lp st pos : Nat) (ready : Bool := false) : Nat :=
  let l := laneAt s lp pos
  let v := 0x3CA5 * 2 ^ 48 + pos * 2 ^ 45 + b2n (s.portMode (lp / 2) == 2) * 2 ^ 44 + halfOf s lp * 2 ^ 43
    + rxMask s lp * 2 ^ 35 + b2n (st == 4 || ready) * 2 ^ 34 + b2n (s.rd F.PRT_CTRL_LOOP (lp / 2) == 3) * 2 ^ 32
    + (if st = 5 then Config.tapRequest l s.now % 16 else 0) * 2 ^ 28 + (getLane s l).sts % 16 * 2 ^ 24 + st * 2 ^ 20
  v + crcFrame v

/-- Codeword 0 on each lane, after the start-of-data frame (R314). What the words of the code hold until blocks flow is free
(log 120). -/
def startOfData (s : State) (lp : Nat) : State :=
  (liveLanes s lp).foldl (fun s p =>
    let l := laneAt s lp p
    let ws := (List.range 20).map fun i => (bitAt (Config.freeNat s.freeCtr) i, (List.range 32).map fun j => Config.freeByte (s.freeCtr + 32 * i + j))
    let ys := codewordLevels 0 ws
    ((modLane s l fun x => { x with txPrev := ys.getLastD 0 }).tick).emit (.levels l ys)) s

/-- The frames of a stage go out on the lanes that take part, with READY where this end's part of the stage is done; the one of
FEC_LOCK is the start-of-data frame, after which codewords run and no more frames; none go without the REFCLK (R313 to R315). -/
def sendFrames (s : State) (lp : Nat) (ready : Bool := false) : State :=
  let st := s.stage lp
  if 1 ≤ st ∧ st ≤ 6 ∧ s.pin.refclk = true then
    let s1 := s.emit (.train lp st ((liveLanes s lp).map fun p => trainFrame s lp st p ready))
    if st = 6 ∧ ready = false then startOfData s1 lp else s1
  else s

/-- For how many ns a lane's PRBS checker has run since its counts were cleared (R325). -/
def prbsTime (s : State) (l : Nat) : Nat :=
  (getLane s l).prbsNs + (((getLane s l).prbsAt).map (s.now - ·)).getD 0

/-- The bits a checker has checked ÷ 2^32, at 212.5 Gb/s (R301, R325). -/
def prbsBits (s : State) (l : Nat) : Nat := min (2 ^ 32 - 1) (prbsTime s l * 2125 / (10 * 2 ^ 32))

/-- The errors a checker has counted: none in the near-end parallel loop with the lane's own generator on, where the pattern is
turned back before the serializer; else what the spec does not give (R324, R325, log 76). -/
def prbsErrs (s : State) (l : Nat) : Nat :=
  let own := s.flag F.LNK_PRBS_TX_EN l && s.rd F.PRT_CTRL_LOOP (l / 8) == 2
  s.rd F.LNK_PRBS_ERR_COUNT l + (if (getLane s l).prbsAt.isNone || own then 0 else Config.prbs l s.now)

/-- A checker stops: both counts stay at what they have reached (R325). -/
def prbsFreeze (s : State) (l : Nat) : State :=
  if (getLane s l).prbsAt.isSome then
    modLane (s.wr F.LNK_PRBS_ERR_COUNT l (min (2 ^ 32 - 1) (prbsErrs s l))) l fun x => { x with prbsNs := prbsTime s l, prbsAt := none }
  else s

/-- A checker runs from now on where RX_EN is set and its port is in LOOP (R325). -/
def prbsStart (s : State) (l : Nat) : State :=
  if s.flag F.LNK_PRBS_RX_EN l && s.stage (linkOfLane s l).1 == 11 then
    modLane s l fun x => { x with prbsAt := some (x.prbsAt.getD s.now) }
  else s

/-- A generator runs where TX_EN is set, its port is in LOOP and does not echo (R325): its pattern goes out, precoded, where the
cable is driven (R324). It starts where the spec does not say (log 120); the first 124 bits are shown. -/
def prbsDrive (s : State) (l : Nat) : State :=
  let lp := (linkOfLane s l).1
  if s.flag F.LNK_PRBS_TX_EN l && s.stage lp == 11 && !s.flag F.PRT_LSTAT_LOOP_SLAVE lp then
    if (getLane s l).prbsGen.isSome then s
    else
      let (bs, r) := prbsRun 124 (Config.freeNat s.freeCtr % (2 ^ 31 - 1) + 1)
      let ys := precode (getLane s l).txPrev (grayPairs bs)
      let s1 := (modLane s l fun x => { x with prbsGen := some r, txPrev := ys.getLastD 0 }).tick
      if s.rd F.PRT_CTRL_LOOP (lp / 2) = 3 then s1.emit (.levels l ys) else s1
  else modLane s l fun x => { x with prbsGen := none }

/-- Enter a stage now: its training frames go out, and in LOOP the PRBS generators and checkers start. -/
def enterStage (s : State) (lp st : Nat) : State :=
  let s1 := modLink (s.wr F.PRT_LSTAT_STAGE lp st) lp fun l => { l with stageAt := s.now }
  if st = 11 then ((positions s lp).map (laneAt s lp)).foldl (fun s l => prbsDrive (prbsStart s l) l) s1 else sendFrames s1 lp

/-- Clear what a lane shows of the last bring-up; a PRBS checker stops and keeps its counts. -/
def clearLane (s0 : State) (l : Nat) : State :=
  let s := prbsFreeze s0 l
  let s1 := [F.LNK_STAT_LOCK, F.LNK_STAT_IN_USE, F.LNK_STAT_POL_INV, F.LNK_STAT_BAD, F.LNK_STAT_BADWHY, F.LNK_STAT_POS].foldl
    (fun s f => s.wr f l 0) s
  modLane s1 l fun x => { laneInit with prbsNs := x.prbsNs }

/-- The stage a link restarts in: OFF where the port is held off, LOOP in a near-end loop, else DETECT: a far-end loop trains
normally first (R324; DEDUCED, log 28). -/
def restartStage (s : State) (lp : Nat) : Nat :=
  let p := lp / 2
  if s.portMode p = 0 ∨ s.flag F.PRT_CTRL_EN p = false then 0
  else if s.rd F.PRT_CTRL_LOOP p = 1 ∨ s.rd F.PRT_CTRL_LOOP p = 2 then 11 else 1

/-- Start bring-up afresh, `wait` ns from now: the link layer forgets everything but its run of failures and its flush. -/
def startDetect (s : State) (lp : Nat) (wait : Nat := 0) : State :=
  let old := getLink s lp
  let s1 := ((positions s lp).map (laneAt s lp)).foldl clearLane s
  let s2 := resetFields s1 .PRT_LSTAT lp
  let s3 := (s2.wr F.PRT_PEER_VALID lp 0).wr F.PRT_PEER_MATCH lp 0
  let fresh := { linkInit with failRun := old.failRun, flushing := old.flushing, clkMode := s.rd F.PRT_CTRL_CLKMODE (lp / 2) }
  let s4 := (setLink s3 lp fresh).wr (if lp % 2 = 1 then F.PRT_PAUSE_PAUSED1 else F.PRT_PAUSE_PAUSED0) (lp / 2) 0
  if wait = 0 then enterStage s4 lp (restartStage s lp)
  else modLink (s4.wr F.PRT_LSTAT_STAGE lp (restartStage s lp)) lp fun l => { l with stageAt := s.now, retryAt := some (s.now + wait) }

/-- The links of a physical port in a mode. -/
def portLinks (mode p : Nat) : List Nat := if mode = 1 then [2 * p, 2 * p + 1] else [2 * p]

def linksOf (s : State) (p : Nat) : List Nat := portLinks (s.portMode p) p

/-- The bring-up that a port's reset began is over once each of its links has gone up, has failed or is not trained (15 R417). -/
def settleRunning (s : State) : State :=
  let trains := fun lp => decide (1 ≤ s.stage lp ∧ s.stage lp ≤ 9) && (getLink s lp).retryAt.isNone
  { s with rst := { s.rst with running := s.rst.running.filter fun p => (linksOf s p).any trains } }

/-- An attempt ends (R314): kind 0x34 once for each run of failures, then DETECT_IVL. -/
def attemptFail (s : State) (lp : Nat) : State :=
  let s1 := if (getLink s lp).failRun then s else linkFault s lp 0x34
  settleRunning
    (startDetect (modLink s1 lp fun l => { l with failRun := true }) lp (1000000 * s.rd F.PRT_LINK_CFG_DETECT_IVL (lp / 2)))

/-- DETECT_IVL after a failed attempt the link trains again, and takes its clocking mode (R312). -/
def bringupRetry (s : State) (lp : Nat) : State :=
  match (getLink s lp).retryAt with
  | none => s
  | some t =>
    if t ≤ s.now then
      sendFrames (modLink s lp fun l => { l with retryAt := none, stageAt := s.now, clkMode := s.rd F.PRT_CTRL_CLKMODE (lp / 2) }) lp
    else s

/-- Exclude lanes from the attempt. -/
def excludeLanes (s : State) (lp : Nat) (ps : List Nat) : State :=
  ps.foldl (fun s p =>
    let l := laneAt s lp p
    ((modLane s l fun x => { x with excluded := true }).wr F.LNK_STAT_BAD l 1).wr F.LNK_STAT_BADWHY l 3) s

/-- Go on to a stage with the lanes that are left, or end the attempt where too few are left in either direction: this end's, or
those that the partner's RMASK shows. A last frame of the stage that ends says READY (R315; DEDUCED, log 28). -/
def advanceStage (s0 : State) (lp st : Nat) : State :=
  let s := if s0.stage lp ≤ 5 then sendFrames s0 lp true else s0
  if (liveLanes s lp).length < minLanes s lp ∨ popCount ((getLink s lp).peerMask % 2 ^ linkWidth s lp) < minLanes s lp then
    attemptFail s lp
  else
    let s1 := (positions s lp).foldl (fun s p => modLane s (laneAt s lp p) fun x => { x with good := 0 }) s
    enterStage s1 lp st

/-! ## Leaving UP (R319), entering it (R318) -/

/-- A link leaves UP (R319, 03 R98, 05 R143, 08 R227). -/
def linkDown (s : State) (lp cause : Nat) : State :=
  if !s.linkUp lp then s
  else
    let s1 := linkFault (s.wr F.PRT_LERR_LAST_DOWN lp cause) lp 0x30
    let s2 := s1.wr F.PRT_LSTAT_STAGE lp 1
    let s3 := groupsLinkDown (flushPort s2 lp) lp
    let s4 := conditionChange (startDetect s3 lp) (some lp)
    settleGroups (modLink s4 lp fun l => { l with flushing := true })

/-- A link restarts at DETECT, leaving UP first where it stands there. -/
def restartLink (s : State) (lp cause : Nat) : State :=
  if s.linkUp lp then linkDown s lp cause else startDetect s lp

/-- A link in IDENT whose partner matches goes up once LOCK is 1 and its flush is done. -/
def tryUp (s : State) (lp : Nat) : State :=
  if s.stage lp = 9 ∧ s.flag F.PRT_PEER_VALID lp = true ∧ s.flag F.PRT_PEER_MATCH lp = true ∧ s.flag F.GLB_PLACE_LOCK = true
      ∧ (getLink s lp).flushing = false then
    conditionChange (settleRunning (modLink (enterStage s lp 10) lp fun l => { l with failRun := false })) (some lp)
  else s

/-- The flush of a link is over (03 R98). -/
def flushOver (s : State) (lp : Nat) : State := tryUp (flushDone s lp) lp

/-! ## Training frames (R315 to R317) -/

/-- A frame as the lane's receiver reads it: inverted where POL_INV is set; `none` when its CRC fails. -/
def readFrame (v : Nat) (inv : Bool) : Option Nat :=
  let x := if inv then 2 ^ 64 - 1 - v % 2 ^ 64 else v % 2 ^ 64
  if crcFrame x = x % 65536 then some x else none

/-- Move a tap as a request asks (R317): the tap and whether it stands at its limit. -/
def moveTap (req tap lim preset : Nat) : Nat × Bool :=
  if req = 1 then (if tap ≥ lim then (tap, true) else (tap + 1, false))
  else if req = 2 then (if tap = 0 then (0, true) else (tap - 1, false))
  else if req = 3 then (preset, false)
  else (tap, false)

/-- The partner's tap requests on a lane: the taps move where ADAPT is set, and a frame carries the answer (R317). -/
def tapRequests (s : State) (lp pos v : Nat) : State :=
  let l := laneAt s lp pos
  let rp := bits v 30 2
  let rq := bits v 28 2
  let answer := fun (s : State) => s.emit (.train lp 5 [trainFrame s lp 5 pos])
  if rp = 0 ∧ rq = 0 then s
  else if s.flag F.LNK_TXEQ_ADAPT l then
    let (pre, atPre) := moveTap rp (s.rd F.LNK_TXEQ_ACT_PRE l) 16 4
    let (post, atPost) := moveTap rq (s.rd F.LNK_TXEQ_ACT_POST l) 24 8
    let s1 := ((s.wr F.LNK_TXEQ_ACT_PRE l pre).wr F.LNK_TXEQ_ACT_POST l post).wr F.LNK_TXEQ_ACT_MAIN l (64 - pre - post)
    answer (modLane s1 l fun x => { x with sts := b2n atPre * 8 + b2n atPost * 4 + 2 })
  else answer (modLane s l fun x => { x with sts := 2 })

/-- The lane order is settled (R314, REVERSAL): the map that more lanes fit; a lane that does not fit it is excluded. -/
def settleReversal (s : State) (lp : Nat) : State :=
  let w := linkWidth s lp
  let ps := liveLanes s lp
  let lane := fun p => (getLane s (laneAt s lp p)).rxLane
  let fwd := ps.filter fun p => lane p == some p
  let rev := ps.filter fun p => lane p == some (w - 1 - p)
  let isRev := decide (fwd.length < rev.length)
  let fit := if isRev then rev else fwd
  let s1 := excludeLanes s lp (ps.filter fun p => !fit.contains p)
  let s2 := fit.foldl (fun s p => s.wr F.LNK_STAT_POS (laneAt s lp p) (if isRev then w - 1 - p else p)) s1
  advanceStage (s2.wr F.PRT_LSTAT_REVERSED lp (b2n isRev)) lp 4

/-- A good frame in its stage. -/
def frameInStage (s : State) (lp pos v : Nat) : State :=
  let l := laneAt s lp pos
  let st := s.stage lp
  let s1 := (modLane s l fun x => { x with good := x.good + 1 }).wr F.LNK_STAT_LOCK l 1
  let s2 := modLink s1 lp fun k => { k with peerMask := bits v 35 8 }
  if st = 1 then
    if bits v 44 1 ≠ b2n (s.portMode (lp / 2) == 2) then
      if (getLink s lp).failRun then s2 else linkFault (modLink s2 lp fun k => { k with failRun := true }) lp 0x34
    else if (getLane s2 l).good ≥ 16 then advanceStage s2 lp 2 else s2
  else if st = 2 then
    if (liveLanes s2 lp).all fun p => decide (0 < (getLane s2 (laneAt s2 lp p)).good) then advanceStage s2 lp 3 else s2
  else if st = 3 then
    let s3 := modLane s2 l fun x => { x with rxLane := some (bits v 45 3) }
    if (liveLanes s3 lp).all fun p => (getLane s3 (laneAt s3 lp p)).rxLane.isSome then settleReversal s3 lp else s3
  else if st = 4 then
    if bits v 34 1 = 0 ∨ (liveLanes s2 lp).head? ≠ some pos then s2
    else
      let n := (getLink s2 lp).rateCount + 1
      if n ≥ 64 then advanceStage s2 lp 5 else modLink s2 lp fun k => { k with rateCount := n }
  else if st = 5 then tapRequests s2 lp pos v
  else s2

/-- The partner asks for an echo (R324): the link enters LOOP as its slave. A port in a far-end loop of its own does not: what it
reads are its own frames, echoed. -/
def echoStart (s : State) (lp : Nat) : State :=
  if s.rd F.PRT_CTRL_LOOP (lp / 2) = 3 then s
  else linkFault ((enterStage (modLink s lp fun l => { l with retryAt := none }) lp 11).wr F.PRT_LSTAT_LOOP_SLAVE lp 1) lp 0x35

/-- A training frame arrives on a lane (R314, R315): 64 bits, the first as the most significant. A port that echoes sends it back
(R324). -/
def trainingFrame (s : State) (lp pos v : Nat) : State :=
  let l := laneAt s lp pos
  let st := s.stage lp
  if !s.lpExists lp ∨ pos ≥ linkWidth s lp ∨ (getLane s l).excluded = true then s
  else if s.flag F.PRT_LSTAT_LOOP_SLAVE lp then s.emit (.echo l v)
  else
    let flip := st == 2 && !s.flag F.LNK_STAT_POL_INV l && v / 2 ^ 48 == 0xC35A
    let s0 := if flip then s.wr F.LNK_STAT_POL_INV l 1 else s
    match readFrame v (s0.flag F.LNK_STAT_POL_INV l) with
    | none => if st = 1 then modLane s0 l fun x => { x with good := 0 } else s0
    | some x =>
      let echo := bits x 32 2 == 1 && s.rd F.PRT_CTRL_LOOP (lp / 2) != 3
      if st = 10 then
        let s1 := linkDown s0 lp 4
        if echo && s1.stage lp == 1 then echoStart s1 lp else s1
      else if echo && decide (1 ≤ st ∧ st ≤ 9) then echoStart s0 lp
      else if 1 ≤ st ∧ st ≤ 7 ∧ (getLink s lp).retryAt.isNone = true then frameInStage s0 lp pos x
      else s0

/-- A stage has exceeded its limit (R314). -/
def stageTimeout (s : State) (lp : Nat) : State :=
  let st := s.stage lp
  let k := getLink s lp
  let lim := if st = 5 then 30000000 else if st = 6 then 2000000 else 1000000
  if st < 2 ∨ st > 8 ∨ s.now < k.stageAt + lim ∨ (st = 8 ∧ k.stopped = true) then s
  else if st = 2 then
    advanceStage (excludeLanes s lp ((liveLanes s lp).filter fun p => (getLane s (laneAt s lp p)).good == 0)) lp 3
  else if st = 3 then settleReversal s lp
  else attemptFail s lp

/-- EQ ends (R314): `ready` are the lanes that have reached READY. -/
def eqDone (s : State) (lp ready : Nat) : State :=
  if s.stage lp ≠ 5 then s
  else advanceStage (excludeLanes s lp ((liveLanes s lp).filter fun p => !bitAt ready p)) lp 6

/-- FEC_LOCK ends: `bad` are the lanes with an uncorrectable codeword in the first millisecond. -/
def fecLockDone (s : State) (lp bad : Nat) : State :=
  if s.stage lp ≠ 6 then s
  else advanceStage (excludeLanes s lp ((liveLanes s lp).filter (bitAt bad))) lp 7

/-- Reserve and flex ceiling of a VC in cells (R310). -/
def rsvCells (s : State) (lp v : Nat) : Nat := 4 * s.rd F.PRT_CRED_RSV (lp * 8 + v)
def sumRsv (s : State) (lp : Nat) : Nat := ((List.range 8).map (rsvCells s lp)).foldl (· + ·) 0
def flexCells (s : State) (lp v : Nat) : Nat := s.rd F.PRT_CRED_FLEX_SH (lp * 8 + v) * (bufCells s lp - sumRsv s lp) / 16

/-- The masks of the lanes that carry words, and TXW and RXW. -/
def setMasks (s : State) (lp tx rx : Nat) : State :=
  (((s.wr F.PRT_LSTAT_TXMASK lp tx).wr F.PRT_LSTAT_RXMASK lp rx).wr F.PRT_LSTAT_TXW lp (popCount tx)).wr F.PRT_LSTAT_RXW lp (popCount rx)

/-- DESKEW ends and credit init begins (R311): `bad` are the lanes beyond 64 ns. A far-end loop has trained and enters LOOP
(R324; DEDUCED, log 28). -/
def deskewDone (s : State) (lp bad : Nat) : State :=
  if s.stage lp ≠ 7 then s
  else
    let s1 := excludeLanes s lp ((liveLanes s lp).filter (bitAt bad))
    let rx := rxMask s1 lp
    let tx := (getLink s lp).peerMask % 2 ^ linkWidth s lp
    if popCount tx < minLanes s lp ∨ popCount rx < minLanes s lp then attemptFail s1 lp
    else if s.rd F.PRT_CTRL_LOOP (lp / 2) = 3 then enterStage (setMasks s1 lp tx rx) lp 11
    else
      let refused := ((List.range 8).any fun v => rsvCells s lp v == 0) || decide (sumRsv s lp > bufCells s lp)
      let old := getLink s1 lp
      let mk := fun (f : Nat → Nat) => (List.range 8).foldl (fun m v => mset 0 m v (f v)) ([] : List (Nat × Nat))
      let fresh := { linkInit with failRun := old.failRun, flushing := old.flushing, clkMode := old.clkMode
                                   peerMask := old.peerMask, stopped := refused
                                   cred := mk (rsvCells s lp), flex := mk (flexCells s lp) }
      let s2 := setLink (setMasks s1 lp tx rx) lp fresh
      let s3 := (liveLanes s2 lp).foldl (fun s p =>
        modLane (s.wr F.LNK_STAT_IN_USE (laneAt s lp p) 1) (laneAt s lp p) fun x => { x with txWords := [], rxWords := [] }) s2
      let s4 := enterStage s3 lp 8
      if refused then linkFault s4 lp 0x36 else s4

/-! ## Identity (R318, 01 R31) -/

/-- The IDENT that this port sends. -/
def identHdr (s : State) (lp : Nat) : Header := mkHdr 0x01 0 0 s.selfEid 0 0 0 (2 ^ 24 + halfOf s lp * 256 + lp / 2) 0 0

/-- An IDENT is due: sent in IDENT until the partner's has come and LOCK is 1. -/
def identSend (s : State) (lp : Nat) : State :=
  if s.stage lp = 9 ∧ !(s.flag F.PRT_PEER_VALID lp && s.flag F.GLB_PLACE_LOCK) then portCell s lp (identHdr s lp) else s

/-- The partner's identity is the one expected (01 R31). -/
def identOk (s : State) (lp e pport : Nat) : Bool :=
  match s.partner lp with
  | none => false
  | some (x, p) => if s.isAccelPort lp then e / 16 == x / 16 else e == x && pport == p

def takeCtl (s : State) (p : StPkt) : State := modSw s fun w => { w with ctlQ := w.ctlQ.erase p }

/-- An IDENT arrives. -/
def identReceive (s0 : State) (p : StPkt) : State :=
  let s := takeCtl s0 p
  let lp := p.arr
  if s.stage lp ≠ 9 ∨ p.hdr.opcode ≠ 1 then s
  else
    let e := p.hdr.srcE
    let half := bits p.hdr.opw0 8 1
    let pport := bits p.hdr.opw0 0 7
    let ok := identOk s lp e pport
    let s1 := ((((s.wr F.PRT_PEER_VALID lp 1).wr F.PRT_PEER_MATCH lp (b2n ok)).wr F.PRT_PEER_HALF lp half).wr
      F.PRT_PEER_PPORT lp pport).wr F.PRT_PEER_EID lp e
    if ok then tryUp s1 lp else linkFault s1 lp 0x33 (lp + e * 2 ^ 8 + pport * 2 ^ 28 + half * 2 ^ 35)

/-! ## Degraded width (R320, R321) -/

/-- Drop a lane of a link in UP: a re-stripe begins with the burst that carries the new RMASK, or the link leaves UP. -/
def dropLane (s : State) (lp pos why : Nat) : State :=
  let l := laneAt s lp pos
  let rx := s.rd F.PRT_LSTAT_RXMASK lp
  let q := rxPos s lp pos
  if !s.linkUp lp ∨ bitAt rx q = false then s
  else
    let s1 := ((s.wr F.LNK_STAT_BAD l 1).wr F.LNK_STAT_BADWHY l why).wr F.LNK_STAT_IN_USE l 0
    let s2 := s1.report (0x100 + lp / 2) 0x31 l
    let s3 := setMasks s2 lp (s.rd F.PRT_LSTAT_TXMASK lp) (putBits rx q 1 0)
    if popCount (putBits rx q 1 0) < minLanes s lp then linkDown s3 lp 3
    else sendBurst (modLink s3 lp fun k => { k with restripe := true }) lp

/-- Lanes lose lock together: each is dropped, or the link leaves UP when none is left (R319, R320). -/
def lockLoss (s : State) (lp mask : Nat) : State :=
  let rx := s.rd F.PRT_LSTAT_RXMASK lp
  if !s.linkUp lp then s
  else
    let s1 := ((positions s lp).filter (bitAt mask)).foldl (fun s p => s.wr F.LNK_STAT_LOCK (laneAt s lp p) 0) s
    if Nat.land rx (maskOf (((positions s lp).filter (bitAt mask)).map (rxPos s lp))) = rx then linkDown s1 lp 1
    else ((positions s lp).filter (bitAt mask)).foldl (fun s p => dropLane s lp p 1) s1

/-- Resend every block not acknowledged, from the oldest, after the block in progress (R307, R308): kind 0x32, or cause 2 when the
oldest has been resent REPLAY_MAX times in a row. While a re-stripe runs nothing is sent; its end resends them (R321). -/
def replay (s : State) (lp : Nat) : State :=
  let k := getLink s lp
  match k.retry with
  | [] => s
  | b :: _ =>
    if k.restripe then s else
    let lim := s.rd F.PRT_LINK_CFG_REPLAY_MAX (lp / 2)
    let n := if k.resends ≠ 0 ∧ k.resendSeq = b.seq then k.resends else 0
    if lim ≠ 0 ∧ n ≥ lim ∧ s.linkUp lp = true then linkDown s lp 2
    else
      let s1 := modLink s lp fun k => { k with resends := n + 1, resendSeq := b.seq, ackAt := s.now, again := !k.txSlots.isEmpty }
      let s2 := linkFault (s1.bump F.PRT_LERR_REPLAYS lp) lp 0x32
      if k.txSlots.isEmpty then resendAll s2 lp else s2

/-- The re-stripe ends over the new masks (R321): the partner's RMASK gives the transmit lanes. Where the partner began it, this
end's own burst goes out first. -/
def restripeDone (s0 : State) (lp peer : Nat) : State :=
  if !s0.linkUp lp then s0
  else
    let s := if (getLink s0 lp).restripe then s0 else sendBurst s0 lp
    let tx := Nat.land (s.rd F.PRT_LSTAT_TXMASK lp) peer
    let s1 := setMasks s lp tx (s.rd F.PRT_LSTAT_RXMASK lp)
    if popCount tx < minLanes s lp then linkDown s1 lp 3
    else
      let s2 := modLink s1 lp fun k => { k with restripe := false }
      let s3 := resendAll s2 lp
      if tx = s.rd F.PRT_LSTAT_TXMASK lp then s3 else conditionChange s3 (some lp)

/-! ## Received blocks (R305 to R307) -/

/-- What the decoders found: counts, and lanes dropped at UNC_LIM within 1 ms (R320). -/
def fecCounts (s : State) (lp : Nat) (fs : List LaneFec) : State :=
  fs.foldl (fun s f =>
    let l := laneAt s lp f.pos
    let s1 := s.bump F.LNK_FEC_CORR_COUNT l f.corr
    if !f.unc then s1
    else
      let ts := (s.now :: (getLane s l).unc).filter fun t => decide (s.now < t + 1000000)
      let s2 := modLane (s1.bump F.LNK_FEC_UNC_COUNT l) l fun x => { x with unc := ts }
      let lim := s.rd F.PRT_LINK_CFG_UNC_LIM (lp / 2)
      if lim ≠ 0 ∧ ts.length ≥ lim then dropLane s2 lp f.pos 2 else s2) s

/-- Gather a block's two LCW bits (R306). -/
def gatherLcw (k : Link) (two : Nat) (ok : Bool) : Link :=
  let j := k.rxCount % 32
  let w := (if j = 0 then 0 else k.rxLcw) + two * 2 ^ (2 * j)
  let all := (j == 0 || k.rxLcwOk) && ok
  { k with rxCount := k.rxCount + 1, rxLcw := w, rxLcwOk := all
           rxEarly := if j = 6 ∧ all = true then some (w % 2 ^ 14) else k.rxEarly
           rxReady := if j = 31 ∧ all = true then some w else k.rxReady }

/-- A block has been put together; `unc` says that a word of it lies in an uncorrectable codeword (R305, R307). -/
def takeBlock (s1 : State) (lp : Nat) (b : RxBlock) (unc : Bool) : State :=
  let k := getLink s1 lp
  let good := !unc && b.crc == blockCrc k.rxSeq b.slots b.lcw
  let s2 := setLink s1 lp (gatherLcw k b.lcw good)
  if good then
    let s3 := modLink s2 lp fun k => { k with rxSeq := (k.rxSeq + 1) % 4096, replayWait := false, nak := false }
    let cells := b.slots.zipIdx.filter fun e => !e.1.isIdle
    cells.foldl (fun s e =>
      let c := e.1
      receiveCell (modLink s lp fun k => { k with grant := mset 0 k.grant c.vc (mgetD k.grant c.vc 0 - 1) }) lp c
        (b.par.contains e.2)) s3
  else if k.replayWait then
    if unc then modLink s2 lp fun k => { k with nak := true } else s2
  else modLink (s2.bump F.PRT_LERR_BAD_BLOCKS lp) lp fun k => { k with replayWait := true, nak := true }

/-- The lane that carries the word `k` of the received stream: at place k mod w of the active lanes in the partner's order (R302,
R316). -/
def wordLane (s : State) (lp k : Nat) : Nat :=
  let act := (positions s lp).filter fun p => bitAt (s.rd F.PRT_LSTAT_RXMASK lp) p
  laneAt s lp (rxPos s lp ((act[k % max 1 act.length]?).getD 0))

/-- Take the word `k` of the received stream from its lane. -/
def takeWord (s : State) (lp k : Nat) : Option (((Bool × List Byte) × Bool) × State) :=
  let l := wordLane s lp k
  match (getLane s l).rxWords with
  | [] => none
  | w :: r => some (w, modLane s l fun x => { x with rxWords := r })

/-- Take the next `n` words of the received stream, if they have all come. -/
def takeWords (lp : Nat) : Nat → Nat → State → Option (List ((Bool × List Byte) × Bool) × State)
  | 0, _, s => some ([], s)
  | n + 1, k, s =>
    (takeWord s lp k).bind fun e => (takeWords lp n (k + 1) e.2).map fun r => (e.1 :: r.1, r.2)

/-- A block from its 34 words (R303). -/
def blockOf (ws : List (Bool × List Byte)) (par : List Nat) : RxBlock :=
  let (bytes, trailer) := wordsBlock ws
  let cell := fun i =>
    let words := (List.range 17).map fun j => BitVec.ofNat 32 (leNat ((bytes.drop (68 * i + 4 * j)).take 4))
    (⟨words.headD 0, words.drop 1⟩ : Cell)
  ⟨(List.range 16).map cell, trailer / 2 ^ 32, trailer % 2 ^ 32, [], par, none⟩

/-- The blocks whose words have all come are taken in order. The slots that fail their hand-off are numbered on through them. -/
def takeBlocks (lp : Nat) : Nat → List Nat → State → State
  | 0, _, s => s
  | n + 1, par, s =>
    if !blocksFlow s lp then s
    else match takeWords lp 34 (getLink s lp).rxWord s with
      | none => s
      | some (ws, s1) =>
        let s2 := modLink s1 lp fun k => { k with rxWord := k.rxWord + 34 }
        takeBlocks lp n ((par.filter (16 ≤ ·)).map (· - 16))
          (takeBlock s2 lp (blockOf (ws.map (·.1)) (par.filter (· < 16))) (ws.any (·.2)))

/-- A codeword arrives on a lane: its levels are recovered and its words wait for their blocks (R301, R302). -/
def codeReceive (s : State) (lp pos : Nat) (ys : List Nat) (unc : Bool) (par : List Nat) : State :=
  if !bitAt (s.rd F.PRT_LSTAT_RXMASK lp) (rxPos s lp pos) then s
  else
    let s1 := modLane s (laneAt s lp pos) fun x =>
      { x with rxWords := x.rxWords ++ (levelsWords x.rxPrev ys).map (·, unc), rxPrev := ys.getLastD 0 }
    takeBlocks lp 8 par s1

/-- A block arrives on a link, or a codeword on one of its lanes; a port that echoes sends a codeword back (R324). -/
def blockReceive (s : State) (lp : Nat) (b : RxBlock) : State :=
  match b.code with
  | some c =>
    let l := laneAt s lp c.1
    if s.flag F.PRT_LSTAT_LOOP_SLAVE lp then s.emit (.levels l c.2)
    else if s.stage lp = 6 ∨ s.stage lp = 7 then modLane s l fun x => { x with rxPrev := c.2.getLastD 0 }
    else if !blocksFlow s lp ∨ (getLink s lp).stopped = true then s
    else
      let s1 := fecCounts s lp b.fec
      if blocksFlow s1 lp then codeReceive s1 lp c.1 c.2 (b.fec.any fun f => f.pos == c.1 && f.unc) b.par else s1
  | none =>
    if !blocksFlow s lp ∨ (getLink s lp).stopped = true then s
    else
      let s1 := fecCounts s lp b.fec
      if blocksFlow s1 lp then takeBlock s1 lp b (b.fec.any (·.unc)) else s1

/-- An acknowledgement frees the blocks before it. -/
def takeAck (s : State) (lp a : Nat) : State :=
  let k := getLink s lp
  let kept := k.retry.dropWhile fun b => (a + 4096 - b.seq) % 4096 ≠ 0 && decide ((a + 4096 - b.seq) % 4096 ≤ 256)
  if kept.length = k.retry.length then s
  else modLink s lp fun k => { k with retry := kept, ackAt := s.now, resends := 0 }

/-- The parts of an LCW that have been gathered are acted on (R306, R307, R310): ACK and NAK, then the limits. The second
KIND ends CREDIT_INIT (R314). -/
def lcwReceive (s : State) (lp : Nat) : State :=
  let k := getLink s lp
  let s1 := match k.rxEarly with
    | none => s
    | some w =>
      let s2 := takeAck (modLink s lp fun k => { k with rxEarly := none }) lp (w % 4096)
      if bitAt w 12 then replay s2 lp else s2
  match k.rxReady with
  | none => s1
  | some w =>
    if !blocksFlow s1 lp then s1
    else
      let kind := bits w 13 1
      let lims := [0, 1, 2, 3].foldl (fun m i => mset 0 m (4 * kind + i) (bits w (14 + 12 * i) 12)) (getLink s1 lp).limIn
      let kinds := Nat.lor (getLink s1 lp).rxKinds (2 ^ kind)
      let s2 := modLink s1 lp fun k => { k with rxReady := none, limIn := lims, rxKinds := kinds }
      let s3 := [0, 1, 2, 3].foldl (fun s i => touchElig s lp (4 * kind + i)) s2
      if s3.stage lp = 8 ∧ kinds = 3 ∧ (getLink s3 lp).stopped = false then enterStage s3 lp 9 else s3

/-- LCW_BUILD: the word of the run that starts now (R310). In electrical idle the counts stand still and none starts (R322). -/
def lcwBuild (s : State) (lp : Nat) : State :=
  let k := getLink s lp
  if blocksFlow s lp ∧ s.flag F.PRT_LSTAT_EIDLE_TX lp = false ∧ k.txCount % 32 = 0 ∧ k.lcwRun ≠ some k.txCount then buildLcw s lp else s

/-- The replay timer (R308). -/
def replayTimeout (s : State) (lp : Nat) : State :=
  let k := getLink s lp
  let t := s.rd F.PRT_LINK_CFG_REPLAY_TO (lp / 2)
  if t ≠ 0 ∧ k.retry ≠ [] ∧ blocksFlow s lp ∧ k.ackAt + 100 * t ≤ s.now then replay s lp else s

/-! ## Electrical idle (R322) -/

/-- An LCW field that would be sent differs from the last sent. -/
def lcwChanged (s : State) (lp : Nat) : Bool :=
  let k := getLink s lp
  let l := (List.range 8).foldl (fun l v => grantVc s lp v l) k
  k.txLcw % 4096 != k.rxSeq || k.nak || l.limOut != k.limOut

/-- A cell is ready for a link's transmitter. -/
def cellReady (s : State) (lp : Nat) : Bool := (getLink s lp).ctlOut != [] || (List.range 8).any (eligible s lp)

/-- The three conditions under which a transmitter may go idle: no cell ready, no LCW field changed, every block acknowledged. -/
def idleOk (s : State) (lp : Nat) : Bool :=
  s.linkUp lp && !cellReady s lp && !lcwChanged s lp && (getLink s lp).retry.isEmpty && (getLink s lp).txSlots.isEmpty

/-- Keep the time since which a link's transmitter could be idle. -/
def idleTouch (s : State) (lp : Nat) : State :=
  let on := idleOk s lp
  modLink s lp fun k => { k with idleSince := if on then some (k.idleSince.getD s.now) else none }

/-- The same for every link that has state. -/
def idleTouchAll (s : State) : State := (s.links.map (·.1)).foldl idleTouch s

def eidleEnter (s : State) (lp : Nat) : State :=
  let k := getLink s lp
  let t := s.rd F.PRT_CTRL_EIDLE_T (lp / 2)
  let brake := s.flag F.PWR_STAT_BRAKE
  let waited := k.idleSince.any fun a => decide (a + 100 * t ≤ s.now)
  if idleOk s lp ∧ (brake ∨ (t ≠ 0 ∧ waited)) then
    s.wr F.PRT_LSTAT_EIDLE_TX lp 1
  else s

def eidleExit (s : State) (lp : Nat) : State :=
  if s.flag F.PRT_LSTAT_EIDLE_TX lp ∧ (cellReady s lp || lcwChanged s lp) then sendBurst (s.wr F.PRT_LSTAT_EIDLE_TX lp 0) lp
  else s

/-! ## Eye scan, loopbacks (R323 to R325) -/

def escanGo (s : State) (l : Nat) : State :=
  let (lp, _) := linkOfLane s l
  if s.flag F.LNK_ESCAN_BUSY l ∨ s.stage lp < 5 then s
  else if s.rd F.LNK_ESCAN_LOG2N l = 0 then s.wr F.LNK_ESCAN_ERR_ERR l 0
  else (s.wr F.LNK_ESCAN_BUSY l 1).wr F.LNK_ESCAN_GO l 1

def escanDone (s : State) (l n : Nat) : State :=
  if s.flag F.LNK_ESCAN_BUSY l then
    ((s.wr F.LNK_ESCAN_BUSY l 0).wr F.LNK_ESCAN_GO l 0).wr F.LNK_ESCAN_ERR_ERR l (min n (2 ^ 32 - 1))
  else s

/-- The echo's training frames have stopped (R324). -/
def echoEnd (s : State) (lp : Nat) : State := if s.flag F.PRT_LSTAT_LOOP_SLAVE lp then startDetect s lp else s

/-! ## PRT_CTRL -/

/-- The effects of a change of PRT_CTRL's EN and LOOP, and of RETRAIN. -/
def portCtl (s : State) (p : Nat) (oldEn oldLoop : Nat) (retrain : Bool) : State :=
  if oldEn ≠ s.rd F.PRT_CTRL_EN p ∨ oldLoop ≠ s.rd F.PRT_CTRL_LOOP p ∨ retrain = true then
    if s.portMode p = 0 then s else (linksOf s p).foldl (fun s lp => restartLink s lp 5) s
  else s

/-- A write of PRT_CTRL. -/
def prtCtrlWrite (s : State) (m : Master) (p val be : Nat) : State :=
  let s1 := writeWord s m .PRT_CTRL p 0 val be
  portCtl s1 p (s.rd F.PRT_CTRL_EN p) (s.rd F.PRT_CTRL_LOOP p) (bitAt val 30 && bitAt be 3)

/-- REFCLK is lost (R313): every link leaves UP and no port trains. -/
def refclkPorts (s : State) (cause : Nat) : State :=
  (List.range 160).foldl (fun s lp => if s.lpExists lp then restartLink s lp cause else s) s

/-! ## Pause (15 R428) -/

def pausedField (lp : Nat) : Field := if lp % 2 = 1 then F.PRT_PAUSE_PAUSED1 else F.PRT_PAUSE_PAUSED0

/-- A PAUSE packet of KIND 0. -/
def pauseReceive (s0 : State) (p : StPkt) : State :=
  let s := takeCtl s0 p
  let lp := p.arr
  if !s.linkUp lp ∨ p.hdr.opcode ≠ 3 ∨ bits p.hdr.opw0 24 8 ≠ 0 then s
  else
    let s1 := (s.wr (pausedField lp) (lp / 2) 1).wr F.PRT_PAUSE_LAST_DUR (lp / 2) (min 16383 (p.hdr.opw0 % 65536))
    linkFault (modLink s1 lp fun k => { k with pausedAt := some s.now }) lp 0x37

/-- A PAUSE packet of KIND 1. -/
def resumeReceive (s0 : State) (p : StPkt) : State :=
  let s := takeCtl s0 p
  let lp := p.arr
  if p.hdr.opcode ≠ 3 ∨ bits p.hdr.opw0 24 8 ≠ 1 then s
  else modLink (s.wr (pausedField lp) (lp / 2) 0) lp fun k => { k with pausedAt := none }

/-- LIMIT passes without RESUME. -/
def pauseLimit (s : State) (lp : Nat) : State :=
  let lim := s.rd F.PRT_PAUSE_LIMIT (lp / 2)
  match (getLink s lp).pausedAt with
  | none => s
  | some t => if lim ≠ 0 ∧ s.linkUp lp ∧ t + 1000000 * lim ≤ s.now then linkFault (linkDown s lp 7) lp 0x38 else s

/-! ## The place (01 R27 to R32) -/

/-- A port's mode or power has changed: its old links go, its new ones start. -/
def portModeChange (s : State) (p old : Nat) : State :=
  let gone := (portLinks old p).filter fun lp => !(linksOf s p).contains lp
  let s1 := gone.foldl (fun s lp => { (resetFields (resetFields s .PRT_LSTAT lp) .PRT_PEER lp) with links := mdel s.links lp }) s
  (linksOf s1 p).foldl startDetect s1

/-- The ports follow a place just written. -/
def followPlace (s0 s : State) : State :=
  (List.range 80).foldl (fun s p => if s0.portMode p = s.portMode p then s else portModeChange s p (s0.portMode p)) s

/-- The place is refused (01 R27). -/
def placeRefused (s : State) : Bool :=
  let e := s.selfEid
  eidMalformed e || decide (eidKind e < 2) || s.rows == 0 || decide (s.rows > 8) || s.cols == 0 || decide (s.cols > 8)
  || (eidKind e == 2 && (decide (eidRow e ≥ s.rows) || decide (eidCol e ≥ s.cols)))
  || (eidKind e == 3 && ((if eidSlot e < 8 then decide (eidSlot e ≥ s.rows) else decide (eidSlot e - 8 ≥ s.cols))
        || eidRow e != 0 || eidCol e != 0 || s.flag F.GLB_HOST_PLACE_HOST_EP_EN))

/-- An identity that stands recorded in IDENT is judged against the place as it is written now (01 R31; DEDUCED, log 24). -/
def rejudge (s : State) (lp : Nat) : State :=
  let e := s.rd F.PRT_PEER_EID lp
  let pport := s.rd F.PRT_PEER_PPORT lp
  let ok := identOk s lp e pport
  if s.stage lp ≠ 9 ∨ s.flag F.PRT_PEER_VALID lp = false ∨ s.flag F.PRT_PEER_MATCH lp = ok then s
  else
    let s1 := s.wr F.PRT_PEER_MATCH lp (b2n ok)
    if ok then s1 else linkFault s1 lp 0x33 (lp + e * 2 ^ 8 + pport * 2 ^ 28 + s.rd F.PRT_PEER_HALF lp * 2 ^ 35)

/-- A write of GLB_PLACE: locked, it is ignored; else its fields are written, the ports follow, and LOCK is judged. -/
def placeWrite (s : State) (m : Master) (val be : Nat) : State :=
  let off := regOff .GLB_PLACE 0
  if s.flag F.GLB_PLACE_LOCK then s.accessFault m 1 off
  else
    let s1 := (List.range 160).foldl rejudge (followPlace s (writeWord s m .GLB_PLACE 0 0 val be fun f => f != F.GLB_PLACE_LOCK))
    if bitAt val 31 && bitAt be 3 then
      if placeRefused s1 then s1.accessFault m 1 off
      else (List.range 160).foldl tryUp (s1.wr0 F.GLB_PLACE_LOCK 1)
    else s1

end Sys2Proof.Machine
end

