-- ==== Sys2Proof/Machine/Pumps.lean ====
section
/-! DEFINITION. Pumps: sweeps and their outputs, residue mismatches, retirement and spares, self-tests, cistern parity
(file 07, R185 to R190, R207 to R214). -/

namespace Sys2Proof.Machine

open Sys2Proof

def pumpInit : Pump := ⟨[], 0, false, false⟩
def getPump (s : State) (n : Nat) : Pump := mgetD s.pumps n pumpInit
def modPump (s : State) (n : Nat) (f : Pump → Pump) : State := { s with pumps := mset pumpInit s.pumps n (f (getPump s n)) }

/-- PMP_POOL counts the pumps by state. -/
def poolCount (s : State) : State :=
  let cnt := fun (p : Nat → Bool) => ((List.range 168).filter fun n => p (pumpState s n)).length
  ((s.wr0 F.PMP_POOL_ACTIVE (cnt (· == 0))).wr0 F.PMP_POOL_SPARES (cnt (· == 1))).wr0 F.PMP_POOL_RETIRED (cnt (· ≥ 2))

/-- Every chunk in the station, with its group. -/
def allChunks (s : State) : List (Nat × Chunk) :=
  s.grps.flatMap fun e => ((e.2.op.map (·.chunks)).getD []).map fun c => (e.1, c)

/-- A pump runs a sweep. -/
def isSweeping (s : State) (n : Nat) : Bool := (allChunks s).any fun e => e.2.stage == 2 && e.2.sweeper == n

/-- The pump that takes over a retired one's chunks: its replacement, or that one's, by REPL (07 R187, R189). The fuel bounds
the steps. -/
def replOf (s : State) : Nat → Nat → Option Nat
  | 0, _ => none
  | k + 1, n =>
    if pumpState s n = 0 then some n
    else
      let r := s.rd F.PMP_STAT_REPL n
      if r < 168 ∧ r ≠ n then replOf s k r else none

/-- A chunk waits for a sweep by a pump: not yet swept, in its own cistern or in one handed to it (07 R189). -/
def waitsFor (s : State) (n : Nat) (g : Nat) (c : Chunk) : Bool :=
  decide (c.stage ≤ 1) && c.lines != 0 && ((getGrp s g).op.any fun o => sweeps o.d)
    && (replOf s 168 (c.failedOn.getLastD c.pump) == some n)

/-- The ACTIVE pump with the fewest chunks waiting, the lowest number on a tie (07 R189). -/
def leastBusy (s : State) : Option Nat :=
  let load := fun n => ((allChunks s).filter fun e => waitsFor s n e.1 e.2).length
  (List.range 168).foldl (fun (b : Option Nat) n =>
    if pumpState s n ≠ 0 then b
    else match b with
      | none => some n
      | some m => if load n < load m then some n else b) none

/-- The pump that sweeps a chunk (07 R189, R208): its cistern's, or the replacement of the one that retired over it; without
one the least busy. -/
def sweeperFor (s : State) (c : Chunk) : Option Nat :=
  match replOf s 168 (c.failedOn.getLastD c.pump) with
  | some r => if c.failedOn.contains r then leastBusy s else some r
  | none => leastBusy s

/-- The array of a pump stops: what it was sweeping waits for a sweep afresh (07 R186). -/
def stopSweeps (s : State) (n : Nat) : State :=
  { s with grps := s.grps.map fun e => (e.1, { e.2 with op := e.2.op.map fun o => { o with
      chunks := o.chunks.map fun c => if c.stage = 2 ∧ c.sweeper = n then { c with stage := 1, retried := false } else c } }) }

/-- Give a chunk up (07 R211): it is freed and reported, and its operation ends with 0x04. A chunk that is gone already is not
given up again. -/
def giveUpChunk (s : State) (g : Nat) (c : Chunk) : State :=
  match (getGrp s g).op with
  | none => s
  | some o =>
    if o.chunks.any (·.idx == c.idx) then
      let s1 := ((freeLines s c).report 6 5 c.pump).cntU c.pump 5
      settleGroups (raiseAbort (modOp s1 g fun o => { o with chunks := o.chunks.filter (·.idx != c.idx) }) g o.seq 4)
    else s

/-- With no ACTIVE pump left, every chunk that still needs a sweep is given up (07 R211). -/
def giveUpAll (s : State) : State :=
  if (List.range 168).any fun n => pumpState s n == 0 then s
  else
    let due := (allChunks s).filter fun e => decide (e.2.stage ≤ 2) && e.2.lines != 0 && (getGrp s e.1).op.any fun o => sweeps o.d
    due.foldl (fun s e => giveUpChunk s e.1 e.2) s

/-- Retire a pump with a cause (07 R186, R187). -/
def retirePump (s : State) (n cause : Nat) : State :=
  let st := pumpState s n
  let s0 := modPump s n fun p => { p with retireNext := 0, testPass := false, soft := [] }
  if st = 1 then
    poolCount (((s0.wr F.PMP_STAT_STATE n 3).wr F.PMP_STAT_CAUSE n cause).report 6 2 n)
  else if st = 0 then
    let s1 := stopSweeps (((s0.wr F.PMP_STAT_STATE n 2).wr F.PMP_STAT_CAUSE n cause).report 6 2 n) n
    match (List.range 168).find? fun k => pumpState s1 k == 1 with
    | some k => poolCount ((s1.wr F.PMP_STAT_STATE k 0).wr F.PMP_STAT_REPL n k)
    | none =>
      let s2 := s1.wr F.PMP_STAT_REPL n ((leastBusy s1).getD 0xFF)
      giveUpAll (conditionChange (poolCount (s2.report 6 4 n)) none)
  else s

/-! ## What a sweep computes (07 R194 to R206, 08 R223 to R235) -/

/-- A contributor's elements. -/
def linkElems (o : GrpOp) (c : Chunk) (l : GLink) (spine : Bool) : List RawElem :=
  let ps := gotOf c l
  unpackElems (opIn o.d) c.elems (if spine then stageJoin ps else ps.flatMap id)

/-- A contributor's accumulators: a member's elements, or the XP partial of a child. -/
def linkAccs (o : GrpOp) (c : Chunk) (l : GLink) (spine : Bool) : List Acc :=
  if spine ∧ usesXp o.d = true then stageAccs (gotOf c l)
  else (linkElems o c l spine).map fun e => Acc.ofNum (decodeElem (opIn o.d) e.1 e.2)

/-- Elementwise fold of the contributions under SUM, MIN or MAX. -/
def foldAccs (red : Nat) (isInt : Bool) (n : Nat) : List (List Acc) → List Acc
  | [] => List.replicate n (Acc.init isInt)
  | a :: r =>
    let start := if red = 0 then a.map (Acc.add (Acc.init isInt)) else a
    r.foldl (fun b x => List.zipWith (if red = 0 then Acc.add else if red = 1 then Acc.min else Acc.max) b x) start

/-- Column `i` of the contributions' raw elements. -/
def rawColumn (xs : List (List RawElem)) (i : Nat) : List Nat := xs.map fun l => (l.getD i (0, 127)).1

/-- The outputs of a reduction: accumulators, or raw elements for binary64 and the bitwise operators. -/
inductive SweepOut where
  | accs (as_ : List Acc)
  | raw (vs : List Nat)
  deriving DecidableEq, Repr

/-- The contributors of an operation in the order of the lowest rank that each covers (07 R203). The children of a spine stand so
by position where CREATE_SHAPE made the group; else the entry does not say (log 23). -/
def foldLinks (s : State) (g : Nat) (o : GrpOp) : List GLink :=
  (if s.isSpine && !(getGrp s g).shaped.isSome then
    sortBy (fun a b => decide (Config.childLow g a.1 ≤ Config.childLow g b.1)) o.ranks
  else o.ranks).map (·.2)

def sweepReduce (o : GrpOp) (c : Chunk) (ls : List GLink) (spine : Bool) : SweepOut :=
  let d := o.d
  if opRed d ≤ 2 ∧ opIn d ≠ 4 then
    .accs (foldAccs (opRed d) (fmtInt (opIn d)) c.elems (ls.map fun l => linkAccs o c l spine))
  else
    let cols := ls.map fun l => linkElems o c l spine
    .raw ((List.range c.elems).map fun i =>
      if opRed d ≥ 3 then foldBits (opRed d) (rawColumn cols i) else fold64 (opRed d) (rawColumn cols i))

/-- The final elements of a reduction in OTYPE with their flags. -/
def sweepFinal (o : GrpOp) : SweepOut → List Byte × Nat
  | .accs as_ => let (es, fl) := roundOut (opOut o.d) as_; (packElems (opOut o.d) es, fl)
  | .raw vs =>
    (packElems (opOut o.d) (vs.map fun v => (v, 127)),
      if opOut o.d = 4 then vs.foldl (fun fl v => Nat.lor fl (binFlags 4 v)) 0 else 0)

/-- The partial of a reduction as staged payloads. -/
def sweepPartial (o : GrpOp) : SweepOut → List (List Byte)
  | .accs as_ => xpPackets (as_.length + 1) 0 as_
  | .raw vs => nativePackets (opIn o.d) 0 (packElems (opIn o.d) (vs.map fun v => (v, 127)))

/-- The elements that the slices of an admitted entry hold, gathered from the expert outputs of its host (08 R235). -/
def expertSlice (o : GrpOp) (c : Chunk) (e : RouteEnt) : List RawElem :=
  let f := opIn o.d
  let x := e.expert.getD 0
  let lx := x % 2 ^ opXPRL o.d
  match linkOfRank o (x / 2 ^ opXPRL o.d) with
  | none => []
  | some l =>
    let parts := (gotOf c l).filter fun p =>
      let h := leNat (p.take 8)
      bits h 16 6 == lx && bits h 0 16 == e.slot.getD 0
    let sorted := sortBy (fun a b => decide (a.1 ≤ b.1)) (parts.map fun p => (bits (leNat (p.take 8)) 49 12, p.drop 8))
    sorted.flatMap fun p => unpackElems f (elemsIn f p.2.length) p.2

/-- One token's weighted sum (07 R204, 08 R235). -/
def combineToken (o : GrpOp) (c : Chunk) (r : RouteRec) (src tok : Nat) : List Acc :=
  let es := admittedOf r [(src, tok)]
  es.foldl (fun acc e =>
    List.zipWith Acc.add acc ((expertSlice o c e).map fun x => Acc.ofNum (mulWeight e.weight (decodeElem (opIn o.d) x.1 x.2))))
    (List.replicate o.ec (Acc.init false))

/-- The results of a COMBINE chunk and its flags. -/
def combineItems (s : State) (g : Nat) (o : GrpOp) (c : Chunk) (r : RouteRec) : List ResItem × Nat :=
  let outs := (combineTokens o.d (s.rd F.GRP_ENT_NRANK g) c.idx).map fun t =>
    (t, roundOut (opOut o.d) (combineToken o c r t.1 t.2))
  (outs.flatMap fun e =>
    match linkOfRank o e.1.1 with
    | some l => (slicePackets (opOut o.d) e.1.2 e.1.1 0 0 (o.ec / 32 + 1) 0 e.2.1).map fun p => ⟨[l], p, 0, 2, none⟩
    | none => [],
   outs.foldl (fun fl e => Nat.lor fl e.2.2) 0)

/-- Lane-cycles of a sweep (07 R190), from the formats of what arrives. -/
def laneCycles (s : State) (g : Nat) (o : GrpOp) (c : Chunk) : Nat :=
  let d := o.d
  if opCode d = 7 then
    match (getGrp s g).route with
    | some r => (admittedOf r (combineTokens d (s.rd F.GRP_ENT_NRANK g) c.idx)).length * o.ec
    | none => 0
  else if s.isSpine ∧ usesXp d = true then
    ((c.got.flatMap (·.2)).map fun p =>
      let q := stagePart p
      q.body.length / xpBytes q.width * (if q.width = 2 then 2 else 1)).foldl (· + ·) 0
  else
    let n := c.elems * o.ranks.length
    if opIn d = 4 ∧ opRed d = 0 then 4 * n
    else if opIn d = 0x0A ∨ opIn d = 0x0B ∨ opIn d = 0x0C then (n + 1) / 2
    else n

/-- A clean sweep's outputs go out. -/
def sweepOutputs (s : State) (g : Nat) (o : GrpOp) (c : Chunk) : State :=
  if opCode o.d = 7 then
    match (getGrp s g).route with
    | some r =>
      let (items, fl) := combineItems s g o c r
      sendResults s g c.idx fl (items ++ recordItems s g o c.idx)
    | none => s
  else
    let r := sweepReduce o c (foldLinks s g o) s.isSpine
    if s.isSpine then
      if midSpine s g then spineResults s g o c 0 1 (sweepPartial o r)
      else
        let (bs, fl) := sweepFinal o r
        spineResults s g o c fl 0 (nativePackets (opOut o.d) 0 bs)
    else if isStaged s g then partialMade s g c.idx (sweepPartial o r)
    else
      let (bs, fl) := sweepFinal o r
      memberResults s g o c fl bs

/-! ## Sweeps (07 R189, R208, R209) -/

def findChunk (s : State) (g idx stage : Nat) : Option Chunk :=
  (getGrp s g).op.bind fun o => o.chunks.find? fun c => c.idx == idx && c.stage == stage

/-- A pump begins to sweep a full chunk. -/
def sweepStart (s : State) (g idx : Nat) : State :=
  match findChunk s g idx 1, (getGrp s g).op with
  | some c, some o =>
    if !sweeps o.d then s
    else match sweeperFor s c with
      | none => giveUpChunk s g c
      | some n =>
        if isSweeping s n || s.flag F.PMP_TEST_BUSY n then s
        else modChunk s g idx fun c => { c with stage := 2, sweeper := n }
  | _, _ => s

/-- A failed line is tested with four patterns; `bad` says that one failed (07 R213). -/
def linePattern (s : State) (n : Nat) (bad : Bool) : State := if bad then retirePump s n 3 else s

/-- A cistern word fails its parity check: counted and reported (07 R213). -/
def cisternParity (s : State) (n : Nat) : State := (s.bump F.PMP_ERRCNT_PARITY n).report 6 3 n

/-- The soft limit of first-sweep mismatches is reached now (07 R209). -/
def softReached (s : State) (times : List Nat) : Bool :=
  let lim := s.rd0 F.PMP_CFG_SOFT_LIM
  let win := s.rd0 F.PMP_CFG_SOFT_WIN
  lim != 0 && win != 0 && decide ((times.filter fun t => decide (s.now ≤ t + 1000000 * win)).length ≥ lim)

/-- A sweep of a chunk by pump `n` ran for `lc` lane-cycles (07 R190, 17 R469): twice as long over the pump crossbar. -/
def countSweep (s : State) (c : Chunk) (n lc : Nat) : State :=
  let cyc := (lc + 63) / 64 + 48
  (s.cntU n 1 lc).cntU n 2 (if n = c.pump then cyc else 2 * cyc)

/-- A cistern word fails its parity check in a sweep: the chunk is given up, the line tested, and a pump that was to retire at the
sweep's end retires (07 R211, R213; for the soft limit DESIGN CHOICE, log 112). How far the sweep had come is free (log 111). -/
def sweepParity (s0 : State) (g : Nat) (o : GrpOp) (c : Chunk) (bad : Bool) : State :=
  let n := c.sweeper
  let s := (countSweep s0 c n (Config.freeNat s0.freeCtr % (laneCycles s0 g o c + 1))).tick
  let s1 := linePattern (giveUpChunk (cisternParity s c.pump) g c) c.pump bad
  let soon := (getPump s n).retireNext
  if soon = 0 then s1 else retirePump s1 n soon

/-- The sweep of a chunk has a mismatch for the second time on a pump: it retires, and another sweeps the chunk unless two have
failed over it (07 R208). -/
def secondMismatch (s : State) (g : Nat) (c : Chunk) : State :=
  let c2 : Chunk := { c with stage := 1, retried := false, failedOn := c.failedOn ++ [c.sweeper] }
  let s1 := retirePump (modChunk s g c.idx fun _ => c2) c.sweeper 1
  if c2.failedOn.length ≥ 2 then giveUpChunk s1 g c2 else s1

/-- The sweep of a chunk has a mismatch for the first time on a pump: it is swept again there, unless the pump was to retire at
the sweep's end (07 R208, R209, R211). -/
def firstMismatch (s : State) (g : Nat) (c : Chunk) : State :=
  let n := c.sweeper
  let times := (s.now :: (getPump s n).soft).take 256
  let s1 := (modPump (s.bump F.PMP_ERRCNT_MISMATCH n) n fun p => { p with soft := times }).cntU n 3
  if (getPump s n).retireNext = 5 then retirePump (modChunk s1 g c.idx fun c => { c with stage := 1 }) n 5
  else
    let s2 := modChunk s1 g c.idx fun c => { c with retried := true }
    if softReached s2 times then modPump s2 n fun p => { p with retireNext := 2 } else s2

/-- A sweep without a mismatch: its outputs go out. -/
def sweepClean (s : State) (g : Nat) (o : GrpOp) (c : Chunk) : State :=
  let n := c.sweeper
  let soon := (getPump s n).retireNext
  let s1 := s.cntU n 0
  let s2 := if n = c.pump then s1 else s1.cntU n 4
  let s3 := settleGroups (sweepOutputs (modChunk s2 g c.idx fun c => { c with stage := 1 }) g o c)
  if soon ≠ 0 then retirePump s3 n soon else s3

/-- A sweep ends. `mismatch` is the residue check's finding; `parity` says that a cistern word failed, with the outcome of the
line's pattern test. -/
def sweepDone (s : State) (g idx : Nat) (mismatch : Bool) (parity : Option Bool) : State :=
  match findChunk s g idx 2, (getGrp s g).op, parity with
  | some c, some o, some bad => sweepParity s g o c bad
  | some c, some o, none =>
    let s1 := countSweep s c c.sweeper (laneCycles s g o c)
    if !mismatch then sweepClean s1 g o c
    else
      let s2 := s1.report 6 1 c.sweeper
      if c.retried then secondMismatch s2 g c else firstMismatch s2 g c
  | _, _, _ => s

/-! ## States of a pump (07 R186, R187, R210) -/

/-- A DRAINING pump whose cistern holds no chunk is RETIRED. -/
def pumpDrained (s : State) (n : Nat) : State :=
  let holds := (allChunks s).any (fun e => e.2.pump == n && e.2.lines != 0)
    || s.grps.any fun e => e.2.route.any fun r => r.pump == n && r.lines != 0
  if pumpState s n = 2 ∧ holds = false then poolCount (s.wr F.PMP_STAT_STATE n 3) else s

/-- PMP_CTRL.RETIRE: at the end of the sweep that runs. -/
def pumpRetire (s : State) (n : Nat) : State :=
  if pumpState s n > 1 then s
  else if isSweeping s n then modPump s n fun p => { p with retireNext := 5 }
  else retirePump s n 5

def pumpTestGo (s : State) (n : Nat) : State := if s.flag F.PMP_TEST_BUSY n then s
  else (s.wr F.PMP_TEST_BUSY n 1).wr F.PMP_CTRL_TEST_GO n 1

/-- A pump's self-test ends with its number of failures (R210). -/
def pumpTestEnd (s : State) (n nfail : Nat) : State :=
  let ok := nfail == 0
  let s1 := (((s.wr F.PMP_TEST_BUSY n 0).wr F.PMP_CTRL_TEST_GO n 0).wr F.PMP_TEST_PASS n (b2n ok)).wr F.PMP_TEST_NFAIL n
    (min 65535 nfail)
  if ok then modPump s1 n fun p => { p with testPass := decide (pumpState s1 n ≥ 2) }
  else
    let s2 := s1.report 6 6 n
    if pumpState s2 n ≤ 1 then retirePump s2 n 4 else modPump s2 n fun p => { p with testPass := false }

/-- A self-test ends with the number of vectors that failed. -/
def pumpTestDone (s : State) (n nfail : Nat) : State :=
  if s.flag F.PMP_TEST_BUSY n = false ∨ isSweeping s n = true then s else pumpTestEnd s n nfail

/-- PMP_CTRL.RESTORE after a passed self-test: SPARE. It begins afresh with CAUSE 0 and REPL 0xFF (DESIGN CHOICE, log
113). -/
def pumpRestore (s : State) (m : Master) (n : Nat) : State :=
  if pumpState s n = 3 ∧ (getPump s n).testPass = true then
    poolCount (((s.wr F.PMP_STAT_STATE n 1).wr F.PMP_STAT_CAUSE n 0).wr F.PMP_STAT_REPL n 0xFF)
  else s.accessFault m 1 (regOff .PMP_CTRL n)

/-- The route chunk that a DISPATCH keeps is lost: its record and lines are freed and reported, and the operation that runs ends
with 0x04 (07 R211, 08 R229). -/
def giveUpRoute (s : State) (g n : Nat) : State :=
  let s1 := ((dropRoute s g).report 6 5 n).cntU n 5
  match (getGrp s1 g).op with
  | some o => settleGroups (raiseAbort s1 g o.seq 4)
  | none => s1

/-- The scrubber finds a parity failure in a line of a pump: the chunk there is given up, or the route record that holds its
lines (07 R213, R214). -/
def cisternScrub (s : State) (n : Nat) (fail : Bool) (at_ : Option (Nat × Nat)) (bad : Bool) : State :=
  if s.rd0 F.PMP_SCRUB_IVL = 0 ∨ fail = false ∨ (pumpState s n ≠ 0 ∧ pumpState s n ≠ 2) then s
  else
    let s1 := cisternParity s n
    let hit : Option (Nat × Chunk) := at_.bind fun a =>
      (allChunks s).find? fun e => e.1 == a.1 && e.2.idx == a.2 && e.2.pump == n && e.2.lines != 0
    let s2 := match hit with
      | some (g, c) => giveUpChunk s1 g c
      | none =>
        match at_ with
        | some (g, 0) => if (getGrp s1 g).route.any fun r => r.pump == n && r.lines != 0 then giveUpRoute s1 g n else s1
        | _ => s1
    linePattern s2 n bad

/-- A pump that was to retire at the end of a sweep which an abort has stopped: by RETIRE it retires now, for its mismatches it
does not (07 R211). In the safe state the pumps stand still (15 R424). -/
def settlePumps (s : State) : State :=
  let due := (s.pumps.filter fun e => e.2.retireNext != 0).map (·.1)
  if s.flag F.FLT_STAT_SAFE then s
  else due.foldl (fun s n =>
    if isSweeping s n then s
    else if (getPump s n).retireNext = 5 then retirePump s n 5
    else modPump s n fun p => { p with retireNext := 0 }) s

/-! ## Outputs read from a cistern as they leave (07 R213) -/

/-- The group, sequence number and chunk from whose cistern lines the station sends a packet: a RESULT, or a CONTRIB with a partial
or with what members gave. -/
def cisternTag (p : PktRec) : Option ResTag :=
  p.res.or (if p.arr == 161 && p.hdr.opcode == 0x12 then some ⟨p.hdr.gid, p.hdr.seq, p.hdr.opw1, 0⟩ else none)

/-- The chunk whose output a port serves next, with its group, and the packet. -/
def servedResult (s : State) (lp : Nat) : Option (Nat × Chunk × PktRec × Target) :=
  (servedPkt s lp).bind fun x => (cisternTag x.1).bind fun r =>
    match (getGrp s r.gid).op with
    | some o => if o.seq = r.seq then (o.chunks.find? (·.idx == r.chunk)).map fun c => (r.gid, c, x.1, x.2) else none
    | none => none

/-- A cell slot in which the output served is read from its cistern with a bad word: its packet ends as R47 of file 02 has it, its
chunk is given up and the line tested, `bad` being the outcome (07 R211, R213; DEDUCED, log 96). -/
def egressCistern (s : State) (lp : Nat) (par : Option Nat) (tx bad : Bool) : State :=
  match servedResult s lp with
  | none => egressSlot s lp par tx
  | some (g, c, p, t) =>
    let s1 := egressSlot (spoilNext s p.pid t.id) lp par tx
    linePattern (giveUpChunk (cisternParity s1 c.pump) g c) c.pump bad

/-- The pump domain is reset (15 R430): cisterns cleared, sweeps stopped, operations that held space end with 0x04. -/
def pumpDomainReset (s : State) : State :=
  let holders := (s.grps.filter fun e => e.2.op.any fun o => o.chunks.any (·.lines != 0) || e.2.route.any (·.lines != 0)).map (·.1)
  let s1 := holders.foldl (fun s g => match (getGrp s g).op with
    | some o => raiseAbort s g o.seq 4
    | none => s) s
  let s2 := { s1 with grps := s1.grps.map fun e => (e.1, { e.2 with route := none }) }
  let s3 := (List.range 168).foldl (fun s n =>
    let keep := pumpState s n
    let s4 := resetFields s .PMP_STAT n (fun f => f != F.PMP_STAT_STATE)
    let s5 := resetFields (resetFields s4 .PMP_TEST n) .PMP_CIST n
    (resetFields (resetFields s5 .PMP_CTRL n) .PMP_ERRCNT n).wr F.PMP_STAT_STATE n keep) (resetFields s2 .PMP_FREQ 0)
  { s3 with pumps := [], pumpHold := some s.now }

end Sys2Proof.Machine
end

