-- ==== Sys2Proof/Machine/Gates.lean ====
section
/-! DEFINITION. When the chip and its blocks take part in an event: powered and out of reset, not in the safe state, not in a
core warm reset; who may write registers; the FAULT_N pin and the safe state (15 R420 to R425); what a reset does to run
state (13 R384, R510); MSI-X (12 R355). -/

namespace Sys2Proof.Machine

open Sys2Proof

/-! ## Part-takers -/

/-- Powered, out of reset, with its PLLs locked (19 R498). -/
def chipOn (s : State) : Bool := s.pin.supplies && s.pin.perst && !s.pin.waitClk

/-- The safe state (15 R423). -/
def isSafe (s : State) : Bool := s.flag F.FLT_STAT_SAFE

/-- A core warm reset runs (15 R427). -/
def inCoreReset (s : State) : Bool := s.rst.coreAt.isSome

/-- An event of a part that works whenever the chip is out of reset, the safe state included. -/
def whenOn (s : State) (f : State → State) : State := if chipOn s then f s else s

/-- An event of a part that the safe state stops (15 R424). -/
def whenLive (s : State) (f : State → State) : State := if chipOn s && !isSafe s then f s else s

/-- An event of the core blocks, which a core warm reset halts too (15 R427). -/
def whenCore (s : State) (f : State → State) : State := if chipOn s && !isSafe s && !inCoreReset s then f s else s

/-- The role of a Gesta core (14 R386): 0 OFF, 1 BOOT, 2 STANDBY, 3 ACTIVE. -/
def coreRole (s : State) (c : Nat) : Nat := if c = 0 then s.rd0 F.GMC_STAT_ROLE0 else s.rd0 F.GMC_STAT_ROLE1
def setRole (s : State) (c v : Nat) : State := if c = 0 then s.wr0 F.GMC_STAT_ROLE0 v else s.wr0 F.GMC_STAT_ROLE1 v

/-- The ACTIVE core. -/
def activeCore (s : State) : Option Nat := [0, 1].find? fun c => coreRole s c == 3

/-- The arbiter executes a master's writes: Gesta's only from the ACTIVE core (14 R387); none in the safe state
(15 R425), and none of the host's in D3hot (12 R330, log 4). -/
def mayWrite (s : State) (m : Master) : Bool :=
  chipOn s && !isSafe s && (match m with
    | .gesta c => decide (c < 2) && coreRole s c == 3
    | .host => s.host.pcie.dstate != 3
    | .sideband => true)

/-! ## FAULT_N and ALIVE (15 R420, R421) -/

/-- FAULT_N is driven low. -/
def faultLow (s : State) : Bool :=
  s.pin.supplies && s.pin.perst && (s.pin.waitClk || s.flag F.FLT_PIN_LATCH || s.flag F.FLT_PIN_FORCE
    || s.flt.latchAt.any (fun t => decide (s.now < t + 10000)) || isSafe s
    || s.rd0 F.GMC_STAT_STAGE == 0x0E || s.rd0 F.GMC_STAT_STAGE == 0x0F)

/-- The conditions under which ALIVE toggles. -/
def aliveHolds (s : State) : Bool :=
  chipOn s && !isSafe s && s.rd0 F.GMC_STAT_STAGE == 8 && (activeCore s).isSome

/-- ALIVE follows its conditions: held low when one ceases. -/
def settleAlive (s : State) : State :=
  if aliveHolds s then (if s.flag F.FLT_STAT_ALIVE_RUN then s else s.wr0 F.FLT_STAT_ALIVE_RUN 1)
  else { s.wr0 F.FLT_STAT_ALIVE_RUN 0 with pin := { s.pin with alive := false } }

/-- A PIN reaction, or any setting of LATCH. -/
def setLatch (s : State) : State :=
  if s.flag F.FLT_PIN_LATCH then s
  else { s.wr0 F.FLT_PIN_LATCH 1 with flt := { s.flt with latchAt := some s.now } }

/-- Ten µs after LATCH set, only LATCH itself still holds FAULT_N low. -/
def faultMinEnd (s : State) : State :=
  if s.flt.latchAt.any fun t => decide (t + 10000 ≤ s.now) then { s with flt := { s.flt with latchAt := none } } else s

/-! ## The safe state (15 R423, R424) -/

/-- Enter the safe state: every fabric transmitter drives electrical idle, in whatever stage its link stands (15 R424), with ERR_FATAL and the AER status of an Uncorrectable Internal Error (bit 22, log 4). An EPO in the cycle of another cause is the cause recorded (16 R461). -/
def safeEnter (s : State) (cause where_ : Nat) : State :=
  if isSafe s then
    if cause = 4 ∧ s.flt.safeAt = some s.now then (s.wr0 F.FLT_STAT_CAUSE 4).wr0 F.FLT_STAT_WHERE 0 else s
  else
    let s1 := ((s.wr0 F.FLT_STAT_SAFE 1).wr0 F.FLT_STAT_CAUSE cause).wr0 F.FLT_STAT_WHERE where_
    let s2 := (List.range 160).foldl (fun s lp => if s.lpExists lp then s.wr F.PRT_LSTAT_EIDLE_TX lp 1 else s) s1
    let s3 := { s2 with flt := { s2.flt with safeAt := some s.now }
                        host := { s2.host with pcie := { s2.host.pcie with aer := Nat.lor s2.host.pcie.aer (2 ^ 22) } } }
    settleAlive (s3.emit .errFatal)

/-! ## What a reset returns to its reset value (13 R384) -/

/-- Run state and counters: event status, state, go bits and counts, not what software alone sets. -/
def Access.isRun : Access → Bool
  | .ro => true
  | .w1c => true
  | .w1s => true
  | .sc => true
  | .wo => true
  | .ctr => true
  | _ => false

/-- The field whose key is `k`, with its instance. -/
def fieldAt (k : Nat) : Option (Field × Nat) :=
  match locate (k / 32 * 4) with
  | none => none
  | some (r, i, w) => ((fieldsOf r).find? fun f => f.word == w && f.lsb == k % 32).map fun f => (f, i)

/-- Return to its reset value every field that `gone` holds of, both copies. -/
def dropFields (s : State) (gone : Field → Nat → Bool) : State :=
  let keep := fun (m : List (Nat × Nat)) => m.filter fun e => match fieldAt e.1 with
    | some (f, i) => !gone f i
    | none => true
  { s with regs := ⟨keep s.regs.plain, keep s.regs.shadow, keep s.regs.live⟩ }

/-- A BAR0 offset lies in a block. -/
def inBlock (off lo hi : Nat) : Bool := decide (lo ≤ off) && decide (off < hi)

/-- The blocks of a core warm reset: TIM, SWC, GRP, PMP, WEL, RMS, TEL. -/
def coreBlock (off : Nat) : Bool :=
  inBlock off 0x300000 0x400000 || inBlock off 0x800000 0x1000000 || inBlock off 0x2000000 0x3E00000

/-- The blocks of a pool-domain reset: WEL and RMS. -/
def poolBlock (off : Nat) : Bool := inBlock off 0x3000000 0x3C00000

/-- What a core warm reset keeps of its blocks' run state (13 R510, 15 R431), the pool-domain reset of WEL's and RMS's. -/
def keptByWarm (f : Field) : Bool :=
  [RegName.GRP_ENT, .SWC_BANK_STAT, .TIM_TT_STAT, .TIM_CMT_STAT, .TIM_PHASE_ERR, .TIM_NOW_LO, .TIM_NOW_HI, .WEL_STAT,
    .WEL_FWD, .WEL_CTX_OPEN].contains f.reg
  || [F.TIM_STAT_VALID, F.TIM_STAT_HOLDOVER, F.WEL_DEV_OUT, F.WEL_MIR_STATE, F.PMP_STAT_STATE, F.PMP_STAT_CAUSE, F.PMP_STAT_REPL,
      F.PMP_POOL_ACTIVE, F.PMP_POOL_SPARES, F.PMP_POOL_RETIRED].contains f
  || (f.reg == .RMS_ROOM && f != F.RMS_ROOM_OPEN_KIND && f != F.RMS_ROOM_OPEN_HIGH)

/-- Held writes and latches of a block's pairs go with its run state. -/
def dropHeld (s : State) (blk : Nat → Bool) : State :=
  { s with latch := s.latch.filter fun e => !blk (e.1 % 2 ^ 26)
           heldW := s.heldW.filter fun e => !blk (e.1 % 2 ^ 26) }

/-- The register effect of a core warm reset. -/
def warmRegs (s : State) : State :=
  dropHeld (dropFields s fun f i => f.acc.isRun && coreBlock (regOff f.reg i) && !keptByWarm f) coreBlock

/-- The register effect of a pool-domain reset. -/
def poolRegs (s : State) : State :=
  dropHeld (dropFields s fun f i => f.acc.isRun && poolBlock (regOff f.reg i) && !keptByWarm f) poolBlock

/-! ## MSI-X (12 R355) -/

/-- A vector is held back: by its own mask or by the function's. -/
def msixHeld (s : State) (vec : Nat) : Bool := s.host.pcie.msixMask || s.rd F.MSIX_TABLE_MASK vec == 1

/-- Send an MSI-X message, or set its pending bit while the vector is held back; none goes while MSI-X is not enabled or the function is
in D3hot (12 R330, R355, log 4). -/
def sendMsix (s : State) (vec : Nat) : State :=
  if !s.host.pcie.msixOn || s.host.pcie.dstate == 3 then s
  else if msixHeld s vec then
    s.wr F.MSIX_PBA_PEND (vec / 32) (Nat.lor (s.rd F.MSIX_PBA_PEND (vec / 32)) (2 ^ (vec % 32)))
  else s.emit (.msix vec)

/-- A vector is held back no longer: its pending message goes. -/
def msixUnmask (s : State) (vec : Nat) : State :=
  let w := s.rd F.MSIX_PBA_PEND (vec / 32)
  if msixHeld s vec = false ∧ s.host.pcie.msixOn = true ∧ bitAt w (vec % 32) = true then
    (s.wr F.MSIX_PBA_PEND (vec / 32) (w - 2 ^ (vec % 32))).emit (.msix vec)
  else s

end Sys2Proof.Machine
end

