-- ==== Sys2Proof/Machine/HostRings.lean ====
section
/-! DEFINITION. The host's rings: enabling, doorbells, descriptor fetch, completions and their interrupts, the resets of the
host interface (file 12, R331 to R344, R355). -/

namespace Sys2Proof.Machine

open Sys2Proof

/-! ## Operations in the host interface -/

def opKind (o : HostOp) : Nat := bits (dW o.words 0) 28 4
def opTag (o : HostOp) : Nat := dW o.words 0 % 65536
def opFence (o : HostOp) : Bool := bitAt (dW o.words 0) 27

/-- Every kind but RECV_POST and NOP holds an operation slot from its fetch to its completion entry (R337). -/
def takesSlot (o : HostOp) : Bool := opKind o != 9 && opKind o != 15

def slotsUsed (s : State) : Nat := (s.host.ops.filter fun e => takesSlot e.2).length
def ringInflight (s : State) (r : Nat) : Nat := (s.host.ops.filter fun e => e.2.ring == r && takesSlot e.2).length
def modOp1 (s : State) (n : Nat) (f : HostOp → HostOp) : State :=
  match mget s.host.ops n with
  | some o => { s with host := { s.host with ops := mput s.host.ops n (f o) } }
  | none => s

/-- The completion ring of an operation. -/
def opCq (s : State) (o : HostOp) : Nat := s.rd F.HST_CR_CQ o.ring

/-- Completions held for a completion ring (stage 3). -/
def heldOf (s : State) (q : Nat) : List Nat :=
  s.host.ready.filter fun n => (mget s.host.ops n).any fun o => o.stage == 3 && opCq s o == q

/-- The host interface reports an event (R365). -/
def hstFault (s : State) (kind addr : Nat) : State := s.report 3 kind addr

/-! ## Rings' control words (R335, R344) -/

/-- A STOPPING ring whose last operation slot is free is DISABLED. -/
def settleRing (s : State) (r : Nat) : State :=
  if s.rd F.HST_CR_STATE r = 2 ∧ ringInflight s r = 0 then s.wr F.HST_CR_STATE r 0 else s

/-- A ring stops: ERR and kind 0x01. -/
def stopRing (s : State) (r err : Nat) : State := hstFault ((s.wr F.HST_CR_STATE r 3).wr F.HST_CR_ERR r err) 1 r

/-- Fields that may not change while a command ring is not DISABLED. -/
def crLocked (f : Field) : Bool :=
  [F.HST_CR_LOG2N, F.HST_CR_CQ, F.HST_CR_BASE_LO, F.HST_CR_BASE_HI, F.HST_CR_KINDMASK].contains f

def cqLocked (f : Field) : Bool := [F.HST_CQ_LOG2N, F.HST_CQ_BASE_LO, F.HST_CQ_BASE_HI].contains f

/-- Write the fields of a word but those that are locked, and but `apart`, whose write has rules of its own; an access fault when a
locked one would change (log 37). -/
def guardedWrite (s : State) (m : Master) (r : RegName) (i w val be : Nat) (locked : Field → Bool) (apart : Field → Bool := fun _ => false) :
    State :=
  let bad := ((wordFields r w).filter locked).any fun f => f.acc.writable && fieldAfter s f i val be != s.rdSw f i
  let s1 := writeWord s m r i w val be fun f => !locked f && !apart f
  if bad then s1.accessFault m 1 (regOff r i + 4 * w) else s1

/-- A write of a word of HST_CR. -/
def crWrite (s : State) (m : Master) (r w val be : Nat) : State :=
  let busy := s.rd F.HST_CR_STATE r != 0
  let s1 := guardedWrite s m .HST_CR r w val be (fun f => busy && crLocked f) (· == F.HST_CR_EN)
  if w ≠ 0 ∨ bitAt be 3 = false then s1
  else
    let off := regOff .HST_CR r
    let st := s.rd F.HST_CR_STATE r
    if bitAt val 31 then
      if st = 1 ∨ st = 3 then s1
      else
        let n := s1.rd F.HST_CR_LOG2N r
        if st = 0 ∧ 4 ≤ n ∧ n ≤ 12 ∧ s1.flag F.HST_CQ_EN (s1.rd F.HST_CR_CQ r) = true then
          ((((s1.wr F.HST_CR_EN r 1).wr F.HST_CR_STATE r 1).wr F.HST_CR_ERR r 0).wr F.HST_CR_HEAD r 0).wr F.HST_CR_TAIL r 0
        else s1.accessFault m 1 off
    else if st = 1 ∨ st = 3 then settleRing ((s1.wr F.HST_CR_EN r 0).wr F.HST_CR_STATE r 2) r
    else s1

/-- Write times of a completion ring's entries, the oldest first. -/
def cqTimes (s : State) (q : Nat) : List Nat := mgetD s.host.written q []

/-- Entries from HEAD to TAIL. -/
def cqPending (s : State) (q : Nat) : Nat :=
  let n := 2 ^ s.rd F.HST_CQ_LOG2N q
  (s.rd F.HST_CQ_TAIL q + n - s.rd F.HST_CQ_HEAD q % n) % n

/-- When the oldest pending entry was written. -/
def cqOldest (s : State) (q : Nat) : Option Nat :=
  let ts := cqTimes s q
  (ts.drop (ts.length - cqPending s q)).head?

/-- The interrupt of a completion ring (R343). -/
def cqIrq (s : State) (q : Nat) : State :=
  if s.flag F.HST_CQ_EN q && s.flag F.HST_CQ_IRQ_EN q && s.host.armed.contains q then
    let cnt := s.rd F.HST_CQ_CNT q
    let tmr := s.rd F.HST_CQ_TMR q
    let p := cqPending s q
    let hit := (cnt != 0 && decide (cnt ≤ p))
      || (tmr != 0 && p != 0 && (cqOldest s q).any fun t => decide (t + 1000 * tmr ≤ s.now))
      || (cnt == 0 && tmr == 0 && p != 0)
    if hit then
      sendMsix { s with host := { s.host with armed := s.host.armed.filter (· != q) } } (s.rd F.HST_CQ_VEC q)
    else s
  else s

/-- A completion ring is armed. -/
def arm (s : State) (q : Nat) : State :=
  { s with host := { s.host with armed := s.host.armed.filter (· != q) ++ [q] } }

/-- A write of a word of HST_CQ. -/
def cqWrite (s : State) (m : Master) (q w val be : Nat) : State :=
  let on := s.flag F.HST_CQ_EN q
  let s1 := guardedWrite s m .HST_CQ q w val be (fun f => on && cqLocked f) (· == F.HST_CQ_EN)
  let s2 :=
    if w ≠ 0 ∨ bitAt be 3 = false ∨ bitAt val 31 = on then s1
    else if bitAt val 31 then
      let n := s1.rd F.HST_CQ_LOG2N q
      if 4 ≤ n ∧ n ≤ 12 then
        let s3 := (((s1.wr F.HST_CQ_EN q 1).wr F.HST_CQ_HEAD q 0).wr F.HST_CQ_TAIL q 0).wr F.HST_CQ_PHASE q 1
        arm { s3 with host := { s3.host with written := mdel s3.host.written q } } q
      else s1.accessFault m 1 (regOff .HST_CQ q)
    else if (List.range 128).any fun r => s1.flag F.HST_CR_EN r && s1.rd F.HST_CR_CQ r == q then
      s1.accessFault m 1 (regOff .HST_CQ q)
    else s1.wr F.HST_CQ_EN q 0
  cqIrq s2 q

/-! ## Doorbells (R334, R336) -/

/-- A partial doorbell write: an access fault. BAR2's doorbell words have no BAR0 offset, so the address is free
(log 40). -/
def doorbellFault (s : State) : State := (s.accessFault .host 2 (Config.freeNat s.freeCtr)).tick

/-- A write of a command ring's TAIL. -/
def tailWrite (s : State) (r val be : Nat) : State :=
  if !wholeBe be then doorbellFault s
  else if s.rd F.HST_CR_STATE r ≠ 1 then s
  else
    let t := val % 4096
    if t ≥ 2 ^ s.rd F.HST_CR_LOG2N r then stopRing s r 1 else s.wr F.HST_CR_TAIL r t

/-- A write of a completion ring's HEAD: space for held completions, and the interrupt is armed again. -/
def headWrite (s : State) (q val be : Nat) : State :=
  if !wholeBe be then doorbellFault s
  else cqIrq (arm (s.wr F.HST_CQ_HEAD q (val % 4096)) q) q

/-! ## Fetch (R337 to R339) -/

/-- A ring has a descriptor to fetch. -/
def ringWants (s : State) (r : Nat) : Bool :=
  s.rd F.HST_CR_STATE r == 1 && s.rd F.HST_CR_HEAD r != s.rd F.HST_CR_TAIL r

/-- The ring whose turn it is: round robin from the one after the last served. -/
def fetchRing (s : State) : Option Nat :=
  if slotsUsed s ≥ 1024 then none
  else ((List.range 128).map fun i => (s.host.rr + 1 + i) % 128).find? (ringWants s)

/-- The status with which a descriptor is refused as it is fetched, or 0: a TAG in flight, a reserved KIND, a KIND the ring
does not allow. -/
def fetchStatus (s : State) (o : HostOp) : Nat :=
  if s.host.ops.any fun e => e.2.ring == o.ring && opTag e.2 == opTag o then 0x81
  else if opKind o = 0 ∨ (10 ≤ opKind o ∧ opKind o ≤ 14) then 0x80
  else if bitAt (s.rd F.HST_CR_KINDMASK o.ring) (opKind o) = false then 0x83
  else 0

/-- The device fetches the next descriptor; `words` are what host memory answers. A refused one is finished at once. -/
def fetchDescriptor (s : State) (words : List Word) : State :=
  match fetchRing s with
  | none => s
  | some r =>
    let n := s.host.nextOp
    let o : HostOp := ⟨r, words.take 16, 0, 0, 0, 0, 0, false⟩
    let st := fetchStatus s o
    let s1 := s.wr F.HST_CR_HEAD r ((s.rd F.HST_CR_HEAD r + 1) % 2 ^ s.rd F.HST_CR_LOG2N r)
    let s2 := { s1 with host := { s1.host with ops := mput s1.host.ops n o, nextOp := n + 1, rr := r } }
    if st = 0 then s2 else hostDone s2 n st 0 0 0

/-- A read of host memory that failed is logged as the PCIe Base Specification has it, by `cause`: 0 a completion with UR, 1 with CA, 2
a poisoned one, 3 none in time (R331; PRESUMED, log 4). -/
def logReadError (s : State) (cause : Nat) : State :=
  let p := s.host.pcie
  let q : PcieSt :=
    if cause = 0 then { p with status := Nat.lor p.status (2 ^ 13) }
    else if cause = 1 then { p with status := Nat.lor p.status (2 ^ 12) }
    else if cause = 2 then { p with aer := Nat.lor p.aer (2 ^ 12) }
    else { p with aer := Nat.lor p.aer (2 ^ 14) }
  { s with host := { s.host with pcie := q } }

/-- A read of host memory fails: logged and reported as kind 0x06 with its address (R331). -/
def readFault (s : State) (cause addr : Nat) : State := hstFault (logReadError s cause) 6 addr

/-- The descriptor fetch of the ring whose turn it is fails (R331, R344). -/
def fetchFail (s : State) (cause : Nat) : State :=
  match fetchRing s with
  | none => s
  | some r =>
    let base := s.rd F.HST_CR_BASE_HI r * 2 ^ 32 + s.rd F.HST_CR_BASE_LO r * 2 ^ 12
    stopRing (readFault { s with host := { s.host with rr := r } } cause (base + 64 * s.rd F.HST_CR_HEAD r)) r 2

/-- An operation that may start (R337): fetched, every earlier one of its ring started, and with FENCE every earlier one
completed. -/
def canStart (s : State) (n : Nat) : Bool :=
  (mget s.host.ops n).any fun o =>
    let before := s.host.ops.filter fun e => decide (e.1 < n) && e.2.ring == o.ring
    o.stage == 0 && before.all (fun e => e.2.stage != 0) && (!opFence o || before.isEmpty)

/-- Start operation `n` when it may start and is of the kind: mark it started and go on with its descriptor words. -/
def startOp (s : State) (n kind : Nat) (f : State → List Word → State) : State :=
  match mget s.host.ops n with
  | none => s
  | some o => if canStart s n && opKind o == kind then f (modOp1 s n fun o => { o with stage := 1 }) o.words else s

/-! ## Completions (R341 to R343) -/

/-- The eight words of a completion entry. -/
def entryWords (s : State) (q : Nat) (o : HostOp) : List Nat :=
  let t := if s.flag F.TIM_STAT_VALID then s.fabric else 0
  [opTag o * 65536 + opKind o * 4096 + o.status % 256,
   s.rd F.HST_CQ_PHASE q * 2 ^ 31 + o.ring * 2 ^ 24 + o.flags % 8 * 2 ^ 21,
   dW o.words 12, o.count % 2 ^ 32, t % 2 ^ 32, t / 2 ^ 32, o.addr % 2 ^ 32, o.addr / 2 ^ 32 % 65536]

def cqHasRoom (s : State) (q : Nat) : Bool :=
  s.flag F.HST_CQ_EN q && (s.rd F.HST_CQ_TAIL q + 1) % 2 ^ s.rd F.HST_CQ_LOG2N q != s.rd F.HST_CQ_HEAD q

/-- Write the entry of a finished operation, which then is over. -/
def writeEntry (s : State) (q n : Nat) (o : HostOp) : State :=
  let tail := s.rd F.HST_CQ_TAIL q
  let base := s.rd F.HST_CQ_BASE_HI q * 2 ^ 32 + s.rd F.HST_CQ_BASE_LO q * 2 ^ 12
  let s1 := s.emit (.hostWrite (base + 32 * tail) ((entryWords s q o).flatMap (leBytes 4)))
  let next := (tail + 1) % 2 ^ s.rd F.HST_CQ_LOG2N q
  let s2 := s1.wr F.HST_CQ_TAIL q next
  let s3 := if next = 0 then s2.wr F.HST_CQ_PHASE q (1 - s.rd F.HST_CQ_PHASE q) else s2
  let s4 := { s3 with host := { s3.host with
    ops := mdel s3.host.ops n
    ready := s3.host.ready.filter (· != n)
    written := mput s3.host.written q ((cqTimes s3 q ++ [s.now]).drop ((cqTimes s3 q).length + 1 - 4096)) } }
  let s5 := if (heldOf s4 q).isEmpty then s4.wr F.HST_CQ_FULL q 0 else s4
  cqIrq (settleRing s5 o.ring) q

/-- A finished operation's entry is written, the held ones first; without room it is held (R342). -/
def completionWrite (s : State) (q : Nat) : State :=
  let fresh := s.host.ready.find? fun n => (mget s.host.ops n).any fun o => o.stage == 2 && opCq s o == q
  let next := ((heldOf s q).head?).or fresh
  if cqHasRoom s q then
    match next with
    | none => s
    | some n => match mget s.host.ops n with
      | some o => writeEntry s q n o
      | none => s
  else match fresh with
    | none => s
    | some n =>
      let s1 := modOp1 s n fun o => { o with stage := 3 }
      if s1.flag F.HST_CQ_FULL q then s1 else hstFault (s1.wr F.HST_CQ_FULL q 1) 2 q

/-! ## Resets of the host interface (R332) -/

/-- FLR, DL_Down or the block reset of sources 0x003 and 0x00C. Of configuration space, what the function itself holds returns to its
reset value (log 4). -/
def hostReset (s : State) : State :=
  let s1 := dropFields s fun f _ => [RegName.HST_STAT, .HST_CR, .HST_CQ, .MSIX_TABLE, .MSIX_PBA].contains f.reg
  let started := (s1.host.ops.filter fun e => e.2.stage == 1 && opKind e.2 != 9).map fun e =>
    (e.1, ({ e.2 with drop := true } : HostOp))
  let fn : PcieSt := { s1.host.pcie with
    status := 0, dstate := 0, toRange := 0, maxRead := 2, msixOn := false, msixMask := false
    bars := s1.host.pcie.bars.map fun b => { b with base := 0 } }
  let s2 : State := { s1 with host := { s1.host with ops := started, ready := [], recv := [], armed := [], written := [], pcie := fn } }
  if s2.rd0 F.GLB_SEM_HOLDER = 1 then
    { (s2.wr0 F.GLB_SEM_HELD 0).wr0 F.GLB_SEM_HOLDER 0 with semEnd := none }
  else s2

end Sys2Proof.Machine
end

