-- ==== Sys2Proof/Machine/Gesta.lean ====
section
/-! DEFINITION. Gesta: the flash and its records, slots and boot control, the boot ROM, GMC resets, the two cores' roles and
watchdogs (file 14, R386 to R406; 15 R439). -/

namespace Sys2Proof.Machine

open Sys2Proof

def modGmc (s : State) (f : GmcSt → GmcSt) : State := { s with gmc := f s.gmc }

/-- The GMC block reports an event. Kinds 0x01, 0x02 and 0x05 from before Gesta runs wait until the collector is configured (R411,
log 122). -/
def gmcFault (s : State) (kind addr : Nat) : State :=
  if (kind = 1 ∨ kind = 2 ∨ kind = 5) ∧ s.gmc.collCfg = false ∧ s.rd0 F.GMC_STAT_STAGE ≠ 8 then
    modGmc s fun g => { g with early := g.early ++ [(kind, addr)] }
  else s.report 0xA kind addr

/-- The collector is configured: what waited for it is reported. -/
def collectorReady (s : State) : State :=
  s.gmc.early.foldl (fun s e => s.report 0xA e.1 e.2) (modGmc s fun g => { g with early := [], collCfg := true })

/-! ## The flash (R389) -/

def flashByte (s : State) (a : Nat) : Byte := mgetD s.gmc.flash a 0xFF
def flashBytes (s : State) (a n : Nat) : List Byte := (List.range n).map fun i => flashByte s (a + i)
def flash32 (s : State) (a : Nat) : Nat := leNat (flashBytes s a 4)

/-- Set bytes of the flash. -/
def flashPut : List Byte → Nat → State → State
  | [], _, s => s
  | b :: bs, a, s => flashPut bs (a + 1) (modGmc s fun g => { g with flash := mset 0xFF g.flash a b })

/-- Program bytes: a cell's bits only go from 1 to 0 (log 6). -/
def flashProgram : List Byte → Nat → State → State
  | [], _, s => s
  | b :: bs, a, s => flashProgram bs (a + 1) (modGmc s fun g => { g with flash := mset 0xFF g.flash a (flashByte s a &&& b) })

/-- Erase a range: it is no longer listed. -/
def flashErase (s : State) (a n : Nat) : State :=
  modGmc s fun g => { g with flash := g.flash.filter fun e => !(decide (a ≤ e.1) && decide (e.1 < a + n)) }

/-! ## Boot control (R404) -/

def bcCopyAt (c : Nat) : Nat := 0x60000 + 0x1000 * c

/-- A copy of BC whose CRC is good. -/
def bcCopy (s : State) (c : Nat) : Option Nat :=
  if crc32c 0xFFFFFFFF (flashBytes s (bcCopyAt c) 4) = flash32 s (bcCopyAt c + 4) then some (flash32 s (bcCopyAt c)) else none

def bcGen (bc : Nat) : Nat := bits bc 16 16
def bcTrial (bc : Nat) : Nat := bits bc 8 1
def bcTries (bc : Nat) : Nat := bits bc 4 4
def bcPrefer (bc : Nat) : Nat := bits bc 0 1

/-- BC in force: the good copy whose GEN is later in serial-number arithmetic; none is PREFER 0, TRIAL 0. -/
def bootControl (s : State) : Nat :=
  match bcCopy s 0, bcCopy s 1 with
  | some a, some b => if (bcGen a + 65536 - bcGen b) % 65536 < 32768 then a else b
  | some a, none => a
  | none, some b => b
  | none, none => 0

/-- Write BC with GEN increased by one, in copy GEN mod 2. -/
def bcWrite (s : State) (trial tries prefer : Nat) : State :=
  let gen := (bcGen (bootControl s) + 1) % 65536
  let bs := leBytes 4 (gen * 65536 + trial * 256 + tries * 16 + prefer)
  flashPut (bs ++ leBytes 4 (crc32c 0xFFFFFFFF bs)) (bcCopyAt (gen % 2)) s

/-! ## Signed records (R393, R394) -/

/-- The SHA-384 of this chip's DeviceID public key (R397). -/
def devidHash : List Byte := Config.sha384 Config.deviceIdPub

/-- OWNER_KEY_HASH, MIN_SVN and the flags of an owner record. -/
def ownerHash (r : Rec) : List Byte := r.body.take 48
def ownerMinSvn (r : Rec) : Nat := leNat ((r.body.drop 48).take 4)
def ownerFlags (r : Rec) : Nat := leNat ((r.body.drop 52).take 4)

/-- A SIGNER_KEY is the one that a record of a type needs. -/
def recKeyOk (owner : Option Rec) (type : Nat) (key : List Byte) : Bool :=
  match type, owner with
  | 3, some o => Config.sha384 key == ownerHash o
  | _, _ => Config.sha384 key == Config.rootKeyHash 0

/-- The entries of a factory record's body, tag and value. -/
def recEntries : Nat → List Byte → List (Nat × List Byte)
  | 0, _ => []
  | n + 1, bs =>
    if bs.length < 4 then []
    else
      let len := leNat ((bs.drop 2).take 2)
      (leNat (bs.take 2), (bs.drop 4).take len) :: recEntries n (bs.drop (4 + len))

def factoryEntries (body : List Byte) : List (Nat × List Byte) := recEntries body.length body

/-- The value of a tag of a factory record. -/
def factoryTag (body : List Byte) (tag : Nat) : List Byte := (((factoryEntries body).find? (·.1 == tag)).map (·.2)).getD []

/-- Tags 0x0002, 0x0003 and 0x0010 appear once each; a record in which they do not is not valid (DEDUCED, log 123). -/
def factoryOk (body : List Byte) : Bool :=
  [2, 3, 0x10].all fun t => ((factoryEntries body).filter (·.1 == t)).length == 1

/-- A record copy, when it is valid (R394). -/
def recCopy (s : State) (owner : Option Rec) (type base : Nat) : Option Rec :=
  let len := flash32 s (base + 12)
  if flashBytes s base 4 = [0x47, 0x52, 0x45, 0x43] ∧ flash32 s (base + 4) % 65536 = type ∧ len ≤ 65024 then
    let h := flashBytes s base 512
    let body := flashBytes s (base + 512) len
    let key := (h.drop 64).take 97
    let dev := (h.drop 16).take 48
    if recKeyOk owner type key && Config.ecdsaOk key (h.take 192 ++ body) ((h.drop 192).take 96)
        && (dev == devidHash || (type == 1 && dev == List.replicate 48 0)) && (type != 2 || factoryOk body) then
      some ⟨flash32 s (base + 8), h ++ body, body⟩
    else none
  else none

/-- The record in force: the valid copy with the higher REC_SEQ, copy 0 on a tie; invalid copies are reported. -/
def recInForce (s : State) (owner : Option Rec) (type base : Nat) : Option Rec × State :=
  let a := recCopy s owner type base
  let b := recCopy s owner type (base + 0x10000)
  let s1 := if a.isNone then gmcFault s 2 base else s
  let s2 := if b.isNone then gmcFault s1 2 (base + 0x10000) else s1
  (match a, b with
    | some x, some y => if x.seq < y.seq then some y else some x
    | some x, none => some x
    | none, y => y, s2)

/-- CONS_SERVICE of the owner record in force (R394, R395). -/
def consService (s : State) : Bool := s.gmc.owner.any fun r => bitAt (ownerFlags r) 1

def minSvn (owner : Option Rec) : Nat := (owner.map ownerMinSvn).getD 0

/-! ## Slots (R390 to R392) -/

/-- A component header of a chain. -/
structure Comp where
  off : Nat
  hdr : List Byte
  len : Nat
  type : Nat
  deriving DecidableEq, Repr

def Comp.u (c : Comp) (a n : Nat) : Nat := leNat ((c.hdr.drop a).take n)

def slotBase (slot : Nat) : Nat := if slot = 0 then 0x100000 else 0x2000000
def slotEnd (slot : Nat) : Nat := slotBase slot + 0x1F00000

/-- The chain of a slot; the fuel bounds it by the 4 KiB places of a slot. -/
def chainFrom (s : State) (stop : Nat) : Nat → Nat → List Comp
  | 0, _ => []
  | n + 1, off =>
    if off + 512 ≤ stop ∧ flashBytes s off 4 = [0x47, 0x53, 0x54, 0x41] then
      let h := flashBytes s off 512
      let c : Comp := ⟨off, h, leNat ((h.drop 16).take 4), leNat ((h.drop 20).take 2)⟩
      c :: chainFrom s stop n ((off + 512 + c.len + 4095) / 4096 * 4096)
    else []

def slotChain (s : State) (slot : Nat) : List Comp := chainFrom s (slotEnd slot) 7937 (slotBase slot)

/-- HDR_VER 1 and no reserved encoding. -/
def compPlain (c : Comp) (stop : Nat) : Bool :=
  c.u 4 2 == 1 && c.u 6 2 ≤ 1 && (c.type == 1 || c.type == 2 || c.type == 3) && c.len % 4 == 0
  && decide (c.off + 512 + c.len ≤ stop) && (c.type != 1 || decide (c.len ≤ 3 * 2 ^ 20)) && c.u 22 2 == 0
  && (c.type == 1 || c.u 24 4 == 0) && c.u 28 4 == 0 && c.u 177 15 == 0 && (c.hdr.drop 288).all (· == 0)

/-- The SIGNER_KEY is accepted (R392). -/
def compKeyOk (owner : Option Rec) (c : Comp) : Bool :=
  let h := Config.sha384 ((c.hdr.drop 80).take 97)
  if bitAt (c.u 6 2) 0 then owner.any fun o => h == ownerHash o
  else h == Config.rootKeyHash 0 && !(owner.any fun o => !bitAt (ownerFlags o) 0)

def compOk (s : State) (owner : Option Rec) (stop : Nat) (c : Comp) : Bool :=
  compPlain c stop && compKeyOk owner c
  && Config.ecdsaOk ((c.hdr.drop 80).take 97) (c.hdr.take 192) ((c.hdr.drop 192).take 96)
  && Config.sha384 (flashBytes s (c.off + 512) c.len) == (c.hdr.drop 32).take 48
  && decide (minSvn owner ≤ c.u 12 4)

/-- The shape of a chain: one component of each type, type 1 first. -/
def chainShape (cs : List Comp) : Bool :=
  cs.length == 3 && (cs.head?).any (·.type == 1) && cs.any (·.type == 2) && cs.any (·.type == 3)

/-- A slot verifies (R391). -/
def slotVerifies (s : State) (slot : Nat) : Bool :=
  let cs := slotChain s slot
  chainShape cs && cs.all (compOk s s.gmc.owner (slotEnd slot))

/-- The component of a type in a slot. -/
def slotComp (s : State) (slot type : Nat) : Option Comp := (slotChain s slot).find? (·.type == type)

/-- The body of a component. -/
def compBody (s : State) (c : Option Comp) : List Byte := (c.map fun c => flashBytes s (c.off + 512) c.len).getD []

/-- What the measurement of the Gesta image hashes: its header and body. -/
def compBytes (s : State) (c : Option Comp) : List Byte := (c.map (·.hdr)).getD [] ++ compBody s c

/-! ## The boot ROM (R398 to R400) -/

def hexDigit (n : Nat) : Char := (['0', '1', '2', '3', '4', '5', '6', '7', '8', '9', 'A', 'B', 'C', 'D', 'E', 'F'][n]?).getD '0'

/-- `n` hexadecimal digits of a number. -/
def hexStr (n v : Nat) : String :=
  String.ofList ((List.range n).reverse.map fun i => hexDigit (v / 16 ^ i % 16))

/-- An Endpoint ID in the manual's notation: no leading zeros, an underscore before the last four digits. -/
def eidText (e : Nat) : String :=
  let digits := fun n => (Nat.toDigits 16 n).map Char.toUpper
  if e < 65536 then "0x" ++ String.ofList (digits e) else "0x" ++ String.ofList (digits (e / 65536)) ++ "_" ++ hexStr 4 (e % 65536)

/-- Gesta's prompt (18 R482). -/
def prompt (s : State) : String := if s.flag F.GLB_PLACE_LOCK then eidText s.selfEid ++ ">" else "UNPLACED>"

/-- The boot ROM enters a stage and writes its line (18 R482). -/
def romStage (s : State) (stage err : Nat) : State :=
  let text := "ROM STAGE 0x" ++ hexStr 2 stage ++ " ERROR 0x" ++ hexStr 2 err
  modGmc (((s.wr0 F.GMC_STAT_STAGE stage).wr0 F.GMC_STAT_ERROR err).emit (.line text)) fun g => { g with line := some (text, s.now) }

/-- Stages 0x0E and 0x0F. -/
def romHalted (s : State) (err : Nat) : State := settleAlive (romStage s 0x0E err)
def romRecovery (s : State) (err : Nat) : State := settleAlive (gmcFault (romStage s 0x0F err) 5 err)

/-- The choice of the slot (R399): the slot to run and whether it is the preferred one, with the state after it. -/
def chooseSlot (s : State) : Option (Nat × Bool) × State :=
  let bc := bootControl s
  let used := bcTrial bc == 1 && bcTries bc == 0
  let first := if used then 1 - bcPrefer bc else bcPrefer bc
  let s1 :=
    if used then gmcFault (bcWrite s 0 0 first) 3 (bcPrefer bc)
    else if bcTrial bc = 1 then bcWrite s 1 (bcTries bc - 1) (bcPrefer bc)
    else s
  let fail := fun (s : State) slot => gmcFault (s.wr0 F.GMC_STAT_ERROR (4 + slot)) 1 slot
  if slotVerifies s1 first then (some (first, false), s1)
  else
    let s2 := fail s1 first
    if slotVerifies s2 (1 - first) then (some (1 - first, true), s2) else (none, fail s2 (1 - first))

/-- The GMC_STAT, GMC_VER and GMC_SVN words as a boot leaves them, for measurement 8 (R408). -/
def gmcWords (s : State) : List Nat := [readStored s .GMC_STAT 0 0, readStored s .GMC_VER 0 0, readStored s .GMC_SVN 0 0]

/-- Measurements 1 to 7 (R408), which the CDI is derived from. -/
def bootMeasures (s : State) : List (List Byte) :=
  let h := Config.sha384
  let g := s.gmc
  [h Config.bootRom, h g.fw, h g.ucode, h g.phyCode,
    (match g.owner with
      | some r => leBytes 4 r.seq ++ leBytes 4 (ownerMinSvn r) ++ leBytes 4 (ownerFlags r) ++ ownerHash r
      | none => List.replicate 60 0),
    h ((g.factory.map (·.bytes)).getD []),
    (match g.site with
      | some r => h r.bytes
      | none => List.replicate 48 0)]

/-- ASCII bytes of the labels of R397. -/
def labelDevid : List Byte := [0x44, 0x45, 0x56, 0x49, 0x44]
def labelAlias : List Byte := [0x41, 0x4C, 0x49, 0x41, 0x53]

/-- The Alias private key and its certificate, signed with the DeviceID key (R397): the seed is reconstructed from the PUF with the
helper data, the CDI from the seed and the measurements. Seed, CDI and DeviceID key are erased: no field holds them. -/
def aliasKeys (helper measured : List Byte) : List Byte × List Byte :=
  let seed := Config.pufSeed Config.pufSram helper
  let alias_ := Config.hkdf (Config.hmac seed measured) labelAlias
  let tbs := Config.aliasTbs alias_
  (alias_, tbs ++ Config.ecdsaSign (Config.hkdf seed labelDevid) tbs)

/-- Stages 0x06 to 0x08: microcode, the image in both cores' SRAM, the Alias key, RUNNING, where Gesta prints its prompt (18 R482). -/
def romRun (s : State) (slot : Nat) (fell cold : Bool) (ev : BootEv) : State :=
  let err := s.rd0 F.GMC_STAT_ERROR
  let s1 := romStage s 6 err
  let s2 := if cold then modGmc s1 fun g => { g with
      ucode := compBody s (slotComp s slot 2), phyCode := compBody s (slotComp s slot 3), ucodePending := false } else s1
  if ev.bodyBad ≥ 2 then romHalted s2 7
  else
    let err1 := if ev.bodyBad = 1 then 7 else err
    let img := slotComp s slot 1
    let body := compBody s img
    let s3 := modGmc s2 fun g => { g with fw := compBytes s img, sram0 := body, sram1 := body }
    let keys := aliasKeys (factoryTag ((s3.gmc.factory.map (·.body)).getD []) 2) ((bootMeasures s3).flatMap id)
    let s4 := modGmc (romStage s3 7 err1) fun g => { g with alias_ := keys.1, aliasCert := keys.2 }
    let bc := bootControl s4
    let u := fun a => (img.map fun c => c.u a 4).getD 0
    let s5 := ((((romStage s4 8 err1).wr0 F.GMC_STAT_SLOT slot).wr0 F.GMC_STAT_TRIAL (b2n (bcTrial bc == 1 && bcPrefer bc == slot))).wr0
      F.GMC_STAT_FALLBACK (b2n fell)).wr0 F.GMC_STAT_OWNER_IMG ((img.map fun c => c.u 6 2 % 2).getD 0)
    let s6 := ((s5.wr0 F.GMC_VER_VALUE (u 8)).wr0 F.GMC_SVN_VALUE (u 12)).wr0 F.GMC_MIN_SVN_VALUE (minSvn s.gmc.owner)
    let s7 := setRole (setRole s6 0 3) 1 2
    let s8 := settleAlive (modGmc (s7.emit (.line (prompt s7))) fun g => { g with
      kick0 := s.now, kick1 := s.now, runSince := some s.now, core0Ready := none, resigned := [], bootBc := bc, bootRegs := gmcWords s7 })
    if cold && s8.gmc.site.isSome then s8 else collectorReady s8

/-- The boot ROM runs: the cold flow, or that of a GMC reset, which leaves out soft repair and the microcode (R398, R402). -/
def romBoot (s0 : State) (cold : Bool) (ev : BootEv) : State :=
  let s := romStage (setRole (setRole s0 0 1) 1 1) 1 0
  if s.pin.noBoot then s
  else if !ev.romOk then romHalted s 1
  else
    let s1 := romStage s 2 0
    let (owner, s2) := recInForce s1 none 1 0
    let (factory, s3) := recInForce s2 owner 2 0x20000
    let (site, s4) := recInForce s3 owner 3 0x40000
    let s5 := modGmc s4 fun g => { g with owner := owner, factory := factory, site := site }
    match factory with
    | none => romRecovery s5 2
    | some f =>
      let s6 := romStage s5 3 0
      if !ev.pufOk then romRecovery s6 3
      else
        let s7 := if cold then modGmc (romStage s6 4 0) fun g => { g with
          repair := (factoryEntries f.body).filter fun x => x.1 == 0x10 || x.1 == 0x11 || x.1 == 0x12 } else s6
        match chooseSlot (romStage s7 5 0) with
        | (none, s8) => romRecovery s8 6
        | (some (slot, fell), s8) => romRun s8 slot fell cold ev

/-! ## GMC resets (R402, R410) -/

/-- A mailbox that was BUSY gets a response with a status. -/
def mboxRespond (s : State) (m status : Nat) (ps : List Nat) (data : List Byte) : State :=
  let q0 := s.rd F.GMC_MB_REQ_DATA (m * 1024)
  let p0 := q0 / 2 ^ 24 * 2 ^ 24 + status * 65536 + q0 % 65536
  let ws := (p0 :: data.length :: ps).take 8
  let all := ws ++ List.replicate (8 - ws.length) 0 ++ (wordsOf ((data.length + 3) / 4) data).map (·.toNat)
  let s1 := ((List.range 1024).zip all).foldl (fun s e => s.wr F.GMC_MB_RSP_DATA (m * 1024 + e.1) e.2) s
  let s2 := ((s1.wr F.GMC_MB_CTRL_BUSY m 0).wr F.GMC_MB_CTRL_GO m 0).wr F.GMC_MB_CTRL_DONE m 1
  let s3 := modGmc s2 fun g => { g with mbox := g.mbox.filter (· != m) }
  if m = 0 ∧ s3.flag F.GMC_MB_CTRL_IRQ_EN 0 = true then sendMsix s3 (s3.rd F.GMC_MB_CTRL_VEC 0) else s3

/-- The reset controller takes a reset: GLB_RST_STAT and the message of source 0x00D. -/
def resetTaken (s : State) (last : Nat) (bySrc : Option Nat) : State :=
  let s1 := (s.wr0 F.GLB_RST_STAT_LAST last).wr0 F.GLB_RST_STAT_BY_FLT (b2n bySrc.isSome)
  let s2 := (s1.wr0 F.GLB_RST_STAT_SRC (bySrc.getD 0)).bump F.GLB_RST_STAT_COUNT 0
  s2.report 0xD last 0

/-- What a GMC reset does to the GMC block before the boot ROM runs: run state to its reset values, cores in reset. Returns
the mailboxes that were BUSY. -/
def gmcDown (s : State) : List Nat × State :=
  let busy := [0, 1].filter fun m => s.flag F.GMC_MB_CTRL_BUSY m
  let s1 := dropFields s fun f i => f.acc.isRun && inBlock (regOff f.reg i) 0x3E00000 0x4000000
  (busy, settleAlive (modGmc { s1 with bus := { s1.bus with spdm := [] } } fun g => { g with
    mbox := [], service := false, svc := [], siteDue := false, upd := ⟨none, 0, 0, false⟩, runSince := none, core0Ready := none, siteWait := false }))

/-- The QSPI pins are at high impedance (R403, 19 R503). -/
def qspiHiZ (s : State) : Bool := !s.pin.recovery || !s.pin.perst

/-- A GMC reset. While RECOVERY_N is low one runs already, and goes on (R403). -/
def gmcReset (s : State) (ev : BootEv) (bySrc : Option Nat) : State :=
  if s.pin.recovery = false then s
  else
    let (busy, s1) := gmcDown (resetTaken s 6 bySrc)
    romBoot (busy.foldl (fun s m => mboxRespond s m 7 [] []) s1) false ev

/-! ## Watchdogs and roles (R388, 15 R439) -/

/-- The dual-active control reports an event (15 R440). -/
def daFault (s : State) (kind addr : Nat) : State := s.report 0xB kind addr

/-- A core leaves its role; the other takes over when the core was ACTIVE and the other is STANDBY. -/
def coreLeaves (s : State) (c role : Nat) : State :=
  let was := coreRole s c
  let s1 := modGmc (setRole s c role) fun g => { g with
    runSince := none, core0Ready := if c = 0 then none else g.core0Ready, resigned := mdel g.resigned c }
  if was = 3 ∧ coreRole s1 (1 - c) = 2 then setRole s1 (1 - c) 3 else s1

def kickOf (s : State) (c : Nat) : Nat := if c = 0 then s.gmc.kick0 else s.gmc.kick1

/-- A core that resigned and has tested clean for HOLDOFF re-enters as STANDBY (15, the introduction of R433, log 50). -/
def coreReturn (s : State) (c : Nat) : State :=
  let hold := s.rd0 F.FLT_DA_CFG_HOLDOFF
  if s.rd0 F.GMC_STAT_STAGE = 8 ∧ coreRole s c = 0 ∧ hold ≠ 0
      ∧ (mget s.gmc.resigned c).any (fun t => decide (t + 100000000 * hold ≤ s.now)) then
    modGmc (setRole s c 2) fun g => { g with
      resigned := mdel g.resigned c, runSince := some s.now, core0Ready := if c = 0 then some s.now else g.core0Ready }
  else s

/-- A core kicks: a core that restarted alone shows that it runs its image again, and re-enters as STANDBY (log 50). -/
def kickCore (s : State) (c : Nat) : State :=
  let s1 := modGmc s fun g => if c = 0 then { g with kick0 := s.now } else { g with kick1 := s.now }
  if s.rd0 F.GMC_STAT_STAGE = 8 ∧ coreRole s c = 1 then
    modGmc (setRole s1 c 2) fun g => { g with runSince := some s.now, core0Ready := if c = 0 then some s.now else g.core0Ready }
  else coreReturn s1 c

/-- A write of GMC_WDT. Each core's own kick is taken whatever its role (log 50). -/
def wdtWrite (s : State) (m : Master) (val be : Nat) : State :=
  let own : Nat → Bool := fun c => match m with
    | .gesta d => d == c
    | _ => false
  let s1 := if mayWrite s m then writeWord s m .GMC_WDT 0 0 val be fun f => f == F.GMC_WDT_PERIOD else s
  [0, 1].foldl (fun s c => if bitAt val c && bitAt be 0 && (mayWrite s m || (own c && chipOn s && !isSafe s)) then kickCore s c else s) s1

/-- A core's watchdog lapses. -/
def watchdogLapse (s : State) (c : Nat) (ev : BootEv) : State :=
  let per := s.rd0 F.GMC_WDT_PERIOD
  let out := s.rd0 F.GMC_STAT_STAGE = 8 ∧ coreRole s c = 0
  if c > 1 ∨ per = 0 ∨ (coreRole s c < 2 ∧ ¬out) ∨ s.now < kickOf s c + 1000000 * per then s
  else
    let other := coreRole s (1 - c)
    let s1 := coreLeaves (gmcFault s 4 c) c 1
    let s2 := settleAlive (if coreRole s c < 2 then s1 else daFault s1 6 c)
    if other < 2 then gmcReset s2 ev none else s2

/-- A core resigns: an uncorrectable SRAM error, or its periodic self-test (15 R439). -/
def coreResign (s : State) (c : Nat) : State :=
  if c > 1 ∨ coreRole s c < 2 then s else settleAlive (daFault (modGmc (coreLeaves s c 0) fun g => { g with resigned := mput g.resigned c s.now }) 6 c)

/-- Core 0 takes the ACTIVE role back after HOLDOFF; a core whose own hold-off is over returns (15 R439). -/
def coreTakeback (s0 : State) : State :=
  let s := coreReturn (coreReturn s0 0) 1
  let hold := s.rd0 F.FLT_DA_CFG_HOLDOFF
  if hold ≠ 0 ∧ coreRole s 0 = 2 ∧ coreRole s 1 = 3 ∧ s.gmc.core0Ready.any (fun t => decide (t + 100000000 * hold ≤ s.now)) then
    daFault (modGmc (setRole (setRole s 0 3) 1 2) fun g => { g with core0Ready := none }) 7 0
  else s

/-- The slot that runs. -/
def runSlot (s : State) : Nat := s.rd0 F.GMC_STAT_SLOT

/-- TRIAL 0 for the running slot; BC is written only where that changes it, so that repeating it does nothing (R410). -/
def confirmRunning (s : State) : State :=
  let bc := bootControl s
  let s1 := if bcTrial bc = 1 ∧ bcPrefer bc = runSlot s then bcWrite s 0 (bcTries bc) (bcPrefer bc) else s
  s1.wr0 F.GMC_STAT_TRIAL 0

/-- The trial image is confirmed after 60 s of both cores running (R405). -/
def trialConfirm (s : State) : State :=
  if s.flag F.GMC_STAT_TRIAL ∧ s.rd0 F.GMC_STAT_STAGE = 8 ∧ coreRole s 0 ≥ 2 ∧ coreRole s 1 ≥ 2
      ∧ s.gmc.runSince.any (fun t => decide (t + 60000000000 ≤ s.now)) then
    confirmRunning s
  else s

/-- The update lock ends after 60 s without update traffic (R406). -/
def updateLockExpire (s : State) : State :=
  if s.gmc.upd.lock.any fun l => decide (l.2 + 60000000000 ≤ s.now) then
    modGmc s fun g => { g with upd := ⟨none, 0, 0, false⟩ } else s

/-- In HALTED and RECOVERY the boot ROM repeats its last line every 10 s (18 R482). -/
def romRepeat (s : State) : State :=
  match s.gmc.line with
  | some (text, t) =>
    if (s.rd0 F.GMC_STAT_STAGE = 0x0E ∨ s.rd0 F.GMC_STAT_STAGE = 0x0F) ∧ t + 10000000000 ≤ s.now then
      modGmc (s.emit (.line text)) fun g => { g with line := some (text, s.now) }
    else s
  | none => s

/-- RECOVERY_N has been low for `lowNs` (R403); pulses under 1 µs are ignored (19 R494). -/
def recoveryAssert (s : State) (lowNs : Nat) : State :=
  if s.pin.recovery = false ∨ lowNs < 1000 then s
  else
    let s1 := { s with pin := { s.pin with recovery := false } }
    if !chipOn s1 then s1
    else
      let busy := (gmcDown s1).1
      modGmc (gmcDown (resetTaken s1 6 none)).2 fun g => { g with mbox := busy }

/-- A mailbox's GO (R410). -/
def mboxGo (s : State) (m : Nat) : State :=
  modGmc ((s.wr F.GMC_MB_CTRL_GO m 1).wr F.GMC_MB_CTRL_BUSY m 1) fun g => { g with mbox := g.mbox.filter (· != m) ++ [m] }

/-- ALIVE toggles every 500 µs while its conditions hold (15 R421). -/
def aliveToggle (s : State) : State :=
  if s.flag F.FLT_STAT_ALIVE_RUN ∧ s.pin.refclk = true ∧ s.pin.aliveAt + 500000 ≤ s.now then
    { s with pin := { s.pin with alive := !s.pin.alive, aliveAt := s.now } }
  else s

end Sys2Proof.Machine
end

