-- ==== Sys2Proof/Machine/Faults.lean ====
section
/-! DEFINITION. Resets of the core, pump, pool and port domains, the fault collector with its reactions, and the dual-active
control of the sequencer engines (file 15, R412 to R440; 13 R384, R510). -/

namespace Sys2Proof.Machine

open Sys2Proof

/-! ## The sequencer engine's HEALTH (R433 to R438) -/

def modFlt (s : State) (f : FltSt → FltSt) : State := { s with flt := f s.flt }

/-- A Gesta core is ACTIVE. -/
def gestaOk (s : State) : Bool := (activeCore s).isSome

/-- OPW1 of the chip's HEALTH (R435). -/
def healthFlags (s : State) : Nat :=
  b2n (s.flag F.FLT_DA_STAT_SEQ_OK) + 2 * b2n (s.flag F.FLT_DA_STAT_RESIGNED) + 4 * b2n (s.flag F.FLT_DA_STAT_TAKEBACK)
  + 8 * b2n (s.flag F.FLT_DA_STAT_OWN_ACT) + 16 * b2n (s.flag F.FLT_DA_STAT_COVER_ACT) + 32 * b2n (gestaOk s)

/-- The relay ports that FLT_DA_RELAY names. -/
def healthRelays (s : State) : List Nat :=
  ([F.FLT_DA_RELAY_LP0, F.FLT_DA_RELAY_LP1, F.FLT_DA_RELAY_LP2, F.FLT_DA_RELAY_LP3].map s.rd0).filter (· < 128)

/-- Send HEALTH to every relay endpoint. -/
def sendHealth (s : State) : State :=
  if s.isRack ∧ s.rd0 F.FLT_DA_CFG_HIVL ≠ 0 then
    let fl := healthFlags s
    let s1 := modFlt s fun f => { f with hseq := (f.hseq + 1) % 2 ^ 32, sent := some (s.now, fl) }
    let h := mkHdr 0x05 0 0 s.selfEid 0 0 0 (2 ^ 24 + s.selfEid) fl s1.flt.hseq
    (healthRelays s).foldl (fun s lp => emitVc0 s lp h [] 0 true) s1
  else s

/-- HEALTH goes every HIVL µs, and at once when a flag has changed (R435). -/
def healthDue (s : State) : State :=
  let ivl := s.rd0 F.FLT_DA_CFG_HIVL
  match s.flt.sent with
  | none => sendHealth s
  | some (t, fl) => if fl ≠ healthFlags s ∨ t + 1000 * ivl ≤ s.now then sendHealth s else s

/-- After an event that may have changed a flag. -/
def healthOnChange (s : State) : State :=
  if s.flt.sent.any (fun x => x.2 != healthFlags s) then sendHealth s else s

def partnerPlane (s : State) : Nat := Nat.xor s.plane 8

/-- The state of an engine that has resigned (R434): kind 0x01 is reported, and where SEQ_OK is still 1 the hold-off of R437
runs from now on. -/
def seqStandDown (s : State) : State :=
  let s1 := ((s.wr0 F.FLT_DA_STAT_OWN_ACT 0).wr0 F.FLT_DA_STAT_COVER_ACT 0).wr0 F.FLT_DA_STAT_TAKEBACK 0
  let since := if s.flag F.FLT_DA_STAT_SEQ_OK then some s.now else none
  let s2 := modFlt (s1.wr0 F.FLT_DA_STAT_RESIGNED 1) fun f => { f with okSince := since, claimAt := none, yielded := false, claimLate := false }
  daFault { s2 with coverFrom := none } 1 s.plane

/-- The engine resigns (R434). -/
def seqResign (s : State) : State := sendHealth (seqStandDown s)

/-- The engine resigns as a core warm reset starts (R434). An acting engine sends HEALTH (R427), any other one as R435 has it,
when a flag has changed, and one that has resigned stays so. -/
def seqWarmResign (s : State) : State :=
  if s.flag F.FLT_DA_STAT_OWN_ACT || s.flag F.FLT_DA_STAT_COVER_ACT then seqResign s
  else if s.isRack && !s.flag F.FLT_DA_STAT_RESIGNED then healthOnChange (seqStandDown s)
  else s

/-- The known-answer test of every 10 ms (R434). An engine that has never resigned acts for its own plane from its first good
test on (log 51). -/
def seqTest (s : State) (ok : Bool) : State :=
  if !s.isRack then s
  else if ok then
    if s.flag F.FLT_DA_STAT_SEQ_OK then s
    else
      let s1 := s.wr0 F.FLT_DA_STAT_SEQ_OK 1
      if s.flag F.FLT_DA_STAT_RESIGNED then healthOnChange (modFlt s1 fun f => { f with okSince := some s.now })
      else healthOnChange (s1.wr0 F.FLT_DA_STAT_OWN_ACT 1)
  else if s.flag F.FLT_DA_STAT_SEQ_OK then seqResign (s.wr0 F.FLT_DA_STAT_SEQ_OK 0)
  else s

/-- A HEALTH from the partner is kept when its HSEQ is later than the last one kept (R435), and acted on (R436, R437). -/
def healthReceive (s0 : State) (p : StPkt) : State :=
  let s := takeStation s0 p
  let origin := bits p.hdr.opw0 0 20
  let partner := mkEid s.ownRow s.ownCol (eidSlot s.selfEid) 2 (partnerPlane s)
  let hseq := p.hdr.opw2
  let late := s.flt.pSeq.any fun q => !(decide (1 ≤ (hseq + 2 ^ 32 - q) % 2 ^ 32) && decide ((hseq + 2 ^ 32 - q) % 2 ^ 32 < 2 ^ 31))
  if p.hdr.opcode ≠ 5 ∨ !s.isRack ∨ origin ≠ partner ∨ late then s
  else
    let fl := p.hdr.opw1 % 64
    let s1 := modFlt ((s.wr0 F.FLT_DA_STAT_P_SEEN 1).wr0 F.FLT_DA_STAT_P_FLAGS fl) fun f =>
      { f with pSeq := some hseq, pAt := some s.now, silent := false
               yielded := f.yielded || (f.claimAt.isSome && !bitAt fl 4) }
    if bitAt fl 2 then
      sendHealth { s1.wr0 F.FLT_DA_STAT_COVER_ACT 0 with coverFrom := none }
    else if bitAt fl 1 && s1.flag F.FLT_DA_STAT_SEQ_OK && !s1.flag F.FLT_DA_STAT_COVER_ACT then
      let s2 := { s1.wr0 F.FLT_DA_STAT_COVER_ACT 1 with coverFrom := some (s.now + 2000000) }
      healthOnChange (coverResend (daFault s2 2 (partnerPlane s)))
    else s1

/-- A resigned engine whose SEQ_OK has held for HOLDOFF claims its groups back (R437). -/
def takebackClaim (s : State) : State :=
  let hold := s.rd0 F.FLT_DA_CFG_HOLDOFF
  if hold ≠ 0 ∧ s.flag F.FLT_DA_STAT_RESIGNED ∧ s.flag F.FLT_DA_STAT_SEQ_OK ∧ s.flt.claimAt = none
      ∧ s.flt.okSince.any (fun t => decide (t + 100000000 * hold ≤ s.now)) then
    sendHealth (modFlt (s.wr0 F.FLT_DA_STAT_TAKEBACK 1) fun f => { f with claimAt := some s.now, yielded := false, claimLate := false })
  else s

/-- The partner has yielded and 2 ms have passed since TAKEBACK was first sent. The engine takes the active role: it resends the ABORTs
it recorded and decides what they do not cover (06 R182). -/
def takebackComplete (s : State) : State :=
  if s.flt.yielded ∧ s.flt.claimAt.any (fun t => decide (t + 2000000 ≤ s.now)) then
    let s1 := ((s.wr0 F.FLT_DA_STAT_OWN_ACT 1).wr0 F.FLT_DA_STAT_TAKEBACK 0).wr0 F.FLT_DA_STAT_RESIGNED 0
    let s2 := sendHealth (daFault (modFlt s1 fun f => { f with claimAt := none, yielded := false, okSince := none }) 3 s.plane)
    settleGroups (decideAsked (resendAborts s2 s.plane) s.plane)
  else s

/-- No yielding HEALTH within 1 s. -/
def takebackTimeout (s : State) : State :=
  if !s.flt.yielded ∧ !s.flt.claimLate ∧ s.flt.claimAt.any (fun t => decide (t + 1000000000 ≤ s.now)) then
    daFault (modFlt s fun f => { f with claimLate := true }) 5 (partnerPlane s)
  else s

/-- No HEALTH kept for 16 × HIVL (R438). -/
def partnerSilent (s : State) : State :=
  let ivl := s.rd0 F.FLT_DA_CFG_HIVL
  if s.isRack ∧ ivl ≠ 0 ∧ s.flt.silent = false ∧ (s.flt.pAt.getD 0) + 16000 * ivl ≤ s.now then
    daFault (modFlt (s.wr0 F.FLT_DA_STAT_P_SEEN 0) fun f => { f with silent := true }) 4 (partnerPlane s)
  else s

/-- Hold-off remaining, in whole units of 100 ms (FLT_DA_STAT), rounded as GLB_SEM.REMAIN is (log 75). -/
def holdLeft (s : State) : Nat :=
  match s.flt.okSince with
  | some t => if s.flt.claimAt.isSome then 0 else
      let stop := t + 100000000 * s.rd0 F.FLT_DA_CFG_HOLDOFF
      (stop - s.now) / 100000000
  | none => 0

/-! ## Pump, pool and port resets (R430, R431, 09 R275, 03 R98) -/

/-- GLB_RST_STAT.BUSY: a core warm, pump or pool reset runs. The go bit of one that has ended returns to 0. -/
def settleBusy (s0 : State) : State :=
  let s1 := if s0.rst.coreAt.isSome then s0 else s0.wr0 F.GLB_RST_CORE_WARM 0
  let s2 := if s1.pumpHold.isSome then s1 else s1.wr0 F.GLB_RST_PUMP 0
  let s := if s2.well.poolUntil.isSome then s2 else s2.wr0 F.GLB_RST_POOL 0
  s.wr0 F.GLB_RST_STAT_BUSY (b2n (s.rst.coreAt.isSome || s.pumpHold.isSome || s.well.poolUntil.isSome))

/-- Start a pump-domain reset, unless it or a larger one runs. -/
def pumpReset (s : State) (bySrc : Option Nat) : State :=
  if s.pumpHold.isSome ∨ inCoreReset s then s
  else settleGroups (settleBusy (pumpDomainReset (resetTaken s 2 bySrc)))

/-- The pool-domain reset's effects on the well and the rooms. -/
def poolEffects (s : State) : State :=
  let s1 := modWell (poolEnd s) fun w => { w with poolUntil := some s.now, ue := [], hb := w.hb.map fun e => (e.1, s.now) }
  (List.range 128).foldl (fun s r => abandonRoom s r) (poolRegs s1)

/-- Start a pool-domain reset, unless it or a larger one runs. -/
def poolReset (s : State) (bySrc : Option Nat) : State :=
  if s.well.poolUntil.isSome ∨ inCoreReset s then s
  else settleBusy (poolEffects (resetTaken s 3 bySrc))

/-- Reset a physical port (R426): its links leave the up stage with cause 6, its PRT and LNK run state and counters go. During
a core warm reset it waits for the end, and the PORT_GO of a write reads 1 until then. -/
def portReset (s : State) (p : Nat) (bySrc : Option Nat) : State :=
  if p ≥ 80 then s
  else if inCoreReset s then
    let s1 := if bySrc.isNone then s.wr0 F.GLB_RST_PORT_GO 1 else s
    { s1 with rst := { s1.rst with ports := s1.rst.ports.filter (·.1 != p) ++ [(p, bySrc)] } }
  else
    let s1 := resetTaken s 4 bySrc
    let lo := 0x1000000 + p * 0x10000
    let llo := 0x1800000 + p * 0x8000
    let blk := fun off => inBlock off lo (lo + 0x10000) || inBlock off llo (llo + 0x8000)
    let s2 := (linksOf s1 p).foldl (fun s lp => if s.linkUp lp then linkDown s lp 6 else s) s1
    let s3r := dropHeld (dropFields s2 fun f i => (f.acc.isRun || f.reg == .PRT_PEER) && blk (regOff f.reg i)) blk
    let s3 := ((List.range 8).map (8 * p + ·)).foldl (fun s l => modLane s l fun x => { x with prbsNs := 0, prbsAt := none }) s3r
    let s4 := if s.portMode p = 0 then s3
      else (linksOf s3 p).foldl startDetect { s3 with rst := { s3.rst with running := p :: s3.rst.running.filter (· != p) } }
    settleGroups (((linksOf s1 p).filter s1.linkUp).foldl (fun s lp => s.wr F.PRT_LERR_LAST_DOWN lp 6) s4)

/-! ## The core warm reset (R427, R428, R431, 13 R510) -/

/-- The packets that a core warm reset has its stations send: HEALTH with RESIGN and ABORT_REQ (15 R427). -/
def isWarmCtl (h : Header) : Bool := (h.opcode == 0x05 && bitAt h.opw1 1) || (h.opcode == 0x06 && h.opw0 / 2 ^ 28 == 0)

/-- They leave at once where they have not yet left, ahead of the flush; a link that may send no cell keeps its copy for the flush to
discard. -/
def sendNow (s : State) : State :=
  (s.sw.pkts.filter fun p => p.emit.isSome && isWarmCtl p.hdr).foldl (fun s p =>
    let go := p.tgts.filter fun t => decide (t.lp < 160) && t.live && t.sent == 0 && s.linkUp t.lp && !s.paused t.lp
    cleanup (go.foldl (fun s t =>
      updTgt (removeCells (portCell s t.lp (leavingHeader s p t)) p.pid t.id) p.pid t.id fun t => { t with fin := true }) s) p.pid) s

/-- The PAUSE packet of a core warm reset, and its RESUME. -/
def pauseHdr (kind dur : Nat) : Header := mkHdr 0x03 0 0 0 0 0 0 (kind * 2 ^ 24 + dur) 0 0

/-- Open packets at egress are ended with TCODE 5 where a cell may go, which is not so on a paused link (R428); every other packet that
has met no reason yet is discarded whole, 0x16. -/
def flushCore (s : State) : State :=
  let s1 := s.sw.pkts.foldl (fun s p =>
    let begun := p.tgts.filter fun t => decide (t.lp < 160) && t.sent != 0 && !t.fin
    let s2 := begun.foldl (fun s t =>
      if decide (0 < credits s t.lp p.hdr.vc) && s.linkUp t.lp && !s.paused t.lp && !egressShut s t.lp then
        sendCell s t.lp p.hdr.vc 4 ⟨cellHdr 2 p.hdr.vc (t.endTc.getD 5) t.sent, List.replicate 16 0⟩ false
      else s) s
    if (p.tgts.any fun t => t.mir.isNone && t.lp < 160 && t.sent != 0) || !goesOn s p.pid then s2
    else
      let moved := s.sw.cells.any (·.pid == p.pid)
      match moved, p.tgts.find? fun t => decide (t.lp < 160) && t.mir.isNone && !t.fin with
      | true, some t => s2.discard t.lp p.hdr.vc 0x16 false
      | true, none => s2.discardAt (if p.arr = 161 then 160 else p.arr) p.hdr.vc 0x16
      | false, some t => if p.arr = 161 then s2.discard t.lp p.hdr.vc 0x16 false else s2.discardAt p.arr p.hdr.vc 0x16
      | false, none => s2.discardAt p.arr p.hdr.vc 0x16) s
  let s2 := s1.sw.stationQ.foldl (fun s w => if w.pkt.arr = 161 then s else s.discardAt w.pkt.arr w.pkt.hdr.vc 0x16) s1
  let s3 := s2.sw.hostQ.foldl (fun s w => if w.mir.isSome then s else s.discardAt (if w.pkt.arr = 161 then 160 else w.pkt.arr) w.pkt.hdr.vc 0x16) s2
  let s4 := (s3.sw.asm.filter fun e => e.2.drop && e.2.pend != 0).foldl
    (fun s e => discardArr s (e.1 / 8) (e.1 % 8) (flushReason e.2.pend)) s3
  modSw s4 fun w => { w with
    wait := [], cells := [], bodies := [], pkts := [], seqNext := [], seqExp := [], skips := [], egr := [], eport := [], altPtr := []
    rrPtr := [], tie := [], mirCnt := [], stationQ := [], hostQ := [], gather := []
    asm := w.asm.map fun e => (e.1, { e.2 with drop := true, pend := 0 }) }

/-- What a station keeps across a core warm reset: its queue, the TOKEN it waits for and the last that came, how its group was
made. -/
def warmGroup (x : GrpSt) : GrpSt :=
  { grpInit with queue := x.queue, tokenMax := x.tokenMax, tokenWait := x.tokenWait, shaped := x.shaped }

/-- Start a core warm reset. -/
def coreWarm (s : State) (bySrc : Option Nat) : State :=
  if inCoreReset s then s
  else
    let s1 := resetTaken s 1 bySrc
    let s2 := seqWarmResign s1
    let s3 := (s2.grps.map (·.1)).foldl (fun s g => match (getGrp s g).op with
      | some o => raiseAbort s g o.seq 5
      | none => s) s2
    let s4 := (List.range 160).foldl (fun s lp => if s.linkUp lp then portCell s lp (pauseHdr 0 20) else s) (sendNow s3)
    let s5 := flushCore s4
    let pumpRun := if s.pumpHold.isSome then s5 else pumpDomainReset s5
    let s6 := if s.well.poolUntil.isSome then pumpRun else poolEffects pumpRun
    let s7 := warmRegs s6
    let s8 := { s7 with
      grps := (s7.grps.map fun e => (e.1, warmGroup e.2)).filter fun e => e.2 != grpInit
      grpRr := (0, 0), resend := [], winOpen := [], coverFrom := none
      time := { s7.time with armed := none, delays := [], reqAt := none }
      tel := ⟨[], [], [], none, (s7.tel.running.toList.filter (·.hop.isSome)) ++ s7.tel.queue, s.now, []⟩
      rst := { s7.rst with coreAt := some s.now } }
    settleBusy s8

/-! ## The collector (R412 to R419) -/

/-- The reset of a port that a fault asks for while its bring-up of the last one runs, or of Gesta while RECOVERY_N holds it, is not
applied again (R417). -/
def resetRuns (s : State) (src : Nat) : Bool :=
  if src = 0xA then !s.pin.recovery else decide (0x100 ≤ src) && s.rst.running.contains (src - 0x100)

/-- The block reset of a source (R413). -/
def blockReset (s : State) (src : Nat) (ev : BootEv) : State :=
  let by_ := some src
  if resetRuns s src then s
  else if src = 2 ∨ src = 4 ∨ src = 5 ∨ src = 9 then coreWarm s by_
  else if src = 3 ∨ src = 0xC then hostReset (resetTaken s 5 by_)
  else if src = 6 then pumpReset s by_
  else if src = 7 ∨ src = 8 then poolReset s by_
  else if src = 0xA then gmcReset s ev by_
  else if 0x100 ≤ src ∧ src < 0x150 then portReset s (src - 0x100) by_
  else s

/-- An in-band interrupt, unless DISEC has turned target interrupts off (12 R356, log 53). -/
def sendIbi (s : State) (b : Nat) : State := if bitAt s.bus.events 0 then s.emit (.ibi b) else s

/-- The reactions of a severity (R415). No reset reaction runs in the safe state (R424). -/
def react (s : State) (src v : Nat) (ev : BootEv) : State :=
  let on := fun f => s.flag f v
  let s1 := if on F.FLT_SEVMAP_IRQ then sendMsix s (s.rd F.FLT_SEVMAP_VEC v) else s
  let s2 := if on F.FLT_SEVMAP_SB then sendIbi s1 0xF0 else s1
  let s3 := if on F.FLT_SEVMAP_NMI && gestaOk s2 then s2.emit .nmi else s2
  let s4 := if on F.FLT_SEVMAP_PIN then setLatch s3 else s3
  if isSafe s then s4
  else
    let s5 := if on F.FLT_SEVMAP_BLK then blockReset s4 src ev else s4
    if on F.FLT_SEVMAP_CHIP then coreWarm s5 (some src) else s5

/-- Capture and count a message (R418, R419). -/
def capture (s : State) (src sev : Nat) (m : HeldMsg) : State :=
  let s1 := s.wr F.FLT_CAP_LAST_KIND src m.kind
  if s.flag F.FLT_CAP_VALID src then s1.bump F.FLT_CAP_COUNT src (1 + m.merged)
  else
    let set := fun (s : State) (e : Field × Nat) => s.wr e.1 src e.2
    [(F.FLT_CAP_VALID, 1), (F.FLT_CAP_SEV, sev), (F.FLT_CAP_KIND, m.kind), (F.FLT_CAP_MASTER, m.master),
     (F.FLT_CAP_ACCESS, m.access), (F.FLT_CAP_PORT, m.port), (F.FLT_CAP_ADDR_LO, m.addr % 2 ^ 32),
     (F.FLT_CAP_ADDR_HI, m.addr / 2 ^ 32), (F.FLT_CAP_TIME_LO, s.fabric % 2 ^ 32), (F.FLT_CAP_TIME_HI, s.fabric / 2 ^ 32),
     (F.FLT_CAP_COUNT, min (2 ^ 32 - 1) (1 + m.merged))].foldl set s1

/-- The first message of severity 1 or more from any source. -/
def captureFirst (s : State) (src sev kind : Nat) : State :=
  if sev = 0 ∨ s.flag F.FLT_GFIRST_VALID = true then s
  else (((s.wr0 F.FLT_GFIRST_VALID 1).wr0 F.FLT_GFIRST_SEV sev).wr0 F.FLT_GFIRST_KIND kind).wr0 F.FLT_GFIRST_SOURCE src

/-- The collector takes a good message (R416). -/
def takeMessage (s : State) (src : Nat) (m : HeldMsg) (ev : BootEv) : State :=
  if s.flag F.FLT_SRC_CFG_EN src = false then s
  else
    let sev := s.severity src m.kind
    let s1 := captureFirst (capture s src sev m) src sev m.kind
    if sev = 0 then s1
    else
      let was := s.flag F.FLT_SRC_CFG_PEND src
      let psev := if was then s.rd F.FLT_SRC_CFG_PSEV src else 0
      let s2 := (s1.wr F.FLT_SRC_CFG_PEND src 1).wr F.FLT_SRC_CFG_PSEV src (max psev sev)
      if was = false ∨ psev < sev then react s2 src sev ev else s2

/-- The collector serves a source. `bad` is the SOURCE field of a message that fails its CRC as received, `parity` the offset of
a word of its own storage that fails its parity check (R412, R422). -/
def faultMessage (s : State) (src : Nat) (bad parity : Option Nat) (ev : BootEv) : State :=
  match mget s.flt.held src with
  | none => s
  | some m =>
    let s1 := modFlt s fun f => { f with held := mdel f.held src }
    match bad, parity with
    | some r, _ => safeEnter s1 2 (r % 1024)
    | none, some off => safeEnter s1 1 (off % 2 ^ 20)
    | none, none => takeMessage s1 src m ev

/-- FLT_PEND[i]: the PEND bits of 32 sources. -/
def pendWord (s : State) (i : Nat) : Nat :=
  ((List.range 32).map fun j => if s.flag F.FLT_SRC_CFG_PEND (32 * i + j) then 2 ^ j else 0).foldl (· + ·) 0

end Sys2Proof.Machine
end

