-- ==== Sys2Proof/Machine/Power.lean ====
section
/-! DEFINITION. Power, caps, the loop, the brake, temperature and coolant, emergency off (file 16, R442 to R461). -/

namespace Sys2Proof.Machine

open Sys2Proof

def modPwr (s : State) (f : PwrSt → PwrSt) : State := { s with pwr := f s.pwr }

/-- The PWR block reports an event (R463). -/
def pwrFault (s : State) (kind addr : Nat) : State := s.report 1 kind addr

def ceilDiv (a b : Nat) : Nat := if b = 0 then 0 else (a + b - 1) / b

/-! ## The effective cap (R443) and F_CAP (R447) -/

def capHost (s : State) : Nat := if s.rd0 F.PWR_CAP_HOST_CAP = 0 then 1400 else s.rd0 F.PWR_CAP_HOST_CAP

/-- The rack's term, and the BIND code it has: 2 under its lease, 3 after a lapse. -/
def capRack (s : State) : Nat × Nat :=
  let v := if s.pwr.rack = 0 then 0 else if s.pwr.rack = 1 then s.rd0 F.PWR_CAP_RACK_CAP else s.rd0 F.PWR_LEASE_FALLBACK
  (if v = 0 then 1400 else v, if s.pwr.rack = 2 then 3 else 2)

def capMin (s : State) : Nat := min (min (capHost s) (capRack s).1) (min (s.rd0 F.PWR_MEAS_P_T) 1400)

/-- BIND: the lowest code among the tied terms. -/
def capBind (s : State) : Nat :=
  let m := capMin s
  if m < 700 then 5 else if m = 1400 then 0 else if m = capHost s then 1 else if m = (capRack s).1 then (capRack s).2 else 4

/-- F_CAP for a cap: the first entry whose CAP is at most C. -/
def fCapFor (s : State) (c : Nat) : Nat :=
  match (List.range 8).find? fun i => decide (s.rd F.PWR_FTAB_CAP i ≤ c) with
  | some i => s.rd F.PWR_FTAB_F i
  | none => s.rd F.PWR_FTAB_F 7

def braking (s : State) : Bool := s.flag F.PWR_STAT_BRAKE

/-- The clock and the rate in use follow the loop, F_CAP and the brake; a change of F is a condition of timetables (R447,
05 R143). -/
def settleLevels (s : State) : State :=
  let fcap := fCapFor s (s.rd0 F.PWR_STAT_EFF_CAP)
  let fNow := if braking s then min s.pwr.f (s.rd0 F.PWR_BRK_CFG_BRK_F) else s.pwr.f
  let uNow := if braking s then min s.pwr.u (s.rd0 F.PWR_BRK_CFG_BRK_U) else s.pwr.u
  let fShow := min fcap fNow
  let s1 := ((s.wr0 F.PWR_LEVEL_F_NOW fNow).wr0 F.PWR_LEVEL_F_CAP fcap).wr0 F.PWR_LEVEL_U_NOW uNow
  if s1.rd0 F.PMP_FREQ_F = fShow then s1
  else
    let s2 := conditionChange (s1.wr0 F.PMP_FREQ_F fShow) none
    { s2 with time := { s2.time with admCut := s2.time.admCut || s2.flag F.TIM_ADM_STAT_BUSY } }

/-! ## The brake (R450 to R453) -/

def brakeCauses : List Field :=
  [F.PWR_BRK_STAT_PIN, F.PWR_BRK_STAT_COOL, F.PWR_BRK_STAT_UV, F.PWR_BRK_STAT_CAPDROP, F.PWR_BRK_STAT_LEAK,
   F.PWR_BRK_STAT_TOPER, F.PWR_BRK_STAT_HOST_REQ, F.PWR_BRK_STAT_RACK_REQ]

/-- Bits [31:24] of PWR_BRK_STAT. -/
def causeBits (s : State) : Nat := (brakeCauses.map fun f => s.rd0 f * 2 ^ (f.lsb - 24)).foldl (· + ·) 0

/-- Under the brake every transmitter that is idle enters electrical idle at once (R451, 11 R322). -/
def brakeEidle (s : State) : State := (List.range 160).foldl eidleEnter s

/-- A cause begins or ends. -/
def setCause (s : State) (f : Field) (on : Bool) : State :=
  if s.flag f = on then s
  else
    let s1 := s.wr0 f (b2n on)
    let s2 := if on then pwrFault s1 2 (causeBits s1) else s1
    let any := causeBits s2 != 0
    let s3 := if any && !braking s then s2.bump F.PWR_BRK_STAT_COUNT 0 else s2
    let s4 := settleLevels (s3.wr0 F.PWR_STAT_BRAKE (b2n any))
    if any && !braking s then brakeEidle s4 else s4

/-- CAPDROP (R452): what the loop's levels become when C falls. The numbers are signed: an `f` below F_CAP rises to it (log 100). -/
def capDrop (s : State) : State :=
  let c := s.rd0 F.PWR_STAT_EFF_CAP
  let p := s.rd0 F.PWR_MEAS_P
  let margin := s.rd0 F.PWR_BRK_CFG_BRK_MARGIN
  if margin = 0 ∨ p ≤ c + margin then s
  else
    let ps := s.rd0 F.PWR_LOOP_PSTEP_F
    let n : Int := min (((s.pwr.f : Int) - (fCapFor s c : Int)).tdiv 50) (ceilDiv (p - c) ps : Int)
    let d : Nat := ((p : Int) - (c : Int) - n * (ps : Int)).toNat
    let u1 := if d > 0 then max (s.rd0 F.PWR_LOOP_U_MIN) (s.pwr.u - ceilDiv d (s.rd0 F.PWR_LOOP_PSTEP_U)) else s.pwr.u
    let f1 := ((s.pwr.f : Int) - 50 * n).toNat
    setCause (modPwr s fun w => { w with f := f1, u := u1, capdrop := some s.now }) F.PWR_BRK_STAT_CAPDROP true

/-- Compute C and F_CAP afresh (R443). -/
def settleCap (s : State) : State :=
  let m := capMin s
  let c := max 700 m
  let old := s.rd0 F.PWR_STAT_EFF_CAP
  let s1 := (s.wr0 F.PWR_STAT_EFF_CAP c).wr0 F.PWR_STAT_BIND (capBind s)
  let s2 := if m < 700 ∧ s.rd0 F.PWR_STAT_BIND ≠ 5 then pwrFault s1 0xA m else s1
  settleLevels (if c < old then capDrop s2 else s2)

/-! ## The two caps and the lease (R443 to R446) -/

def capHostWrite (s : State) (m : Master) (val be : Nat) : State := settleCap (writeWord s m .PWR_CAP_HOST 0 0 val be)

/-- A write of PWR_CAP_RACK starts the lease afresh. -/
def capRackWrite (s : State) (m : Master) (val be : Nat) : State :=
  let s1 := writeWord s m .PWR_CAP_RACK 0 0 val be
  let l := s1.rd0 F.PWR_LEASE_LEASE
  let s2 := modPwr s1 fun w => { w with rack := 1, leaseEnd := if l = 0 then none else some (s.now + 100000000 * l) }
  settleCap (s2.wr0 F.PWR_STAT_LEASE_OK (b2n (l != 0)))

/-- A write of PWR_LEASE: a LEASE of 0 disables the lease that runs, and the rack cap stays (log 52). -/
def leaseWrite (s : State) (m : Master) (val be : Nat) : State :=
  let s1 := writeWord s m .PWR_LEASE 0 0 val be
  let s2 := if s1.rd0 F.PWR_LEASE_LEASE = 0 then (modPwr s1 fun w => { w with leaseEnd := none }).wr0 F.PWR_STAT_LEASE_OK 0 else s1
  settleCap s2

/-- The lease runs out. -/
def leaseLapse (s : State) : State :=
  if s.pwr.leaseEnd.any fun t => decide (t ≤ s.now) then
    let s1 := modPwr s fun w => { w with rack := 2, leaseEnd := none }
    settleCap (pwrFault (s1.wr0 F.PWR_STAT_LEASE_OK 0) 1 (s.rd0 F.PWR_LEASE_FALLBACK))
  else s

/-- PWR_LEASE_LEFT, in whole units of 100 ms, rounded as GLB_SEM.REMAIN is (log 75). -/
def leaseLeft (s : State) : Nat :=
  match s.pwr.leaseEnd with
  | some t => (t - s.now) / 100000000
  | none => 0

/-- CAPDROP ends BRK_HOLD ms after it began. -/
def capdropEnd (s : State) : State :=
  let hold := s.rd0 F.PWR_BRK_CFG_BRK_HOLD
  if hold ≠ 0 ∧ s.pwr.capdrop.any (fun t => decide (t + 1000000 * hold ≤ s.now)) then
    setCause (modPwr s fun w => { w with capdrop := none }) F.PWR_BRK_STAT_CAPDROP false
  else s

/-- A write of PWR_BRK_REQ: a cause that begins is set before one that ends, so that the brake stays applied (R453). -/
def brkReqWrite (s : State) (m : Master) (val be : Nat) : State :=
  let s1 := writeWord s m .PWR_BRK_REQ 0 0 val be
  let host := fun (s : State) => setCause s F.PWR_BRK_STAT_HOST_REQ (s1.flag F.PWR_BRK_REQ_HOST_REQ)
  let rack := fun (s : State) => setCause s F.PWR_BRK_STAT_RACK_REQ (s1.flag F.PWR_BRK_REQ_RACK_REQ)
  if s1.flag F.PWR_BRK_REQ_HOST_REQ then rack (host s1) else host (rack s1)

/-! ## The 1 ms loop (R448) -/

/-- The thermal limit after a loop period. -/
def thermalLimit (s : State) : Nat :=
  let thr := s.rd0 F.PWR_THERM_CFG_T_THR
  let pt := s.rd0 F.PWR_MEAS_P_T
  let t : Int := s.pwr.tPeak.getD (s.rd0 F.PWR_TEMP_TJ_MAX : Int)
  let p1 :=
    if thr ≠ 0 ∧ t > (thr : Int) then max 700 (pt - 10 * (t - (thr : Int)).toNat)
    else if thr = 0 ∨ t < (thr : Int) - 3 then min 1400 (pt + 5)
    else pt
  if s.pwr.inletHot then
    min p1 (if s.rd0 F.PWR_LEASE_FALLBACK = 0 then 980 else s.rd0 F.PWR_LEASE_FALLBACK)
  else p1

/-- P_T changes: THROT shows whether it is below 1,400 W, kind 0x03 when it sets (R455). -/
def setPt (s : State) (pt : Nat) : State :=
  let s1 := s.wr0 F.PWR_MEAS_P_T pt
  let on := decide (pt < 1400)
  let s2 := if on ∧ s.flag F.PWR_STAT_THROT = false then pwrFault s1 3 (s.rd0 F.PWR_TEMP_TJ_MAX) else s1
  s2.wr0 F.PWR_STAT_THROT (b2n on)

/-- One step of the loop: f and u. -/
def loopStep (s : State) (p : Nat) : Nat × Nat :=
  let c := s.rd0 F.PWR_STAT_EFF_CAP
  let fcap := fCapFor s c
  let f := s.pwr.f
  let u := s.pwr.u
  let umin := s.rd0 F.PWR_LOOP_U_MIN
  if p > c then
    if f > fcap then (max fcap (f - 50 * ceilDiv (p - c) (s.rd0 F.PWR_LOOP_PSTEP_F)), u)
    else if u > umin then (f, max umin (u - ceilDiv (p - c) (s.rd0 F.PWR_LOOP_PSTEP_U)))
    else if f > 500 then (f - 50, u)
    else (f, u)
  else if p + s.rd0 F.PWR_LOOP_HYST < c then
    if f < fcap then (f + 50, u)
    else if u < 64 then (f, u + 1)
    else if f < 2000 then (f + 50, u)
    else (f, u)
  else (f, u)

/-- A thermistor whose reading has not changed keeps the span of P meanwhile (R459). -/
def spanP (p : Nat) (e : Nat × (Int × Nat × Nat × Nat)) : Nat × (Int × Nat × Nat × Nat) :=
  (e.1, (e.2.1, e.2.2.1, min e.2.2.2.1 p, max e.2.2.2.2 p))

/-- A sensor has been declared failed. -/
def sensorFailed (s : State) (k : Nat) : Bool := bitAt (s.rd0 F.PWR_SENS_FAIL_FAILED) k
/-- Declare a sensor failed, kind 0x08. -/
def failSensor (s : State) (k : Nat) : State :=
  if sensorFailed s k then s
  else pwrFault (s.wr0 F.PWR_SENS_FAIL_FAILED (s.rd0 F.PWR_SENS_FAIL_FAILED + 2 ^ k)) 8 k

/-- The heat balance (R459), by the last readings in tenths of a degree: broken below or above since when. It is judged at every
reading and at every loop period, where P changes. -/
def heatBalance (s : State) (tin tout : Int) : State :=
  let k := s.rd0 F.PWR_COOL_CFG_KFLOW
  let p := s.rd0 F.PWR_MEAS_P
  let d := (tout - tin) * 1000
  let e : Int := (k : Int) * (p : Int)
  let on := k != 0 && decide (p ≥ 500)
  let low := on && decide (d < e - 50000)
  let high := on && decide (d > e + 50000)
  let since := fun (b : Bool) (o : Option Nat) => if b then some (o.getD s.now) else none
  let s1 := modPwr s fun w => { w with below := since low w.below, above := since high w.above }
  let held := fun (o : Option Nat) => o.any fun t => decide (t + 10000000000 ≤ s.now)
  let s2 := if held s1.pwr.below then failSensor s1 21 else s1
  if held s1.pwr.above then failSensor s2 20 else s2

/-- The heat balance at the end of a loop period. -/
def heatAgain (s : State) : State :=
  match mget s.pwr.thLast 20, mget s.pwr.thLast 21 with
  | some a, some b => heatBalance s a.1 b.1
  | _, _ => s

/-- The end of a loop period, with the mean power `p` that the monitors measured. While CAPDROP holds the loop takes no step; with
BRK_HOLD 0 this ends a CAPDROP that has not begun with it, and the loop continues at the next end (R452, log 100). -/
def powerLoop (s : State) (p : Nat) : State :=
  let s0 := heatAgain (modPwr (s.wr0 F.PWR_MEAS_P p) fun w => { w with thLast := w.thLast.map (spanP p) })
  let s1 := settleCap (setPt s0 (thermalLimit s0))
  let (f, u) := if s1.pwr.capdrop.isSome then (s1.pwr.f, s1.pwr.u) else loopStep s1 p
  let slow := decide (f < fCapFor s1 (s1.rd0 F.PWR_STAT_EFF_CAP))
  let s2 := modPwr s1 fun w => { w with f := f, u := u, tPeak := none }
  let s3 := if slow ∧ s.flag F.PWR_STAT_OVERRUN = false then pwrFault s2 9 f else s2
  let s4 := settleLevels (s3.wr0 F.PWR_STAT_OVERRUN (b2n slow))
  if s.rd0 F.PWR_BRK_CFG_BRK_HOLD = 0 ∧ s.pwr.capdrop.isSome = true ∧ s4.pwr.capdrop = s.pwr.capdrop then
    setCause (modPwr s4 fun w => { w with capdrop := none }) F.PWR_BRK_STAT_CAPDROP false
  else s4

/-! ## Temperature (R454 to R457) -/

/-- A thermal shutdown (R456); a T_SHUT of 0 disables it. -/
def thermalShutdown (s : State) (why : Nat) : State :=
  if isSafe s = true ∨ s.rd0 F.PWR_THERM_CFG_T_SHUT = 0 then s else safeEnter (pwrFault s 5 why) 3 0

/-- The group of a diode: switch dies 0 and 1, SerDes chiplets, I/O die. -/
def diodeGroup (d : Nat) : List Nat :=
  if d < 4 then [0, 1, 2, 3] else if d < 8 then [4, 5, 6, 7] else if d < 16 then [8, 9, 10, 11, 12, 13, 14, 15]
  else [16, 17, 18, 19]

/-- The median of a list, the lower of the middle two (log 60). -/
def medianOf (xs : List Int) : Int := (sortBy (fun a b => decide (a ≤ b)) xs).getD ((xs.length - 1) / 2) 0

/-- A diode lies more than 20 °C from the median of the healthy diodes of its group (readings in tenths of a degree). -/
def diodeOff (s : State) (rs : List Int) (d : Nat) : Bool :=
  let ok := (diodeGroup d).filter fun k => !sensorFailed s k
  let x := rs.getD d 0
  let m := medianOf (ok.map fun k => rs.getD k 0)
  decide (x - m > 200) || decide (m - x > 200)

/-- One sample of the 20 diodes, in tenths of a degree. -/
def diodeSample (s : State) (rs : List Int) : State :=
  let ids := List.range 20
  let s1 := ids.foldl (fun s d => if rs.getD d 0 < -400 ∨ rs.getD d 0 > 1500 then failSensor s d else s) s
  let off := ids.filter fun d => !sensorFailed s1 d && diodeOff s1 rs d
  let dev := off.map fun d => (d, mgetD s.pwr.dev d s.now)
  let s2 := dev.foldl (fun s e => if e.2 + 100000000 ≤ s.now then failSensor s e.1 else s) s1
  let healthy := ids.filter fun d => !sensorFailed s2 d
  let top := (healthy.map fun d => rs.getD d 0).foldl max (-400)
  let used := ids.map fun d => if sensorFailed s2 d then top + 100 else rs.getD d 0
  let tj := used.foldl max (-1000)
  let hot := (ids.find? fun d => used.getD d 0 == tj).getD 0
  let deg := tj.fdiv 10
  let shown := deg.toNat
  let s3 := modPwr ((s2.wr0 F.PWR_TEMP_TJ_MAX (min 255 shown)).wr0 F.PWR_TEMP_HOT hot) fun w => { w with
    dev := dev, diodes := used, tPeak := some (match w.tPeak with
      | some t => max t deg
      | none => deg) }
  let oper := s.rd0 F.PWR_THERM_CFG_T_OPER
  let above := oper != 0 && decide (tj > 10 * (oper : Int))
  let below := oper == 0 || decide (tj ≤ 10 * ((oper : Int) - 3))
  let s4 := if above ∧ s3.flag F.PWR_BRK_STAT_TOPER = false then pwrFault (setCause s3 F.PWR_BRK_STAT_TOPER true) 4 hot
    else if below then setCause s3 F.PWR_BRK_STAT_TOPER false else s3
  let shut := s.rd0 F.PWR_THERM_CFG_T_SHUT
  let isHot := shut != 0 && decide (tj ≥ 10 * (shut : Int))
  let s5 := modPwr s4 fun w => { w with hotLast := isHot }
  let dead := [[0, 1, 2, 3], [4, 5, 6, 7], [16, 17, 18, 19]].any fun g => g.all (sensorFailed s5)
  if isHot ∧ s.pwr.hotLast = true then thermalShutdown s5 1
  else if dead then thermalShutdown s5 3
  else s5

/-- A write of the thermal limits: ignored when their order is broken. -/
def thermCfgWrite (s : State) (m : Master) (val be : Nat) : State :=
  let s1 := writeWord s m .PWR_THERM_CFG 0 0 val be
  let xs := ([F.PWR_THERM_CFG_T_THR, F.PWR_THERM_CFG_T_OPER, F.PWR_THERM_CFG_T_SHUT].map s1.rd0).filter (· != 0)
  let ordered := (xs.zip (xs.drop 1)).all fun e => decide (e.1 < e.2)
  if ordered ∧ s1.rd0 F.PWR_THERM_CFG_T_SHUT ≤ 112 then s1
  else s.accessFault m 1 (regOff .PWR_THERM_CFG 0)

/-! ## Coolant (R458 to R460) -/

/-- A leak loop reading, in units of 100 Ω, that counts as a leak (19 R502). -/
def leakReads (r : Nat) : Bool := decide (r < 50) || decide (r > 150)

/-- A thermistor reading fails one of the plausibility checks of R459. -/
def thBad (s : State) (k : Nat) (x : Int) : Bool :=
  decide (x < -100) || decide (x > 950) || (match mget s.pwr.thLast k with
    | some (y, since, lo, hi) =>
      decide (x - y > 20) || decide (y - x > 20) || (x == y && decide (since + 60000000000 ≤ s.now) && decide (hi > lo + 200))
    | none => false)

/-- Keep a reading. -/
def thKeep (s : State) (k : Nat) (x : Int) : State :=
  let p := s.rd0 F.PWR_MEAS_P
  modPwr s fun w => { w with thLast := match mget w.thLast k with
    | some (y, since, lo, hi) => if x = y then mput w.thLast k (y, since, min lo p, max hi p) else mput w.thLast k (x, s.now, p, p)
    | none => mput w.thLast k (x, s.now, p, p) }

/-- A temperature in tenths as PWR_TEMP shows it: whole degrees, nothing below 0 (log 61). -/
def showDeg (x : Int) : Nat := min 255 (x.fdiv 10).toNat

/-- One reading of the two thermistors (tenths of a degree) and of the leak loop (units of 100 Ω). -/
def thermistorRead (s : State) (tin tout : Int) (loop : Nat) : State :=
  let s1 := if !sensorFailed s 20 && thBad s 20 tin then failSensor s 20 else s
  let s2 := if !sensorFailed s1 21 && thBad s1 21 tout then failSensor s1 21 else s1
  let s3 := thKeep (thKeep s2 20 tin) 21 tout
  let s4 := heatBalance s3 tin tout
  let s5 := if loop > 1000 then failSensor s4 22 else s4
  let worst : Int := 10 * ((s.rd0 F.PWR_THERM_CFG_INLET_MAX : Int) + 1)
  let useIn := if sensorFailed s5 20 || sensorFailed s5 21 then worst else tin
  let hot := s.rd0 F.PWR_THERM_CFG_INLET_MAX != 0 && decide (useIn > 10 * (s.rd0 F.PWR_THERM_CFG_INLET_MAX : Int))
  let s6 := (s5.wr0 F.PWR_TEMP_T_IN (showDeg useIn)).wr0 F.PWR_TEMP_T_OUT (showDeg tout)
  let s7 := if hot ∧ s.pwr.inletHot = false then pwrFault s6 6 (showDeg useIn) else s6
  let s8 := modPwr s7 fun w => { w with inletHot := hot }
  let s9 := if hot then settleCap (setPt s8 (min (s8.rd0 F.PWR_MEAS_P_T)
    (if s.rd0 F.PWR_LEASE_FALLBACK = 0 then 980 else s.rd0 F.PWR_LEASE_FALLBACK))) else s8
  let leak := leakReads loop || sensorFailed s9 22
  let s10 := if leak ∧ s.pwr.leak = false then pwrFault s9 7 22 else s9
  let s11 := modPwr s10 fun w => { w with leak := leak, leakSince := if leak then some (w.leakSince.getD s.now) else none }
  setCause s11 F.PWR_BRK_STAT_LEAK leak

/-- Coolant failure or a leak has held for CF_SHUT (R453). -/
def coolantShutdown (s : State) : State :=
  let cf := s.rd0 F.PWR_COOL_CFG_CF_SHUT
  let held := fun (o : Option Nat) => o.any fun t => decide (t + 100000000 * cf ≤ s.now)
  if cf ≠ 0 ∧ (held s.pwr.coolSince ∨ held s.pwr.leakSince) then thermalShutdown s 2 else s

/-! ## ATEST (18 R487) -/

/-- A pump passes on ATEST: its last test passed and none runs. -/
def pumpGood (s : State) (n : Nat) : Bool := s.flag F.PMP_TEST_PASS n && !s.flag F.PMP_TEST_BUSY n

/-- What ATEST drives in mV: nothing, the bandgap, a diode or TJ_MAX at 10 mV/°C above 500 mV, half a rail (its
voltage is free, log 101), pump pass. -/
def atestMv (s : State) : Int :=
  let i := s.rd0 F.PWR_ATEST_IDX
  let diode := fun n => s.pwr.diodes.getD n 0
  if s.pin.aon = false then 0
  else match s.rd0 F.PWR_ATEST_SEL with
    | 1 => 1200
    | 2 => 500 + (if i = 0x1F then s.pwr.diodes.foldl max (diode 0) else diode i)
    | 3 => (Config.railMv i s.now / 2 : Nat)
    | 4 => if (if i = 0xFF then (List.range 168).all fun n => s.rd F.PMP_STAT_STATE n == 3 || pumpGood s n else pumpGood s i) then 1000 else 0
    | _ => 0

/-! ## Pins (R450, R457, R461) -/

/-- PWRBRK_N, COOLANT_FAIL_N or BUS_UV_N has a level; a low one counts once it has lasted 500 ns. -/
def brakePin (s : State) (f : Field) (high : Bool) (lowNs : Nat) : State :=
  if high then setCause s f false else if lowNs < 500 then s else setCause s f true

def coolantPin (s : State) (high : Bool) (lowNs : Nat) : State :=
  let s1 := modPwr { s with pin := { s.pin with coolant := high } } fun w => { w with
    coolSince := if high then none else if lowNs < 500 then w.coolSince else some (w.coolSince.getD (s.now - lowNs)) }
  brakePin s1 F.PWR_BRK_STAT_COOL high lowNs

/-- A chip that leaves reset finds its brake pins low (R450). -/
def brakePins (s : State) : State :=
  let s1 := if s.pin.pwrbrk then s else brakePin s F.PWR_BRK_STAT_PIN false 500
  let s2 := if s.pin.coolant then s1 else coolantPin s1 false 500
  if s.pin.busUv then s2 else brakePin s2 F.PWR_BRK_STAT_UV false 500

/-- THERMTRIP_N is driven low by the always-on comparators. -/
def thermTrip (s : State) : State := if s.pin.aon then { s with pin := { s.pin with thermtrip := true } } else s

/-- EPO_N has a level; low for 200 ns it is the emergency off. -/
def epoPin (s : State) (high : Bool) (lowNs : Nat) : State :=
  let s1 := { s with pin := { s.pin with epo := high } }
  if high ∨ lowNs < 200 ∨ chipOn s = false then s1 else safeEnter s1 4 0

end Sys2Proof.Machine
end

