-- ==== Sys2Proof/Machine/Commit.lean ====
section
/-! DEFINITION. Commits and the semaphore (05 R145, R146; 12 R359 to R364; 13 R376 to R382): the issue and its three
judgements, the checks, what takes effect at the boundary, REVERT, the configuration image and its passes. -/

namespace Sys2Proof.Machine

open Sys2Proof

/-! ## The semaphore (12 R361, R362) -/

/-- The identity that holds GLB_SEM: 0 none. -/
def semHolder (s : State) : Nat := s.rd0 F.GLB_SEM_HOLDER

def semFree (s : State) : State := { (s.wr0 F.GLB_SEM_HOLDER 0).wr0 F.GLB_SEM_HELD 0 with semEnd := none }

/-- Acquisition or renewal: the lease starts afresh. -/
def semTake (s : State) (m : Nat) : State :=
  let ms := s.rd0 F.GLB_SEM_CFG_LEASE
  { (s.wr0 F.GLB_SEM_HOLDER m).wr0 F.GLB_SEM_HELD 1 with semEnd := if ms = 0 then none else some (s.now + 1000000 * ms) }

/-- The lease left in whole ms, as the example of 12 R362 rounds it. -/
def semRemain (s : State) : Nat :=
  match s.semEnd with
  | none => 0
  | some t => min 65535 ((t - s.now) / 1000000)

/-- What a read of GLB_SEM does: a free semaphore is acquired, the reader's own is renewed. -/
def semRead (s : State) (m : Master) : State :=
  if semHolder s = 0 ∨ semHolder s = masterCode m then semTake s (masterCode m) else s

/-- What it returns: GOT is of this read. -/
def semWord (s : State) (m : Master) : Nat :=
  s.rd0 F.GLB_SEM_HELD % 2 * 2 ^ F.GLB_SEM_HELD.lsb + b2n (semHolder s == masterCode m) * 2 ^ F.GLB_SEM_GOT.lsb
    + semHolder s % 4 * 2 ^ F.GLB_SEM_HOLDER.lsb + s.rd0 F.GLB_SEM_DIRTY % 2 * 2 ^ F.GLB_SEM_DIRTY.lsb
    + semRemain s * 2 ^ F.GLB_SEM_REMAIN.lsb

/-- A write of GLB_SEM: only a whole one by the holder is heard. -/
def semWrite (s : State) (m : Master) (val be : Nat) : State :=
  let off := regOff .GLB_SEM 0
  if wholeBe be = false then (s.accessFault m 2 off).report 3 5 (masterCode m) (masterCode m) 2
  else if semHolder s ≠ masterCode m then (s.accessFault m 1 off).report 3 5 (masterCode m) (masterCode m) 2
  else if bitAt val 0 then semFree s else s

/-- The lease runs out. -/
def semLapse (s : State) : State :=
  match s.semEnd with
  | some t => if t ≤ s.now then (semFree s).report 3 3 (semHolder s) else s
  | none => s

/-! ## The boundary (05 R145) -/

/-- The count at which the commit would take effect, or the TIM_CMT_STAT result that refuses it. -/
def commitBoundary (s : State) (mode : Nat) : Nat ⊕ Nat :=
  let p := s.rd F.TIM_TT_PER_PERIOD (s.rd0 F.TIM_TT_STAT_ACTIVE)
  let at_ := s.rd0 F.TIM_CMT_AT_HI_AT * 2 ^ 32 + s.rd0 F.TIM_CMT_AT_LO_AT
  if s.commit.isSome then .inr 7
  else if mode = 0 then .inl 0
  else if s.flag F.TIM_STAT_VALID = false then .inr 3
  else if mode = 1 then .inl ((s.tickCount + 1) * 1000)
  else if mode = 2 then
    if p = 0 then .inr 6 else .inl ((s.tickCount + (p - ttOffset s (s.rd0 F.TIM_TT_STAT_ACTIVE))) * 1000)
  else if at_ ≤ s.fabric then .inr 4
  else if at_ - s.fabric > 2 ^ 36 then .inr 5
  else .inl at_

/-- The boundary has come. -/
def boundaryReached (s : State) (c : PendCommit) : Bool := c.mode == 0 || decide (c.boundary ≤ s.fabric)

/-- CANCEL withdraws the pending commit, unless its boundary has come: then the commit takes effect (05 R146). -/
def cancelWrite (s : State) : State := if s.commit.any (boundaryReached s) then s else cancelCommit s

/-! ## The checks (13 R376) -/

/-- The registers as they would be with every shadow live. -/
def atShadows (s : State) : State := { s with regs := { s.regs with live := s.regs.shadow } }

/-- The first instance of an array that a check refuses: its offset. -/
def firstBad (r : RegName) (n : Nat) (bad : Nat → Bool) : Option Nat := ((List.range n).find? bad).map (regOff r)

/-- 0x01: a shadow holds a reserved encoding. Only the pump clock of PWR_FTAB has any (16 R447; log 70). -/
def check1 (_s n : State) : Option Nat :=
  firstBad .PWR_FTAB 8 fun i =>
    let f := n.rd F.PWR_FTAB_F i
    decide (f < 500) || decide (f > 2000) || f % 50 != 0

/-- 0x02: 03 R86. -/
def check2 (s n : State) : Option Nat :=
  let b := bankState s (n.rd0 F.SWC_BANK_CTRL_NEXT_ACTIVE)
  if b = 0 ∨ b = 3 then some (regOff .SWC_BANK_CTRL 0) else none

/-- 0x03: 05 R138. -/
def check3 (s n : State) : Option Nat :=
  let b := ttState s (n.rd0 F.TIM_CTRL_NEXT_TT)
  if b = 2 ∨ b = 3 then none else some (regOff .TIM_CTRL 0)

/-- 0x04: 06 R154. -/
def check4 (s n : State) : Option Nat :=
  firstBad .GRP_ENT 4096 fun g =>
    let b := n.rd F.GRP_ENT_NEXT_BANK g
    groupLive s g && b != s.rd F.GRP_ENT_ACT_BANK g
      && !rankEntsOk s (s.rd F.GRP_ENT_MODE g) (s.rd F.GRP_ENT_NRANK g) (rankEntries s g b)

/-- Two ranges of bytes share one. -/
def rangesMeet (a n b m : Nat) : Bool := decide (a < b + m) && decide (b < a + n)

/-- A mirror window that is enabled and covers something. -/
def winOn (n : State) (m : Nat) : Bool := n.flag F.WEL_MIR_EN m && winSize n m != 0

/-- The far-tier ranges of a window. -/
def winRanges (n : State) (m : Nat) : List (Nat × Nat) := [(winBase n m, winSize n m), (winMBase n m, winSize n m)]

/-- A window starts afresh at the commit. -/
def winChanges (s n : State) (m : Nat) : Bool :=
  [F.WEL_MIR_EN, F.WEL_MIR_SIZE_G, F.WEL_MIR_BASE_G, F.WEL_MIR_MBASE_G].any fun f => s.rd f m != n.rd f m

/-- 0x05: 09 R256. -/
def check5 (s n : State) : Option Nat :=
  let area := (n.rd0 F.RMS_CFG_BASE_G * 2 ^ 30, 256 * n.rd0 F.RMS_CFG_STRIPE_G * 2 ^ 30)
  firstBad .WEL_MIR 16 fun m =>
    winOn n m && (decide (nch n < 2)
      || (winRanges n m).any (fun r => decide (r.1 + r.2 > farSize n)
          || (n.flag F.RMS_CFG_EN && rangesMeet r.1 r.2 area.1 area.2)
          || ((List.range 16).filter fun k => k != m && winOn n k).any fun k =>
              (winRanges n k).any fun x => rangesMeet r.1 r.2 x.1 x.2)
      || rangesMeet (winBase n m) (winSize n m) (winMBase n m) (winSize n m)
      || (winChanges s n m && (winDevs n m).any (devOut n)))

/-- 0x06: 10 R279. -/
def check6 (s n : State) : Option Nat :=
  let st := n.rd0 F.RMS_CFG_STRIPE_G
  let sn := n.rd0 F.RMS_CFG_SNAP_G
  let base := n.rd0 F.RMS_CFG_BASE_G
  let size := 256 * st
  let bad := n.flag F.RMS_CFG_EN && (n.isSpine || st == 0 || sn == 0 || decide (2 * sn ≥ st)
    || decide ((base + size) * 2 ^ 30 > farSize n)
    || ((List.range 16).filter (winOn n)).any fun m => (winRanges n m).any fun r => rangesMeet r.1 r.2 (base * 2 ^ 30) (size * 2 ^ 30))
  let moved := [F.RMS_CFG_EN, F.RMS_CFG_BASE_G, F.RMS_CFG_STRIPE_G, F.RMS_CFG_SNAP_G].any fun f => s.rd0 f != n.rd0 f
  if bad || (moved && (List.range 128).any (roomOn s)) then some (regOff .RMS_CFG 0) else none

/-- 0x07: 10 R281. -/
def check7 (s n : State) : Option Nat :=
  firstBad .RMS_ROOM 128 fun r =>
    n.flag F.RMS_ROOM_NEXT_EN r && !roomOn s r
      && (!n.flag F.RMS_CFG_EN || !groupActive s (n.rd F.RMS_ROOM_GID r))

/-- 0x08: 10 R288. An entry is made VALID when it was not, or when a VALID entry's object or group changes (log 71). -/
def check8 (s n : State) : Option Nat :=
  firstBad .RMS_CMT 64 fun k =>
    n.flag F.RMS_CMT_VALID k
      && (!s.flag F.RMS_CMT_VALID k || s.rd F.RMS_CMT_SO k != n.rd F.RMS_CMT_SO k || s.rd F.RMS_CMT_GID k != n.rd F.RMS_CMT_GID k)
      && (soType s (n.rd F.RMS_CMT_SO k) != 3
        || (List.range 64).any fun j => j != k && n.flag F.RMS_CMT_VALID j && n.rd F.RMS_CMT_GID j == n.rd F.RMS_CMT_GID k)

/-- 0x09. -/
def check9 (_s n : State) : Option Nat :=
  if n.flag F.RMS_HB_CFG_EN && decide (n.rd0 F.RMS_HB_CFG_HB_BASE > 8064) then some (regOff .RMS_HB_CFG 0) else none

/-- The first failing check of a list: its code and the register's offset. -/
def firstCheck (s n : State) : List (Nat × (State → State → Option Nat)) → Option (Nat × Nat)
  | [] => none
  | (c, f) :: rest => match f s n with
    | some off => some (c, off)
    | none => firstCheck s n rest

/-- The checks at issue. -/
def issueChecks : List (Nat × (State → State → Option Nat)) :=
  [(1, check1), (2, check2), (3, check3), (4, check4), (5, check5), (6, check6), (7, check7), (8, check8), (9, check9)]

/-- Those repeated at the boundary (R377). -/
def boundaryChecks : List (Nat × (State → State → Option Nat)) := [(2, check2), (3, check3), (4, check4), (7, check7)]

/-! ## Issue, REVERT (R376, R379) -/

def cmtResult (s : State) (result check : Nat) : State :=
  (s.wr0 F.GLB_CMT_STAT_RESULT result).wr0 F.GLB_CMT_STAT_CHECK check

/-- A commit is issued. -/
def issueCommit (s0 : State) (m : Master) : State :=
  let s := s0.wr0 F.GLB_CMT_STAT_MASTER (masterCode m)
  let mode := s.rd0 F.TIM_CMT_WHEN_MODE
  if semHolder s ≠ masterCode m then (cmtResult s 5 0).report 3 4 (masterCode m) (masterCode m) 3
  else match commitBoundary s mode with
    | .inr why => (cmtResult s 4 0).wr0 F.TIM_CMT_STAT_RESULT why
    | .inl b => match firstCheck s (atShadows s) issueChecks with
      | some (c, off) => ((cmtResult s 6 c).wr0 F.GLB_CMT_OFS_OFFSET off).report 0 4 off (masterCode m) 3
      | none => { (cmtResult s 1 0).wr0 F.TIM_CMT_STAT_PENDING 1 with commit := some ⟨mode, b, m⟩ }

/-- Every live value is copied back into its shadow. -/
def revertShadows (s : State) : State :=
  { s with regs := { s.regs with shadow := s.regs.live } }.wr0 F.GLB_SEM_DIRTY 0

/-- A write of GLB_CMT (R369, R376, R379). -/
def cmtWrite (s : State) (m : Master) (val be : Nat) : State :=
  let off := regOff .GLB_CMT 0
  let issue := bitAt val 0
  let revert := bitAt val 1
  if wholeBe be = false ∨ (issue = true ∧ revert = true) then s.accessFault m 2 off
  else if issue then issueCommit s m
  else if revert then (if s.commit.isSome then s.accessFault m 3 off else revertShadows s)
  else s

/-! ## Taking effect (R377, R378) -/

/-- Mirror windows that the commit changes (09 R256). -/
def windowsCommit (old s : State) : State :=
  ((List.range 16).filter (winChanges old s)).foldl (fun s m =>
    let s1 := modWell s fun w => { w with wins := mdel w.wins m }
    if s.flag F.WEL_MIR_EN m then (modWell s1 fun w => { w with wins := mput w.wins m ⟨some 0, []⟩ }).wr F.WEL_MIR_STATE m 1
    else s1.wr F.WEL_MIR_STATE m 0) s

/-- A slot newly fenced has its first discard to come (10 R294). -/
def fencesCommit (old s : State) : State := { s with fenceHit := s.fenceHit.filter fun x => slotFenced s x && slotFenced old x }

/-- Groups whose bank switches at the commit. -/
def switching (old s : State) : List Nat :=
  (List.range 4096).filter fun g => groupLive old g && old.rd F.GRP_ENT_ACT_BANK g != s.rd F.GRP_ENT_NEXT_BANK g

/-- Everything that the other chapters attach to a commit. -/
def commitEffects (old : State) : State :=
  let s0 := atShadows old
  let s1 := ttSwitch (bankSwitch s0 (s0.rd0 F.SWC_BANK_CTRL_NEXT_ACTIVE)) (s0.rd0 F.TIM_CTRL_NEXT_TT)
  let s2 := groupsCommit s1 (old.rd0 F.GRP_PLANE_LIVE_LIVE)
  let s3 := roomsEnable ((switching old s0).foldl roomsBoundary s2)
  let s4 := (List.range 64).foldl (fun s k => if s.flag F.RMS_CMT_ADOPT k then s.wr F.RMS_CMT_ADOPT k 0 else s) s3
  settleGroups (settleLevels (fencesCommit old (windowsCommit old s4)))

/-- The boundary of the pending commit. -/
def takeCommit (s : State) : State :=
  match s.commit with
  | none => s
  | some c =>
    if boundaryReached s c = false then s
    else
      let s1 := { s with commit := none }.wr0 F.TIM_CMT_STAT_PENDING 0
      match firstCheck s (atShadows s) boundaryChecks with
      | some (k, off) => ((cmtResult s1 7 k).wr0 F.GLB_CMT_OFS_OFFSET off).report 0 5 off
      | none =>
        let s2 := ((cmtResult (commitEffects s1) 2 0).wr0 F.GLB_SEM_DIRTY 0).wr0 F.TIM_CMT_STAT_RESULT 1
        { s2.wr0 F.GLB_CMT_STAT_TAKEN ((s.rd0 F.GLB_CMT_STAT_TAKEN + 1) % 65536) with passCut := true }

/-! ## The configuration image (R381, R382) -/

/-- Every array that holds a shadowed field of the image. -/
def shadowedRegs : List RegName :=
  [.PWR_FTAB, .TIM_CTRL, .SWC_BANK_CTRL, .SWC_RB_CFG, .SWC_RTE_CTRL, .SWC_RTE_SEED, .GRP_ALG_CFG, .GRP_PLANE_LIVE, .WEL_AP_BASE,
   .WEL_MIR, .RMS_CFG, .RMS_HB_CFG, .RMS_FENCE, .RMS_CMT, .RMS_ROOM]

/-- The live value of the bits taken of a word. -/
def liveWord (s : State) (r : RegName) (i w : Nat) (sel : Field → Bool) : Nat :=
  (((wordFields r w).filter sel).map fun f => s.rd f i * 2 ^ f.lsb).foldl (· + ·) 0

/-- The image's words of one array, with their offsets. -/
def imageOf (s : State) (r : RegName) (sel : Field → Bool) (is_ : List Nat) : List (Nat × Nat) :=
  is_.flatMap fun i => ((List.range (regInfo r).words).filter fun w => (wordFields r w).any sel).map fun w =>
    (regOff r i + 4 * w, liveWord s r i w sel)

/-- Every word of an array, taken whole. -/
def wholeImage (s : State) (r : RegName) (is_ : List Nat) : List (Nat × Nat) :=
  is_.flatMap fun i => (List.range (regInfo r).words).map fun w => (regOff r i + 4 * w, liveWord s r i w fun _ => true)

/-- The image, in ascending offset order. A register is a 32-bit word (13 R367; log 72). -/
def configImage (s : State) : List (Nat × Nat) :=
  let whole := fun r => wholeImage s r (List.range (regCount r))
  let b := s.rd0 F.SWC_BANK_STAT_ACTIVE
  let t := s.rd0 F.TIM_TT_STAT_ACTIVE
  let sh := fun (f : Field) => f.shadowed && f != F.RMS_CMT_ADOPT
  let ws := whole .GLB_PLACE ++ whole .GLB_HOST_PLACE ++ (shadowedRegs.flatMap fun r => imageOf s r sh (List.range (regCount r)))
    ++ whole (fwdReg b) ++ whole (psetReg b) ++ wholeImage s .TIM_TT_PER [t] ++ wholeImage s .TIM_TT_PHASE [t]
    ++ whole (winReg t) ++ whole (ttGrpReg t)
  sortBy (fun a b => decide (a.1 ≤ b.1)) ws

/-- The configuration CRC. -/
def configCrc (s : State) : Nat := crc32c 0xFFFFFFFF ((configImage s).flatMap fun e => leBytes 4 e.2)

/-- A pass of the image ends with `crc` read, and the next begins. A pass in which a commit took effect is abandoned. -/
def crcPass (s : State) : State :=
  if s.passCut then { s with passCut := false }
  else
    let crc := configCrc s
    let s1 := s.wr0 F.GLB_CFG_CRC_CUR_CUR crc
    if s.flag F.GLB_CFG_CRC_CTRL_EN = false ∨ crc = s.rd0 F.GLB_CFG_CRC_REF_REF then s1
    else
      let s2 := s1.bump F.GLB_CFG_CRC_CTRL_MCOUNT 0
      if s2.flag F.GLB_CFG_CRC_CTRL_MISMATCH then s2
      else (s2.wr0 F.GLB_CFG_CRC_CTRL_MISMATCH 1).report 0 6 (regOff .GLB_CFG_CRC_CUR 0)

end Sys2Proof.Machine
end

