-- ==== Sys2Proof/Machine/Telemetry.lean ====
section
/-! DEFINITION. Telemetry: access to the counter space, windowed bandwidth, dumps, the telemetry ring and mirror records
(file 17). -/

namespace Sys2Proof.Machine

open Sys2Proof

def modTel (s : State) (f : TelSt → TelSt) : State := { s with tel := f s.tel }

/-- The telemetry block reports an event (R478). -/
def telFault (s : State) (kind addr : Nat) : State := s.report 9 kind addr

/-! ## The counter space (R464 to R470) -/

/-- The regions: code, offset, size (R466). -/
def telRegion : Nat → Nat × Nat
  | 0 => (0, 163840)
  | 1 => (0x40000, 655360)
  | 2 => (0x180000, 5120)
  | 3 => (0x100000, 524288)
  | 4 => (0x182000, 10752)
  | 5 => (0x185000, 512)
  | 6 => (0x186000, 256)
  | _ => (0, 0)

/-- The region that holds an offset. -/
def regionAt (off : Nat) : Option Nat :=
  (List.range 7).find? fun r => decide ((telRegion r).1 ≤ off) && decide (off < (telRegion r).1 + (telRegion r).2)

/-- A counter that is not reserved: its slot is one of the tables', and its logical port exists (an unsplit port's odd logical
port reads 0). -/
def counterReal (s : State) (off : Nat) : Bool :=
  let k := off / 8
  let even := fun lp => s.portMode (lp / 2) == 1 || lp % 2 == 0
  match regionAt off with
  | some 0 => k % 16 != 15 && even (k / 128)
  | some 1 => decide (1 ≤ k % 64) && decide (k % 64 ≤ 0x27) && even ((off - 0x40000) / 4096)
  | some 2 => even ((off - 0x180000) / 32)
  | some 3 => true
  | some 4 => decide (k % 8 < 6)
  | some 5 => [0, 1, 2, 3, 4, 5, 8, 9, 10, 11, 12, 13, 16, 17, 18, 19, 24, 25, 26, 27, 32, 33, 34, 40, 41].contains ((off - 0x185000) / 8)
  | some _ => true
  | none => false

/-- The value of the counter at an offset: what is stored, and the cycles of a wait that still runs. -/
def counterVal (s : State) (off : Nat) : Nat :=
  let a := off / 8 * 8
  if counterReal s a then min (2 ^ 48 - 1) (mgetD s.tel.cnt a 0 + s.waited a) else 0

/-- Waits that match are counted anew from now on. -/
def restartWaits (s : State) (p : Nat → Bool) (ws : List (Nat × Nat)) : List (Nat × Nat) :=
  ws.map fun e => if p e.1 then (e.1, s.now) else e

def setCounter (s : State) (off v : Nat) : State :=
  let a := off / 8 * 8
  if counterReal s a then
    modTel s fun t => { t with cnt := mset 0 t.cnt a (v % 2 ^ 48), waits := restartWaits s (· == a) t.waits }
  else s

/-! ### Counters of waiting cycles (R467 STALL, R468 slot 15) -/

/-- The counters whose condition holds: STALL of each (logical port, VC) whose cell at the head of the output store has no
credit, slot 15 of each group whose complete wave request waits for cistern space. -/
def waitingNow (s : State) : List Nat :=
  let qs := (s.sw.cells.map fun c => (portOf c.tgt, c.vc)).dedup.filter fun q =>
    decide (q.1 < 160) && readyOn s q.1 q.2 && credits s q.1 q.2 == 0
  qs.map (fun q => ((q.1 * 8 + q.2) * 16 + 8) * 8) ++ ((s.grps.map (·.1)).filter (waveWaits s)).map fun g => 0x100000 + (g * 16 + 15) * 8

/-- A wait begins to count. -/
def startWait (s : State) (a : Nat) : State := modTel s fun t => { t with waits := mput t.waits a s.now }

/-- A wait ends: its cycles are stored. -/
def endWait (s : State) (a : Nat) : State := modTel (s.cnt a (s.waited a)) fun t => { t with waits := mdel t.waits a }

/-- The waits that began or ended between two states. -/
def settleWaits (s0 s : State) : State :=
  let was := waitingNow s0
  let is_ := waitingNow s
  (is_.filter fun a => !was.contains a).foldl startWait ((was.filter fun a => !is_.contains a).foldl endWait s)

/-- BAR0 offset of the counter space. -/
def telBase : Nat := 0x3C10000

/-- A word after a write of its enabled bytes. -/
def mergeWord (old val be : Nat) : Nat := Nat.lor (Nat.land val (beMask be)) (old - Nat.land old (beMask be))

/-- A write of a counter's low word is held for the master (R464). -/
def counterLow (s : State) (m : Master) (off val be : Nat) : State :=
  let a := off / 8 * 8
  { s with heldW := mput s.heldW (masterCode m * 2 ^ 26 + telBase + a) (mergeWord (counterVal s a % 2 ^ 32) (val % 2 ^ 32) be) }

/-- A write of its high word sets the counter. -/
def counterHigh (s : State) (m : Master) (off val be : Nat) : State :=
  let a := off / 8 * 8
  let key := masterCode m * 2 ^ 26 + telBase + a
  let hi := mergeWord (counterVal s a / 2 ^ 32) (val % 2 ^ 32) be
  setCounter { s with heldW := mdel s.heldW key } a (hi % 65536 * 2 ^ 32 + mgetD s.heldW key 0)

/-! ## Windowed bandwidth (R471) -/

/-- A window ends at a tick whose count is a multiple of WIN. -/
def bwWindowEnd (s : State) : State :=
  let win := s.rd0 F.TEL_BW_CFG_WIN
  if win = 0 ∨ s.atTick win = false then s
  else
    let put := fun (c : List (Nat × Nat)) lp k v =>
      let a := 0x180000 + (lp * 4 + k) * 8
      let c1 := mset 0 c a v
      mset 0 c1 (a + 16) (max v (mgetD c (a + 16) 0))
    modTel s fun t => { t with
      cnt := (List.range 160).foldl (fun c lp => put (put c lp 0 (mgetD t.bwTx lp 0)) lp 1 (mgetD t.bwRx lp 0)) t.cnt
      bwTx := [], bwRx := [], winStart := s.now }

/-- A write of TEL_BW_CFG abandons the window in progress. -/
def bwCfgWrite (s : State) (m : Master) (val be : Nat) : State :=
  let s1 := writeWord s m .TEL_BW_CFG 0 0 val be
  if be % 8 = 0 then s1
  else if s1.rd0 F.TEL_BW_CFG_WIN > 65536 then s.accessFault m 1 (regOff .TEL_BW_CFG 0)
  else modTel s1 fun t => { t with bwTx := [], bwRx := [], winStart := s.now }

/-! ## Records and the ring (R474, R475) -/

/-- A record header of 64 bytes. -/
def recHdr (s : State) (rtype unit seq len time flags lp : Nat) : List Byte :=
  leBytes 1 rtype ++ leBytes 1 unit ++ leBytes 2 seq ++ leBytes 4 len ++ leBytes 8 time ++ leBytes 3 s.selfEid ++ leBytes 1 flags
  ++ leBytes 1 lp ++ List.replicate 43 0

/-- A record: header and body padded with zeros to a multiple of 64 bytes. -/
def mkRec (s : State) (rtype unit seq time flags lp : Nat) (body : List Byte) : List Byte :=
  recHdr s rtype unit seq body.length time flags lp ++ body ++ List.replicate ((64 - body.length % 64) % 64) 0

def ringSize (s : State) : Nat := s.rd0 F.TEL_RING_CFG_PAGES * 4096
def ringBase (s : State) : Nat := s.rd0 F.TEL_RING_HI_BASE * 2 ^ 32 + s.rd0 F.TEL_RING_LO_BASE * 2 ^ F.TEL_RING_LO_BASE.lsb
def ringW (s : State) : Nat := s.rd0 F.TEL_RING_WPTR_PTR * 2 ^ F.TEL_RING_WPTR_PTR.lsb

/-- The free space of the ring. -/
def ringFree (s : State) : Nat :=
  let n := ringSize s
  let r := s.rd0 F.TEL_RING_RPTR_PTR * 2 ^ F.TEL_RING_RPTR_PTR.lsb
  if n = 0 then 0 else (r % n + n + n - ringW s - 64) % n

/-- Bytes a record of `len` bytes takes from offset `w`: a pad to the end of the ring first where it does not fit before it. -/
def ringCost (n w len : Nat) : Nat := if n - w < len then (n - w) + len else len

/-- The offset after it. -/
def ringAfter (n w len : Nat) : Nat := if n = 0 then 0 else (if n - w < len then len else w + len) % n

def setW (s : State) (w : Nat) : State := s.wr0 F.TEL_RING_WPTR_PTR (w / 2 ^ F.TEL_RING_WPTR_PTR.lsb)

/-- Write a pad record of `pad` bytes, whose body is zeros (log 49), at the ring's end, if there is one. -/
def ringPad (s : State) (pad : Nat) : State :=
  if pad = 0 then s
  else setW (s.emit (.hostWrite (ringBase s + ringW s) (mkRec s 0 0 0 0 0 0 (List.replicate (pad - 64) 0)))) 0

/-- The pad that a record of `len` bytes needs before it: the space to the ring's end where it does not fit there. -/
def padFor (s : State) (len : Nat) : Nat := if ringSize s - ringW s < len then ringSize s - ringW s else 0

/-- A record of `len` bytes fits in the ring, its pad counted, with `reserve` bytes left over. -/
def ringFits (s : State) (len reserve : Nat) : Bool :=
  s.flag F.TEL_RING_CFG_EN && decide (len ≤ ringSize s)
    && decide (ringCost (ringSize s) (ringW s) len + reserve ≤ ringFree s)

/-- Write a record at WPTR. -/
def ringRec (s : State) (rec_ : List Byte) : State :=
  setW (s.emit (.hostWrite (ringBase s + ringW s) rec_)) ((ringW s + rec_.length) % ringSize s)

/-- Write a record into the ring, its pad first. `reserve` is space that must stay free. -/
def ringPut (s : State) (rec_ : List Byte) (reserve : Nat) : Option State :=
  if ringFits s rec_.length reserve then some (ringRec (ringPad s (padFor s rec_.length)) rec_) else none

/-- A write of TEL_RING_CFG: PAGES is locked while EN is 1, EN needs PAGES; enabling sets WPTR to 0. -/
def ringCfgWrite (s : State) (m : Master) (val be : Nat) : State :=
  let on := s.flag F.TEL_RING_CFG_EN
  let off := regOff .TEL_RING_CFG 0
  let lock := on && (bitAt be 0 || bitAt be 1) && fieldAfter s F.TEL_RING_CFG_PAGES 0 val be != s.rd0 F.TEL_RING_CFG_PAGES
  let s1 := writeWord s m .TEL_RING_CFG 0 0 val be fun f => f != F.TEL_RING_CFG_EN && !(on && f == F.TEL_RING_CFG_PAGES)
  let s2 := if lock then s1.accessFault m 1 off else s1
  if bitAt be 3 = false then s2
  else if bitAt val 31 = false then s2.wr0 F.TEL_RING_CFG_EN 0
  else if s2.rd0 F.TEL_RING_CFG_PAGES = 0 then s2.accessFault m 1 off
  else if on then s2
  else setW (s2.wr0 F.TEL_RING_CFG_EN 1) 0

/-- The end record that a running ring dump will need. -/
def ringReserve (s : State) : Nat := if s.tel.running.any (·.hop.isNone) then 64 else 0

/-- Deliver a mirror copy as a telemetry record (R474, R475): its session and the session's DIR and SRC_LP as they were when the
copy's head was examined (03 R101), the fabric time then, its tail code. -/
def mirrorRecord (s : State) (p : HostPkt) (m : MirTag) : State :=
  let flags := m.dir * 4 + p.tcode % 8 * 16
  let body := p.pkt.hdr.words.flatMap wbytes ++ p.pkt.data
  match ringPut s (mkRec s 2 m.ses 0 m.time flags m.lp body) (ringReserve s) with
  | some s1 => s1
  | none => s.bump F.TEL_DROP_MIR_DROP 0

/-! ## Dumps (R473 to R478) -/

def dumpRegions (q : DumpReq) : List Nat := (List.range 7).filter fun r => bitAt q.sel r

/-- The counter-space bytes of a region. -/
def regionBody (s : State) (r : Nat) : List Byte :=
  (List.range ((telRegion r).2 / 8)).flatMap fun i => leBytes 8 (counterVal s ((telRegion r).1 + 8 * i))

def clearRegion (s : State) (r : Nat) : State :=
  let own := fun a => decide ((telRegion r).1 ≤ a) && decide (a < (telRegion r).1 + (telRegion r).2)
  modTel s fun t => { t with cnt := t.cnt.filter (!own ·.1), waits := restartWaits s own t.waits }

def dumpFlags (q : DumpReq) : Nat := b2n q.clear + 2 * b2n q.hop.isNone

/-- An address that the write of `len` bytes at `a` fails at. -/
def hits (fail : Option Nat) (a len : Nat) : Bool := fail.any fun x => decide (a ≤ x) && decide (x < a + len)

/-- A host write of a dump fails: reported with its address (R478). -/
def dumpFail (s : State) (q : DumpReq) (fail : Option Nat) : State × DumpReq :=
  (telFault s 3 (fail.getD 0), { q with failed := fail })

/-- Write one record of a dump: into the ring, with the pad before it where it does not fit before the ring's end, or into its
buffer while it fits. -/
def dumpPut (s : State) (q : DumpReq) (rec_ : List Byte) (fail : Option Nat) : State × DumpReq :=
  if q.full ∨ q.failed.isSome = true then (s, q)
  else match q.hop with
    | none =>
      let pad := padFor s rec_.length
      let s1 := ringPad s pad
      if !ringFits s rec_.length 0 then (s, { q with full := true })
      else if hits fail (ringBase s + ringW s) pad then dumpFail s q fail
      else if hits fail (ringBase s1 + ringW s1) rec_.length then dumpFail s1 q fail
      else (ringRec s1 rec_, { q with done := q.done + rec_.length })
    | some _ =>
      if q.done + rec_.length > q.len then (s, { q with full := true })
      else if hits fail (q.buf + q.done) rec_.length then dumpFail s q fail
      else (s.emit (.hostWrite (q.buf + q.done) rec_), { q with done := q.done + rec_.length })

/-- The ring holds all the records of a periodic dump. -/
def dumpFits (s : State) (q : DumpReq) : Bool :=
  let n := ringSize s
  let sizes := (dumpRegions q).map (fun r => 64 + ((telRegion r).2 + 63) / 64 * 64) ++ [64]
  let (cost, _) := sizes.foldl (fun (a : Nat × Nat) x => (a.1 + ringCost n a.2 x, ringAfter n a.2 x)) (0, ringW s)
  s.flag F.TEL_RING_CFG_EN && decide (cost ≤ ringFree s) && sizes.all (· ≤ n)

/-- The status of a dump descriptor whose host write failed is not stated: free (log 62). -/
def dumpStatus (s : State) (q : DumpReq) : Nat := if q.failed.isSome then Config.freeNat s.freeCtr % 256 else 0

/-- A dump is over: the vector after an end record of the ring, a descriptor's completion (R475, R476). -/
def dumpClose (s : State) (q : DumpReq) : State :=
  let s1 := (modTel s fun t => { t with running := none }).wr0 F.TEL_STAT_BUSY 0
  match q.hop with
  | none =>
    if q.full = false ∧ q.failed = none ∧ s1.flag F.TEL_RING_CFG_IRQ_EN = true then sendMsix s1 (s1.rd0 F.TEL_RING_CFG_VEC) else s1
  | some n => hostDone (if q.failed.isSome then s1.tick else s1) n (dumpStatus s1 q) 0 q.done 0

/-- Start a dump: its regions are read and written, ascending. A periodic dump that does not fit is skipped whole.
A failed host write ends it (R478). -/
def dumpStart (s : State) (q : DumpReq) (fail : Option Nat) : State :=
  if q.hop = none ∧ dumpFits s q = false then
    telFault (s.bump F.TEL_DROP_SKIPPED 0) 1 (s.rd0 F.TEL_STAT_DUMP_SEQ)
  else
    let seq := (s.rd0 F.TEL_STAT_DUMP_SEQ + 1) % 65536
    let s1 := (s.wr0 F.TEL_STAT_DUMP_SEQ seq).wr0 F.TEL_STAT_BUSY 1
    let (s2, q2) := (dumpRegions q).foldl (fun (a : State × DumpReq) r =>
      let rec_ := mkRec a.1 1 r seq a.1.fabric (dumpFlags q) 0 (regionBody a.1 r)
      let (s3, q3) := dumpPut a.1 a.2 rec_ fail
      (if q.clear ∧ a.2.failed = none ∧ q3.full = false then clearRegion s3 r else s3, q3)) (s1, q)
    if q2.failed.isSome then dumpClose s2 q2 else modTel s2 fun t => { t with running := some q2 }

/-- Ask for a dump: it starts when none runs, else it waits. -/
def dumpAsk (s : State) (q : DumpReq) (fail : Option Nat) : State :=
  if s.tel.running.isSome then modTel s fun t => { t with queue := t.queue ++ [q] } else dumpStart s q fail

/-- A periodic dump's boundary (R476). -/
def periodicDump (s : State) (fail : Option Nat) : State :=
  let ivl := s.rd0 F.TEL_PER_IVL_IVL
  if s.flag F.TEL_PER_CFG_EN = false ∨ ivl = 0 ∨ s.atTick ivl = false then s
  else if s.tel.running.any (·.hop.isNone) || s.tel.queue.any (·.hop.isNone) then
    telFault (s.bump F.TEL_DROP_SKIPPED 0) 2 (s.rd0 F.TEL_STAT_DUMP_SEQ)
  else dumpAsk s ⟨s.rd0 F.TEL_PER_CFG_SEL, s.flag F.TEL_PER_CFG_CLEAR, none, 0, 0, 0, none, false⟩ fail

/-- Start what waits, up to the first dump that runs. -/
def dumpNext : Nat → Option Nat → State → State
  | 0, _, s => s
  | n + 1, fail, s =>
    if s.tel.running.isSome then s
    else match s.tel.queue with
      | [] => s
      | q :: r => dumpNext n fail (dumpStart (modTel s fun t => { t with queue := r }) q fail)

/-- The dump that runs ends: its end record, its completion; the next one starts. -/
def dumpEnd (s : State) (fail : Option Nat) : State :=
  match s.tel.running with
  | none => s
  | some q =>
    let (s1, q1) := dumpPut s q (mkRec s 3 0 (s.rd0 F.TEL_STAT_DUMP_SEQ) s.fabric (dumpFlags q) 0 []) fail
    let s2 := dumpClose s1 q1
    dumpNext (s2.tel.queue.length + 1) fail s2

end Sys2Proof.Machine
end

