-- ==== Sys2Proof/Machine/Bus.lean ====
section
/-! DEFINITION. The register bus (13 R366 to R375): what a write or a read of each register does, the registers that are
computed, the latches of pairs, accesses held during a core warm reset (15 R427), counting by the access filters (17 R472).
Several go bits of one write act in the order seal, admit (log 73). -/

namespace Sys2Proof.Machine

open Sys2Proof

/-! ## Writes of single registers -/

/-- GLB_RST: a trigger register; several of its go bits, or a reserved PORT, are a reserved encoding (15 R426). -/
def rstWrite (s : State) (m : Master) (val be : Nat) : State :=
  let off := regOff .GLB_RST 0
  let go := bits val 28 4
  if wholeBe be = false ∨ !([0, 1, 2, 4, 8].contains go) ∨ (go = 1 ∧ val % 128 ≥ 80) then s.accessFault m 2 off
  else if go = 8 then coreWarm (s.wr0 F.GLB_RST_CORE_WARM 1) none
  else if go = 4 then pumpReset (s.wr0 F.GLB_RST_PUMP 1) none
  else if go = 2 then poolReset (s.wr0 F.GLB_RST_POOL 1) none
  else if go = 1 then portReset s (val % 128) none
  else s

/-- GLB_HOST_PLACE: locked with the place (01 R28). -/
def hostPlaceWrite (s : State) (m : Master) (val be : Nat) : State :=
  if s.flag F.GLB_PLACE_LOCK then s.accessFault m 1 (regOff .GLB_HOST_PLACE 0) else writeWord s m .GLB_HOST_PLACE 0 0 val be

/-- FLT_CTRL: a trigger register. -/
def fltCtrlWrite (s : State) (m : Master) (val be : Nat) : State :=
  if wholeBe be = false then s.accessFault m 2 (regOff .FLT_CTRL 0)
  else if bitAt val 31 then safeEnter s 3 0 else s

/-- FLT_SRC_CFG: clearing PEND sets PSEV to 0 (15 R416). -/
def srcCfgWrite (s : State) (m : Master) (i val be : Nat) : State :=
  let s1 := writeWord s m .FLT_SRC_CFG i 0 val be
  if s1.flag F.FLT_SRC_CFG_PEND i then s1 else s1.wr F.FLT_SRC_CFG_PSEV i 0

/-- PWR_ATEST: a reserved selection or index is refused (18 R487). -/
def atestOk (sel idx : Nat) : Bool :=
  match sel with
  | 0 => idx == 0
  | 1 => idx == 0
  | 2 => decide (idx < 20) || idx == 0x1F
  | 3 => decide (idx ≤ 10)
  | 4 => decide (idx ≤ 167) || idx == 0xFF
  | _ => false

def atestWrite (s : State) (m : Master) (val be : Nat) : State :=
  if atestOk (fieldAfter s F.PWR_ATEST_SEL 0 val be) (fieldAfter s F.PWR_ATEST_IDX 0 val be) then
    writeWord s m .PWR_ATEST 0 0 val be
  else s.accessFault m 1 (regOff .PWR_ATEST 0)

/-- TIM_CTRL: the fields first, INVAL, then LOAD_ARM judged on what they leave (05 R131). -/
def timCtrlWrite (s : State) (m : Master) (val be : Nat) : State :=
  let src := fieldAfter s F.TIM_CTRL_SRC 0 val be
  let s1 := timeSrc (writeWord s m .TIM_CTRL 0 0 val be fun f => f != F.TIM_CTRL_SRC) src
  let s2 := if bitAt val 5 && bitAt be 0 then timeInval s1 else s1
  if bitAt val 4 && bitAt be 0 then timeLoadArm s2 m else s2

/-- TIM_LOAD: held while a load is armed. -/
def timLoadWrite (s : State) (m : Master) (r : RegName) (val be : Nat) : State :=
  if s.time.armed.isSome then s.accessFault m 1 (regOff r 0) else writeWord s m r 0 0 val be

/-- TIM_CMT_WHEN: MODE, and CANCEL of the pending commit (05 R146). -/
def cmtWhenWrite (s : State) (m : Master) (val be : Nat) : State :=
  let s1 := writeWord s m .TIM_CMT_WHEN 0 0 val be
  if bitAt val 2 && bitAt be 0 then cancelWrite s1 else s1

/-- TIM_TT_CTRL: a trigger register. -/
def ttCtrlWrite (s : State) (m : Master) (val be : Nat) : State :=
  if wholeBe be = false then s.accessFault m 2 (regOff .TIM_TT_CTRL 0)
  else
    let s1 := if bitAt val 0 then ttSeal s 0 else s
    let s2 := if bitAt val 1 then ttSeal s1 1 else s1
    let s3 := if bitAt val 2 then ttAdmitStart s2 0 else s2
    if bitAt val 3 then ttAdmitStart s3 1 else s3

/-- A register of timetable bank `b`: accepted but in ACTIVE and while the bank's admission runs; the bank goes to EDIT
(05 R138). -/
def ttBankWrite (s : State) (m : Master) (b : Nat) (r : RegName) (i w val be : Nat) : State :=
  if ttState s b = 3 ∨ (s.flag F.TIM_ADM_STAT_BUSY = true ∧ s.rd0 F.TIM_ADM_STAT_BANK = b) then
    s.accessFault m 1 (regOff r i + 4 * w)
  else
    let s1 := writeWord s m r i w val be
    if ttState s1 b = 0 then s1 else setTtState s1 b 0

/-- MSIX_TABLE: unmasking a vector sends its pending message (12 R355). -/
def msixWrite (s : State) (m : Master) (i w val be : Nat) : State :=
  let s1 := writeWord s m .MSIX_TABLE i w val be
  if w = 3 then msixUnmask s1 i else s1

/-- SWC_BANK_CTRL: NEXT_ACTIVE and the two seals (03 R85). -/
def bankCtrlWrite (s : State) (m : Master) (val be : Nat) : State :=
  let s1 := writeWord s m .SWC_BANK_CTRL 0 0 val be
  let s2 := if bitAt val 3 && bitAt be 0 then sealBank s1 0 else s1
  if bitAt val 4 && bitAt be 0 then sealBank s2 1 else s2

/-- An entry of forwarding bank `b` (03 R84). Forwarding entries 336 to 511 are reserved. -/
def fwdWrite (s : State) (m : Master) (b : Nat) (r : RegName) (i val be : Nat) : State :=
  if (r = .SWC_FWD_A ∨ r = .SWC_FWD_B) ∧ i ≥ 336 then s
  else if bankState s b ≥ 2 then s.accessFault m 1 (regOff r i)
  else setBankState (writeWord s m r i 0 val be) b 0

/-- SWC_MIR_CTRL: enabling a session starts its count of matches (03 R96). -/
def mirCtrlWrite (s : State) (m : Master) (i val be : Nat) : State :=
  let s1 := writeWord s m .SWC_MIR_CTRL i 0 val be
  if s1.flag F.SWC_MIR_CTRL_EN i && !s.flag F.SWC_MIR_CTRL_EN i then modSw s1 fun w => { w with mirCnt := mdel w.mirCnt i } else s1

/-- LNK_CTRL: a trigger register. -/
def lnkCtrlWrite (s : State) (m : Master) (l val be : Nat) : State :=
  if wholeBe be = false then s.accessFault m 2 (regOff .LNK_CTRL l)
  else if bitAt val 31 then
    let (lp, pos) := linkOfLane s l
    dropLane s lp pos 3
  else s

/-- The taps in use follow LNK_TXEQ while ADAPT is 0 (11 R317); with a reserved tap they are free. -/
def followTaps (s : State) (l : Nat) : State :=
  if s.flag F.LNK_TXEQ_ADAPT l then s
  else
    let pre := s.rd F.LNK_TXEQ_PRE l
    let post := s.rd F.LNK_TXEQ_POST l
    if pre ≤ 16 ∧ post ≤ 24 then
      ((s.wr F.LNK_TXEQ_ACT_PRE l pre).wr F.LNK_TXEQ_ACT_POST l post).wr F.LNK_TXEQ_ACT_MAIN l (64 - pre - post)
    else
      let x := Config.freeNat s.freeCtr
      (((s.wr F.LNK_TXEQ_ACT_PRE l (x % 32)).wr F.LNK_TXEQ_ACT_POST l (x / 32 % 32)).wr F.LNK_TXEQ_ACT_MAIN l
        (x / 1024 % 128)).tick

/-- LNK_ESCAN: the settings, then GO (11 R323). -/
def escanWrite (s : State) (m : Master) (l val be : Nat) : State :=
  let s1 := writeWord s m .LNK_ESCAN l 0 val be
  if bitAt val 31 && bitAt be 3 then escanGo s1 l else s1

/-- LNK_PRBS: setting RX_EN clears both counts, and clearing it stops the checker (11 R325). -/
def prbsWrite (s : State) (m : Master) (l val be : Nat) : State :=
  let s1 := prbsDrive (writeWord (if bitAt be 3 then prbsFreeze s l else s) m .LNK_PRBS l 0 val be) l
  if bitAt val 30 && bitAt be 3 then
    prbsStart (modLane (s1.wr F.LNK_PRBS_ERR_COUNT l 0) l fun x => { x with prbsNs := 0, prbsAt := none }) l
  else s1

/-- PMP_CTRL: a trigger register. -/
def pmpCtrlWrite (s : State) (m : Master) (n val be : Nat) : State :=
  if wholeBe be = false then s.accessFault m 2 (regOff .PMP_CTRL n)
  else
    let s1 := if bitAt val 31 then pumpRetire s n else s
    let s2 := if bitAt val 30 then pumpTestGo s1 n else s1
    settleGroups (if bitAt val 29 then pumpRestore s2 m n else s2)

/-- WEL_DEV: the counts, and TAKE_OUT (09 R253). -/
def welDevWrite (s : State) (m : Master) (d val be : Nat) : State :=
  let s1 := writeWord s m .WEL_DEV d 0 val be
  if bitAt val 30 && bitAt be 3 then takeOut s1 d else s1

/-- The words of a sync object (09 R273). -/
def soWrite (s : State) (m : Master) (n w val be : Nat) : State :=
  if w ≤ 1 then soTypeWrite s m n w val be
  else if w = 2 then soValLo s m n val be
  else if w = 3 then soValHi s m n val be
  else s

/-- RMS_ROOM: GID may change only while EN and NEXT_EN are 0 (10, the table of RMS_ROOM). -/
def roomWriteReg (s : State) (m : Master) (r w val be : Nat) : State :=
  let locked := s.flag F.RMS_ROOM_EN r || s.rdSw F.RMS_ROOM_NEXT_EN r == 1
  guardedWrite s m .RMS_ROOM r w val be fun f => f == F.RMS_ROOM_GID && locked

/-- GMC_CTRL: a trigger register (14 R402). -/
def gmcCtrlWrite (s : State) (m : Master) (val be : Nat) (ev : BootEv) : State :=
  if wholeBe be = false then s.accessFault m 2 (regOff .GMC_CTRL 0)
  else if bitAt val 31 then gmcReset s ev none else s

/-- GMC_MB_CTRL (14 R410). IRQ_EN and VEC are of mailbox 0 only. -/
def mbCtrlWrite (s : State) (m : Master) (i val be : Nat) : State :=
  let go := bitAt val 31 && bitAt be 3
  if go && s.flag F.GMC_MB_CTRL_BUSY i then s.accessFault m 1 (regOff .GMC_MB_CTRL i)
  else
    let s1 := writeWord s m .GMC_MB_CTRL i 0 val be fun f => i == 0 || f == F.GMC_MB_CTRL_DONE
    if go then mboxGo s1 i else s1

/-- The request area of a mailbox. -/
def mbReqWrite (s : State) (m : Master) (i val be : Nat) : State :=
  if s.flag F.GMC_MB_CTRL_BUSY (i / 1024) then s.accessFault m 1 (regOff .GMC_MB_REQ i) else writeWord s m .GMC_MB_REQ i 0 val be

/-! ## One register write -/

/-- The logical port that an array indexed by links stands for at an instance: an unsplit port's odd link does not exist. -/
def linkOfReg (r : RegName) (i : Nat) : Option Nat :=
  match r with
  | .PRT_LSTAT => some i
  | .PRT_LERR => some i
  | .PRT_PEER => some i
  | .PRT_CRED => some (i / 8)
  | .PRT_INJ => some (i / 8)
  | _ => none

def regAbsent (s : State) (r : RegName) (i : Nat) : Bool :=
  (linkOfReg r i).any (fun lp => lp % 2 == 1 && s.portMode (lp / 2) != 1) || ((r == .SWC_FWD_A || r == .SWC_FWD_B) && decide (i ≥ 336))

/-- The effect of a write of one register word. `ev` is what the boot ROM meets where the write is a GMC reset. -/
def writeReg (ev : BootEv) (s : State) (m : Master) (r : RegName) (i w val be : Nat) : State :=
  if regAbsent s r i then s
  else match r with
    | .GLB_CMT => cmtWrite s m val be
    | .GLB_SEM => semWrite s m val be
    | .GLB_RST => rstWrite s m val be
    | .GLB_PLACE => placeWrite s m val be
    | .GLB_HOST_PLACE => hostPlaceWrite s m val be
    | .FLT_CTRL => fltCtrlWrite s m val be
    | .FLT_SRC_CFG => srcCfgWrite s m i val be
    | .PWR_CAP_HOST => capHostWrite s m val be
    | .PWR_CAP_RACK => capRackWrite s m val be
    | .PWR_LEASE => leaseWrite s m val be
    | .PWR_BRK_CFG => settleLevels (writeWord s m .PWR_BRK_CFG 0 0 val be)
    | .PWR_BRK_REQ => brkReqWrite s m val be
    | .PWR_THERM_CFG => thermCfgWrite s m val be
    | .PWR_ATEST => atestWrite s m val be
    | .TIM_CTRL => timCtrlWrite s m val be
    | .TIM_LOAD_LO => timLoadWrite s m r val be
    | .TIM_LOAD_HI => timLoadWrite s m r val be
    | .TIM_CMT_WHEN => cmtWhenWrite s m val be
    | .TIM_TT_CTRL => ttCtrlWrite s m val be
    | .TIM_TT_PER => ttBankWrite s m i r i w val be
    | .TIM_TT_PHASE => ttBankWrite s m i r i w val be
    | .TIM_WIN_A => ttBankWrite s m 0 r i w val be
    | .TIM_WIN_B => ttBankWrite s m 1 r i w val be
    | .TIM_GRP_A => ttBankWrite s m 0 r i w val be
    | .TIM_GRP_B => ttBankWrite s m 1 r i w val be
    | .HST_CR => crWrite s m i w val be
    | .HST_CQ => cqWrite s m i w val be
    | .MSIX_TABLE => msixWrite s m i w val be
    | .SWC_BANK_CTRL => bankCtrlWrite s m val be
    | .SWC_FWD_A => fwdWrite s m 0 r i val be
    | .SWC_FWD_B => fwdWrite s m 1 r i val be
    | .SWC_PSET_A => fwdWrite s m 0 r i val be
    | .SWC_PSET_B => fwdWrite s m 1 r i val be
    | .SWC_MIR_CTRL => mirCtrlWrite s m i val be
    | .PRT_CTRL => prtCtrlWrite s m i val be
    | .LNK_CTRL => lnkCtrlWrite s m i val be
    | .LNK_TXEQ => followTaps (writeWord s m .LNK_TXEQ i 0 val be) i
    | .LNK_ESCAN => escanWrite s m i val be
    | .LNK_PRBS => prbsWrite s m i val be
    | .GRP_CMD => settleGroups (groupCmd s m val be)
    | .GRP_ENT => groupEntWrite s m i w val be
    | .GRP_RANK_A => groupRankWrite s m 0 i val be
    | .GRP_RANK_B => groupRankWrite s m 1 i val be
    | .PMP_CTRL => pmpCtrlWrite s m i val be
    | .WEL_FAR_CFG => farCfgWrite s m val be
    | .WEL_DEV => welDevWrite s m i val be
    | .WEL_SO_CMD => soCmd s m val be
    | .WEL_SO => soWrite s m i w val be
    | .RMS_ROOM => roomWriteReg s m i w val be
    | .RMS_HB_LATE => lateClear s m i val be
    | .TEL_BW_CFG => bwCfgWrite s m val be
    | .TEL_RING_LO => writeWord s m .TEL_RING_LO 0 0 (val - val % 4096) be
    | .TEL_RING_CFG => ringCfgWrite s m val be
    | .TEL_CNT => if w = 0 then counterLow s m (8 * i) val be else counterHigh s m (8 * i) val be
    | .GMC_CTRL => gmcCtrlWrite s m val be ev
    | .GMC_WDT => wdtWrite s m val be
    | .GMC_MB_CTRL => mbCtrlWrite s m i val be
    | .GMC_MB_REQ => mbReqWrite s m i val be
    | _ => writeWord s m r i w val be

/-! ## Reading -/

/-- A register word as a read returns it, its side effects apart. -/
def readReg (s : State) (m : Master) (r : RegName) (i w : Nat) : Nat :=
  if regAbsent s r i then 0
  else
    let v := readStored s r i w
    match r with
    | .GLB_SEM => semWord s m
    | .TIM_NOW_LO => s.fabric % 2 ^ 32
    | .TIM_NOW_HI => s.fabric / 2 ^ 32
    | .FLT_PEND => pendWord s i
    | .FLT_PIN => v + b2n (faultLow s) * 2 ^ F.FLT_PIN_LEVEL.lsb
    | .FLT_DA_STAT => v + holdLeft s
    | .PWR_LEASE_LEFT => leaseLeft s
    | .HST_STAT => s.host.recv.length * 2 ^ F.HST_STAT_RECV.lsb + slotsUsed s
    | .HST_CR => if w = 6 then ringInflight s i else v
    | .HST_CQ => if w = 6 then (heldOf s i).length else v
    | .SWC_BANK_CNT => bankCount s i
    | .SWC_RB_OCC => relaySlots s.sw i
    | .PRT_CTRL => v + b2n (s.portMode i == 1) * 2 ^ F.PRT_CTRL_SPLIT.lsb
    | .WEL_WAIT_STAT => s.well.waiters.length
    | .WEL_CTX_OPEN => ctxOpen s i
    | .WEL_SO => if w = 0 then v + (soWaiters s i).length else v
    | .GRP_QSTORE => mgetD s.qstore (i * 16 + w) 0
    | .PRT_LSTAT => v + b2n (s.linkUp i && Config.partnerIdle i s.now) * 2 ^ F.PRT_LSTAT_EIDLE_RX.lsb
    | .LNK_PRBS_ERR => min (2 ^ 32 - 1) (prbsErrs s i)
    | .LNK_PRBS_BITS => prbsBits s i
    | .TEL_CNT => if w = 0 then counterVal s (8 * i) % 2 ^ 32 else counterVal s (8 * i) / 2 ^ 32
    | _ => v

/-- The word at a BAR0 offset: a register, or nothing (0). -/
def readAt (s : State) (m : Master) (off : Nat) : Nat :=
  match locate off with
  | some (r, i, w) => readReg s m r i w
  | none => 0

/-! ## Parity of words (R383, 15 R422) -/

/-- A word of the fault collector's own storage, which the collector checks itself. -/
def collectorWord (off : Nat) : Bool :=
  (locate off).any fun x => [RegName.FLT_SRC_CFG, .FLT_KSEV, .FLT_CAP, .FLT_SEVMAP, .FLT_PIN, .FLT_DA_CFG].contains x.1

/-- A word that carries parity: plain control, group entries, rank tables, the types and targets of sync objects, forward entries;
not the configuration image nor the collector's registers. -/
def parityWord (off : Nat) : Bool :=
  match locate off with
  | none => false
  | some (r, _, w) =>
    [RegName.GRP_ENT, .GRP_RANK_A, .GRP_RANK_B, .WEL_FWD].contains r || (r == .WEL_SO && decide (w ≤ 1))
    || (!([RegName.GLB_PLACE, .GLB_HOST_PLACE, .SWC_FWD_A, .SWC_FWD_B, .SWC_PSET_A, .SWC_PSET_B, .TIM_TT_PER, .TIM_TT_PHASE,
          .TIM_WIN_A, .TIM_WIN_B, .TIM_GRP_A, .TIM_GRP_B].contains r)
      && !inBlock off 0x100000 0x200000 && (wordFields r w).any fun f => (f.acc == .rw || f.acc == .rws) && !f.shadowed)

/-- A read of the word at `off` finds a parity failure. The read uses the word as it is. -/
def parityFound (s : State) (off : Nat) : State :=
  if collectorWord off then safeEnter s 1 (off % 2 ^ 20)
  else if parityWord off then s.report 0 7 off
  else s

/-- A read by software whose row does not say what the parity check finds: free (R383, log 99). -/
def softCheck (s : State) (off : Nat) : State :=
  if collectorWord off || parityWord off then (if Config.softError off s.freeCtr then parityFound s off else s).tick else s

/-- The first half of a latched pair; the second half stands in the next word (13 R370). -/
def firstHalf (r : RegName) (w : Nat) : Bool :=
  match r with
  | .TIM_NOW_LO => true
  | .WEL_SO_RES_LO => true
  | .LNK_PRBS_ERR => true
  | .WEL_SO => w == 2
  | .FLT_CAP => w == 3
  | .TEL_CNT => w == 0
  | _ => false

/-- The second half of a latched pair. -/
def secondHalf (r : RegName) (w : Nat) : Bool :=
  match r with
  | .TIM_NOW_HI => true
  | .WEL_SO_RES_HI => true
  | .LNK_PRBS_BITS => true
  | .WEL_SO => w == 3
  | .FLT_CAP => w == 4
  | .TEL_CNT => w == 1
  | _ => false

/-- A read at once: its value and the state after it. Only the semaphore and first halves change anything (13 R372). -/
def readNow (s : State) (m : Master) (off : Nat) : Nat × State :=
  let key := masterCode m * 2 ^ 26 + off
  match locate off with
  | none => (readAt s m off, s)
  | some (r, _, w) =>
    if r = .GLB_SEM then
      let s1 := semRead s m
      (readAt s1 m off, s1)
    else if firstHalf r w then (readAt s m off, { s with latch := mput s.latch (key + 4) (readAt s m (off + 4)) })
    else if secondHalf r w then (mgetD s.latch key (readAt s m off), s)
    else (readAt s m off, s)

/-! ## The bus -/

/-- An access is held: a core warm reset runs and the block is under it (15 R427). In the safe state reads are answered (R425). -/
def mustHold (s : State) (off : Nat) : Bool := inCoreReset s && !isSafe s && coreBlock off

def hold (s : State) (a : HeldAcc) : State := { s with rst := { s.rst with held := s.rst.held ++ [a] } }

/-- Count a register access (17 R472). -/
def countReg (s : State) (m : Master) (isWrite : Bool) (off : Nat) : State := countAccess s 1 (privOf m) (b2n isWrite) off 4

/-- A write of the collector's configuration, but for the site record's, ends the wait of 14 R411 (log 122). -/
def configured (s : State) (r : RegName) : State :=
  if !s.gmc.collCfg && !s.gmc.siteDue && [RegName.FLT_SRC_CFG, .FLT_KSEV, .FLT_SEVMAP, .FLT_PIN].contains r then collectorReady s else s

/-- A write of a register word by a master, whatever resets run. -/
def writeNow (ev : BootEv) (s : State) (m : Master) (off val be : Nat) : State :=
  match locate off with
  | some (r, i, w) => configured (writeReg ev (countReg s m true off) m r i w val be) r
  | none => countReg s m true off

/-- One 32-bit write of BAR0. -/
def busWrite (ev : BootEv) (s : State) (m : Master) (off val be : Nat) : State :=
  let own := locate off == some (.GMC_WDT, 0, 0) && chipOn s && !isSafe s
  if !mayWrite s m && !own then s
  else if mustHold s off then hold s ⟨m, true, off, val, be, none⟩
  else writeNow ev s m off val be

/-- The bytes of a word that a read has enabled (R368). -/
def enabledBytes (v be : Nat) : Nat := Nat.land v (beMask be)

/-- One 32-bit read of BAR0, answered to the master: performed whole, it returns the enabled bytes (R368). In D3hot the host has
Unsupported Request (12 R330, log 4). -/
def busRead (s : State) (m : Master) (off : Nat) (be : Nat := 15) : State :=
  if !chipOn s then s
  else if m = .host ∧ s.host.pcie.dstate = 3 then s.emit .bar4Ur
  else if mustHold s off then hold s ⟨m, false, off, 0, be, none⟩
  else
    let (v, s1) := readNow (countReg s m false off) m off
    s1.emit (.readData m off (enabledBytes v be))

/-- A row's write of one word of a named register: the guard of every register write (14 R387, 15 R425, R427). -/
def rowWrite (s : State) (m : Master) (r : RegName) (i w val be : Nat) (f : State → State) : State :=
  let off := regOff r i + 4 * w
  if !mayWrite s m ∨ i ≥ regCount r ∨ w ≥ (regInfo r).words then s
  else if mustHold s off then hold s ⟨m, true, off, val, be, none⟩
  else f (countReg s m true off)

/-- The row of one go bit: a write of its byte (of the whole word of a trigger register, and over the side-band, 13 R367) with the bit set and every other
field as it stands. -/
def rowBit (s : State) (m : Master) (f : Field) (i : Nat) (trigger : Bool) (eff : State → State) : State :=
  let keep := ((wordFields f.reg f.word).filter fun g => g != f && (g.acc == .rw || g.acc == .rws)).map fun g => s.rdSw g i * 2 ^ g.lsb
  rowWrite s m f.reg i f.word (keep.foldl (· + ·) (2 ^ f.lsb)) (if trigger || m == .sideband then 15 else 2 ^ (f.lsb / 8)) eff

/-- The vendor-defined register message's answer (12 R358). -/
def regResponse (cmd cc tag off val : Nat) : List Byte :=
  [0x7E] ++ leBytes 2 Config.vendorId.toNat ++ leBytes 1 (cmd + 0x80) ++ leBytes 1 cc ++ leBytes 1 tag ++ leBytes 4 off ++ leBytes 4 val

/-- The answer to a held register message; over I3C an in-band interrupt announces it. -/
def sendHeld (s : State) (m : Master) (o : Out) : State := (if m = .sideband then sendIbi s 0xAE else s).emit o

/-- Answer a held read. -/
def readHeld (s : State) (a : HeldAcc) : State :=
  let (v, s1) := readNow (countReg (softCheck s a.off) a.master false a.off) a.master a.off
  match a.reply with
  | some tag => sendHeld s1 a.master (.mctp (regResponse 1 0 tag a.off v))
  | none => s1.emit (.readData a.master a.off (enabledBytes v a.be))

/-- Do a held access, and answer it. -/
def runHeld (ev : BootEv) (s : State) (a : HeldAcc) : State :=
  if a.isWrite then
    let s1 := writeNow ev { s with lastFault := none } a.master a.off a.val a.be
    match a.reply with
    | some tag => sendHeld s1 a.master (.mctp (regResponse 2 (if s1.lastFault.isSome then 4 else 0) tag a.off 0))
    | none => s1
  else readHeld s a

/-- The safe state is entered while accesses are held: the reads are answered and the writes ignored without a fault (15 R425). -/
def heldSafe (s : State) : State :=
  s.rst.held.foldl (fun s a => if !a.isWrite then readHeld s a else match a.reply with
    | some tag => sendHeld s a.master (.mctp (regResponse 2 0 tag a.off 0))
    | none => s) { s with rst := { s.rst with held := [] } }

end Sys2Proof.Machine
end

