-- ==== Sys2Proof/Machine/Boot.lean ====
section
/-! DEFINITION. Power, the reset pins and what follows them: PERST_N, RECOVERY_N, REFCLK and the supplies (14 R398 to R403,
15 R426 to R432, 16 R457, 18 R479, 19 R498), what a chip does after a cold reset (07 R185, 09 R239, R241, R253), the site record
(14 R401), the ends of the resets (15 R427, R430, R431). -/

namespace Sys2Proof.Machine

open Sys2Proof

/-! ## The chip cold reset (13 R384, 15 R432) -/

/-- Every register and everything the chip holds returns to its reset value; the flash with Gesta's event log, the pins' levels
and the model's own clock, counters, queue and outputs stay. -/
def coldReset (s : State) : State :=
  let g : GmcSt := { State.reset.gmc with flash := s.gmc.flash, log := s.gmc.log }
  { State.reset with
    flt := { State.reset.flt with pAt := some s.now }
    now := s.now, freeCtr := s.freeCtr, pending := s.pending, outbox := s.outbox, gmc := g
    pin := { s.pin with perst := false, alive := false, aliveAt := 0, waitClk := false, bootDue := true, noBoot := false } }

/-- PERST_N has been low for `lowNs`; pulses under 100 ns are ignored (19 R494). -/
def perstAssert (s : State) (lowNs : Nat) : State := if s.pin.perst && decide (100 ≤ lowNs) then coldReset s else s

/-- VDD_AON and VDD_3V3 rise (18 R479, 19 R498): ATEST drives the bandgap, which is its reset selection. -/
def aonUp (s : State) : State := { s with pin := { s.pin with aon := true } }

/-- Every supply is removed: THERMTRIP_N is released and all but the flash is lost. -/
def supplyRemoval (s : State) : State :=
  let s1 := coldReset s
  { s1 with pin := { s1.pin with aon := false, supplies := false, thermtrip := false } }

/-! ## After a cold reset: pumps, far tier, memory devices -/

/-- Every pump runs its self-test (07 R185): the 160 lowest that pass are ACTIVE, the others that pass SPARE, the rest
RETIRED with cause 4, reported by kind 0x06 alone (DESIGN CHOICE, log 114). -/
def pumpsAtBoot (s : State) (bad : List Nat) : State :=
  let good := (List.range 168).filter fun n => !bad.contains n
  let s1 := (List.range 168).foldl (fun s n =>
    if bad.contains n then
      let s2 := ((s.wr F.PMP_STAT_STATE n 3).wr F.PMP_STAT_CAUSE n 4).wr F.PMP_TEST_PASS n 0
      ((s2.wr F.PMP_TEST_NFAIL n (1 + Config.freeNat s.freeCtr % 65535)).tick).report 6 6 n
    else s.wr F.PMP_TEST_PASS n 1) s
  poolCount ((good.drop 160).foldl (fun s n => s.wr F.PMP_STAT_STATE n 1) s1)

/-- The module sizes of 09 R266. -/
def moduleSize (g : Nat) : Bool := [32, 48, 64, 96, 128, 256].contains g

/-- A far-tier population that R239 allows: NCH, DPC2 and the size of a module. No module at all is NCH 0. -/
def population (ds : List Dimm) : Option (Nat × Nat × Nat) :=
  match ds with
  | [] => some (0, 0, 0)
  | d :: _ =>
    let at_ := fun n => ds.any fun x => x.num == n
    let nch := ((List.range 8).filter fun c => at_ (2 * c) || at_ (2 * c + 1)).length
    let two := at_ 1
    let want := (List.range (2 * nch)).filter fun n => n % 2 == 0 || two
    if (nch == 1 || nch == 2 || nch == 4 || nch == 8) && ds.length == want.length && want.all at_ && moduleSize d.gib
        && ds.all fun x => x.gib == d.gib && x.make == d.make then some (nch, b2n two, d.gib)
    else none

/-- Gesta reads each module's SPD and writes WEL_FAR_CFG; a population that R239 forbids gives NCH 0 and kind 0x0A. -/
def farAtBoot (s : State) (ds : List Dimm) : State :=
  let put := fun (s : State) (p : Nat × Nat × Nat) =>
    ((s.wr0 F.WEL_FAR_CFG_NCH p.1).wr0 F.WEL_FAR_CFG_DPC2 p.2.1).wr0 F.WEL_FAR_CFG_DIMM_GIB p.2.2
  match population ds with
  | some p => put s p
  | none => (s.wr0 F.WEL_FAR_CFG_NCH 0).report 7 0xA 0

/-- A memory device is populated (09 R239). -/
def devThere (s : State) (d : Nat) : Bool :=
  decide (d < 4) || (decide ((d - 4) / 2 < nch s) && ((d - 4) % 2 == 0 || s.flag F.WEL_FAR_CFG_DPC2))

/-- STACK_OK and DIMM_OK of the devices in service. -/
def devsOk (s : State) : State :=
  let up := fun d => devThere s d && !devOut s d
  let mask := fun base n => ((List.range n).map fun i => if up (base + i) then 2 ^ i else 0).foldl (· + ·) 0
  (s.wr0 F.WEL_STAT_STACK_OK (mask 0 4)).wr0 F.WEL_STAT_DIMM_OK (mask 4 16)

/-- The devices train; one that fails is out of service (09 R253). Then the zero fill begins (R241). -/
def memoryAtBoot (s : State) (bad : List Nat) : State :=
  let s1 := ((List.range 20).filter fun d => bad.contains d && devThere s d).foldl (fun s d =>
    (s.wr F.WEL_DEV_OUT d 1).report 7 5 d) s
  modWell (devsOk s1) fun w => { w with clearing := true }

/-! ## The site record (14 R401) -/

/-- The word at a place of the site record's body. -/
def siteWord (b : List Byte) (i : Nat) : Nat := leNat ((b.drop (4 * i)).take 4)

/-- The writes in order: the pairs, HOST_PLACE, PLACE with LOCK 0. -/
def siteWrites (b : List Byte) : List (Nat × Nat) :=
  let n := min 1024 (siteWord b 2)
  ((List.range n).map fun i => (siteWord b (3 + 2 * i), siteWord b (4 + 2 * i)))
    ++ [(regOff .GLB_HOST_PLACE 0, siteWord b 1), (regOff .GLB_PLACE 0, siteWord b 0)]

/-- Gesta writes from its active core (14 R387, R401). -/
def siteMaster (s : State) : Master := .gesta ((activeCore s).getD 0)

/-- Stop at an offset, kind 0x07. -/
def siteStop (s : State) (off : Nat) : State :=
  collectorReady (gmcFault (modGmc s fun g => { g with siteDue := false, siteWait := false }) 7 off)

/-- Write the pairs; answers the offset at which an access fault stopped them. A reset of Gesta itself ends the sequence. -/
def sitePairs (ev : BootEv) : List (Nat × Nat) → State → Option Nat × State
  | [], s => (none, s)
  | (off, v) :: rest, s =>
    let s1 := busWrite ev { s with lastFault := none } (siteMaster s) off v 15
    if s1.gmc.siteDue = false then (none, s1)
    else if s1.lastFault.isSome then (some off, s1)
    else sitePairs ev rest s1

/-- LOCK is set once the well is ready, by the active core. -/
def siteLock (ev : BootEv) (s : State) : State :=
  if s.gmc.siteWait ∧ s.flag F.WEL_STAT_INIT_DONE = true ∧ s.commit.isNone = true ∧ (activeCore s).isSome = true then
    let off := regOff .GLB_PLACE 0
    let v := readStored s .GLB_PLACE 0 0
    let w := if s.flag F.GLB_PLACE_LOCK then v else v + 2 ^ F.GLB_PLACE_LOCK.lsb
    let s1 := busWrite ev { modGmc s (fun g => { g with siteWait := false }) with lastFault := none } (siteMaster s) off w 15
    if s1.lastFault.isSome then siteStop s1 off else s1
  else s

/-- The commit with mode 0, and the release of the semaphore. -/
def siteCommit (ev : BootEv) (s : State) : State :=
  let g := siteMaster s
  let s1 := if s.rd0 F.TIM_CMT_WHEN_MODE = 0 then s else busWrite ev s g (regOff .TIM_CMT_WHEN 0) 0 15
  let s2 := busWrite ev s1 g (regOff .GLB_CMT 0) 1 15
  let s3 := collectorReady (modGmc (busWrite ev s2 g (regOff .GLB_SEM 0) 1 15) fun x => { x with siteDue := false })
  if s2.rd0 F.GLB_CMT_STAT_RESULT = 1 then siteLock ev (modGmc s3 fun x => { x with siteWait := true })
  else siteStop s3 (regOff .GLB_CMT 0)

/-- Apply the site record as soon as a core is ACTIVE and the semaphore can be had. -/
def settleSite (ev : BootEv) (s : State) : State :=
  match s.gmc.siteDue, s.gmc.site with
  | true, some r =>
    if (semHolder s ≠ 0 ∧ semHolder s ≠ 3) ∨ (activeCore s).isNone = true then s
    else
      let s1 := semRead s (siteMaster s)
      match sitePairs ev (siteWrites r.body) s1 with
      | (some off, s2) => siteStop (busWrite ev s2 (siteMaster s2) (regOff .GLB_SEM 0) 1 15) off
      | (none, s2) => if s2.gmc.siteDue then siteCommit ev s2 else s2
  | _, _ => s

/-- A commit of Gesta's that its boundary refuses ends the wait for LOCK. -/
def siteAfterCommit (ev : BootEv) (s0 s : State) : State :=
  if s0.commit.isSome ∧ s.commit.isNone = true ∧ s.gmc.siteWait = true then
    if s.rd0 F.GLB_CMT_STAT_RESULT = 2 then siteLock ev s else siteStop s (regOff .GLB_CMT 0)
  else s

/-! ## The boot -/

/-- What the tray controller wrote to the flash while it held the pins (14 R403, 19 R503). -/
def trayWrites (s : State) (ev : BootEv) : State := ev.tray.foldl (fun s w => flashPut w.2 (w.1 % 2 ^ 26) s) s

/-- Gesta's work in RUNNING after a cold flow: the far tier and the memory while they have not been set up, then the site
record. -/
def afterCold (s : State) (ev : BootEv) : State :=
  if s.rd0 F.GMC_STAT_STAGE ≠ 8 then s
  else
    let fresh := s.flag F.WEL_STAT_INIT_DONE = false ∧ s.well.clearing = false
    let s1 := if fresh then memoryAtBoot (farAtBoot s ev.dimms) ev.devBad else s
    settleSite ev (modGmc s1 fun g => { g with siteDue := g.site.isSome })

/-- The chip has left reset: pumps test themselves, and the boot ROM runs unless EPO_N or RECOVERY_N is low (19 R498). -/
def coldStart (s0 : State) (ev : BootEv) : State :=
  let s := { s0 with pin := { s0.pin with bootDue := false, waitClk := false, noBoot := s0.pin.noBoot || !s0.pin.epo } }
  if s.pin.noBoot then safeEnter (brakePins (romStage s 1 0)) 4 0
  else
    let s1 := brakePins (pumpsAtBoot s ev.pumpBad)
    if s1.pin.recovery = false then s1 else afterCold (romBoot s1 true ev) ev

/-- PERST_N rises. With REFCLK absent the chip stays in reset; FAULT_N and ALIVE are low. -/
def perstRelease (s0 : State) (ev : BootEv) : State :=
  let low := s0.pin.bootDue && !s0.pin.perst && !s0.pin.epo
  let s := { s0 with pin := { s0.pin with perst := s0.pin.aon, supplies := s0.pin.aon, noBoot := s0.pin.noBoot || low } }
  if !s.pin.aon ∨ !s.pin.bootDue then s
  else
    let s1 := trayWrites s ev
    if s1.pin.refclk then coldStart s1 ev else { s1 with pin := { s1.pin with waitClk := true } }

/-- RECOVERY_N rises: the boot ROM begins afresh, with the cold flow while LOCK is 0 (14 R403). -/
def recoveryRelease (s0 : State) (ev : BootEv) : State :=
  if s0.pin.recovery then s0
  else
    let s := { s0 with pin := { s0.pin with recovery := true } }
    if !chipOn s then s
    else
      let s1 := trayWrites s ev
      let s2 := s1.gmc.mbox.foldl (fun s m => mboxRespond s m 7 [] []) s1
      if s2.flag F.GLB_PLACE_LOCK then romBoot s2 false ev else afterCold (romBoot s2 true ev) ev

/-- REFCLK is lost (11 R313). ALIVE, which is derived from it, rests low (15 R421, 18 R480). -/
def refclkLoss (s : State) : State :=
  let s1 := { s with pin := { s.pin with refclk := false, alive := false } }
  if chipOn s then settleGroups (refclkPorts s1 1) else s1

/-- REFCLK returns: ports restart through DETECT, or a chip that waits for its PLLs leaves reset. -/
def refclkReturn (s : State) (ev : BootEv) : State :=
  let s1 := { s with pin := { s.pin with refclk := true } }
  if s.pin.refclk then s1
  else if s1.pin.waitClk then coldStart s1 ev
  else if chipOn s1 then
    (List.range 160).foldl (fun s lp => if s.lpExists lp && s.flag F.PRT_CTRL_EN (lp / 2) then startDetect s lp else s) s1
  else s1

/-! ## The ends of resets -/

/-- The pump-domain reset ends; grants resume (15 R430). -/
def pumpResetEnd (s : State) : State :=
  if s.pumpHold.isNone ∨ inCoreReset s = true then s else settleGroups (settleBusy { s with pumpHold := none })

/-- The pool-domain reset ends; the well serves again (15 R431). -/
def poolResetEnd (s : State) : State :=
  if s.well.poolUntil.isNone ∨ inCoreReset s = true then s
  else settleBusy (modWell s fun w => { w with poolUntil := none })

/-- The core warm reset ends (15 R427, R431): RESUME on every paused link, port resets asked for meanwhile, a commit whose
boundary has passed (13 R380), held accesses in order, dumps that wait. -/
def coreWarmEnd (s : State) (ev : BootEv) (fail : Option Nat) : State :=
  if !inCoreReset s then s
  else
    let held := s.rst.held
    let ports := s.rst.ports
    let s1 : State := { s with rst := ⟨none, [], [], s.rst.running⟩, pumpHold := none, well := { s.well with poolUntil := none } }
    let s2 := settleBusy s1
    let s3 := (List.range 160).foldl (fun s lp => if s.linkUp lp then portCell s lp (pauseHdr 1 20) else s) s2
    let s4 := ports.foldl (fun s p => portReset (s.wr0 F.GLB_RST_PORT_GO 0) p.1 p.2) s3
    let s5 := held.foldl (runHeld ev) (siteAfterCommit ev s4 (takeCommit s4))
    settleGroups (dumpNext (s5.tel.queue.length + 1) fail s5)

end Sys2Proof.Machine
end

