-- ==== Sys2Proof/Machine/Mgmt.lean ====
section
/-! DEFINITION. The side-band and Gesta's services: I3C (12 R356), MCTP control (R357), register access messages (R358), DOE
(R330), SPDM (14 R408), the mailboxes (14 R409, R410), the PLDM firmware update (14 R406, R407). -/

namespace Sys2Proof.Machine

open Sys2Proof

def modBus (s : State) (f : BusSt → BusSt) : State := { s with bus := f s.bus }

/-- Gesta serves PLDM, SPDM, DOE and the mailboxes in RUNNING, from its active core (14 R400, R410). -/
def gestaServes (s : State) : Bool := s.rd0 F.GMC_STAT_STAGE == 8 && (activeCore s).isSome && !qspiHiZ s

/-! ## I3C (12 R356) -/

/-- The provisional ID, 48 bits with the first byte first: the manufacturer ID, bit 32 set, a random 32-bit value. -/
def i3cPidBytes (v : Nat) : List Byte := (leBytes 6 ((Config.mipiId.toNat * 2 + 1) * 2 ^ 32 + v)).reverse

/-- The provisional ID; its random value is drawn once. -/
def i3cPid (s : State) : List Byte × State :=
  match s.bus.i3cPid with
  | some v => (i3cPidBytes v, s)
  | none =>
    let (v, s1) := s.draw
    (i3cPidBytes v, modBus s1 fun b => { b with i3cPid := some v })

/-- ENTDAA takes a target that has no dynamic address yet: it sends its ID, BCR and DCR and keeps the address. -/
def i3cEntdaa (s : State) (addr : Nat) : State :=
  if s.bus.i3cAddr.isSome then s
  else
    let (p, s1) := i3cPid s
    (modBus s1 fun b => { b with i3cAddr := some (addr % 128) }).emit (.i3c (p ++ Config.blob 1 ++ Config.blob 2))

/-- A directed command reaches the target only once it has an address. -/
def i3cDirected (s : State) (f : State → State) : State := if s.bus.i3cAddr.isSome then f s else s

def i3cSetAddr (s : State) (addr : Option Nat) : State := modBus s fun b => { b with i3cAddr := addr.map (· % 128) }
def i3cGetPid (s : State) : State := let (p, s1) := i3cPid s; s1.emit (.i3c p)

/-- GETSTATUS: the spec gives no layout; the word is free. -/
def i3cGetStatus (s : State) : State := ((s.emit (.i3c [Config.freeByte s.freeCtr, Config.freeByte (s.freeCtr + 1)])).tick).tick

/-- ENEC and DISEC change the enabled target events. -/
def i3cEvents (s : State) (on : Bool) (mask : Nat) : State := modBus s fun b => { b with
  events := if on then Nat.lor b.events (mask % 256) else b.events - Nat.land b.events (mask % 256) }

/-! ## MCTP (12 R357) -/

/-- The transports: 1 over PCIe, 2 over I3C. The master of its register accesses (12 R359). -/
def viaMaster (pcie : Bool) : Master := if pcie then .host else .sideband
def viaKey (pcie : Bool) : Nat := if pcie then 1 else 2

/-- The packets of a message: 64 bytes each, and the rest (R357). -/
def mctpUnits (len : Nat) : Nat := max 1 ((len + 63) / 64)

/-- Over I3C an in-band interrupt announces each packet of a message (R356; its byte is PRESUMED, log 54). -/
def announce (s : State) (units : Nat) : State := (List.range units).foldl (fun s _ => sendIbi s 0xAE) s

/-- The length of an answer's message; a PLDM answer is within one packet (log 54). -/
def outLen : Out → Nat
  | .mctp bs => bs.length
  | _ => 0

/-- Send an MCTP answer. -/
def sendMctp (s : State) (pcie : Bool) (o : Out) : State := (if pcie then s else announce s (mctpUnits (outLen o))).emit o

/-- The MCTP endpoint ID of a transport; 0 until the bus owner assigns one (log 5). -/
def mctpEid (s : State) (pcie : Bool) : Nat := mgetD s.bus.eids (viaKey pcie) 0

/-- Set Endpoint ID; 0 and 0xFF are not assignable (PRESUMED, log 5). -/
def mctpSetEid (s : State) (pcie : Bool) (eid : Nat) : State :=
  if eid % 256 = 0 ∨ eid % 256 = 255 then sendMctp s pcie (.mctp [1, 2])
  else sendMctp (modBus s fun b => { b with eids := mput b.eids (viaKey pcie) (eid % 256) }) pcie
    (.mctp ([1, 0, 0] ++ leBytes 1 eid))

def mctpGetEid (s : State) (pcie : Bool) : State := sendMctp s pcie (.mctp ([2, 0] ++ leBytes 1 (mctpEid s pcie)))

/-- The versions of each message type are not in the spec: a constant without a value (log 11). -/
def mctpGetVersion (s : State) (pcie : Bool) (type : Nat) : State := sendMctp s pcie (.mctp ([4, 0] ++ Config.blob (6 + type)))

/-- The message types of R357's table. -/
def mctpGetTypes (s : State) (pcie : Bool) : State := sendMctp s pcie (.mctp [5, 0, 3, 1, 5, 0x7E])

/-- One vendor-defined set, named by the PCI Vendor ID. -/
def mctpGetVendor (s : State) (pcie : Bool) (sel : Nat) : State :=
  if sel = 0 then sendMctp s pcie (.mctp ([6, 0, 0xFF, 0] ++ (leBytes 2 Config.vendorId.toNat).reverse ++ [0, 0]))
  else sendMctp s pcie (.mctp [6, 2])

/-- Until an endpoint ID is assigned, only control messages are answered (R357). -/
def mctpOpen (s : State) (pcie : Bool) (f : State → State) : State := if mctpEid s pcie = 0 then s else f s

/-! ## Register access messages (12 R358) -/

/-- The check of a message: width, length, offset. -/
def regMsgCode (width len need off : Nat) : Nat :=
  if width ≠ 4 then 1 else if len ≠ need then 2 else if off ≥ 0x4000000 ∨ off % 4 ≠ 0 then 3 else 0

/-- An answer without access: its value field is not stated for a READ32, so it is free. -/
def regMsgFail (s : State) (pcie : Bool) (cmd cc tag off : Nat) (free : Bool) : State :=
  if free then (sendMctp s pcie (.mctp (regResponse cmd cc tag off (Config.freeNat s.freeCtr)))).tick
  else sendMctp s pcie (.mctp (regResponse cmd cc tag off 0))

def regMsgRead (s : State) (pcie : Bool) (width len tag off : Nat) : State :=
  let m := viaMaster pcie
  let cc := regMsgCode width len 10 off
  if cc ≠ 0 then regMsgFail s pcie 1 cc tag off true
  else if mustHold s off then hold s ⟨m, false, off, 0, 15, some tag⟩
  else
    let (v, s1) := readNow (countReg (softCheck s off) m false off) m off
    sendMctp s1 pcie (.mctp (regResponse 1 0 tag off v))

def regMsgWrite (s : State) (pcie : Bool) (width len tag off val : Nat) (ev : BootEv) : State :=
  let m := viaMaster pcie
  let cc := regMsgCode width len 14 off
  if cc ≠ 0 then regMsgFail s pcie 2 cc tag off false
  else if mayWrite s m && mustHold s off then hold s ⟨m, true, off, val, 15, some tag⟩
  else
    let s1 := busWrite ev { s with lastFault := none } m off val 15
    sendMctp s1 pcie (.mctp (regResponse 2 (if s1.lastFault.isSome then 4 else 0) tag off 0))

/-- A command that is neither READ32 nor WRITE32. -/
def regMsgUnknown (s : State) (pcie : Bool) (cmd tag off : Nat) : State :=
  if cmd % 256 = 1 ∨ cmd % 256 = 2 then s else regMsgFail s pcie (cmd % 256) 5 tag off true

/-! ## DOE (12 R330) -/

/-- DOE Discovery: index 0 is Discovery itself, index 1 SPDM (the codes are PRESUMED, log 55). Until RUNNING the mailbox is Busy. -/
def doeDiscovery (s : State) (index : Nat) : State :=
  if !gestaServes s then s.emit .doeBusy
  else if index = 0 then s.emit (.doe [1, 0, 0, 1])
  else if index = 1 then s.emit (.doe [1, 0, 1, 0])
  else s.emit (.doe [0xFF, 0xFF, 0, 0])

/-! ## SPDM (14 R408) -/

/-- An SPDM request by a way in: 0 DOE, 1 MCTP over PCIe, 2 MCTP over I3C. -/
def spdmVia (s : State) (way : Nat) (f : State → State) : State :=
  if way > 2 then s
  else if !gestaServes s then (if way = 0 then s.emit .doeBusy else s)
  else if way = 0 then f s
  else mctpOpen s (way == 1) f

def spdmSend (s : State) (way code : Nat) (parts : List (List Byte)) : State :=
  (if way = 2 then announce s (mctpUnits (5 + (parts.map (·.length)).sum)) else s).emit (.spdm way code parts)

/-- Versions 1.2 and 1.3; a new exchange begins. -/
def spdmVersion (s : State) (way : Nat) : State :=
  spdmSend (modBus s fun b => { b with spdm := mdel b.spdm way }) way 1 [[0x12], [0x13]]

/-- The capabilities: CERT_CAP, CHAL_CAP, MEAS_CAP with signatures; the version of the request is the one agreed. -/
def spdmCaps (s : State) (way ver : Nat) : State :=
  if ver = 0x12 ∨ ver = 0x13 then
    spdmSend (modBus s fun b => { b with spdm := mput b.spdm way ver }) way 2 [[1], [1], [2]]
  else spdmSend s way 0x7F []

/-- The one choice of algorithms: the DMTF measurement specification, TPM_ALG_SHA_384 for measurements,
TPM_ALG_ECDSA_ECC_NIST_P384, TPM_ALG_SHA_384 as base hash. The bits are SPDM's (PRESUMED, log 124). -/
def spdmAlgs (s : State) (way : Nat) : State := spdmSend s way 3 [leBytes 1 1, leBytes 4 4, leBytes 4 0x80, leBytes 4 2]

/-- The certificate chain of slot 0: the vendor root, the DeviceID certificate of the factory record, the Alias certificate. -/
def spdmChain (s : State) : List Byte := Config.blob 4 ++ factoryTag ((s.gmc.factory.map (·.body)).getD []) 3 ++ s.gmc.aliasCert

def spdmDigests (s : State) (way : Nat) : State := spdmSend s way 4 [Config.sha384 (spdmChain s)]

/-- A part of the chain. Only slot 0 exists. -/
def spdmCert (s : State) (way slot off len : Nat) : State :=
  let c := spdmChain s
  if slot = 0 ∧ off < c.length then spdmSend s way 5 [(c.drop off).take len, leBytes 2 (c.length - off - min len (c.length - off))]
  else spdmSend s way 0x7F []

/-- Measurement 9, read when the request is answered. -/
def liveMeasure (s : State) : List Byte :=
  ([RegName.GLB_CFG_CRC_CUR, .GLB_CFG_CRC_REF, .GLB_CFG_CRC_CTRL, .GLB_CMT_STAT].map fun r => leBytes 4 (readStored s r 0 0)).flatMap id

/-- Measurements 1 to 9 (R408). -/
def measures (s : State) : List (List Byte) :=
  bootMeasures s ++ [(s.gmc.bootRegs.map (leBytes 4)).flatMap id ++ leBytes 4 s.gmc.bootBc, liveMeasure s]

/-- The types of the measurements, with bit 7 set for a raw value: immutable ROM, mutable firmware, hardware and firmware
configuration. The codes are those of the DMTF format (PRESUMED, log 124). -/
def measureTypes : List Nat := [0, 1, 1, 1, 0x83, 2, 3, 0x83, 0x83]

/-- A measurement block: index, specification, and the value in the DMTF measurement value format. -/
def measureBlock (i : Nat) (v : List Byte) : List Byte :=
  leBytes 1 i ++ leBytes 1 1 ++ leBytes 2 (3 + v.length) ++ leBytes 1 (measureTypes.getD (i - 1) 0) ++ leBytes 2 v.length ++ v

def measureBlocks (s : State) : List (List Byte) := (measures s).zipIdx.map fun e => measureBlock (e.2 + 1) e.1

/-- The responder's nonce: 32 free bytes. -/
def spdmNonce (s : State) : List Byte := (List.range 32).map fun i => Config.freeByte (s.freeCtr + i)

/-- CHALLENGE: the chain's digest, the nonce, the digest of all measurements, signed with the Alias key. -/
def spdmChallenge (s : State) (way slot : Nat) (nonce : List Byte) : State :=
  if slot ≠ 0 then spdmSend s way 0x7F []
  else
    let n := spdmNonce s
    let body := [Config.sha384 (spdmChain s), n, Config.sha384 ((measureBlocks s).flatMap id)]
    let sig := Config.ecdsaSign s.gmc.alias_ (nonce ++ body.flatMap id)
    spdmSend { s with freeCtr := s.freeCtr + 32 } way 6 (body ++ [sig])

/-- GET_MEASUREMENTS of one index, or of all with index 0xFF, signed with the Alias key. -/
def spdmMeasure (s : State) (way index : Nat) (nonce : List Byte) : State :=
  let ms := measureBlocks s
  let pick := if index = 0xFF then ms else if 1 ≤ index ∧ index ≤ 9 then [ms.getD (index - 1) []] else []
  if pick.isEmpty then spdmSend s way 0x7F []
  else
    let n := spdmNonce s
    let sig := Config.ecdsaSign s.gmc.alias_ (nonce ++ n ++ pick.flatMap id)
    spdmSend { s with freeCtr := s.freeCtr + 32 } way 7 (pick ++ [n, sig])

/-! ## Update lock and flash rules (14 R406) -/

def takeLock (s : State) (who : Nat) : State := modGmc s fun g => { g with upd := { g.upd with lock := some (who, s.now) } }
def freeLock (s : State) : State := modGmc s fun g => { g with upd := ⟨none, 0, 0, false⟩ }
def lockedBy (s : State) (who : Nat) : Bool := s.gmc.upd.lock.any fun l => l.1 == who

/-- Two ranges meet. -/
def meets (a n b m : Nat) : Bool := decide (a < b + m) && decide (b < a + n)

/-- The record copies: base, the other copy's base, type. -/
def recAreas : List (Nat × Nat × Nat) :=
  [(0, 0x10000, 1), (0x10000, 0, 1), (0x20000, 0x30000, 2), (0x30000, 0x20000, 2), (0x40000, 0x50000, 3), (0x50000, 0x40000, 3)]

/-- An erase or write that Gesta refuses: the running slot, a record copy whose other copy is not valid or is changed with it,
reserved flash. -/
def flashRefused (s : State) (a n : Nat) : Bool :=
  decide (0x3F00000 ≤ a) || decide (0x3F00000 < a + n) || meets a n (slotBase (runSlot s)) 0x1F00000
  || recAreas.any fun r => meets a n r.1 0x10000 && (meets a n r.2.1 0x10000 || (recCopy s s.gmc.owner r.2.2 r.2.1).isNone)

/-- Where the event log stands. Its layout is not given: a change there leaves its entries free (log 56). -/
def freeLog (s : State) (a n : Nat) : State :=
  if meets a n 0x62000 0x9E000 then
    modGmc s fun g => { g with log := g.log.map fun e => (List.range e.length).map fun i => Config.freeByte (s.freeCtr + i) }
  else s

/-- An erase or program that fails leaves its range free, kind 0x06 (R409, R411). -/
def flashFail (s : State) (a n : Nat) : State :=
  let s1 := flashPut ((List.range n).map fun i => Config.freeByte (s.freeCtr + i)) a s
  gmcFault { s1 with freeCtr := s1.freeCtr + n } 6 a

/-! ## The mailboxes (14 R409, R410) -/

def mbWord (s : State) (m i : Nat) : Nat := s.rd F.GMC_MB_REQ_DATA (m * 1024 + i)
def mbLen (s : State) (m : Nat) : Nat := mbWord s m 1
def mbArg (s : State) (m i : Nat) : Nat := mbWord s m (2 + i)
def mbData (s : State) (m n : Nat) : List Byte :=
  (((List.range ((n + 3) / 4)).map fun i => mbWord s m (8 + i)).flatMap (leBytes 4)).take n

/-- Gesta takes the request of mailbox `m` when its command is `cmd`. -/
def mbServe (s : State) (m cmd : Nat) (f : State → State) : State :=
  if gestaServes s ∧ s.gmc.mbox.contains m = true ∧ bits (mbWord s m 0) 24 8 = cmd then f s else s

/-- A request without data. -/
def mbPlain (s : State) (m : Nat) (f : State → State) : State := if mbLen s m ≠ 0 then mboxRespond s m 2 [] [] else f s

/-- IMG_VER and SVN of a slot's Gesta component, 0 when the slot does not verify. -/
def slotInfo (s : State) (slot : Nat) : List Nat :=
  match slotVerifies s slot, slotComp s slot 1 with
  | true, some c => [c.u 8 4, c.u 12 4]
  | _, _ => [0, 0]

def infoWords (s : State) : List Nat := slotInfo s 0 ++ slotInfo s 1 ++ [bootControl s]

def mbGetInfo (s : State) (m : Nat) : State := mbPlain s m fun s => mboxRespond s m 0 (infoWords s) []

/-- Bytes of the flash as Gesta reads them; the event log's place holds what Gesta wrote there (log 56). -/
def flashSeen (s : State) (a n : Nat) : List Byte :=
  (List.range n).map fun i =>
    if !s.gmc.log.isEmpty ∧ 0x62000 ≤ a + i ∧ a + i < 0x100000 then Config.freeByte (s.freeCtr + i) else flashByte s (a + i)

def mbFlashRead (s : State) (m : Nat) : State := mbPlain s m fun s =>
  let a := mbArg s m 0
  let n := mbArg s m 1
  if a % 4 ≠ 0 ∨ n % 4 ≠ 0 ∨ n > 4064 then mboxRespond s m 2 [] []
  else if a ≥ 0x3F00000 ∨ a + n > 0x3F00000 then mboxRespond s m 3 [] []
  else
    let bs := flashSeen s a n
    mboxRespond { s with freeCtr := s.freeCtr + n } m 0 [] bs

/-- An update command of a mailbox: refused while PLDM holds the lock, else the lock is taken and the work done. -/
def mbUpdate (s : State) (m a n : Nat) (f : State → State) : State :=
  if lockedBy s 1 then mboxRespond s m 8 [] []
  else if flashRefused s a n then mboxRespond s m 3 [] []
  else f (takeLock s 0)

def mbFlashErase (s : State) (m : Nat) (ok : Bool) : State := mbPlain s m fun s =>
  let a := mbArg s m 0
  let n := mbArg s m 1
  if a % 65536 ≠ 0 ∨ n % 65536 ≠ 0 then mboxRespond s m 2 [] []
  else mbUpdate s m a n fun s =>
    let s1 := freeLog s a n
    if ok then mboxRespond (flashErase s1 a n) m 0 [] [] else mboxRespond (flashFail s1 a n) m 4 [] []

def mbFlashWrite (s : State) (m : Nat) (ok : Bool) : State :=
  let a := mbArg s m 0
  let n := mbLen s m
  if a % 4 ≠ 0 ∨ n % 4 ≠ 0 ∨ n > 4064 then mboxRespond s m 2 [] []
  else mbUpdate s m a n fun s =>
    let s1 := freeLog s a n
    if ok then mboxRespond (flashProgram (mbData s m n) a s1) m 0 [] [] else mboxRespond (flashFail s1 a n) m 4 [] []

/-- A slot meets every condition of R391 but the SVN. -/
def compOkNoSvn (s : State) (owner : Option Rec) (stop : Nat) (c : Comp) : Bool :=
  compPlain c stop && compKeyOk owner c
  && Config.ecdsaOk ((c.hdr.drop 80).take 97) (c.hdr.take 192) ((c.hdr.drop 192).take 96)
  && Config.sha384 (flashBytes s (c.off + 512) c.len) == (c.hdr.drop 32).take 48

/-- What VERIFY_SLOT answers: 0, 0x06 where only the SVN is too low, else 0x05 (log 57). -/
def slotStatus (s : State) (slot : Nat) : Nat :=
  let cs := slotChain s slot
  if slotVerifies s slot then 0
  else if chainShape cs && cs.all (compOkNoSvn s s.gmc.owner (slotEnd slot)) then 6 else 5

/-- A slot that fails verification is reported (R411). -/
def slotJudge (s : State) (slot : Nat) : Nat × State :=
  let st := slotStatus s slot
  (st, if st = 0 then s else gmcFault s 1 slot)

def mbVerifySlot (s : State) (m : Nat) : State := mbPlain s m fun s =>
  let slot := mbArg s m 0
  if slot > 1 then mboxRespond s m 2 [] []
  else
    let (st, s1) := slotJudge s slot
    mboxRespond s1 m st (slotInfo s1 slot) []

/-- GMC_STAT.TRIAL after BC was written: the image of the preferred slot is on trial while BC says so (R405). -/
def trialState (s : State) : State :=
  let bc := bootControl s
  s.wr0 F.GMC_STAT_TRIAL (b2n (bcTrial bc == 1 && bcPrefer bc == runSlot s))

def mbSetPrefer (s : State) (m : Nat) : State := mbPlain s m fun s =>
  let slot := mbArg s m 0
  let trial := mbArg s m 1 % 2
  if slot > 1 then mboxRespond s m 2 [] []
  else if lockedBy s 1 then mboxRespond s m 8 [] []
  else
    let (st, s1) := slotJudge s slot
    if st ≠ 0 then mboxRespond s1 m 5 [] []
    else
      let s2 := trialState (freeLock (bcWrite s1 trial (3 * trial) slot))
      mboxRespond s2 m 0 [0, 0, 0, 0, bootControl s2] []

def mbConfirm (s : State) (m : Nat) : State := mbPlain s m fun s => mboxRespond (confirmRunning s) m 0 [] []

/-- LOG_READ; the status for an index with no entry is not stated: free (log 56). -/
def mbLogRead (s : State) (m : Nat) : State := mbPlain s m fun s =>
  match s.gmc.log[mbArg s m 0]? with
  | some e => mboxRespond s m 0 [] (e.take 4064)
  | none => mboxRespond s.tick m (Config.freeNat s.freeCtr % 256) [] []

/-- A request whose CMD is none of the table. -/
def mbUnknown (s : State) (m : Nat) : State :=
  let cmd := bits (mbWord s m 0) 24 8
  if 1 ≤ cmd ∧ cmd ≤ 8 then s else mbServe s m cmd fun s => mboxRespond s m 1 [] []

/-! ## The PLDM firmware update (14 R406, R407) -/

/-- PLDM completion codes, from DSP0267 (PRESUMED, log 58). -/
def pldmBusy : Nat := 0x81
def pldmWrongState : Nat := 0x80

/-- PLDM answers over MCTP, in RUNNING. -/
def pldmVia (s : State) (pcie : Bool) (f : State → State) : State := if gestaServes s then mctpOpen s pcie f else s

def pldmSay (s : State) (pcie : Bool) (cmd code : Nat) : State := sendMctp s pcie (.pldm cmd code)

/-- A step of an update under way; any other is answered as out of order. Traffic keeps the lock. -/
def pldmStep (s : State) (pcie : Bool) (cmd : Nat) (ok : Bool) (f : State → State) : State :=
  if lockedBy s 1 && ok then pldmSay (f (takeLock s 1)) pcie cmd 0 else pldmSay s pcie cmd pldmWrongState

def setStep (s : State) (n : Nat) : State := modGmc s fun g => { g with upd := { g.upd with step := n } }

def otherSlot (s : State) : Nat := 1 - runSlot s

/-- RequestUpdate takes the lock, or is refused while one is held. -/
def pldmRequest (s : State) (pcie : Bool) : State :=
  if s.gmc.upd.lock.isSome then pldmSay s pcie 0x10 pldmBusy
  else pldmSay (setStep (takeLock s 1) 1) pcie 0x10 0

/-- PassComponentTable: the one component is 0x0001. -/
def pldmTable (s : State) (pcie : Bool) (ident : Nat) : State :=
  pldmStep s pcie 0x13 (s.gmc.upd.step == 1 && ident == 1) fun s => setStep s 2

/-- UpdateComponent: the slot not running is erased for the transfer. -/
def pldmUpdate (s : State) (pcie : Bool) (ident : Nat) : State :=
  pldmStep s pcie 0x14 (s.gmc.upd.step == 2 && ident == 1) fun s =>
    modGmc (flashErase s (slotBase (otherSlot s)) 0x1F00000) fun g => { g with upd := { g.upd with step := 3, got := 0, verified := false } }

/-- Component data of the transfer is written into the slot not running. -/
def pldmData (s : State) (pcie : Bool) (off : Nat) (data : List Byte) (ok : Bool) : State :=
  let a := slotBase (otherSlot s) + off
  pldmStep s pcie 0x15 (s.gmc.upd.step == 3 && decide (off + data.length ≤ 0x1F00000)) fun s =>
    if ok then modGmc (flashPut data a s) fun g => { g with upd := { g.upd with got := g.upd.got + data.length } }
    else flashFail s a data.length

/-- Verification is R391 on the slot written; the result is reported to the update agent. -/
def pldmVerify (s : State) (pcie : Bool) : State :=
  if lockedBy s 1 && s.gmc.upd.step == 3 then
    let (st, s1) := slotJudge (takeLock s 1) (otherSlot s)
    let s2 := modGmc s1 fun g => { g with upd := { g.upd with step := if st = 0 then 4 else 3, verified := st == 0 } }
    pldmSay s2 pcie 0x17 st
  else pldmSay s pcie 0x17 pldmWrongState

/-- Apply sets PREFER to the slot with TRIAL 1 and TRIES 3. -/
def pldmApply (s : State) (pcie : Bool) : State :=
  pldmStep s pcie 0x18 (s.gmc.upd.step == 4) fun s => setStep (trialState (bcWrite s 1 3 (otherSlot s))) 5

/-- ActivateFirmware: the update ends, its microcode waits for the next chip cold reset and is said to, and with self-contained
activation a GMC reset runs the new image. -/
def pldmActivate (s : State) (pcie : Bool) (self : Bool) (ev : BootEv) : State :=
  if lockedBy s 1 && s.gmc.upd.step == 5 then
    let s1 := pldmSay (modGmc (freeLock s) fun g => { g with ucodePending := true }) pcie 0x1A 0
    let s2 := s1.emit .ucodePending
    if self then gmcReset s2 ev none else s2
  else pldmSay s pcie 0x1A pldmWrongState

end Sys2Proof.Machine
end

