-- ==== Sys2Proof/Machine/Console.lean ====
section
/-! DEFINITION. The field console (18 R481 to R490): the reading of its lines, the three classes of commands, service state, the
self-tests. A row carries the characters of its line as CONS_RX brings them. Where the spec gives no layout for what is
printed, the registers read are answered as reads by Gesta and other values as bytes (log 81). -/

namespace Sys2Proof.Machine

open Sys2Proof

/-! ## Lines (R481) -/

/-- The commands of the console (R486, R488). -/
inductive ConCmd where
  | regRd
  | regWr
  | faultClear
  | servicePort
  | serviceOnForce
  | serviceOn
  | serviceOff
  | resetPort
  | resetPump
  | resetPool
  | resetCore
  | resetGmc
  | selftestRails
  | selftestSensors
  | selftestLanes
  | selftestPort
  | selftestPumps
  | selftestCisterns
  | selftestHbm
  | selftestDimm
  | selftestWell
  | selftestSync
  | selftestRooms
  | selftestGroup
  | help
  | stat
  | ver
  | fault
  | port
  | lane
  | temp
  | power
  | log
  | atest
  deriving DecidableEq, Repr

/-- The line editor: what a line holds at its CR or LF, the last character first, none before that. 0x08 and 0x7F take back a
character; beyond 120 none is taken (DESIGN CHOICE, log 80). -/
def lineEdit : List Nat → List Nat → Option (List Nat)
  | _, [] => none
  | acc, b :: bs =>
    if b = 13 ∨ b = 10 then some acc
    else if b = 8 ∨ b = 127 then lineEdit (acc.drop 1) bs
    else if acc.length ≥ 120 then lineEdit acc bs
    else lineEdit (b :: acc) bs

/-- A letter without its case. -/
def upperCase (b : Nat) : Nat := if 97 ≤ b ∧ b ≤ 122 then b - 32 else b

/-- The words of a line between spaces. -/
def lineWords : List Nat → List Nat → List (List Nat)
  | w, [] => if w.isEmpty then [] else [w.reverse]
  | w, b :: bs => if b = 32 then (if w.isEmpty then [] else [w.reverse]) ++ lineWords [] bs else lineWords (b :: w) bs

/-- A digit of a base. -/
def digitOf (base b : Nat) : Option Nat :=
  let v := if 48 ≤ b ∧ b ≤ 57 then b - 48 else if 65 ≤ b ∧ b ≤ 70 then b - 55 else 16
  if v < base then some v else none

/-- Digits from the most significant on. -/
def digitsVal (base : Nat) (ds : List Nat) : Option Nat :=
  if ds.isEmpty then none else ds.foldl (fun acc b => acc.bind fun n => (digitOf base b).map fun d => n * base + d) (some 0)

/-- A number: decimal, or hexadecimal after 0x; an underscore is ignored. -/
def conNumber (w : List Nat) : Option Nat :=
  match w.filter (· ≠ 95) with
  | 48 :: 88 :: ds => digitsVal 16 ds
  | ds => digitsVal 10 ds

/-- The codes of a keyword's letters. -/
def letters (t : String) : List Nat := t.toList.map Char.toNat

/-- The commands by their words, longer ones first. -/
def conTable : List (List String × ConCmd) := [
  (["REG", "RD"], .regRd),
  (["REG", "WR"], .regWr),
  (["FAULT", "CLEAR"], .faultClear),
  (["SERVICE", "PORT"], .servicePort),
  (["SERVICE", "ON", "FORCE"], .serviceOnForce),
  (["SERVICE", "ON"], .serviceOn),
  (["SERVICE", "OFF"], .serviceOff),
  (["RESET", "PORT"], .resetPort),
  (["RESET", "PUMP"], .resetPump),
  (["RESET", "POOL"], .resetPool),
  (["RESET", "CORE"], .resetCore),
  (["RESET", "GMC"], .resetGmc),
  (["SELFTEST", "RAILS"], .selftestRails),
  (["SELFTEST", "SENSORS"], .selftestSensors),
  (["SELFTEST", "LANES"], .selftestLanes),
  (["SELFTEST", "PORT"], .selftestPort),
  (["SELFTEST", "PUMPS"], .selftestPumps),
  (["SELFTEST", "CISTERNS"], .selftestCisterns),
  (["SELFTEST", "HBM"], .selftestHbm),
  (["SELFTEST", "DIMM"], .selftestDimm),
  (["SELFTEST", "WELL"], .selftestWell),
  (["SELFTEST", "SYNC"], .selftestSync),
  (["SELFTEST", "ROOMS"], .selftestRooms),
  (["SELFTEST", "GROUP"], .selftestGroup),
  (["HELP"], .help),
  (["STAT"], .stat),
  (["VER"], .ver),
  (["FAULT"], .fault),
  (["PORT"], .port),
  (["LANE"], .lane),
  (["TEMP"], .temp),
  (["POWER"], .power),
  (["LOG"], .log),
  (["ATEST"], .atest)]

/-- The keyword words of a command stand at the front of a line's words: the words after them. -/
def afterWords : List String → List (List Nat) → Option (List (List Nat))
  | [], ws => some ws
  | _ :: _, [] => none
  | k :: ks, w :: ws => if letters k = w then afterWords ks ws else none

/-- The words of the line that characters spell, none where no line has ended. -/
def spelled (chars : List Byte) : Option (List (List Nat)) :=
  (lineEdit [] (chars.map BitVec.toNat)).map fun l => lineWords [] (l.reverse.map upperCase)

/-- The command of a line's words, with the numbers after it, none for one that is malformed. In SELFTEST LANES the word LOOP stands
between its two. -/
def conParse (ws : List (List Nat)) : Option (ConCmd × List (Option Nat)) :=
  (conTable.findSome? fun e => (afterWords e.1 ws).map fun r => (e.2, r)).map fun e =>
    match e.1, e.2 with
    | .selftestLanes, [p, l, k] => (.selftestLanes, if letters "LOOP" = l then [conNumber p, conNumber k] else [none])
    | .selftestLanes, _ => (.selftestLanes, [none])
    | c, r => (c, r.map conNumber)

/-- The command and arguments of a line as it comes in. -/
def conLine (chars : List Byte) : Option (ConCmd × List (Option Nat)) := (spelled chars).bind conParse

/-! ## What is printed -/

/-- A number in decimal. -/
def decStr (n : Nat) : String := toString n

def sayLine (s : State) (t : String) : State := s.emit (.line t)
def sayBytes (s : State) (bs : List Byte) : State := s.emit (.cons bs)

/-- The meanings of the codes (R483), which the model prints as their short texts (log 81). -/
def conMeaning : Nat → String
  | 1 => "Unknown command"
  | 2 => "Argument missing, malformed or out of range"
  | 3 => "Not permitted"
  | 4 => "Needs service state"
  | 5 => "GLB_SEM held by another master"
  | 7 => "Aborted"
  | 8 => "Refused in the safe state"
  | _ => "Not applicable to this chip"

/-- The line `ERR` with its code and a short text. -/
def sayErr (s : State) (code : Nat) : State := sayLine s ("ERR 0x" ++ hexStr 2 code ++ " " ++ conMeaning code)

/-- The end of a command: `OK`, or `ERR`; then the prompt. -/
def conOk (s : State) : State := let s1 := sayLine s "OK"; sayLine s1 (prompt s1)
def conErr (s : State) (code : Nat) : State := sayLine (sayErr s code) (prompt s)

/-- A command whose write is a GMC reset: it ends with ERR 0x07, and what follows is the boot ROM's to print (R482, R483). -/
def conGmcReset (s : State) (ev : BootEv) (off v : Nat) : State := busWrite ev (sayErr s 7) (.gesta ((activeCore s).getD 0)) off v 15

/-- The core that serves the console. -/
def conCore (s : State) : Master := .gesta ((activeCore s).getD 0)

/-- A read command: always allowed while Gesta runs (R482, R484). -/
def conRead (s : State) (f : State → State) : State := if gestaServes s then f s else s

/-- A line comes in: each character is echoed (R481), and it is the row's if it names that command; another line is another row's. -/
def conRow (s : State) (c : ConCmd) (chars : List Byte) (f : State → List (Option Nat) → State) : State :=
  conRead s fun s =>
    match conLine chars with
    | some (d, args) => if d = c then f (sayBytes s chars) args else s
    | none => s

/-- A command without arguments; other words after it are malformed ones. -/
def bare (f : State → State) (s : State) (args : List (Option Nat)) : State := if args.isEmpty then f s else conErr s 2

/-- A quiet command. -/
def conQuiet (s : State) (f : State → State) : State :=
  conRead s fun s => if isSafe s then conErr s 8 else if !consService s then conErr s 3 else f s

/-- A bench command, for the chip or for a port in service state. -/
def conBench (s : State) (port : Option Nat) (f : State → State) : State :=
  conQuiet s fun s => if s.gmc.service || port.any s.gmc.svc.contains then f s else conErr s 4

/-- Exactly one number in range. -/
def arg1 (args : List (Option Nat)) (lim : Nat) : Option Nat :=
  match args with
  | [some n] => if n < lim then some n else none
  | _ => none

/-- A command with one number in range, else ERR 0x02. -/
def withArg (s : State) (args : List (Option Nat)) (lim : Nat) (f : Nat → State) : State :=
  match arg1 args lim with
  | some n => f n
  | none => conErr s 2

/-- Gesta reads words of BAR0 for the console. -/
def conWords (s : State) (offs : List Nat) : State := offs.foldl (fun s off => busRead (if mustHold s off then s else softCheck s off) (conCore s) off) s

/-- Every word of an instance of a register. -/
def regWords (r : RegName) (i : Nat) : List Nat := (List.range (regInfo r).words).map fun w => regOff r i + 4 * w

/-- A whole write of a register word with one field changed: plain fields keep their values, the others are written 0. -/
def conField (s : State) (ev : BootEv) (f : Field) (i v : Nat) : State :=
  let keep := ((wordFields f.reg f.word).filter fun g => g != f && (g.acc == .rw || g.acc == .rws)).map fun g => s.rdSw g i * 2 ^ g.lsb
  busWrite ev s (conCore s) (regOff f.reg i + 4 * f.word) (keep.foldl (· + ·) (v * 2 ^ f.lsb)) 15

/-! ## Read commands -/

def commandNames : List String :=
  ["HELP", "STAT", "VER", "FAULT", "PORT", "LANE", "TEMP", "POWER", "REG RD", "LOG", "REG WR", "FAULT CLEAR", "ATEST", "SERVICE",
    "RESET PORT", "RESET PUMP", "RESET POOL", "RESET CORE", "RESET GMC", "SELFTEST"]

def conHelp (s : State) : State := conRead s fun s => conOk (commandNames.foldl sayLine s)

def conStat (s : State) : State := conRead s fun s =>
  let s1 := conWords s ([RegName.GMC_STAT, .GLB_PLACE, .FLT_STAT, .PWR_STAT, .PMP_POOL, .WEL_STAT].map fun r => regOff r 0)
  conOk (s.gmc.ports.foldl (fun s p => sayLine s ("PORT " ++ decStr p ++ " HELD")) s1)

def conVer (s : State) : State := conRead s fun s =>
  let s1 := conWords s ([RegName.GMC_VER, .GMC_SVN, .GMC_MIN_SVN].map fun r => regOff r 0)
  conOk (sayBytes s1 ((infoWords s1).flatMap (leBytes 4)))

def conFault (s : State) : State := conRead s fun s =>
  let srcs := (List.range 1024).filter fun i => s.flag F.FLT_SRC_CFG_PEND i || s.flag F.FLT_CAP_VALID i
  conOk (conWords s (regOff .FLT_GFIRST 0 :: srcs.flatMap (regWords .FLT_CAP)))

def conPort (s : State) (args : List (Option Nat)) : State := conRead s fun s => withArg s args 80 fun p =>
  conOk (conWords s ([2 * p, 2 * p + 1].flatMap fun lp => [regOff .PRT_LSTAT lp, regOff .PRT_LERR lp, regOff .PRT_PEER lp]))

def conLane (s : State) (args : List (Option Nat)) : State := conRead s fun s => withArg s args 640 fun l =>
  conOk (conWords s ([RegName.LNK_STAT, .LNK_FEC_CORR, .LNK_FEC_UNC, .LNK_PRBS_ERR, .LNK_PRBS_BITS].map fun r => regOff r l))

/-- A signed reading as two bytes. -/
def intBytes (x : Int) : List Byte := leBytes 2 (x % 65536).toNat

def conTemp (s : State) : State := conRead s fun s =>
  let s1 := sayBytes (conWords s [regOff .PWR_TEMP 0]) (s.pwr.diodes.flatMap intBytes)
  conOk (sayBytes s1 ((s.pwr.thLast.flatMap fun e => intBytes e.2.1) ++ [if s.pwr.leak then 1 else 0]))

def conPower (s : State) : State := conRead s fun s => conOk (conWords s [regOff .PWR_MEAS 0, regOff .PWR_LEVEL 0])

/-- `REG RD off [n]`. -/
def conRegRd (s : State) (args : List (Option Nat)) : State := conRead s fun s =>
  let go := fun off n =>
    if off % 4 = 0 ∧ 1 ≤ n ∧ off + 4 * n ≤ 0x4000000 then conOk (conWords s ((List.range n).map fun i => off + 4 * i)) else conErr s 2
  match args with
  | [some off] => go off 1
  | [some off, some n] => go off n
  | _ => conErr s 2

/-- `LOG [i]`. -/
def conLog (s : State) (args : List (Option Nat)) : State := conRead s fun s =>
  match args with
  | [] => conOk (s.gmc.log.foldl sayBytes s)
  | [some i] =>
    match s.gmc.log[i]? with
    | some e => conOk (sayBytes s e)
    | none => conErr s 2
  | _ => conErr s 2

/-! ## Quiet commands -/

/-- `REG WR off val`. -/
def conRegWr (s : State) (args : List (Option Nat)) (ev : BootEv) : State := conQuiet s fun s =>
  match args with
  | [some off, some v] =>
    if off % 4 = 0 ∧ off < 0x4000000 ∧ v < 2 ^ 32 then
      if off = regOff .GMC_CTRL 0 ∧ bitAt v 31 = true then conGmcReset s ev off v else conOk (busWrite ev s (conCore s) off v 15)
    else conErr s 2
  | _ => conErr s 2

/-- `FAULT CLEAR s`: PEND and VALID of the source, and FLT_PIN.LATCH. -/
def conFaultClear (s : State) (args : List (Option Nat)) (ev : BootEv) : State := conQuiet s fun s => withArg s args 1024 fun i =>
  let s1 := conField s ev F.FLT_SRC_CFG_PEND i 1
  conOk (conField (conField s1 ev F.FLT_CAP_VALID i 1) ev F.FLT_PIN_LATCH 0 1)

/-- Leave ATEST on a selection. -/
def leaveAtest (s : State) (ev : BootEv) (sel idx : Nat) : State :=
  busWrite ev s (conCore s) (regOff .PWR_ATEST 0) (sel * 65536 + idx) 15

/-- `ATEST sel [idx]`. -/
def conAtest (s : State) (args : List (Option Nat)) (ev : BootEv) : State := conQuiet s fun s =>
  let go := fun sel idx => if sel < 8 ∧ idx < 256 ∧ atestOk sel idx = true then conOk (leaveAtest s ev sel idx) else conErr s 2
  match args with
  | [some sel] => go sel 0
  | [some sel, some idx] => go sel idx
  | _ => conErr s 2

/-! ## Service state (R485) -/

def setEn (s : State) (ev : BootEv) (p v : Nat) : State := conField s ev F.PRT_CTRL_EN p v

/-- `SERVICE PORT p`. -/
def conServicePort (s : State) (args : List (Option Nat)) (ev : BootEv) : State := conQuiet s fun s => withArg s args 80 fun p =>
  let s1 := modGmc (setEn s ev p 0) fun g => { g with
    ports := g.ports.filter (· != p) ++ [p], svc := g.svc.filter (· != p) ++ [p] }
  conOk (sayLine s1 ("PORT " ++ decStr p ++ " HELD"))

/-- `SERVICE ON`. -/
def conServiceOn (s : State) : State := conQuiet s fun s =>
  if (List.range 160).any s.linkUp then conErr s 4 else conOk (modGmc s fun g => { g with service := true })

/-- `SERVICE ON FORCE`. -/
def conServiceForce (s : State) (ev : BootEv) : State := conQuiet s fun s =>
  let s1 := (List.range 80).foldl (fun s p => setEn s ev p 0) s
  conOk (modGmc s1 fun g => { g with service := true, ports := List.range 80, svc := List.range 80 })

/-- A port that 01 R23 or R32 holds off: a rack's or a spine's that its rows and columns leave unused. -/
def heldOff (s : State) (p : Nat) : Bool := (eidKind s.selfEid == 2 || eidKind s.selfEid == 3) && s.portMode p == 0

/-- `SERVICE OFF`: held ports get EN 1, but those that the place holds off. -/
def conServiceOff (s : State) (ev : BootEv) : State := conQuiet s fun s =>
  let s1 := s.gmc.ports.foldl (fun s p => if heldOff s p then s else setEn s ev p 1) s
  conOk (modGmc s1 fun g => { g with service := false, ports := [], svc := [] })

/-! ## Resets -/

def conReset (s : State) (ev : BootEv) (off val : Nat) : State := conOk (busWrite ev s (conCore s) off val 15)

def conResetPort (s : State) (args : List (Option Nat)) (ev : BootEv) : State :=
  match arg1 args 80 with
  | some p => conBench s (some p) fun s => conReset s ev (regOff .GLB_RST 0) (2 ^ 28 + p)
  | none => conQuiet s fun s => conErr s 2

def conResetPump (s : State) (ev : BootEv) : State := conBench s none fun s => conReset s ev (regOff .GLB_RST 0) (2 ^ 30)
def conResetPool (s : State) (ev : BootEv) : State := conBench s none fun s => conReset s ev (regOff .GLB_RST 0) (2 ^ 29)
def conResetCore (s : State) (ev : BootEv) : State := conBench s none fun s => conReset s ev (regOff .GLB_RST 0) (2 ^ 31)

def conResetGmc (s : State) (ev : BootEv) : State := conBench s none fun s => conGmcReset s ev (regOff .GMC_CTRL 0) (2 ^ 31)

/-! ## Self-tests (R486, R488) -/

def verdictText (v : Nat) : String := if v = 0 then "PASS" else if v = 1 then "MARGINAL" else "FAIL"

def textBytes (t : String) : List Byte := t.toList.map fun c => BitVec.ofNat 8 c.toNat

/-- One result line per unit with its detail, then the summary line, which also goes to the event log (R486). The verdicts are 0 PASS,
1 MARGINAL, 2 FAIL for each unit's name, and the summary has the worst of them, so that the log flags a MARGINAL (R488). -/
def testReport (s : State) (name unit : String) (verdicts : List (String × Nat × String)) : State :=
  let s1 := verdicts.foldl (fun s v => sayLine s ("TEST " ++ name ++ " " ++ v.1 ++ " " ++ verdictText v.2.1 ++ v.2.2)) s
  let ok := (verdicts.filter fun v => v.2.1 != 2).length
  let worst := (verdicts.map (·.2.1)).foldl max 0
  let sum := "TEST " ++ name ++ " " ++ unit ++ " " ++ verdictText worst ++ " " ++ decStr ok ++ "/" ++ decStr verdicts.length
  conOk (modGmc (sayLine s1 sum) fun g => { g with log := g.log ++ [textBytes sum] })

/-- The report of a test whose lines the manual gives no detail for (log 81). -/
def testResult (s : State) (name unit : String) (verdicts : List (String × Nat)) : State :=
  testReport s name unit (verdicts.map fun v => (v.1, v.2, ""))

def failIf (bad : List Nat) (n : Nat) : Nat := if bad.contains n then 2 else 0

/-- A test that another master's write or a switch-over stopped ends with ERR 0x07; what it changed is put back (R486). -/
def cutOr (s : State) (cut : Bool) (f : State → State) : State := if cut then conErr s 7 else f s

/-- `SELFTEST RAILS`: `bad` the rails outside their window. -/
def testRails (s : State) (cut : Bool) (bad : List Nat) (ev : BootEv) : State := conQuiet s fun s => cutOr s cut fun s =>
  testResult (leaveAtest s ev 3 10) "RAILS" "ALL" ((List.range 11).map fun r => (decStr r, failIf bad r))

/-- `SELFTEST SENSORS`: PWR_SENS_FAIL 0 and the loop in band; `bad` whether ATEST disagrees. -/
def testSensors (s : State) (cut bad : Bool) (ev : BootEv) : State := conQuiet s fun s => cutOr s cut fun s =>
  testResult (leaveAtest s ev 2 0x1F) "SENSORS" "ALL"
    (((List.range 23).map fun k => (decStr k, if sensorFailed s k then 2 else 0)) ++ [("LEAK", if s.pwr.leak then 2 else 0), ("ATEST", if bad then 2 else 0)])

/-- The bits of a lane test: 233 × 2^32. -/
def laneBits : Nat := 1000727379968

/-- The verdict of a lane in a loop (R488). -/
def laneVerdict (loop errs : Nat) : Nat :=
  if loop = 2 then (if errs = 0 then 0 else 2)
  else
    let k := if loop = 1 then 10 ^ 8 else 10 ^ 6
    if errs * k > laneBits then 2 else if errs * k * 10 > laneBits then 1 else 0

/-- The bit error ratio of a lane test as the console prints it: two digits and a power of ten. -/
def berText (errs : Nat) : String :=
  if errs = 0 then "<1.0E-12"
  else
    let tenths := fun k => (errs * 10 ^ (k + 1) * 2 + laneBits) / (2 * laneBits)
    let k := ((List.range 13).find? fun k => decide (10 ≤ tenths k)).getD 12
    decStr (tenths k / 10) ++ "." ++ decStr (tenths k % 10) ++ "E-" ++ (if k < 10 then "0" else "") ++ decStr k

/-- The detail of a lane's result line. -/
def laneDetail (errs : Nat) : String := " BITS 1.0007E12 ERR " ++ decStr errs ++ " BER " ++ berText errs

/-- The lanes of a physical port. -/
def portLanes (p : Nat) : List Nat := (List.range 8).map (8 * p + ·)

/-- `SELFTEST LANES p LOOP k`: `errs` the errors of each lane. The loop and the PRBS pattern are set for the test and put back. -/
def testLanes (s : State) (args : List (Option Nat)) (cut : Bool) (errs : List Nat) (ev : BootEv) : State :=
  match args with
  | [some p, some k] =>
    if p ≥ 80 ∨ k = 0 ∨ k > 3 then conQuiet s fun s => conErr s 2
    else conBench s (some p) fun s =>
      if s.portMode p = 0 then conErr s 9
      else cutOr s cut fun s =>
        let s1 := conField (conField s ev F.PRT_CTRL_LOOP p k) ev F.PRT_CTRL_EN p 1
        let s2 := (portLanes p).foldl (fun s l => busWrite ev s (conCore s) (regOff .LNK_PRBS l) (3 * 2 ^ 30) 15) s1
        let s3 := (portLanes p).foldl (fun s l => busWrite ev s (conCore s) (regOff .LNK_PRBS l) 0 15) s2
        let s4 := ((portLanes p).zipIdx).foldl (fun s e =>
          (s.wr F.LNK_PRBS_ERR_COUNT e.1 (min (2 ^ 32 - 1) (errs.getD e.2 0))) |> fun s => modLane s e.1 fun x => { x with prbsNs := (233 * 10 * 2 ^ 32 + 2124) / 2125, prbsAt := none }) s3
        let s5 := conField (conField s4 ev F.PRT_CTRL_LOOP p 0) ev F.PRT_CTRL_EN p (s.rdSw F.PRT_CTRL_EN p)
        testReport s5 "LANES" ("P" ++ decStr p ++ " LOOP" ++ decStr k)
          (((portLanes p).zipIdx).map fun e => ("L" ++ decStr e.1, laneVerdict k (errs.getD e.2 0), laneDetail (errs.getD e.2 0)))
  | _ => conQuiet s fun s => conErr s 2

/-- The points of a port test's eye scans, as words of LNK_ESCAN without GO: three eyes, PHASE ±6, VOFF ±10, LOG2N 30. -/
def scanPoints : List Nat :=
  [0, 1, 2].flatMap fun eye => [6, 58].flatMap fun ph => [10, 118].map fun vo => eye * 2 ^ 28 + ph * 2 ^ 22 + vo * 2 ^ 15 + 30

/-- The eye scans of a lane; the last count is 0, or free on a bad lane. -/
def scanLane (s : State) (ev : BootEv) (l : Nat) (isBad : Bool) : State :=
  let s1 := scanPoints.foldl (fun s v => busWrite ev s (conCore s) (regOff .LNK_ESCAN l) v 15) s
  (s1.wr F.LNK_ESCAN_ERR_ERR l (if isBad then Config.freeNat s1.freeCtr % 2 ^ 32 else 0)).tick

/-- `SELFTEST PORT p`: `up` the bring-up completes at full width both ways, `bad` the lanes that are BAD or disagree at a point of the
eye scans. EN is set for the test and put back, with the bring-up of the links that follows from it. -/
def testPort (s : State) (args : List (Option Nat)) (cut up : Bool) (bad : List Nat) (ev : BootEv) : State :=
  match arg1 args 80 with
  | none => conQuiet s fun s => conErr s 2
  | some p => conBench s (some p) fun s =>
    if s.portMode p = 0 then conErr s 9
    else cutOr s cut fun s =>
      let s1 := (portLanes p).foldl (fun s l => scanLane s ev l (bad.contains l)) (setEn s ev p 1)
      testResult (setEn s1 ev p (s.rdSw F.PRT_CTRL_EN p)) "PORT" ("P" ++ decStr p)
        (("P" ++ decStr p, if up then 0 else 2) :: (portLanes p).map fun l => ("L" ++ decStr l, failIf bad l))

/-- What a pump prints as its result of ROM vector 7: the sum's value; another value where it failed there, and a free one of a
RETIRED pump, which is not tested. -/
def vectorWord (s : State) (n : Nat) (wrong : Bool) : Nat :=
  let x := Config.freeNat (s.freeCtr + n) % 2 ^ 32
  if pumpState s n = 3 then x
  else if wrong = false then 0x40600000
  else if x = 0x40600000 then x + 1 else x

/-- `SELFTEST PUMPS`: `fails` the pumps whose self-test fails, with NFAIL; `vec` those that print another result of vector 7 than
0x4060_0000 (R490). A pump that sweeps is tested after its sweep, which the model does not tell from a test before its end
(log 81). -/
def testPumps (s : State) (cut : Bool) (fails : List (Nat × Nat)) (vec : List Nat) (ev : BootEv) : State := conQuiet s fun s =>
  let units := (List.range 168).filter fun n => pumpState s n ≠ 3
  cutOr s cut fun s =>
    let go := units.foldl (fun s n =>
      let s1 := pumpTestEnd (pumpTestGo s n) n (mgetD fails n 0)
      if vec.contains n ∧ pumpState s1 n ≤ 1 then retirePump s1 n 4 else s1) s
    let s1 := leaveAtest go ev 4 0xFF
    let s2 := (List.range 168).foldl (fun t n =>
      sayBytes t (leBytes 1 n ++ leBytes 1 (pumpState t n) ++ leBytes 2 (t.rd F.PMP_TEST_NFAIL n)
        ++ leBytes 4 (vectorWord s n (vec.contains n)))) s1
    let s3 := sayBytes { s2 with freeCtr := s2.freeCtr + 168 } (leBytes 1 (s2.rd0 F.PMP_POOL_ACTIVE) ++ leBytes 1 (s2.rd0 F.PMP_POOL_SPARES))
    testResult s3 "PUMPS" "ALL" (units.map fun n => ("PU" ++ decStr n, if mgetD fails n 0 ≠ 0 ∨ vec.contains n = true then 2 else 0))

/-- `SELFTEST CISTERNS`: `bad` the pumps with a line that fails a pattern of 07 R213. In the chip's service state every line is written,
so the chunks that stand in lines are given up (log 82). -/
def testCisterns (s : State) (cut : Bool) (bad : List Nat) : State := conQuiet s fun s => cutOr s cut fun s =>
  let units := (List.range 168).filter fun n => pumpState s n ≠ 3
  let held := if s.gmc.service then (allChunks s).filter fun e => e.2.lines != 0 else []
  let s1 := units.foldl (fun s n => linePattern s n (bad.contains n)) (held.foldl (fun s e => giveUpChunk s e.1 e.2) s)
  testResult s1 "CISTERNS" "ALL" (units.map fun n => ("PU" ++ decStr n, failIf bad n))

/-- Counters of region W that a test's own requests raise by numbers that the manual does not give (log 82). -/
def freeCounts (s : State) (slots : List Nat) : State :=
  slots.foldl (fun s k => (s.cntW k (Config.freeNat s.freeCtr)).tick) s

/-- A device under test ends zero-filled with valid ECC (R488). -/
def zeroDev (s : State) (d : Nat) : State := { s with mem := s.mem.filter fun e => devOf s e.1 != d }

/-- A march on a memory device: `corr` and `unc` errors found, at lines that the row does not name (09 R251, log 82). -/
def march (s : State) (name : String) (d corr unc : Nat) : State :=
  let s1 := ((s.bump F.WEL_DEV_CORR d corr).reportMany 7 1 (Config.freeNat s.freeCtr) corr).tick
  let s2 := (List.range unc).foldl (fun s _ => uncorrectable s d) s1
  let v := if unc = 0 ∧ corr = 0 then 0 else if unc = 0 ∧ corr ≤ 16 then 1 else 2
  let u := decStr (if d < 4 then d else d - 4)
  testResult (zeroDev s2 d) name u [(u, v)]

/-- `SELFTEST HBM s`. -/
def testHbm (s : State) (args : List (Option Nat)) (cut : Bool) (corr unc : Nat) : State := conBench s none fun s =>
  withArg s args 4 fun d => if devOut s d then conErr s 9 else cutOr s cut fun s => march s "HBM" d corr unc

/-- `SELFTEST DIMM d`. -/
def testDimm (s : State) (args : List (Option Nat)) (cut : Bool) (corr unc : Nat) : State := conBench s none fun s =>
  withArg s args 16 fun d =>
    if devOut s (4 + d) || !devThere s (4 + d) then conErr s 9 else cutOr s cut fun s => march s "DIMM" (4 + d) corr unc

/-- `SELFTEST WELL`: every device in service; `bad` those with a wrong response. -/
def testWell (s : State) (cut : Bool) (bad : List Nat) : State := conBench s none fun s => cutOr s cut fun s =>
  let units := (List.range 20).filter fun d => devThere s d && !devOut s d
  let s1 := freeCounts (units.foldl zeroDev s) ((if units.any (· < 4) then [0, 1, 2, 3, 4] else []) ++ (if units.any (· ≥ 4) then [8, 9, 10, 11, 12] else []))
  testResult s1 "WELL" "ALL" (units.map fun d => (decStr d, failIf bad d))

/-- `SELFTEST SYNC`: objects are left at type 0 without waiters; their values are free. -/
def testSync (s : State) (cut : Bool) (bad : List Nat) : State := conBench s none fun s => cutOr s cut fun s =>
  let s1 := (List.range 8192).foldl (fun s n =>
    let s2 := (resetWaiters s n).wr F.WEL_SO_TYPE n 0
    (setV s2 n (Config.freeNat s.freeCtr % 2 ^ 64)).tick) s
  testResult (freeCounts s1 [16, 17, 18, 19]) "SYNC" "ALL" [("ALL", if bad.isEmpty then 0 else 2)]

/-- The 64 GiB at the top of the far tier are left zero-filled. -/
def zeroTop (s : State) : State :=
  let hi := farBase + farSize s
  { s with mem := s.mem.filter fun e => !(decide (hi ≤ e.1 + 2 ^ 36) && decide (e.1 < hi)) }

/-- A test room after its FULL and its DELTA generation, taken to be room `r` (log 82): what the lengths were is free. -/
def testedRoom (s : State) (r : Nat) : State :=
  let x := fun k => Config.freeNat (s.freeCtr + k) % 2 ^ 32
  let s1 := (((s.wr F.RMS_ROOM_CMT_GEN r 2).wr F.RMS_ROOM_BASE_GEN r 1).wr F.RMS_ROOM_SNAP_LEN r (x 0)).wr F.RMS_ROOM_JCMT r (x 1)
  { s1.wr F.RMS_ROOM_BSLOT r (x 2 % 2) with freeCtr := s.freeCtr + 3 }

/-- `SELFTEST ROOMS`: not on a spine, nor where the area does not fit or rooms are in use; it takes the semaphore for its commits and
restores RMS_CFG. How many commits it makes is not stated: the count they add is free. -/
def testRooms (s : State) (cut : Bool) (bad : List Nat) : State := conBench s none fun s =>
  if s.isSpine || decide (farSize s < 2 ^ 36) || (List.range 128).any (roomOn s) then conErr s 9
  else if semHolder s ≠ 0 ∧ semHolder s ≠ 3 then conErr s 5
  else cutOr s cut fun s =>
    let made := ((List.range 4).filter fun r => !bad.contains r).foldl (fun s r => (testedRoom s r).cntW 26 2) (zeroTop s)
    let s1 := semFree (freeCounts made [24, 25])
    let n := s1.rd0 F.GLB_CMT_STAT_TAKEN + Config.freeNat s1.freeCtr
    testResult ((s1.wr0 F.GLB_CMT_STAT_TAKEN (n % 65536)).tick) "ROOMS" "ALL" ((List.range 4).map fun r => (decStr r, failIf bad r))

/-- The group of the example of file 06: GRP_ENT[0x010], GRP_SHAPE, CREATE_SHAPE. -/
def declareTestGroup (s : State) (ev : BootEv) : State :=
  let w := fun (s : State) off v => busWrite ev s (conCore s) off v 15
  let s1 := ([0x2020FFFF, 0x00010100, 0, 0x07D04400, 0x40, 0, 0x80].zipIdx).foldl (fun s e =>
    w s (regOff .GRP_ENT 0x010 + 4 * e.2) e.1) s
  w (w s1 (regOff .GRP_SHAPE 0) 0x10208040) (regOff .GRP_CMD 0) 0x20000010

/-- `SELFTEST GROUP`: `ok` whether the abort path works. The group is taken down again (log 82). -/
def testGroup (s : State) (cut ok : Bool) (ev : BootEv) : State := conQuiet s fun s =>
  if s.rd F.GRP_ENT_STATE 0x010 ≠ 0 then conErr s 9
  else cutOr s cut fun s =>
    let s1 := declareTestGroup s ev
    let made := s1.rd F.GRP_ENT_STATE 0x010 = 2
    let s2 := if made ∧ ok = true then
        ((s1.wr0 F.GRP_ABORT_LAST_CODE 2).wr0 F.GRP_ABORT_LAST_GID 0x010).wr0 F.GRP_ABORT_SEQ_SEQ 0 else s1
    let s3 := if made then settleGroups (groupDestroy s2 0x010) else resetFields s2 .GRP_ENT 0x010
    testResult s3 "GROUP" "ALL" [("0x010", if made ∧ ok = true then 0 else 2)]

/-- A line that names no command: ERR 0x01, or 0x02 where its first word is that of a command and the rest fits none. A line without
words is none. -/
def conUnknown (s : State) (chars : List Byte) : State := conRead s fun s =>
  match spelled chars with
  | some (w :: ws) =>
    if (conParse (w :: ws)).isSome then s
    else conErr (sayBytes s chars) (if conTable.any fun e => e.1.head?.map letters == some w then 2 else 1)
  | some [] => sayBytes s chars
  | none => s

end Sys2Proof.Machine
end

