-- ==== Sys2Proof/Machine/HostOps.lean ====
section
/-! DEFINITION. The operations of host descriptors (12 R345 to R353), failed reads of host memory (R331), packets for the
host and its receive buffers (R353, R354), doorbells that a row stands for. -/

namespace Sys2Proof.Machine

open Sys2Proof

/-! ## Descriptor words (R338, R345) -/

/-- The bits of each word that a kind uses; every other bit is reserved. -/
def kindMasks : Nat → List Nat
  | 2 => [0xF800FFFF, 0x3FFFFFC, 0xFFFFFFFF, 0, 0, 0, 0, 0, 0xFFFFFFFC, 0xFFFFFFFF, 0, 0, 0xFFFFFFFF]
  | 3 => [0xF800FFFF, 0x3FFFFFC, 0xFFFFFFFF, 0, 0, 0, 0, 0, 0xFFFFFFFC, 0xFFFFFFFF, 0, 0, 0xFFFFFFFF]
  | 4 => [0xF800FFFF, 3, 0xFFFFFFFF, 0, 0xFFFFFFFF, 0xFFFF, 0xFFFFFFFF, 0xFFFF, 0xFFFFFFFF, 0xFFFFFFFF, 0, 0, 0xFFFFFFFF]
  | 5 => [0xF800FFFF, 1, 0xFFFF, 0, 0xFFFFFFFF, 0xFFFF, 0xFFFFFFFF, 0xFFFF, 0, 0, 0, 0, 0xFFFFFFFF]
  | 6 => [0xF800FFFF, 0xB07F0000, 0xFFFFFFFF, 0xFFFFFFFF, 0, 0, 0, 0, 0xFFFFFFFF, 0xFFFFFFFF, 0, 0, 0xFFFFFFFF]
  | 7 => [0xF800FFFF, 0x17F, 0xFFFFFFFF, 0, 0, 0, 0, 0, 0xFFFFFFFF, 0xFFFFFFFF, 0, 0, 0xFFFFFFFF]
  | 8 => [0xF800FFFF, 0xB80FFFFF, 0xFFFF1FFF, 0xFFFFFFFF, 0xFFFFFFFF, 0xFFFFFFFF, 0xFFFFFF, 0, 0xFFFFFFFF, 0xFFFFFFFF, 0, 0,
          0xFFFFFFFF]
  | 9 => [0xF800FFFF, 0, 0, 0, 0, 0, 0, 0, 0xFFFFFFC0, 0xFFFFFFFF, 0, 0, 0xFFFFFFFF]
  | 15 => [0xF800FFFF, 0, 0, 0, 0, 0, 0, 0, 0, 0, 0, 0, 0xFFFFFFFF]
  | _ => []

/-- A word of a descriptor holds a bit that its kind does not use. -/
def wordsReserved (kind : Nat) (d : List Word) : Bool :=
  (List.range 16).any fun i => Nat.land (dW d i) ((kindMasks kind).getD i 0) != dW d i

/-- Start an operation; one with a reserved encoding ends with 0x80. -/
def hostOp (s : State) (n kind : Nat) (f : State → List Word → State) : State :=
  startOp s n kind fun s d => if wordsReserved kind d then hostDone s n 0x80 0 0 0 else f s d

def hostAddr (d : List Word) : Nat := dW d 9 * 2 ^ 32 + dW d 8
def poolAddr (d : List Word) (i : Nat) : Nat := dW d (i + 1) * 2 ^ 32 + dW d i

/-! ## GROUP_OP (R346) -/

/-- The carrier's reserved bits are the descriptor's (R338); the rest is the station's to judge. -/
def opGroup (s : State) (n : Nat) : State :=
  startOp s n 1 fun s d => if bits (dW d 0) 16 11 ≠ 0 then hostDone s n 0x80 0 0 0 else settleGroups (groupOp s n d)

/-! ## REG_WRITE, REG_READ (R347) -/

/-- A descriptor whose words would meet a block under a core warm reset waits with it (15 R427). -/
def regHeld (s : State) (d : List Word) : Bool :=
  inCoreReset s && (List.range (dW d 2)).any fun i => coreBlock (dW d 1 + 4 * i)

/-- Write words one by one up to the first access fault: how many were written, and where it failed. -/
def regWrites (ev : BootEv) (off : Nat) : Nat → List Word → State → (Nat × Option Nat) × State
  | i, [], s => ((i, none), s)
  | i, w :: ws, s =>
    let s1 := writeNow ev { s with lastFault := none } .host (off + 4 * i) w.toNat 15
    if s1.lastFault.isSome then ((i, some (off + 4 * i)), s1) else regWrites ev off (i + 1) ws s1

def regRange (d : List Word) : Bool := decide (dW d 1 + 4 * dW d 2 ≤ 0x4000000) && decide (dW d 2 ≤ 1048576)

/-- REG_WRITE with the words that host memory gave. -/
def opRegWrite (s : State) (n : Nat) (ws : List Word) (ev : BootEv) : State :=
  if (mget s.host.ops n).any fun o => regHeld s o.words then s
  else hostOp s n 2 fun s d =>
    if !regRange d then hostDone s n 0x80 0 0 0
    else
      let data := (List.range (dW d 2)).map fun i => ws.getD i 0
      let ((k, bad), s1) := regWrites ev (dW d 1) 0 data s
      match bad with
      | some off => hostDone s1 n 0x84 0 k off
      | none => hostDone s1 n 0 0 k 0

/-- Read words one by one. -/
def regReads : Nat → Nat → State → List Nat × State
  | 0, _, s => ([], s)
  | k + 1, off, s =>
    let (v, s1) := readNow (countReg (softCheck s off) .host false off) .host off
    let (vs, s2) := regReads k (off + 4) s1
    (v :: vs, s2)

/-- REG_READ. -/
def opRegRead (s : State) (n : Nat) : State :=
  if (mget s.host.ops n).any fun o => regHeld s o.words then s
  else hostOp s n 3 fun s d =>
    if !regRange d then hostDone s n 0x80 0 0 0
    else
      let (vs, s1) := regReads (dW d 2) (dW d 1) s
      let s2 := if vs.isEmpty then s1 else s1.emit (.hostWrite (hostAddr d) (vs.flatMap (leBytes 4)))
      hostDone s2 n 0 0 (dW d 2) 0

/-! ## DMA (R348, 09 R264) -/

/-- A line must wait: a request admitted earlier has not executed, or a migration holds it (09 R250, R259). -/
def lineWaits (s : State) (p n : Nat) (writes : Bool) : Bool :=
  n != 0 && (heldByMig s writes p n
    || s.well.queue.any fun r => r.size != 0 && decide (r.addr / 64 ≤ (p + n - 1) / 64) && decide (p / 64 ≤ (r.addr + r.size - 1) / 64))

/-- One line request of the DMA engine: counted, and refused with the first check of R246 that fails. -/
def dmaAdmit (s : State) (p : Nat) (isWrite : Bool) : Nat × State :=
  let s1 := countHot (countAccess (cntTier s p (b2n isWrite)) 0 0 6 p 64) p
  let c := placeCode s p 64 fun _ => isWrite
  (c, if c = 0 then s1 else cntTier s1 p 5)

/-- Read one line. -/
def dmaRead (s : State) (evs : List LineEv) (p : Nat) : (Nat × List Byte) × State :=
  let (c, s1) := dmaAdmit s p false
  if c ≠ 0 then ((c, []), s1)
  else
    let ((c2, d), s2) := readLine s1 evs p
    ((c2, d), if c2 = 0 then cntTier s2 p 3 64 else cntTier s2 p 5)

/-- Write one line; `bad` says that its data failed the parity check on entry. -/
def dmaWrite (s : State) (p : Nat) (d : List Byte) (bad : Bool) : Nat × State :=
  let (c, s1) := dmaAdmit s p true
  if c ≠ 0 then (c, s1)
  else if bad then (8, cntTier (s1.report 7 6 p) p 5)
  else (0, cntTier (writeLine s1 p d) p 4 64)

/-- How far a DMA got: lines moved, the code and address of the line that failed, the bytes for host memory in reverse
line order. -/
structure DmaOut where
  lines : Nat
  code : Nat
  addr : Nat
  out : List (List Byte)

/-- Move lines in rising order. -/
def dmaLines (dir src dst : Nat) (evs : List LineEv) (bad : Option Nat) : Nat → List Byte → DmaOut → State → DmaOut × State
  | 0, _, r, s => (r, s)
  | k + 1, data, r, s =>
    let i := r.lines
    let p := src + 64 * i
    let q := dst + 64 * i
    if dir = 0 then
      let (c, s1) := dmaWrite s p (data.take 64 ++ List.replicate (64 - min 64 data.length) 0) (bad == some i)
      if c ≠ 0 then ({ r with code := c, addr := p }, s1)
      else dmaLines dir src dst evs bad k (data.drop 64) { r with lines := i + 1 } s1
    else
      let ((c, d), s1) := dmaRead s evs p
      if c ≠ 0 then ({ r with code := c, addr := p }, s1)
      else if dir = 1 then dmaLines dir src dst evs bad k data { r with lines := i + 1, out := d :: r.out } s1
      else
        let (c2, s2) := dmaWrite s1 q d (bad == some i)
        if c2 ≠ 0 then ({ r with code := c2, addr := q }, s2)
        else dmaLines dir src dst evs bad k data { r with lines := i + 1 } s2

/-- The code that refuses a DMA whole, with its address (R348); 0 when it may run. -/
def dmaCode (s : State) (dir src dst len : Nat) : Nat × Nat :=
  if dir = 2 ∧ src < dst + len ∧ dst < src + len then (0x0C, dst)
  else if src % 64 ≠ 0 then (2, src)
  else if dir = 2 ∧ dst % 64 ≠ 0 then (2, dst)
  else if len % 64 ≠ 0 then (2, src)
  else if inRoomArea s src len then (4, max src (roomAreaLo s))
  else if dir = 2 ∧ inRoomArea s dst len = true then (4, max dst (roomAreaLo s))
  else (0, 0)

/-- DMA; `data` is what host memory gave, `bad` the first line whose data failed its parity check on entry. -/
def opDma (s : State) (n : Nat) (data : List Byte) (evs : List LineEv) (bad : Option Nat) : State :=
  match mget s.host.ops n with
  | none => s
  | some o =>
    let d := o.words
    let dir := dW d 1 % 4
    let len := dW d 2
    let src := poolAddr d 4
    let dst := poolAddr d 6
    let unused := (dir != 2 && (dW d 6 != 0 || dW d 7 != 0)) || (dir == 2 && (dW d 8 != 0 || dW d 9 != 0))
    if lineWaits s src len (dir == 0) || (dir == 2 && lineWaits s dst len true) then s
    else hostOp s n 4 fun s _ =>
      if dir = 3 ∨ unused = true then hostDone s n 0x80 0 0 0
      else if len = 0 then hostDone s n 0 0 0 0
      else if s.well.poolUntil.isSome then hostDone s n 0x0D 0 0 src
      else
        let (c, a) := dmaCode s dir src dst len
        if c ≠ 0 then hostDone s n c 0 0 a
        else
          let (r, s1) := dmaLines dir src dst evs bad (len / 64) data ⟨0, 0, 0, []⟩ s
          let s2 := if dir = 1 ∧ r.lines ≠ 0 then s1.emit (.hostWrite (hostAddr d) (r.out.reverse.flatMap id)) else s1
          hostDone s2 n r.code 0 (64 * r.lines) r.addr

/-! ## MIGRATE, ROOM_EXPORT, TEL_DUMP (R349 to R351) -/

def opMigrate (s : State) (n : Nat) : State :=
  hostOp s n 5 fun s d =>
    if s.well.poolUntil.isSome then hostDone s n 0x0D 0 0 0
    else migQueue s ⟨n, poolAddr d 4, poolAddr d 6, dW d 1 % 2 == 1, dW d 2, 0⟩

/-- What ROOM_EXPORT may read: base, size of the area, committed limit (R350). -/
def exportArea (s : State) (r copy area : Nat) : Nat × Nat × Nat :=
  let (base, size) := areaOf s r copy (if area = 0 then s.rd F.RMS_ROOM_BSLOT r else 2)
  let lim := if !roomOn s r then stripeBytes s
    else 64 * (if area = 0 then s.rd F.RMS_ROOM_SNAP_LEN r else s.rd F.RMS_ROOM_JCMT r)
  (base, size, lim)

/-- ROOM_EXPORT. Lines that were read before a failure are written to host memory. -/
def opRoomExport (s : State) (n : Nat) (evs : List LineEv) : State :=
  match mget s.host.ops n with
  | none => s
  | some o =>
    let d := o.words
    let r := bits (dW d 1) 16 7
    let area := bits (dW d 1) 28 2
    let size := dW d 2
    let off := dW d 3 * 64
    let (base, lim, cmt) := exportArea s r (bits (dW d 1) 31 1) area
    if lineWaits s (base + off) size false then s
    else hostOp s n 6 fun s _ =>
      if s.well.poolUntil.isSome then hostDone s n 0x0D 0 0 0
      else if area ≥ 2 then hostDone s n 0x0C 0 0 0
      else if size = 0 then hostDone s n 0 0 0 0
      else if size % 64 ≠ 0 ∨ off + size > lim then hostDone s n 0x14 0 0 (base + off)
      else if off + size > cmt then hostDone s n 0x15 0 0 (base + off)
      else
        let s1 := countPages (countAccess s 0 0 4 (base + off) size) (base + off) size
        let ((c, p, bytes), s2) := readLines evs (linesOf (base + off) size) s1
        let k := if c = 0 then size else p - (base + off)
        let s3 := if k = 0 then s2 else (s2.cntW 25 k).emit (.hostWrite (hostAddr d) (bytes.take k))
        hostDone (if c = 0 then s3 else s3.report 8 4 r) n c 0 k (if c = 0 then 0 else p)

/-- TEL_DUMP. -/
def opTelDump (s : State) (n : Nat) (fail : Option Nat) : State :=
  hostOp s n 7 fun s d =>
    dumpAsk s ⟨dW d 1 % 128, bitAt (dW d 1) 8, some n, hostAddr d, dW d 2, 0, none, false⟩ fail

/-! ## FABRIC_SEND (R352) -/

/-- A send whose cells stage one has all admitted, or that was discarded, is done. -/
def settleSends (s : State) : State :=
  (s.host.ops.filter fun e => opKind e.2 == 8 && e.2.stage == 1 && e.2.addr != 0
    && !s.sw.wait.any fun c => c.pid + 1 == e.2.addr).foldl (fun s e => hostDone s e.1 0 0 0 0) s

/-- FABRIC_SEND with the payload that host memory gave. The operation keeps its packet's number, plus one, until its last cell is
admitted. -/
def opFabricSend (s : State) (n : Nat) (payload : List Byte) : State :=
  hostOp s n 8 fun s d =>
    let vc := bits (dW d 1) 27 3
    let len := dW d 2 % 2 ^ 13
    let dst := dW d 1 % 2 ^ 20
    if !s.hostEpOn then hostDone s n 0x85 0 0 0
    else if (vc ≠ 3 ∧ vc ≠ 7) ∨ len > 4096 ∨ eidKind dst > 1 then hostDone s n 0x80 0 0 0
    else
      let h0 := mkHdr 0x50 dst vc s.hostEid len 0 (dW d 6) (dW d 3) (dW d 4) (dW d 5)
      let h : Header := { h0 with w1 := wput h0.w1 27 1 (bits (dW d 1) 31 1), w2 := wput h0.w2 16 16 (bits (dW d 2) 16 16) }
      let data := payload.take len ++ List.replicate (len - payload.length) 0
      let pid := s.sw.nextPid
      let s1 := (mkCells h data).foldl (fun s c => receiveCell s 160 c) s
      settleSends (modOp1 s1 n fun o => { o with addr := pid + 1 })

/-! ## RECV_POST, NOP (R353, R338) -/

def opRecvPost (s : State) (n : Nat) : State :=
  hostOp s n 9 fun s _ =>
    if !s.hostEpOn then hostDone s n 0x85 0 0 0
    else if s.host.recv.length ≥ 4096 then hostDone s n 0x86 0 0 0
    else { s with host := { s.host with recv := s.host.recv ++ [n] } }

def opNop (s : State) (n : Nat) : State := hostOp s n 15 fun s _ => hostDone s n 0 0 0 0

/-! ## Failed reads of host memory (R331) -/

/-- A read of host memory fails: the fetch of the ring whose turn it is, or the data of an operation that reads any, at a host
address. Nothing had been moved by then (log 41). A GROUP_OP goes on without its data (R346). -/
def hostReadFail (s : State) (op : Option Nat) (addr cause : Nat) : State :=
  match op with
  | none => fetchFail s cause
  | some n =>
    match mget s.host.ops n with
    | none => s
    | some o =>
      let k := opKind o
      if k = 1 ∧ o.stage = 1 then readFault s cause addr
      else if (k = 2 ∨ k = 8 ∨ (k = 4 ∧ dW o.words 1 % 4 = 0)) ∧ wordsReserved k o.words = false then
        startOp s n k fun s _ => hostDone (readFault s cause addr) n 0x82 0 0 0
      else s

/-! ## Packets for the host (R353, R354) -/

/-- Where block `j` of a buffer of `nb` blocks stands: its scale byte and its elements (07 R192). -/
def mxPlace (f nb j : Nat) : Nat × Nat :=
  let tile := j / 32
  let n := min 32 (nb - 32 * tile)
  let base := tile * 32 * (1 + 4 * fmtBits f)
  (base + j % 32, base + n + j % 32 * (4 * fmtBits f))

/-- Data of a host member's output as runs of bytes by their place in the buffer: MX blocks fall into the buffer's own tiles
(07 R192). `first` is the first element, `total` how many the buffer holds. -/
def hostRuns (f first total : Nat) (data : List Byte) : List (Nat × List Byte) :=
  if fmtMx f then
    let nb := elemsIn f data.length / 32
    (List.range nb).flatMap fun j =>
      let a := mxPlace f nb j
      let b := mxPlace f (total / 32) (first / 32 + j)
      [(b.1, (data.drop a.1).take 1), (b.2, (data.drop a.2).take (4 * fmtBits f))]
  else [(fmtBytes f first, data)]

/-- Where in host memory a RESULT of the own station goes: its runs in the host member's output, none once the operation is
over. The place of a slice or a count record of DISPATCH and COMBINE is free (log 121). -/
def resultRuns (s : State) (tag : Option ResTag) (data : List Byte) : List (Nat × List Byte) :=
  (tag.bind fun r => ((mget s.grps r.gid).bind (·.op)).bind fun o =>
    if o.seq ≠ r.seq then none
    else ((o.chunks.find? (·.idx == r.chunk)).bind fun c => c.out[r.k]?).bind fun p =>
      some (match p.hostOff with
        | some off => (hostRuns (finalFmt o.d) off.1 off.2 data).map fun e => (poolAddr o.d 10 + e.1, e.2)
        | none => [(poolAddr o.d 10 + Config.hostPlace r.seq r.chunk r.k, data)])).getD []

/-- A packet that the host path discards is counted on the port of its arrival and reported by the host path (R354, log 87). -/
def hostDiscard (s : State) (arr vc reason : Nat) : State :=
  (if arr < 160 then (s.cnt (0x40000 + ((arr * 8 + vc) * 64 + reason) * 8) 1).cntP arr vc 6 else s).discardAt 160 vc reason

/-- The host path delivers its oldest packet; the next comes out of its store (log 104). -/
def hostDeliver (s0 : State) : State :=
  match s0.sw.hostQ with
  | [] => hostCollect s0
  | p :: rest =>
    let s := hostCollect (modSw s0 fun w => { w with hostQ := rest })
    let h := p.pkt.hdr
    match p.mir with
    | some m => mirrorRecord s p m
    | none =>
      if p.res.isSome then
        let s1 := (resultRuns s p.res p.pkt.data).foldl (fun s e => if e.2.isEmpty then s else s.emit (.hostWrite e.1 e.2)) s
        settleGroups (resultLeft s1 p.res 160 h.len)
      else if h.opcode ≠ 0x50 then hostDiscard s p.pkt.arr h.vc 0x27
      else match s.host.recv with
        | [] => hostDiscard s p.pkt.arr h.vc 0x26
        | n :: more =>
          let s1 : State := { s with host := { s.host with recv := more } }
          let buf := ((mget s.host.ops n).map fun o => hostAddr o.words).getD 0
          hostDone (s1.emit (.hostWrite buf (h.words.flatMap wbytes ++ p.pkt.data))) n 0 0 h.len 0

end Sys2Proof.Machine
end

