-- ==== Sys2Proof/WellFormed.lean ====
section
/-! DEFINITION. Which commands are well formed: every operand names something the block has. A command that is not changes
nothing (log 17). The ranges are the counts of the spec's arrays. -/

namespace Sys2Proof

/-- The masters are the host, the side-band and the two cores of Gesta (12 R359, 14 R386). -/
def Master.ok : Master → Bool
  | .host => true
  | .sideband => true
  | .gesta c => decide (c < 2)

/-- The byte enables of one word: the side-band accepts whole 32-bit accesses only (13 R367). -/
def beOk (m : Master) (be : Nat) : Bool := decide (be < 16) && (m != .sideband || be == 15)

/-- How many words the byte enables of an access reach. -/
def beWords (be : Nat) : Nat := be.log2 / 4 + 1

/-- An access that a master can make (13 R367, 12 R333): of the host, whole within BAR0, BAR2 or the words of configuration space; of
another master, one word of BAR0. -/
def accessOk (m : Master) (off be : Nat) : Bool :=
  let e := off + 4 * beWords be
  m.ok && off % 4 == 0 && (match m with
    | .host => decide (be < 2 ^ 4096) && (decide (e ≤ 2 ^ 26) || (decide (2 ^ 28 ≤ off) && decide (e ≤ 2 ^ 29))
        || (decide (2 ^ 29 ≤ off) && decide (off < 2 ^ 29 + 4096) && decide (be < 16)))
    | _ => decide (off < 2 ^ 26) && beOk m be)

/-- A codeword is 5,440 bits, 2,720 levels, on one of at most eight lanes (11 R301, R302). -/
def codewordOk (c : Nat × List Nat) : Bool := decide (c.1 < 8) && c.2.length == 2720 && c.2.all fun y => decide (y < 4)

/-- A link block has 16 slots of 64-byte cells, two LCW bits, and at most eight lanes (11 R303). -/
def RxBlock.ok (b : RxBlock) : Bool :=
  b.slots.length == 16 && b.slots.all (fun c => c.body.length == 16) && decide (b.lcw < 4) && b.fec.all (fun x => decide (x.pos < 8))
    && b.code.all codewordOk

/-- The indices of a register row against its array's counts are checked where the row writes (Machine/Bus.lean). -/
def Instr.wellFormed : Instr → Bool
  | .registerWrite m off val be _ => accessOk m off be && decide (val < 2 ^ (32 * beWords be))
  | .latchedPairRead m off acc => accessOk m off acc.be
  | .glbPlaceWrite m val be => m.ok && decide (val < 2 ^ 32) && beOk m be
  | .lock m val be => m.ok && decide (val < 2 ^ 32) && beOk m be
  | .linkBlockReceive lp blk _ => decide (lp < 160) && blk.ok
  | .stageOneAdmit i k _ => decide (i < 80) && decide (k < 80)
  | .stageTwoMove k pos _ _ => decide (k < 80) && decide (pos ≤ 80)
  | .resequencerTimeout src pos vc _ => decide (src < 160) && decide (pos ≤ 80) && decide (vc < 8)
  | .egressCellSend lp _ _ _ => decide (lp < 160)
  | .interCellGapTimeout lp vc _ => decide (lp < 160) && decide (vc < 8)
  | .residencyLimit _ _ => true
  | .starvePromotion lp vc _ => decide (lp < 160) && decide (vc < 8)
  | .fenceRelease lp _ => decide (lp < 160)
  | .portFlushDone lp _ => decide (lp < 160)
  | .swcFwdWrite m b _ _ val be => m.ok && decide (b < 2) && decide (val < 2 ^ 32) && beOk m be
  | .sealA m => m.ok
  | .sealB m => m.ok
  | .bankDrainEnd _ => true
  | .tickEdge _ _ => true
  | .holdoverEnter _ => true
  | .tickBoundary _ => true
  | .inval m => m.ok
  | .loadArm m => m.ok
  | .loadTakeEffect _ => true
  | .timCtrlSrcWrite m val be => m.ok && decide (val < 2 ^ 32) && beOk m be
  | .syncSend _ => true
  | .delayReqSend _ => true
  | .delayRspReceive p _ => decide (p.arr ≤ 161)
  | .syncReceive p _ => decide (p.arr ≤ 161)
  | .ttBankWrite m b kind _ _ val be => m.ok && decide (b < 2) && decide (kind < 4) && decide (val < 2 ^ 32) && beOk m be
  | .ttSealA m => m.ok
  | .ttSealB m => m.ok
  | .admitA m => m.ok
  | .admitB m => m.ok
  | .admissionDone _ => true
  | .timetableRecheck _ => true
  | .deadlineMiss g _ => decide (g < 4096)
  | .issue m => m.ok
  | .revert m => m.ok
  | .cancel m => m.ok
  | .commitTakeEffect _ _ => true
  | .grpEntWrite m g _ val be => m.ok && decide (g < 4096) && decide (val < 2 ^ 32) && beOk m be
  | .grpRankWrite m b _ val be => m.ok && decide (b < 2) && decide (val < 2 ^ 32) && beOk m be
  | .create m g => m.ok && decide (g < 4096)
  | .createShape m g => m.ok && decide (g < 4096)
  | .destroy m g => m.ok && decide (g < 4096)
  | .abort m g => m.ok && decide (g < 4096)
  | .groupFree g _ => decide (g < 4096)
  | .doorbell p _ => decide (p.arr ≤ 161)
  | .launch g _ => decide (g < 4096)
  | .grantReq p _ => decide (p.arr ≤ 161)
  | .waveGrant _ _ => true
  | .grant p _ => decide (p.arr ≤ 161)
  | .contrib p _ => decide (p.arr ≤ 161)
  | .dispatch p _ => decide (p.arr ≤ 161)
  | .expertOut p _ => decide (p.arr ≤ 161)
  | .result p _ => decide (p.arr ≤ 161)
  | .progressTimeout g _ => decide (g < 4096)
  | .abortReq p _ => decide (p.arr ≤ 161)
  | .seqctlAbort p _ => decide (p.arr ≤ 161)
  | .token p _ => decide (p.arr ≤ 161)
  | .tokenSend g _ => decide (g < 4096)
  | .sweepStart g _ _ => decide (g < 4096)
  | .sweepDone g _ _ _ _ => decide (g < 4096)
  | .pumpDrained n _ => decide (n < 168)
  | .retire m _ => m.ok
  | .testGo m _ => m.ok
  | .selfTestDone n _ _ => decide (n < 168)
  | .restore m _ => m.ok
  | .cisternScrub n _ _ _ _ => decide (n < 168)
  | .wellInitDone _ _ => true
  | .welFarCfgWrite m val be => m.ok && decide (val < 2 ^ 32) && beOk m be
  | .read p _ => decide (p.arr ≤ 161)
  | .write p _ _ => decide (p.arr ≤ 161)
  | .atomicFetchAdd p _ _ => decide (p.arr ≤ 161)
  | .atomicSwap p _ _ => decide (p.arr ≤ 161)
  | .atomicCompareSwap p _ _ => decide (p.arr ≤ 161)
  | .atomicFetchAnd p _ _ => decide (p.arr ≤ 161)
  | .atomicFetchOr p _ _ => decide (p.arr ≤ 161)
  | .atomicFetchXor p _ _ => decide (p.arr ≤ 161)
  | .wellRequestComplete _ _ _ => true
  | .takeOut m _ => m.ok
  | .contextTimeout c _ => decide (c < 262144)
  | .patrolScrub _ _ _ => true
  | .mirrorFillDone w _ _ => decide (w < 16)
  | .migrationDone _ _ => true
  | .bar4Access _ b _ _ _ _ => decide (b < 2 ^ 36)
  | .soRead p _ => decide (p.arr ≤ 161)
  | .soFetchAdd p _ => decide (p.arr ≤ 161)
  | .soCompareSwap p _ => decide (p.arr ≤ 161)
  | .waitGe p _ => decide (p.arr ≤ 161)
  | .waitEq p _ => decide (p.arr ≤ 161)
  | .signal p _ => decide (p.arr ≤ 161)
  | .soCancel p _ => decide (p.arr ≤ 161)
  | .soWaitTimeout n _ _ => decide (n < 8192)
  | .soCmdRead m val be => m.ok && decide (val < 2 ^ 32) && beOk m be
  | .soCmdFetchAdd m val be => m.ok && decide (val < 2 ^ 32) && beOk m be
  | .soCmdCompareSwap m val be => m.ok && decide (val < 2 ^ 32) && beOk m be
  | .soCmdSignal m val be => m.ok && decide (val < 2 ^ 32) && beOk m be
  | .soTypeWrite m _ _ val be => m.ok && decide (val < 2 ^ 32) && beOk m be
  | .valLoWrite m _ val be => m.ok && decide (val < 2 ^ 32) && beOk m be
  | .valHiWrite m _ val be => m.ok && decide (val < 2 ^ 32) && beOk m be
  | .roomSnap p _ _ => decide (p.arr ≤ 161)
  | .roomJrnl p _ _ => decide (p.arr ≤ 161)
  | .roomRead p _ => decide (p.arr ≤ 161)
  | .heartbeatCheck _ => true
  | .hbLateClear m _ val be => m.ok && decide (val < 2 ^ 32) && beOk m be
  | .lcwBuild lp _ => decide (lp < 160)
  | .lcwReceive lp _ => decide (lp < 160)
  | .replayTimeout lp _ => decide (lp < 160)
  | .trainingFrameReceive lp pos _ _ => decide (lp < 160) && decide (pos < 8)
  | .eqDone lp _ _ => decide (lp < 160)
  | .fecLockDone lp _ _ => decide (lp < 160)
  | .deskewDone lp _ _ => decide (lp < 160)
  | .bringupStageTimeout lp _ => decide (lp < 160)
  | .bringupRetry lp _ => decide (lp < 160)
  | .identSend lp _ => decide (lp < 160)
  | .ident p _ => decide (p.arr ≤ 161)
  | .laneLockLoss lp _ _ => decide (lp < 160)
  | .refclkLoss _ => true
  | .restripeDone lp _ _ => decide (lp < 160)
  | .drop m _ => m.ok
  | .retrain m _ => m.ok
  | .portEnWrite m _ _ => m.ok
  | .loop m _ k => m.ok && decide (k < 4)
  | .loopEchoEnd lp _ => decide (lp < 160)
  | .eidleEnter lp _ => decide (lp < 160)
  | .eidleExit lp _ => decide (lp < 160)
  | .escanGo m _ => m.ok
  | .escanDone l _ _ => decide (l < 640)
  | .prbsRxEnWrite m _ val be => m.ok && decide (val < 2 ^ 32) && beOk m be
  | .pause p _ => decide (p.arr ≤ 161)
  | .resume p _ => decide (p.arr ≤ 161)
  | .pauseLimitExpire lp _ => decide (lp < 160)
  | .functionLevelReset _ _ => true
  | .dlDown _ _ => true
  | .hostReadFail _ fail _ => decide (fail.cause < 4)
  | .crEnWrite m _ val be => m.ok && decide (val < 2 ^ 32) && beOk m be
  | .cqEnWrite m _ val be => m.ok && decide (val < 2 ^ 32) && beOk m be
  | .tail ring val be => decide (ring < 128) && decide (val < 2 ^ 32) && decide (be < 16)
  | .head q val be => decide (q < 128) && decide (val < 2 ^ 32) && decide (be < 16)
  | .descriptorFetch _ _ => true
  | .groupOp _ _ => true
  | .regWrite _ _ _ _ => true
  | .regRead _ _ => true
  | .dma _ _ _ _ _ => true
  | .migrate _ _ => true
  | .roomExport _ _ _ => true
  | .telDump _ _ _ => true
  | .fabricSend _ _ _ => true
  | .recvPost _ _ => true
  | .nop _ _ => true
  | .completionWrite q _ => decide (q < 128)
  | .cqIrqTimer q _ => decide (q < 128)
  | .hostPathDeliver _ => true
  | .read32 _ _ _ _ _ _ => true
  | .write32 _ _ _ _ _ val _ _ => decide (val < 2 ^ 32)
  | .setEndpointId _ _ _ => true
  | .getEndpointId _ _ => true
  | .getMctpVersionSupport _ _ _ => true
  | .getMessageTypeSupport _ _ => true
  | .getVendorDefinedMessageSupport _ _ _ => true
  | .entdaa _ _ => true
  | .rstdaa _ => true
  | .setnewda _ _ => true
  | .getpid _ => true
  | .getbcr _ => true
  | .getdcr _ => true
  | .getstatus _ => true
  | .getmrl _ => true
  | .getmwl _ => true
  | .enec _ _ => true
  | .disec _ _ => true
  | .rstact _ _ => true
  | .getVersion way _ => decide (way < 3)
  | .getCapabilities way _ _ => decide (way < 3)
  | .negotiateAlgorithms way _ => decide (way < 3)
  | .getDigests way _ => decide (way < 3)
  | .getCertificate way _ _ _ _ => decide (way < 3)
  | .challenge way _ _ _ => decide (way < 3)
  | .getMeasurements way _ _ _ => decide (way < 3)
  | .requestUpdate _ _ => true
  | .passComponentTable _ _ _ => true
  | .updateComponent _ _ _ => true
  | .verifyComplete _ _ => true
  | .applyComplete _ _ => true
  | .activateFirmware _ _ _ => true
  | .semRead m => m.ok
  | .release m _ => m.ok
  | .semLeaseLapse _ _ => true
  | .configCrcPass pass => pass.parity.all (· < 2 ^ 26)
  | .kick m c => m.ok && decide (c < 2)
  | .watchdogLapse c _ _ => decide (c < 2)
  | .gmcRst m _ => m.ok
  | .perstNAssert _ => true
  | .perstNRelease _ _ => true
  | .recoveryNAssert _ => true
  | .recoveryNRelease _ _ => true
  | .trialConfirm _ => true
  | .updateLockExpire _ => true
  | .getInfo mb _ => decide (mb < 2)
  | .flashRead mb _ => decide (mb < 2)
  | .flashErase mb _ _ => decide (mb < 2)
  | .flashWrite mb _ _ => decide (mb < 2)
  | .verifySlot mb _ => decide (mb < 2)
  | .setPrefer mb _ => decide (mb < 2)
  | .confirm mb _ => decide (mb < 2)
  | .logRead mb _ => decide (mb < 2)
  | .gestaCoreResign c _ => decide (c < 2)
  | .gestaTakeback _ => true
  | .faultMessage src _ _ _ _ => decide (src < 1024)
  | .safeGo m => m.ok
  | .faultNMinEnd _ => true
  | .coreWarm m => m.ok
  | .coreWarmResetEnd _ _ _ => true
  | .pump m => m.ok
  | .pumpResetEnd _ => true
  | .pool m => m.ok
  | .poolResetEnd _ => true
  | .portGo m n => m.ok && decide (n < 128)
  | .healthSend _ => true
  | .health p _ => decide (p.arr ≤ 161)
  | .seqKnownAnswerTest _ _ => true
  | .coverDecideStart _ => true
  | .takebackClaim _ => true
  | .takebackComplete _ => true
  | .takebackTimeout _ => true
  | .partnerSilent _ => true
  | .powerLoop _ _ => true
  | .pwrCapHostWrite m val be => m.ok && decide (val < 2 ^ 32) && beOk m be
  | .pwrCapRackWrite m val be => m.ok && decide (val < 2 ^ 32) && beOk m be
  | .rackLeaseLapse _ => true
  | .capdropEnd _ => true
  | .pwrBrkReqWrite m val be => m.ok && decide (val < 2 ^ 32) && beOk m be
  | .pwrbrkNChange _ _ _ => true
  | .coolantFailNChange _ _ _ => true
  | .busUvNChange _ _ _ => true
  | .coolantShutdown _ => true
  | .diodeSample _ _ => true
  | .thermistorRead _ _ _ _ => true
  | .pwrThermCfgWrite m val be => m.ok && decide (val < 2 ^ 32) && beOk m be
  | .thermtripN _ => true
  | .epoN _ _ _ => true
  | .counterLowWrite m off val be => m.ok && decide (off < 1601536) && decide (val < 2 ^ 32) && beOk m be
  | .counterHighWrite m off val be => m.ok && decide (off < 1601536) && decide (val < 2 ^ 32) && beOk m be
  | .bwWindowEnd _ => true
  | .telBwCfgWrite m val be => m.ok && decide (val < 2 ^ 32) && beOk m be
  | .telRingCfgWrite m val be => m.ok && decide (val < 2 ^ 32) && beOk m be
  | .periodicDumpStart _ _ => true
  | .dumpEnd _ _ => true
  | .help _ => true
  | .stat _ => true
  | .ver _ => true
  | .faultList _ => true
  | .port _ _ => true
  | .lane _ _ => true
  | .temp _ => true
  | .power _ => true
  | .regRd _ _ => true
  | .log _ _ => true
  | .regWr _ _ _ => true
  | .faultClear _ _ _ => true
  | .atest _ _ _ => true
  | .servicePort _ _ _ => true
  | .serviceOn _ => true
  | .serviceOnForce _ _ => true
  | .serviceOff _ _ => true
  | .resetPort _ _ _ => true
  | .resetPump _ _ => true
  | .resetPool _ _ => true
  | .resetCore _ _ => true
  | .resetGmc _ _ => true
  | .selftestRails _ _ _ _ => true
  | .selftestSensors _ _ _ _ => true
  | .selftestLanes _ _ _ _ _ => true
  | .selftestPort _ _ _ _ _ _ => true
  | .selftestPumps _ _ _ _ _ => true
  | .selftestCisterns _ _ _ => true
  | .selftestHbm _ _ _ _ _ => true
  | .selftestDimm _ _ _ _ _ => true
  | .selftestWell _ _ _ => true
  | .selftestSync _ _ _ => true
  | .selftestRooms _ _ _ => true
  | .selftestGroup _ _ _ _ => true
  | .refclkReturn _ _ => true
  | .aliveToggle _ => true
  | .romLineRepeat _ => true
  | .reorderHoldExpire lp vc _ => decide (lp < 160) && decide (vc < 8)
  | .alwaysOnSupplyUp _ => true
  | .supplyRemoval _ => true
  | .doeDiscovery _ _ => true
  | .consoleUnknownCommand _ => true
  | .mailboxUnknownCmd mb _ => decide (mb < 2)
  | .vendorUnknownCmd _ _ _ _ _ => true
  | .pldmFirmwareTransfer _ _ _ _ _ => true

end Sys2Proof
end

