-- ==== Sys2Proof/Machine/Rows.lean ====
section
/-! DEFINITION. What the meanings of the rows share: the conditions under which an event of a link or of the local station takes
place, the registers that a row selects by number, BAR2's counter pages (17 R477). -/

namespace Sys2Proof.Machine

open Sys2Proof

/-- An event of the link layer: the chip is out of reset with its REFCLK, and not in the safe state (11 R313, 15 R424). -/
def whenLink (s : State) (f : State → State) : State := if chipOn s && !isSafe s && s.pin.refclk then f s else s

/-- What follows the moves of cells: cells at the front of the ingress queues go to the station, the groups and the host path send,
and idle links are noted. -/
def settleSwitch (s : State) : State := idleTouchAll (settleSends (settleGroups (pullAll s)))

/-- The slots of the response injector that are taken (04 R122): by requests of the well that are not yet answered, and by
answers that stage one has not admitted whole. A write of VC7 takes none. -/
def injHeld (s : State) : Nat :=
  let isAns := fun (op : Nat) => op == 0x28 || op == 0x29 || op == 0x2A || op == 0x2B || op == 0x31 || op == 0x43
  let open_ := fun (k : WKind) => match k with
    | .read => true
    | .write => true
    | .atomic _ => true
    | .roomRead => true
    | _ => false
  (s.well.queue.filter fun r => open_ r.kind).length
    + (s.sw.pkts.filter fun p => p.arr == 161 && isAns p.hdr.opcode && s.sw.wait.any fun c => c.pid == p.pid).length

/-- A request may be accepted by the station: a slot of the response injector is free for its answer (04 R122; how many there are
the spec does not say, log 16). -/
def injFree (s : State) (h : Header) : Bool :=
  let needs := h.opcode == 0x20 || h.opcode == 0x21 || h.opcode == 0x22 || h.opcode == 0x30 || h.opcode == 0x42
  !needs || injHeld s == 0 || decide (injHeld s ≤ Config.injSlots)

/-- A packet with the row's opcode at the local station; a request waits there while no slot is free for its answer. -/
def atStation (s : State) (p : StPkt) (op : Nat) (f : State → State) : State :=
  whenCore s fun s => if p.hdr.opcode = op ∧ injFree s p.hdr = true then f s else s

/-- An ATOMIC at the well: another valid ATOP is another row's event (09 R244). -/
def atomicRow (s : State) (p : StPkt) (k : Nat) (badLine : Option Nat) : State :=
  let a := bits p.hdr.opw1 28 4
  if a < 6 ∧ a ≠ k then s else wellRequest s p badLine

/-- The registers of a timetable bank (05 R138): its period, its phase, its windows, its group windows. -/
def ttReg (b kind : Nat) : RegName :=
  match kind with
  | 0 => .TIM_TT_PER
  | 1 => .TIM_TT_PHASE
  | 2 => winReg b
  | _ => ttGrpReg b

/-- A read of a counter page of BAR2 (17 R477). -/
def userRead (s : State) (x : Nat) (be : Nat := 15) : State :=
  let off := telBase + x
  if (regionAt x).any fun r => bitAt (s.rd0 F.TEL_USER_EN_REGION) r then
    if mustHold s off then hold s ⟨.host, false, off, 0, be, none⟩
    else
      let (v, s1) := readNow s .host off
      s1.emit (.readData .host off (enabledBytes v be))
  else s.emit (.readData .host off 0)

/-! ## PCIe accesses (12 R331, R333, R334; 13 R367, R368, R371) -/

/-- Where BAR2 and configuration space stand among the offsets of an access. -/
def bar2Base : Nat := 2 ^ 28
def cfgBase : Nat := 2 ^ 29

/-- A doorbell page's word: the ring, whether it is a completion ring, whether the word is its doorbell. The rest of BAR2 below the
counter pages has none. -/
def doorbellAt (x : Nat) : Option (Nat × Bool × Bool) :=
  let w := x % 4096
  if x < 0x100000 ∧ (w = 0 ∨ w = 4) then some (x / 4096 % 128, decide (0x80000 ≤ x), w == 0) else none

/-- One 32-bit read of BAR2 (12 R334). -/
def bar2Read (s : State) (x be : Nat) : State :=
  if 0x1000000 ≤ x then userRead s (x - 0x1000000) be
  else
    let v := match doorbellAt x with
      | some (r, false, true) => s.rd F.HST_CR_TAIL r
      | some (r, false, false) => s.rd F.HST_CR_HEAD r
      | some (q, true, true) => s.rd F.HST_CQ_HEAD q
      | some (q, true, false) => s.rd F.HST_CQ_TAIL q
      | none => 0
    s.emit (.readData .host (bar2Base + x) (enabledBytes v be))

/-- One 32-bit write of BAR2: only a doorbell takes it (12 R331, R334, 17 R477). -/
def bar2Write (s : State) (x val be : Nat) : State :=
  if isSafe s then s
  else match doorbellAt x with
    | some (r, false, true) => tailWrite s r val be
    | some (q, true, true) => headWrite s q val be
    | _ => s

/-- A BAR's low and high words of configuration space. -/
def barWords (b : PciBar) : List Nat := [b.base % 2 ^ 32 + (if b.prefetch then 0xC else 4), b.base / 2 ^ 32]

/-- The words of configuration space that the model holds, numbered by it, with the bits of the PCIe Base Specification: identity,
class, power state, Device Control and Device Control 2, Link Control, AER control, MSI-X control, Status, AER uncorrectable status,
and the BARs (12 R330, R333; PRESUMED, log 4). -/
def cfgWord (s : State) (k : Nat) : Nat :=
  let p := s.host.pcie
  ([p.deviceId * 65536 + Config.vendorId.toNat, p.classCode * 256, p.dstate, p.maxPayload * 32 + p.maxRead * 4096, p.toRange,
    b2n p.aspm * 2, b2n p.ecrcGen * 64 + b2n p.ecrcChk * 256, b2n p.msixOn * 2 ^ 31 + b2n p.msixMask * 2 ^ 30, p.status * 65536, p.aer]
    ++ p.bars.flatMap barWords).getD k 0

/-- A BAR takes a base that is a multiple of its size. -/
def barWrite (b : PciBar) (hi : Bool) (w : Nat) : PciBar :=
  let v := if hi then b.base % 2 ^ 32 + w * 2 ^ 32 else b.base / 2 ^ 32 * 2 ^ 32 + w
  { b with base := v / 2 ^ b.log2 * 2 ^ b.log2 }

/-- Configuration space after a write of a word. A value that the function does not support leaves its field as it is. -/
def cfgPut (p : PcieSt) (k w set : Nat) : PcieSt :=
  if k = 2 then (if w % 4 = 0 ∨ w % 4 = 3 then { p with dstate := w % 4 } else p)
  else if k = 3 then
    { p with maxPayload := if bits w 5 3 ≤ 2 then bits w 5 3 else p.maxPayload
             maxRead := if bits w 12 3 ≤ 5 then bits w 12 3 else p.maxRead }
  else if k = 4 then (if [0, 1, 2, 5, 6].contains (w % 16) then { p with toRange := w % 16 } else p)
  else if k = 5 then { p with aspm := bitAt w 1 }
  else if k = 6 then { p with ecrcGen := bitAt w 6, ecrcChk := bitAt w 8 }
  else if k = 7 then { p with msixOn := bitAt w 31, msixMask := bitAt w 30 }
  else if k = 8 then { p with status := p.status - Nat.land p.status (set / 65536) }
  else if k = 9 then { p with aer := p.aer - Nat.land p.aer set }
  else if 10 ≤ k ∧ k < 16 then
    { p with bars := p.bars.zipIdx.map fun e => if e.2 = (k - 10) / 2 then barWrite e.1 (k % 2 == 1) w else e.1 }
  else p

/-- A write of a word of configuration space; what MSI-X no longer holds back goes. -/
def cfgWrite (s : State) (k val be : Nat) : State :=
  let w := mergeWord (cfgWord s k) val be
  let s1 : State := { s with host := { s.host with pcie := cfgPut s.host.pcie k w (enabledBytes val be) } }
  if k = 7 then (List.range 2048).foldl msixUnmask s1 else s1

/-- One word of an access, by where it goes. -/
def wordWrite (ev : BootEv) (s : State) (m : Master) (off val be : Nat) : State :=
  if off < bar2Base then busWrite ev s m off val be
  else if chipOn s = false then s
  else if off < cfgBase then (if s.host.pcie.dstate = 3 then s else bar2Write s (off - bar2Base) val be)
  else cfgWrite s ((off - cfgBase) / 4) val be

def wordRead (s : State) (m : Master) (off be : Nat) (bad : Bool) : State :=
  if off < bar2Base then
    busRead (if bad && chipOn s && !mustHold s off && !(m == .host && s.host.pcie.dstate == 3) then parityFound s off else s) m off be
  else if chipOn s = false then s
  else if cfgBase ≤ off then s.emit (.readData m off (enabledBytes (cfgWord s ((off - cfgBase) / 4)) be))
  else if s.host.pcie.dstate = 3 then s.emit .bar4Ur
  else bar2Read s (off - bar2Base) be

/-- An access of BAR4: an AtomicOp, and any access in D3hot, is refused (12 R331, 09 R263, log 4). -/
def apertureAccess (s : State) (kind : ApAccess) (b n : Nat) (data : List Byte) (en : List Bool) : State :=
  if s.host.pcie.dstate = 3 then s.emit .bar4Ur
  else match kind with
    | .rd => aperture s false b n data en none
    | .wr bad => aperture s true b n data en bad
    | .atomicOp => s.emit .bar4Ur

/-- A write access: its words in rising order, with no access of another master between them (13 R371). -/
def accessWrite (ev : BootEv) (s : State) (m : Master) (off val be : Nat) : State :=
  (List.range (beWords be)).foldl (fun s i => wordWrite ev s m (off + 4 * i) (val / 2 ^ (32 * i) % 2 ^ 32) (be / 16 ^ i % 16)) s

/-- A read access, likewise. -/
def accessRead (s : State) (m : Master) (off : Nat) (acc : ReadAcc) : State :=
  (List.range (beWords acc.be)).foldl (fun s i => wordRead s m (off + 4 * i) (acc.be / 16 ^ i % 16) (bitAt acc.bad i)) s

/-- A write of a core's KICK bit (14 R388): a master's that may write, or the core's own. -/
def kickRow (s : State) (m : Master) (c : Nat) : State :=
  let own := m == .gesta c && chipOn s && !isSafe s
  if c ≤ 1 ∧ (mayWrite s m || own) = true then wdtWrite (countReg s m true (regOff .GMC_WDT 0)) m (2 ^ c) 1 else s

/-! ## Running a row

`ok` says that the row's operands are in range; a command whose operands name nothing of the block changes nothing (log 17). -/

/-- A flag of HEALTH has changed in a row and no HEALTH has gone since: one goes at once (15 R435). -/
def settleHealth (s0 s : State) : State :=
  if (chipOn s && !isSafe s) && !inCoreReset s && healthFlags s0 != healthFlags s && s.flt.sent.all (fun x => x.2 != healthFlags s) then
    sendHealth s
  else s

/-- A row that enters the safe state answers the accesses that were held (15 R425). -/
def settleHeld (s0 s : State) : State := if isSafe s && !isSafe s0 then heldSafe s else s

/-- What stands at the end of every row: the clock and the queue belong to the outside and are as the row found them, pumps
whose sweep was stopped retire where they had to (07 R211), a change of a HEALTH flag is sent, ALIVE follows its conditions
(15 R421), and waits that began or ended are counted (17 R467, R468). -/
def finish (s0 s1 : State) : State :=
  settleWaits s0 (settleAlive { settleHeld s0 (settleHealth s0 (settlePumps s1)) with now := s0.now, pending := s0.pending })

/-- A row that names a time runs at that time (log 1). -/
def atTime (s : State) (at_ : Nat) (ok : Bool) (f : State → State) : Host.Outcome State Fault Refusal :=
  .next (if ok then finish (s.advance at_) (f (s.advance at_)) else s)

/-- A row without one runs at the clock as it stands. -/
def atNow (s : State) (ok : Bool) (f : State → State) : Host.Outcome State Fault Refusal :=
  .next (if ok then finish s (f s) else s)

end Sys2Proof.Machine
end

