-- ==== Sys2Proof/Machine/RowsBoot.lean ====
section
/-! DEFINITION. The meanings of the rows: Supplies, resets, boot and watchdogs (files 14, 15, 19). Each is the row's effect over the
operations of the files before, guarded by its operands' ranges (log 17). -/

namespace Sys2Proof.Machine

open Sys2Proof

/-- REFCLK_LOSS (11 R313). -/
def execRefclkLoss (at_ : Nat) (s : State) : Host.Outcome State Fault Refusal :=
  atTime s at_ (true) fun s =>
    settleSwitch (Sys2Proof.Machine.refclkLoss s)

/-- KICK (14 R388). -/
def execKick (m : Master) (c : Nat) (s : State) : Host.Outcome State Fault Refusal :=
  atNow s (m.ok && decide (c < 2)) fun s =>
    kickRow s m c

/-- WATCHDOG_LAPSE (14 R388). -/
def execWatchdogLapse (c : Nat) (ev : BootEv) (at_ : Nat) (s : State) : Host.Outcome State Fault Refusal :=
  atTime s at_ (decide (c < 2)) fun s =>
    whenOn s fun s => Sys2Proof.Machine.watchdogLapse s c ev

/-- GMC_RST (14 R402). -/
def execGmcRst (m : Master) (ev : BootEv) (s : State) : Host.Outcome State Fault Refusal :=
  atNow s (m.ok) fun s =>
    rowBit s m F.GMC_CTRL_GMC_RST 0 true fun s => gmcReset s ev none

/-- PERST_N_ASSERT (15 R432). -/
def execPerstNAssert (low : LowPulse) (s : State) : Host.Outcome State Fault Refusal :=
  atTime s low.at_ (true) fun s =>
    perstAssert s low.lowNs

/-- PERST_N_RELEASE (14 R398). -/
def execPerstNRelease (ev : BootEv) (at_ : Nat) (s : State) : Host.Outcome State Fault Refusal :=
  atTime s at_ (true) fun s =>
    perstRelease s ev

/-- RECOVERY_N_ASSERT (14 R403). -/
def execRecoveryNAssert (low : LowPulse) (s : State) : Host.Outcome State Fault Refusal :=
  atTime s low.at_ (true) fun s =>
    recoveryAssert s low.lowNs

/-- RECOVERY_N_RELEASE (14 R403). -/
def execRecoveryNRelease (ev : BootEv) (at_ : Nat) (s : State) : Host.Outcome State Fault Refusal :=
  atTime s at_ (true) fun s =>
    recoveryRelease s ev

/-- TRIAL_CONFIRM (14 R405). -/
def execTrialConfirm (at_ : Nat) (s : State) : Host.Outcome State Fault Refusal :=
  atTime s at_ (true) fun s =>
    whenOn s Sys2Proof.Machine.trialConfirm

/-- UPDATE_LOCK_EXPIRE (14 R406). -/
def execUpdateLockExpire (at_ : Nat) (s : State) : Host.Outcome State Fault Refusal :=
  atTime s at_ (true) fun s =>
    whenOn s Sys2Proof.Machine.updateLockExpire

/-- REFCLK_RETURN (11 R313). -/
def execRefclkReturn (ev : BootEv) (at_ : Nat) (s : State) : Host.Outcome State Fault Refusal :=
  atTime s at_ (true) fun s =>
    Sys2Proof.Machine.refclkReturn s ev

/-- ROM_LINE_REPEAT (18 R482). -/
def execRomLineRepeat (at_ : Nat) (s : State) : Host.Outcome State Fault Refusal :=
  atTime s at_ (true) fun s =>
    whenOn s romRepeat

/-- ALWAYS_ON_SUPPLY_UP (18 R479). -/
def execAlwaysOnSupplyUp (at_ : Nat) (s : State) : Host.Outcome State Fault Refusal :=
  atTime s at_ (true) fun s =>
    aonUp s

/-- SUPPLY_REMOVAL (16 R457). -/
def execSupplyRemoval (at_ : Nat) (s : State) : Host.Outcome State Fault Refusal :=
  atTime s at_ (true) fun s =>
    Sys2Proof.Machine.supplyRemoval s

end Sys2Proof.Machine
end

