-- ==== Sys2Proof/Machine/RowsCommit.lean ====
section
/-! DEFINITION. The meanings of the rows: Commits, the semaphore, the configuration CRC (files 05, 13). Each is the row's effect over the
operations of the files before, guarded by its operands' ranges (log 17). -/

namespace Sys2Proof.Machine

open Sys2Proof

/-- ISSUE (13 R376). -/
def execIssue (m : Master) (s : State) : Host.Outcome State Fault Refusal :=
  atNow s (m.ok) fun s =>
    rowBit s m F.GLB_CMT_ISSUE 0 true fun s => cmtWrite s m 1 15

/-- REVERT (13 R379). -/
def execRevert (m : Master) (s : State) : Host.Outcome State Fault Refusal :=
  atNow s (m.ok) fun s =>
    rowBit s m F.GLB_CMT_REVERT 0 true fun s => cmtWrite s m 2 15

/-- CANCEL (05 R146). -/
def execCancel (m : Master) (s : State) : Host.Outcome State Fault Refusal :=
  atNow s (m.ok) fun s =>
    rowBit s m F.TIM_CMT_WHEN_CANCEL 0 false fun s => cancelWrite s

/-- COMMIT_TAKE_EFFECT (13 R378). -/
def execCommitTakeEffect (ev : BootEv) (at_ : Nat) (s : State) : Host.Outcome State Fault Refusal :=
  atTime s at_ (true) fun s =>
    whenCore s fun s => siteAfterCommit ev s (settleSwitch (takeCommit s))

/-- SEM_READ (12 R361). -/
def execSemRead (m : Master) (s : State) : Host.Outcome State Fault Refusal :=
  atNow s (m.ok) fun s =>
    busRead s m (regOff .GLB_SEM 0)

/-- RELEASE (12 R361). -/
def execRelease (m : Master) (ev : BootEv) (s : State) : Host.Outcome State Fault Refusal :=
  atNow s (m.ok) fun s =>
    rowWrite s m .GLB_SEM 0 0 1 15 fun s => settleSite ev (semWrite s m 1 15)

/-- SEM_LEASE_LAPSE (12 R362). -/
def execSemLeaseLapse (ev : BootEv) (at_ : Nat) (s : State) : Host.Outcome State Fault Refusal :=
  atTime s at_ (true) fun s =>
    whenOn s fun s => settleSite ev (semLapse s)

/-- CONFIG_CRC_PASS (13 R382, R383). -/
def execConfigCrcPass (pass : CrcPass) (s : State) : Host.Outcome State Fault Refusal :=
  atTime s pass.at_ (pass.parity.all (· < 2 ^ 26)) fun s =>
    whenOn s fun s => crcPass (pass.parity.foldl parityFound s)

end Sys2Proof.Machine
end

