-- ==== Sys2Proof/Machine/RowsConsole.lean ====
section
/-! DEFINITION. The meanings of the rows: The console (file 18). Each is the row's effect over the
operations of the files before, guarded by its operands' ranges (log 17). -/

namespace Sys2Proof.Machine

open Sys2Proof

/-- HELP (18 R484). -/
def execHelp (line : Typed) (s : State) : Host.Outcome State Fault Refusal :=
  atTime s line.at_ (true) fun s =>
    whenOn s fun s => settleSwitch (conRow s .help line.chars (bare conHelp))

/-- STAT (18 R484). -/
def execStat (line : Typed) (s : State) : Host.Outcome State Fault Refusal :=
  atTime s line.at_ (true) fun s =>
    whenOn s fun s => settleSwitch (conRow s .stat line.chars (bare conStat))

/-- VER (18 R484). -/
def execVer (line : Typed) (s : State) : Host.Outcome State Fault Refusal :=
  atTime s line.at_ (true) fun s =>
    whenOn s fun s => settleSwitch (conRow s .ver line.chars (bare conVer))

/-- FAULT (18 R484). -/
def execFaultList (line : Typed) (s : State) : Host.Outcome State Fault Refusal :=
  atTime s line.at_ (true) fun s =>
    whenOn s fun s => settleSwitch (conRow s .fault line.chars (bare conFault))

/-- PORT (18 R484). -/
def execPort (chars : List Byte) (at_ : Nat) (s : State) : Host.Outcome State Fault Refusal :=
  atTime s at_ (true) fun s =>
    whenOn s fun s => settleSwitch (conRow s .port chars fun s args => conPort s args)

/-- LANE (18 R484). -/
def execLane (chars : List Byte) (at_ : Nat) (s : State) : Host.Outcome State Fault Refusal :=
  atTime s at_ (true) fun s =>
    whenOn s fun s => settleSwitch (conRow s .lane chars fun s args => conLane s args)

/-- TEMP (18 R484). -/
def execTemp (line : Typed) (s : State) : Host.Outcome State Fault Refusal :=
  atTime s line.at_ (true) fun s =>
    whenOn s fun s => settleSwitch (conRow s .temp line.chars (bare conTemp))

/-- POWER (18 R484). -/
def execPower (line : Typed) (s : State) : Host.Outcome State Fault Refusal :=
  atTime s line.at_ (true) fun s =>
    whenOn s fun s => settleSwitch (conRow s .power line.chars (bare conPower))

/-- REG_RD (18 R484). -/
def execRegRd (chars : List Byte) (at_ : Nat) (s : State) : Host.Outcome State Fault Refusal :=
  atTime s at_ (true) fun s =>
    whenOn s fun s => settleSwitch (conRow s .regRd chars fun s args => conRegRd s args)

/-- LOG (18 R486). -/
def execLog (chars : List Byte) (at_ : Nat) (s : State) : Host.Outcome State Fault Refusal :=
  atTime s at_ (true) fun s =>
    whenOn s fun s => settleSwitch (conRow s .log chars fun s args => conLog s args)

/-- REG_WR (18 R484). -/
def execRegWr (chars : List Byte) (ev : BootEv) (at_ : Nat) (s : State) : Host.Outcome State Fault Refusal :=
  atTime s at_ (true) fun s =>
    whenOn s fun s => settleSwitch (settleSite ev (conRow s .regWr chars fun s args => conRegWr s args ev))

/-- FAULT_CLEAR (18 R484). -/
def execFaultClear (chars : List Byte) (ev : BootEv) (at_ : Nat) (s : State) : Host.Outcome State Fault Refusal :=
  atTime s at_ (true) fun s =>
    whenOn s fun s => settleSwitch (conRow s .faultClear chars fun s args => conFaultClear s args ev)

/-- ATEST (18 R487). -/
def execAtest (chars : List Byte) (ev : BootEv) (at_ : Nat) (s : State) : Host.Outcome State Fault Refusal :=
  atTime s at_ (true) fun s =>
    whenOn s fun s => settleSwitch (conRow s .atest chars fun s args => conAtest s args ev)

/-- SERVICE_PORT (18 R485). -/
def execServicePort (chars : List Byte) (ev : BootEv) (at_ : Nat) (s : State) : Host.Outcome State Fault Refusal :=
  atTime s at_ (true) fun s =>
    whenOn s fun s => settleSwitch (conRow s .servicePort chars fun s args => conServicePort s args ev)

/-- SERVICE_ON (18 R485). -/
def execServiceOn (line : Typed) (s : State) : Host.Outcome State Fault Refusal :=
  atTime s line.at_ (true) fun s =>
    whenOn s fun s => settleSwitch (conRow s .serviceOn line.chars (bare conServiceOn))

/-- SERVICE_ON_FORCE (18 R485). -/
def execServiceOnForce (ev : BootEv) (line : Typed) (s : State) : Host.Outcome State Fault Refusal :=
  atTime s line.at_ (true) fun s =>
    whenOn s fun s => settleSwitch (conRow s .serviceOnForce line.chars (bare (fun s => conServiceForce s ev)))

/-- SERVICE_OFF (18 R485). -/
def execServiceOff (ev : BootEv) (line : Typed) (s : State) : Host.Outcome State Fault Refusal :=
  atTime s line.at_ (true) fun s =>
    whenOn s fun s => settleSwitch (conRow s .serviceOff line.chars (bare (fun s => conServiceOff s ev)))

/-- RESET_PORT (18 R484). -/
def execResetPort (chars : List Byte) (ev : BootEv) (at_ : Nat) (s : State) : Host.Outcome State Fault Refusal :=
  atTime s at_ (true) fun s =>
    whenOn s fun s => settleSwitch (conRow s .resetPort chars fun s args => conResetPort s args ev)

/-- RESET_PUMP (18 R484). -/
def execResetPump (ev : BootEv) (line : Typed) (s : State) : Host.Outcome State Fault Refusal :=
  atTime s line.at_ (true) fun s =>
    whenOn s fun s => settleSwitch (conRow s .resetPump line.chars (bare (fun s => conResetPump s ev)))

/-- RESET_POOL (18 R484). -/
def execResetPool (ev : BootEv) (line : Typed) (s : State) : Host.Outcome State Fault Refusal :=
  atTime s line.at_ (true) fun s =>
    whenOn s fun s => settleSwitch (conRow s .resetPool line.chars (bare (fun s => conResetPool s ev)))

/-- RESET_CORE (18 R484). -/
def execResetCore (ev : BootEv) (line : Typed) (s : State) : Host.Outcome State Fault Refusal :=
  atTime s line.at_ (true) fun s =>
    whenOn s fun s => settleSwitch (conRow s .resetCore line.chars (bare (fun s => conResetCore s ev)))

/-- RESET_GMC (18 R484). -/
def execResetGmc (ev : BootEv) (line : Typed) (s : State) : Host.Outcome State Fault Refusal :=
  atTime s line.at_ (true) fun s =>
    whenOn s fun s => settleSwitch (conRow s .resetGmc line.chars (bare (fun s => conResetGmc s ev)))

/-- SELFTEST_RAILS (18 R488). -/
def execSelftestRails (cut : Bool) (bad : List Nat) (ev : BootEv) (line : Typed) (s : State) :
    Host.Outcome State Fault Refusal :=
  atTime s line.at_ (true) fun s =>
    whenOn s fun s => settleSwitch (conRow s .selftestRails line.chars (bare (fun s => testRails s cut bad ev)))

/-- SELFTEST_SENSORS (18 R488). -/
def execSelftestSensors (cut : Bool) (bad : Bool) (ev : BootEv) (line : Typed) (s : State) :
    Host.Outcome State Fault Refusal :=
  atTime s line.at_ (true) fun s =>
    whenOn s fun s => settleSwitch (conRow s .selftestSensors line.chars (bare (fun s => testSensors s cut bad ev)))

/-- SELFTEST_LANES (18 R488). -/
def execSelftestLanes (chars : List Byte) (cut : Bool) (errs : List Nat) (ev : BootEv) (at_ : Nat) (s : State) :
    Host.Outcome State Fault Refusal :=
  atTime s at_ (true) fun s =>
    whenOn s fun s => settleSwitch (conRow s .selftestLanes chars fun s args => testLanes s args cut errs ev)

/-- SELFTEST_PORT (18 R488). -/
def execSelftestPort (chars : List Byte) (cut : Bool) (up : Bool) (bad : List Nat) (ev : BootEv) (at_ : Nat) (s : State) :
    Host.Outcome State Fault Refusal :=
  atTime s at_ (true) fun s =>
    whenOn s fun s => settleSwitch (conRow s .selftestPort chars fun s args => testPort s args cut up bad ev)

/-- SELFTEST_PUMPS (18 R490). -/
def execSelftestPumps (cut : Bool) (fails : List (Nat × Nat)) (vec : List Nat) (ev : BootEv) (line : Typed) (s : State) :
    Host.Outcome State Fault Refusal :=
  atTime s line.at_ (true) fun s =>
    whenOn s fun s => settleSwitch (conRow s .selftestPumps line.chars (bare (fun s => testPumps s cut fails vec ev)))

/-- SELFTEST_CISTERNS (18 R488). -/
def execSelftestCisterns (cut : Bool) (bad : List Nat) (line : Typed) (s : State) :
    Host.Outcome State Fault Refusal :=
  atTime s line.at_ (true) fun s =>
    whenOn s fun s => settleSwitch (conRow s .selftestCisterns line.chars (bare (fun s => testCisterns s cut bad)))

/-- SELFTEST_HBM (18 R488). -/
def execSelftestHbm (chars : List Byte) (cut : Bool) (corr : Nat) (unc : Nat) (at_ : Nat) (s : State) :
    Host.Outcome State Fault Refusal :=
  atTime s at_ (true) fun s =>
    whenOn s fun s => settleSwitch (conRow s .selftestHbm chars fun s args => testHbm s args cut corr unc)

/-- SELFTEST_DIMM (18 R488). -/
def execSelftestDimm (chars : List Byte) (cut : Bool) (corr : Nat) (unc : Nat) (at_ : Nat) (s : State) :
    Host.Outcome State Fault Refusal :=
  atTime s at_ (true) fun s =>
    whenOn s fun s => settleSwitch (conRow s .selftestDimm chars fun s args => testDimm s args cut corr unc)

/-- SELFTEST_WELL (18 R488). -/
def execSelftestWell (cut : Bool) (bad : List Nat) (line : Typed) (s : State) :
    Host.Outcome State Fault Refusal :=
  atTime s line.at_ (true) fun s =>
    whenOn s fun s => settleSwitch (conRow s .selftestWell line.chars (bare (fun s => testWell s cut bad)))

/-- SELFTEST_SYNC (18 R488). -/
def execSelftestSync (cut : Bool) (bad : List Nat) (line : Typed) (s : State) :
    Host.Outcome State Fault Refusal :=
  atTime s line.at_ (true) fun s =>
    whenOn s fun s => settleSwitch (conRow s .selftestSync line.chars (bare (fun s => testSync s cut bad)))

/-- SELFTEST_ROOMS (18 R488). -/
def execSelftestRooms (cut : Bool) (bad : List Nat) (line : Typed) (s : State) :
    Host.Outcome State Fault Refusal :=
  atTime s line.at_ (true) fun s =>
    whenOn s fun s => settleSwitch (conRow s .selftestRooms line.chars (bare (fun s => testRooms s cut bad)))

/-- SELFTEST_GROUP (18 R488). -/
def execSelftestGroup (cut : Bool) (ok : Bool) (ev : BootEv) (line : Typed) (s : State) :
    Host.Outcome State Fault Refusal :=
  atTime s line.at_ (true) fun s =>
    whenOn s fun s => settleSwitch (conRow s .selftestGroup line.chars (bare (fun s => testGroup s cut ok ev)))

/-- CONSOLE_UNKNOWN_COMMAND (18 R483). -/
def execConsoleUnknownCommand (line : Typed) (s : State) : Host.Outcome State Fault Refusal :=
  atTime s line.at_ (true) fun s =>
    whenOn s fun s => settleSwitch (conUnknown s line.chars)

end Sys2Proof.Machine
end

