-- ==== Sys2Proof/Machine/RowsFaults.lean ====
section
/-! DEFINITION. The meanings of the rows: Faults, resets and dual-active control (file 15). Each is the row's effect over the
operations of the files before, guarded by its operands' ranges (log 17). -/

namespace Sys2Proof.Machine

open Sys2Proof

/-- GESTA_CORE_RESIGN (15 R439). -/
def execGestaCoreResign (c : Nat) (at_ : Nat) (s : State) : Host.Outcome State Fault Refusal :=
  atTime s at_ (decide (c < 2)) fun s =>
    whenOn s fun s => coreResign s c

/-- GESTA_TAKEBACK (15 R439). -/
def execGestaTakeback (at_ : Nat) (s : State) : Host.Outcome State Fault Refusal :=
  atTime s at_ (true) fun s =>
    whenOn s coreTakeback

/-- FAULT_MESSAGE (15 R416). -/
def execFaultMessage (src : Nat) (bad : Option Nat) (parity : Option Nat) (ev : BootEv) (at_ : Nat) (s : State) : Host.Outcome
    State Fault Refusal :=
  atTime s at_ (decide (src < 1024)) fun s =>
    whenOn s fun s => settleSwitch (settleSite ev (Sys2Proof.Machine.faultMessage s src bad parity ev))

/-- SAFE_GO (15 R423). -/
def execSafeGo (m : Master) (s : State) : Host.Outcome State Fault Refusal :=
  atNow s (m.ok) fun s =>
    rowBit s m F.FLT_CTRL_SAFE_GO 0 true fun s => safeEnter s 3 0

/-- FAULT_N_MIN_END (15 R420). -/
def execFaultNMinEnd (at_ : Nat) (s : State) : Host.Outcome State Fault Refusal :=
  atTime s at_ (true) fun s =>
    whenOn s faultMinEnd

/-- CORE_WARM (15 R427). -/
def execCoreWarm (m : Master) (s : State) : Host.Outcome State Fault Refusal :=
  atNow s (m.ok) fun s =>
    rowBit s m F.GLB_RST_CORE_WARM 0 true fun s => rstWrite s m (2 ^ 31) 15

/-- CORE_WARM_RESET_END (15 R427). -/
def execCoreWarmResetEnd (fail : Option Nat) (ev : BootEv) (at_ : Nat) (s : State) : Host.Outcome State Fault Refusal :=
  atTime s at_ (true) fun s =>
    whenLive s fun s => coreWarmEnd s ev fail

/-- PUMP (15 R430). -/
def execPump (m : Master) (s : State) : Host.Outcome State Fault Refusal :=
  atNow s (m.ok) fun s =>
    rowBit s m F.GLB_RST_PUMP 0 true fun s => rstWrite s m (2 ^ 30) 15

/-- PUMP_RESET_END (15 R430). -/
def execPumpResetEnd (at_ : Nat) (s : State) : Host.Outcome State Fault Refusal :=
  atTime s at_ (true) fun s =>
    whenLive s Sys2Proof.Machine.pumpResetEnd

/-- POOL (09 R275). -/
def execPool (m : Master) (s : State) : Host.Outcome State Fault Refusal :=
  atNow s (m.ok) fun s =>
    rowBit s m F.GLB_RST_POOL 0 true fun s => rstWrite s m (2 ^ 29) 15

/-- POOL_RESET_END (15 R431). -/
def execPoolResetEnd (at_ : Nat) (s : State) : Host.Outcome State Fault Refusal :=
  atTime s at_ (true) fun s =>
    whenLive s Sys2Proof.Machine.poolResetEnd

/-- PORT_GO (15 R426). -/
def execPortGo (m : Master) (n : Nat) (s : State) : Host.Outcome State Fault Refusal :=
  atNow s (m.ok && decide (n < 128)) fun s =>
    rowWrite s m .GLB_RST 0 0 (2 ^ 28 + n % 128) 15 fun s => settleSwitch (rstWrite s m (2 ^ 28 + n % 128) 15)

/-- HEALTH_SEND (15 R435). -/
def execHealthSend (at_ : Nat) (s : State) : Host.Outcome State Fault Refusal :=
  atTime s at_ (true) fun s =>
    whenCore s healthDue

/-- HEALTH (15 R436). -/
def execHealth (p : StPkt) (at_ : Nat) (s : State) : Host.Outcome State Fault Refusal :=
  atTime s at_ (decide (p.arr ≤ 161)) fun s =>
    atStation s p 0x05 fun s => settleGroups (healthReceive s p)

/-- SEQ_KNOWN_ANSWER_TEST (15 R434). -/
def execSeqKnownAnswerTest (ok : Bool) (at_ : Nat) (s : State) : Host.Outcome State Fault Refusal :=
  atTime s at_ (true) fun s =>
    whenCore s fun s => settleGroups (seqTest s ok)

/-- COVER_DECIDE_START (15 R436). -/
def execCoverDecideStart (at_ : Nat) (s : State) : Host.Outcome State Fault Refusal :=
  atTime s at_ (true) fun s =>
    whenCore s fun s => settleGroups (coverDecide s)

/-- TAKEBACK_CLAIM (15 R437). -/
def execTakebackClaim (at_ : Nat) (s : State) : Host.Outcome State Fault Refusal :=
  atTime s at_ (true) fun s =>
    whenCore s Sys2Proof.Machine.takebackClaim

/-- TAKEBACK_COMPLETE (15 R437). -/
def execTakebackComplete (at_ : Nat) (s : State) : Host.Outcome State Fault Refusal :=
  atTime s at_ (true) fun s =>
    whenCore s Sys2Proof.Machine.takebackComplete

/-- TAKEBACK_TIMEOUT (15 R437). -/
def execTakebackTimeout (at_ : Nat) (s : State) : Host.Outcome State Fault Refusal :=
  atTime s at_ (true) fun s =>
    whenCore s Sys2Proof.Machine.takebackTimeout

/-- PARTNER_SILENT (15 R438). -/
def execPartnerSilent (at_ : Nat) (s : State) : Host.Outcome State Fault Refusal :=
  atTime s at_ (true) fun s =>
    whenCore s Sys2Proof.Machine.partnerSilent

/-- ALIVE_TOGGLE (15 R421). -/
def execAliveToggle (at_ : Nat) (s : State) : Host.Outcome State Fault Refusal :=
  atTime s at_ (true) fun s =>
    whenOn s Sys2Proof.Machine.aliveToggle

end Sys2Proof.Machine
end

