-- ==== Sys2Proof/Machine/RowsGroups.lean ====
section
/-! DEFINITION. The meanings of the rows: Groups and collective operations (files 06, 08, 05 R140). Each is the row's effect over the
operations of the files before, guarded by its operands' ranges (log 17). -/

namespace Sys2Proof.Machine

open Sys2Proof

/-- DEADLINE_MISS (05 R140). -/
def execDeadlineMiss (g : Nat) (at_ : Nat) (s : State) : Host.Outcome State Fault Refusal :=
  atTime s at_ (decide (g < 4096)) fun s =>
    whenCore s fun s => settleGroups (Sys2Proof.Machine.deadlineMiss s g)

/-- GRP_ENT_WRITE (06 R153). -/
def execGrpEntWrite (m : Master) (g : Nat) (w : Nat) (val : Nat) (be : Nat) (s : State) : Host.Outcome State Fault Refusal :=
  atNow s (m.ok && decide (g < 4096) && decide (val < 2 ^ 32) && beOk m be) fun s =>
    rowWrite s m .GRP_ENT g w val be fun s => groupEntWrite s m g w val be

/-- GRP_RANK_WRITE (06 R155). -/
def execGrpRankWrite (m : Master) (b : Nat) (i : Nat) (val : Nat) (be : Nat) (s : State) : Host.Outcome State Fault Refusal :=
  atNow s (m.ok && decide (b < 2) && decide (val < 2 ^ 32) && beOk m be) fun s =>
    rowWrite s m (rankReg b) i 0 val be fun s => groupRankWrite s m b i val be

/-- CREATE (06 R157). -/
def execCreate (m : Master) (g : Nat) (s : State) : Host.Outcome State Fault Refusal :=
  atNow s (m.ok && decide (g < 4096)) fun s =>
    rowWrite s m .GRP_CMD 0 0 (1 * 2 ^ 28 + g) 15 fun s => settleGroups (groupCreate s g false)

/-- CREATE_SHAPE (06 R158). -/
def execCreateShape (m : Master) (g : Nat) (s : State) : Host.Outcome State Fault Refusal :=
  atNow s (m.ok && decide (g < 4096)) fun s =>
    rowWrite s m .GRP_CMD 0 0 (2 * 2 ^ 28 + g) 15 fun s => settleGroups (groupCreate s g true)

/-- DESTROY (06 R159). -/
def execDestroy (m : Master) (g : Nat) (s : State) : Host.Outcome State Fault Refusal :=
  atNow s (m.ok && decide (g < 4096)) fun s =>
    rowWrite s m .GRP_CMD 0 0 (3 * 2 ^ 28 + g) 15 fun s => settleGroups (groupDestroy s g)

/-- ABORT (06 R159). -/
def execAbort (m : Master) (g : Nat) (s : State) : Host.Outcome State Fault Refusal :=
  atNow s (m.ok && decide (g < 4096)) fun s =>
    rowWrite s m .GRP_CMD 0 0 (4 * 2 ^ 28 + g) 15 fun s => settleGroups (groupAbort s g)

/-- GROUP_FREE (06 R152). -/
def execGroupFree (g : Nat) (at_ : Nat) (s : State) : Host.Outcome State Fault Refusal :=
  atTime s at_ (decide (g < 4096)) fun s =>
    whenCore s fun s => Sys2Proof.Machine.groupFree s g

/-- DOORBELL (06 R168). -/
def execDoorbell (p : StPkt) (at_ : Nat) (s : State) : Host.Outcome State Fault Refusal :=
  atTime s at_ (decide (p.arr ≤ 161)) fun s =>
    atStation s p 0x14 fun s => settleGroups (Sys2Proof.Machine.doorbell s p)

/-- LAUNCH (06 R166). -/
def execLaunch (g : Nat) (at_ : Nat) (s : State) : Host.Outcome State Fault Refusal :=
  atTime s at_ (decide (g < 4096)) fun s =>
    whenCore s fun s => settleGroups (Sys2Proof.Machine.launch s g)

/-- GRANT_REQ (06 R171). -/
def execGrantReq (p : StPkt) (at_ : Nat) (s : State) : Host.Outcome State Fault Refusal :=
  atTime s at_ (decide (p.arr ≤ 161)) fun s =>
    atStation s p 0x10 fun s => settleGroups (Sys2Proof.Machine.grantReq s p)

/-- WAVE_GRANT (08 R222). -/
def execWaveGrant (hostData : Option (List Byte)) (at_ : Nat) (s : State) : Host.Outcome State Fault Refusal :=
  atTime s at_ (true) fun s =>
    whenCore s fun s => settleGroups (Sys2Proof.Machine.waveGrant s hostData)

/-- GRANT (06 R173). -/
def execGrant (p : StPkt) (at_ : Nat) (s : State) : Host.Outcome State Fault Refusal :=
  atTime s at_ (decide (p.arr ≤ 161)) fun s =>
    atStation s p 0x11 fun s => settleGroups (grantReceive s p)

/-- CONTRIB (06 R172). -/
def execContrib (p : StPkt) (at_ : Nat) (s : State) : Host.Outcome State Fault Refusal :=
  atTime s at_ (decide (p.arr ≤ 161)) fun s =>
    atStation s p 0x12 fun s => settleGroups (contribution s p)

/-- DISPATCH (08 R231). -/
def execDispatch (p : StPkt) (at_ : Nat) (s : State) : Host.Outcome State Fault Refusal :=
  atTime s at_ (decide (p.arr ≤ 161)) fun s =>
    atStation s p 0x15 fun s => settleGroups (contribution s p)

/-- EXPERT_OUT (08 R235). -/
def execExpertOut (p : StPkt) (at_ : Nat) (s : State) : Host.Outcome State Fault Refusal :=
  atTime s at_ (decide (p.arr ≤ 161)) fun s =>
    atStation s p 0x16 fun s => settleGroups (contribution s p)

/-- RESULT (08 R224). -/
def execResult (p : StPkt) (at_ : Nat) (s : State) : Host.Outcome State Fault Refusal :=
  atTime s at_ (decide (p.arr ≤ 161)) fun s =>
    atStation s p 0x13 fun s => settleGroups (resultReceive s p)

/-- PROGRESS_TIMEOUT (06 R174). -/
def execProgressTimeout (g : Nat) (at_ : Nat) (s : State) : Host.Outcome State Fault Refusal :=
  atTime s at_ (decide (g < 4096)) fun s =>
    whenCore s fun s => settleGroups (Sys2Proof.Machine.progressTimeout s g)

/-- ABORT_REQ (06 R178). -/
def execAbortReq (p : StPkt) (at_ : Nat) (s : State) : Host.Outcome State Fault Refusal :=
  atTime s at_ (decide (p.arr ≤ 161)) fun s =>
    atStation s p 0x06 fun s => settleGroups (Sys2Proof.Machine.abortReq s p)

/-- SEQCTL_ABORT (06 R179). -/
def execSeqctlAbort (p : StPkt) (at_ : Nat) (s : State) : Host.Outcome State Fault Refusal :=
  atTime s at_ (decide (p.arr ≤ 161)) fun s =>
    atStation s p 0x06 fun s => settleGroups (Sys2Proof.Machine.seqctlAbort s p)

/-- TOKEN (06 R180). -/
def execToken (p : StPkt) (at_ : Nat) (s : State) : Host.Outcome State Fault Refusal :=
  atTime s at_ (decide (p.arr ≤ 161)) fun s =>
    atStation s p 0x06 fun s => settleGroups (tokenReceive s p)

/-- TOKEN_SEND (06 R180). -/
def execTokenSend (g : Nat) (at_ : Nat) (s : State) : Host.Outcome State Fault Refusal :=
  atTime s at_ (decide (g < 4096)) fun s =>
    whenCore s fun s => settleGroups (Sys2Proof.Machine.tokenSend s g)

end Sys2Proof.Machine
end

