-- ==== Sys2Proof/Machine/RowsHost.lean ====
section
/-! DEFINITION. The meanings of the rows: The host interface (file 12). Each is the row's effect over the
operations of the files before, guarded by its operands' ranges (log 17). -/

namespace Sys2Proof.Machine

open Sys2Proof

/-- FUNCTION_LEVEL_RESET (12 R332). -/
def execFunctionLevelReset (ev : BootEv) (at_ : Nat) (s : State) : Host.Outcome State Fault Refusal :=
  atTime s at_ (true) fun s =>
    whenOn s fun s => settleSite ev (hostReset (resetTaken s 5 none))

/-- DL_DOWN (12 R332). -/
def execDlDown (ev : BootEv) (at_ : Nat) (s : State) : Host.Outcome State Fault Refusal :=
  atTime s at_ (true) fun s =>
    whenOn s fun s => settleSite ev (hostReset (resetTaken s 5 none))

/-- HOST_READ_FAIL (12 R331). -/
def execHostReadFail (op : Option Nat) (fail : ReadFail) (at_ : Nat) (s : State) : Host.Outcome State Fault Refusal :=
  atTime s at_ (decide (fail.cause < 4)) fun s =>
    whenLive s fun s => settleGroups (Sys2Proof.Machine.hostReadFail s op fail.addr fail.cause)

/-- CR_EN_WRITE (12 R335). -/
def execCrEnWrite (m : Master) (ring : Nat) (val : Nat) (be : Nat) (s : State) : Host.Outcome State Fault Refusal :=
  atNow s (m.ok && decide (val < 2 ^ 32) && beOk m be) fun s =>
    rowWrite s m .HST_CR ring F.HST_CR_EN.word val be fun s => crWrite s m ring F.HST_CR_EN.word val be

/-- CQ_EN_WRITE (12 R335). -/
def execCqEnWrite (m : Master) (q : Nat) (val : Nat) (be : Nat) (s : State) : Host.Outcome State Fault Refusal :=
  atNow s (m.ok && decide (val < 2 ^ 32) && beOk m be) fun s =>
    rowWrite s m .HST_CQ q F.HST_CQ_EN.word val be fun s => cqWrite s m q F.HST_CQ_EN.word val be

/-- TAIL (12 R336). -/
def execTail (ring : Nat) (val : Nat) (be : Nat) (s : State) : Host.Outcome State Fault Refusal :=
  atNow s (decide (ring < 128) && decide (val < 2 ^ 32) && decide (be < 16)) fun s =>
    whenLive s fun s => if s.host.pcie.dstate = 3 then s else tailWrite s ring val be

/-- HEAD (12 R343). -/
def execHead (q : Nat) (val : Nat) (be : Nat) (s : State) : Host.Outcome State Fault Refusal :=
  atNow s (decide (q < 128) && decide (val < 2 ^ 32) && decide (be < 16)) fun s =>
    whenLive s fun s => if s.host.pcie.dstate = 3 then s else headWrite s q val be

/-- DESCRIPTOR_FETCH (12 R337). -/
def execDescriptorFetch (words : List Word) (at_ : Nat) (s : State) : Host.Outcome State Fault Refusal :=
  atTime s at_ (true) fun s =>
    whenLive s fun s => fetchDescriptor s words

/-- GROUP_OP (12 R346). -/
def execGroupOp (n : Nat) (at_ : Nat) (s : State) : Host.Outcome State Fault Refusal :=
  atTime s at_ (true) fun s =>
    whenCore s fun s => opGroup s n

/-- REG_WRITE (12 R347). -/
def execRegWrite (n : Nat) (words : List Word) (ev : BootEv) (at_ : Nat) (s : State) : Host.Outcome State Fault Refusal :=
  atTime s at_ (true) fun s =>
    whenLive s fun s => settleSite ev (opRegWrite s n words ev)

/-- REG_READ (12 R347). -/
def execRegRead (n : Nat) (at_ : Nat) (s : State) : Host.Outcome State Fault Refusal :=
  atTime s at_ (true) fun s =>
    whenLive s fun s => opRegRead s n

/-- DMA (12 R348). -/
def execDma (n : Nat) (data : List Byte) (evs : List LineEv) (bad : Option Nat) (at_ : Nat) (s : State) : Host.Outcome State
    Fault Refusal :=
  atTime s at_ (true) fun s =>
    whenCore s fun s => opDma s n data evs bad

/-- MIGRATE (12 R349). -/
def execMigrate (n : Nat) (at_ : Nat) (s : State) : Host.Outcome State Fault Refusal :=
  atTime s at_ (true) fun s =>
    whenCore s fun s => opMigrate s n

/-- ROOM_EXPORT (12 R350). -/
def execRoomExport (n : Nat) (evs : List LineEv) (at_ : Nat) (s : State) : Host.Outcome State Fault Refusal :=
  atTime s at_ (true) fun s =>
    whenCore s fun s => opRoomExport s n evs

/-- TEL_DUMP (12 R351). -/
def execTelDump (n : Nat) (fail : Option Nat) (at_ : Nat) (s : State) : Host.Outcome State Fault Refusal :=
  atTime s at_ (true) fun s =>
    whenCore s fun s => opTelDump s n fail

/-- FABRIC_SEND (12 R352). -/
def execFabricSend (n : Nat) (payload : List Byte) (at_ : Nat) (s : State) : Host.Outcome State Fault Refusal :=
  atTime s at_ (true) fun s =>
    whenCore s fun s => settleSwitch (opFabricSend s n payload)

/-- RECV_POST (12 R353). -/
def execRecvPost (n : Nat) (at_ : Nat) (s : State) : Host.Outcome State Fault Refusal :=
  atTime s at_ (true) fun s =>
    whenLive s fun s => opRecvPost s n

/-- NOP (12 R338). -/
def execNop (n : Nat) (at_ : Nat) (s : State) : Host.Outcome State Fault Refusal :=
  atTime s at_ (true) fun s =>
    whenLive s fun s => opNop s n

/-- COMPLETION_WRITE (12 R342). -/
def execCompletionWrite (q : Nat) (at_ : Nat) (s : State) : Host.Outcome State Fault Refusal :=
  atTime s at_ (decide (q < 128)) fun s =>
    whenLive s fun s => Sys2Proof.Machine.completionWrite s q

/-- CQ_IRQ_TIMER (12 R343). -/
def execCqIrqTimer (q : Nat) (at_ : Nat) (s : State) : Host.Outcome State Fault Refusal :=
  atTime s at_ (decide (q < 128)) fun s =>
    whenLive s fun s => cqIrq s q

/-- HOST_PATH_DELIVER (12 R353). -/
def execHostPathDeliver (at_ : Nat) (s : State) : Host.Outcome State Fault Refusal :=
  atTime s at_ (true) fun s =>
    whenCore s fun s => hostDeliver s

end Sys2Proof.Machine
end

