-- ==== Sys2Proof/Machine/RowsLinks.lean ====
section
/-! DEFINITION. The meanings of the rows: Links, lanes and ports (file 11, 15 R428). Each is the row's effect over the
operations of the files before, guarded by its operands' ranges (log 17). -/

namespace Sys2Proof.Machine

open Sys2Proof

/-- LINK_BLOCK_RECEIVE (11 R305). -/
def execLinkBlockReceive (lp : Nat) (blk : RxBlock) (at_ : Nat) (s : State) : Host.Outcome State Fault Refusal :=
  atTime s at_ (decide (lp < 160) && blk.ok) fun s =>
    whenLink s fun s => settleSwitch (blockReceive s lp blk)

/-- LCW_BUILD (11 R310). -/
def execLcwBuild (lp : Nat) (at_ : Nat) (s : State) : Host.Outcome State Fault Refusal :=
  atTime s at_ (decide (lp < 160)) fun s =>
    whenLink s fun s => settleSwitch (Sys2Proof.Machine.lcwBuild s lp)

/-- LCW_RECEIVE (11 R306). -/
def execLcwReceive (lp : Nat) (at_ : Nat) (s : State) : Host.Outcome State Fault Refusal :=
  atTime s at_ (decide (lp < 160)) fun s =>
    whenLink s fun s => settleSwitch (Sys2Proof.Machine.lcwReceive s lp)

/-- REPLAY_TIMEOUT (11 R308). -/
def execReplayTimeout (lp : Nat) (at_ : Nat) (s : State) : Host.Outcome State Fault Refusal :=
  atTime s at_ (decide (lp < 160)) fun s =>
    whenLink s fun s => settleSwitch (Sys2Proof.Machine.replayTimeout s lp)

/-- TRAINING_FRAME_RECEIVE (11 R314). -/
def execTrainingFrameReceive (lp : Nat) (pos : Nat) (frame : Nat) (at_ : Nat) (s : State) : Host.Outcome State Fault Refusal
    :=
  atTime s at_ (decide (lp < 160) && decide (pos < 8)) fun s =>
    whenLink s fun s => settleSwitch (trainingFrame s lp pos frame)

/-- EQ_DONE (11 R317). -/
def execEqDone (lp : Nat) (ready : Nat) (at_ : Nat) (s : State) : Host.Outcome State Fault Refusal :=
  atTime s at_ (decide (lp < 160)) fun s =>
    whenLink s fun s => settleSwitch (Sys2Proof.Machine.eqDone s lp ready)

/-- FEC_LOCK_DONE (11 R314). -/
def execFecLockDone (lp : Nat) (bad : Nat) (at_ : Nat) (s : State) : Host.Outcome State Fault Refusal :=
  atTime s at_ (decide (lp < 160)) fun s =>
    whenLink s fun s => settleSwitch (Sys2Proof.Machine.fecLockDone s lp bad)

/-- DESKEW_DONE (11 R314). -/
def execDeskewDone (lp : Nat) (bad : Nat) (at_ : Nat) (s : State) : Host.Outcome State Fault Refusal :=
  atTime s at_ (decide (lp < 160)) fun s =>
    whenLink s fun s => settleSwitch (Sys2Proof.Machine.deskewDone s lp bad)

/-- BRINGUP_STAGE_TIMEOUT (11 R314). -/
def execBringupStageTimeout (lp : Nat) (at_ : Nat) (s : State) : Host.Outcome State Fault Refusal :=
  atTime s at_ (decide (lp < 160)) fun s =>
    whenLink s fun s => settleSwitch (stageTimeout s lp)

/-- BRINGUP_RETRY (11 R314). -/
def execBringupRetry (lp : Nat) (at_ : Nat) (s : State) : Host.Outcome State Fault Refusal :=
  atTime s at_ (decide (lp < 160)) fun s =>
    whenLink s fun s => settleSwitch (Sys2Proof.Machine.bringupRetry s lp)

/-- IDENT_SEND (11 R318). -/
def execIdentSend (lp : Nat) (at_ : Nat) (s : State) : Host.Outcome State Fault Refusal :=
  atTime s at_ (decide (lp < 160)) fun s =>
    whenLink s fun s => settleSwitch (Sys2Proof.Machine.identSend s lp)

/-- IDENT (11 R318). -/
def execIdent (p : StPkt) (at_ : Nat) (s : State) : Host.Outcome State Fault Refusal :=
  atTime s at_ (decide (p.arr ≤ 161)) fun s =>
    whenLink s fun s => settleSwitch (identReceive s p)

/-- LANE_LOCK_LOSS (11 R320). -/
def execLaneLockLoss (lp : Nat) (mask : Nat) (at_ : Nat) (s : State) : Host.Outcome State Fault Refusal :=
  atTime s at_ (decide (lp < 160)) fun s =>
    whenLink s fun s => settleSwitch (lockLoss s lp mask)

/-- RESTRIPE_DONE (11 R321). -/
def execRestripeDone (lp : Nat) (peer : Nat) (at_ : Nat) (s : State) : Host.Outcome State Fault Refusal :=
  atTime s at_ (decide (lp < 160)) fun s =>
    whenLink s fun s => settleSwitch (Sys2Proof.Machine.restripeDone s lp peer)

/-- DROP (11 R320). -/
def execDrop (m : Master) (l : Nat) (s : State) : Host.Outcome State Fault Refusal :=
  atNow s (m.ok) fun s =>
    rowBit s m F.LNK_CTRL_DROP l true fun s => settleSwitch (lnkCtrlWrite s m l (2 ^ 31) 15)

/-- RETRAIN (11 R319). -/
def execRetrain (m : Master) (n : Nat) (s : State) : Host.Outcome State Fault Refusal :=
  atNow s (m.ok) fun s =>
    rowBit s m F.PRT_CTRL_RETRAIN n false fun s => settleSwitch (portCtl s n (s.rd F.PRT_CTRL_EN n) (s.rd F.PRT_CTRL_LOOP n) true)

/-- PORT_EN_WRITE (11 R319). -/
def execPortEnWrite (m : Master) (n : Nat) (en : Bool) (s : State) : Host.Outcome State Fault Refusal :=
  atNow s (m.ok) fun s =>
    let v := b2n en * 2 ^ 31 + s.rdSw F.PRT_CTRL_LOOP n * 2 ^ 28 + s.rdSw F.PRT_CTRL_CLKMODE n * 2 ^ 26
    rowWrite s m .PRT_CTRL n 0 v 8 fun s => settleSwitch (prtCtrlWrite s m n v 8)

/-- LOOP (11 R324). -/
def execLoop (m : Master) (n : Nat) (k : Nat) (s : State) : Host.Outcome State Fault Refusal :=
  atNow s (m.ok && decide (k < 4)) fun s =>
    let v := s.rdSw F.PRT_CTRL_EN n * 2 ^ 31 + k % 4 * 2 ^ 28 + s.rdSw F.PRT_CTRL_CLKMODE n * 2 ^ 26
    rowWrite s m .PRT_CTRL n 0 v 8 fun s => settleSwitch (prtCtrlWrite s m n v 8)

/-- LOOP_ECHO_END (11 R324). -/
def execLoopEchoEnd (lp : Nat) (at_ : Nat) (s : State) : Host.Outcome State Fault Refusal :=
  atTime s at_ (decide (lp < 160)) fun s =>
    whenLink s fun s => settleSwitch (echoEnd s lp)

/-- EIDLE_ENTER (11 R322). -/
def execEidleEnter (lp : Nat) (at_ : Nat) (s : State) : Host.Outcome State Fault Refusal :=
  atTime s at_ (decide (lp < 160)) fun s =>
    whenLink s fun s => settleSwitch (Sys2Proof.Machine.eidleEnter s lp)

/-- EIDLE_EXIT (11 R322). -/
def execEidleExit (lp : Nat) (at_ : Nat) (s : State) : Host.Outcome State Fault Refusal :=
  atTime s at_ (decide (lp < 160)) fun s =>
    whenLink s fun s => settleSwitch (Sys2Proof.Machine.eidleExit s lp)

/-- ESCAN_GO (11 R323). -/
def execEscanGo (m : Master) (l : Nat) (s : State) : Host.Outcome State Fault Refusal :=
  atNow s (m.ok) fun s =>
    rowBit s m F.LNK_ESCAN_GO l false fun s => Sys2Proof.Machine.escanGo s l

/-- ESCAN_DONE (11 R323). -/
def execEscanDone (l : Nat) (n : Nat) (at_ : Nat) (s : State) : Host.Outcome State Fault Refusal :=
  atTime s at_ (decide (l < 640)) fun s =>
    whenLink s fun s => settleSwitch (Sys2Proof.Machine.escanDone s l n)

/-- PRBS_RX_EN_WRITE (11 R325). -/
def execPrbsRxEnWrite (m : Master) (l : Nat) (val : Nat) (be : Nat) (s : State) : Host.Outcome State Fault Refusal :=
  atNow s (m.ok && decide (val < 2 ^ 32) && beOk m be) fun s =>
    rowWrite s m .LNK_PRBS l 0 val be fun s => prbsWrite s m l val be

/-- PAUSE (15 R428). -/
def execPause (p : StPkt) (at_ : Nat) (s : State) : Host.Outcome State Fault Refusal :=
  atTime s at_ (decide (p.arr ≤ 161)) fun s =>
    whenLink s fun s => settleSwitch (pauseReceive s p)

/-- RESUME (15 R428). -/
def execResume (p : StPkt) (at_ : Nat) (s : State) : Host.Outcome State Fault Refusal :=
  atTime s at_ (decide (p.arr ≤ 161)) fun s =>
    whenLink s fun s => settleSwitch (resumeReceive s p)

/-- PAUSE_LIMIT_EXPIRE (15 R428). -/
def execPauseLimitExpire (lp : Nat) (at_ : Nat) (s : State) : Host.Outcome State Fault Refusal :=
  atTime s at_ (decide (lp < 160)) fun s =>
    whenLink s fun s => settleSwitch (pauseLimit s lp)

end Sys2Proof.Machine
end

