-- ==== Sys2Proof/Machine/RowsMgmt.lean ====
section
/-! DEFINITION. The meanings of the rows: The side-band, MCTP, SPDM, PLDM and the mailboxes (files 12, 14). Each is the row's effect over the
operations of the files before, guarded by its operands' ranges (log 17). -/

namespace Sys2Proof.Machine

open Sys2Proof

/-- READ32 (12 R358). -/
def execRead32 (pcie : Bool) (width : Nat) (len : Nat) (tag : Nat) (off : Nat) (at_ : Nat) (s : State) : Host.Outcome State
    Fault Refusal :=
  atTime s at_ (true) fun s =>
    whenOn s fun s => mctpOpen s pcie fun s => regMsgRead s pcie width len tag off

/-- WRITE32 (12 R358). -/
def execWrite32 (pcie : Bool) (width : Nat) (len : Nat) (tag : Nat) (off : Nat) (val : Nat) (ev : BootEv) (at_ : Nat) (s :
    State) : Host.Outcome State Fault Refusal :=
  atTime s at_ (decide (val < 2 ^ 32)) fun s =>
    whenOn s fun s => mctpOpen s pcie fun s => settleSite ev (regMsgWrite s pcie width len tag off val ev)

/-- SET_ENDPOINT_ID (12 R357). -/
def execSetEndpointId (pcie : Bool) (eid : Nat) (at_ : Nat) (s : State) : Host.Outcome State Fault Refusal :=
  atTime s at_ (true) fun s =>
    whenOn s fun s => mctpSetEid s pcie eid

/-- GET_ENDPOINT_ID (12 R357). -/
def execGetEndpointId (pcie : Bool) (at_ : Nat) (s : State) : Host.Outcome State Fault Refusal :=
  atTime s at_ (true) fun s =>
    whenOn s fun s => mctpGetEid s pcie

/-- GET_MCTP_VERSION_SUPPORT (12 R357). -/
def execGetMctpVersionSupport (pcie : Bool) (kind : Nat) (at_ : Nat) (s : State) : Host.Outcome State Fault Refusal :=
  atTime s at_ (true) fun s =>
    whenOn s fun s => mctpGetVersion s pcie kind

/-- GET_MESSAGE_TYPE_SUPPORT (12 R357). -/
def execGetMessageTypeSupport (pcie : Bool) (at_ : Nat) (s : State) : Host.Outcome State Fault Refusal :=
  atTime s at_ (true) fun s =>
    whenOn s fun s => mctpGetTypes s pcie

/-- GET_VENDOR_DEFINED_MESSAGE_SUPPORT (12 R357). -/
def execGetVendorDefinedMessageSupport (pcie : Bool) (sel : Nat) (at_ : Nat) (s : State) : Host.Outcome State Fault Refusal :=
  atTime s at_ (true) fun s =>
    whenOn s fun s => mctpGetVendor s pcie sel

/-- ENTDAA (12 R356). -/
def execEntdaa (addr : Nat) (at_ : Nat) (s : State) : Host.Outcome State Fault Refusal :=
  atTime s at_ (true) fun s =>
    whenOn s fun s => i3cEntdaa s addr

/-- RSTDAA (12 R356). -/
def execRstdaa (at_ : Nat) (s : State) : Host.Outcome State Fault Refusal :=
  atTime s at_ (true) fun s =>
    whenOn s fun s => i3cSetAddr s none

/-- SETNEWDA (12 R356). -/
def execSetnewda (addr : Nat) (at_ : Nat) (s : State) : Host.Outcome State Fault Refusal :=
  atTime s at_ (true) fun s =>
    whenOn s fun s => i3cDirected s fun s => i3cSetAddr s (some addr)

/-- GETPID (12 R356). -/
def execGetpid (at_ : Nat) (s : State) : Host.Outcome State Fault Refusal :=
  atTime s at_ (true) fun s =>
    whenOn s fun s => i3cDirected s i3cGetPid

/-- GETBCR (12 R356). -/
def execGetbcr (at_ : Nat) (s : State) : Host.Outcome State Fault Refusal :=
  atTime s at_ (true) fun s =>
    whenOn s fun s => i3cDirected s fun s => s.emit (.i3c (Config.blob 1))

/-- GETDCR (12 R356). -/
def execGetdcr (at_ : Nat) (s : State) : Host.Outcome State Fault Refusal :=
  atTime s at_ (true) fun s =>
    whenOn s fun s => i3cDirected s fun s => s.emit (.i3c (Config.blob 2))

/-- GETSTATUS (12 R356). -/
def execGetstatus (at_ : Nat) (s : State) : Host.Outcome State Fault Refusal :=
  atTime s at_ (true) fun s =>
    whenOn s fun s => i3cDirected s i3cGetStatus

/-- GETMRL (12 R356). -/
def execGetmrl (at_ : Nat) (s : State) : Host.Outcome State Fault Refusal :=
  atTime s at_ (true) fun s =>
    whenOn s fun s => i3cDirected s fun s => s.emit (.i3c [0, 69, 1])

/-- GETMWL (12 R356). -/
def execGetmwl (at_ : Nat) (s : State) : Host.Outcome State Fault Refusal :=
  atTime s at_ (true) fun s =>
    whenOn s fun s => i3cDirected s fun s => s.emit (.i3c [0, 69])

/-- ENEC (12 R356). -/
def execEnec (mask : Nat) (at_ : Nat) (s : State) : Host.Outcome State Fault Refusal :=
  atTime s at_ (true) fun s =>
    whenOn s fun s => i3cEvents s true mask

/-- DISEC (12 R356). -/
def execDisec (mask : Nat) (at_ : Nat) (s : State) : Host.Outcome State Fault Refusal :=
  atTime s at_ (true) fun s =>
    whenOn s fun s => i3cEvents s false mask

/-- RSTACT (12 R356). -/
def execRstact (act : Nat) (at_ : Nat) (s : State) : Host.Outcome State Fault Refusal :=
  atTime s at_ (true) fun s =>
    whenOn s fun s => modBus s fun b => { b with rstAct := act % 256 }

/-- GET_VERSION (14 R408). -/
def execGetVersion (way : Nat) (at_ : Nat) (s : State) : Host.Outcome State Fault Refusal :=
  atTime s at_ (decide (way < 3)) fun s =>
    whenOn s fun s => spdmVia s way fun s => spdmVersion s way

/-- GET_CAPABILITIES (14 R408). -/
def execGetCapabilities (way : Nat) (ver : Nat) (at_ : Nat) (s : State) : Host.Outcome State Fault Refusal :=
  atTime s at_ (decide (way < 3)) fun s =>
    whenOn s fun s => spdmVia s way fun s => spdmCaps s way ver

/-- NEGOTIATE_ALGORITHMS (14 R408). -/
def execNegotiateAlgorithms (way : Nat) (at_ : Nat) (s : State) : Host.Outcome State Fault Refusal :=
  atTime s at_ (decide (way < 3)) fun s =>
    whenOn s fun s => spdmVia s way fun s => spdmAlgs s way

/-- GET_DIGESTS (14 R408). -/
def execGetDigests (way : Nat) (at_ : Nat) (s : State) : Host.Outcome State Fault Refusal :=
  atTime s at_ (decide (way < 3)) fun s =>
    whenOn s fun s => spdmVia s way fun s => spdmDigests s way

/-- GET_CERTIFICATE (14 R408). -/
def execGetCertificate (way : Nat) (slot : Nat) (off : Nat) (len : Nat) (at_ : Nat) (s : State) : Host.Outcome State Fault
    Refusal :=
  atTime s at_ (decide (way < 3)) fun s =>
    whenOn s fun s => spdmVia s way fun s => spdmCert s way slot off len

/-- CHALLENGE (14 R408). -/
def execChallenge (way : Nat) (slot : Nat) (nonce : List Byte) (at_ : Nat) (s : State) : Host.Outcome State Fault Refusal :=
  atTime s at_ (decide (way < 3)) fun s =>
    whenOn s fun s => spdmVia s way fun s => spdmChallenge s way slot nonce

/-- GET_MEASUREMENTS (14 R408). -/
def execGetMeasurements (way : Nat) (index : Nat) (nonce : List Byte) (at_ : Nat) (s : State) : Host.Outcome State Fault
    Refusal :=
  atTime s at_ (decide (way < 3)) fun s =>
    whenOn s fun s => spdmVia s way fun s => spdmMeasure s way index nonce

/-- REQUEST_UPDATE (14 R407). -/
def execRequestUpdate (pcie : Bool) (at_ : Nat) (s : State) : Host.Outcome State Fault Refusal :=
  atTime s at_ (true) fun s =>
    whenOn s fun s => pldmVia s pcie fun s => pldmRequest s pcie

/-- PASS_COMPONENT_TABLE (14 R407). -/
def execPassComponentTable (pcie : Bool) (comp : Nat) (at_ : Nat) (s : State) : Host.Outcome State Fault Refusal :=
  atTime s at_ (true) fun s =>
    whenOn s fun s => pldmVia s pcie fun s => pldmTable s pcie comp

/-- UPDATE_COMPONENT (14 R407). -/
def execUpdateComponent (pcie : Bool) (comp : Nat) (at_ : Nat) (s : State) : Host.Outcome State Fault Refusal :=
  atTime s at_ (true) fun s =>
    whenOn s fun s => pldmVia s pcie fun s => pldmUpdate s pcie comp

/-- VERIFY_COMPLETE (14 R407). -/
def execVerifyComplete (pcie : Bool) (at_ : Nat) (s : State) : Host.Outcome State Fault Refusal :=
  atTime s at_ (true) fun s =>
    whenOn s fun s => pldmVia s pcie fun s => pldmVerify s pcie

/-- APPLY_COMPLETE (14 R407). -/
def execApplyComplete (pcie : Bool) (at_ : Nat) (s : State) : Host.Outcome State Fault Refusal :=
  atTime s at_ (true) fun s =>
    whenOn s fun s => pldmVia s pcie fun s => pldmApply s pcie

/-- ACTIVATE_FIRMWARE (14 R407). -/
def execActivateFirmware (act : Activate) (ev : BootEv) (at_ : Nat) (s : State) : Host.Outcome State Fault Refusal :=
  atTime s at_ (true) fun s =>
    whenOn s fun s => pldmVia s act.pcie fun s => pldmActivate s act.pcie act.self ev

/-- GET_INFO (14 R409). -/
def execGetInfo (mb : Nat) (at_ : Nat) (s : State) : Host.Outcome State Fault Refusal :=
  atTime s at_ (decide (mb < 2)) fun s =>
    whenOn s fun s => mbServe s mb 1 fun s => mbGetInfo s mb

/-- FLASH_READ (14 R409). -/
def execFlashRead (mb : Nat) (at_ : Nat) (s : State) : Host.Outcome State Fault Refusal :=
  atTime s at_ (decide (mb < 2)) fun s =>
    whenOn s fun s => mbServe s mb 2 fun s => mbFlashRead s mb

/-- FLASH_ERASE (14 R409). -/
def execFlashErase (mb : Nat) (ok : Bool) (at_ : Nat) (s : State) : Host.Outcome State Fault Refusal :=
  atTime s at_ (decide (mb < 2)) fun s =>
    whenOn s fun s => mbServe s mb 3 fun s => mbFlashErase s mb ok

/-- FLASH_WRITE (14 R409). -/
def execFlashWrite (mb : Nat) (ok : Bool) (at_ : Nat) (s : State) : Host.Outcome State Fault Refusal :=
  atTime s at_ (decide (mb < 2)) fun s =>
    whenOn s fun s => mbServe s mb 4 fun s => mbFlashWrite s mb ok

/-- VERIFY_SLOT (14 R409). -/
def execVerifySlot (mb : Nat) (at_ : Nat) (s : State) : Host.Outcome State Fault Refusal :=
  atTime s at_ (decide (mb < 2)) fun s =>
    whenOn s fun s => mbServe s mb 5 fun s => mbVerifySlot s mb

/-- SET_PREFER (14 R409). -/
def execSetPrefer (mb : Nat) (at_ : Nat) (s : State) : Host.Outcome State Fault Refusal :=
  atTime s at_ (decide (mb < 2)) fun s =>
    whenOn s fun s => mbServe s mb 6 fun s => mbSetPrefer s mb

/-- CONFIRM (14 R409). -/
def execConfirm (mb : Nat) (at_ : Nat) (s : State) : Host.Outcome State Fault Refusal :=
  atTime s at_ (decide (mb < 2)) fun s =>
    whenOn s fun s => mbServe s mb 7 fun s => mbConfirm s mb

/-- LOG_READ (14 R409). -/
def execLogRead (mb : Nat) (at_ : Nat) (s : State) : Host.Outcome State Fault Refusal :=
  atTime s at_ (decide (mb < 2)) fun s =>
    whenOn s fun s => mbServe s mb 8 fun s => mbLogRead s mb

/-- DOE_DISCOVERY (12 R330). -/
def execDoeDiscovery (index : Nat) (at_ : Nat) (s : State) : Host.Outcome State Fault Refusal :=
  atTime s at_ (true) fun s =>
    whenOn s fun s => Sys2Proof.Machine.doeDiscovery s index

/-- MAILBOX_UNKNOWN_CMD (14 R409). -/
def execMailboxUnknownCmd (mb : Nat) (at_ : Nat) (s : State) : Host.Outcome State Fault Refusal :=
  atTime s at_ (decide (mb < 2)) fun s =>
    whenOn s fun s => mbUnknown s mb

/-- VENDOR_UNKNOWN_CMD (12 R358). -/
def execVendorUnknownCmd (pcie : Bool) (cmd : Nat) (tag : Nat) (off : Nat) (at_ : Nat) (s : State) : Host.Outcome State Fault
    Refusal :=
  atTime s at_ (true) fun s =>
    whenOn s fun s => mctpOpen s pcie fun s => regMsgUnknown s pcie cmd tag off

/-- PLDM_FIRMWARE_TRANSFER (14 R407). -/
def execPldmFirmwareTransfer (pcie : Bool) (off : Nat) (data : List Byte) (ok : Bool) (at_ : Nat) (s : State) : Host.Outcome
    State Fault Refusal :=
  atTime s at_ (true) fun s =>
    whenOn s fun s => pldmVia s pcie fun s => pldmData s pcie off data ok

end Sys2Proof.Machine
end

