-- ==== Sys2Proof/Machine/RowsPower.lean ====
section
/-! DEFINITION. The meanings of the rows: Power, pins and temperature (file 16). Each is the row's effect over the
operations of the files before, guarded by its operands' ranges (log 17). -/

namespace Sys2Proof.Machine

open Sys2Proof

/-- POWER_LOOP (16 R448). -/
def execPowerLoop (p : Nat) (at_ : Nat) (s : State) : Host.Outcome State Fault Refusal :=
  atTime s at_ (true) fun s =>
    whenOn s fun s => Sys2Proof.Machine.powerLoop s p

/-- PWR_CAP_HOST_WRITE (16 R443). -/
def execPwrCapHostWrite (m : Master) (val : Nat) (be : Nat) (s : State) : Host.Outcome State Fault Refusal :=
  atNow s (m.ok && decide (val < 2 ^ 32) && beOk m be) fun s =>
    rowWrite s m .PWR_CAP_HOST 0 0 val be fun s => capHostWrite s m val be

/-- PWR_CAP_RACK_WRITE (16 R444). -/
def execPwrCapRackWrite (m : Master) (val : Nat) (be : Nat) (s : State) : Host.Outcome State Fault Refusal :=
  atNow s (m.ok && decide (val < 2 ^ 32) && beOk m be) fun s =>
    rowWrite s m .PWR_CAP_RACK 0 0 val be fun s => capRackWrite s m val be

/-- RACK_LEASE_LAPSE (16 R444). -/
def execRackLeaseLapse (at_ : Nat) (s : State) : Host.Outcome State Fault Refusal :=
  atTime s at_ (true) fun s =>
    whenOn s leaseLapse

/-- CAPDROP_END (16 R452). -/
def execCapdropEnd (at_ : Nat) (s : State) : Host.Outcome State Fault Refusal :=
  atTime s at_ (true) fun s =>
    whenOn s Sys2Proof.Machine.capdropEnd

/-- PWR_BRK_REQ_WRITE (16 R450). -/
def execPwrBrkReqWrite (m : Master) (val : Nat) (be : Nat) (s : State) : Host.Outcome State Fault Refusal :=
  atNow s (m.ok && decide (val < 2 ^ 32) && beOk m be) fun s =>
    rowWrite s m .PWR_BRK_REQ 0 0 val be fun s => brkReqWrite s m val be

/-- PWRBRK_N_CHANGE (16 R450). -/
def execPwrbrkNChange (high : Bool) (lowNs : Nat) (at_ : Nat) (s : State) : Host.Outcome State Fault Refusal :=
  atTime s at_ (true) fun s =>
    let s1 : State := { s with pin := { s.pin with pwrbrk := high } }
    whenOn s1 fun s => brakePin s F.PWR_BRK_STAT_PIN high lowNs

/-- COOLANT_FAIL_N_CHANGE (16 R450). -/
def execCoolantFailNChange (high : Bool) (lowNs : Nat) (at_ : Nat) (s : State) : Host.Outcome State Fault Refusal :=
  atTime s at_ (true) fun s =>
    let s1 : State := { s with pin := { s.pin with coolant := high } }
    whenOn s1 fun s => coolantPin s high lowNs

/-- BUS_UV_N_CHANGE (16 R450). -/
def execBusUvNChange (high : Bool) (lowNs : Nat) (at_ : Nat) (s : State) : Host.Outcome State Fault Refusal :=
  atTime s at_ (true) fun s =>
    let s1 : State := { s with pin := { s.pin with busUv := high } }
    whenOn s1 fun s => brakePin s F.PWR_BRK_STAT_UV high lowNs

/-- COOLANT_SHUTDOWN (16 R453). -/
def execCoolantShutdown (at_ : Nat) (s : State) : Host.Outcome State Fault Refusal :=
  atTime s at_ (true) fun s =>
    whenOn s Sys2Proof.Machine.coolantShutdown

/-- DIODE_SAMPLE (16 R454). -/
def execDiodeSample (rs : List Int) (at_ : Nat) (s : State) : Host.Outcome State Fault Refusal :=
  atTime s at_ (true) fun s =>
    whenOn s fun s => Sys2Proof.Machine.diodeSample s rs

/-- THERMISTOR_READ (16 R458). -/
def execThermistorRead (tin : Int) (tout : Int) (loopR : Nat) (at_ : Nat) (s : State) : Host.Outcome State Fault Refusal :=
  atTime s at_ (true) fun s =>
    whenOn s fun s => Sys2Proof.Machine.thermistorRead s tin tout loopR

/-- PWR_THERM_CFG_WRITE (16 R455). -/
def execPwrThermCfgWrite (m : Master) (val : Nat) (be : Nat) (s : State) : Host.Outcome State Fault Refusal :=
  atNow s (m.ok && decide (val < 2 ^ 32) && beOk m be) fun s =>
    rowWrite s m .PWR_THERM_CFG 0 0 val be fun s => thermCfgWrite s m val be

/-- THERMTRIP_N (16 R457). -/
def execThermtripN (at_ : Nat) (s : State) : Host.Outcome State Fault Refusal :=
  atTime s at_ (true) fun s =>
    thermTrip s

/-- EPO_N (16 R461). -/
def execEpoN (high : Bool) (lowNs : Nat) (at_ : Nat) (s : State) : Host.Outcome State Fault Refusal :=
  atTime s at_ (true) fun s =>
    epoPin s high lowNs

end Sys2Proof.Machine
end

