-- ==== Sys2Proof/Machine/RowsPumps.lean ====
section
/-! DEFINITION. The meanings of the rows: Pumps and cisterns (file 07). Each is the row's effect over the
operations of the files before, guarded by its operands' ranges (log 17). -/

namespace Sys2Proof.Machine

open Sys2Proof

/-- SWEEP_START (07 R189). -/
def execSweepStart (g : Nat) (idx : Nat) (at_ : Nat) (s : State) : Host.Outcome State Fault Refusal :=
  atTime s at_ (decide (g < 4096)) fun s =>
    whenCore s fun s => settleGroups (Sys2Proof.Machine.sweepStart s g idx)

/-- SWEEP_DONE (07 R208). -/
def execSweepDone (g : Nat) (idx : Nat) (mismatch : Bool) (parity : Option Bool) (at_ : Nat) (s : State) : Host.Outcome State
    Fault Refusal :=
  atTime s at_ (decide (g < 4096)) fun s =>
    whenCore s fun s => settleGroups (Sys2Proof.Machine.sweepDone s g idx mismatch parity)

/-- PUMP_DRAINED (07 R186). -/
def execPumpDrained (n : Nat) (at_ : Nat) (s : State) : Host.Outcome State Fault Refusal :=
  atTime s at_ (decide (n < 168)) fun s =>
    whenCore s fun s => Sys2Proof.Machine.pumpDrained s n

/-- RETIRE (07 R186). -/
def execRetire (m : Master) (n : Nat) (s : State) : Host.Outcome State Fault Refusal :=
  atNow s (m.ok) fun s =>
    rowBit s m F.PMP_CTRL_RETIRE n true fun s => settleGroups (pumpRetire s n)

/-- TEST_GO (07 R210). -/
def execTestGo (m : Master) (n : Nat) (s : State) : Host.Outcome State Fault Refusal :=
  atNow s (m.ok) fun s =>
    rowBit s m F.PMP_CTRL_TEST_GO n true fun s => pumpTestGo s n

/-- SELF_TEST_DONE (07 R210). -/
def execSelfTestDone (n : Nat) (nfail : Nat) (at_ : Nat) (s : State) : Host.Outcome State Fault Refusal :=
  atTime s at_ (decide (n < 168)) fun s =>
    whenCore s fun s => settleGroups (pumpTestDone s n nfail)

/-- RESTORE (07 R186). -/
def execRestore (m : Master) (n : Nat) (s : State) : Host.Outcome State Fault Refusal :=
  atNow s (m.ok) fun s =>
    rowBit s m F.PMP_CTRL_RESTORE n true fun s => pumpRestore s m n

/-- CISTERN_SCRUB (07 R214). -/
def execCisternScrub (n : Nat) (fail : Bool) (chunk : Option (Nat × Nat)) (bad : Bool) (at_ : Nat) (s : State) : Host.Outcome
    State Fault Refusal :=
  atTime s at_ (decide (n < 168)) fun s =>
    whenCore s fun s => settleGroups (Sys2Proof.Machine.cisternScrub s n fail chunk bad)

end Sys2Proof.Machine
end

