-- ==== Sys2Proof/Machine/RowsRegs.lean ====
section
/-! DEFINITION. The meanings of the rows: Register writes and reads in general, GLB_PLACE (files 01, 12, 13). Each is the row's effect over the
operations of the files before, guarded by its operands' ranges (log 17). -/

namespace Sys2Proof.Machine

open Sys2Proof

/-- REGISTER_WRITE (13 R374). -/
def execRegisterWrite (m : Master) (off : Nat) (val : Nat) (be : Nat) (ev : BootEv) (s : State) : Host.Outcome State Fault
    Refusal :=
  atNow s (accessOk m off be && decide (val < 2 ^ (32 * beWords be))) fun s => settleSite ev (accessWrite ev s m off val be)

/-- LATCHED_PAIR_READ (13 R370, R383). -/
def execLatchedPairRead (m : Master) (off : Nat) (acc : ReadAcc) (s : State) : Host.Outcome State Fault Refusal :=
  atNow s (accessOk m off acc.be) fun s => accessRead s m off acc

/-- GLB_PLACE_WRITE (01 R30). -/
def execGlbPlaceWrite (m : Master) (val : Nat) (be : Nat) (s : State) : Host.Outcome State Fault Refusal :=
  atNow s (m.ok && decide (val < 2 ^ 32) && beOk m be) fun s =>
    rowWrite s m .GLB_PLACE 0 0 val be fun s => settleSwitch (placeWrite s m val be)

/-- LOCK (01 R27). -/
def execLock (m : Master) (val : Nat) (be : Nat) (s : State) : Host.Outcome State Fault Refusal :=
  atNow s (m.ok && decide (val < 2 ^ 32) && beOk m be) fun s =>
    let v := if bitAt val 31 then val else val + 2 ^ 31
    rowWrite s m .GLB_PLACE 0 0 v (Nat.lor be 8) fun s => settleSwitch (placeWrite s m v (Nat.lor be 8))

end Sys2Proof.Machine
end

