-- ==== Sys2Proof/Machine/RowsRooms.lean ====
section
/-! DEFINITION. The meanings of the rows: Rooms (file 10). Each is the row's effect over the
operations of the files before, guarded by its operands' ranges (log 17). -/

namespace Sys2Proof.Machine

open Sys2Proof

/-- ROOM_SNAP (10 R284). -/
def execRoomSnap (p : StPkt) (badLine : Option Nat) (at_ : Nat) (s : State) : Host.Outcome State Fault Refusal :=
  atTime s at_ (decide (p.arr ≤ 161)) fun s =>
    atStation s p 0x40 fun s => roomWrite s p true badLine

/-- ROOM_JRNL (10 R284). -/
def execRoomJrnl (p : StPkt) (badLine : Option Nat) (at_ : Nat) (s : State) : Host.Outcome State Fault Refusal :=
  atTime s at_ (decide (p.arr ≤ 161)) fun s =>
    atStation s p 0x41 fun s => roomWrite s p false badLine

/-- ROOM_READ (10 R286). -/
def execRoomRead (p : StPkt) (at_ : Nat) (s : State) : Host.Outcome State Fault Refusal :=
  atTime s at_ (decide (p.arr ≤ 161)) fun s =>
    atStation s p 0x42 fun s => Sys2Proof.Machine.roomRead s p

/-- HEARTBEAT_CHECK (10 R292). -/
def execHeartbeatCheck (at_ : Nat) (s : State) : Host.Outcome State Fault Refusal :=
  atTime s at_ (true) fun s =>
    whenCore s Sys2Proof.Machine.heartbeatCheck

/-- HB_LATE_CLEAR (10 R292). -/
def execHbLateClear (m : Master) (i : Nat) (val : Nat) (be : Nat) (s : State) : Host.Outcome State Fault Refusal :=
  atNow s (m.ok && decide (val < 2 ^ 32) && beOk m be) fun s =>
    rowWrite s m .RMS_HB_LATE i 0 val be fun s => lateClear s m i val be

end Sys2Proof.Machine
end

