-- ==== Sys2Proof/Machine/RowsSwitch.lean ====
section
/-! DEFINITION. The meanings of the rows: The switch core and egress (files 02, 03, 04, 11 R326). Each is the row's effect over the
operations of the files before, guarded by its operands' ranges (log 17). -/

namespace Sys2Proof.Machine

open Sys2Proof

/-- STAGE_ONE_ADMIT (03 R73). -/
def execStageOneAdmit (i : Nat) (k : Nat) (at_ : Nat) (s : State) : Host.Outcome State Fault Refusal :=
  atTime s at_ (decide (i < 80) && decide (k < 80)) fun s =>
    whenCore s fun s => settleSwitch (stageOne s i k)

/-- STAGE_TWO_MOVE (03 R76). -/
def execStageTwoMove (k : Nat) (pos : Nat) (par : Option Nat) (at_ : Nat) (s : State) : Host.Outcome State Fault Refusal :=
  atTime s at_ (decide (k < 80) && decide (pos ≤ 80)) fun s =>
    whenCore s fun s => settleSwitch (stageTwo s k pos par)

/-- RESEQUENCER_TIMEOUT (03 R77). -/
def execResequencerTimeout (src : Nat) (pos : Nat) (vc : Nat) (at_ : Nat) (s : State) : Host.Outcome State Fault Refusal :=
  atTime s at_ (decide (src < 160) && decide (pos ≤ 80) && decide (vc < 8)) fun s =>
    whenCore s fun s => settleSwitch (reseqSkip s src pos vc)

/-- EGRESS_CELL_SEND (04 R118). -/
def execEgressCellSend (lp : Nat) (bad : SlotPar) (tx : Bool) (at_ : Nat) (s : State) : Host.Outcome State Fault Refusal :=
  atTime s at_ (decide (lp < 160)) fun s =>
    whenLink s fun s => settleSwitch (match bad.cist with
      | none => egressSlot s lp bad.store tx
      | some failed => egressCistern s lp bad.store tx failed)

/-- INTER_CELL_GAP_TIMEOUT (02 R51). -/
def execInterCellGapTimeout (lp : Nat) (vc : Nat) (at_ : Nat) (s : State) : Host.Outcome State Fault Refusal :=
  atTime s at_ (decide (lp < 160) && decide (vc < 8)) fun s =>
    whenCore s fun s => settleSwitch (gapTimeout s lp vc)

/-- RESIDENCY_LIMIT (04 R115). -/
def execResidencyLimit (pid : Nat) (at_ : Nat) (s : State) : Host.Outcome State Fault Refusal :=
  atTime s at_ (true) fun s =>
    whenCore s fun s => settleSwitch (Sys2Proof.Machine.residencyLimit s pid)

/-- STARVE_PROMOTION (04 R119). -/
def execStarvePromotion (lp : Nat) (vc : Nat) (at_ : Nat) (s : State) : Host.Outcome State Fault Refusal :=
  atTime s at_ (decide (lp < 160) && decide (vc < 8)) fun s =>
    whenCore s fun s => settleSwitch (starvePromote s lp vc)

/-- FENCE_RELEASE (04 R113). -/
def execFenceRelease (lp : Nat) (at_ : Nat) (s : State) : Host.Outcome State Fault Refusal :=
  atTime s at_ (decide (lp < 160)) fun s =>
    whenCore s fun s => settleSwitch (Sys2Proof.Machine.fenceRelease s lp)

/-- PORT_FLUSH_DONE (03 R98). -/
def execPortFlushDone (lp : Nat) (at_ : Nat) (s : State) : Host.Outcome State Fault Refusal :=
  atTime s at_ (decide (lp < 160)) fun s =>
    whenLink s fun s => settleSwitch (flushOver s lp)

/-- SWC_FWD_WRITE (03 R84). -/
def execSwcFwdWrite (m : Master) (b : Nat) (pset : Bool) (i : Nat) (val : Nat) (be : Nat) (s : State) : Host.Outcome State
    Fault Refusal :=
  atNow s (m.ok && decide (b < 2) && decide (val < 2 ^ 32) && beOk m be) fun s =>
    let rg := if pset then psetReg b else fwdReg b
    rowWrite s m rg i 0 val be fun s => fwdWrite s m b rg i val be

/-- SEAL_A (03 R85). -/
def execSealA (m : Master) (s : State) : Host.Outcome State Fault Refusal :=
  atNow s (m.ok) fun s =>
    rowBit s m F.SWC_BANK_CTRL_SEAL_A 0 false fun s => sealBank s 0

/-- SEAL_B (03 R85). -/
def execSealB (m : Master) (s : State) : Host.Outcome State Fault Refusal :=
  atNow s (m.ok) fun s =>
    rowBit s m F.SWC_BANK_CTRL_SEAL_B 0 false fun s => sealBank s 1

/-- BANK_DRAIN_END (03 R85). -/
def execBankDrainEnd (at_ : Nat) (s : State) : Host.Outcome State Fault Refusal :=
  atTime s at_ (true) fun s =>
    whenCore s fun s => settleSwitch (Sys2Proof.Machine.bankDrainEnd s)

/-- REORDER_HOLD_EXPIRE (11 R326). -/
def execReorderHoldExpire (lp : Nat) (vc : Nat) (at_ : Nat) (s : State) : Host.Outcome State Fault Refusal :=
  atTime s at_ (decide (lp < 160) && decide (vc < 8)) fun s =>
    whenLink s fun s => reorderExpire s lp vc

end Sys2Proof.Machine
end

