-- ==== Sys2Proof/Machine/RowsSync.lean ====
section
/-! DEFINITION. The meanings of the rows: Sync objects (file 09). Each is the row's effect over the
operations of the files before, guarded by its operands' ranges (log 17). -/

namespace Sys2Proof.Machine

open Sys2Proof

/-- SO_READ (09 R268). -/
def execSoRead (p : StPkt) (at_ : Nat) (s : State) : Host.Outcome State Fault Refusal :=
  atTime s at_ (decide (p.arr ≤ 161)) fun s =>
    atStation s p 0x30 fun s => settleSwitch (soOp s p 0)

/-- SO_FETCH_ADD (09 R268). -/
def execSoFetchAdd (p : StPkt) (at_ : Nat) (s : State) : Host.Outcome State Fault Refusal :=
  atTime s at_ (decide (p.arr ≤ 161)) fun s =>
    atStation s p 0x30 fun s => settleSwitch (soOp s p 1)

/-- SO_COMPARE_SWAP (09 R268). -/
def execSoCompareSwap (p : StPkt) (at_ : Nat) (s : State) : Host.Outcome State Fault Refusal :=
  atTime s at_ (decide (p.arr ≤ 161)) fun s =>
    atStation s p 0x30 fun s => settleSwitch (soOp s p 2)

/-- WAIT_GE (09 R271). -/
def execWaitGe (p : StPkt) (at_ : Nat) (s : State) : Host.Outcome State Fault Refusal :=
  atTime s at_ (decide (p.arr ≤ 161)) fun s =>
    atStation s p 0x30 fun s => settleSwitch (soOp s p 3)

/-- WAIT_EQ (09 R271). -/
def execWaitEq (p : StPkt) (at_ : Nat) (s : State) : Host.Outcome State Fault Refusal :=
  atTime s at_ (decide (p.arr ≤ 161)) fun s =>
    atStation s p 0x30 fun s => settleSwitch (soOp s p 4)

/-- SIGNAL (09 R268). -/
def execSignal (p : StPkt) (at_ : Nat) (s : State) : Host.Outcome State Fault Refusal :=
  atTime s at_ (decide (p.arr ≤ 161)) fun s =>
    atStation s p 0x30 fun s => settleSwitch (soOp s p 5)

/-- SO_CANCEL (09 R268). -/
def execSoCancel (p : StPkt) (at_ : Nat) (s : State) : Host.Outcome State Fault Refusal :=
  atTime s at_ (decide (p.arr ≤ 161)) fun s =>
    atStation s p 0x30 fun s => settleSwitch (soOp s p 6)

/-- SO_WAIT_TIMEOUT (09 R271). -/
def execSoWaitTimeout (n : Nat) (k : Nat) (at_ : Nat) (s : State) : Host.Outcome State Fault Refusal :=
  atTime s at_ (decide (n < 8192)) fun s =>
    whenCore s fun s => settleSwitch (soTimeout s n k)

/-- SO_CMD_READ (09 R268). -/
def execSoCmdRead (m : Master) (val : Nat) (be : Nat) (s : State) : Host.Outcome State Fault Refusal :=
  atNow s (m.ok && decide (val < 2 ^ 32) && beOk m be) fun s =>
    rowWrite s m .WEL_SO_CMD 0 0 val be fun s => settleSwitch (soCmdRow s m val be 0)

/-- SO_CMD_FETCH_ADD (09 R268). -/
def execSoCmdFetchAdd (m : Master) (val : Nat) (be : Nat) (s : State) : Host.Outcome State Fault Refusal :=
  atNow s (m.ok && decide (val < 2 ^ 32) && beOk m be) fun s =>
    rowWrite s m .WEL_SO_CMD 0 0 val be fun s => settleSwitch (soCmdRow s m val be 1)

/-- SO_CMD_COMPARE_SWAP (09 R268). -/
def execSoCmdCompareSwap (m : Master) (val : Nat) (be : Nat) (s : State) : Host.Outcome State Fault Refusal :=
  atNow s (m.ok && decide (val < 2 ^ 32) && beOk m be) fun s =>
    rowWrite s m .WEL_SO_CMD 0 0 val be fun s => settleSwitch (soCmdRow s m val be 2)

/-- SO_CMD_SIGNAL (09 R268). -/
def execSoCmdSignal (m : Master) (val : Nat) (be : Nat) (s : State) : Host.Outcome State Fault Refusal :=
  atNow s (m.ok && decide (val < 2 ^ 32) && beOk m be) fun s =>
    rowWrite s m .WEL_SO_CMD 0 0 val be fun s => settleSwitch (soCmdRow s m val be 5)

/-- SO_TYPE_WRITE (09 R273). -/
def execSoTypeWrite (m : Master) (n : Nat) (w : Nat) (val : Nat) (be : Nat) (s : State) : Host.Outcome State Fault Refusal :=
  atNow s (m.ok && decide (val < 2 ^ 32) && beOk m be) fun s =>
    rowWrite s m .WEL_SO n w val be fun s => if w ≤ 1 then Sys2Proof.Machine.soTypeWrite s m n w val be else s

/-- VAL_LO_WRITE (09 R273). -/
def execValLoWrite (m : Master) (n : Nat) (val : Nat) (be : Nat) (s : State) : Host.Outcome State Fault Refusal :=
  atNow s (m.ok && decide (val < 2 ^ 32) && beOk m be) fun s =>
    rowWrite s m .WEL_SO n 2 val be fun s => soValLo s m n val be

/-- VAL_HI_WRITE (09 R273). -/
def execValHiWrite (m : Master) (n : Nat) (val : Nat) (be : Nat) (s : State) : Host.Outcome State Fault Refusal :=
  atNow s (m.ok && decide (val < 2 ^ 32) && beOk m be) fun s =>
    rowWrite s m .WEL_SO n 3 val be fun s => settleSwitch (soValHi s m n val be)

end Sys2Proof.Machine
end

