-- ==== Sys2Proof/Machine/RowsTel.lean ====
section
/-! DEFINITION. The meanings of the rows: Telemetry (file 17). Each is the row's effect over the
operations of the files before, guarded by its operands' ranges (log 17). -/

namespace Sys2Proof.Machine

open Sys2Proof

/-- COUNTER_LOW_WRITE (17 R464). -/
def execCounterLowWrite (m : Master) (off : Nat) (val : Nat) (be : Nat) (s : State) : Host.Outcome State Fault Refusal :=
  atNow s (m.ok && decide (off < 1601536) && decide (val < 2 ^ 32) && beOk m be) fun s =>
    rowWrite s m .TEL_CNT (off / 8) 0 val be fun s => counterLow s m (off / 8 * 8) val be

/-- COUNTER_HIGH_WRITE (17 R464). -/
def execCounterHighWrite (m : Master) (off : Nat) (val : Nat) (be : Nat) (s : State) : Host.Outcome State Fault Refusal :=
  atNow s (m.ok && decide (off < 1601536) && decide (val < 2 ^ 32) && beOk m be) fun s =>
    rowWrite s m .TEL_CNT (off / 8) 1 val be fun s => counterHigh s m (off / 8 * 8) val be

/-- BW_WINDOW_END (17 R471). -/
def execBwWindowEnd (at_ : Nat) (s : State) : Host.Outcome State Fault Refusal :=
  atTime s at_ (true) fun s =>
    whenCore s Sys2Proof.Machine.bwWindowEnd

/-- TEL_BW_CFG_WRITE (17 R471). -/
def execTelBwCfgWrite (m : Master) (val : Nat) (be : Nat) (s : State) : Host.Outcome State Fault Refusal :=
  atNow s (m.ok && decide (val < 2 ^ 32) && beOk m be) fun s =>
    rowWrite s m .TEL_BW_CFG 0 0 val be fun s => bwCfgWrite s m val be

/-- TEL_RING_CFG_WRITE (17 R475). -/
def execTelRingCfgWrite (m : Master) (val : Nat) (be : Nat) (s : State) : Host.Outcome State Fault Refusal :=
  atNow s (m.ok && decide (val < 2 ^ 32) && beOk m be) fun s =>
    rowWrite s m .TEL_RING_CFG 0 0 val be fun s => ringCfgWrite s m val be

/-- PERIODIC_DUMP_START (17 R476). -/
def execPeriodicDumpStart (fail : Option Nat) (at_ : Nat) (s : State) : Host.Outcome State Fault Refusal :=
  atTime s at_ (true) fun s =>
    whenCore s fun s => periodicDump s fail

/-- DUMP_END (17 R474). -/
def execDumpEnd (fail : Option Nat) (at_ : Nat) (s : State) : Host.Outcome State Fault Refusal :=
  atTime s at_ (true) fun s =>
    whenCore s fun s => Sys2Proof.Machine.dumpEnd s fail

end Sys2Proof.Machine
end

