-- ==== Sys2Proof/Machine/RowsTime.lean ====
section
/-! DEFINITION. The meanings of the rows: Fabric time, its source and timetables (file 05). Each is the row's effect over the
operations of the files before, guarded by its operands' ranges (log 17). -/

namespace Sys2Proof.Machine

open Sys2Proof

/-- TICK_EDGE (05 R129). -/
def execTickEdge (high : Nat) (at_ : Nat) (s : State) : Host.Outcome State Fault Refusal :=
  atTime s at_ (true) fun s =>
    whenOn s fun s => Sys2Proof.Machine.tickEdge s high

/-- HOLDOVER_ENTER (05 R132). -/
def execHoldoverEnter (at_ : Nat) (s : State) : Host.Outcome State Fault Refusal :=
  atTime s at_ (true) fun s =>
    whenOn s Sys2Proof.Machine.holdoverEnter

/-- TICK_BOUNDARY (05 R139). -/
def execTickBoundary (at_ : Nat) (s : State) : Host.Outcome State Fault Refusal :=
  atTime s at_ (true) fun s =>
    whenCore s Sys2Proof.Machine.tickBoundary

/-- INVAL (05 R126). -/
def execInval (m : Master) (s : State) : Host.Outcome State Fault Refusal :=
  atNow s (m.ok) fun s =>
    rowBit s m F.TIM_CTRL_INVAL 0 false fun s => timeInval s

/-- LOAD_ARM (05 R131). -/
def execLoadArm (m : Master) (s : State) : Host.Outcome State Fault Refusal :=
  atNow s (m.ok) fun s =>
    rowBit s m F.TIM_CTRL_LOAD_ARM 0 false fun s => timeLoadArm s m

/-- LOAD_TAKE_EFFECT (05 R131). -/
def execLoadTakeEffect (at_ : Nat) (s : State) : Host.Outcome State Fault Refusal :=
  atTime s at_ (true) fun s =>
    whenCore s Sys2Proof.Machine.loadTakeEffect

/-- TIM_CTRL_SRC_WRITE (05 R126). -/
def execTimCtrlSrcWrite (m : Master) (val : Nat) (be : Nat) (s : State) : Host.Outcome State Fault Refusal :=
  atNow s (m.ok && decide (val < 2 ^ 32) && beOk m be) fun s =>
    rowWrite s m .TIM_CTRL 0 0 val be fun s => timCtrlWrite s m val be

/-- SYNC_SEND (05 R135). -/
def execSyncSend (at_ : Nat) (s : State) : Host.Outcome State Fault Refusal :=
  atTime s at_ (true) fun s =>
    whenCore s Sys2Proof.Machine.syncSend

/-- DELAY_REQ_SEND (05 R136). -/
def execDelayReqSend (at_ : Nat) (s : State) : Host.Outcome State Fault Refusal :=
  atTime s at_ (true) fun s =>
    whenCore s Sys2Proof.Machine.delayReqSend

/-- DELAY_RSP_RECEIVE (05 R136). -/
def execDelayRspReceive (p : StPkt) (at_ : Nat) (s : State) : Host.Outcome State Fault Refusal :=
  atTime s at_ (decide (p.arr ≤ 161)) fun s =>
    atStation s p 0x02 fun s => delayRsp (takeStation s p) p (rxTime s p)

/-- SYNC_RECEIVE (05 R136). -/
def execSyncReceive (p : StPkt) (at_ : Nat) (s : State) : Host.Outcome State Fault Refusal :=
  atTime s at_ (decide (p.arr ≤ 161)) fun s =>
    atStation s p 0x02 fun s => Sys2Proof.Machine.syncReceive (takeStation s p) p (rxTime s p)

/-- TT_BANK_WRITE (05 R138). -/
def execTtBankWrite (m : Master) (b : Nat) (kind : Nat) (i : Nat) (w : Nat) (val : Nat) (be : Nat) (s : State) : Host.Outcome
    State Fault Refusal :=
  atNow s (m.ok && decide (b < 2) && decide (kind < 4) && decide (val < 2 ^ 32) && beOk m be) fun s =>
    let rg := ttReg b kind
    let n := if kind < 2 then b else i
    rowWrite s m rg n w val be fun s => Sys2Proof.Machine.ttBankWrite s m b rg n w val be

/-- TT_SEAL_A (05 R138). -/
def execTtSealA (m : Master) (s : State) : Host.Outcome State Fault Refusal :=
  atNow s (m.ok) fun s =>
    rowBit s m F.TIM_TT_CTRL_SEAL_A 0 true fun s => ttSeal s 0

/-- TT_SEAL_B (05 R138). -/
def execTtSealB (m : Master) (s : State) : Host.Outcome State Fault Refusal :=
  atNow s (m.ok) fun s =>
    rowBit s m F.TIM_TT_CTRL_SEAL_B 0 true fun s => ttSeal s 1

/-- ADMIT_A (05 R141). -/
def execAdmitA (m : Master) (s : State) : Host.Outcome State Fault Refusal :=
  atNow s (m.ok) fun s =>
    rowBit s m F.TIM_TT_CTRL_ADMIT_A 0 true fun s => ttAdmitStart s 0

/-- ADMIT_B (05 R141). -/
def execAdmitB (m : Master) (s : State) : Host.Outcome State Fault Refusal :=
  atNow s (m.ok) fun s =>
    rowBit s m F.TIM_TT_CTRL_ADMIT_B 0 true fun s => ttAdmitStart s 1

/-- ADMISSION_DONE (05 R141). -/
def execAdmissionDone (at_ : Nat) (s : State) : Host.Outcome State Fault Refusal :=
  atTime s at_ (true) fun s =>
    whenCore s Sys2Proof.Machine.admissionDone

/-- TIMETABLE_RECHECK (05 R144). -/
def execTimetableRecheck (at_ : Nat) (s : State) : Host.Outcome State Fault Refusal :=
  atTime s at_ (true) fun s =>
    whenCore s ttRecheck

end Sys2Proof.Machine
end

