-- ==== Sys2Proof/Machine/RowsWell.lean ====
section
/-! DEFINITION. The meanings of the rows: The well (file 09). Each is the row's effect over the
operations of the files before, guarded by its operands' ranges (log 17). -/

namespace Sys2Proof.Machine

open Sys2Proof

/-- WELL_INIT_DONE (09 R241). -/
def execWellInitDone (ev : BootEv) (at_ : Nat) (s : State) : Host.Outcome State Fault Refusal :=
  atTime s at_ (true) fun s =>
    whenCore s fun s => settleSwitch (siteLock ev (initDone s))

/-- WEL_FAR_CFG_WRITE (09 R239). -/
def execWelFarCfgWrite (m : Master) (val : Nat) (be : Nat) (s : State) : Host.Outcome State Fault Refusal :=
  atNow s (m.ok && decide (val < 2 ^ 32) && beOk m be) fun s =>
    rowWrite s m .WEL_FAR_CFG 0 0 val be fun s => farCfgWrite s m val be

/-- READ (09 R243). -/
def execRead (p : StPkt) (at_ : Nat) (s : State) : Host.Outcome State Fault Refusal :=
  atTime s at_ (decide (p.arr ≤ 161)) fun s =>
    atStation s p 0x20 fun s => wellRequest s p none

/-- WRITE (09 R243). -/
def execWrite (p : StPkt) (badLine : Option Nat) (at_ : Nat) (s : State) : Host.Outcome State Fault Refusal :=
  atTime s at_ (decide (p.arr ≤ 161)) fun s =>
    atStation s p 0x21 fun s => wellRequest s p badLine

/-- ATOMIC_FETCH_ADD (09 R244). -/
def execAtomicFetchAdd (p : StPkt) (badLine : Option Nat) (at_ : Nat) (s : State) : Host.Outcome State Fault Refusal :=
  atTime s at_ (decide (p.arr ≤ 161)) fun s =>
    atStation s p 0x22 fun s => atomicRow s p 0 badLine

/-- ATOMIC_SWAP (09 R244). -/
def execAtomicSwap (p : StPkt) (badLine : Option Nat) (at_ : Nat) (s : State) : Host.Outcome State Fault Refusal :=
  atTime s at_ (decide (p.arr ≤ 161)) fun s =>
    atStation s p 0x22 fun s => atomicRow s p 1 badLine

/-- ATOMIC_COMPARE_SWAP (09 R244). -/
def execAtomicCompareSwap (p : StPkt) (badLine : Option Nat) (at_ : Nat) (s : State) : Host.Outcome State Fault Refusal :=
  atTime s at_ (decide (p.arr ≤ 161)) fun s =>
    atStation s p 0x22 fun s => atomicRow s p 2 badLine

/-- ATOMIC_FETCH_AND (09 R244). -/
def execAtomicFetchAnd (p : StPkt) (badLine : Option Nat) (at_ : Nat) (s : State) : Host.Outcome State Fault Refusal :=
  atTime s at_ (decide (p.arr ≤ 161)) fun s =>
    atStation s p 0x22 fun s => atomicRow s p 3 badLine

/-- ATOMIC_FETCH_OR (09 R244). -/
def execAtomicFetchOr (p : StPkt) (badLine : Option Nat) (at_ : Nat) (s : State) : Host.Outcome State Fault Refusal :=
  atTime s at_ (decide (p.arr ≤ 161)) fun s =>
    atStation s p 0x22 fun s => atomicRow s p 4 badLine

/-- ATOMIC_FETCH_XOR (09 R244). -/
def execAtomicFetchXor (p : StPkt) (badLine : Option Nat) (at_ : Nat) (s : State) : Host.Outcome State Fault Refusal :=
  atTime s at_ (decide (p.arr ≤ 161)) fun s =>
    atStation s p 0x22 fun s => atomicRow s p 5 badLine

/-- WELL_REQUEST_COMPLETE (09 R250). -/
def execWellRequestComplete (id : Nat) (evs : List LineEv) (at_ : Nat) (s : State) : Host.Outcome State Fault Refusal :=
  atTime s at_ (true) fun s =>
    whenCore s fun s => settleSwitch (wellComplete s id evs)

/-- TAKE_OUT (09 R253). -/
def execTakeOut (m : Master) (d : Nat) (s : State) : Host.Outcome State Fault Refusal :=
  atNow s (m.ok) fun s =>
    rowBit s m F.WEL_DEV_TAKE_OUT d false fun s => Sys2Proof.Machine.takeOut s d

/-- CONTEXT_TIMEOUT (09 R248). -/
def execContextTimeout (c : Nat) (at_ : Nat) (s : State) : Host.Outcome State Fault Refusal :=
  atTime s at_ (decide (c < 262144)) fun s =>
    whenCore s fun s => settleSwitch (Sys2Proof.Machine.contextTimeout s c)

/-- PATROL_SCRUB (09 R254). -/
def execPatrolScrub (far : Bool) (evs : List LineEv) (at_ : Nat) (s : State) : Host.Outcome State Fault Refusal :=
  atTime s at_ (true) fun s =>
    whenCore s fun s => patrol s far evs

/-- MIRROR_FILL_DONE (09 R257). -/
def execMirrorFillDone (w : Nat) (evs : List LineEv) (at_ : Nat) (s : State) : Host.Outcome State Fault Refusal :=
  atTime s at_ (decide (w < 16)) fun s =>
    whenCore s fun s => fillDone s w evs

/-- MIGRATION_DONE (09 R260). -/
def execMigrationDone (evs : List LineEv) (at_ : Nat) (s : State) : Host.Outcome State Fault Refusal :=
  atTime s at_ (true) fun s =>
    whenCore s fun s => migDone s evs

/-- BAR4_ACCESS (09 R263). -/
def execBar4Access (kind : ApAccess) (b : Nat) (n : Nat) (data : List Byte) (en : List Bool) (at_ : Nat) (s : State) :
    Host.Outcome State Fault Refusal :=
  atTime s at_ (decide (b < 2 ^ 36)) fun s =>
    whenLive s fun s => apertureAccess s kind b n data en

end Sys2Proof.Machine
end

