-- ==== Sys2Proof/Machine/Dispatch.lean ====
section
/-! DEFINITION. The dispatcher: one arm per row of spec/opcode_table.json. -/

namespace Sys2Proof.Machine

open Sys2Proof

def exec (i : Instr) (s : State) : Host.Outcome State Fault Refusal :=
  match i with
  | .registerWrite m off val be ev => Sys2Proof.Machine.execRegisterWrite m off val be ev s
  | .latchedPairRead m off way => Sys2Proof.Machine.execLatchedPairRead m off way s
  | .glbPlaceWrite m val be => Sys2Proof.Machine.execGlbPlaceWrite m val be s
  | .lock m val be => Sys2Proof.Machine.execLock m val be s
  | .linkBlockReceive lp blk at_ => Sys2Proof.Machine.execLinkBlockReceive lp blk at_ s
  | .stageOneAdmit idx k at_ => Sys2Proof.Machine.execStageOneAdmit idx k at_ s
  | .stageTwoMove k pos par at_ => Sys2Proof.Machine.execStageTwoMove k pos par at_ s
  | .resequencerTimeout src pos vc at_ => Sys2Proof.Machine.execResequencerTimeout src pos vc at_ s
  | .egressCellSend lp bad tx at_ => Sys2Proof.Machine.execEgressCellSend lp bad tx at_ s
  | .interCellGapTimeout lp vc at_ => Sys2Proof.Machine.execInterCellGapTimeout lp vc at_ s
  | .residencyLimit pid at_ => Sys2Proof.Machine.execResidencyLimit pid at_ s
  | .starvePromotion lp vc at_ => Sys2Proof.Machine.execStarvePromotion lp vc at_ s
  | .fenceRelease lp at_ => Sys2Proof.Machine.execFenceRelease lp at_ s
  | .portFlushDone lp at_ => Sys2Proof.Machine.execPortFlushDone lp at_ s
  | .swcFwdWrite m b pset idx val be => Sys2Proof.Machine.execSwcFwdWrite m b pset idx val be s
  | .sealA m => Sys2Proof.Machine.execSealA m s
  | .sealB m => Sys2Proof.Machine.execSealB m s
  | .bankDrainEnd at_ => Sys2Proof.Machine.execBankDrainEnd at_ s
  | .tickEdge high at_ => Sys2Proof.Machine.execTickEdge high at_ s
  | .holdoverEnter at_ => Sys2Proof.Machine.execHoldoverEnter at_ s
  | .tickBoundary at_ => Sys2Proof.Machine.execTickBoundary at_ s
  | .inval m => Sys2Proof.Machine.execInval m s
  | .loadArm m => Sys2Proof.Machine.execLoadArm m s
  | .loadTakeEffect at_ => Sys2Proof.Machine.execLoadTakeEffect at_ s
  | .timCtrlSrcWrite m val be => Sys2Proof.Machine.execTimCtrlSrcWrite m val be s
  | .syncSend at_ => Sys2Proof.Machine.execSyncSend at_ s
  | .delayReqSend at_ => Sys2Proof.Machine.execDelayReqSend at_ s
  | .delayRspReceive p at_ => Sys2Proof.Machine.execDelayRspReceive p at_ s
  | .syncReceive p at_ => Sys2Proof.Machine.execSyncReceive p at_ s
  | .ttBankWrite m b kind idx w val be => Sys2Proof.Machine.execTtBankWrite m b kind idx w val be s
  | .ttSealA m => Sys2Proof.Machine.execTtSealA m s
  | .ttSealB m => Sys2Proof.Machine.execTtSealB m s
  | .admitA m => Sys2Proof.Machine.execAdmitA m s
  | .admitB m => Sys2Proof.Machine.execAdmitB m s
  | .admissionDone at_ => Sys2Proof.Machine.execAdmissionDone at_ s
  | .timetableRecheck at_ => Sys2Proof.Machine.execTimetableRecheck at_ s
  | .deadlineMiss g at_ => Sys2Proof.Machine.execDeadlineMiss g at_ s
  | .issue m => Sys2Proof.Machine.execIssue m s
  | .revert m => Sys2Proof.Machine.execRevert m s
  | .cancel m => Sys2Proof.Machine.execCancel m s
  | .commitTakeEffect ev at_ => Sys2Proof.Machine.execCommitTakeEffect ev at_ s
  | .grpEntWrite m g w val be => Sys2Proof.Machine.execGrpEntWrite m g w val be s
  | .grpRankWrite m b idx val be => Sys2Proof.Machine.execGrpRankWrite m b idx val be s
  | .create m g => Sys2Proof.Machine.execCreate m g s
  | .createShape m g => Sys2Proof.Machine.execCreateShape m g s
  | .destroy m g => Sys2Proof.Machine.execDestroy m g s
  | .abort m g => Sys2Proof.Machine.execAbort m g s
  | .groupFree g at_ => Sys2Proof.Machine.execGroupFree g at_ s
  | .doorbell p at_ => Sys2Proof.Machine.execDoorbell p at_ s
  | .launch g at_ => Sys2Proof.Machine.execLaunch g at_ s
  | .grantReq p at_ => Sys2Proof.Machine.execGrantReq p at_ s
  | .waveGrant hostData at_ => Sys2Proof.Machine.execWaveGrant hostData at_ s
  | .grant p at_ => Sys2Proof.Machine.execGrant p at_ s
  | .contrib p at_ => Sys2Proof.Machine.execContrib p at_ s
  | .dispatch p at_ => Sys2Proof.Machine.execDispatch p at_ s
  | .expertOut p at_ => Sys2Proof.Machine.execExpertOut p at_ s
  | .result p at_ => Sys2Proof.Machine.execResult p at_ s
  | .progressTimeout g at_ => Sys2Proof.Machine.execProgressTimeout g at_ s
  | .abortReq p at_ => Sys2Proof.Machine.execAbortReq p at_ s
  | .seqctlAbort p at_ => Sys2Proof.Machine.execSeqctlAbort p at_ s
  | .token p at_ => Sys2Proof.Machine.execToken p at_ s
  | .tokenSend g at_ => Sys2Proof.Machine.execTokenSend g at_ s
  | .sweepStart g idx at_ => Sys2Proof.Machine.execSweepStart g idx at_ s
  | .sweepDone g idx mismatch parity at_ => Sys2Proof.Machine.execSweepDone g idx mismatch parity at_ s
  | .pumpDrained n at_ => Sys2Proof.Machine.execPumpDrained n at_ s
  | .retire m n => Sys2Proof.Machine.execRetire m n s
  | .testGo m n => Sys2Proof.Machine.execTestGo m n s
  | .selfTestDone n nfail at_ => Sys2Proof.Machine.execSelfTestDone n nfail at_ s
  | .restore m n => Sys2Proof.Machine.execRestore m n s
  | .cisternScrub n fail chunk bad at_ => Sys2Proof.Machine.execCisternScrub n fail chunk bad at_ s
  | .wellInitDone ev at_ => Sys2Proof.Machine.execWellInitDone ev at_ s
  | .welFarCfgWrite m val be => Sys2Proof.Machine.execWelFarCfgWrite m val be s
  | .read p at_ => Sys2Proof.Machine.execRead p at_ s
  | .write p badLine at_ => Sys2Proof.Machine.execWrite p badLine at_ s
  | .atomicFetchAdd p badLine at_ => Sys2Proof.Machine.execAtomicFetchAdd p badLine at_ s
  | .atomicSwap p badLine at_ => Sys2Proof.Machine.execAtomicSwap p badLine at_ s
  | .atomicCompareSwap p badLine at_ => Sys2Proof.Machine.execAtomicCompareSwap p badLine at_ s
  | .atomicFetchAnd p badLine at_ => Sys2Proof.Machine.execAtomicFetchAnd p badLine at_ s
  | .atomicFetchOr p badLine at_ => Sys2Proof.Machine.execAtomicFetchOr p badLine at_ s
  | .atomicFetchXor p badLine at_ => Sys2Proof.Machine.execAtomicFetchXor p badLine at_ s
  | .wellRequestComplete id evs at_ => Sys2Proof.Machine.execWellRequestComplete id evs at_ s
  | .takeOut m d => Sys2Proof.Machine.execTakeOut m d s
  | .contextTimeout c at_ => Sys2Proof.Machine.execContextTimeout c at_ s
  | .patrolScrub far evs at_ => Sys2Proof.Machine.execPatrolScrub far evs at_ s
  | .mirrorFillDone w evs at_ => Sys2Proof.Machine.execMirrorFillDone w evs at_ s
  | .migrationDone evs at_ => Sys2Proof.Machine.execMigrationDone evs at_ s
  | .bar4Access kind b n data en at_ => Sys2Proof.Machine.execBar4Access kind b n data en at_ s
  | .soRead p at_ => Sys2Proof.Machine.execSoRead p at_ s
  | .soFetchAdd p at_ => Sys2Proof.Machine.execSoFetchAdd p at_ s
  | .soCompareSwap p at_ => Sys2Proof.Machine.execSoCompareSwap p at_ s
  | .waitGe p at_ => Sys2Proof.Machine.execWaitGe p at_ s
  | .waitEq p at_ => Sys2Proof.Machine.execWaitEq p at_ s
  | .signal p at_ => Sys2Proof.Machine.execSignal p at_ s
  | .soCancel p at_ => Sys2Proof.Machine.execSoCancel p at_ s
  | .soWaitTimeout n k at_ => Sys2Proof.Machine.execSoWaitTimeout n k at_ s
  | .soCmdRead m val be => Sys2Proof.Machine.execSoCmdRead m val be s
  | .soCmdFetchAdd m val be => Sys2Proof.Machine.execSoCmdFetchAdd m val be s
  | .soCmdCompareSwap m val be => Sys2Proof.Machine.execSoCmdCompareSwap m val be s
  | .soCmdSignal m val be => Sys2Proof.Machine.execSoCmdSignal m val be s
  | .soTypeWrite m n w val be => Sys2Proof.Machine.execSoTypeWrite m n w val be s
  | .valLoWrite m n val be => Sys2Proof.Machine.execValLoWrite m n val be s
  | .valHiWrite m n val be => Sys2Proof.Machine.execValHiWrite m n val be s
  | .roomSnap p badLine at_ => Sys2Proof.Machine.execRoomSnap p badLine at_ s
  | .roomJrnl p badLine at_ => Sys2Proof.Machine.execRoomJrnl p badLine at_ s
  | .roomRead p at_ => Sys2Proof.Machine.execRoomRead p at_ s
  | .heartbeatCheck at_ => Sys2Proof.Machine.execHeartbeatCheck at_ s
  | .hbLateClear m idx val be => Sys2Proof.Machine.execHbLateClear m idx val be s
  | .lcwBuild lp at_ => Sys2Proof.Machine.execLcwBuild lp at_ s
  | .lcwReceive lp at_ => Sys2Proof.Machine.execLcwReceive lp at_ s
  | .replayTimeout lp at_ => Sys2Proof.Machine.execReplayTimeout lp at_ s
  | .trainingFrameReceive lp pos frame at_ => Sys2Proof.Machine.execTrainingFrameReceive lp pos frame at_ s
  | .eqDone lp ready at_ => Sys2Proof.Machine.execEqDone lp ready at_ s
  | .fecLockDone lp bad at_ => Sys2Proof.Machine.execFecLockDone lp bad at_ s
  | .deskewDone lp bad at_ => Sys2Proof.Machine.execDeskewDone lp bad at_ s
  | .bringupStageTimeout lp at_ => Sys2Proof.Machine.execBringupStageTimeout lp at_ s
  | .bringupRetry lp at_ => Sys2Proof.Machine.execBringupRetry lp at_ s
  | .identSend lp at_ => Sys2Proof.Machine.execIdentSend lp at_ s
  | .ident p at_ => Sys2Proof.Machine.execIdent p at_ s
  | .laneLockLoss lp mask at_ => Sys2Proof.Machine.execLaneLockLoss lp mask at_ s
  | .refclkLoss at_ => Sys2Proof.Machine.execRefclkLoss at_ s
  | .restripeDone lp peer at_ => Sys2Proof.Machine.execRestripeDone lp peer at_ s
  | .drop m l => Sys2Proof.Machine.execDrop m l s
  | .retrain m n => Sys2Proof.Machine.execRetrain m n s
  | .portEnWrite m n en => Sys2Proof.Machine.execPortEnWrite m n en s
  | .loop m n k => Sys2Proof.Machine.execLoop m n k s
  | .loopEchoEnd lp at_ => Sys2Proof.Machine.execLoopEchoEnd lp at_ s
  | .eidleEnter lp at_ => Sys2Proof.Machine.execEidleEnter lp at_ s
  | .eidleExit lp at_ => Sys2Proof.Machine.execEidleExit lp at_ s
  | .escanGo m l => Sys2Proof.Machine.execEscanGo m l s
  | .escanDone l n at_ => Sys2Proof.Machine.execEscanDone l n at_ s
  | .prbsRxEnWrite m l val be => Sys2Proof.Machine.execPrbsRxEnWrite m l val be s
  | .pause p at_ => Sys2Proof.Machine.execPause p at_ s
  | .resume p at_ => Sys2Proof.Machine.execResume p at_ s
  | .pauseLimitExpire lp at_ => Sys2Proof.Machine.execPauseLimitExpire lp at_ s
  | .functionLevelReset ev at_ => Sys2Proof.Machine.execFunctionLevelReset ev at_ s
  | .dlDown ev at_ => Sys2Proof.Machine.execDlDown ev at_ s
  | .hostReadFail op fail at_ => Sys2Proof.Machine.execHostReadFail op fail at_ s
  | .crEnWrite m ring val be => Sys2Proof.Machine.execCrEnWrite m ring val be s
  | .cqEnWrite m q val be => Sys2Proof.Machine.execCqEnWrite m q val be s
  | .tail ring val be => Sys2Proof.Machine.execTail ring val be s
  | .head q val be => Sys2Proof.Machine.execHead q val be s
  | .descriptorFetch words at_ => Sys2Proof.Machine.execDescriptorFetch words at_ s
  | .groupOp n at_ => Sys2Proof.Machine.execGroupOp n at_ s
  | .regWrite n words ev at_ => Sys2Proof.Machine.execRegWrite n words ev at_ s
  | .regRead n at_ => Sys2Proof.Machine.execRegRead n at_ s
  | .dma n data evs bad at_ => Sys2Proof.Machine.execDma n data evs bad at_ s
  | .migrate n at_ => Sys2Proof.Machine.execMigrate n at_ s
  | .roomExport n evs at_ => Sys2Proof.Machine.execRoomExport n evs at_ s
  | .telDump n fail at_ => Sys2Proof.Machine.execTelDump n fail at_ s
  | .fabricSend n payload at_ => Sys2Proof.Machine.execFabricSend n payload at_ s
  | .recvPost n at_ => Sys2Proof.Machine.execRecvPost n at_ s
  | .nop n at_ => Sys2Proof.Machine.execNop n at_ s
  | .completionWrite q at_ => Sys2Proof.Machine.execCompletionWrite q at_ s
  | .cqIrqTimer q at_ => Sys2Proof.Machine.execCqIrqTimer q at_ s
  | .hostPathDeliver at_ => Sys2Proof.Machine.execHostPathDeliver at_ s
  | .read32 pcie width len tag off at_ => Sys2Proof.Machine.execRead32 pcie width len tag off at_ s
  | .write32 pcie width len tag off val ev at_ => Sys2Proof.Machine.execWrite32 pcie width len tag off val ev at_ s
  | .setEndpointId pcie eid at_ => Sys2Proof.Machine.execSetEndpointId pcie eid at_ s
  | .getEndpointId pcie at_ => Sys2Proof.Machine.execGetEndpointId pcie at_ s
  | .getMctpVersionSupport pcie kind at_ => Sys2Proof.Machine.execGetMctpVersionSupport pcie kind at_ s
  | .getMessageTypeSupport pcie at_ => Sys2Proof.Machine.execGetMessageTypeSupport pcie at_ s
  | .getVendorDefinedMessageSupport pcie sel at_ => Sys2Proof.Machine.execGetVendorDefinedMessageSupport pcie sel at_ s
  | .entdaa addr at_ => Sys2Proof.Machine.execEntdaa addr at_ s
  | .rstdaa at_ => Sys2Proof.Machine.execRstdaa at_ s
  | .setnewda addr at_ => Sys2Proof.Machine.execSetnewda addr at_ s
  | .getpid at_ => Sys2Proof.Machine.execGetpid at_ s
  | .getbcr at_ => Sys2Proof.Machine.execGetbcr at_ s
  | .getdcr at_ => Sys2Proof.Machine.execGetdcr at_ s
  | .getstatus at_ => Sys2Proof.Machine.execGetstatus at_ s
  | .getmrl at_ => Sys2Proof.Machine.execGetmrl at_ s
  | .getmwl at_ => Sys2Proof.Machine.execGetmwl at_ s
  | .enec mask at_ => Sys2Proof.Machine.execEnec mask at_ s
  | .disec mask at_ => Sys2Proof.Machine.execDisec mask at_ s
  | .rstact act at_ => Sys2Proof.Machine.execRstact act at_ s
  | .getVersion way at_ => Sys2Proof.Machine.execGetVersion way at_ s
  | .getCapabilities way ver at_ => Sys2Proof.Machine.execGetCapabilities way ver at_ s
  | .negotiateAlgorithms way at_ => Sys2Proof.Machine.execNegotiateAlgorithms way at_ s
  | .getDigests way at_ => Sys2Proof.Machine.execGetDigests way at_ s
  | .getCertificate way slot off len at_ => Sys2Proof.Machine.execGetCertificate way slot off len at_ s
  | .challenge way slot nonce at_ => Sys2Proof.Machine.execChallenge way slot nonce at_ s
  | .getMeasurements way index nonce at_ => Sys2Proof.Machine.execGetMeasurements way index nonce at_ s
  | .requestUpdate pcie at_ => Sys2Proof.Machine.execRequestUpdate pcie at_ s
  | .passComponentTable pcie comp at_ => Sys2Proof.Machine.execPassComponentTable pcie comp at_ s
  | .updateComponent pcie comp at_ => Sys2Proof.Machine.execUpdateComponent pcie comp at_ s
  | .verifyComplete pcie at_ => Sys2Proof.Machine.execVerifyComplete pcie at_ s
  | .applyComplete pcie at_ => Sys2Proof.Machine.execApplyComplete pcie at_ s
  | .activateFirmware act ev at_ => Sys2Proof.Machine.execActivateFirmware act ev at_ s
  | .semRead m => Sys2Proof.Machine.execSemRead m s
  | .release m ev => Sys2Proof.Machine.execRelease m ev s
  | .semLeaseLapse ev at_ => Sys2Proof.Machine.execSemLeaseLapse ev at_ s
  | .configCrcPass pass => Sys2Proof.Machine.execConfigCrcPass pass s
  | .kick m c => Sys2Proof.Machine.execKick m c s
  | .watchdogLapse c ev at_ => Sys2Proof.Machine.execWatchdogLapse c ev at_ s
  | .gmcRst m ev => Sys2Proof.Machine.execGmcRst m ev s
  | .perstNAssert low => Sys2Proof.Machine.execPerstNAssert low s
  | .perstNRelease ev at_ => Sys2Proof.Machine.execPerstNRelease ev at_ s
  | .recoveryNAssert low => Sys2Proof.Machine.execRecoveryNAssert low s
  | .recoveryNRelease ev at_ => Sys2Proof.Machine.execRecoveryNRelease ev at_ s
  | .trialConfirm at_ => Sys2Proof.Machine.execTrialConfirm at_ s
  | .updateLockExpire at_ => Sys2Proof.Machine.execUpdateLockExpire at_ s
  | .getInfo mb at_ => Sys2Proof.Machine.execGetInfo mb at_ s
  | .flashRead mb at_ => Sys2Proof.Machine.execFlashRead mb at_ s
  | .flashErase mb ok at_ => Sys2Proof.Machine.execFlashErase mb ok at_ s
  | .flashWrite mb ok at_ => Sys2Proof.Machine.execFlashWrite mb ok at_ s
  | .verifySlot mb at_ => Sys2Proof.Machine.execVerifySlot mb at_ s
  | .setPrefer mb at_ => Sys2Proof.Machine.execSetPrefer mb at_ s
  | .confirm mb at_ => Sys2Proof.Machine.execConfirm mb at_ s
  | .logRead mb at_ => Sys2Proof.Machine.execLogRead mb at_ s
  | .gestaCoreResign c at_ => Sys2Proof.Machine.execGestaCoreResign c at_ s
  | .gestaTakeback at_ => Sys2Proof.Machine.execGestaTakeback at_ s
  | .faultMessage src bad parity ev at_ => Sys2Proof.Machine.execFaultMessage src bad parity ev at_ s
  | .safeGo m => Sys2Proof.Machine.execSafeGo m s
  | .faultNMinEnd at_ => Sys2Proof.Machine.execFaultNMinEnd at_ s
  | .coreWarm m => Sys2Proof.Machine.execCoreWarm m s
  | .coreWarmResetEnd fail ev at_ => Sys2Proof.Machine.execCoreWarmResetEnd fail ev at_ s
  | .pump m => Sys2Proof.Machine.execPump m s
  | .pumpResetEnd at_ => Sys2Proof.Machine.execPumpResetEnd at_ s
  | .pool m => Sys2Proof.Machine.execPool m s
  | .poolResetEnd at_ => Sys2Proof.Machine.execPoolResetEnd at_ s
  | .portGo m n => Sys2Proof.Machine.execPortGo m n s
  | .healthSend at_ => Sys2Proof.Machine.execHealthSend at_ s
  | .health p at_ => Sys2Proof.Machine.execHealth p at_ s
  | .seqKnownAnswerTest ok at_ => Sys2Proof.Machine.execSeqKnownAnswerTest ok at_ s
  | .coverDecideStart at_ => Sys2Proof.Machine.execCoverDecideStart at_ s
  | .takebackClaim at_ => Sys2Proof.Machine.execTakebackClaim at_ s
  | .takebackComplete at_ => Sys2Proof.Machine.execTakebackComplete at_ s
  | .takebackTimeout at_ => Sys2Proof.Machine.execTakebackTimeout at_ s
  | .partnerSilent at_ => Sys2Proof.Machine.execPartnerSilent at_ s
  | .powerLoop p at_ => Sys2Proof.Machine.execPowerLoop p at_ s
  | .pwrCapHostWrite m val be => Sys2Proof.Machine.execPwrCapHostWrite m val be s
  | .pwrCapRackWrite m val be => Sys2Proof.Machine.execPwrCapRackWrite m val be s
  | .rackLeaseLapse at_ => Sys2Proof.Machine.execRackLeaseLapse at_ s
  | .capdropEnd at_ => Sys2Proof.Machine.execCapdropEnd at_ s
  | .pwrBrkReqWrite m val be => Sys2Proof.Machine.execPwrBrkReqWrite m val be s
  | .pwrbrkNChange high lowNs at_ => Sys2Proof.Machine.execPwrbrkNChange high lowNs at_ s
  | .coolantFailNChange high lowNs at_ => Sys2Proof.Machine.execCoolantFailNChange high lowNs at_ s
  | .busUvNChange high lowNs at_ => Sys2Proof.Machine.execBusUvNChange high lowNs at_ s
  | .coolantShutdown at_ => Sys2Proof.Machine.execCoolantShutdown at_ s
  | .diodeSample rs at_ => Sys2Proof.Machine.execDiodeSample rs at_ s
  | .thermistorRead tin tout loopR at_ => Sys2Proof.Machine.execThermistorRead tin tout loopR at_ s
  | .pwrThermCfgWrite m val be => Sys2Proof.Machine.execPwrThermCfgWrite m val be s
  | .thermtripN at_ => Sys2Proof.Machine.execThermtripN at_ s
  | .epoN high lowNs at_ => Sys2Proof.Machine.execEpoN high lowNs at_ s
  | .counterLowWrite m off val be => Sys2Proof.Machine.execCounterLowWrite m off val be s
  | .counterHighWrite m off val be => Sys2Proof.Machine.execCounterHighWrite m off val be s
  | .bwWindowEnd at_ => Sys2Proof.Machine.execBwWindowEnd at_ s
  | .telBwCfgWrite m val be => Sys2Proof.Machine.execTelBwCfgWrite m val be s
  | .telRingCfgWrite m val be => Sys2Proof.Machine.execTelRingCfgWrite m val be s
  | .periodicDumpStart fail at_ => Sys2Proof.Machine.execPeriodicDumpStart fail at_ s
  | .dumpEnd fail at_ => Sys2Proof.Machine.execDumpEnd fail at_ s
  | .help line => Sys2Proof.Machine.execHelp line s
  | .stat line => Sys2Proof.Machine.execStat line s
  | .ver line => Sys2Proof.Machine.execVer line s
  | .faultList line => Sys2Proof.Machine.execFaultList line s
  | .port chars at_ => Sys2Proof.Machine.execPort chars at_ s
  | .lane chars at_ => Sys2Proof.Machine.execLane chars at_ s
  | .temp line => Sys2Proof.Machine.execTemp line s
  | .power line => Sys2Proof.Machine.execPower line s
  | .regRd chars at_ => Sys2Proof.Machine.execRegRd chars at_ s
  | .log chars at_ => Sys2Proof.Machine.execLog chars at_ s
  | .regWr chars ev at_ => Sys2Proof.Machine.execRegWr chars ev at_ s
  | .faultClear chars ev at_ => Sys2Proof.Machine.execFaultClear chars ev at_ s
  | .atest chars ev at_ => Sys2Proof.Machine.execAtest chars ev at_ s
  | .servicePort chars ev at_ => Sys2Proof.Machine.execServicePort chars ev at_ s
  | .serviceOn line => Sys2Proof.Machine.execServiceOn line s
  | .serviceOnForce ev line => Sys2Proof.Machine.execServiceOnForce ev line s
  | .serviceOff ev line => Sys2Proof.Machine.execServiceOff ev line s
  | .resetPort chars ev at_ => Sys2Proof.Machine.execResetPort chars ev at_ s
  | .resetPump ev line => Sys2Proof.Machine.execResetPump ev line s
  | .resetPool ev line => Sys2Proof.Machine.execResetPool ev line s
  | .resetCore ev line => Sys2Proof.Machine.execResetCore ev line s
  | .resetGmc ev line => Sys2Proof.Machine.execResetGmc ev line s
  | .selftestRails cut bad ev line => Sys2Proof.Machine.execSelftestRails cut bad ev line s
  | .selftestSensors cut bad ev line => Sys2Proof.Machine.execSelftestSensors cut bad ev line s
  | .selftestLanes chars cut errs ev at_ => Sys2Proof.Machine.execSelftestLanes chars cut errs ev at_ s
  | .selftestPort chars cut up bad ev at_ => Sys2Proof.Machine.execSelftestPort chars cut up bad ev at_ s
  | .selftestPumps cut fails vec ev line => Sys2Proof.Machine.execSelftestPumps cut fails vec ev line s
  | .selftestCisterns cut bad line => Sys2Proof.Machine.execSelftestCisterns cut bad line s
  | .selftestHbm chars cut corr unc at_ => Sys2Proof.Machine.execSelftestHbm chars cut corr unc at_ s
  | .selftestDimm chars cut corr unc at_ => Sys2Proof.Machine.execSelftestDimm chars cut corr unc at_ s
  | .selftestWell cut bad line => Sys2Proof.Machine.execSelftestWell cut bad line s
  | .selftestSync cut bad line => Sys2Proof.Machine.execSelftestSync cut bad line s
  | .selftestRooms cut bad line => Sys2Proof.Machine.execSelftestRooms cut bad line s
  | .selftestGroup cut ok ev line => Sys2Proof.Machine.execSelftestGroup cut ok ev line s
  | .refclkReturn ev at_ => Sys2Proof.Machine.execRefclkReturn ev at_ s
  | .aliveToggle at_ => Sys2Proof.Machine.execAliveToggle at_ s
  | .romLineRepeat at_ => Sys2Proof.Machine.execRomLineRepeat at_ s
  | .reorderHoldExpire lp vc at_ => Sys2Proof.Machine.execReorderHoldExpire lp vc at_ s
  | .alwaysOnSupplyUp at_ => Sys2Proof.Machine.execAlwaysOnSupplyUp at_ s
  | .supplyRemoval at_ => Sys2Proof.Machine.execSupplyRemoval at_ s
  | .doeDiscovery index at_ => Sys2Proof.Machine.execDoeDiscovery index at_ s
  | .consoleUnknownCommand line => Sys2Proof.Machine.execConsoleUnknownCommand line s
  | .mailboxUnknownCmd mb at_ => Sys2Proof.Machine.execMailboxUnknownCmd mb at_ s
  | .vendorUnknownCmd pcie cmd tag off at_ => Sys2Proof.Machine.execVendorUnknownCmd pcie cmd tag off at_ s
  | .pldmFirmwareTransfer pcie off data ok at_ => Sys2Proof.Machine.execPldmFirmwareTransfer pcie off data ok at_ s

end Sys2Proof.Machine
end

