-- ==== Sys2Proof/Safety.lean ====
section
/-! DEFINITION. The words in which the claims are stated: when the parts of the block take commands, what a taken register write
starts from, when a packet stands at the local station, the forms that data of the state keep. -/

namespace Sys2Proof.Machine

open Sys2Proof

/-- The core blocks take events: out of reset, not in the safe state, no core warm reset running (15 R424, R427). -/
def coreRuns (s : State) : Bool := chipOn s && !isSafe s && !inCoreReset s

/-- The parts that only the safe state stops take events (15 R424). -/
def liveRuns (s : State) : Bool := chipOn s && !isSafe s

/-- The link layers take events: as `liveRuns`, with REFCLK present (11 R313). -/
def linkRuns (s : State) : Bool := chipOn s && !isSafe s && s.pin.refclk

/-- The arbiter executes a master's write of word `w` of instance `i` of a register, at once (14 R387, 15 R425, R427). -/
def takesWrite (s : State) (m : Master) (r : RegName) (i w : Nat) : Bool :=
  m.ok && mayWrite s m && decide (i < regCount r) && decide (w < (regInfo r).words) && !mustHold s (regOff r i + 4 * w)

/-- The state in which the effect of such a write runs: the access has been counted (17 R464). -/
def wrote (s : State) (m : Master) (r : RegName) (i w : Nat) : State := countReg s m true (regOff r i + 4 * w)

/-- A packet with this opcode stands at the local station of a chip whose core runs, with a slot free for its answer where it asks
for one. -/
def stationHas (s : State) (p : StPkt) (op : Nat) : Bool := coreRuns s && decide (p.arr ≤ 161) && decide (p.hdr.opcode = op) && injFree s p.hdr

/-- The pool's memory has its canonical form: addresses rising, no byte listed that an unlisted address reads as. -/
def Memory.wf (m : List (Nat × Byte)) : Bool := mapWf 0 m

/-- The rule of ALIVE (15 R421): where its conditions do not hold, ALIVE is low and FLT_STAT.ALIVE_RUN reads 0. -/
def aliveRule (s : State) : Bool := aliveHolds s || (!s.pin.alive && !s.flag F.FLT_STAT_ALIVE_RUN)

end Sys2Proof.Machine
end

