-- ==== Sys2Proof/Certificates/Slice0/Obligations.lean ====
section
/-! DEFINITION. The statements for the provers. The first forty-eight say, family by family, that each command of the table
completes, with the next state the rules give; the last twelve hold of every command or of shared operations. -/

open Sys2Proof Sys2Proof.Machine

/-- A command runs when it stands at the front of the queue: the step is the command's meaning on the queue's rest. An empty
queue leaves the state as it is (the model's choice, log 18 and 19). -/
def Obligations.StepRunsFront : Prop :=
  (∀ (c : Instr) (rest : List Instr) (s : State),
    step { s with pending := c :: rest } = exec c { s with pending := rest }) ∧
  ∀ s : State, s.pending = [] → step s = .next s

/-- Register rows, the next state whole in each clause, so that nothing else changes: a register write and a read are those of
their words; a write of two whole words is the writes of the two words in ascending order (13 R371); a whole or partial
write of SWC_RESEQ_TO merges the enabled bytes; a whole read of TIM_NOW_LO answers its half and latches TIM_NOW_HI for its
master; a BAR2 read of a completion ring's doorbell page at word 0 answers its HEAD; GLB_PLACE written with bit 31 clear
while LOCK is 0 stores the word and the ports follow it; LOCK with an acceptable place sets LOCK and every port that may
comes up. The first clauses say of each command that, whatever its operands within their range, it answers the next state
of its own operation where its part of the block runs (a register row: where the write is taken; a packet row: where the
station holds the packet). -/
def Obligations.RegisterRows : Prop :=
  (∀ (s : State) (m : Master) (off val be : Nat) (ev : BootEv) (acc : ReadAcc), accessOk m off be = true → val < 2 ^ (32 *
    beWords be) → accessOk m off acc.be = true →
    exec (.registerWrite m off val be ev) s = .next (finish s (settleSite ev (accessWrite ev s m off val be))) ∧
    exec (.latchedPairRead m off acc) s = .next (finish s (accessRead s m off acc))) ∧
  (∀ (s : State) (m : Master) (val be : Nat), val < 2 ^ 32 → beOk m be = true →
    (takesWrite s m .GLB_PLACE 0 0 = true → exec (.glbPlaceWrite m val be) s = .next (finish s (settleSwitch (placeWrite (wrote
      s m .GLB_PLACE 0 0) m val be)))) ∧
    (takesWrite s m .GLB_PLACE 0 0 = true → exec (.lock m val be) s = .next (finish s (settleSwitch (placeWrite (wrote s m
      .GLB_PLACE 0 0) m (if bitAt val 31 then val else val + 2 ^ 31) (Nat.lor be 8)))))) ∧
  (∀ (s : State) (m : Master) (off val : Nat) (ev : BootEv), accessOk m off 255 = true → val < 2 ^ 64 →
    exec (.registerWrite m off val 255 ev) s = .next (finish s (settleSite ev
      (wordWrite ev (wordWrite ev s m off (val % 2 ^ 32) 15) m (off + 4) (val / 2 ^ 32) 15)))) ∧
  (∀ (s : State) (m : Master) (val be : Nat) (ev : BootEv), val < 2 ^ 32 → beOk m be = true →
    takesWrite s m .SWC_RESEQ_TO 0 0 = true →
    exec (.registerWrite m (regOff .SWC_RESEQ_TO 0) val be ev) s =
      .next (finish s (settleSite ev ((wrote s m .SWC_RESEQ_TO 0 0).wr F.SWC_RESEQ_TO_TO 0
        (fieldAfter (wrote s m .SWC_RESEQ_TO 0 0) F.SWC_RESEQ_TO_TO 0 val be))))) ∧
  (∀ (s c : State) (m : Master), m.ok = true → chipOn s = true → inCoreReset s = false →
    (m = .host → s.host.pcie.dstate ≠ 3) → c = countReg s m false (regOff .TIM_NOW_LO 0) →
    exec (.latchedPairRead m (regOff .TIM_NOW_LO 0) ⟨15, 0⟩) s =
      .next (finish s ({ c with latch := mput c.latch (masterCode m * 2 ^ 26 + regOff .TIM_NOW_HI 0) (c.fabric / 2 ^ 32) }.emit
        (.readData m (regOff .TIM_NOW_LO 0) (c.fabric % 2 ^ 32))))) ∧
  (∀ (s : State) (q : Nat), chipOn s = true → s.host.pcie.dstate ≠ 3 → q < 128 →
    exec (.latchedPairRead .host (bar2Base + 0x80000 + 4096 * q) ⟨15, 0⟩) s = .next (finish s (s.emit
      (.readData .host (bar2Base + 0x80000 + 4096 * q) (enabledBytes (s.rd F.HST_CQ_HEAD q) 15))))) ∧
  (∀ (s c : State) (m : Master) (val be : Nat), val < 2 ^ 31 → beOk m be = true → takesWrite s m .GLB_PLACE 0 0 = true →
    c = wrote s m .GLB_PLACE 0 0 → c.flag F.GLB_PLACE_LOCK = false →
    exec (.glbPlaceWrite m val be) s = .next (finish s (settleSwitch ((List.range 160).foldl rejudge
      (followPlace c (writeWord c m .GLB_PLACE 0 0 val be fun f => f != F.GLB_PLACE_LOCK)))))) ∧
  ∀ (s c d : State) (m : Master) (val be : Nat), 2 ^ 31 ≤ val → val < 2 ^ 32 → beOk m be = true →
    takesWrite s m .GLB_PLACE 0 0 = true →
    c = wrote s m .GLB_PLACE 0 0 → c.flag F.GLB_PLACE_LOCK = false →
    d = (List.range 160).foldl rejudge
      (followPlace c (writeWord c m .GLB_PLACE 0 0 val (Nat.lor be 8) fun f => f != F.GLB_PLACE_LOCK)) →
    placeRefused d = false →
    exec (.lock m val be) s = .next (finish s (settleSwitch ((List.range 160).foldl tryUp (d.wr0 F.GLB_PLACE_LOCK 1))))

/-- Cells through the switch core, with the next state whole: stage one, when its cycle is free and the one cell offered comes
from the port and is admitted, takes it and gives the injector the next turn; stage two moves the one head of a
crosspoint, which is no mirror copy, into the output store as its VC's class; where one cell is missing before a cell that
has waited SWC_RESEQ_TO in the store, the resequencer skips the missing number and reports kind 0x02; an egress slot of a
link that may send carries an idle cell when no VC is picked, serves the VC picked when one is, and carries a waiting
control cell first when it has a credit; a packet still going on whose next cell does not come within the gap time is
ended with TCODE 3, counted with reason 0x0E, and the rest of it is dropped. The first clauses say of each command that,
whatever its operands within their range, it answers the next state of its own operation where its part of the block runs
(a register row: where the write is taken; a packet row: where the station holds the packet). -/
def Obligations.SwitchCells : Prop :=
  (∀ (s u : State) (i k at_ pos src vc lp : Nat) (par : Option Nat), u = s.advance at_ → coreRuns u = true → i < 80 → k < 80 →
    pos ≤ 80 → src < 160 → vc < 8 → lp < 160 →
    exec (.stageOneAdmit i k at_) s = .next (finish u (settleSwitch (stageOne u i k))) ∧
    exec (.stageTwoMove k pos par at_) s = .next (finish u (settleSwitch (stageTwo u k pos par))) ∧
    exec (.resequencerTimeout src pos vc at_) s = .next (finish u (settleSwitch (reseqSkip u src pos vc))) ∧
    exec (.interCellGapTimeout lp vc at_) s = .next (finish u (settleSwitch (gapTimeout u lp vc)))) ∧
  (∀ (s u : State) (lp at_ : Nat) (par : Option Nat) (tx spoilt : Bool), u = s.advance at_ → linkRuns u = true → lp < 160 →
    exec (.egressCellSend lp ⟨par, none⟩ tx at_) s = .next (finish u (settleSwitch (egressSlot u lp par tx))) ∧
    exec (.egressCellSend lp ⟨par, some spoilt⟩ tx at_) s = .next (finish u (settleSwitch (egressCistern u lp par tx spoilt)))) ∧
  (∀ (s u t : State) (i k at_ y : Nat) (c : WaitCell), u = s.advance at_ → coreRuns u = true → i < 80 → k < 80 →
    linkCycle u.now i k = some y → useFree u.sw.oneUse i y 2 = true → offerList u (80 + i) = [] → offerList u i = [c] →
    admitCell u k c = some t →
    exec (.stageOneAdmit i k at_) s =
      .next (finish u (settleSwitch (modSw t fun w => { w with altPtr := mset 0 w.altPtr i 1, oneUse := useOne w.oneUse i y })))) ∧
  (∀ (s u : State) (k pos at_ cl y : Nat) (c : CellRec), u = s.advance at_ → coreRuns u = true → k < 80 → pos < 80 →
    moveCycle u k pos = some y → crosspointHeads u.sw k pos = [c] → isMirCell c = false → storeClass u.sw c false = some cl →
    exec (.stageTwoMove k pos none at_) s = .next (finish u (settleSwitch (touchElig (release (modSw u fun w =>
      { w with
        cells := w.cells.map fun d => if d = c then { c with loc := .store, cls := cl, tArr := u.now, bad := c.bad || false } else d
        rrPtr := mset 0 w.rrPtr pos (c.src * 8 + c.vc + 1)
        twoUse := useOne w.twoUse k y }) (flowKey c.src pos c.vc)) (portOf c.tgt) c.vc)))) ∧
  (∀ (s u : State) (src pos vc at_ e : Nat) (c : CellRec), u = s.advance at_ → coreRuns u = true → src < 160 → pos < 80 →
    vc < 8 → e < 65535 → mgetD u.sw.seqExp (flowKey src pos vc) 0 = e →
    (u.sw.cells.filter fun d => flowKey d.src (posOf d.tgt) d.vc == flowKey src pos vc && !d.rel) = [c] →
    c.loc = .store → c.seq = e + 1 → (u.sw.cells.all fun d => !d.rel) = true →
    (u.sw.pkts.all fun p => p.tgts.all fun t => t.sent == 0) = true →
    u.rd0 F.SWC_RESEQ_TO_TO ≠ 0 → c.tArr + 10 * u.rd0 F.SWC_RESEQ_TO_TO ≤ u.now →
    exec (.resequencerTimeout src pos vc at_) s = .next (finish u (settleSwitch ((release
      (modSw u fun w => { w with skips := w.skips ++ [(flowKey src pos vc, e)] }) (flowKey src pos vc)).report 4 2 pos 0 0 0)))) ∧
  (∀ (s u v : State) (lp at_ : Nat) (par : Option Nat) (tx : Bool), u = s.advance at_ → linkRuns u = true → lp < 160 →
    egressShut u lp = false → (getLink u lp).ctlOut = [] → u.linkUp lp = true → u.paused lp = false → pickVc u lp = (none, v) →
    exec (.egressCellSend lp ⟨par, none⟩ tx at_) s = .next (finish u (settleSwitch (pushSlot v lp idleCell)))) ∧
  (∀ (s u v : State) (lp at_ vc tier : Nat) (par : Option Nat) (tx : Bool), u = s.advance at_ → linkRuns u = true → lp < 160 →
    egressShut u lp = false → (getLink u lp).ctlOut = [] → u.linkUp lp = true → u.paused lp = false →
    pickVc u lp = (some (tier, vc), v) →
    exec (.egressCellSend lp ⟨par, none⟩ tx at_) s = .next (finish u (settleSwitch (serveVc v lp vc tier par tx)))) ∧
  (∀ (s u : State) (lp at_ : Nat) (par : Option Nat) (tx : Bool) (h : Header) (hs : List Header), u = s.advance at_ →
    linkRuns u = true → lp < 160 → egressShut u lp = false → (getLink u lp).ctlOut = h :: hs → credits u lp 0 ≠ 0 →
    exec (.egressCellSend lp ⟨par, none⟩ tx at_) s = .next (finish u (settleSwitch
      (pushCtl (modLink u lp fun l => { l with ctlOut := hs }) lp h)))) ∧
  ∀ (s u : State) (lp vc at_ : Nat) (a : Asm), u = s.advance at_ → coreRuns u = true → lp < 160 → vc < 8 →
    getAsm u lp vc = some a → a.drop = false → goesOn u a.pid = true → u.rd F.PRT_CELL_GAP_GAP (lp / 2) ≠ 0 →
    a.tLast + 10 * u.rd F.PRT_CELL_GAP_GAP (lp / 2) ≤ u.now →
    exec (.interCellGapTimeout lp vc at_) s = .next (finish u (settleSwitch
      (putAsm (discardArr (endPacket u a.pid 3) lp vc 0x0E) lp vc { a with drop := true, pend := 0 })))

/-- Time limits of the switch core, with the next state whole: a packet of one target, of VC 3 to 6, no cell of which has left
within the residency limit, is ended with TCODE 5 and counted with reason 0x1A; an eligible queue that has waited
PRT_ARB.STARVE is promoted and counted; the packet that a fence holds at the front of its queue is let go when none before
it is left; a flush ends and the link comes up where it may; a packet held back 10 us for reordering is let go and not
drawn for again. The first clauses say of each command that, whatever its operands within their range, it answers the next
state of its own operation where its part of the block runs (a register row: where the write is taken; a packet row: where
the station holds the packet). -/
def Obligations.SwitchLimits : Prop :=
  (∀ (s u : State) (pid at_ lp vc : Nat), u = s.advance at_ → coreRuns u = true → lp < 160 → vc < 8 →
    exec (.residencyLimit pid at_) s = .next (finish u (settleSwitch (residencyLimit u pid))) ∧
    exec (.starvePromotion lp vc at_) s = .next (finish u (settleSwitch (starvePromote u lp vc))) ∧
    exec (.fenceRelease lp at_) s = .next (finish u (settleSwitch (fenceRelease u lp)))) ∧
  (∀ (s u : State) (lp at_ vc : Nat), u = s.advance at_ → linkRuns u = true → lp < 160 → vc < 8 →
    exec (.portFlushDone lp at_) s = .next (finish u (settleSwitch (flushOver u lp))) ∧
    exec (.reorderHoldExpire lp vc at_) s = .next (finish u (reorderExpire u lp vc))) ∧
  (∀ (s u : State) (pid at_ : Nat) (p : PktRec) (t : Target), u = s.advance at_ → coreRuns u = true →
    (u.sw.stationQ.find? (·.pid == pid)) = none → findPkt u pid = some p → 3 ≤ p.hdr.vc → p.hdr.vc ≤ 6 →
    p.tgts = [t] → t.mir = none → t.sent = 0 → t.live = true → t.lp < 160 →
    u.rd0 F.SWC_RTE_RESLIM_RES_LIM ≠ 0 → p.tHead + 1000 * u.rd0 F.SWC_RTE_RESLIM_RES_LIM < u.now →
    exec (.residencyLimit pid at_) s =
      .next (finish u (settleSwitch ((endPacket u pid 5).discard t.lp p.hdr.vc 0x1A false)))) ∧
  (∀ (s u : State) (lp vc at_ t0 : Nat), u = s.advance at_ → coreRuns u = true → lp < 160 → 3 ≤ vc → vc ≤ 7 →
    (getEgr u lp vc).eligSince = some t0 → (getEgr u lp vc).promoted = none → eligible u lp vc = true →
    u.rd F.PRT_ARB_STARVE (lp / 2) ≠ 0 → t0 + 1000 * u.rd F.PRT_ARB_STARVE (lp / 2) ≤ u.now →
    exec (.starvePromotion lp vc at_) s = .next (finish u (settleSwitch
      ((modEgr u lp vc fun e => { e with promoted := some u.now }).cntP lp vc 13)))) ∧
  (∀ (s u : State) (lp at_ : Nat) (c : WaitCell) (p : PktRec), u = s.advance at_ → coreRuns u = true → lp < 160 →
    (u.sw.wait.find? fun c => c.lp == lp && c.vc == 3) = some c →
    u.sw.wait.find? (inQueue c.src lp 3) = some c → findPkt u c.pid = some p → p.fenceHeld = true →
    fenceCount u lp p.pid = 0 →
    exec (.fenceRelease lp at_) s = .next (finish u (settleSwitch (updPkt u p.pid fun p => { p with fenceHeld := false })))) ∧
  (∀ (s u : State) (lp at_ : Nat), u = s.advance at_ → linkRuns u = true → lp < 160 →
    exec (.portFlushDone lp at_) s =
      .next (finish u (settleSwitch (tryUp (modLink u lp fun l => { l with flushing := false }) lp)))) ∧
  ∀ (s u : State) (lp vc at_ pid t0 : Nat), u = s.advance at_ → linkRuns u = true → lp < 160 → vc < 8 →
    (getEgr u lp vc).held = some (pid, t0) → t0 + 10000 ≤ u.now →
    exec (.reorderHoldExpire lp vc at_) s =
      .next (finish u (touchElig (modEgr u lp vc fun e => { e with held := none, let_ := some pid }) lp vc))

/-- The forwarding banks, with the next state whole: an entry of the forwarding table written in a bank in EDIT or STANDBY
stands in it and leaves the bank in EDIT; SEAL of either bank in EDIT makes it STANDBY; a DRAINING bank B or A whose HOLD
has passed and which no packet uses becomes STANDBY (03 R85, R88). The first clauses say of each command that, whatever
its operands within their range, it answers the next state of its own operation where its part of the block runs (a
register row: where the write is taken; a packet row: where the station holds the packet). -/
def Obligations.ForwardingBanks : Prop :=
  (∀ (s : State) (m : Master) (b i val be : Nat) (pset : Bool), b < 2 → val < 2 ^ 32 → beOk m be = true →
    (takesWrite s m (if pset then psetReg b else fwdReg b) i 0 = true → exec (.swcFwdWrite m b pset i val be) s = .next (finish
      s (fwdWrite (wrote s m (if pset then psetReg b else fwdReg b) i 0) m b (if pset then psetReg b else fwdReg b) i val be)))
      ∧
    (takesWrite s m .SWC_BANK_CTRL 0 0 = true → exec (.sealA m) s = .next (finish s (sealBank (wrote s m .SWC_BANK_CTRL 0 0)
      0))) ∧
    (takesWrite s m .SWC_BANK_CTRL 0 0 = true → exec (.sealB m) s = .next (finish s (sealBank (wrote s m .SWC_BANK_CTRL 0 0)
      1)))) ∧
  (∀ (s u : State) (at_ : Nat), u = s.advance at_ → coreRuns u = true →
    exec (.bankDrainEnd at_) s = .next (finish u (settleSwitch (bankDrainEnd u)))) ∧
  (∀ (s c : State) (m : Master) (b i val be : Nat), b < 2 → i < 336 → val < 2 ^ 32 → beOk m be = true →
    takesWrite s m (fwdReg b) i 0 = true → c = wrote s m (fwdReg b) i 0 → bankState c b < 2 →
    exec (.swcFwdWrite m b false i val be) s =
      .next (finish s (setBankState (writeWord c m (fwdReg b) i 0 val be) b 0))) ∧
  (∀ (s c : State) (m : Master), takesWrite s m .SWC_BANK_CTRL 0 0 = true → c = wrote s m .SWC_BANK_CTRL 0 0 →
    bankState c 0 = 0 → exec (.sealA m) s = .next (finish s (c.wr0 F.SWC_BANK_STAT_STATE_A 1))) ∧
  (∀ (s c : State) (m : Master), takesWrite s m .SWC_BANK_CTRL 0 0 = true → c = wrote s m .SWC_BANK_CTRL 0 0 →
    bankState c 1 = 0 → exec (.sealB m) s = .next (finish s (c.wr0 F.SWC_BANK_STAT_STATE_B 1))) ∧
  ∀ (s u : State) (at_ b t0 : Nat), u = s.advance at_ → coreRuns u = true → b = 1 - u.rd0 F.SWC_BANK_STAT_ACTIVE →
    u.sw.drainSince = some t0 → bankState u b = 3 → t0 + 1000 * u.rd0 F.SWC_BANK_HOLD_HOLD ≤ u.now → bankCount u b = 0 →
    exec (.bankDrainEnd at_) s =
      .next (finish u (settleSwitch (modSw (setBankState u b 1) fun w => { w with drainSince := none })))

/-- Fabric time from TICK, with the next state in full. An edge that is no marker (high at most 400 ns) leaves the phase error
e in TIM_PHASE_ERR and HOLDOVER 0, and: e within the step threshold, or no threshold, is slewed by at most SLEW_MAX; a
larger negative e moves the count forward by its size, a larger positive one holds the count still for its size, and
either way STEPPED is set, the slew in progress ends and kind 0x02 is reported. A marker does the same and then loads the
armed value, or, with none armed and VALID, sets SLIP with kind 0x03 where the nearest tick is no multiple of 65,536, or
nothing more. Holdover is entered with kind 0x01 when source 0 misses LOSS_N edges, and with kinds 0x01 and 0x04 when
source 2 misses LOSS_N SYNCs. At a new tick a queue's budget becomes the sum of the rates of its windows open then (none
open without VALID or a period), the unscheduled budget of each link that is up is renewed from U_NOW and the link's
width, and the tick is noted; no register changes. The first clauses say of each command that, whatever its operands
within their range, it answers the next state of its own operation where its part of the block runs (a register row: where
the write is taken; a packet row: where the station holds the packet). -/
def Obligations.TimeFromTick : Prop :=
  (∀ (s u : State) (high at_ : Nat), u = s.advance at_ → chipOn u = true →
    exec (.tickEdge high at_) s = .next (finish u (tickEdge u high)) ∧
    exec (.holdoverEnter at_) s = .next (finish u (holdoverEnter u))) ∧
  (∀ (s u : State) (at_ : Nat), u = s.advance at_ → coreRuns u = true →
    exec (.tickBoundary at_) s = .next (finish u (tickBoundary u))) ∧
  (∀ (s u c : State) (high at_ thr smax : Nat) (e : Int), u = s.advance at_ → chipOn u = true → u.rd0 F.TIM_CTRL_SRC = 0 →
    e = ((u.fabric : Int) + signed 16 (u.rd0 F.TIM_TICK_ADJ_ADJ) + 500) % 1000 - 500 → thr = u.rd0 F.TIM_DISC_STEP_THR →
    smax = u.rd0 F.TIM_DISC_SLEW_MAX → high ≤ 400 →
    c = (modTime u fun t => { t with lastEdge := some u.now }).wr0 F.TIM_PHASE_ERR_ERR (unsigned 32 e) →
    ((thr = 0 ∨ e.natAbs ≤ thr) → smax ≠ 0 → exec (.tickEdge high at_) s = .next (finish u
      ((modTime c fun t => { t with slew := -(max (-(smax : Int)) (min (smax : Int) e)), slewAge := 0 }).wr0
        F.TIM_STAT_HOLDOVER 0))) ∧
    ((thr = 0 ∨ e.natAbs ≤ thr) → smax = 0 → exec (.tickEdge high at_) s =
      .next (finish u (c.wr0 F.TIM_STAT_HOLDOVER 0))) ∧
    (thr ≠ 0 → thr < e.natAbs → e < 0 → exec (.tickEdge high at_) s = .next (finish u
      ((((modTime c fun t => { t with count := (t.count + e.natAbs) % 2 ^ 64, still := 0, slew := 0, slewAge := 1000,
                                      jump := some (u.now, t.count) }).wr0
        F.TIM_STAT_STEPPED 1).report 2 2 (unsigned 48 e)).wr0 F.TIM_STAT_HOLDOVER 0))) ∧
    (thr ≠ 0 → thr < e.natAbs → 0 ≤ e → exec (.tickEdge high at_) s = .next (finish u
      ((((modTime c fun t => { t with still := e.natAbs, slew := 0, slewAge := 1000 }).wr0
        F.TIM_STAT_STEPPED 1).report 2 2 (unsigned 48 e)).wr0 F.TIM_STAT_HOLDOVER 0)))) ∧
  (∀ (s u d : State) (high at_ : Nat) (e : Int), u = s.advance at_ → chipOn u = true → u.rd0 F.TIM_CTRL_SRC = 0 →
    e = ((u.fabric : Int) + signed 16 (u.rd0 F.TIM_TICK_ADJ_ADJ) + 500) % 1000 - 500 → 400 < high →
    d = (applyPhase (modTime u fun t => { t with lastEdge := some u.now }) e).wr0 F.TIM_STAT_HOLDOVER 0 →
    (∀ v : Nat, d.time.armed = some v → exec (.tickEdge high at_) s = .next (finish u
      (((modTime d fun t => { t with count := v % 2 ^ 64, still := 0, slew := 0, slewAge := 1000, armed := none }).wr0
        F.TIM_STAT_VALID 1).wr0 F.TIM_CTRL_LOAD_ARM 0))) ∧
    (d.time.armed = none → d.flag F.TIM_STAT_VALID = true → (u.fabric + 500) / 1000 % 65536 ≠ 0 →
      exec (.tickEdge high at_) s = .next (finish u ((d.wr0 F.TIM_STAT_SLIP 1).report 2 3 (u.fabric % 2 ^ 48)))) ∧
    (d.time.armed = none → (d.flag F.TIM_STAT_VALID = false ∨ (u.fabric + 500) / 1000 % 65536 = 0) →
      exec (.tickEdge high at_) s = .next (finish u d))) ∧
  (∀ (s u : State) (at_ t0 : Nat), u = s.advance at_ → chipOn u = true → u.rd0 F.TIM_DISC_LOSS_N ≠ 0 →
    u.flag F.TIM_STAT_HOLDOVER = false →
    (u.rd0 F.TIM_CTRL_SRC = 0 → u.time.lastEdge = some t0 → t0 + u.rd0 F.TIM_DISC_LOSS_N * 1000 < u.now →
      exec (.holdoverEnter at_) s = .next (finish u ((u.wr0 F.TIM_STAT_HOLDOVER 1).report 2 1 0))) ∧
    (u.rd0 F.TIM_CTRL_SRC = 2 → u.rd0 F.TIM_IB_SYNC_IVL ≠ 0 → u.time.lastSync = some t0 →
      t0 + u.rd0 F.TIM_DISC_LOSS_N * (1000 * u.rd0 F.TIM_IB_SYNC_IVL) < u.now →
      exec (.holdoverEnter at_) s = .next (finish u (((u.wr0 F.TIM_STAT_HOLDOVER 1).report 2 1 2).report 2 4 0)))) ∧
  ∀ (s u : State) (at_ : Nat) (ws : List Window), u = s.advance at_ → coreRuns u = true → u.tickCount ≠ u.time.lastTick →
    ws = (if u.flag F.TIM_STAT_VALID = false ∨ u.rd F.TIM_TT_PER_PERIOD (u.rd0 F.TIM_TT_STAT_ACTIVE) = 0 then []
      else (windowsOf u (u.rd0 F.TIM_TT_STAT_ACTIVE)).filter (openAt (u.rd F.TIM_TT_PER_PERIOD (u.rd0 F.TIM_TT_STAT_ACTIVE))
        (ttOffset u (u.rd0 F.TIM_TT_STAT_ACTIVE)))) →
    ∃ v, exec (.tickBoundary at_) s = .next (finish u v) ∧ v.regs = u.regs ∧
      v.time = { u.time with lastTick := u.tickCount } ∧
      (∀ lp vc, vc < 8 → (getEgr v lp vc).budget =
        ((((ws.filter fun w => w.lp * 8 + w.vc == lp * 8 + vc).map (·.rate)).foldl (· + ·) 0 : Nat) : Int)) ∧
      ∀ lp, lp < 160 → u.linkUp lp = true → (getEPort v lp).unsched =
        ((u.rd0 F.PWR_LEVEL_U_NOW * cellsPerTick (u.rd F.PRT_LSTAT_TXW lp) / 64 : Nat) : Int)

/-- TIM_CTRL and the load of fabric time, with the next state whole: INVAL clears VALID, withdraws the armed load, closes
every window and cancels a pending commit of mode 1 to 3; LOAD_ARM with VALID 0 arms a value on the tick grid when the
source is 1 or 3; an armed load of those sources is taken at the next tick and sets VALID; a write of SRC sets a new
source, with VALID and HOLDOVER 0, nothing armed and no window open, and a write of the source in force leaves all as it
is. The first clauses say of each command that, whatever its operands within their range, it answers the next state of its
own operation where its part of the block runs (a register row: where the write is taken; a packet row: where the station
holds the packet). -/
def Obligations.TimeControl : Prop :=
  (∀ (s : State) (m : Master) (val be : Nat), val < 2 ^ 32 → beOk m be = true →
    (takesWrite s m .TIM_CTRL 0 0 = true → exec (.inval m) s = .next (finish s (timeInval (wrote s m .TIM_CTRL 0 0)))) ∧
    (takesWrite s m .TIM_CTRL 0 0 = true → exec (.loadArm m) s = .next (finish s (timeLoadArm (wrote s m .TIM_CTRL 0 0) m))) ∧
    (takesWrite s m .TIM_CTRL 0 0 = true → exec (.timCtrlSrcWrite m val be) s = .next (finish s (timCtrlWrite (wrote s m
      .TIM_CTRL 0 0) m val be)))) ∧
  (∀ (s u : State) (at_ : Nat), u = s.advance at_ → coreRuns u = true →
    exec (.loadTakeEffect at_) s = .next (finish u (loadTakeEffect u))) ∧
  (∀ (s c : State) (m : Master), takesWrite s m .TIM_CTRL 0 0 = true → c = wrote s m .TIM_CTRL 0 0 → c.commit = none →
    exec (.inval m) s = .next (finish s (closeWindows (withdrawLoad (c.wr0 F.TIM_STAT_VALID 0))))) ∧
  (∀ (s c : State) (m : Master) (k : PendCommit), takesWrite s m .TIM_CTRL 0 0 = true → c = wrote s m .TIM_CTRL 0 0 →
    c.commit = some k → k.mode ≠ 0 →
    exec (.inval m) s = .next (finish s (cancelCommit (closeWindows (withdrawLoad (c.wr0 F.TIM_STAT_VALID 0)))))) ∧
  (∀ (s c : State) (m : Master), takesWrite s m .TIM_CTRL 0 0 = true → c = wrote s m .TIM_CTRL 0 0 →
    c.flag F.TIM_STAT_VALID = false → (c.rd0 F.TIM_CTRL_SRC = 1 ∨ c.rd0 F.TIM_CTRL_SRC = 3) → loadValue c % 1000 = 0 →
    exec (.loadArm m) s = .next (finish s
      ((modTime c fun t => { t with armed := some (loadValue c), armTick := c.tickCount }).wr0 F.TIM_CTRL_LOAD_ARM 1))) ∧
  (∀ (s u : State) (at_ v : Nat), u = s.advance at_ → coreRuns u = true →
    (u.rd0 F.TIM_CTRL_SRC = 1 ∨ u.rd0 F.TIM_CTRL_SRC = 3) → u.time.armed = some v →
    u.tickCount ≠ u.time.armTick →
    exec (.loadTakeEffect at_) s = .next (finish u
      (((modTime u fun t => { t with count := v % 2 ^ 64, still := 0, slew := 0, slewAge := 1000, armed := none }).wr0
        F.TIM_STAT_VALID 1).wr0 F.TIM_CTRL_LOAD_ARM 0))) ∧
  ∀ (s c d : State) (m : Master) (val be n : Nat), val < 16 → beOk m be = true → takesWrite s m .TIM_CTRL 0 0 = true →
    c = wrote s m .TIM_CTRL 0 0 → d = writeWord c m .TIM_CTRL 0 0 val be (fun f => f != F.TIM_CTRL_SRC) →
    n = fieldAfter c F.TIM_CTRL_SRC 0 val be →
    (d.rd0 F.TIM_CTRL_SRC = n → exec (.timCtrlSrcWrite m val be) s = .next (finish s d)) ∧
    (d.rd0 F.TIM_CTRL_SRC ≠ n → exec (.timCtrlSrcWrite m val be) s = .next (finish s
      (modTime ((closeWindows (withdrawLoad ((d.wr0 F.TIM_CTRL_SRC n).wr0 F.TIM_STAT_VALID 0))).wr0 F.TIM_STAT_HOLDOVER 0)
        fun t => { t with lastEdge := none, lastSync := none })))

/-- Fabric time in band, with the next state whole: a master sends SYNC every SYNC_IVL ticks with the next sequence number; a
slave sends DELAY_REQ every sixteen of them; the first DELAY_RSP of a slave gives half of what the two ways differ from
the partner's own time as the path delay; a SYNC without VALID is only its source's sign of life, ending holdover; a SYNC
with VALID also applies the phase error of the count at its arrival against the time it carries and the path delay. The
first clauses say of each command that, whatever its operands within their range, it answers the next state of its own
operation where its part of the block runs (a register row: where the write is taken; a packet row: where the station
holds the packet). -/
def Obligations.TimeInBand : Prop :=
  (∀ (s u : State) (at_ : Nat), u = s.advance at_ → coreRuns u = true →
    exec (.syncSend at_) s = .next (finish u (syncSend u)) ∧
    exec (.delayReqSend at_) s = .next (finish u (delayReqSend u))) ∧
  (∀ (s u : State) (p : StPkt) (at_ : Nat), u = s.advance at_ →
    (stationHas u p 0x02 = true → exec (.delayRspReceive p at_) s = .next (finish u (delayRsp (takeStation u p) p (rxTime u
      p)))) ∧
    (stationHas u p 0x02 = true → exec (.syncReceive p at_) s = .next (finish u (syncReceive (takeStation u p) p (rxTime u p))))) ∧
  (∀ (s u : State) (at_ : Nat), u = s.advance at_ → coreRuns u = true → u.rd0 F.TIM_CTRL_SRC = 1 →
    u.rd0 F.TIM_IB_SYNC_IVL ≠ 0 → u.atTick (u.rd0 F.TIM_IB_SYNC_IVL) = true →
    exec (.syncSend at_) s = .next (finish u
      (emitVc0 (modTime u fun t => { t with syncSeq := (t.syncSeq + 1) % 2 ^ 24 }) (u.rd0 F.TIM_IB_RELAY_LP)
        (timePkt u u.time.syncSeq 0 (u.rd0 F.TIM_STAT_VALID) (unsigned 32 (meanDelay u)) u.fabric 0).1
        (leBytes 8 u.fabric ++ leBytes 8 0) 0))) ∧
  (∀ (s u : State) (at_ : Nat), u = s.advance at_ → coreRuns u = true → u.rd0 F.TIM_CTRL_SRC = 2 →
    u.rd0 F.TIM_IB_SYNC_IVL ≠ 0 → u.atTick (16 * u.rd0 F.TIM_IB_SYNC_IVL) = true →
    exec (.delayReqSend at_) s = .next (finish u
      (emitVc0 u (u.rd0 F.TIM_IB_RELAY_LP) (timePkt u 0 1 0 0 u.fabric 0).1 (leBytes 8 u.fabric ++ leBytes 8 0) 0))) ∧
  (∀ (s u c : State) (p : StPkt) (at_ t1 : Nat) (d : Int), u = s.advance at_ → stationHas u p 0x02 = true →
    c = takeStation u p → c.rd0 F.TIM_CTRL_SRC = 2 → p.hdr.opw0 % 4 = 2 → c.time.reqAt = some t1 → c.time.delays = [] →
    d = (((rxTime u p : Int) - t1) - ((leNat ((p.data.drop 8).take 8) : Int) - leNat (p.data.take 8))) / 2 →
    exec (.delayRspReceive p at_) s = .next (finish u
      ((modTime c fun t => { t with reqAt := none, delays := [d] }).wr0 F.TIM_IB_DELAY_DELAY (unsigned 16 d)))) ∧
  (∀ (s u c : State) (p : StPkt) (at_ : Nat), u = s.advance at_ → stationHas u p 0x02 = true → c = takeStation u p →
    c.rd0 F.TIM_CTRL_SRC = 2 → p.hdr.opw0 % 4 = 0 → bits p.hdr.opw0 2 1 = 0 →
    exec (.syncReceive p at_) s = .next (finish u
      (modTime (c.wr0 F.TIM_STAT_HOLDOVER 0) fun t => { t with lastSync := some c.now }))) ∧
  ∀ (s u c : State) (p : StPkt) (at_ : Nat), u = s.advance at_ → stationHas u p 0x02 = true → c = takeStation u p →
    c.rd0 F.TIM_CTRL_SRC = 2 → p.hdr.opw0 % 4 = 0 → bits p.hdr.opw0 2 1 = 1 → c.flag F.TIM_STAT_VALID = true →
    exec (.syncReceive p at_) s = .next (finish u
      (applyPhase (modTime (c.wr0 F.TIM_STAT_HOLDOVER 0) fun t => { t with lastSync := some c.now })
        ((rxTime u p : Int) - ((leNat (p.data.take 8) + p.hdr.opw1 : Nat) + meanDelay c))))

/-- Timetables, with the next state whole: a window written into a bank that is not ACTIVE, while no admission runs, leaves
the bank in EDIT; SEAL seals either bank that is in EDIT; ADMIT of a sealed bank begins its admission when none runs; an
admission's end shows its result, and makes the bank ADMITTED where the result is 0 and no change cut it; the recheck of
the ACTIVE bank shows that it holds, or AT_RISK with kind 0x05 and the failing check; a missed deadline counts region G
slot 14 and, when strict, aborts the operation with code 0x06 (05 R138 to R144). The first clauses say of each command
that, whatever its operands within their range, it answers the next state of its own operation where its part of the block
runs (a register row: where the write is taken; a packet row: where the station holds the packet). -/
def Obligations.Timetables : Prop :=
  (∀ (s : State) (m : Master) (b kind i w val be : Nat), b < 2 → kind < 4 → val < 2 ^ 32 → beOk m be = true →
    (takesWrite s m (ttReg b kind) (if kind < 2 then b else i) w = true → exec (.ttBankWrite m b kind i w val be) s = .next
      (finish s (ttBankWrite (wrote s m (ttReg b kind) (if kind < 2 then b else i) w) m b (ttReg b kind) (if kind < 2 then b
      else i) w val be))) ∧
    (takesWrite s m .TIM_TT_CTRL 0 0 = true → exec (.ttSealA m) s = .next (finish s (ttSeal (wrote s m .TIM_TT_CTRL 0 0) 0))) ∧
    (takesWrite s m .TIM_TT_CTRL 0 0 = true → exec (.ttSealB m) s = .next (finish s (ttSeal (wrote s m .TIM_TT_CTRL 0 0) 1))) ∧
    (takesWrite s m .TIM_TT_CTRL 0 0 = true → exec (.admitA m) s = .next (finish s (ttAdmitStart (wrote s m .TIM_TT_CTRL 0 0)
      0))) ∧
    (takesWrite s m .TIM_TT_CTRL 0 0 = true → exec (.admitB m) s = .next (finish s (ttAdmitStart (wrote s m .TIM_TT_CTRL 0 0)
      1)))) ∧
  (∀ (s u : State) (at_ g : Nat), u = s.advance at_ → coreRuns u = true → g < 4096 →
    exec (.admissionDone at_) s = .next (finish u (admissionDone u)) ∧
    exec (.timetableRecheck at_) s = .next (finish u (ttRecheck u)) ∧
    exec (.deadlineMiss g at_) s = .next (finish u (settleGroups (deadlineMiss u g)))) ∧
  (∀ (s c : State) (m : Master) (b i w val be : Nat), b < 2 → val < 2 ^ 32 → beOk m be = true →
    takesWrite s m (winReg b) i w = true → c = wrote s m (winReg b) i w → ttState c b ≠ 3 → c.flag F.TIM_ADM_STAT_BUSY = false →
    ttState (writeWord c m (winReg b) i w val be) b ≠ 0 →
    exec (.ttBankWrite m b 2 i w val be) s = .next (finish s (setTtState (writeWord c m (winReg b) i w val be) b 0))) ∧
  (∀ (s c : State) (m : Master), takesWrite s m .TIM_TT_CTRL 0 0 = true → c = wrote s m .TIM_TT_CTRL 0 0 → ttState c 0 = 0 →
    exec (.ttSealA m) s = .next (finish s (setTtState c 0 1))) ∧
  (∀ (s c : State) (m : Master), takesWrite s m .TIM_TT_CTRL 0 0 = true → c = wrote s m .TIM_TT_CTRL 0 0 → ttState c 1 = 0 →
    exec (.ttSealB m) s = .next (finish s (setTtState c 1 1))) ∧
  (∀ (s c : State) (m : Master), takesWrite s m .TIM_TT_CTRL 0 0 = true → c = wrote s m .TIM_TT_CTRL 0 0 → ttState c 0 = 1 →
    c.flag F.TIM_ADM_STAT_BUSY = false →
    exec (.admitA m) s = .next (finish s
      ((((modTime c fun t => { t with admCut := false }).wr0 F.TIM_ADM_STAT_BUSY 1).wr0 F.TIM_ADM_STAT_BANK 0).wr0 F.TIM_TT_CTRL_ADMIT_A 1))) ∧
  (∀ (s c : State) (m : Master), takesWrite s m .TIM_TT_CTRL 0 0 = true → c = wrote s m .TIM_TT_CTRL 0 0 → ttState c 1 = 1 →
    c.flag F.TIM_ADM_STAT_BUSY = false →
    exec (.admitB m) s = .next (finish s
      ((((modTime c fun t => { t with admCut := false }).wr0 F.TIM_ADM_STAT_BUSY 1).wr0 F.TIM_ADM_STAT_BANK 1).wr0 F.TIM_TT_CTRL_ADMIT_B 1))) ∧
  (∀ (s u v : State) (at_ : Nat) (r : AdmResult), u = s.advance at_ → coreRuns u = true → u.flag F.TIM_ADM_STAT_BUSY = true →
    r = ttAdmit u (u.rd0 F.TIM_ADM_STAT_BANK) →
    v = (((((((((u.wr0 F.TIM_TT_CTRL_ADMIT_A 0).wr0 F.TIM_TT_CTRL_ADMIT_B 0).wr0 F.TIM_ADM_STAT_BUSY 0).wr0
      F.TIM_ADM_STAT_RESULT r.code).wr0 F.TIM_ADM_STAT_LP r.lp).wr0 F.TIM_ADM_STAT_VC r.vc).wr0 F.TIM_ADM_STAT_GID r.gid).wr0
      F.TIM_ADM_NEED_NEED r.need).wr0 F.TIM_ADM_HAVE_HAVE r.have_).wr0 F.TIM_ADM_TICK_OFFSET r.offset →
    (r.code = 0 → u.time.admCut = false →
      exec (.admissionDone at_) s = .next (finish u (setTtState v (u.rd0 F.TIM_ADM_STAT_BANK) 2))) ∧
    ((r.code ≠ 0 ∨ u.time.admCut = true) → exec (.admissionDone at_) s = .next (finish u v))) ∧
  (∀ (s u : State) (at_ b : Nat) (r : AdmResult), u = s.advance at_ → coreRuns u = true → b = u.rd0 F.TIM_TT_STAT_ACTIVE →
    u.rd F.TIM_TT_PER_PERIOD b ≠ 0 → r = ttConditions u b →
    (r.code = 0 → exec (.timetableRecheck at_) s = .next (finish u
      (((((u.wr0 F.TIM_RISK_AT_RISK 0).wr0 F.TIM_RISK_RESULT 0).wr0 F.TIM_RISK_LP admOk.lp).wr0
        F.TIM_RISK_VC admOk.vc).wr0 F.TIM_RISK_GID admOk.gid))) ∧
    (r.code ≠ 0 → exec (.timetableRecheck at_) s = .next (finish u
      ((((((u.wr0 F.TIM_RISK_AT_RISK 1).wr0 F.TIM_RISK_RESULT r.code).wr0 F.TIM_RISK_LP r.lp).wr0
        F.TIM_RISK_VC r.vc).wr0 F.TIM_RISK_GID r.gid).report 2 5 r.code)))) ∧
  ∀ (s u c : State) (g at_ t0 : Nat) (o : GrpOp) (e : TtGroup), u = s.advance at_ → coreRuns u = true → g < 4096 →
    (getGrp u g).op = some o → o.atStart = some t0 →
    ((ttGroupsOf u (u.rd0 F.TIM_TT_STAT_ACTIVE)).find? (·.gid == g)) = some e → e.deadline ≠ 0 →
    t0 + e.deadline ≤ u.tickCount → c = (modOp u g fun o => { o with atStart := none }).cntG g 14 →
    (e.strict = false → exec (.deadlineMiss g at_) s = .next (finish u (settleGroups c))) ∧
    (e.strict = true → exec (.deadlineMiss g at_) s = .next (finish u (settleGroups (settleGroups (raiseAbort c g o.seq 6)))))

/-- Groups are set up and taken down, with the next state whole: an entry written while its group is UNUSED stands in it and
makes it DECLARED; a rank entry that no group in use covers is written; CREATE and CREATE_SHAPE that pass every check make
the group ACTIVE with result 0, the shape's with the plan it computes, and otherwise leave only their result; DESTROY of
an ACTIVE group makes it CLOSING and withdraws what is queued, aborting a running operation with code 0x07; GROUP_ABORT
aborts the running operation with code 0x07; either of a group not ACTIVE leaves result 1; a CLOSING group whose HOLD has
passed returns to its reset values with its counters cleared (06 R153 to R160). The first clauses say of each command
that, whatever its operands within their range, it answers the next state of its own operation where its part of the block
runs (a register row: where the write is taken; a packet row: where the station holds the packet). -/
def Obligations.GroupSetup : Prop :=
  (∀ (s : State) (m : Master) (g w val be b i : Nat), g < 4096 → val < 2 ^ 32 → beOk m be = true → b < 2 →
    (takesWrite s m .GRP_ENT g w = true → exec (.grpEntWrite m g w val be) s = .next (finish s (groupEntWrite (wrote s m
      .GRP_ENT g w) m g w val be))) ∧
    (takesWrite s m ((rankReg b)) i 0 = true → exec (.grpRankWrite m b i val be) s = .next (finish s (groupRankWrite (wrote s m
      ((rankReg b)) i 0) m b i val be))) ∧
    (takesWrite s m .GRP_CMD 0 0 = true → exec (.create m g) s = .next (finish s (settleGroups (groupCreate (wrote s m .GRP_CMD
      0 0) g false)))) ∧
    (takesWrite s m .GRP_CMD 0 0 = true → exec (.createShape m g) s = .next (finish s (settleGroups (groupCreate (wrote s m
      .GRP_CMD 0 0) g true)))) ∧
    (takesWrite s m .GRP_CMD 0 0 = true → exec (.destroy m g) s = .next (finish s (settleGroups (groupDestroy (wrote s m
      .GRP_CMD 0 0) g)))) ∧
    (takesWrite s m .GRP_CMD 0 0 = true → exec (.abort m g) s = .next (finish s (settleGroups (groupAbort (wrote s m .GRP_CMD 0
      0) g))))) ∧
  (∀ (s u : State) (g at_ : Nat), u = s.advance at_ → coreRuns u = true → g < 4096 →
    exec (.groupFree g at_) s = .next (finish u (groupFree u g))) ∧
  (∀ (s c : State) (m : Master) (g w val be : Nat), g < 4096 → val < 2 ^ 32 → beOk m be = true → takesWrite s m .GRP_ENT g w = true →
    c = wrote s m .GRP_ENT g w → groupLive c g = false → c.rd F.GRP_ENT_STATE g = 0 →
    exec (.grpEntWrite m g w val be) s =
      .next (finish s ((writeWord c m .GRP_ENT g w val be).wr F.GRP_ENT_STATE g 1))) ∧
  (∀ (s c : State) (m : Master) (b i val be : Nat), b < 2 → val < 2 ^ 32 → beOk m be = true → takesWrite s m (rankReg b) i 0 = true →
    c = wrote s m (rankReg b) i 0 → rankLocked c b i = false →
    exec (.grpRankWrite m b i val be) s = .next (finish s (writeWord c m (rankReg b) i 0 val be))) ∧
  (∀ (s c : State) (m : Master) (g : Nat), g < 4096 → takesWrite s m .GRP_CMD 0 0 = true → c = wrote s m .GRP_CMD 0 0 →
    (createResult c g false (planWritten c g) = 0 →
      exec (.create m g) s = .next (finish s (settleGroups
        (cmdResult (setGrp ((c.wr F.GRP_ENT_STATE g 2).wr F.GRP_ENT_ACT_BANK g 0) g grpInit) g 0)))) ∧
    (createResult c g false (planWritten c g) ≠ 0 →
      exec (.create m g) s = .next (finish s (settleGroups (cmdResult c g (createResult c g false (planWritten c g))))))) ∧
  (∀ (s c : State) (m : Master) (g : Nat), g < 4096 → takesWrite s m .GRP_CMD 0 0 = true → c = wrote s m .GRP_CMD 0 0 →
    (createResult c g true (planShape c) = 0 →
      exec (.createShape m g) s = .next (finish s (settleGroups
        (cmdResult (setGrp (((putShape c g (planShape c)).wr F.GRP_ENT_STATE g 2).wr F.GRP_ENT_ACT_BANK g 0) g
          { grpInit with shaped := some (c.rd0 F.GRP_SHAPE_NCOL, c.rd0 F.GRP_SHAPE_NSLOT) }) g 0)))) ∧
    (createResult c g true (planShape c) ≠ 0 →
      exec (.createShape m g) s = .next (finish s (settleGroups (cmdResult c g (createResult c g true (planShape c))))))) ∧
  (∀ (s c d : State) (m : Master) (g : Nat), g < 4096 → takesWrite s m .GRP_CMD 0 0 = true → c = wrote s m .GRP_CMD 0 0 →
    groupActive c g = true →
    d = modGrp (withdrawQueued (c.wr F.GRP_ENT_STATE g 3) g) g (fun x => { x with closingAt := some c.now }) →
    ((getGrp d g).op = none → exec (.destroy m g) s = .next (finish s (settleGroups (cmdResult d g 0)))) ∧
    ∀ o : GrpOp, (getGrp d g).op = some o →
      exec (.destroy m g) s = .next (finish s (settleGroups (cmdResult (raiseAbort d g o.seq 7) g 0)))) ∧
  (∀ (s c : State) (m : Master) (g : Nat), g < 4096 → takesWrite s m .GRP_CMD 0 0 = true →
    c = wrote s m .GRP_CMD 0 0 → groupActive c g = false →
    exec (.destroy m g) s = .next (finish s (settleGroups (cmdResult c g 1))) ∧
    exec (.abort m g) s = .next (finish s (settleGroups (cmdResult c g 1)))) ∧
  (∀ (s c : State) (m : Master) (g : Nat) (o : GrpOp), g < 4096 → takesWrite s m .GRP_CMD 0 0 = true →
    c = wrote s m .GRP_CMD 0 0 → groupActive c g = true → (getGrp c g).op = some o →
    exec (.abort m g) s = .next (finish s (settleGroups (cmdResult (raiseAbort c g o.seq 7) g 0)))) ∧
  ∀ (s u d : State) (g at_ t0 : Nat), u = s.advance at_ → coreRuns u = true → g < 4096 → u.rd F.GRP_ENT_STATE g = 3 →
    (getGrp u g).op = none → (getGrp u g).closingAt = some t0 → t0 + 1000 * u.rd0 F.SWC_BANK_HOLD_HOLD ≤ u.now →
    d = setGrp (resetFields u .GRP_ENT g) g grpInit →
    exec (.groupFree g at_) s = .next (finish u { d with tel := { d.tel with
      cnt := d.tel.cnt.filter fun e => !(decide (0x100000 + g * 128 ≤ e.1) && decide (e.1 < 0x100000 + (g + 1) * 128))
      waits := d.tel.waits.filter fun e => !(decide (0x100000 + g * 128 ≤ e.1) && decide (e.1 < 0x100000 + (g + 1) * 128)) } })

/-- An operation is rung and launched, with the next state whole. DOORBELL of a rack group of its own live group: the first
for a SEQ within the queue, with no reserved field and no GRANT_REQ that differs, fills the queue slot and the slot's
words; another link's joins it; each is answered with a GRANT of kind 2, as are a SEQ too far back, discarded with reason
0x1E, and one too far ahead, with 0x1C. LAUNCH of a group that may launch: with a gate not met it notes the gate and stops
the timer, with one still not met nothing happens, else the operation is launched. GRANT_REQ of a free slot at a rack
station with no operation running or queued is kept; one whose slot is in use is discarded with reason 0x1B; one with a
reserved field or a wrong OPW0 or length aborts its SEQ with code 0x02. A wave whose turn it is and which finds its space
is placed, counted and granted to the links that asked for it, asked for upwards, and its complete chunks go on; the
group's turn is noted. A GRANT of kind 0 for a wave asked for is noted, the next wave asked for and what waited for it
sent up (06 R164 to R173, 08 R222). The first clauses say of each command that, whatever its operands within their range,
it answers the next state of its own operation where its part of the block runs (a register row: where the write is taken;
a packet row: where the station holds the packet). -/
def Obligations.GroupLaunch : Prop :=
  (∀ (s u : State) (p : StPkt) (at_ : Nat), u = s.advance at_ →
    (stationHas u p 0x14 = true → exec (.doorbell p at_) s = .next (finish u (settleGroups (doorbell u p)))) ∧
    (stationHas u p 0x10 = true → exec (.grantReq p at_) s = .next (finish u (settleGroups (grantReq u p)))) ∧
    (stationHas u p 0x11 = true → exec (.grant p at_) s = .next (finish u (settleGroups (grantReceive u p))))) ∧
  (∀ (s u : State) (g at_ : Nat) (hostData : Option (List Byte)), u = s.advance at_ → coreRuns u = true → g < 4096 →
    exec (.launch g at_) s = .next (finish u (settleGroups (launch u g))) ∧
    exec (.waveGrant hostData at_) s = .next (finish u (settleGroups (waveGrant u hostData)))) ∧
  (∀ (s u c : State) (p : StPkt) (at_ g seq n : Nat) (l : GLink), u = s.advance at_ → stationHas u p 0x14 = true →
    c = takeStation u p → g = p.hdr.gid → seq = p.hdr.seq → l = linkCode c p.arr → collectiveReason c p.hdr p.arr = 0 →
    c.flag F.GRP_ENT_MODE g = true → n = 2 ^ c.rd F.GRP_ENT_QLOG g →
    (1 ≤ seqSub (nextSeq c g) seq → seqSub (nextSeq c g) seq ≤ n →
      exec (.doorbell p at_) s = .next (finish u (settleGroups (sendGrant (stDiscard c p 0x1E) g l 2 seq 0 0)))) ∧
    (n < seqSub (nextSeq c g) seq → n ≤ seqSub seq (nextSeq c g) →
      exec (.doorbell p at_) s = .next (finish u (settleGroups (sendGrant (stDiscard c p 0x1C) g l 2 seq 0 0)))) ∧
    ∀ (d e : State) (w : List Word) (sig : List Byte), (seqSub (nextSeq c g) seq = 0 ∨ n < seqSub (nextSeq c g) seq) →
      seqSub seq (nextSeq c g) < n → w = wordsOf 16 p.data → sig = signatureOf w (c.rd F.GRP_ENT_GEPOCH g) →
      d = noteFirst c g seq → p.hdr.len = 64 → descReserved c g w true = false →
      ((getGrp d g).queue.find? (·.seq == seq) = none →
        e = putQstore (modGrp d g fun x => { x with queue := x.queue ++ [⟨seq, w, [(l, w)], none⟩] }) g seq w →
        reqsDiffer e g seq sig = false →
        exec (.doorbell p at_) s = .next (finish u (settleGroups (sendGrant e g l 2 seq 0 0)))) ∧
      ∀ q : QEnt, (getGrp d g).queue.find? (·.seq == seq) = some q → signatureOf q.desc (c.rd F.GRP_ENT_GEPOCH g) = sig →
        exec (.doorbell p at_) s = .next (finish u (settleGroups (sendGrant (modGrp d g fun x => { x with
          queue := x.queue.map fun y => if y.seq = seq then { y with rung := y.rung.filter (·.1 != l) ++ [(l, w)] } else y })
          g l 2 seq 0 0)))) ∧
  (∀ (s u : State) (g at_ : Nat) (d : List Word) (hop : Option Nat), u = s.advance at_ → coreRuns u = true → g < 4096 →
    launchDesc u g = some (d, hop) →
    (bitAt (dW d 2) 31 = true → (getGrp u g).gate = none → gateMet u d = false →
      exec (.launch g at_) s = .next (finish u (settleGroups
        (modGrp { u with well := { u.well with regNo := u.well.regNo + 1 } } g
          fun x => { x with gate := some u.well.regNo, timer := none })))) ∧
    ((getGrp u g).gate.isSome = true → gateMet u d = false →
      exec (.launch g at_) s = .next (finish u (settleGroups u))) ∧
    ((bitAt (dW d 2) 31 = false ∧ (getGrp u g).gate = none ∨ gateMet u d = true) →
      exec (.launch g at_) s = .next (finish u (settleGroups (launchNow u g d hop))))) ∧
  (∀ (s u c : State) (p : StPkt) (at_ g seq : Nat) (l : GLink), u = s.advance at_ → stationHas u p 0x10 = true →
    c = takeStation u p → g = p.hdr.gid → seq = p.hdr.seq → l = linkCode c p.arr → collectiveReason c p.hdr p.arr = 0 →
    ((getGrp c g).reqs.any (·.link == l) = true →
      exec (.grantReq p at_) s = .next (finish u (settleGroups (stDiscard c p 0x1B)))) ∧
    ((getGrp c g).reqs.any (·.link == l) = false → seqEnded c g seq = false →
      (p.hdr.len ≠ 24 ∨ p.hdr.opw0 ≠ dW (descOfSig (p.data.take 24)) 1 ∨ descReserved c g (descOfSig (p.data.take 24)) false = true) →
      exec (.grantReq p at_) s = .next (finish u (settleGroups (settleGroups (raiseAbort c g seq 2))))) ∧
    ((getGrp c g).reqs.any (·.link == l) = false → seqEnded c g seq = false → p.hdr.len = 24 →
      p.hdr.opw0 = dW (descOfSig (p.data.take 24)) 1 → descReserved c g (descOfSig (p.data.take 24)) false = false →
      (getGrp c g).op = none → c.isSpine = false → (getGrp c g).queue.find? (·.seq == seq) = none →
      exec (.grantReq p at_) s = .next (finish u (settleGroups (modGrp (noteFirst c g seq) g fun x =>
        { x with reqs := x.reqs ++ [⟨l, seq, p.hdr.opw1, p.hdr.opw0, p.data.take 24, c.now⟩] }))))) ∧
  (∀ (s u v a b d : State) (at_ g w : Nat) (hostData : Option (List Byte)) (o : GrpOp) (cs ds : List Chunk) (rs : List GReq),
    u = s.advance at_ → coreRuns u = true → grantOrder u = [g] → u.grpRr.1 ≠ g → (getGrp u g).op = some o → w = o.nextWave →
    waveTooBig u g (waveChunks u g o) = false → u.pumpHold = none → waveSpace u g (waveChunks u g o) = some (cs, v) →
    ds = giveHost v g o cs hostData → rs = (getGrp u g).reqs.filter (·.seq == o.seq) →
    a = modOp ((modGrp v g fun x => { x with reqs := x.reqs.filter (·.seq != o.seq) }).cntG g 10 (hostGiven ds)) g
      (fun o => { o with nextWave := w + 1, chunks := o.chunks ++ ds }) →
    b = rs.foldl (fun s r => sendGrant s g r.link 0 o.seq (w * o.wave)
      ((ds.map fun c => ((c.want.find? (·.1 == r.link)).map (·.2)).getD 0).foldl (· + ·) 0)) a →
    d = (ds.map (·.idx)).foldl (fun s i => chunkArrived s g i) ((groupUps b g).foldl (fun s l => askUp s g l w) b) →
    exec (.waveGrant hostData at_) s =
      .next (finish u (settleGroups (settleGroups { d with grpRr := (g, o.weight - 1) })))) ∧
  ∀ (s u c d : State) (p : StPkt) (at_ g w : Nat) (l : GLink) (o : GrpOp), u = s.advance at_ → stationHas u p 0x11 = true →
    c = takeStation u p → g = p.hdr.gid → l = linkCode c p.arr → collectiveReason c p.hdr p.arr = 0 →
    seqEnded c g p.hdr.seq = false → (getGrp c g).op = some o → o.seq = p.hdr.seq → p.hdr.opw0 / 2 ^ 30 = 0 →
    w = p.hdr.opw1 / max 1 o.wave → o.upReq.contains (l, w) = true → o.upGot.contains (l, w) = false →
    d = askUp (modOp c g fun o => { o with upGot := o.upGot ++ [(l, w)] }) g l (w + 1) →
    exec (.grant p at_) s = .next (finish u (settleGroups
      ((((getGrp d g).op.map (·.chunks)).getD [] |>.map (·.idx)).foldl (fun s i => trySendUp s g i) d)))

/-- Data of an operation, with the next state whole: the first CONTRIB, DISPATCH or EXPERT_OUT of a link that a filling chunk
of the running operation wants, with the operation's OPW0 and signature, joins what its link has sent, counts region G
slot 10, and completes the chunk where it was the last; a RESULT of the last uplink that does not complete its chunk joins
what has come down and its flags are gathered; any of the four whose SEQ has ended is discarded with reason 0x1E, and the
first three with no operation running with reason 0x1F (06 R176, 08 R222). The first clauses say of each command that,
whatever its operands within their range, it answers the next state of its own operation where its part of the block runs
(a register row: where the write is taken; a packet row: where the station holds the packet). -/
def Obligations.GroupData : Prop :=
  (∀ (s u : State) (p : StPkt) (at_ : Nat), u = s.advance at_ →
    (stationHas u p 0x12 = true → exec (.contrib p at_) s = .next (finish u (settleGroups (contribution u p)))) ∧
    (stationHas u p 0x15 = true → exec (.dispatch p at_) s = .next (finish u (settleGroups (contribution u p)))) ∧
    (stationHas u p 0x16 = true → exec (.expertOut p at_) s = .next (finish u (settleGroups (contribution u p)))) ∧
    (stationHas u p 0x13 = true → exec (.result p at_) s = .next (finish u (settleGroups (resultReceive u p))))) ∧
  (∀ (s u c : State) (p : StPkt) (at_ : Nat) (o : GrpOp) (k : Chunk) (w : GLink × Nat), u = s.advance at_ →
    stationHas u p 0x12 = true → c = takeStation u p → collectiveReason c p.hdr p.arr = 0 →
    seqEnded c p.hdr.gid p.hdr.seq = false → (getGrp c p.hdr.gid).op = some o → o.seq = p.hdr.seq →
    (o.chunks.find? fun k => k.idx == p.hdr.opw1 && k.stage == 0) = some k →
    (k.want.find? fun x => x.1 == linkCode c p.arr) = some w → gotOf k (linkCode c p.arr) = [] →
    (c.isSpine && usesXp o.d && !isBarrier o.d && xpReserved p.data) = false →
    p.hdr.opw0 = dW o.d 1 → p.hdr.opw2 = sigcOf (signatureOf o.d o.ep) →
    exec (.contrib p at_) s = .next (finish u (settleGroups (chunkArrived ((modChunk c p.hdr.gid p.hdr.opw1 fun k => { k with
      got := k.got.filter (fun x => x.1 != linkCode c p.arr) ++
        [(linkCode c p.arr, gotOf k (linkCode c p.arr) ++ [p.data])] }).cntG p.hdr.gid 10 p.hdr.len)
      p.hdr.gid p.hdr.opw1)))) ∧
  (∀ (s u c : State) (p : StPkt) (at_ : Nat) (o : GrpOp) (k : Chunk) (w : GLink × Nat), u = s.advance at_ →
    stationHas u p 0x15 = true → c = takeStation u p → collectiveReason c p.hdr p.arr = 0 →
    seqEnded c p.hdr.gid p.hdr.seq = false → (getGrp c p.hdr.gid).op = some o → o.seq = p.hdr.seq →
    (o.chunks.find? fun k => k.idx == p.hdr.opw1 && k.stage == 0) = some k →
    (k.want.find? fun x => x.1 == linkCode c p.arr) = some w → gotOf k (linkCode c p.arr) = [] →
    (c.isSpine && usesXp o.d && !isBarrier o.d && xpReserved p.data) = false →
    p.hdr.opw0 = dW o.d 1 → p.hdr.opw2 = sigcOf (signatureOf o.d o.ep) →
    exec (.dispatch p at_) s = .next (finish u (settleGroups (chunkArrived ((modChunk c p.hdr.gid p.hdr.opw1 fun k => { k with
      got := k.got.filter (fun x => x.1 != linkCode c p.arr) ++
        [(linkCode c p.arr, gotOf k (linkCode c p.arr) ++ [p.data])] }).cntG p.hdr.gid 10 p.hdr.len)
      p.hdr.gid p.hdr.opw1)))) ∧
  (∀ (s u c : State) (p : StPkt) (at_ : Nat) (o : GrpOp) (k : Chunk) (w : GLink × Nat), u = s.advance at_ →
    stationHas u p 0x16 = true → c = takeStation u p → collectiveReason c p.hdr p.arr = 0 →
    seqEnded c p.hdr.gid p.hdr.seq = false → (getGrp c p.hdr.gid).op = some o → o.seq = p.hdr.seq →
    (o.chunks.find? fun k => k.idx == p.hdr.opw1 && k.stage == 0) = some k →
    (k.want.find? fun x => x.1 == linkCode c p.arr) = some w → gotOf k (linkCode c p.arr) = [] →
    (c.isSpine && usesXp o.d && !isBarrier o.d && xpReserved p.data) = false →
    p.hdr.opw0 = dW o.d 1 → p.hdr.opw2 = sigcOf (signatureOf o.d o.ep) →
    exec (.expertOut p at_) s = .next (finish u (settleGroups (chunkArrived ((modChunk c p.hdr.gid p.hdr.opw1 fun k => { k with
      got := k.got.filter (fun x => x.1 != linkCode c p.arr) ++
        [(linkCode c p.arr, gotOf k (linkCode c p.arr) ++ [p.data])] }).cntG p.hdr.gid 10 p.hdr.len)
      p.hdr.gid p.hdr.opw1)))) ∧
  (∀ (s u c : State) (p : StPkt) (at_ : Nat) (o : GrpOp) (k : Chunk), u = s.advance at_ →
    stationHas u p 0x13 = true → c = takeStation u p → collectiveReason c p.hdr p.arr = 0 →
    seqEnded c p.hdr.gid p.hdr.seq = false → (getGrp c p.hdr.gid).op = some o → o.seq = p.hdr.seq →
    (o.chunks.find? (·.idx == p.hdr.opw1)) = some k → isTwoStage c p.hdr.gid = false →
    linkCode c p.arr = lastUp c p.hdr.gid → bits p.hdr.opw2 26 2 = 0 → k.stage = 3 →
    k.sentUp.contains (linkCode c p.arr) = true → opCount o.d ≠ 0 → opCode o.d = 0 →
    stageElems false (finalFmt o.d) (k.down ++ [p.data]) < k.elems →
    exec (.result p at_) s = .next (finish u (settleGroups (modOp (modChunk c p.hdr.gid p.hdr.opw1 fun x =>
      { x with down := k.down ++ [p.data]
               flags := if bitAt p.hdr.opw2 31 = true then x.flags else Nat.lor x.flags (bits p.hdr.opw2 28 3) }) p.hdr.gid
      fun o => { o with flags := Nat.lor o.flags (bits p.hdr.opw2 28 3) })))) ∧
  (∀ (s u c : State) (p : StPkt) (at_ : Nat), u = s.advance at_ → c = takeStation u p → collectiveReason c p.hdr p.arr = 0 →
    seqEnded c p.hdr.gid p.hdr.seq = true →
    (stationHas u p 0x12 = true → exec (.contrib p at_) s = .next (finish u (settleGroups (stDiscard c p 0x1E)))) ∧
    (stationHas u p 0x13 = true → exec (.result p at_) s = .next (finish u (settleGroups (stDiscard c p 0x1E)))) ∧
    (stationHas u p 0x15 = true → exec (.dispatch p at_) s = .next (finish u (settleGroups (stDiscard c p 0x1E)))) ∧
    (stationHas u p 0x16 = true → exec (.expertOut p at_) s = .next (finish u (settleGroups (stDiscard c p 0x1E))))) ∧
  ∀ (s u c : State) (p : StPkt) (at_ : Nat), u = s.advance at_ → c = takeStation u p → collectiveReason c p.hdr p.arr = 0 →
    seqEnded c p.hdr.gid p.hdr.seq = false → (getGrp c p.hdr.gid).op = none →
    (stationHas u p 0x12 = true → exec (.contrib p at_) s = .next (finish u (settleGroups (stDiscard c p 0x1F)))) ∧
    (stationHas u p 0x15 = true → exec (.dispatch p at_) s = .next (finish u (settleGroups (stDiscard c p 0x1F)))) ∧
    (stationHas u p 0x16 = true → exec (.expertOut p at_) s = .next (finish u (settleGroups (stDiscard c p 0x1F))))

/-- Aborts and tokens, with the next state whole: the progress timer of a running operation, or of a SEQ first heard of,
raises an abort of the group's next SEQ with code 0x01 when the timeout has passed and no gate is closed; an ABORT_REQ
first seen is passed on, decided by the acting sequencer, and noted by a home rack whose sequencer does not act; an ABORT
first seen is passed on and ends its SEQ with its code, and in the home rack counts as decided; a TOKEN first seen is
passed on and noted; a TOKEN that is due is sent (06 R174 to R180). The first clauses say of each command that, whatever
its operands within their range, it answers the next state of its own operation where its part of the block runs (a
register row: where the write is taken; a packet row: where the station holds the packet). -/
def Obligations.GroupAborts : Prop :=
  (∀ (s u : State) (g at_ : Nat), u = s.advance at_ → coreRuns u = true → g < 4096 →
    exec (.progressTimeout g at_) s = .next (finish u (settleGroups (progressTimeout u g))) ∧
    exec (.tokenSend g at_) s = .next (finish u (settleGroups (tokenSend u g)))) ∧
  (∀ (s u : State) (p : StPkt) (at_ : Nat), u = s.advance at_ →
    (stationHas u p 0x06 = true → exec (.abortReq p at_) s = .next (finish u (settleGroups (abortReq u p)))) ∧
    (stationHas u p 0x06 = true → exec (.seqctlAbort p at_) s = .next (finish u (settleGroups (seqctlAbort u p)))) ∧
    (stationHas u p 0x06 = true → exec (.token p at_) s = .next (finish u (settleGroups (tokenReceive u p))))) ∧
  (∀ (s u : State) (g at_ t0 n : Nat), u = s.advance at_ → coreRuns u = true → g < 4096 →
    n = (match (getGrp u g).op with
      | some o => o.gto
      | none => if (getGrp u g).firsts.any (·.1 == nextSeq u g) = true then u.rd F.GRP_ENT_GTO g else 0) →
    n ≠ 0 → (getGrp u g).gate = none → (getGrp u g).timer = some t0 → t0 + 1000 * n ≤ u.now →
    exec (.progressTimeout g at_) s = .next (finish u (settleGroups (settleGroups (raiseAbort u g (nextSeq u g) 1))))) ∧
  (∀ (s u c d e : State) (p : StPkt) (at_ g : Nat), u = s.advance at_ → stationHas u p 0x06 = true → c = takeStation u p →
    g = p.hdr.gid → collectiveReason c p.hdr p.arr = 0 → seqKind p = 0 →
    noteKey c g [p.hdr.seq, 0, seqCode p, p.hdr.opw1 % 2 ^ 20] = (true, d) → e = forwardSeqctl d g p →
    (actsFor e g = true → coverWaits e g = false →
      exec (.abortReq p at_) s = .next (finish u (settleGroups (decideAbort e g p.hdr.seq (seqCode p))))) ∧
    (actsFor e g = false → inHomeRack e g = true → (getGrp e g).decided.contains p.hdr.seq = false →
      (getGrp e g).asked.contains (p.hdr.seq, seqCode p) = false →
      exec (.abortReq p at_) s = .next (finish u (settleGroups
        (modGrp e g fun x => { x with asked := (x.asked ++ [(p.hdr.seq, seqCode p)]).take 64 }))))) ∧
  (∀ (s u c d e : State) (p : StPkt) (at_ g : Nat), u = s.advance at_ → stationHas u p 0x06 = true → c = takeStation u p →
    g = p.hdr.gid → collectiveReason c p.hdr p.arr = 0 → seqKind p = 1 → noteKey c g [p.hdr.seq, 1] = (true, d) →
    e = endSeq (forwardSeqctl d g p) g p.hdr.seq (seqCode p) true →
    (inHomeRack e g = false → exec (.seqctlAbort p at_) s = .next (finish u (settleGroups e))) ∧
    (inHomeRack e g = true → exec (.seqctlAbort p at_) s = .next (finish u (settleGroups (modGrp e g fun x => { x with
      decided := (p.hdr.seq :: x.decided).take 16
      asked := x.asked.filter (·.1 != p.hdr.seq)
      echo := ((c.now, p.hdr.seq, seqCode p) :: x.echo).filter fun y => decide (c.now ≤ y.1 + 2000000) }))))) ∧
  (∀ (s u c d : State) (p : StPkt) (at_ g : Nat), u = s.advance at_ → stationHas u p 0x06 = true → c = takeStation u p →
    g = p.hdr.gid → collectiveReason c p.hdr p.arr = 0 → seqKind p = 2 → noteKey c g [p.hdr.seq, 2] = (true, d) →
    exec (.token p at_) s = .next (finish u (settleGroups (noteToken (forwardSeqctl d g p) g p.hdr.seq)))) ∧
  ∀ (s u : State) (g at_ seq t0 : Nat), u = s.advance at_ → coreRuns u = true → g < 4096 → groupLive u g = true →
    actsFor u g = true → (getGrp u g).tokenDue = [(seq, t0)] → t0 ≤ u.now →
    exec (.tokenSend g at_) s = .next (finish u (settleGroups (sendToken u g seq)))

/-- Sweeps, with the next state whole. SWEEP_START: the pump that sweeps for a full chunk begins when it neither sweeps nor is
tested, else nothing happens, and with no ACTIVE pump the chunk is given up. SWEEP_DONE counts the sweep's lane-cycles and
cycles, twice the cycles on another pump than the cistern's; a clean sweep is counted, its outputs go out, and a pump due
to retire does; the first mismatch is counted and reported with kind 0x01 and the chunk is swept again, the soft limit
making the pump's retirement due; a second mismatch retires the pump with cause 1 and the chunk waits for another. A
parity failure that the scrubber finds in a line of no chunk is counted and reported with kind 0x03, and a line that fails
the pattern test retires the pump with cause 3 (07 R189, R190, R208, R209, R213). The first clauses say of each command
that, whatever its operands within their range, it answers the next state of its own operation where its part of the block
runs (a register row: where the write is taken; a packet row: where the station holds the packet). -/
def Obligations.PumpSweeps : Prop :=
  (∀ (s u : State) (g idx at_ n : Nat) (mismatch fail bad : Bool) (parity : Option Bool) (chunk : Option (Nat × Nat)), u =
    s.advance at_ → coreRuns u = true → g < 4096 → n < 168 →
    exec (.sweepStart g idx at_) s = .next (finish u (settleGroups (sweepStart u g idx))) ∧
    exec (.sweepDone g idx mismatch parity at_) s = .next (finish u (settleGroups (sweepDone u g idx mismatch parity))) ∧
    exec (.cisternScrub n fail chunk bad at_) s = .next (finish u (settleGroups (cisternScrub u n fail chunk bad)))) ∧
  (∀ (s u : State) (g idx at_ : Nat) (c : Chunk) (o : GrpOp), u = s.advance at_ → coreRuns u = true → g < 4096 →
    findChunk u g idx 1 = some c → (getGrp u g).op = some o → sweeps o.d = true →
    (sweeperFor u c = none → exec (.sweepStart g idx at_) s = .next (finish u (settleGroups (giveUpChunk u g c)))) ∧
    ∀ n : Nat, sweeperFor u c = some n →
      (isSweeping u n = false → u.flag F.PMP_TEST_BUSY n = false →
        exec (.sweepStart g idx at_) s = .next (finish u (settleGroups
          (modChunk u g idx fun k => { k with stage := 2, sweeper := n })))) ∧
      ((isSweeping u n = true ∨ u.flag F.PMP_TEST_BUSY n = true) →
        exec (.sweepStart g idx at_) s = .next (finish u (settleGroups u)))) ∧
  (∀ (s u v t : State) (g idx at_ n lc soon : Nat) (c : Chunk) (o : GrpOp), u = s.advance at_ → coreRuns u = true → g < 4096 →
    findChunk u g idx 2 = some c → (getGrp u g).op = some o → n = c.sweeper → lc = laneCycles u g o c →
    v = (u.cntU n 1 lc).cntU n 2 (if n = c.pump then (lc + 63) / 64 + 48 else 2 * ((lc + 63) / 64 + 48)) →
    soon = (getPump v n).retireNext →
    t = settleGroups (sweepOutputs (modChunk (if n = c.pump then v.cntU n 0 else (v.cntU n 0).cntU n 4) g c.idx
      fun k => { k with stage := 1 }) g o c) →
    (soon = 0 → exec (.sweepDone g idx false none at_) s = .next (finish u (settleGroups t))) ∧
    (soon ≠ 0 → exec (.sweepDone g idx false none at_) s = .next (finish u (settleGroups (retirePump t n soon))))) ∧
  (∀ (s u v w t : State) (g idx at_ n lc : Nat) (c : Chunk) (o : GrpOp) (ts : List Nat), u = s.advance at_ → coreRuns u = true →
    g < 4096 → findChunk u g idx 2 = some c → (getGrp u g).op = some o → n = c.sweeper → lc = laneCycles u g o c →
    v = (u.cntU n 1 lc).cntU n 2 (if n = c.pump then (lc + 63) / 64 + 48 else 2 * ((lc + 63) / 64 + 48)) →
    w = v.report 6 1 n → ts = (w.now :: (getPump w n).soft).take 256 →
    t = modChunk ((modPump (w.bump F.PMP_ERRCNT_MISMATCH n) n fun p => { p with soft := ts }).cntU n 3) g c.idx
      (fun k => { k with retried := true }) →
    (c.retried = false → (getPump w n).retireNext ≠ 5 → softReached t ts = false →
      exec (.sweepDone g idx true none at_) s = .next (finish u (settleGroups t))) ∧
    (c.retried = false → (getPump w n).retireNext ≠ 5 → softReached t ts = true →
      exec (.sweepDone g idx true none at_) s =
        .next (finish u (settleGroups (modPump t n fun p => { p with retireNext := 2 })))) ∧
    (c.retried = true → c.failedOn = [] → exec (.sweepDone g idx true none at_) s = .next (finish u (settleGroups
      (retirePump (modChunk w g c.idx fun _ => { c with stage := 1, retried := false, failedOn := [n] }) n 1))))) ∧
  ∀ (s u c : State) (n at_ : Nat), u = s.advance at_ → coreRuns u = true → n < 168 → u.rd0 F.PMP_SCRUB_IVL ≠ 0 →
    (pumpState u n = 0 ∨ pumpState u n = 2) → c = (u.bump F.PMP_ERRCNT_PARITY n).report 6 3 n →
    exec (.cisternScrub n true none false at_) s = .next (finish u (settleGroups c)) ∧
    exec (.cisternScrub n true none true at_) s = .next (finish u (settleGroups (retirePump c n 3)))

/-- Pumps leave and come back, with the next state whole: a DRAINING pump whose cistern holds no line becomes RETIRED; RETIRE
of a pump that sweeps is due at its sweep's end, of one that does not makes an ACTIVE pump DRAINING with cause 5 and kind
0x02, the lowest spare taking its place, and a SPARE RETIRED, and leaves a pump that is already out as it is; TEST_GO
starts a self-test where none runs; a self-test that ends clears BUSY and its go bit and shows PASS and NFAIL, a failed
one is reported with kind 0x06 and retires an ACTIVE or SPARE pump with cause 4; RESTORE makes a RETIRED pump whose test
passed a SPARE, and is an access fault for any other (07 R186, R187, R210; CAUSE and REPL after RESTORE are the model's
choice, log 113). The first clauses say of each command that, whatever its operands within their range, it answers the
next state of its own operation where its part of the block runs (a register row: where the write is taken; a packet row:
where the station holds the packet). -/
def Obligations.PumpStates : Prop :=
  (∀ (s u : State) (n at_ nfail : Nat), u = s.advance at_ → coreRuns u = true → n < 168 →
    exec (.pumpDrained n at_) s = .next (finish u (pumpDrained u n)) ∧
    exec (.selfTestDone n nfail at_) s = .next (finish u (settleGroups (pumpTestDone u n nfail)))) ∧
  (∀ (s : State) (m : Master) (n : Nat),
    (takesWrite s m .PMP_CTRL n 0 = true → exec (.retire m n) s = .next (finish s (settleGroups (pumpRetire (wrote s m .PMP_CTRL
      n 0) n)))) ∧
    (takesWrite s m .PMP_CTRL n 0 = true → exec (.testGo m n) s = .next (finish s (pumpTestGo (wrote s m .PMP_CTRL n 0) n))) ∧
    (takesWrite s m .PMP_CTRL n 0 = true → exec (.restore m n) s = .next (finish s (pumpRestore (wrote s m .PMP_CTRL n 0) m n)))) ∧
  (∀ (s u : State) (n at_ : Nat), u = s.advance at_ → coreRuns u = true → n < 168 → pumpState u n = 2 →
    ((allChunks u).any fun e => e.2.pump == n && e.2.lines != 0) = false →
    (u.grps.any fun e => e.2.route.any fun r => r.pump == n && r.lines != 0) = false →
    exec (.pumpDrained n at_) s = .next (finish u (poolCount (u.wr F.PMP_STAT_STATE n 3)))) ∧
  (∀ (s c b : State) (m : Master) (n : Nat), takesWrite s m .PMP_CTRL n 0 = true → c = wrote s m .PMP_CTRL n 0 →
    b = modPump c n (fun p => { p with retireNext := 0, testPass := false, soft := [] }) →
    (1 < pumpState c n → exec (.retire m n) s = .next (finish s (settleGroups c))) ∧
    (pumpState c n ≤ 1 → isSweeping c n = true →
      exec (.retire m n) s = .next (finish s (settleGroups (modPump c n fun p => { p with retireNext := 5 })))) ∧
    (pumpState c n = 1 → isSweeping c n = false → exec (.retire m n) s = .next (finish s (settleGroups
      (poolCount (((b.wr F.PMP_STAT_STATE n 3).wr F.PMP_STAT_CAUSE n 5).report 6 2 n))))) ∧
    ∀ (d : State) (k : Nat), pumpState c n = 0 → isSweeping c n = false →
      d = stopSweeps (((b.wr F.PMP_STAT_STATE n 2).wr F.PMP_STAT_CAUSE n 5).report 6 2 n) n →
      ((List.range 168).find? fun k => pumpState d k == 1) = some k →
      exec (.retire m n) s =
        .next (finish s (settleGroups (poolCount ((d.wr F.PMP_STAT_STATE k 0).wr F.PMP_STAT_REPL n k))))) ∧
  (∀ (s c : State) (m : Master) (n : Nat), takesWrite s m .PMP_CTRL n 0 = true → c = wrote s m .PMP_CTRL n 0 →
    (c.flag F.PMP_TEST_BUSY n = false →
      exec (.testGo m n) s = .next (finish s ((c.wr F.PMP_TEST_BUSY n 1).wr F.PMP_CTRL_TEST_GO n 1))) ∧
    (c.flag F.PMP_TEST_BUSY n = true → exec (.testGo m n) s = .next (finish s c)) ∧
    (pumpState c n = 3 → (getPump c n).testPass = true →
      exec (.restore m n) s = .next (finish s
        (poolCount (((c.wr F.PMP_STAT_STATE n 1).wr F.PMP_STAT_CAUSE n 0).wr F.PMP_STAT_REPL n 0xFF)))) ∧
    ((pumpState c n ≠ 3 ∨ (getPump c n).testPass = false) →
      exec (.restore m n) s = .next (finish s (c.accessFault m 1 (regOff .PMP_CTRL n))))) ∧
  ∀ (s u d e : State) (n k at_ : Nat), u = s.advance at_ → coreRuns u = true → n < 168 → u.flag F.PMP_TEST_BUSY n = true →
    isSweeping u n = false → d = (u.wr F.PMP_TEST_BUSY n 0).wr F.PMP_CTRL_TEST_GO n 0 → k ≠ 0 →
    e = ((d.wr F.PMP_TEST_PASS n 0).wr F.PMP_TEST_NFAIL n (min 65535 k)).report 6 6 n →
    exec (.selfTestDone n 0 at_) s = .next (finish u (settleGroups (modPump ((d.wr F.PMP_TEST_PASS n 1).wr F.PMP_TEST_NFAIL n 0) n
      fun p => { p with testPass := decide (2 ≤ pumpState ((d.wr F.PMP_TEST_PASS n 1).wr F.PMP_TEST_NFAIL n 0) n) }))) ∧
    (pumpState e n ≤ 1 → exec (.selfTestDone n k at_) s = .next (finish u (settleGroups (retirePump e n 4)))) ∧
    (1 < pumpState e n → exec (.selfTestDone n k at_) s =
      .next (finish u (settleGroups (modPump e n fun p => { p with testPass := false }))))

/-- Requests of the pool, with the next state whole: READ, WRITE and each ATOMIC of this chip are counted and then, by the
checks in R246's order, refused with the code of the pool's reset, of the form or of the place, or, with a failing line of
a WRITE's or ATOMIC's data, refused with code 0x08 and kind 0x06, or join the end of the well's queue; every ATOP has its
own row. A request whose turn has come leaves the queue and is executed, or, where its page has meanwhile moved, refused
with code 0x05 (a BAR4 access as a BAR4 access is refused); one whose turn has not come stays (09 R242 to R261). The first
clauses say of each command that, whatever its operands within their range, it answers the next state of its own operation
where its part of the block runs (a register row: where the write is taken; a packet row: where the station holds the
packet). -/
def Obligations.WellRequests : Prop :=
  (∀ (s u : State) (p : StPkt) (at_ : Nat) (badLine : Option Nat), u = s.advance at_ →
    (stationHas u p 0x20 = true → exec (.read p at_) s = .next (finish u (wellRequest u p none))) ∧
    (stationHas u p 0x21 = true → exec (.write p badLine at_) s = .next (finish u (wellRequest u p badLine))) ∧
    (stationHas u p 0x22 = true → exec (.atomicFetchAdd p badLine at_) s = .next (finish u (atomicRow u p 0 badLine))) ∧
    (stationHas u p 0x22 = true → exec (.atomicSwap p badLine at_) s = .next (finish u (atomicRow u p 1 badLine))) ∧
    (stationHas u p 0x22 = true → exec (.atomicCompareSwap p badLine at_) s = .next (finish u (atomicRow u p 2 badLine))) ∧
    (stationHas u p 0x22 = true → exec (.atomicFetchAnd p badLine at_) s = .next (finish u (atomicRow u p 3 badLine))) ∧
    (stationHas u p 0x22 = true → exec (.atomicFetchOr p badLine at_) s = .next (finish u (atomicRow u p 4 badLine))) ∧
    (stationHas u p 0x22 = true → exec (.atomicFetchXor p badLine at_) s = .next (finish u (atomicRow u p 5 badLine)))) ∧
  (∀ (s u : State) (id at_ : Nat) (evs : List LineEv), u = s.advance at_ → coreRuns u = true →
    exec (.wellRequestComplete id evs at_) s = .next (finish u (settleSwitch (wellComplete u id evs)))) ∧
  (∀ (s u c : State) (p : StPkt) (at_ a n lk : Nat) (arr : Option Nat), u = s.advance at_ → c = takeStation u p →
    p.hdr.dst = c.selfEid → a = reqAddr p.hdr → lk = bits p.hdr.opw1 28 4 → arr = (if p.arr < 160 then some p.arr else none) →
    (∀ d : State, stationHas u p 0x20 = true → n = bits p.hdr.opw2 0 13 → d = countAccess (countHot (cntTier c a 0) a) 0 3 0 a n arr →
      exec (.read p at_) s = .next (finish u (if c.well.poolUntil.isSome = true then refuse d p.hdr a 0x0D
        else if formCode p.hdr p.data ≠ 0 then refuse d p.hdr a (formCode p.hdr p.data)
        else if placeCode c a n (fun _ => false) ≠ 0 then refuse d p.hdr a (placeCode c a n fun _ => false)
        else admitReq d .read a n p.data [] p.hdr p.arr))) ∧
    (∀ (d : State) (bad : Option Nat), stationHas u p 0x21 = true → n = p.hdr.len → d = countAccess (countHot (cntTier c a 1) a) 0 3 1 a n arr →
      exec (.write p bad at_) s = .next (finish u (if c.well.poolUntil.isSome = true then refuse d p.hdr a 0x0D
        else if formCode p.hdr p.data ≠ 0 then refuse d p.hdr a (formCode p.hdr p.data)
        else if placeCode c a n (fun _ => true) ≠ 0 then refuse d p.hdr a (placeCode c a n fun _ => true)
        else if bad.isSome = true then refuse (d.report 7 6 (a / 64 * 64 + 64 * bad.getD 0)) p.hdr a 8
        else admitReq d .write a n p.data [] p.hdr p.arr))) ∧
    ∀ (d t : State) (bad : Option Nat), stationHas u p 0x22 = true → d = countAccess (countHot (cntTier c a 2) a) 0 3 2 a 8 arr →
      t = finish u (if c.well.poolUntil.isSome = true then refuse d p.hdr a 0x0D
        else if formCode p.hdr p.data ≠ 0 then refuse d p.hdr a (formCode p.hdr p.data)
        else if placeCode c a 8 (fun _ => false) ≠ 0 then refuse d p.hdr a (placeCode c a 8 fun _ => false)
        else if bad.isSome = true then refuse (d.report 7 6 (a / 64 * 64 + 64 * bad.getD 0)) p.hdr a 8
        else admitReq d (.atomic lk) a 8 p.data [] p.hdr p.arr) →
      (lk = 0 → exec (.atomicFetchAdd p bad at_) s = .next t) ∧
      (lk = 1 → exec (.atomicSwap p bad at_) s = .next t) ∧
      (lk = 2 → exec (.atomicCompareSwap p bad at_) s = .next t) ∧
      (lk = 3 → exec (.atomicFetchAnd p bad at_) s = .next t) ∧
      (lk = 4 → exec (.atomicFetchOr p bad at_) s = .next t) ∧
      (lk = 5 → exec (.atomicFetchXor p bad at_) s = .next t)) ∧
  ∀ (s u d : State) (id at_ : Nat) (evs : List LineEv) (r : WReq), u = s.advance at_ → coreRuns u = true →
    (u.well.queue.find? (·.id == id)) = some r → d = modWell u (fun w => { w with queue := w.queue.filter (·.id != id) }) →
    (mayRun u r = true → fwdOf d r.addr = none →
      exec (.wellRequestComplete id evs at_) s = .next (finish u (settleSwitch (runOn d r evs)))) ∧
    (mayRun u r = true → (fwdOf d r.addr).isSome = true → [WKind.roomWrite, .roomRead, .apRead, .apWrite].contains r.kind = false →
      exec (.wellRequestComplete id evs at_) s = .next (finish u (settleSwitch (refuse d r.hdr r.addr 5)))) ∧
    (mayRun u r = true → (fwdOf d r.addr).isSome = true → (r.kind = .apRead ∨ r.kind = .apWrite) →
      exec (.wellRequestComplete id evs at_) s = .next (finish u (settleSwitch (apRefuse d r.addr)))) ∧
    (mayRun u r = false → exec (.wellRequestComplete id evs at_) s = .next (finish u (settleSwitch u)))

/-- The well's devices and windows, with the next state whole: the zero fill of both tiers ends with INIT_DONE and empty pool
memory; the far-tier population is written before that when it is 0, 1, 2, 4 or 8, and is an access fault after it or
otherwise; TAKE_OUT of a device in service is reported with kind 0x05 and degrades the windows on it, and of one already
out changes nothing; a fill with no bad line copies its window and makes it mirrored; the near-tier patrol scrubber reads
the line given; the running migration, a copy without a failing line and with none queued after it, is counted and
completed; a context open for WEL_CTX_CFG.TO answers ERR_RSP with code 0x06 and kind 0x07; a BAR4 read or write of a legal
base is counted and refused for its place or, a write, for a line that fails with kind 0x06, or joins the queue; a read
outside the aperture, an AtomicOp and, in D3hot, every access ends as an Unsupported Request (09 R238 to R263, 12 R331).
The first clauses say of each command that, whatever its operands within their range, it answers the next state of its own
operation where its part of the block runs (a register row: where the write is taken; a packet row: where the station
holds the packet). -/
def Obligations.WellUpkeep : Prop :=
  (∀ (s u : State) (ev : BootEv) (at_ w c : Nat) (evs : List LineEv) (far : Bool), u = s.advance at_ → coreRuns u = true → w <
    16 → c < 262144 →
    exec (.wellInitDone ev at_) s = .next (finish u (settleSwitch (siteLock ev (initDone u)))) ∧
    exec (.mirrorFillDone w evs at_) s = .next (finish u (fillDone u w evs)) ∧
    exec (.patrolScrub far evs at_) s = .next (finish u (patrol u far evs)) ∧
    exec (.migrationDone evs at_) s = .next (finish u (migDone u evs)) ∧
    exec (.contextTimeout c at_) s = .next (finish u (settleSwitch (contextTimeout u c)))) ∧
  (∀ (s : State) (m : Master) (val be d : Nat), val < 2 ^ 32 → beOk m be = true →
    (takesWrite s m .WEL_FAR_CFG 0 0 = true → exec (.welFarCfgWrite m val be) s = .next (finish s (farCfgWrite (wrote s m
      .WEL_FAR_CFG 0 0) m val be))) ∧
    (takesWrite s m .WEL_DEV d 0 = true → exec (.takeOut m d) s = .next (finish s (takeOut (wrote s m .WEL_DEV d 0) d)))) ∧
  (∀ (s u : State) (kind : ApAccess) (b n at_ : Nat) (data : List Byte) (en : List Bool), u = s.advance at_ → liveRuns u = true
    → b < 2 ^ 36 →
    exec (.bar4Access kind b n data en at_) s = .next (finish u (apertureAccess u kind b n data en))) ∧
  (∀ (s u : State) (ev : BootEv) (at_ : Nat), u = s.advance at_ → coreRuns u = true → u.well.clearing = true →
    exec (.wellInitDone ev at_) s = .next (finish u (settleSwitch (siteLock ev
      (({ modWell u (fun w => { w with clearing := false }) with mem := [] } : State).wr0 F.WEL_STAT_INIT_DONE 1))))) ∧
  (∀ (s c : State) (m : Master) (val be : Nat), val < 2 ^ 32 → beOk m be = true → takesWrite s m .WEL_FAR_CFG 0 0 = true →
    c = wrote s m .WEL_FAR_CFG 0 0 →
    (c.flag F.WEL_STAT_INIT_DONE = false → fieldAfter c F.WEL_FAR_CFG_NCH 0 val be ∈ [0, 1, 2, 4, 8] →
      exec (.welFarCfgWrite m val be) s = .next (finish s (writeWord c m .WEL_FAR_CFG 0 0 val be))) ∧
    ((c.flag F.WEL_STAT_INIT_DONE = true ∨ fieldAfter c F.WEL_FAR_CFG_NCH 0 val be ∉ [0, 1, 2, 4, 8]) →
      exec (.welFarCfgWrite m val be) s = .next (finish s (c.accessFault m 1 (regOff .WEL_FAR_CFG 0))))) ∧
  (∀ (s c e : State) (m : Master) (d : Nat), takesWrite s m .WEL_DEV d 0 = true → c = wrote s m .WEL_DEV d 0 →
    e = c.wr F.WEL_DEV_OUT d 1 →
    (devOut c d = true → exec (.takeOut m d) s = .next (finish s c)) ∧
    (devOut c d = false → exec (.takeOut m d) s = .next (finish s ((List.range 16).foldl (fun s w =>
      if (winState s w == 1 || winState s w == 2) && (winDevs s w).contains d then degrade s w else s)
      ((if d < 4 then e.wr0 F.WEL_STAT_STACK_OK (putBits (e.rd0 F.WEL_STAT_STACK_OK) d 1 0)
        else e.wr0 F.WEL_STAT_DIMM_OK (putBits (e.rd0 F.WEL_STAT_DIMM_OK) (d - 4) 1 0)).report 7 5 d))))) ∧
  (∀ (s u : State) (w at_ : Nat), u = s.advance at_ → coreRuns u = true → w < 16 → winState u w = 1 →
    exec (.mirrorFillDone w [] at_) s = .next (finish u
      ((modWell (copyPrefix u w (winSize u w)) fun x => { x with wins := mdel x.wins w }).wr F.WEL_MIR_STATE w 2))) ∧
  (∀ (s u : State) (e : LineEv) (at_ : Nat), u = s.advance at_ → coreRuns u = true → u.rd0 F.WEL_SCRUB_NEAR_H ≠ 0 →
    e.addr < farBase → populated u e.addr = true →
    exec (.patrolScrub false [e] at_) s = .next (finish u (readLine u [e] e.addr).2)) ∧
  (∀ (s u t : State) (g : Mig) (at_ : Nat) (evs : List LineEv), u = s.advance at_ → coreRuns u = true →
    u.well.migs = [g] → migWaits u = false → g.move = false → moveLines evs g.src g.dst 32768 0 u = ((g.src, 0), t) →
    exec (.migrationDone evs at_) s = .next (finish u (migNext 0 (hostDone
      ((cntTier (cntTier (modWell t fun w => { w with migs := [] }) g.src 3 (2 ^ 21)) g.dst 4 (2 ^ 21)).cntW
        (if g.dst < farBase then 40 else 41)) g.hop 0 0 0 0)))) ∧
  (∀ (s u : State) (c at_ : Nat) (x : Ctx), u = s.advance at_ → coreRuns u = true → c < 262144 → mget u.ctx c = some x →
    u.rd0 F.WEL_CTX_CFG_TO ≠ 0 → x.openAt + 1000 * u.rd0 F.WEL_CTX_CFG_TO ≤ u.now → u.well.poolUntil = none →
    exec (.contextTimeout c at_) s = .next (finish u (settleSwitch
      (injectUnicast ((({ u with ctx := mdel u.ctx c } : State).cntW 33).report 7 7 c)
        (mkHdr 0x2B x.srcE 5 u.selfEid 0 0 (c % 2048) 0 0
          (x.opcode * 2 ^ 24 + 6)) [] true)))) ∧
  ∀ (s u c : State) (b n at_ base a : Nat) (data : List Byte) (en : List Bool), u = s.advance at_ → liveRuns u = true →
    b < 2 ^ 36 → base = u.rd0 F.WEL_AP_BASE_BASE → a = base * 2 ^ 36 + b →
    (u.host.pcie.dstate = 3 → ∀ kind : ApAccess, exec (.bar4Access kind b n data en at_) s = .next (finish u (u.emit .bar4Ur))) ∧
    exec (.bar4Access .atomicOp b n data en at_) s = .next (finish u (u.emit .bar4Ur)) ∧
    (u.host.pcie.dstate ≠ 3 → c = countAccess (countHot (cntTier u a 0) a) 0 0 7 a n →
      exec (.bar4Access .rd b n data en at_) s = .next (finish u (
        if (¬(base ≤ 3 ∨ 0x40 ≤ base ∧ base ≤ 0x7F)) ∨ 2 ^ 36 < b + n ∨ u.well.poolUntil.isSome = true then apRefuse c a
        else if placeCode u a n (fun _ => false) ≠ 0 then apRefuse c a
        else admitReq c .apRead a n data en (headerOf []) 160))) ∧
    (u.host.pcie.dstate ≠ 3 → c = countAccess (countHot (cntTier u a 1) a) 0 0 7 a n → ∀ bad : Option Nat,
      exec (.bar4Access (.wr bad) b n data en at_) s = .next (finish u (
        if (¬(base ≤ 3 ∨ 0x40 ≤ base ∧ base ≤ 0x7F)) ∨ 2 ^ 36 < b + n ∨ u.well.poolUntil.isSome = true then apRefuse c a
        else if placeCode u a n (fun l => wholeLine a n en l) ≠ 0 then apRefuse c a
        else if bad.isSome = true then apRefuse (c.report 7 6 (a / 64 * 64 + 64 * bad.getD 0)) a
        else admitReq c .apWrite a n data en (headerOf []) 160)))

/-- Sync object packets of this chip, with the next state whole. Each operation is counted in region W slot 16; one the pool's
reset or a check refuses is answered with ERR_RSP and its code. READ answers V and changes nothing else; FETCH_ADD,
COMPARE_SWAP and SIGNAL answer V as it was and start a scan; a wait that holds is answered 1 at once with V, and on a
SEMAPHORE with no consuming waiter takes its amount from V first; one that does not hold is registered, answered 2 and a
scan started, or, with 16,384 waiters, answered 3 with kind 0x08; CANCEL removes the requester's waiters with the tag and
answers their number. A waiter whose ticks have passed is removed and notified with status 4 (09 R268 to R272). The first
clauses say of each command that, whatever its operands within their range, it answers the next state of its own operation
where its part of the block runs (a register row: where the write is taken; a packet row: where the station holds the
packet). -/
def Obligations.SyncPackets : Prop :=
  (∀ (s u : State) (p : StPkt) (at_ : Nat), u = s.advance at_ →
    (stationHas u p 0x30 = true → exec (.soRead p at_) s = .next (finish u (settleSwitch (soOp u p 0)))) ∧
    (stationHas u p 0x30 = true → exec (.soFetchAdd p at_) s = .next (finish u (settleSwitch (soOp u p 1)))) ∧
    (stationHas u p 0x30 = true → exec (.soCompareSwap p at_) s = .next (finish u (settleSwitch (soOp u p 2)))) ∧
    (stationHas u p 0x30 = true → exec (.waitGe p at_) s = .next (finish u (settleSwitch (soOp u p 3)))) ∧
    (stationHas u p 0x30 = true → exec (.waitEq p at_) s = .next (finish u (settleSwitch (soOp u p 4)))) ∧
    (stationHas u p 0x30 = true → exec (.signal p at_) s = .next (finish u (settleSwitch (soOp u p 5)))) ∧
    (stationHas u p 0x30 = true → exec (.soCancel p at_) s = .next (finish u (settleSwitch (soOp u p 6))))) ∧
  (∀ (s u : State) (n k at_ : Nat), u = s.advance at_ → coreRuns u = true → n < 8192 →
    exec (.soWaitTimeout n k at_) s = .next (finish u (settleSwitch (soTimeout u n k)))) ∧
  (∀ (s u c d : State) (p : StPkt) (at_ n op code v a0 a1 : Nat), u = s.advance at_ → stationHas u p 0x30 = true →
    c = takeStation u p → p.hdr.dst = c.selfEid → n = p.hdr.opw0 % 8192 → op = bits p.hdr.opw0 28 4 →
    d = soCount c 3 (if p.arr < 160 then some p.arr else none) →
    code = (if c.well.poolUntil.isSome = true then 0x0D else soCode d p.hdr p.data) →
    v = soValue d n → a0 = leNat (p.data.take 8) → a1 = leNat ((p.data.drop 8).take 8) →
    (code ≠ 0 → ∀ t : State, t = finish u (settleSwitch (sendErr d p.hdr code p.hdr.opw0 p.hdr.opw1)) →
      (op = 0 → exec (.soRead p at_) s = .next t) ∧ (op = 1 → exec (.soFetchAdd p at_) s = .next t) ∧
      (op = 2 → exec (.soCompareSwap p at_) s = .next t) ∧ (op = 3 → exec (.waitGe p at_) s = .next t) ∧
      (op = 4 → exec (.waitEq p at_) s = .next t) ∧ (op = 5 → exec (.signal p at_) s = .next t) ∧
      (op = 6 → exec (.soCancel p at_) s = .next t)) ∧
    (code = 0 → op = 0 → exec (.soRead p at_) s = .next (finish u (settleSwitch (sendSo d p.hdr 0 v)))) ∧
    (code = 0 → op = 1 → exec (.soFetchAdd p at_) s = .next (finish u (settleSwitch (scan
      (sendSo (soDo d n 1 a0 a1) p.hdr 0 v) n)))) ∧
    (code = 0 → op = 2 → exec (.soCompareSwap p at_) s = .next (finish u (settleSwitch (scan
      (sendSo (soDo d n 2 a0 a1) p.hdr 0 v) n)))) ∧
    (code = 0 → op = 5 → exec (.signal p at_) s = .next (finish u (settleSwitch (scan
      (sendSo (soDo d n 5 a0 a1) p.hdr 0 v) n)))) ∧
    (code = 0 → op = 6 → exec (.soCancel p at_) s = .next (finish u (settleSwitch (sendSo
      (modWell d fun x =>
        { x with waiters := x.waiters.filter fun w => !(w.obj == n && w.src == p.hdr.srcE && w.tag == p.hdr.opw2) }) p.hdr 0
      (d.well.waiters.filter fun w => w.obj == n && w.src == p.hdr.srcE && w.tag == p.hdr.opw2).length)))) ∧
    (code = 0 → op = 3 → soType d n ≠ 2 → a0 ≤ v → exec (.waitGe p at_) s =
      .next (finish u (settleSwitch (sendSo d p.hdr 1 v)))) ∧
    (code = 0 → op = 3 → soType d n = 2 → a0 ≤ v → ((soWaiters d n).any (·.cons)) = false → exec (.waitGe p at_) s =
      .next (finish u (settleSwitch (scan (sendSo (setV d n (v - a0)) p.hdr 1 (soValue (setV d n (v - a0)) n)) n)))) ∧
    (code = 0 → op = 3 → (v < a0 ∨ soType d n = 2 ∧ ((soWaiters d n).any (·.cons)) = true) → d.well.waiters.length < 16384 → exec (.waitGe p at_) s =
      .next (finish u (settleSwitch (scan (sendSo (modWell d fun x => { x with
        waiters := x.waiters ++ [⟨n, true, soType d n == 2, a0, p.hdr.srcE, p.hdr.opw2, p.hdr.opw0, d.now, p.hdr.opw1, d.well.regNo⟩]
        regNo := x.regNo + 1 }) p.hdr 2 v) n)))) ∧
    (code = 0 → op = 3 → (v < a0 ∨ soType d n = 2 ∧ ((soWaiters d n).any (·.cons)) = true) →
      16384 ≤ d.well.waiters.length → exec (.waitGe p at_) s =
      .next (finish u (settleSwitch (sendSo ((d.cntW 19).report 7 8 n) p.hdr 3 v)))) ∧
    (code = 0 → op = 4 → v = a0 → exec (.waitEq p at_) s =
      .next (finish u (settleSwitch (sendSo d p.hdr 1 v)))) ∧
    (code = 0 → op = 4 → v ≠ a0 → d.well.waiters.length < 16384 → exec (.waitEq p at_) s =
      .next (finish u (settleSwitch (scan (sendSo (modWell d fun x => { x with
        waiters := x.waiters ++ [⟨n, false, false, a0, p.hdr.srcE, p.hdr.opw2, p.hdr.opw0, d.now, p.hdr.opw1, d.well.regNo⟩]
        regNo := x.regNo + 1 }) p.hdr 2 v) n)))) ∧
    (code = 0 → op = 4 → v ≠ a0 → 16384 ≤ d.well.waiters.length → exec (.waitEq p at_) s =
      .next (finish u (settleSwitch (sendSo ((d.cntW 19).report 7 8 n) p.hdr 3 v))))) ∧
  ∀ (s u : State) (n k at_ : Nat) (w : Waiter), u = s.advance at_ → coreRuns u = true → n < 8192 → (soWaiters u n)[k]? = some w →
    w.ticks ≠ 0 → w.since + 1000 * w.ticks ≤ u.now - u.fabric % 1000 →
    exec (.soWaitTimeout n k at_) s = .next (finish u (settleSwitch (notify ((dropWaiter u w).cntW 18) w 4)))

/-- Sync object registers, with the next state whole: a WEL_SO_CMD written whole is counted in region W slot 16; READ,
FETCH_ADD, COMPARE_SWAP and SIGNAL on an object in use leave V as it was in WEL_SO_RES and STATUS 0, the last three start
a scan; a second argument where none is taken leaves STATUS 0x0C and an object not in use STATUS 9; a partial write is an
access fault. A write of TYPE or TARGET removes every waiter, and a TYPE of 5 or more is an access fault; VAL_LO is held
for its master until VAL_HI, which gives V both halves and starts a scan (09 R273, R275; 13 R370). The first clauses say
of each command that, whatever its operands within their range, it answers the next state of its own operation where its
part of the block runs (a register row: where the write is taken; a packet row: where the station holds the packet). -/
def Obligations.SyncRegisters : Prop :=
  (∀ (s : State) (m : Master) (val be n w : Nat), val < 2 ^ 32 → beOk m be = true →
    (takesWrite s m .WEL_SO_CMD 0 0 = true → exec (.soCmdRead m val be) s = .next (finish s (settleSwitch (soCmdRow (wrote s m
      .WEL_SO_CMD 0 0) m val be 0)))) ∧
    (takesWrite s m .WEL_SO_CMD 0 0 = true → exec (.soCmdFetchAdd m val be) s = .next (finish s (settleSwitch (soCmdRow (wrote s
      m .WEL_SO_CMD 0 0) m val be 1)))) ∧
    (takesWrite s m .WEL_SO_CMD 0 0 = true → exec (.soCmdCompareSwap m val be) s = .next (finish s (settleSwitch (soCmdRow
      (wrote s m .WEL_SO_CMD 0 0) m val be 2)))) ∧
    (takesWrite s m .WEL_SO_CMD 0 0 = true → exec (.soCmdSignal m val be) s = .next (finish s (settleSwitch (soCmdRow (wrote s m
      .WEL_SO_CMD 0 0) m val be 5)))) ∧
    (takesWrite s m .WEL_SO n w = true → exec (.soTypeWrite m n w val be) s = .next (finish s (if w ≤ 1 then soTypeWrite (wrote
      s m .WEL_SO n w) m n w val be else (wrote s m .WEL_SO n w)))) ∧
    (takesWrite s m .WEL_SO n 2 = true → exec (.valLoWrite m n val be) s = .next (finish s (soValLo (wrote s m .WEL_SO n 2) m n
      val be))) ∧
    (takesWrite s m .WEL_SO n 3 = true → exec (.valHiWrite m n val be) s = .next (finish s (settleSwitch (soValHi (wrote s m
      .WEL_SO n 3) m n val be))))) ∧
  (∀ (s c d : State) (m : Master) (val n op : Nat), val < 2 ^ 32 → takesWrite s m .WEL_SO_CMD 0 0 = true →
    c = soCount (wrote s m .WEL_SO_CMD 0 0) (masterCode m - 1) none → n = val % 8192 → op = bits val 28 4 →
    d = ((c.wr0 F.WEL_SO_RES_LO_VAL (soValue c n % 2 ^ 32)).wr0 F.WEL_SO_RES_HI_VAL (soValue c n / 2 ^ 32)).wr0 F.WEL_SO_CSTAT_STATUS 0 →
    (op = 0 → soArg c 1 = 0 → soType c n ≠ 0 → exec (.soCmdRead m val 15) s = .next (finish s (settleSwitch d))) ∧
    (op = 1 → soArg c 1 = 0 → soType c n ≠ 0 → exec (.soCmdFetchAdd m val 15) s =
      .next (finish s (settleSwitch (scan (soDo d n 1 (soArg c 0) (soArg c 1)) n)))) ∧
    (op = 2 → soType c n ≠ 0 → exec (.soCmdCompareSwap m val 15) s =
      .next (finish s (settleSwitch (scan (soDo d n 2 (soArg c 0) (soArg c 1)) n)))) ∧
    (op = 5 → soArg c 1 = 0 → soType c n ≠ 0 → exec (.soCmdSignal m val 15) s =
      .next (finish s (settleSwitch (scan (soDo d n 5 (soArg c 0) (soArg c 1)) n)))) ∧
    (op = 1 → soArg c 1 ≠ 0 → exec (.soCmdFetchAdd m val 15) s =
      .next (finish s (settleSwitch (c.wr0 F.WEL_SO_CSTAT_STATUS 0x0C)))) ∧
    (op = 2 → soType c n = 0 → exec (.soCmdCompareSwap m val 15) s =
      .next (finish s (settleSwitch (c.wr0 F.WEL_SO_CSTAT_STATUS 9))))) ∧
  (∀ (s c : State) (m : Master) (n w val be : Nat), val < 2 ^ 32 → beOk m be = true → w < 2 → takesWrite s m .WEL_SO n w = true →
    c = wrote s m .WEL_SO n w →
    ((w = 0 → fieldAfter c F.WEL_SO_TYPE n val be < 5) →
      exec (.soTypeWrite m n w val be) s = .next (finish s (resetWaiters (writeWord c m .WEL_SO n w val be) n))) ∧
    (w = 0 → 5 ≤ fieldAfter c F.WEL_SO_TYPE n val be →
      exec (.soTypeWrite m n w val be) s = .next (finish s (c.accessFault m 1 (regOff .WEL_SO n))))) ∧
  (∀ (s c : State) (m : Master) (n val be : Nat), val < 2 ^ 32 → beOk m be = true → takesWrite s m .WEL_SO n 2 = true →
    c = wrote s m .WEL_SO n 2 →
    exec (.valLoWrite m n val be) s =
      .next (finish s { c with heldW := mput c.heldW (soHoldKey m n) (fieldAfter c F.WEL_SO_VAL_LO n val be) })) ∧
  ∀ (s c d : State) (m : Master) (n val be : Nat), val < 2 ^ 32 → beOk m be = true → takesWrite s m .WEL_SO n 3 = true →
    c = wrote s m .WEL_SO n 3 → d = setV { c with heldW := mdel c.heldW (soHoldKey m n) } n
      (fieldAfter c F.WEL_SO_VAL_HI n val be * 2 ^ 32 + mgetD c.heldW (soHoldKey m n) 0) →
    exec (.valHiWrite m n val be) s = .next (finish s (settleSwitch (scan (modWell (genUp c d n false)
      fun w => { w with mute := w.mute.filter fun k => !(entriesOf c n).contains k }) n)))

/-- Rooms, with the next state whole. ROOM_SNAP, ROOM_JRNL and ROOM_READ run the checks in their order: the pool's reset, the
form, room and owner, the generation and what is open, the extent, the data's line parity with kind 0x06, the lines in
service; the first that fails gives its code; otherwise a write opens the generation's writing when none is open, raises
OPEN_HIGH, and the request is counted and joins the queue. The heartbeat check marks each room on, not yet late, whose
heartbeat stands still, and reports it with kind 0x01; HB_LATE bits that are cleared start their rooms' watch again (10
R282 to R291). The first clauses say of each command that, whatever its operands within their range, it answers the next
state of its own operation where its part of the block runs (a register row: where the write is taken; a packet row: where
the station holds the packet). -/
def Obligations.Rooms : Prop :=
  (∀ (s u : State) (p : StPkt) (badLine : Option Nat) (at_ : Nat), u = s.advance at_ →
    (stationHas u p 0x40 = true → exec (.roomSnap p badLine at_) s = .next (finish u (roomWrite u p true badLine))) ∧
    (stationHas u p 0x41 = true → exec (.roomJrnl p badLine at_) s = .next (finish u (roomWrite u p false badLine))) ∧
    (stationHas u p 0x42 = true → exec (.roomRead p at_) s = .next (finish u (roomRead u p)))) ∧
  (∀ (s u : State) (at_ : Nat), u = s.advance at_ → coreRuns u = true →
    exec (.heartbeatCheck at_) s = .next (finish u (heartbeatCheck u))) ∧
  (∀ (s : State) (m : Master) (i val be : Nat), val < 2 ^ 32 → beOk m be = true →
    takesWrite s m .RMS_HB_LATE i 0 = true → exec (.hbLateClear m i val be) s = .next (finish s (lateClear (wrote s m
      .RMS_HB_LATE i 0) m i val be))) ∧
  (∀ (s u c d : State) (p : StPkt) (at_ r base size off : Nat) (bad : Option Nat), u = s.advance at_ → stationHas u p 0x40 = true →
    c = takeStation u p → r = roomOf p.hdr → (base, size) = areaOf c r (bits p.hdr.opw0 31 1) (1 - c.rd F.RMS_ROOM_BSLOT r) →
    off = p.hdr.opw2 * 64 → d = roomCount c p (base + off) p.hdr.len →
    exec (.roomSnap p bad at_) s = .next (finish u (
      if c.well.poolUntil.isSome = true then roomRefuse c p.hdr 0x0D false
      else if roomCode c p.hdr false ≠ 0 then roomRefuse c p.hdr (roomCode c p.hdr false) false
      else if p.hdr.opw1 ≠ nextGen c r ∨ c.rd F.RMS_ROOM_OPEN_KIND r ≠ 0 ∧ c.rd F.RMS_ROOM_OPEN_KIND r ≠ 1
        then roomRefuse c p.hdr 0x12 false
      else if p.hdr.len % 64 ≠ 0 ∨ size < off + p.hdr.len then roomRefuse c p.hdr 0x14 false
      else if bad.isSome = true then roomRefuse (d.report 7 6 (base + off + 64 * bad.getD 0)) p.hdr 8 false
      else if ((linesOf (base + off) p.hdr.len).any fun l => unserved c l true) = true then roomRefuse d p.hdr 7 false
      else if c.rd F.RMS_ROOM_OPEN_KIND r = 0 then
        admitReq (((d.wr F.RMS_ROOM_OPEN_KIND r 1).wr F.RMS_ROOM_OPEN_HIGH r 0).wr F.RMS_ROOM_OPEN_HIGH r
          (max (((d.wr F.RMS_ROOM_OPEN_KIND r 1).wr F.RMS_ROOM_OPEN_HIGH r 0).rd F.RMS_ROOM_OPEN_HIGH r) ((off + p.hdr.len) / 64)))
          .roomWrite (base + off) p.hdr.len p.data [] p.hdr p.arr
      else admitReq (d.wr F.RMS_ROOM_OPEN_HIGH r (max (d.rd F.RMS_ROOM_OPEN_HIGH r) ((off + p.hdr.len) / 64)))
          .roomWrite (base + off) p.hdr.len p.data [] p.hdr p.arr))) ∧
  (∀ (s u c d e : State) (p : StPkt) (at_ r base size off : Nat) (bad : Option Nat), u = s.advance at_ → stationHas u p 0x41 = true →
    c = takeStation u p → r = roomOf p.hdr → (base, size) = areaOf c r (bits p.hdr.opw0 31 1) 2 →
    off = p.hdr.opw2 * 64 → d = roomCount c p (base + off) p.hdr.len →
    e = (d.wr F.RMS_ROOM_OPEN_KIND r 2).wr F.RMS_ROOM_OPEN_HIGH r (c.rd F.RMS_ROOM_JCMT r) →
    exec (.roomJrnl p bad at_) s = .next (finish u (
      if c.well.poolUntil.isSome = true then roomRefuse c p.hdr 0x0D false
      else if roomCode c p.hdr false ≠ 0 then roomRefuse c p.hdr (roomCode c p.hdr false) false
      else if p.hdr.opw1 ≠ nextGen c r ∨ c.rd F.RMS_ROOM_OPEN_KIND r ≠ 0 ∧ c.rd F.RMS_ROOM_OPEN_KIND r ≠ 2
        then roomRefuse c p.hdr 0x12 false
      else if p.hdr.len % 64 ≠ 0 ∨ size < off + p.hdr.len ∨ p.hdr.opw2 < c.rd F.RMS_ROOM_JCMT r then roomRefuse c p.hdr 0x14 false
      else if bad.isSome = true then roomRefuse (d.report 7 6 (base + off + 64 * bad.getD 0)) p.hdr 8 false
      else if ((linesOf (base + off) p.hdr.len).any fun l => unserved c l true) = true then roomRefuse d p.hdr 7 false
      else if c.rd F.RMS_ROOM_OPEN_KIND r = 0 then
        admitReq (e.wr F.RMS_ROOM_OPEN_HIGH r (max (e.rd F.RMS_ROOM_OPEN_HIGH r) ((off + p.hdr.len) / 64)))
          .roomWrite (base + off) p.hdr.len p.data [] p.hdr p.arr
      else admitReq (d.wr F.RMS_ROOM_OPEN_HIGH r (max (d.rd F.RMS_ROOM_OPEN_HIGH r) ((off + p.hdr.len) / 64)))
          .roomWrite (base + off) p.hdr.len p.data [] p.hdr p.arr))) ∧
  (∀ (s u c d : State) (p : StPkt) (at_ r base size off n lim k : Nat), u = s.advance at_ → stationHas u p 0x42 = true →
    c = takeStation u p → r = roomOf p.hdr → k = bits p.hdr.opw0 28 2 →
    (base, size) = areaOf c r (bits p.hdr.opw0 31 1) (if k = 0 then c.rd F.RMS_ROOM_BSLOT r else 2) →
    off = p.hdr.opw2 * 64 → n = bits p.hdr.opw1 0 22 →
    lim = (if k = 0 then c.rd F.RMS_ROOM_SNAP_LEN r else c.rd F.RMS_ROOM_JCMT r) * 64 → d = roomCount c p (base + off) n →
    exec (.roomRead p at_) s = .next (finish u (
      if c.well.poolUntil.isSome = true then roomRefuse c p.hdr 0x0D true
      else if roomCode c p.hdr true ≠ 0 then roomRefuse c p.hdr (roomCode c p.hdr true) true
      else if n % 64 ≠ 0 ∨ p.hdr.len ≠ 0 ∨ size < off + n then roomRefuse c p.hdr 0x14 true
      else if lim < off + n then roomRefuse c p.hdr 0x15 true
      else if ((linesOf (base + off) n).any fun l => unserved c l false) = true then roomRefuse d p.hdr 7 true
      else admitReq d .roomRead (base + off) n [] [] p.hdr p.arr))) ∧
  (∀ (s u : State) (at_ : Nat), u = s.advance at_ → coreRuns u = true → u.flag F.RMS_HB_CFG_EN = true →
    u.rd0 F.RMS_HB_CFG_MISS ≠ 0 → u.rd0 F.RMS_HB_CFG_IVL ≠ 0 →
    exec (.heartbeatCheck at_) s = .next (finish u
      (((List.range 128).filter fun r => roomOn u r && !roomLate u r && heartStill u r).foldl (fun s r =>
        (s.wr F.RMS_HB_LATE_LATE (r / 32) (putBits (s.rd F.RMS_HB_LATE_LATE (r / 32)) (r % 32) 1 1)).report 8 1 r) u))) ∧
  ∀ (s c : State) (m : Master) (i val be : Nat), i < 4 → val < 2 ^ 32 → beOk m be = true → takesWrite s m .RMS_HB_LATE i 0 = true →
    c = wrote s m .RMS_HB_LATE i 0 →
    exec (.hbLateClear m i val be) s = .next (finish s
      (((List.range 32).filter fun j => bitAt (c.rd F.RMS_HB_LATE_LATE i) j &&
          !bitAt ((writeWord c m .RMS_HB_LATE i 0 val be).rd F.RMS_HB_LATE_LATE i) j).foldl
        (fun s j => watchRoom s (32 * i + j)) (writeWord c m .RMS_HB_LATE i 0 val be)))

/-- Blocks and link control words, with the next state whole, where no lane reports FEC errors and the link is not stopped. A
block whose CRC holds over its expected number moves that number on, ends a wait for replay, and its cells are received in
slot order, each lowering its VC's outstanding grant; one whose CRC fails is counted and starts the wait for replay, and
within that wait is left. A codeword that arrives on a lane is recovered there, and on a loopback slave sent back. An LCW
is built at the start of a run of 32 blocks outside electrical idle. The early half of a good LCW acknowledges the blocks
up to its number and, with its NAK bit, starts the replay; the whole of one gives the limits of its kind, and the second
kind at stage 8 takes the link to IDENT. The replay timer, past REPLAY_TO, resends the oldest first, counted with kind
0x32, and takes a link that is up down with cause 2 once REPLAY_MAX is reached (11 R301 to R310). The first clauses say of
each command that, whatever its operands within their range, it answers the next state of its own operation where its part
of the block runs (a register row: where the write is taken; a packet row: where the station holds the packet). -/
def Obligations.LinkBlocks : Prop :=
  (∀ (s u : State) (lp at_ : Nat) (blk : RxBlock), u = s.advance at_ → linkRuns u = true → lp < 160 → blk.ok = true →
    exec (.linkBlockReceive lp blk at_) s = .next (finish u (settleSwitch (blockReceive u lp blk))) ∧
    exec (.lcwBuild lp at_) s = .next (finish u (settleSwitch (lcwBuild u lp))) ∧
    exec (.lcwReceive lp at_) s = .next (finish u (settleSwitch (lcwReceive u lp))) ∧
    exec (.replayTimeout lp at_) s = .next (finish u (settleSwitch (replayTimeout u lp)))) ∧
  (∀ (s u d : State) (lp at_ : Nat) (b : RxBlock), u = s.advance at_ → linkRuns u = true → lp < 160 → b.ok = true →
    b.code = none → blocksFlow u lp = true → (getLink u lp).stopped = false → b.fec = [] →
    d = setLink u lp (gatherLcw (getLink u lp) b.lcw (b.crc == blockCrc (getLink u lp).rxSeq b.slots b.lcw)) →
    (b.crc = blockCrc (getLink u lp).rxSeq b.slots b.lcw →
      exec (.linkBlockReceive lp b at_) s = .next (finish u (settleSwitch
        ((b.slots.zipIdx.filter fun x => !x.1.isIdle).foldl (fun s x =>
          receiveCell (modLink s lp fun k => { k with grant := mset 0 k.grant x.1.vc (mgetD k.grant x.1.vc 0 - 1) }) lp x.1
            (b.par.contains x.2))
          (modLink d lp fun k => { k with rxSeq := (k.rxSeq + 1) % 4096, replayWait := false, nak := false }))))) ∧
    (b.crc ≠ blockCrc (getLink u lp).rxSeq b.slots b.lcw → (getLink u lp).replayWait = false →
      exec (.linkBlockReceive lp b at_) s = .next (finish u (settleSwitch
        (modLink (d.bump F.PRT_LERR_BAD_BLOCKS lp) lp fun k => { k with replayWait := true, nak := true })))) ∧
    (b.crc ≠ blockCrc (getLink u lp).rxSeq b.slots b.lcw → (getLink u lp).replayWait = true →
      exec (.linkBlockReceive lp b at_) s = .next (finish u (settleSwitch d)))) ∧
  (∀ (s u : State) (lp at_ pos : Nat) (ys : List Nat) (b : RxBlock), u = s.advance at_ → linkRuns u = true → lp < 160 →
    b.ok = true → b.code = some (pos, ys) →
    (u.flag F.PRT_LSTAT_LOOP_SLAVE lp = true →
      exec (.linkBlockReceive lp b at_) s = .next (finish u (settleSwitch (u.emit (.levels (laneAt u lp pos) ys))))) ∧
    (u.flag F.PRT_LSTAT_LOOP_SLAVE lp = false → (u.stage lp = 6 ∨ u.stage lp = 7) →
      exec (.linkBlockReceive lp b at_) s =
        .next (finish u (settleSwitch (modLane u (laneAt u lp pos) fun x => { x with rxPrev := ys.getLastD 0 })))) ∧
    (u.flag F.PRT_LSTAT_LOOP_SLAVE lp = false → blocksFlow u lp = true → (getLink u lp).stopped = false → b.fec = [] →
      exec (.linkBlockReceive lp b at_) s = .next (finish u (settleSwitch (codeReceive u lp pos ys false b.par))))) ∧
  (∀ (s u : State) (lp at_ : Nat), u = s.advance at_ → linkRuns u = true → lp < 160 → blocksFlow u lp = true →
    u.flag F.PRT_LSTAT_EIDLE_TX lp = false → (getLink u lp).txCount % 32 = 0 → (getLink u lp).lcwRun ≠ some (getLink u lp).txCount →
    exec (.lcwBuild lp at_) s = .next (finish u (settleSwitch (buildLcw u lp)))) ∧
  (∀ (s u d : State) (lp at_ w : Nat), u = s.advance at_ → linkRuns u = true → lp < 160 → (getLink u lp).rxEarly = some w →
    (getLink u lp).rxReady = none → d = takeAck (modLink u lp fun k => { k with rxEarly := none }) lp (w % 4096) →
    (bitAt w 12 = false → exec (.lcwReceive lp at_) s = .next (finish u (settleSwitch d))) ∧
    (bitAt w 12 = true → exec (.lcwReceive lp at_) s = .next (finish u (settleSwitch (replay d lp))))) ∧
  (∀ (s u d : State) (lp at_ w : Nat), u = s.advance at_ → linkRuns u = true → lp < 160 → blocksFlow u lp = true →
    (getLink u lp).rxEarly = none → (getLink u lp).rxReady = some w →
    d = [0, 1, 2, 3].foldl (fun s i => touchElig s lp (4 * bits w 13 1 + i)) (modLink u lp fun k => { k with
      rxReady := none
      limIn := [0, 1, 2, 3].foldl (fun m i => mset 0 m (4 * bits w 13 1 + i) (bits w (14 + 12 * i) 12)) (getLink u lp).limIn
      rxKinds := Nat.lor (getLink u lp).rxKinds (2 ^ bits w 13 1) }) →
    (d.stage lp ≠ 8 → exec (.lcwReceive lp at_) s = .next (finish u (settleSwitch d))) ∧
    (d.stage lp = 8 → Nat.lor (getLink u lp).rxKinds (2 ^ bits w 13 1) = 3 → (getLink d lp).stopped = false →
      exec (.lcwReceive lp at_) s = .next (finish u (settleSwitch (enterStage d lp 9))))) ∧
  ∀ (s u : State) (lp at_ n lim : Nat) (b : TxBlock) (bs : List TxBlock), u = s.advance at_ → linkRuns u = true → lp < 160 →
    u.rd F.PRT_LINK_CFG_REPLAY_TO (lp / 2) ≠ 0 → (getLink u lp).retry = b :: bs → blocksFlow u lp = true →
    (getLink u lp).ackAt + 100 * u.rd F.PRT_LINK_CFG_REPLAY_TO (lp / 2) ≤ u.now → (getLink u lp).restripe = false →
    n = (if (getLink u lp).resends ≠ 0 ∧ (getLink u lp).resendSeq = b.seq then (getLink u lp).resends else 0) →
    lim = u.rd F.PRT_LINK_CFG_REPLAY_MAX (lp / 2) →
    (lim ≠ 0 → lim ≤ n → u.linkUp lp = true →
      exec (.replayTimeout lp at_) s = .next (finish u (settleSwitch (linkDown u lp 2)))) ∧
    ((lim = 0 ∨ n < lim ∨ u.linkUp lp = false) → (getLink u lp).txSlots = [] →
      exec (.replayTimeout lp at_) s = .next (finish u (settleSwitch (resendAll
        (linkFault ((modLink u lp fun k => { k with resends := n + 1, resendSeq := b.seq, ackAt := u.now, again := false }).bump
          F.PRT_LERR_REPLAYS lp) lp 0x32) lp))))

/-- Bring-up, with the next state whole. A training frame: on a loopback slave it is sent back; illegible in stage 1 it starts
its lane's count again; legible, asking for no loopback, in stages 1 to 7 with no retry waiting it acts in its stage,
which in stage 1 locks the lane and, once sixteen good frames have come, moves the link on; in stage 10 it takes the link
down with cause 4. Equalisation and FEC lock end with the lanes that are not ready excluded; deskew ends with the masks
agreed, fresh credits and blocks flowing, stopped with kind 0x36 where the credits do not fit. A stage's time limit fails
the attempt in stages 4 to 7, and in stage 8 of a link not stopped; a retry whose time has come starts the next attempt;
IDENT is sent in stage 9 while the partner's has not come or the place is not locked; an IDENT received is kept, takes the
link on when it is the expected one and is reported with kind 0x33 otherwise (11 R313 to R319). The first clauses say of
each command that, whatever its operands within their range, it answers the next state of its own operation where its part
of the block runs (a register row: where the write is taken; a packet row: where the station holds the packet). -/
def Obligations.LinkBringUp : Prop :=
  (∀ (s u : State) (lp pos frame at_ ready bad : Nat) (p : StPkt), u = s.advance at_ → linkRuns u = true → lp < 160 → pos < 8 →
    p.arr ≤ 161 →
    exec (.trainingFrameReceive lp pos frame at_) s = .next (finish u (settleSwitch (trainingFrame u lp pos frame))) ∧
    exec (.eqDone lp ready at_) s = .next (finish u (settleSwitch (eqDone u lp ready))) ∧
    exec (.fecLockDone lp bad at_) s = .next (finish u (settleSwitch (fecLockDone u lp bad))) ∧
    exec (.deskewDone lp bad at_) s = .next (finish u (settleSwitch (deskewDone u lp bad))) ∧
    exec (.bringupStageTimeout lp at_) s = .next (finish u (settleSwitch (stageTimeout u lp))) ∧
    exec (.bringupRetry lp at_) s = .next (finish u (settleSwitch (bringupRetry u lp))) ∧
    exec (.identSend lp at_) s = .next (finish u (settleSwitch (identSend u lp))) ∧
    exec (.ident p at_) s = .next (finish u (settleSwitch (identReceive u p)))) ∧
  (∀ (s u : State) (lp pos v at_ l : Nat), u = s.advance at_ → linkRuns u = true → lp < 160 → pos < 8 → u.lpExists lp = true →
    pos < linkWidth u lp → l = laneAt u lp pos → (getLane u l).excluded = false →
    (u.flag F.PRT_LSTAT_LOOP_SLAVE lp = true →
      exec (.trainingFrameReceive lp pos v at_) s = .next (finish u (settleSwitch (u.emit (.echo l v))))) ∧
    (u.flag F.PRT_LSTAT_LOOP_SLAVE lp = false → u.stage lp = 1 → readFrame v (u.flag F.LNK_STAT_POL_INV l) = none →
      exec (.trainingFrameReceive lp pos v at_) s =
        .next (finish u (settleSwitch (modLane u l fun x => { x with good := 0 })))) ∧
    ∀ x : Nat, u.flag F.PRT_LSTAT_LOOP_SLAVE lp = false → readFrame v (u.flag F.LNK_STAT_POL_INV l) = some x →
      bits x 32 2 ≠ 1 →
      (u.stage lp = 10 → exec (.trainingFrameReceive lp pos v at_) s = .next (finish u (settleSwitch (linkDown u lp 4)))) ∧
      (1 ≤ u.stage lp → u.stage lp ≤ 7 → u.stage lp ≠ 2 → (getLink u lp).retryAt = none →
        exec (.trainingFrameReceive lp pos v at_) s = .next (finish u (settleSwitch (frameInStage u lp pos x)))) ∧
      ∀ d : State, u.stage lp = 1 → (getLink u lp).retryAt = none → bits x 44 1 = b2n (u.portMode (lp / 2) == 2) →
        d = modLink ((modLane u l fun y => { y with good := y.good + 1 }).wr F.LNK_STAT_LOCK l 1) lp
          (fun k => { k with peerMask := bits x 35 8 }) →
        ((getLane d l).good < 16 → exec (.trainingFrameReceive lp pos v at_) s = .next (finish u (settleSwitch d))) ∧
        (16 ≤ (getLane d l).good →
          exec (.trainingFrameReceive lp pos v at_) s = .next (finish u (settleSwitch (advanceStage d lp 2))))) ∧
  (∀ (s u : State) (lp ready at_ : Nat), u = s.advance at_ → linkRuns u = true → lp < 160 → u.stage lp = 5 →
    exec (.eqDone lp ready at_) s = .next (finish u (settleSwitch
      (advanceStage (excludeLanes u lp ((liveLanes u lp).filter fun p => !bitAt ready p)) lp 6)))) ∧
  (∀ (s u : State) (lp bad at_ : Nat), u = s.advance at_ → linkRuns u = true → lp < 160 → u.stage lp = 6 →
    exec (.fecLockDone lp bad at_) s = .next (finish u (settleSwitch
      (advanceStage (excludeLanes u lp ((liveLanes u lp).filter (bitAt bad))) lp 7)))) ∧
  (∀ (s u c d e : State) (lp bad at_ tx rx : Nat) (refused : Bool), u = s.advance at_ → linkRuns u = true → lp < 160 →
    u.stage lp = 7 → c = excludeLanes u lp ((liveLanes u lp).filter (bitAt bad)) →
    tx = (getLink u lp).peerMask % 2 ^ linkWidth u lp → rx = rxMask c lp →
    refused = (((List.range 8).any fun v => rsvCells u lp v == 0) || decide (bufCells u lp < sumRsv u lp)) →
    d = setLink (setMasks c lp tx rx) lp { linkInit with
      failRun := (getLink c lp).failRun, flushing := (getLink c lp).flushing, clkMode := (getLink c lp).clkMode
      peerMask := (getLink c lp).peerMask, stopped := refused
      cred := (List.range 8).foldl (fun m v => mset 0 m v (rsvCells u lp v)) []
      flex := (List.range 8).foldl (fun m v => mset 0 m v (flexCells u lp v)) [] } →
    e = enterStage ((liveLanes d lp).foldl (fun s p =>
      modLane (s.wr F.LNK_STAT_IN_USE (laneAt s lp p) 1) (laneAt s lp p) fun x => { x with txWords := [], rxWords := [] }) d) lp 8 →
    ((popCount tx < minLanes u lp ∨ popCount rx < minLanes u lp) →
      exec (.deskewDone lp bad at_) s = .next (finish u (settleSwitch (attemptFail c lp)))) ∧
    (minLanes u lp ≤ popCount tx → minLanes u lp ≤ popCount rx → u.rd F.PRT_CTRL_LOOP (lp / 2) ≠ 3 →
      exec (.deskewDone lp bad at_) s = .next (finish u (settleSwitch (if refused = true then linkFault e lp 0x36 else e))))) ∧
  (∀ (s u : State) (lp at_ : Nat), u = s.advance at_ → linkRuns u = true → lp < 160 → 4 ≤ u.stage lp → u.stage lp ≤ 8 →
    (u.stage lp = 8 → (getLink u lp).stopped = false) →
    (getLink u lp).stageAt + (if u.stage lp = 5 then 30000000 else if u.stage lp = 6 then 2000000 else 1000000) ≤ u.now →
    exec (.bringupStageTimeout lp at_) s = .next (finish u (settleSwitch (attemptFail u lp)))) ∧
  (∀ (s u : State) (lp at_ t0 : Nat), u = s.advance at_ → linkRuns u = true → lp < 160 → (getLink u lp).retryAt = some t0 →
    t0 ≤ u.now →
    exec (.bringupRetry lp at_) s =
      .next (finish u (settleSwitch (sendFrames (modLink u lp fun l =>
        { l with retryAt := none, stageAt := u.now, clkMode := u.rd F.PRT_CTRL_CLKMODE (lp / 2) }) lp)))) ∧
  (∀ (s u : State) (lp at_ : Nat), u = s.advance at_ → linkRuns u = true → lp < 160 → u.stage lp = 9 →
    (u.flag F.PRT_PEER_VALID lp = false ∨ u.flag F.GLB_PLACE_LOCK = false) →
    exec (.identSend lp at_) s = .next (finish u (settleSwitch (portCell u lp (identHdr u lp))))) ∧
  ∀ (s u c d : State) (p : StPkt) (at_ lp : Nat) (ok : Bool), u = s.advance at_ → linkRuns u = true → p.arr ≤ 161 → c = takeCtl u p →
    lp = p.arr → c.stage lp = 9 → p.hdr.opcode = 1 → ok = identOk c lp p.hdr.srcE (bits p.hdr.opw0 0 7) →
    d = ((((c.wr F.PRT_PEER_VALID lp 1).wr F.PRT_PEER_MATCH lp (b2n ok)).wr F.PRT_PEER_HALF lp (bits p.hdr.opw0 8 1)).wr
        F.PRT_PEER_PPORT lp (bits p.hdr.opw0 0 7)).wr F.PRT_PEER_EID lp p.hdr.srcE →
    (ok = true → exec (.ident p at_) s = .next (finish u (settleSwitch (tryUp d lp)))) ∧
    (ok = false → exec (.ident p at_) s = .next (finish u (settleSwitch (linkFault d lp 0x33
      (lp + p.hdr.srcE * 2 ^ 8 + bits p.hdr.opw0 0 7 * 2 ^ 28 + bits p.hdr.opw0 8 1 * 2 ^ 35)))))

/-- Lanes and idling, with the next state whole: a link that is up and loses the lock of every lane it receives on goes down
with cause 1, of some of them drops those with reason 1; DROP takes its lane out with reason 3; a re-stripe in progress
ends over the masks both ends kept, resending what waits, with fewer lanes it is a change of conditions, and with too few
the link goes down with cause 3; electrical idle is entered with nothing to send under the brake or after EIDLE_T, and
left with a burst when a cell is ready or the link control word changed (11 R319 to R322). The first clauses say of each
command that, whatever its operands within their range, it answers the next state of its own operation where its part of
the block runs (a register row: where the write is taken; a packet row: where the station holds the packet). -/
def Obligations.LinkLanes : Prop :=
  (∀ (s u : State) (lp mask at_ peer : Nat), u = s.advance at_ → linkRuns u = true → lp < 160 →
    exec (.laneLockLoss lp mask at_) s = .next (finish u (settleSwitch (lockLoss u lp mask))) ∧
    exec (.restripeDone lp peer at_) s = .next (finish u (settleSwitch (restripeDone u lp peer))) ∧
    exec (.eidleEnter lp at_) s = .next (finish u (settleSwitch (eidleEnter u lp))) ∧
    exec (.eidleExit lp at_) s = .next (finish u (settleSwitch (eidleExit u lp)))) ∧
  (∀ (s : State) (m : Master) (l : Nat),
    takesWrite s m .LNK_CTRL l 0 = true → exec (.drop m l) s = .next (finish s (settleSwitch (lnkCtrlWrite (wrote s m .LNK_CTRL
      l 0) m l (2 ^ 31) 15)))) ∧
  (∀ (s u d : State) (lp mask at_ lost : Nat), u = s.advance at_ → linkRuns u = true → lp < 160 → u.linkUp lp = true →
    lost = maskOf (((positions u lp).filter (bitAt mask)).map (rxPos u lp)) →
    d = ((positions u lp).filter (bitAt mask)).foldl (fun s p => s.wr F.LNK_STAT_LOCK (laneAt s lp p) 0) u →
    (Nat.land (u.rd F.PRT_LSTAT_RXMASK lp) lost = u.rd F.PRT_LSTAT_RXMASK lp →
      exec (.laneLockLoss lp mask at_) s = .next (finish u (settleSwitch (linkDown d lp 1)))) ∧
    (Nat.land (u.rd F.PRT_LSTAT_RXMASK lp) lost ≠ u.rd F.PRT_LSTAT_RXMASK lp →
      exec (.laneLockLoss lp mask at_) s = .next (finish u (settleSwitch
        (((positions u lp).filter (bitAt mask)).foldl (fun s p => dropLane s lp p 1) d))))) ∧
  (∀ (s u d : State) (lp peer at_ tx : Nat), u = s.advance at_ → linkRuns u = true → lp < 160 → u.linkUp lp = true →
    (getLink u lp).restripe = true → tx = Nat.land (u.rd F.PRT_LSTAT_TXMASK lp) peer →
    d = setMasks u lp tx (u.rd F.PRT_LSTAT_RXMASK lp) →
    (popCount tx < minLanes u lp → exec (.restripeDone lp peer at_) s = .next (finish u (settleSwitch (linkDown d lp 3)))) ∧
    (minLanes u lp ≤ popCount tx → tx = u.rd F.PRT_LSTAT_TXMASK lp →
      exec (.restripeDone lp peer at_) s = .next (finish u (settleSwitch (resendAll
        (modLink d lp fun k => { k with restripe := false }) lp)))) ∧
    (minLanes u lp ≤ popCount tx → tx ≠ u.rd F.PRT_LSTAT_TXMASK lp →
      exec (.restripeDone lp peer at_) s = .next (finish u (settleSwitch (conditionChange (resendAll
        (modLink d lp fun k => { k with restripe := false }) lp) (some lp)))))) ∧
  (∀ (s c : State) (m : Master) (l : Nat), takesWrite s m .LNK_CTRL l 0 = true → c = wrote s m .LNK_CTRL l 0 →
    exec (.drop m l) s = .next (finish s (settleSwitch (dropLane c (linkOfLane c l).1 (linkOfLane c l).2 3)))) ∧
  (∀ (s u : State) (lp at_ : Nat), u = s.advance at_ → linkRuns u = true → lp < 160 → u.linkUp lp = true →
    idleOk u lp = true → (u.flag F.PWR_STAT_BRAKE = true ∨ u.rd F.PRT_CTRL_EIDLE_T (lp / 2) ≠ 0 ∧
      (getLink u lp).idleSince.any (fun a => decide (a + 100 * u.rd F.PRT_CTRL_EIDLE_T (lp / 2) ≤ u.now)) = true) →
    exec (.eidleEnter lp at_) s = .next (finish u (settleSwitch (u.wr F.PRT_LSTAT_EIDLE_TX lp 1)))) ∧
  ∀ (s u : State) (lp at_ : Nat), u = s.advance at_ → linkRuns u = true → lp < 160 → u.flag F.PRT_LSTAT_EIDLE_TX lp = true →
    (cellReady u lp = true ∨ lcwChanged u lp = true) →
    exec (.eidleExit lp at_) s =
      .next (finish u (settleSwitch (sendBurst (u.wr F.PRT_LSTAT_EIDLE_TX lp 0) lp)))

/-- Port controls and tests, with the next state whole: RETRAIN restarts the links of a port in use with cause 5; a write of
EN and one of LOOP store the word and restart the port's links where the field changed; a loopback slave whose training
frames stop returns to DETECT; GO of an eye scan, with none running, in stage 5 or later and a length, sets BUSY, and its
end clears it with the error count; a write of LNK_PRBS freezes both counts, sets the generator to TX_EN and, with RX_EN,
clears them and starts the checker (11 R323 to R325; the frozen error count is a free value, log 76). The first clauses
say of each command that, whatever its operands within their range, it answers the next state of its own operation where
its part of the block runs (a register row: where the write is taken; a packet row: where the station holds the packet). -/
def Obligations.PortControls : Prop :=
  (∀ (s : State) (m : Master) (n k l val be : Nat) (en : Bool), k < 4 → val < 2 ^ 32 → beOk m be = true →
    (takesWrite s m .PRT_CTRL n 0 = true → exec (.retrain m n) s = .next (finish s (settleSwitch (portCtl (wrote s m .PRT_CTRL n
      0) n ((wrote s m .PRT_CTRL n 0).rd F.PRT_CTRL_EN n) ((wrote s m .PRT_CTRL n 0).rd F.PRT_CTRL_LOOP n) true)))) ∧
    (takesWrite s m .PRT_CTRL n 0 = true → exec (.portEnWrite m n en) s = .next (finish s (settleSwitch (prtCtrlWrite (wrote s m
      .PRT_CTRL n 0) m n (b2n en * 2 ^ 31 + s.rdSw F.PRT_CTRL_LOOP n * 2 ^ 28 + s.rdSw F.PRT_CTRL_CLKMODE n * 2 ^ 26) 8)))) ∧
    (takesWrite s m .PRT_CTRL n 0 = true → exec (.loop m n k) s = .next (finish s (settleSwitch (prtCtrlWrite (wrote s m
      .PRT_CTRL n 0) m n (s.rdSw F.PRT_CTRL_EN n * 2 ^ 31 + k % 4 * 2 ^ 28 + s.rdSw F.PRT_CTRL_CLKMODE n * 2 ^ 26) 8)))) ∧
    (takesWrite s m .LNK_ESCAN l 0 = true → exec (.escanGo m l) s = .next (finish s (escanGo (wrote s m .LNK_ESCAN l 0) l))) ∧
    (takesWrite s m .LNK_PRBS l 0 = true → exec (.prbsRxEnWrite m l val be) s = .next (finish s (prbsWrite (wrote s m .LNK_PRBS
      l 0) m l val be)))) ∧
  (∀ (s u : State) (lp at_ l n : Nat), u = s.advance at_ → linkRuns u = true → lp < 160 → l < 640 →
    exec (.loopEchoEnd lp at_) s = .next (finish u (settleSwitch (echoEnd u lp))) ∧
    exec (.escanDone l n at_) s = .next (finish u (settleSwitch (escanDone u l n)))) ∧
  (∀ (s c : State) (m : Master) (n : Nat), takesWrite s m .PRT_CTRL n 0 = true → c = wrote s m .PRT_CTRL n 0 →
    c.portMode n ≠ 0 →
    exec (.retrain m n) s =
      .next (finish s (settleSwitch ((linksOf c n).foldl (fun s lp => restartLink s lp 5) c)))) ∧
  (∀ (s c : State) (m : Master) (n v : Nat) (en : Bool), takesWrite s m .PRT_CTRL n 0 = true → c = wrote s m .PRT_CTRL n 0 →
    v = b2n en * 2 ^ 31 + s.rdSw F.PRT_CTRL_LOOP n * 2 ^ 28 + s.rdSw F.PRT_CTRL_CLKMODE n * 2 ^ 26 →
    exec (.portEnWrite m n en) s = .next (finish s (settleSwitch
      (portCtl (writeWord c m .PRT_CTRL n 0 v 8) n (c.rd F.PRT_CTRL_EN n) (c.rd F.PRT_CTRL_LOOP n) (bitAt v 30))))) ∧
  (∀ (s c : State) (m : Master) (n k v : Nat), k < 4 → takesWrite s m .PRT_CTRL n 0 = true → c = wrote s m .PRT_CTRL n 0 →
    v = s.rdSw F.PRT_CTRL_EN n * 2 ^ 31 + k * 2 ^ 28 + s.rdSw F.PRT_CTRL_CLKMODE n * 2 ^ 26 →
    exec (.loop m n k) s = .next (finish s (settleSwitch
      (portCtl (writeWord c m .PRT_CTRL n 0 v 8) n (c.rd F.PRT_CTRL_EN n) (c.rd F.PRT_CTRL_LOOP n) (bitAt v 30))))) ∧
  (∀ (s u : State) (lp at_ : Nat), u = s.advance at_ → linkRuns u = true → lp < 160 → u.flag F.PRT_LSTAT_LOOP_SLAVE lp = true →
    exec (.loopEchoEnd lp at_) s = .next (finish u (settleSwitch (startDetect u lp)))) ∧
  (∀ (s c : State) (m : Master) (l : Nat), takesWrite s m .LNK_ESCAN l 0 = true → c = wrote s m .LNK_ESCAN l 0 →
    c.flag F.LNK_ESCAN_BUSY l = false → 5 ≤ c.stage (linkOfLane c l).1 → c.rd F.LNK_ESCAN_LOG2N l ≠ 0 →
    exec (.escanGo m l) s = .next (finish s ((c.wr F.LNK_ESCAN_BUSY l 1).wr F.LNK_ESCAN_GO l 1))) ∧
  (∀ (s u : State) (l n at_ : Nat), u = s.advance at_ → linkRuns u = true → l < 640 → u.flag F.LNK_ESCAN_BUSY l = true →
    exec (.escanDone l n at_) s = .next (finish u (settleSwitch
      (((u.wr F.LNK_ESCAN_BUSY l 0).wr F.LNK_ESCAN_GO l 0).wr F.LNK_ESCAN_ERR_ERR l (min n (2 ^ 32 - 1)))))) ∧
  ∀ (s c d : State) (m : Master) (l val be : Nat), val < 2 ^ 32 → beOk m be = true → takesWrite s m .LNK_PRBS l 0 = true →
    c = wrote s m .LNK_PRBS l 0 →
    d = prbsDrive (writeWord (if bitAt be 3 then prbsFreeze c l else c) m .LNK_PRBS l 0 val be) l →
    ((bitAt val 30 && bitAt be 3) = true → exec (.prbsRxEnWrite m l val be) s = .next (finish s
      (prbsStart (modLane (d.wr F.LNK_PRBS_ERR_COUNT l 0) l fun x => { x with prbsNs := 0, prbsAt := none }) l))) ∧
    ((bitAt val 30 && bitAt be 3) = false → exec (.prbsRxEnWrite m l val be) s = .next (finish s d))

/-- Pauses, with the next state whole: PAUSE on a link that is up marks it PAUSED with the announced duration, at most 16,383,
and kind 0x37; RESUME clears that; a pause as long as LIMIT takes the link down with cause 7 and kind 0x38 (15 R428). The
first clauses say of each command that, whatever its operands within their range, it answers the next state of its own
operation where its part of the block runs (a register row: where the write is taken; a packet row: where the station
holds the packet). -/
def Obligations.Pauses : Prop :=
  (∀ (s u : State) (p : StPkt) (at_ lp : Nat), u = s.advance at_ → linkRuns u = true → p.arr ≤ 161 → lp < 160 →
    exec (.pause p at_) s = .next (finish u (settleSwitch (pauseReceive u p))) ∧
    exec (.resume p at_) s = .next (finish u (settleSwitch (resumeReceive u p))) ∧
    exec (.pauseLimitExpire lp at_) s = .next (finish u (settleSwitch (pauseLimit u lp)))) ∧
  (∀ (s u c : State) (p : StPkt) (at_ : Nat), u = s.advance at_ → linkRuns u = true → p.arr ≤ 161 → c = takeCtl u p →
    c.linkUp p.arr = true → p.hdr.opcode = 3 → bits p.hdr.opw0 24 8 = 0 →
    exec (.pause p at_) s = .next (finish u (settleSwitch (linkFault
      (modLink ((c.wr (pausedField p.arr) (p.arr / 2) 1).wr F.PRT_PAUSE_LAST_DUR (p.arr / 2) (min 16383 (p.hdr.opw0 % 65536)))
        p.arr fun k => { k with pausedAt := some c.now }) p.arr 0x37)))) ∧
  (∀ (s u c : State) (p : StPkt) (at_ : Nat), u = s.advance at_ → linkRuns u = true → p.arr ≤ 161 → c = takeCtl u p →
    p.hdr.opcode = 3 → bits p.hdr.opw0 24 8 = 1 →
    exec (.resume p at_) s = .next (finish u (settleSwitch
      (modLink (c.wr (pausedField p.arr) (p.arr / 2) 0) p.arr fun k => { k with pausedAt := none })))) ∧
  ∀ (s u : State) (lp at_ t0 : Nat), u = s.advance at_ → linkRuns u = true → lp < 160 → (getLink u lp).pausedAt = some t0 →
    u.rd F.PRT_PAUSE_LIMIT (lp / 2) ≠ 0 → u.linkUp lp = true →
    t0 + 1000000 * u.rd F.PRT_PAUSE_LIMIT (lp / 2) ≤ u.now →
    exec (.pauseLimitExpire lp at_) s = .next (finish u (settleSwitch (linkFault (linkDown u lp 7) lp 0x38)))

/-- Rings of the host, with the next state whole. A write of a command ring's control word takes effect on the fields it
enables but EN, those that are locked while the ring is not DISABLED staying with an access fault where they would change.
Without byte 3 that is all. EN 1 makes a DISABLED ring whose LOG2N is 4 to 12 and whose completion ring is enabled ACTIVE
with ERR, HEAD and TAIL 0; any other ring that is DISABLED, and one that is STOPPING, stays with an access fault; an
ACTIVE or STOPPED one stays. EN 0 makes an ACTIVE or STOPPED ring STOPPING, and DISABLED at once with no operation in
flight; any other stays. A completion ring: EN 1 on a ring that is off with LOG2N 4 to 12 empties it with PHASE 1 and arms
its interrupt, with another LOG2N it stays with an access fault; EN 0 on a ring that is on turns it off where no enabled
command ring names it, else it stays with an access fault; EN as it was changes nothing more. TAIL: a partial write is an
access fault; the TAIL of a ring not ACTIVE is ignored; one at or beyond the ring's size stops the ring with ERR 1;
another is stored. HEAD: a partial write is an access fault; a whole one is stored and arms the interrupt again. In D3hot
both are ignored. A fetch with no ring to serve changes nothing; else it takes the next descriptor of the ring whose turn
it is and advances HEAD, and a refused one ends at once with its status. FUNCTION_LEVEL_RESET and DL_DOWN reset the host
interface with cause 5 (12 R333 to R339, R344). The first clauses say of each command that, whatever its operands within
their range, it answers the next state of its own operation where its part of the block runs (a register row: where the
write is taken; a packet row: where the station holds the packet). -/
def Obligations.HostRings : Prop :=
  (∀ (s : State) (m : Master) (ring val be q : Nat), val < 2 ^ 32 → beOk m be = true →
    (takesWrite s m .HST_CR ring F.HST_CR_EN.word = true → exec (.crEnWrite m ring val be) s = .next (finish s (crWrite (wrote s
      m .HST_CR ring F.HST_CR_EN.word) m ring F.HST_CR_EN.word val be))) ∧
    (takesWrite s m .HST_CQ q F.HST_CQ_EN.word = true → exec (.cqEnWrite m q val be) s = .next (finish s (cqWrite (wrote s m
      .HST_CQ q F.HST_CQ_EN.word) m q F.HST_CQ_EN.word val be)))) ∧
  (∀ (s : State) (ring val be q : Nat), liveRuns s = true → ring < 128 → val < 2 ^ 32 → be < 16 → q < 128 →
    exec (.tail ring val be) s = .next (finish s (if s.host.pcie.dstate = 3 then s else tailWrite s ring val be)) ∧
    exec (.head q val be) s = .next (finish s (if s.host.pcie.dstate = 3 then s else headWrite s q val be))) ∧
  (∀ (s u : State) (words : List Word) (at_ : Nat), u = s.advance at_ → liveRuns u = true →
    exec (.descriptorFetch words at_) s = .next (finish u (fetchDescriptor u words))) ∧
  (∀ (s u : State) (ev : BootEv) (at_ : Nat), u = s.advance at_ → chipOn u = true →
    exec (.functionLevelReset ev at_) s = .next (finish u (settleSite ev (hostReset (resetTaken u 5 none)))) ∧
    exec (.dlDown ev at_) s = .next (finish u (settleSite ev (hostReset (resetTaken u 5 none))))) ∧
  (∀ (s c d : State) (m : Master) (r val be off : Nat), val < 2 ^ 32 → beOk m be = true → takesWrite s m .HST_CR r 0 = true →
    c = wrote s m .HST_CR r 0 → off = regOff .HST_CR r →
    d = guardedWrite c m .HST_CR r 0 val be (fun f => c.rd F.HST_CR_STATE r != 0 && crLocked f) (· == F.HST_CR_EN) →
    (bitAt be 3 = false → exec (.crEnWrite m r val be) s = .next (finish s d)) ∧
    (bitAt be 3 = true → bitAt val 31 = true → c.rd F.HST_CR_STATE r = 0 → 4 ≤ d.rd F.HST_CR_LOG2N r → d.rd F.HST_CR_LOG2N r ≤ 12 →
      d.flag F.HST_CQ_EN (d.rd F.HST_CR_CQ r) = true →
      exec (.crEnWrite m r val be) s = .next (finish s
        (((((d.wr F.HST_CR_EN r 1).wr F.HST_CR_STATE r 1).wr F.HST_CR_ERR r 0).wr F.HST_CR_HEAD r 0).wr F.HST_CR_TAIL r 0))) ∧
    (bitAt be 3 = true → bitAt val 31 = true → c.rd F.HST_CR_STATE r = 0 →
      (d.rd F.HST_CR_LOG2N r < 4 ∨ 12 < d.rd F.HST_CR_LOG2N r ∨ d.flag F.HST_CQ_EN (d.rd F.HST_CR_CQ r) = false) →
      exec (.crEnWrite m r val be) s = .next (finish s (d.accessFault m 1 off))) ∧
    (bitAt be 3 = true → bitAt val 31 = true → c.rd F.HST_CR_STATE r = 2 →
      exec (.crEnWrite m r val be) s = .next (finish s (d.accessFault m 1 off))) ∧
    (bitAt be 3 = true → bitAt val 31 = true → (c.rd F.HST_CR_STATE r = 1 ∨ c.rd F.HST_CR_STATE r = 3) →
      exec (.crEnWrite m r val be) s = .next (finish s d)) ∧
    (bitAt be 3 = true → bitAt val 31 = false → (c.rd F.HST_CR_STATE r = 1 ∨ c.rd F.HST_CR_STATE r = 3) →
      exec (.crEnWrite m r val be) s = .next (finish s (settleRing ((d.wr F.HST_CR_EN r 0).wr F.HST_CR_STATE r 2) r))) ∧
    (bitAt be 3 = true → bitAt val 31 = false → (c.rd F.HST_CR_STATE r = 0 ∨ c.rd F.HST_CR_STATE r = 2) →
      exec (.crEnWrite m r val be) s = .next (finish s d))) ∧
  (∀ (s c d e : State) (m : Master) (q val be off : Nat), val < 2 ^ 32 → beOk m be = true → takesWrite s m .HST_CQ q 0 = true →
    c = wrote s m .HST_CQ q 0 → off = regOff .HST_CQ q →
    d = guardedWrite c m .HST_CQ q 0 val be (fun f => c.flag F.HST_CQ_EN q && cqLocked f) (· == F.HST_CQ_EN) →
    e = (((d.wr F.HST_CQ_EN q 1).wr F.HST_CQ_HEAD q 0).wr F.HST_CQ_TAIL q 0).wr F.HST_CQ_PHASE q 1 →
    ((bitAt be 3 = false ∨ bitAt val 31 = c.flag F.HST_CQ_EN q) →
      exec (.cqEnWrite m q val be) s = .next (finish s (cqIrq d q))) ∧
    (bitAt be 3 = true → bitAt val 31 = true → c.flag F.HST_CQ_EN q = false → 4 ≤ d.rd F.HST_CQ_LOG2N q → d.rd F.HST_CQ_LOG2N q ≤ 12 →
      exec (.cqEnWrite m q val be) s =
        .next (finish s (cqIrq (arm { e with host := { e.host with written := mdel e.host.written q } } q) q))) ∧
    (bitAt be 3 = true → bitAt val 31 = true → c.flag F.HST_CQ_EN q = false → (d.rd F.HST_CQ_LOG2N q < 4 ∨ 12 < d.rd F.HST_CQ_LOG2N q) →
      exec (.cqEnWrite m q val be) s = .next (finish s (cqIrq (d.accessFault m 1 off) q))) ∧
    (bitAt be 3 = true → bitAt val 31 = false → c.flag F.HST_CQ_EN q = true →
      ((List.range 128).any fun r => d.flag F.HST_CR_EN r && d.rd F.HST_CR_CQ r == q) = true →
      exec (.cqEnWrite m q val be) s = .next (finish s (cqIrq (d.accessFault m 1 off) q))) ∧
    (bitAt be 3 = true → bitAt val 31 = false → c.flag F.HST_CQ_EN q = true →
      ((List.range 128).any fun r => d.flag F.HST_CR_EN r && d.rd F.HST_CR_CQ r == q) = false →
      exec (.cqEnWrite m q val be) s = .next (finish s (cqIrq (d.wr F.HST_CQ_EN q 0) q)))) ∧
  (∀ (s : State) (r val be : Nat), r < 128 → val < 2 ^ 32 → be < 16 → liveRuns s = true →
    (s.host.pcie.dstate = 3 → exec (.tail r val be) s = .next (finish s s) ∧ exec (.head r val be) s = .next (finish s s)) ∧
    (s.host.pcie.dstate ≠ 3 → be ≠ 15 →
      exec (.tail r val be) s = .next (finish s (doorbellFault s)) ∧ exec (.head r val be) s = .next (finish s (doorbellFault s))) ∧
    (s.host.pcie.dstate ≠ 3 → be = 15 →
      (s.rd F.HST_CR_STATE r ≠ 1 → exec (.tail r val be) s = .next (finish s s)) ∧
      (s.rd F.HST_CR_STATE r = 1 → 2 ^ s.rd F.HST_CR_LOG2N r ≤ val % 4096 →
        exec (.tail r val be) s = .next (finish s (stopRing s r 1))) ∧
      (s.rd F.HST_CR_STATE r = 1 → val % 4096 < 2 ^ s.rd F.HST_CR_LOG2N r →
        exec (.tail r val be) s = .next (finish s (s.wr F.HST_CR_TAIL r (val % 4096)))) ∧
      exec (.head r val be) s = .next (finish s (cqIrq (arm (s.wr F.HST_CQ_HEAD r (val % 4096)) r) r)))) ∧
  (∀ (s u : State) (ws : List Word) (at_ : Nat), u = s.advance at_ → liveRuns u = true → fetchRing u = none →
    exec (.descriptorFetch ws at_) s = .next (finish u u)) ∧
  (∀ (s u d e : State) (ws : List Word) (at_ r st : Nat), u = s.advance at_ → liveRuns u = true → fetchRing u = some r →
    st = fetchStatus u ⟨r, ws.take 16, 0, 0, 0, 0, 0, false⟩ →
    d = u.wr F.HST_CR_HEAD r ((u.rd F.HST_CR_HEAD r + 1) % 2 ^ u.rd F.HST_CR_LOG2N r) →
    e = { d with host := { d.host with
      ops := mput d.host.ops u.host.nextOp ⟨r, ws.take 16, 0, 0, 0, 0, 0, false⟩, nextOp := u.host.nextOp + 1, rr := r } } →
    (st = 0 → exec (.descriptorFetch ws at_) s = .next (finish u e)) ∧
    (st ≠ 0 → exec (.descriptorFetch ws at_) s = .next (finish u (hostDone e u.host.nextOp st 0 0 0)))) ∧
  ∀ (s u : State) (ev : BootEv) (at_ : Nat), u = s.advance at_ → chipOn u = true →
    exec (.functionLevelReset ev at_) s = .next (finish u (settleSite ev (hostReset (resetTaken u 5 none)))) ∧
    exec (.dlDown ev at_) s = .next (finish u (settleSite ev (hostReset (resetTaken u 5 none))))

/-- Operations of the host, with the next state whole. One that is not there or may not start changes nothing. One that starts
is marked started, and with a reserved bit in its descriptor ends with 0x80. NOP ends with 0. RECV_POST joins the receive
pool, ending with 0x85 without a host endpoint and with 0x86 in a full pool. REG_READ and REG_WRITE wait under a core warm
reset for the words of its blocks, end with 0x80 out of range, read the words and write them to host memory, and write the
words up to the first access fault, then ending with 0x84, the count and the offset. DMA to the pool of no bytes ends with
0, under a pool reset with 0x0D; refused it ends with its code and address, else it moves its lines in rising order and
ends with how far it got. MIGRATE queues a page move, under a pool reset ending with 0x0D. TEL_DUMP asks for a dump.
ROOM_EXPORT of an area that is reserved ends with 0x0C, beyond the area or not in lines with 0x14, beyond what is
committed with 0x15, of no bytes with 0 and under a pool reset with 0x0D; else it counts the read, writes the lines read
to host memory and ends with their size. GROUP_OP goes to the station. FABRIC_SEND ends with 0x85 without a host endpoint,
with 0x80 for a VC, a length or a destination it may not have, else it puts its packet's cells on the host path (12 R337,
R338, R345 to R353). The first clauses say of each command that, whatever its operands within their range, it answers the
next state of its own operation where its part of the block runs (a register row: where the write is taken; a packet row:
where the station holds the packet). -/
def Obligations.HostOperations : Prop :=
  (∀ (s u : State) (n at_ : Nat) (words : List Word) (ev : BootEv), u = s.advance at_ → liveRuns u = true →
    exec (.nop n at_) s = .next (finish u (opNop u n)) ∧
    exec (.recvPost n at_) s = .next (finish u (opRecvPost u n)) ∧
    exec (.regRead n at_) s = .next (finish u (opRegRead u n)) ∧
    exec (.regWrite n words ev at_) s = .next (finish u (settleSite ev (opRegWrite u n words ev)))) ∧
  (∀ (s u : State) (n at_ : Nat) (data payload : List Byte) (evs : List LineEv) (bad fail : Option Nat), u = s.advance at_ →
    coreRuns u = true →
    exec (.dma n data evs bad at_) s = .next (finish u (opDma u n data evs bad)) ∧
    exec (.migrate n at_) s = .next (finish u (opMigrate u n)) ∧
    exec (.roomExport n evs at_) s = .next (finish u (opRoomExport u n evs)) ∧
    exec (.telDump n fail at_) s = .next (finish u (opTelDump u n fail)) ∧
    exec (.groupOp n at_) s = .next (finish u (opGroup u n)) ∧
    exec (.fabricSend n payload at_) s = .next (finish u (settleSwitch (opFabricSend u n payload)))) ∧
  (∀ (s u : State) (n at_ : Nat) (ws : List Word) (pl bs : List Byte) (evs : List LineEv) (ev : BootEv) (fail bad : Option Nat),
    u = s.advance at_ → coreRuns u = true → (∀ o : HostOp, mget u.host.ops n = some o → canStart u n = false) →
    (liveRuns u = true → exec (.nop n at_) s = .next (finish u u) ∧ exec (.recvPost n at_) s = .next (finish u u) ∧
      exec (.regRead n at_) s = .next (finish u u) ∧ exec (.regWrite n ws ev at_) s = .next (finish u (settleSite ev u))) ∧
    exec (.dma n bs evs bad at_) s = .next (finish u u) ∧ exec (.migrate n at_) s = .next (finish u u) ∧
    exec (.roomExport n evs at_) s = .next (finish u u) ∧ exec (.telDump n fail at_) s = .next (finish u u) ∧
    exec (.groupOp n at_) s = .next (finish u u) ∧ exec (.fabricSend n pl at_) s = .next (finish u (settleSwitch u))) ∧
  (∀ (s u d x : State) (n at_ : Nat) (o : HostOp) (ws : List Word) (ev : BootEv), u = s.advance at_ → liveRuns u = true →
    mget u.host.ops n = some o → canStart u n = true → d = modOp1 u n (fun o => { o with stage := 1 }) →
    x = hostDone d n 0x80 0 0 0 →
    (opKind o = 15 → wordsReserved 15 o.words = true → exec (.nop n at_) s = .next (finish u x)) ∧
    (opKind o = 15 → wordsReserved 15 o.words = false → exec (.nop n at_) s = .next (finish u (hostDone d n 0 0 0 0))) ∧
    (opKind o = 9 → wordsReserved 9 o.words = true → exec (.recvPost n at_) s = .next (finish u x)) ∧
    (opKind o = 9 → wordsReserved 9 o.words = false → d.hostEpOn = false →
      exec (.recvPost n at_) s = .next (finish u (hostDone d n 0x85 0 0 0))) ∧
    (opKind o = 9 → wordsReserved 9 o.words = false → d.hostEpOn = true → 4096 ≤ d.host.recv.length →
      exec (.recvPost n at_) s = .next (finish u (hostDone d n 0x86 0 0 0))) ∧
    (opKind o = 9 → wordsReserved 9 o.words = false → d.hostEpOn = true → d.host.recv.length < 4096 →
      exec (.recvPost n at_) s = .next (finish u { d with host := { d.host with recv := d.host.recv ++ [n] } })) ∧
    (regHeld u o.words = true → exec (.regRead n at_) s = .next (finish u u) ∧
      exec (.regWrite n ws ev at_) s = .next (finish u (settleSite ev u))) ∧
    (regHeld u o.words = false → opKind o = 3 → (wordsReserved 3 o.words = true ∨ regRange o.words = false) →
      exec (.regRead n at_) s = .next (finish u x)) ∧
    (regHeld u o.words = false → opKind o = 3 → wordsReserved 3 o.words = false → regRange o.words = true → dW o.words 2 ≠ 0 →
      exec (.regRead n at_) s = .next (finish u (hostDone
        ((regReads (dW o.words 2) (dW o.words 1) d).2.emit (.hostWrite (hostAddr o.words)
          ((regReads (dW o.words 2) (dW o.words 1) d).1.flatMap (leBytes 4)))) n 0 0 (dW o.words 2) 0))) ∧
    (regHeld u o.words = false → opKind o = 2 → (wordsReserved 2 o.words = true ∨ regRange o.words = false) →
      exec (.regWrite n ws ev at_) s = .next (finish u (settleSite ev x))) ∧
    ∀ (k : Nat) (t : State), regHeld u o.words = false → opKind o = 2 → wordsReserved 2 o.words = false → regRange o.words = true →
      (regWrites ev (dW o.words 1) 0 ((List.range (dW o.words 2)).map fun i => ws.getD i 0) d = ((k, none), t) →
        exec (.regWrite n ws ev at_) s = .next (finish u (settleSite ev (hostDone t n 0 0 k 0)))) ∧
      ∀ off : Nat,
        regWrites ev (dW o.words 1) 0 ((List.range (dW o.words 2)).map fun i => ws.getD i 0) d = ((k, some off), t) →
        exec (.regWrite n ws ev at_) s = .next (finish u (settleSite ev (hostDone t n 0x84 0 k off)))) ∧
  (∀ (s u d x p : State) (n at_ src : Nat) (o : HostOp) (data : List Byte) (evs : List LineEv) (bad fail : Option Nat),
    u = s.advance at_ → coreRuns u = true → mget u.host.ops n = some o → canStart u n = true →
    d = modOp1 u n (fun o => { o with stage := 1 }) → x = hostDone d n 0x80 0 0 0 → src = poolAddr o.words 4 →
    p = hostDone d n 0x0D 0 0 0 →
    (opKind o = 4 → dW o.words 1 % 4 = 0 → lineWaits u src (dW o.words 2) true = true →
      exec (.dma n data evs bad at_) s = .next (finish u u)) ∧
    (opKind o = 4 → dW o.words 1 % 4 = 0 → lineWaits u src (dW o.words 2) true = false →
      (wordsReserved 4 o.words = true ∨ dW o.words 6 ≠ 0 ∨ dW o.words 7 ≠ 0) →
      exec (.dma n data evs bad at_) s = .next (finish u x)) ∧
    (opKind o = 4 → dW o.words 1 % 4 = 0 → lineWaits u src (dW o.words 2) true = false → wordsReserved 4 o.words = false →
      dW o.words 6 = 0 → dW o.words 7 = 0 →
      (dW o.words 2 = 0 → exec (.dma n data evs bad at_) s = .next (finish u (hostDone d n 0 0 0 0))) ∧
      (dW o.words 2 ≠ 0 → d.well.poolUntil.isSome = true →
        exec (.dma n data evs bad at_) s = .next (finish u (hostDone d n 0x0D 0 0 src))) ∧
      (∀ c a : Nat, dW o.words 2 ≠ 0 → d.well.poolUntil = none →
        dmaCode d 0 src (poolAddr o.words 6) (dW o.words 2) = (c, a) → c ≠ 0 →
        exec (.dma n data evs bad at_) s = .next (finish u (hostDone d n c 0 0 a))) ∧
      ∀ (r : DmaOut) (t : State), dW o.words 2 ≠ 0 → d.well.poolUntil = none →
        dmaCode d 0 src (poolAddr o.words 6) (dW o.words 2) = (0, 0) →
        dmaLines 0 src (poolAddr o.words 6) evs bad (dW o.words 2 / 64) data ⟨0, 0, 0, []⟩ d = (r, t) →
        exec (.dma n data evs bad at_) s = .next (finish u (hostDone t n r.code 0 (64 * r.lines) r.addr))) ∧
    (opKind o = 5 → wordsReserved 5 o.words = true → exec (.migrate n at_) s = .next (finish u x)) ∧
    (opKind o = 5 → wordsReserved 5 o.words = false → d.well.poolUntil.isSome = true →
      exec (.migrate n at_) s = .next (finish u p)) ∧
    (opKind o = 5 → wordsReserved 5 o.words = false → d.well.poolUntil = none → exec (.migrate n at_) s = .next (finish u
      (migQueue d ⟨n, src, poolAddr o.words 6, dW o.words 1 % 2 == 1, dW o.words 2, 0⟩))) ∧
    (opKind o = 7 → wordsReserved 7 o.words = true → exec (.telDump n fail at_) s = .next (finish u x)) ∧
    (opKind o = 7 → wordsReserved 7 o.words = false → exec (.telDump n fail at_) s = .next (finish u (dumpAsk d
      ⟨dW o.words 1 % 128, bitAt (dW o.words 1) 8, some n, hostAddr o.words, dW o.words 2, 0, none, false⟩ fail))) ∧
    (opKind o = 1 → bits (dW o.words 0) 16 11 ≠ 0 → exec (.groupOp n at_) s = .next (finish u x)) ∧
    (opKind o = 1 → bits (dW o.words 0) 16 11 = 0 →
      exec (.groupOp n at_) s = .next (finish u (settleGroups (Sys2Proof.Machine.groupOp d n o.words))))) ∧
  (∀ (s u d : State) (n at_ base lim cmt from_ size : Nat) (o : HostOp) (evs : List LineEv), u = s.advance at_ → coreRuns u = true →
    mget u.host.ops n = some o → canStart u n = true → d = modOp1 u n (fun o => { o with stage := 1 }) → opKind o = 6 →
    exportArea u (bits (dW o.words 1) 16 7) (bits (dW o.words 1) 31 1) (bits (dW o.words 1) 28 2) = (base, lim, cmt) →
    size = dW o.words 2 → from_ = dW o.words 3 * 64 → lineWaits u (base + from_) size false = false →
    (wordsReserved 6 o.words = true → exec (.roomExport n evs at_) s = .next (finish u (hostDone d n 0x80 0 0 0))) ∧
    (wordsReserved 6 o.words = false →
      (d.well.poolUntil.isSome = true → exec (.roomExport n evs at_) s = .next (finish u (hostDone d n 0x0D 0 0 0))) ∧
      (d.well.poolUntil = none →
        (2 ≤ bits (dW o.words 1) 28 2 → exec (.roomExport n evs at_) s = .next (finish u (hostDone d n 0x0C 0 0 0))) ∧
        (bits (dW o.words 1) 28 2 < 2 →
          (size = 0 → exec (.roomExport n evs at_) s = .next (finish u (hostDone d n 0 0 0 0))) ∧
          (size ≠ 0 → (size % 64 ≠ 0 ∨ lim < from_ + size) →
            exec (.roomExport n evs at_) s = .next (finish u (hostDone d n 0x14 0 0 (base + from_)))) ∧
          (size ≠ 0 → size % 64 = 0 → from_ + size ≤ lim → cmt < from_ + size →
            exec (.roomExport n evs at_) s = .next (finish u (hostDone d n 0x15 0 0 (base + from_)))) ∧
          ∀ (a : Nat) (bs : List Byte) (t : State), size ≠ 0 → size % 64 = 0 → from_ + size ≤ lim → from_ + size ≤ cmt →
            readLines evs (linesOf (base + from_) size)
              (countPages (countAccess d 0 0 4 (base + from_) size) (base + from_) size) = ((0, a, bs), t) →
            exec (.roomExport n evs at_) s = .next (finish u (hostDone
              ((t.cntW 25 size).emit (.hostWrite (hostAddr o.words) (bs.take size))) n 0 0 size 0)))))) ∧
  ∀ (s u d : State) (n at_ vc len : Nat) (o : HostOp) (h : Header) (pl : List Byte), u = s.advance at_ → coreRuns u = true →
    mget u.host.ops n = some o → canStart u n = true → d = modOp1 u n (fun o => { o with stage := 1 }) → opKind o = 8 →
    vc = bits (dW o.words 1) 27 3 → len = dW o.words 2 % 2 ^ 13 →
    h = mkHdr 0x50 (dW o.words 1 % 2 ^ 20) vc d.hostEid len 0 (dW o.words 6) (dW o.words 3) (dW o.words 4) (dW o.words 5) →
    (wordsReserved 8 o.words = true →
      exec (.fabricSend n pl at_) s = .next (finish u (settleSwitch (hostDone d n 0x80 0 0 0)))) ∧
    (wordsReserved 8 o.words = false → d.hostEpOn = false →
      exec (.fabricSend n pl at_) s = .next (finish u (settleSwitch (hostDone d n 0x85 0 0 0)))) ∧
    (wordsReserved 8 o.words = false → d.hostEpOn = true → (¬ (vc = 3 ∨ vc = 7) ∨ 4096 < len ∨ 1 < eidKind (dW o.words 1 % 2 ^ 20)) →
      exec (.fabricSend n pl at_) s = .next (finish u (settleSwitch (hostDone d n 0x80 0 0 0)))) ∧
    (wordsReserved 8 o.words = false → d.hostEpOn = true → (vc = 3 ∨ vc = 7) → len ≤ 4096 →
      eidKind (dW o.words 1 % 2 ^ 20) ≤ 1 →
      exec (.fabricSend n pl at_) s = .next (finish u (settleSwitch (settleSends (modOp1
        ((mkCells { h with w1 := wput h.w1 27 1 (bits (dW o.words 1) 31 1), w2 := wput h.w2 16 16 (bits (dW o.words 2) 16 16) }
          (pl.take len ++ List.replicate (len - pl.length) 0)).foldl (fun s c => receiveCell s 160 c) d)
        n fun o => { o with addr := d.sw.nextPid + 1 })))))

/-- Completions and deliveries, with the next state whole. The entry of a finished operation, the oldest held one first, is
written where its completion ring has room; without room it is held, the first to be so setting FULL with kind 0x02; with
none finished nothing changes. A ring whose interrupt is enabled and armed and whose count is reached sends its MSI-X
vector and is armed no more; a ring without an armed interrupt does nothing. The host path's oldest packet goes into the
oldest receive buffer; without one it is discarded with 0x26, one that is no FABRIC_SEND with 0x27; with none there the
path gathers its cells. A failed read of host memory for a REG_WRITE, a FABRIC_SEND or a DMA to the pool that may start
ends it with status 0x82, logged with kind 0x06; for a GROUP_OP in progress it is logged; for a descriptor it stops the
ring whose turn it is (12 R331, R341 to R344, R353, R354). The first clauses say of each command that, whatever its
operands within their range, it answers the next state of its own operation where its part of the block runs (a register
row: where the write is taken; a packet row: where the station holds the packet). -/
def Obligations.HostCompletions : Prop :=
  (∀ (s u : State) (q at_ addr cause : Nat) (op : Option Nat), u = s.advance at_ → liveRuns u = true → q < 128 → cause < 4 →
    exec (.completionWrite q at_) s = .next (finish u (completionWrite u q)) ∧
    exec (.cqIrqTimer q at_) s = .next (finish u (cqIrq u q)) ∧
    exec (.hostReadFail op ⟨addr, cause⟩ at_) s = .next (finish u (settleGroups (hostReadFail u op addr cause)))) ∧
  (∀ (s u : State) (at_ : Nat), u = s.advance at_ → coreRuns u = true →
    exec (.hostPathDeliver at_) s = .next (finish u (hostDeliver u))) ∧
  (∀ (s u : State) (q at_ : Nat), u = s.advance at_ → liveRuns u = true → q < 128 →
    (∀ (n : Nat) (o : HostOp), cqHasRoom u q = true → (heldOf u q).head? = some n → mget u.host.ops n = some o →
      exec (.completionWrite q at_) s = .next (finish u (writeEntry u q n o))) ∧
    (∀ (n : Nat) (o : HostOp), cqHasRoom u q = true → heldOf u q = [] →
      (u.host.ready.find? fun n => (mget u.host.ops n).any fun o => o.stage == 2 && opCq u o == q) = some n →
      mget u.host.ops n = some o → exec (.completionWrite q at_) s = .next (finish u (writeEntry u q n o))) ∧
    (cqHasRoom u q = true → heldOf u q = [] →
      (u.host.ready.find? fun n => (mget u.host.ops n).any fun o => o.stage == 2 && opCq u o == q) = none →
      exec (.completionWrite q at_) s = .next (finish u u)) ∧
    (cqHasRoom u q = false →
      (u.host.ready.find? fun n => (mget u.host.ops n).any fun o => o.stage == 2 && opCq u o == q) = none →
      exec (.completionWrite q at_) s = .next (finish u u)) ∧
    ∀ (n : Nat) (d : State), cqHasRoom u q = false →
      (u.host.ready.find? fun n => (mget u.host.ops n).any fun o => o.stage == 2 && opCq u o == q) = some n →
      d = modOp1 u n (fun o => { o with stage := 3 }) →
      (d.flag F.HST_CQ_FULL q = true → exec (.completionWrite q at_) s = .next (finish u d)) ∧
      (d.flag F.HST_CQ_FULL q = false →
        exec (.completionWrite q at_) s = .next (finish u (hstFault (d.wr F.HST_CQ_FULL q 1) 2 q)))) ∧
  (∀ (s u : State) (q at_ : Nat), u = s.advance at_ → liveRuns u = true → q < 128 →
    (u.flag F.HST_CQ_EN q = true → u.flag F.HST_CQ_IRQ_EN q = true → u.host.armed.contains q = true → u.rd F.HST_CQ_CNT q ≠ 0 →
      u.rd F.HST_CQ_CNT q ≤ cqPending u q →
      exec (.cqIrqTimer q at_) s = .next (finish u (sendMsix
        { u with host := { u.host with armed := u.host.armed.filter (· != q) } } (u.rd F.HST_CQ_VEC q)))) ∧
    ((u.flag F.HST_CQ_EN q = false ∨ u.flag F.HST_CQ_IRQ_EN q = false ∨ u.host.armed.contains q = false) →
      exec (.cqIrqTimer q at_) s = .next (finish u u))) ∧
  (∀ (s u : State) (at_ : Nat), u = s.advance at_ → coreRuns u = true → u.sw.hostQ = [] →
    exec (.hostPathDeliver at_) s = .next (finish u (hostCollect u))) ∧
  (∀ (s u d : State) (p : HostPkt) (ps : List HostPkt) (at_ : Nat), u = s.advance at_ → coreRuns u = true →
    u.sw.hostQ = p :: ps → p.mir = none → p.res = none → d = hostCollect (modSw u fun w => { w with hostQ := ps }) →
    (p.pkt.hdr.opcode ≠ 0x50 →
      exec (.hostPathDeliver at_) s = .next (finish u (hostDiscard d p.pkt.arr p.pkt.hdr.vc 0x27))) ∧
    (p.pkt.hdr.opcode = 0x50 → d.host.recv = [] →
      exec (.hostPathDeliver at_) s = .next (finish u (hostDiscard d p.pkt.arr p.pkt.hdr.vc 0x26))) ∧
    ∀ (n : Nat) (ns : List Nat), p.pkt.hdr.opcode = 0x50 → d.host.recv = n :: ns →
      exec (.hostPathDeliver at_) s = .next (finish u (hostDone
        (({ d with host := { d.host with recv := ns } } : State).emit
          (.hostWrite (((mget d.host.ops n).map fun o => hostAddr o.words).getD 0) (p.pkt.hdr.words.flatMap wbytes ++ p.pkt.data)))
        n 0 0 p.pkt.hdr.len 0))) ∧
  (∀ (s u : State) (n at_ addr cause : Nat) (o : HostOp), cause < 4 → u = s.advance at_ → liveRuns u = true → mget u.host.ops n = some o →
    (opKind o = 1 → o.stage = 1 →
      exec (.hostReadFail (some n) ⟨addr, cause⟩ at_) s = .next (finish u (settleGroups (readFault u cause addr)))) ∧
    (canStart u n = true → (opKind o = 2 ∨ opKind o = 8 ∨ opKind o = 4 ∧ dW o.words 1 % 4 = 0) →
      wordsReserved (opKind o) o.words = false →
      exec (.hostReadFail (some n) ⟨addr, cause⟩ at_) s = .next (finish u (settleGroups
        (hostDone (readFault (modOp1 u n fun o => { o with stage := 1 }) cause addr) n 0x82 0 0 0))))) ∧
  ∀ (s u : State) (at_ addr cause : Nat), cause < 4 → u = s.advance at_ → liveRuns u = true →
    (fetchRing u = none → exec (.hostReadFail none ⟨addr, cause⟩ at_) s = .next (finish u (settleGroups u))) ∧
    ∀ r : Nat, fetchRing u = some r →
      exec (.hostReadFail none ⟨addr, cause⟩ at_) s = .next (finish u (settleGroups (stopRing
        (readFault { u with host := { u.host with rr := r } } cause
          (u.rd F.HST_CR_BASE_HI r * 2 ^ 32 + u.rd F.HST_CR_BASE_LO r * 2 ^ 12 + 64 * u.rd F.HST_CR_HEAD r)) r 2)))

/-- Commits, with the next state whole. ISSUE records its master; by a master that is not the semaphore's holder it ends with
result 5 and kind 0x04; where the boundary is refused it ends with result 4 and TIM_CMT_STAT's reason, where a check fails
with result 6, the check, the register's offset and fault kind 0x04, else it pends with its mode and boundary and result
1. REVERT is an access fault while a commit pends, else it copies every live value back and clears DIRTY. CANCEL withdraws
a pending commit whose boundary has not come with result 3, and otherwise changes nothing. The take-effect row changes
nothing before the boundary; then the commit no longer pends, and where a check fails now it ends with result 7, the
check, the offset and kind 0x05, else its effects happen, it ends with result 2 and counts TAKEN (13 R376 to R379, 05
R145, R146). The first clauses say of each command that, whatever its operands within their range, it answers the next
state of its own operation where its part of the block runs (a register row: where the write is taken; a packet row: where
the station holds the packet). -/
def Obligations.Commits : Prop :=
  (∀ (s : State) (m : Master),
    (takesWrite s m .GLB_CMT 0 0 = true → exec (.issue m) s = .next (finish s (cmtWrite (wrote s m .GLB_CMT 0 0) m 1 15))) ∧
    (takesWrite s m .GLB_CMT 0 0 = true → exec (.revert m) s = .next (finish s (cmtWrite (wrote s m .GLB_CMT 0 0) m 2 15))) ∧
    (takesWrite s m .TIM_CMT_WHEN 0 0 = true → exec (.cancel m) s = .next (finish s (cancelWrite (wrote s m .TIM_CMT_WHEN 0
      0))))) ∧
  (∀ (s u : State) (ev : BootEv) (at_ : Nat), u = s.advance at_ → coreRuns u = true →
    exec (.commitTakeEffect ev at_) s = .next (finish u (siteAfterCommit ev u (settleSwitch (takeCommit u))))) ∧
  (∀ (s c d : State) (m : Master), takesWrite s m .GLB_CMT 0 0 = true → c = wrote s m .GLB_CMT 0 0 →
    d = c.wr0 F.GLB_CMT_STAT_MASTER (masterCode m) →
    (semHolder d ≠ masterCode m →
      exec (.issue m) s = .next (finish s ((cmtResult d 5 0).report 3 4 (masterCode m) (masterCode m) 3))) ∧
    (∀ why : Nat, semHolder d = masterCode m → commitBoundary d (d.rd0 F.TIM_CMT_WHEN_MODE) = .inr why →
      exec (.issue m) s = .next (finish s ((cmtResult d 4 0).wr0 F.TIM_CMT_STAT_RESULT why))) ∧
    (∀ b k off : Nat, semHolder d = masterCode m → commitBoundary d (d.rd0 F.TIM_CMT_WHEN_MODE) = .inl b →
      firstCheck d (atShadows d) issueChecks = some (k, off) →
      exec (.issue m) s = .next (finish s
        (((cmtResult d 6 k).wr0 F.GLB_CMT_OFS_OFFSET off).report 0 4 off (masterCode m) 3))) ∧
    ∀ b : Nat, semHolder d = masterCode m → commitBoundary d (d.rd0 F.TIM_CMT_WHEN_MODE) = .inl b →
      firstCheck d (atShadows d) issueChecks = none →
      exec (.issue m) s = .next (finish s
        { (cmtResult d 1 0).wr0 F.TIM_CMT_STAT_PENDING 1 with commit := some ⟨d.rd0 F.TIM_CMT_WHEN_MODE, b, m⟩ })) ∧
  (∀ (s c : State) (m : Master), takesWrite s m .GLB_CMT 0 0 = true → c = wrote s m .GLB_CMT 0 0 →
    (c.commit.isSome = true → exec (.revert m) s = .next (finish s (c.accessFault m 3 (regOff .GLB_CMT 0)))) ∧
    (c.commit = none → exec (.revert m) s = .next (finish s
      (({ c with regs := { c.regs with shadow := c.regs.live } } : State).wr0 F.GLB_SEM_DIRTY 0)))) ∧
  (∀ (s c : State) (m : Master), takesWrite s m .TIM_CMT_WHEN 0 0 = true → c = wrote s m .TIM_CMT_WHEN 0 0 →
    ((c.commit = none ∨ c.commit.any (boundaryReached c) = true) → exec (.cancel m) s = .next (finish s c)) ∧
    ∀ k : PendCommit, c.commit = some k → boundaryReached c k = false →
      exec (.cancel m) s = .next (finish s
        ((((({ c with commit := none } : State).wr0 F.TIM_CMT_STAT_PENDING 0).wr0 F.TIM_CMT_STAT_RESULT 2).wr0
          F.GLB_CMT_STAT_RESULT 3)))) ∧
  (∀ (s u : State) (ev : BootEv) (at_ : Nat), u = s.advance at_ → coreRuns u = true →
    (u.commit = none ∨ u.commit.any (boundaryReached u) = false) →
    exec (.commitTakeEffect ev at_) s = .next (finish u (siteAfterCommit ev u (settleSwitch u)))) ∧
  ∀ (s u c d : State) (ev : BootEv) (at_ : Nat) (k : PendCommit), u = s.advance at_ → coreRuns u = true → u.commit = some k →
    boundaryReached u k = true → c = ({ u with commit := none } : State).wr0 F.TIM_CMT_STAT_PENDING 0 →
    (∀ n off : Nat, firstCheck u (atShadows u) boundaryChecks = some (n, off) →
      exec (.commitTakeEffect ev at_) s = .next (finish u (siteAfterCommit ev u (settleSwitch
        (((cmtResult c 7 n).wr0 F.GLB_CMT_OFS_OFFSET off).report 0 5 off))))) ∧
    (firstCheck u (atShadows u) boundaryChecks = none →
      d = ((cmtResult (commitEffects c) 2 0).wr0 F.GLB_SEM_DIRTY 0).wr0 F.TIM_CMT_STAT_RESULT 1 →
      exec (.commitTakeEffect ev at_) s = .next (finish u (siteAfterCommit ev u (settleSwitch
        { d.wr0 F.GLB_CMT_STAT_TAKEN ((u.rd0 F.GLB_CMT_STAT_TAKEN + 1) % 65536) with passCut := true }))))

/-- The semaphore and the image's CRC, with the next state whole. A read of GLB_SEM that is free or its reader's own takes it
for its reader with a fresh lease, another's leaves it; each answers the word as it then stands. A write of 1 frees it for
its holder, and from another master is an access fault with kind 0x05. A lease that has run out frees it with kind 0x03;
one that has not, or that has no end, goes on. A pass in which a commit took effect is abandoned. Another leaves its CRC
in CUR; with EN 1 and a CRC that differs from REF it also counts in MCOUNT, and the first time sets MISMATCH with kind
0x06. A parity failure found on the way at a word with parity is reported with kind 0x07, at a word of the collector it
brings the safe state (12 R361, R362, 13 R381 to R383). The first clauses say of each command that, whatever its operands
within their range, it answers the next state of its own operation where its part of the block runs (a register row: where
the write is taken; a packet row: where the station holds the packet). -/
def Obligations.Semaphore : Prop :=
  (∀ (s : State) (m : Master), m.ok = true →
    exec (.semRead m) s = .next (finish s (busRead s m (regOff .GLB_SEM 0)))) ∧
  (∀ (s : State) (m : Master) (ev : BootEv),
    takesWrite s m .GLB_SEM 0 0 = true → exec (.release m ev) s = .next (finish s (settleSite ev (semWrite (wrote s m .GLB_SEM 0
      0) m 1 15)))) ∧
  (∀ (s u : State) (ev : BootEv) (at_ : Nat) (parity : List Nat), u = s.advance at_ → chipOn u = true → parity.all (· < 2 ^ 26)
    = true →
    exec (.semLeaseLapse ev at_) s = .next (finish u (settleSite ev (semLapse u))) ∧
    exec (.configCrcPass ⟨parity, at_⟩) s = .next (finish u (crcPass (parity.foldl parityFound u)))) ∧
  (∀ (s c d : State) (m : Master), m.ok = true → chipOn s = true → mustHold s (regOff .GLB_SEM 0) = false →
    (m = .host → s.host.pcie.dstate ≠ 3) → c = countReg s m false (regOff .GLB_SEM 0) →
    d = (if semHolder c = 0 ∨ semHolder c = masterCode m then semTake c (masterCode m) else c) →
    exec (.semRead m) s = .next (finish s (d.emit (.readData m (regOff .GLB_SEM 0) (readAt d m (regOff .GLB_SEM 0)))))) ∧
  (∀ (s c : State) (m : Master) (ev : BootEv), takesWrite s m .GLB_SEM 0 0 = true → c = wrote s m .GLB_SEM 0 0 →
    (semHolder c = masterCode m →
      exec (.release m ev) s = .next (finish s (settleSite ev
        { (c.wr0 F.GLB_SEM_HOLDER 0).wr0 F.GLB_SEM_HELD 0 with semEnd := none }))) ∧
    (semHolder c ≠ masterCode m →
      exec (.release m ev) s = .next (finish s (settleSite ev
        ((c.accessFault m 1 (regOff .GLB_SEM 0)).report 3 5 (masterCode m) (masterCode m) 2))))) ∧
  (∀ (s u : State) (ev : BootEv) (at_ : Nat), u = s.advance at_ → chipOn u = true →
    (u.semEnd.any (fun t => decide (t ≤ u.now)) = false →
      exec (.semLeaseLapse ev at_) s = .next (finish u (settleSite ev u))) ∧
    (u.semEnd.any (fun t => decide (t ≤ u.now)) = true →
      exec (.semLeaseLapse ev at_) s = .next (finish u (settleSite ev ((semFree u).report 3 3 (semHolder u)))))) ∧
  (∀ (s u d e : State) (at_ : Nat), u = s.advance at_ → chipOn u = true →
    d = u.wr0 F.GLB_CFG_CRC_CUR_CUR (configCrc u) → e = d.bump F.GLB_CFG_CRC_CTRL_MCOUNT 0 →
    (u.passCut = true → exec (.configCrcPass ⟨[], at_⟩) s = .next (finish u { u with passCut := false })) ∧
    (u.passCut = false → (u.flag F.GLB_CFG_CRC_CTRL_EN = false ∨ configCrc u = u.rd0 F.GLB_CFG_CRC_REF_REF) →
      exec (.configCrcPass ⟨[], at_⟩) s = .next (finish u d)) ∧
    (u.passCut = false → u.flag F.GLB_CFG_CRC_CTRL_EN = true → configCrc u ≠ u.rd0 F.GLB_CFG_CRC_REF_REF →
      (e.flag F.GLB_CFG_CRC_CTRL_MISMATCH = true → exec (.configCrcPass ⟨[], at_⟩) s = .next (finish u e)) ∧
      (e.flag F.GLB_CFG_CRC_CTRL_MISMATCH = false →
        exec (.configCrcPass ⟨[], at_⟩) s = .next (finish u
          ((e.wr0 F.GLB_CFG_CRC_CTRL_MISMATCH 1).report 0 6 (regOff .GLB_CFG_CRC_CUR 0)))))) ∧
  ∀ (s u : State) (off at_ : Nat), u = s.advance at_ → chipOn u = true → off < 2 ^ 26 →
    (collectorWord off = false → parityWord off = true →
      exec (.configCrcPass ⟨[off], at_⟩) s = .next (finish u (crcPass (u.report 0 7 off)))) ∧
    (collectorWord off = true →
      exec (.configCrcPass ⟨[off], at_⟩) s = .next (finish u (crcPass (safeEnter u 1 (off % 2 ^ 20)))))

/-- The reset pins and the supplies, with the next state whole. PERST_N low for 100 ns resets the chip cold; shorter or low
already, nothing. PERST_N high where a boot is due starts the chip with what the tray wrote, where REFCLK is there, and
else waits for it; without VDD_AON the pin is not heard, with no boot due it is only high. RECOVERY_N low for 1 us on a
running chip ends Gesta's work and holds it with cause 6, the mailboxes it was busy with waiting; shorter or low already,
nothing; on a chip that does not run the pin is only low. When it rises on a running chip every mailbox that waited
answers 0x07 and Gesta boots, cold where the place is not locked; on another chip the pin is only high, and high already
nothing. REFCLK lost stops ALIVE and takes a running chip's links down with cause 1; returning it starts the waiting boot,
or the existing enabled ports of a running chip; there already, nothing. VDD_AON rises; every supply goes as a cold reset
(11 R313, 14 R398 to R403, 15 R432, 16 R457, 19 R498). The first clauses say of each command that, whatever its operands
within their range, it answers the next state of its own operation where its part of the block runs (a register row: where
the write is taken; a packet row: where the station holds the packet). -/
def Obligations.PinsAndSupplies : Prop :=
  (∀ (s u : State) (lowNs at_ : Nat) (ev : BootEv), u = s.advance at_ →
    exec (.perstNAssert ⟨lowNs, at_⟩) s = .next (finish u (perstAssert u lowNs)) ∧
    exec (.perstNRelease ev at_) s = .next (finish u (perstRelease u ev)) ∧
    exec (.recoveryNAssert ⟨lowNs, at_⟩) s = .next (finish u (recoveryAssert u lowNs)) ∧
    exec (.recoveryNRelease ev at_) s = .next (finish u (recoveryRelease u ev)) ∧
    exec (.refclkLoss at_) s = .next (finish u (settleSwitch (refclkLoss u))) ∧
    exec (.refclkReturn ev at_) s = .next (finish u (refclkReturn u ev)) ∧
    exec (.alwaysOnSupplyUp at_) s = .next (finish u (aonUp u)) ∧
    exec (.supplyRemoval at_) s = .next (finish u (supplyRemoval u))) ∧
  (∀ (s u : State) (lowNs at_ : Nat), u = s.advance at_ →
    (u.pin.perst = true → 100 ≤ lowNs → exec (.perstNAssert ⟨lowNs, at_⟩) s = .next (finish u (coldReset u))) ∧
    ((u.pin.perst = false ∨ lowNs < 100) → exec (.perstNAssert ⟨lowNs, at_⟩) s = .next (finish u u))) ∧
  (∀ (s u d : State) (ev : BootEv) (at_ : Nat) (low : Bool), u = s.advance at_ →
    low = (u.pin.bootDue && !u.pin.perst && !u.pin.epo) →
    d = { u with pin := { u.pin with perst := u.pin.aon, supplies := u.pin.aon, noBoot := u.pin.noBoot || low } } →
    ((u.pin.aon = false ∨ u.pin.bootDue = false) → exec (.perstNRelease ev at_) s = .next (finish u d)) ∧
    (u.pin.aon = true → u.pin.bootDue = true → (trayWrites d ev).pin.refclk = true →
      exec (.perstNRelease ev at_) s = .next (finish u (coldStart (trayWrites d ev) ev))) ∧
    (u.pin.aon = true → u.pin.bootDue = true → (trayWrites d ev).pin.refclk = false →
      exec (.perstNRelease ev at_) s = .next (finish u
        { trayWrites d ev with pin := { (trayWrites d ev).pin with waitClk := true } }))) ∧
  (∀ (s u d : State) (lowNs at_ : Nat), u = s.advance at_ → d = { u with pin := { u.pin with recovery := false } } →
    ((u.pin.recovery = false ∨ lowNs < 1000) → exec (.recoveryNAssert ⟨lowNs, at_⟩) s = .next (finish u u)) ∧
    (u.pin.recovery = true → 1000 ≤ lowNs → chipOn d = false →
      exec (.recoveryNAssert ⟨lowNs, at_⟩) s = .next (finish u d)) ∧
    (u.pin.recovery = true → 1000 ≤ lowNs → chipOn d = true →
      exec (.recoveryNAssert ⟨lowNs, at_⟩) s = .next (finish u
        (modGmc (gmcDown (resetTaken d 6 none)).2 fun g => { g with mbox := (gmcDown d).1 })))) ∧
  (∀ (s u d e : State) (ev : BootEv) (at_ : Nat), u = s.advance at_ → d = { u with pin := { u.pin with recovery := true } } →
    e = (trayWrites d ev).gmc.mbox.foldl (fun s m => mboxRespond s m 7 [] []) (trayWrites d ev) →
    (u.pin.recovery = true → exec (.recoveryNRelease ev at_) s = .next (finish u u)) ∧
    (u.pin.recovery = false → chipOn d = false → exec (.recoveryNRelease ev at_) s = .next (finish u d)) ∧
    (u.pin.recovery = false → chipOn d = true → e.flag F.GLB_PLACE_LOCK = true →
      exec (.recoveryNRelease ev at_) s = .next (finish u (romBoot e false ev))) ∧
    (u.pin.recovery = false → chipOn d = true → e.flag F.GLB_PLACE_LOCK = false →
      exec (.recoveryNRelease ev at_) s = .next (finish u (afterCold (romBoot e true ev) ev)))) ∧
  (∀ (s u d : State) (at_ : Nat), u = s.advance at_ → d = { u with pin := { u.pin with refclk := false, alive := false } } →
    (chipOn u = false → exec (.refclkLoss at_) s = .next (finish u (settleSwitch d))) ∧
    (chipOn u = true →
      exec (.refclkLoss at_) s = .next (finish u (settleSwitch (settleGroups (refclkPorts d 1)))))) ∧
  (∀ (s u d : State) (ev : BootEv) (at_ : Nat), u = s.advance at_ → d = { u with pin := { u.pin with refclk := true } } →
    (u.pin.refclk = true → exec (.refclkReturn ev at_) s = .next (finish u d)) ∧
    (u.pin.refclk = false → u.pin.waitClk = true → exec (.refclkReturn ev at_) s = .next (finish u (coldStart d ev))) ∧
    (u.pin.refclk = false → u.pin.waitClk = false → chipOn d = false → exec (.refclkReturn ev at_) s = .next (finish u d)) ∧
    (u.pin.refclk = false → u.pin.waitClk = false → chipOn d = true →
      exec (.refclkReturn ev at_) s = .next (finish u ((List.range 160).foldl (fun s lp =>
        if s.lpExists lp && s.flag F.PRT_CTRL_EN (lp / 2) then startDetect s lp else s) d)))) ∧
  (∀ (s u : State) (at_ : Nat), u = s.advance at_ →
    exec (.alwaysOnSupplyUp at_) s = .next (finish u { u with pin := { u.pin with aon := true } })) ∧
  ∀ (s u : State) (at_ : Nat), u = s.advance at_ →
    exec (.supplyRemoval at_) s = .next (finish u { coldReset u with
      pin := { (coldReset u).pin with aon := false, supplies := false, thermtrip := false } })

/-- Gesta's watch over itself, with the next state whole. KICK from a master that may write, or from the core itself, restarts
that core's count, and from another changes nothing. A core in STANDBY or ACTIVE that is not kicked for the period leaves
with kind 0x04; where the other core works too that is all, else Gesta is reset. A core kicked in time, one that is off
outside stage 8 and a period of 0 change nothing. GMC_RST resets Gesta. A trial image confirms itself 60 s after RUNNING,
with TRIAL and the flash's own mark cleared where the running slot is the preferred one on trial; before that nothing. An
update lock idle for 60 s is dropped, one in use stays. The boot ROM's last line is sent again in RECOVERY and HALTED
every 10 s, and not before (14 R388 to R398, R402, R405, R406, 18 R482). The first clauses say of each command that,
whatever its operands within their range, it answers the next state of its own operation where its part of the block runs
(a register row: where the write is taken; a packet row: where the station holds the packet). -/
def Obligations.GestaWatch : Prop :=
  (∀ (s : State) (m : Master) (c : Nat), m.ok = true → c < 2 →
    exec (.kick m c) s = .next (finish s (kickRow s m c))) ∧
  (∀ (s u : State) (c at_ : Nat) (ev : BootEv), u = s.advance at_ → chipOn u = true → c < 2 →
    exec (.watchdogLapse c ev at_) s = .next (finish u (watchdogLapse u c ev)) ∧
    exec (.trialConfirm at_) s = .next (finish u (trialConfirm u)) ∧
    exec (.updateLockExpire at_) s = .next (finish u (updateLockExpire u)) ∧
    exec (.romLineRepeat at_) s = .next (finish u (romRepeat u))) ∧
  (∀ (s : State) (m : Master) (ev : BootEv),
    takesWrite s m .GMC_CTRL 0 0 = true → exec (.gmcRst m ev) s = .next (finish s (gmcReset (wrote s m .GMC_CTRL 0 0) ev none))) ∧
  (∀ (s : State) (m : Master) (k : Nat), m.ok = true → k < 2 →
    ((mayWrite s m = true ∨ m = .gesta k ∧ chipOn s = true ∧ isSafe s = false) →
      exec (.kick m k) s = .next (finish s (wdtWrite (countReg s m true (regOff .GMC_WDT 0)) m (2 ^ k) 1))) ∧
    (mayWrite s m = false → m ≠ .gesta k → exec (.kick m k) s = .next (finish s s))) ∧
  (∀ (s u : State) (k : Nat) (ev : BootEv) (at_ : Nat), u = s.advance at_ → chipOn u = true → k < 2 →
    ((u.rd0 F.GMC_WDT_PERIOD = 0 ∨ u.now < kickOf u k + 1000000 * u.rd0 F.GMC_WDT_PERIOD ∨
        (coreRole u k < 2 ∧ (u.rd0 F.GMC_STAT_STAGE ≠ 8 ∨ coreRole u k ≠ 0))) →
      exec (.watchdogLapse k ev at_) s = .next (finish u u)) ∧
    (u.rd0 F.GMC_WDT_PERIOD ≠ 0 → 2 ≤ coreRole u k → kickOf u k + 1000000 * u.rd0 F.GMC_WDT_PERIOD ≤ u.now →
      (2 ≤ coreRole u (1 - k) →
        exec (.watchdogLapse k ev at_) s =
          .next (finish u (settleAlive (daFault (coreLeaves (gmcFault u 4 k) k 1) 6 k)))) ∧
      (coreRole u (1 - k) < 2 →
        exec (.watchdogLapse k ev at_) s =
          .next (finish u (gmcReset (settleAlive (daFault (coreLeaves (gmcFault u 4 k) k 1) 6 k)) ev none))))) ∧
  (∀ (s c : State) (m : Master) (ev : BootEv), takesWrite s m .GMC_CTRL 0 0 = true → c = wrote s m .GMC_CTRL 0 0 →
    exec (.gmcRst m ev) s = .next (finish s (gmcReset c ev none))) ∧
  (∀ (s u : State) (at_ : Nat) (due : Prop), u = s.advance at_ → chipOn u = true →
    (due ↔ u.flag F.GMC_STAT_TRIAL = true ∧ u.rd0 F.GMC_STAT_STAGE = 8 ∧ 2 ≤ coreRole u 0 ∧ 2 ≤ coreRole u 1 ∧
      u.gmc.runSince.any (fun t => decide (t + 60000000000 ≤ u.now)) = true) →
    (¬ due → exec (.trialConfirm at_) s = .next (finish u u)) ∧
    (due → bcTrial (bootControl u) = 1 → bcPrefer (bootControl u) = runSlot u →
      exec (.trialConfirm at_) s = .next (finish u
        ((bcWrite u 0 (bcTries (bootControl u)) (bcPrefer (bootControl u))).wr0 F.GMC_STAT_TRIAL 0))) ∧
    (due → (bcTrial (bootControl u) ≠ 1 ∨ bcPrefer (bootControl u) ≠ runSlot u) →
      exec (.trialConfirm at_) s = .next (finish u (u.wr0 F.GMC_STAT_TRIAL 0)))) ∧
  (∀ (s u : State) (at_ : Nat), u = s.advance at_ → chipOn u = true →
    (u.gmc.upd.lock.any (fun l => decide (l.2 + 60000000000 ≤ u.now)) = true →
      exec (.updateLockExpire at_) s = .next (finish u (modGmc u fun g => { g with upd := ⟨none, 0, 0, false⟩ }))) ∧
    (u.gmc.upd.lock.any (fun l => decide (l.2 + 60000000000 ≤ u.now)) = false →
      exec (.updateLockExpire at_) s = .next (finish u u))) ∧
  ∀ (s u : State) (at_ t0 : Nat) (text : String), u = s.advance at_ → chipOn u = true → u.gmc.line = some (text, t0) →
    ((u.rd0 F.GMC_STAT_STAGE = 0x0E ∨ u.rd0 F.GMC_STAT_STAGE = 0x0F) → t0 + 10000000000 ≤ u.now →
      exec (.romLineRepeat at_) s =
        .next (finish u (modGmc (u.emit (.line text)) fun g => { g with line := some (text, u.now) }))) ∧
    ((u.rd0 F.GMC_STAT_STAGE ≠ 0x0E ∧ u.rd0 F.GMC_STAT_STAGE ≠ 0x0F ∨ u.now < t0 + 10000000000) →
      exec (.romLineRepeat at_) s = .next (finish u u))

/-- Messages over MCTP, with the next state whole. Without an endpoint ID the register messages change nothing. With one: a
message of another width answers 1, of another length 2, of an offset beyond BAR0 or not a multiple of four 3, its value
field free for READ32 and 0 for WRITE32. READ32 of a register outside a core warm reset answers its value with code 0;
WRITE32 is the write of its master and answers 0 or, after an access fault, 4; in a core warm reset both wait for a core
block. Another vendor command answers 5, and 1 and 2 change nothing. Set Endpoint ID keeps an ID other than 0 and 255 and
acknowledges it, and answers 2 for those; Get Endpoint ID answers the ID, the version request the versions kept for its
type, the type request types 0, 1, 5 and 0x7E with their count, the vendor request the one set at index 0 and 2 at another
(12 R357, R358; the answers' layouts are the model's choice, log 5 and 58). The first clauses say of each command that,
whatever its operands within their range, it answers the next state of its own operation where its part of the block runs
(a register row: where the write is taken; a packet row: where the station holds the packet). -/
def Obligations.MctpMessages : Prop :=
  (∀ (s u : State) (pcie : Bool) (width len tag off at_ val cmd eid kind sel : Nat) (ev : BootEv), u = s.advance at_ → chipOn u
    = true → val < 2 ^ 32 →
    exec (.read32 pcie width len tag off at_) s = .next (finish u (mctpOpen u pcie fun v => regMsgRead v pcie width len tag
      off)) ∧
    exec (.write32 pcie width len tag off val ev at_) s = .next (finish u (mctpOpen u pcie fun v => settleSite ev (regMsgWrite v
      pcie width len tag off val ev))) ∧
    exec (.vendorUnknownCmd pcie cmd tag off at_) s = .next (finish u (mctpOpen u pcie fun v => regMsgUnknown v pcie cmd tag
      off)) ∧
    exec (.setEndpointId pcie eid at_) s = .next (finish u (mctpSetEid u pcie eid)) ∧
    exec (.getEndpointId pcie at_) s = .next (finish u (mctpGetEid u pcie)) ∧
    exec (.getMctpVersionSupport pcie kind at_) s = .next (finish u (mctpGetVersion u pcie kind)) ∧
    exec (.getMessageTypeSupport pcie at_) s = .next (finish u (mctpGetTypes u pcie)) ∧
    exec (.getVendorDefinedMessageSupport pcie sel at_) s = .next (finish u (mctpGetVendor u pcie sel))) ∧
  (∀ (s u : State) (pcie : Bool) (width len tag off val cmd at_ : Nat) (ev : BootEv), u = s.advance at_ → chipOn u = true →
    mctpEid u pcie = 0 → val < 2 ^ 32 →
    exec (.read32 pcie width len tag off at_) s = .next (finish u u) ∧
    exec (.write32 pcie width len tag off val ev at_) s = .next (finish u u) ∧
    exec (.vendorUnknownCmd pcie cmd tag off at_) s = .next (finish u u)) ∧
  (∀ (s u : State) (pcie : Bool) (width len tag off val cc at_ : Nat) (ev : BootEv), u = s.advance at_ → chipOn u = true →
    mctpEid u pcie ≠ 0 → val < 2 ^ 32 → cc ≠ 0 →
    (cc = (if width ≠ 4 then 1 else if len ≠ 10 then 2 else if off ≥ 0x4000000 ∨ off % 4 ≠ 0 then 3 else 0) →
      exec (.read32 pcie width len tag off at_) s =
        .next (finish u (sendMctp u pcie (.mctp (regResponse 1 cc tag off (Config.freeNat u.freeCtr)))).tick)) ∧
    (cc = (if width ≠ 4 then 1 else if len ≠ 14 then 2 else if off ≥ 0x4000000 ∨ off % 4 ≠ 0 then 3 else 0) →
      exec (.write32 pcie width len tag off val ev at_) s =
        .next (finish u (settleSite ev (sendMctp u pcie (.mctp (regResponse 2 cc tag off 0))))))) ∧
  (∀ (s u d : State) (pcie : Bool) (tag off at_ : Nat), u = s.advance at_ → chipOn u = true → mctpEid u pcie ≠ 0 →
    off < 0x4000000 → off % 4 = 0 → d = countReg (softCheck u off) (viaMaster pcie) false off →
    (mustHold u off = false →
      exec (.read32 pcie 4 10 tag off at_) s = .next (finish u (sendMctp
        (readNow d (viaMaster pcie) off).2 pcie (.mctp (regResponse 1 0 tag off (readNow d (viaMaster pcie) off).1))))) ∧
    (mustHold u off = true →
      exec (.read32 pcie 4 10 tag off at_) s = .next (finish u (hold u ⟨viaMaster pcie, false, off, 0, 15, some tag⟩)))) ∧
  (∀ (s u d : State) (pcie : Bool) (tag off val at_ : Nat) (ev : BootEv), u = s.advance at_ → chipOn u = true →
    mctpEid u pcie ≠ 0 → off < 0x4000000 → off % 4 = 0 → val < 2 ^ 32 →
    d = busWrite ev { u with lastFault := none } (viaMaster pcie) off val 15 →
    ((mayWrite u (viaMaster pcie) = false ∨ mustHold u off = false) →
      exec (.write32 pcie 4 14 tag off val ev at_) s = .next (finish u (settleSite ev (sendMctp d pcie
        (.mctp (regResponse 2 (if d.lastFault.isSome then 4 else 0) tag off 0)))))) ∧
    (mayWrite u (viaMaster pcie) = true → mustHold u off = true →
      exec (.write32 pcie 4 14 tag off val ev at_) s =
        .next (finish u (settleSite ev (hold u ⟨viaMaster pcie, true, off, val, 15, some tag⟩))))) ∧
  (∀ (s u : State) (pcie : Bool) (cmd tag off at_ : Nat), u = s.advance at_ → chipOn u = true → mctpEid u pcie ≠ 0 → cmd < 256 →
    ((cmd = 1 ∨ cmd = 2) → exec (.vendorUnknownCmd pcie cmd tag off at_) s = .next (finish u u)) ∧
    (cmd ≠ 1 → cmd ≠ 2 → exec (.vendorUnknownCmd pcie cmd tag off at_) s = .next (finish u
      (sendMctp u pcie (.mctp (regResponse cmd 5 tag off (Config.freeNat u.freeCtr)))).tick))) ∧
  (∀ (s u : State) (pcie : Bool) (eid at_ : Nat), u = s.advance at_ → chipOn u = true → eid < 256 →
    ((eid = 0 ∨ eid = 255) → exec (.setEndpointId pcie eid at_) s = .next (finish u (sendMctp u pcie (.mctp [1, 2])))) ∧
    (eid ≠ 0 → eid ≠ 255 → exec (.setEndpointId pcie eid at_) s = .next (finish u (sendMctp
      (modBus u fun b => { b with eids := mput b.eids (viaKey pcie) eid }) pcie (.mctp ([1, 0, 0] ++ leBytes 1 eid)))))) ∧
  ∀ (s u : State) (pcie : Bool) (kind sel at_ : Nat), u = s.advance at_ → chipOn u = true →
    exec (.getEndpointId pcie at_) s = .next (finish u (sendMctp u pcie (.mctp ([2, 0] ++ leBytes 1 (mctpEid u pcie))))) ∧
    exec (.getMctpVersionSupport pcie kind at_) s =
      .next (finish u (sendMctp u pcie (.mctp ([4, 0] ++ Config.blob (6 + kind))))) ∧
    exec (.getMessageTypeSupport pcie at_) s = .next (finish u (sendMctp u pcie (.mctp [5, 0, 3, 1, 5, 0x7E]))) ∧
    exec (.getVendorDefinedMessageSupport pcie sel at_) s = .next (finish u (sendMctp u pcie (.mctp
      (if sel = 0 then [6, 0, 0xFF, 0] ++ (leBytes 2 Config.vendorId.toNat).reverse ++ [0, 0] else [6, 2]))))

/-- The I3C target, with the next state whole. ENTDAA gives a target without an address its dynamic address, sends its ID, BCR
and DCR, and draws the ID's random value once; with an address it changes nothing. The ID is six bytes, most significant
first: the manufacturer ID, bit 32 set, and the random value. RSTDAA takes the address. Without an address the directed
commands change nothing; with one SETNEWDA changes it and the directed reads answer. ENEC and DISEC set and clear the
enabled events, RSTACT keeps its action (12 R356; GETMRL's and GETMWL's bytes and GETSTATUS are the model's choice, log
58). The first clauses say of each command that, whatever its operands within their range, it answers the next state of
its own operation where its part of the block runs (a register row: where the write is taken; a packet row: where the
station holds the packet). -/
def Obligations.I3cTarget : Prop :=
  (∀ (s u : State) (addr at_ mask act : Nat), u = s.advance at_ → chipOn u = true →
    exec (.entdaa addr at_) s = .next (finish u (i3cEntdaa u addr)) ∧
    exec (.rstdaa at_) s = .next (finish u (i3cSetAddr u none)) ∧
    exec (.enec mask at_) s = .next (finish u (i3cEvents u true mask)) ∧
    exec (.disec mask at_) s = .next (finish u (i3cEvents u false mask)) ∧
    exec (.rstact act at_) s = .next (finish u (modBus u fun b => { b with rstAct := act % 256 })) ∧
    exec (.setnewda addr at_) s = .next (finish u (i3cDirected u fun v => i3cSetAddr v (some addr))) ∧
    exec (.getpid at_) s = .next (finish u (i3cDirected u i3cGetPid)) ∧
    exec (.getbcr at_) s = .next (finish u (i3cDirected u fun v => v.emit (.i3c (Config.blob 1)))) ∧
    exec (.getdcr at_) s = .next (finish u (i3cDirected u fun v => v.emit (.i3c (Config.blob 2)))) ∧
    exec (.getstatus at_) s = .next (finish u (i3cDirected u i3cGetStatus)) ∧
    exec (.getmrl at_) s = .next (finish u (i3cDirected u fun v => v.emit (.i3c [0, 69, 1]))) ∧
    exec (.getmwl at_) s = .next (finish u (i3cDirected u fun v => v.emit (.i3c [0, 69])))) ∧
  (∀ (s u : State) (addr at_ : Nat), u = s.advance at_ → chipOn u = true → addr < 128 →
    (u.bus.i3cAddr.isSome = true → exec (.entdaa addr at_) s = .next (finish u u)) ∧
    (∀ v : Nat, u.bus.i3cAddr = none → u.bus.i3cPid = some v →
      exec (.entdaa addr at_) s = .next (finish u ((modBus u fun b => { b with i3cAddr := some addr }).emit
        (.i3c ((leBytes 6 ((Config.mipiId.toNat * 2 + 1) * 2 ^ 32 + v)).reverse ++ Config.blob 1 ++ Config.blob 2))))) ∧
    (u.bus.i3cAddr = none → u.bus.i3cPid = none →
      exec (.entdaa addr at_) s = .next (finish u ((modBus (i3cPid u).2 fun b => { b with i3cAddr := some addr }).emit
        (.i3c ((i3cPid u).1 ++ Config.blob 1 ++ Config.blob 2)))))) ∧
  (∀ (s u : State) (at_ mask act : Nat), u = s.advance at_ → chipOn u = true → mask < 256 → act < 256 →
    exec (.rstdaa at_) s = .next (finish u (modBus u fun b => { b with i3cAddr := none })) ∧
    exec (.enec mask at_) s = .next (finish u (modBus u fun b => { b with events := Nat.lor b.events mask })) ∧
    exec (.disec mask at_) s = .next (finish u (modBus u fun b => { b with events := b.events - Nat.land b.events mask })) ∧
    exec (.rstact act at_) s = .next (finish u (modBus u fun b => { b with rstAct := act }))) ∧
  (∀ (s u : State) (at_ addr : Nat), u = s.advance at_ → chipOn u = true → u.bus.i3cAddr = none →
    exec (.setnewda addr at_) s = .next (finish u u) ∧ exec (.getpid at_) s = .next (finish u u) ∧
    exec (.getbcr at_) s = .next (finish u u) ∧ exec (.getdcr at_) s = .next (finish u u) ∧
    exec (.getstatus at_) s = .next (finish u u) ∧ exec (.getmrl at_) s = .next (finish u u) ∧
    exec (.getmwl at_) s = .next (finish u u)) ∧
  ∀ (s u : State) (at_ : Nat), u = s.advance at_ → chipOn u = true → u.bus.i3cAddr.isSome = true →
    (∀ addr : Nat, addr < 128 →
      exec (.setnewda addr at_) s = .next (finish u (modBus u fun b => { b with i3cAddr := some addr }))) ∧
    exec (.getpid at_) s = .next (finish u ((i3cPid u).2.emit (.i3c (i3cPid u).1))) ∧
    exec (.getbcr at_) s = .next (finish u (u.emit (.i3c (Config.blob 1)))) ∧
    exec (.getdcr at_) s = .next (finish u (u.emit (.i3c (Config.blob 2)))) ∧
    exec (.getstatus at_) s = .next (finish u
      ((u.emit (.i3c [Config.freeByte u.freeCtr, Config.freeByte (u.freeCtr + 1)])).tick).tick) ∧
    exec (.getmrl at_) s = .next (finish u (u.emit (.i3c [0, 69, 1]))) ∧
    exec (.getmwl at_) s = .next (finish u (u.emit (.i3c [0, 69])))

/-- SPDM and DOE, with the next state whole, by DOE. Where Gesta does not serve, every one answers Busy. Where it serves: DOE
Discovery names itself at index 0, SPDM at index 1 and nothing at another. Of slot 0 the digest, the parts of the chain, a
challenge answered with chain digest, nonce, measurement digest and signature; the versions 1.2 and 1.3, the capabilities
under either version, the one set of algorithms; one measurement block or all nine with nonce and signature. Another slot,
an offset beyond the chain, another version and another index answer an error. By MCTP the same is answered over its
transport once it has an endpoint ID (12 R330, 14 R408; the wire layout and DOE's and SPDM's codes are the model's choice,
log 55, 124). The first clauses say of each command that, whatever its operands within their range, it answers the next
state of its own operation where its part of the block runs (a register row: where the write is taken; a packet row: where
the station holds the packet). -/
def Obligations.SpdmAndDoe : Prop :=
  (∀ (s u : State) (index at_ way ver slot off len : Nat) (nonce : List Byte), u = s.advance at_ → chipOn u = true → way < 3 →
    exec (.doeDiscovery index at_) s = .next (finish u (doeDiscovery u index)) ∧
    exec (.getVersion way at_) s = .next (finish u (spdmVia u way fun v => spdmVersion v way)) ∧
    exec (.getCapabilities way ver at_) s = .next (finish u (spdmVia u way fun v => spdmCaps v way ver)) ∧
    exec (.negotiateAlgorithms way at_) s = .next (finish u (spdmVia u way fun v => spdmAlgs v way)) ∧
    exec (.getDigests way at_) s = .next (finish u (spdmVia u way fun v => spdmDigests v way)) ∧
    exec (.getCertificate way slot off len at_) s = .next (finish u (spdmVia u way fun v => spdmCert v way slot off len)) ∧
    exec (.challenge way slot nonce at_) s = .next (finish u (spdmVia u way fun v => spdmChallenge v way slot nonce)) ∧
    exec (.getMeasurements way index nonce at_) s = .next (finish u (spdmVia u way fun v => spdmMeasure v way index nonce))) ∧
  (∀ (s u : State) (at_ i ver slot off len index : Nat) (nonce : List Byte), u = s.advance at_ → chipOn u = true →
    gestaServes u = false →
    exec (.doeDiscovery i at_) s = .next (finish u (u.emit .doeBusy)) ∧
    exec (.getVersion 0 at_) s = .next (finish u (u.emit .doeBusy)) ∧
    exec (.getCapabilities 0 ver at_) s = .next (finish u (u.emit .doeBusy)) ∧
    exec (.negotiateAlgorithms 0 at_) s = .next (finish u (u.emit .doeBusy)) ∧
    exec (.getDigests 0 at_) s = .next (finish u (u.emit .doeBusy)) ∧
    exec (.getCertificate 0 slot off len at_) s = .next (finish u (u.emit .doeBusy)) ∧
    exec (.challenge 0 slot nonce at_) s = .next (finish u (u.emit .doeBusy)) ∧
    exec (.getMeasurements 0 index nonce at_) s = .next (finish u (u.emit .doeBusy))) ∧
  (∀ (s u : State) (at_ i ver : Nat), u = s.advance at_ → chipOn u = true → gestaServes u = true →
    exec (.doeDiscovery i at_) s = .next (finish u (u.emit (.doe
      (if i = 0 then [1, 0, 0, 1] else if i = 1 then [1, 0, 1, 0] else [0xFF, 0xFF, 0, 0])))) ∧
    exec (.getVersion 0 at_) s = .next (finish u
      ((modBus u fun b => { b with spdm := mdel b.spdm 0 }).emit (.spdm 0 1 [[0x12], [0x13]]))) ∧
    ((ver = 0x12 ∨ ver = 0x13) → exec (.getCapabilities 0 ver at_) s = .next (finish u
      ((modBus u fun b => { b with spdm := mput b.spdm 0 ver }).emit (.spdm 0 2 [[1], [1], [2]])))) ∧
    (ver ≠ 0x12 → ver ≠ 0x13 → exec (.getCapabilities 0 ver at_) s = .next (finish u (u.emit (.spdm 0 0x7F [])))) ∧
    exec (.negotiateAlgorithms 0 at_) s =
      .next (finish u (u.emit (.spdm 0 3 [leBytes 1 1, leBytes 4 4, leBytes 4 0x80, leBytes 4 2]))) ∧
    exec (.getDigests 0 at_) s = .next (finish u (u.emit (.spdm 0 4 [Config.sha384 (spdmChain u)])))) ∧
  (∀ (s u : State) (at_ slot off len : Nat), u = s.advance at_ → chipOn u = true → gestaServes u = true →
    exec (.getCertificate 0 slot off len at_) s = .next (finish u (u.emit (
      if slot = 0 ∧ off < (spdmChain u).length then .spdm 0 5 [((spdmChain u).drop off).take len,
        leBytes 2 ((spdmChain u).length - off - min len ((spdmChain u).length - off))]
      else .spdm 0 0x7F [])))) ∧
  (∀ (s u : State) (at_ slot : Nat) (nonce : List Byte) (body : List (List Byte)), u = s.advance at_ → chipOn u = true →
    gestaServes u = true → body = [Config.sha384 (spdmChain u), spdmNonce u, Config.sha384 ((measureBlocks u).flatMap id)] →
    (slot ≠ 0 → exec (.challenge 0 slot nonce at_) s = .next (finish u (u.emit (.spdm 0 0x7F [])))) ∧
    (slot = 0 → exec (.challenge 0 slot nonce at_) s = .next (finish u
      (({ u with freeCtr := u.freeCtr + 32 } : State).emit
        (.spdm 0 6 (body ++ [Config.ecdsaSign u.gmc.alias_ (nonce ++ body.flatMap id)])))))) ∧
  (∀ (s u : State) (at_ i : Nat) (nonce : List Byte) (bs : List (List Byte)), u = s.advance at_ → chipOn u = true →
    gestaServes u = true →
    bs = (if i = 0xFF then measureBlocks u else [(measureBlocks u).getD (i - 1) []]) →
    ((i = 0 ∨ 9 < i ∧ i ≠ 0xFF) → exec (.getMeasurements 0 i nonce at_) s = .next (finish u (u.emit (.spdm 0 0x7F [])))) ∧
    ((1 ≤ i ∧ i ≤ 9 ∨ i = 0xFF) → exec (.getMeasurements 0 i nonce at_) s = .next (finish u
      (({ u with freeCtr := u.freeCtr + 32 } : State).emit (.spdm 0 7 (bs ++
        [spdmNonce u, Config.ecdsaSign u.gmc.alias_ (nonce ++ spdmNonce u ++ bs.flatMap id)])))))) ∧
  ∀ (s u : State) (at_ way ver slot off len index : Nat) (nonce : List Byte), u = s.advance at_ → chipOn u = true →
    gestaServes u = true → (way = 1 ∨ way = 2) → mctpEid u (way == 1) ≠ 0 →
    exec (.getVersion way at_) s = .next (finish u (spdmVersion u way)) ∧
    exec (.getCapabilities way ver at_) s = .next (finish u (spdmCaps u way ver)) ∧
    exec (.negotiateAlgorithms way at_) s = .next (finish u (spdmAlgs u way)) ∧
    exec (.getDigests way at_) s = .next (finish u (spdmDigests u way)) ∧
    exec (.getCertificate way slot off len at_) s = .next (finish u (spdmCert u way slot off len)) ∧
    exec (.challenge way slot nonce at_) s = .next (finish u (spdmChallenge u way slot nonce)) ∧
    exec (.getMeasurements way index nonce at_) s = .next (finish u (spdmMeasure u way index nonce))

/-- A PLDM update, with the next state whole, where Gesta serves and the transport has an endpoint ID. RequestUpdate takes the
free lock, and answers busy where one is held. With the lock and at its step: the component table and the component are
those of 0x0001, the slot not running is erased and written, its verification is judged and answered, going on only if it
passes, apply makes it the preferred slot on trial with three tries, ActivateFirmware ends the update, says that microcode
is pending and resets Gesta where activation is self-contained. Out of step, without the lock, for another component or
beyond the slot each is answered as out of order; a transfer that the flash refuses leaves its bytes free with kind 0x06
(14 R405 to R407, R411; completion codes and the erase are the model's choice, log 58). The first clauses say of each
command that, whatever its operands within their range, it answers the next state of its own operation where its part of
the block runs (a register row: where the write is taken; a packet row: where the station holds the packet). -/
def Obligations.PldmUpdate : Prop :=
  (∀ (s u : State) (pcie ok : Bool) (at_ comp off : Nat) (data : List Byte) (act : Activate) (ev : BootEv), u = s.advance at_ →
    chipOn u = true →
    exec (.requestUpdate pcie at_) s = .next (finish u (pldmVia u pcie fun v => pldmRequest v pcie)) ∧
    exec (.passComponentTable pcie comp at_) s = .next (finish u (pldmVia u pcie fun v => pldmTable v pcie comp)) ∧
    exec (.updateComponent pcie comp at_) s = .next (finish u (pldmVia u pcie fun v => pldmUpdate v pcie comp)) ∧
    exec (.pldmFirmwareTransfer pcie off data ok at_) s = .next (finish u (pldmVia u pcie fun v => pldmData v pcie off data ok))
      ∧
    exec (.verifyComplete pcie at_) s = .next (finish u (pldmVia u pcie fun v => pldmVerify v pcie)) ∧
    exec (.applyComplete pcie at_) s = .next (finish u (pldmVia u pcie fun v => pldmApply v pcie)) ∧
    exec (.activateFirmware act ev at_) s = .next (finish u (pldmVia u act.pcie fun v => pldmActivate v act.pcie act.self ev))) ∧
  ∀ (s u d : State) (pcie : Bool) (at_ n : Nat), u = s.advance at_ → chipOn u = true → gestaServes u = true →
    mctpEid u pcie ≠ 0 → d = takeLock u 1 → n = u.gmc.upd.step →
    (u.gmc.upd.lock = none →
      exec (.requestUpdate pcie at_) s = .next (finish u (pldmSay (setStep d 1) pcie 0x10 0))) ∧
    (u.gmc.upd.lock.isSome = true → exec (.requestUpdate pcie at_) s = .next (finish u (pldmSay u pcie 0x10 0x81))) ∧
    (∀ c : Nat,
      (lockedBy u 1 = true → n = 1 → c = 1 →
        exec (.passComponentTable pcie c at_) s = .next (finish u (pldmSay (setStep d 2) pcie 0x13 0))) ∧
      ((lockedBy u 1 = false ∨ n ≠ 1 ∨ c ≠ 1) →
        exec (.passComponentTable pcie c at_) s = .next (finish u (pldmSay u pcie 0x13 0x80))) ∧
      (lockedBy u 1 = true → n = 2 → c = 1 →
        exec (.updateComponent pcie c at_) s = .next (finish u (pldmSay
          (modGmc (flashErase d (slotBase (otherSlot d)) 0x1F00000)
            fun g => { g with upd := { g.upd with step := 3, got := 0, verified := false } }) pcie 0x14 0))) ∧
      ((lockedBy u 1 = false ∨ n ≠ 2 ∨ c ≠ 1) →
        exec (.updateComponent pcie c at_) s = .next (finish u (pldmSay u pcie 0x14 0x80)))) ∧
    (∀ (off : Nat) (data : List Byte),
      (lockedBy u 1 = true → n = 3 → off + data.length ≤ 0x1F00000 →
        exec (.pldmFirmwareTransfer pcie off data true at_) s = .next (finish u (pldmSay
          (modGmc (flashPut data (slotBase (otherSlot u) + off) d)
            fun g => { g with upd := { g.upd with got := g.upd.got + data.length } }) pcie 0x15 0)) ∧
        exec (.pldmFirmwareTransfer pcie off data false at_) s = .next (finish u (pldmSay
          (flashFail d (slotBase (otherSlot u) + off) data.length) pcie 0x15 0))) ∧
      ∀ ok : Bool, (lockedBy u 1 = false ∨ n ≠ 3 ∨ 0x1F00000 < off + data.length) →
        exec (.pldmFirmwareTransfer pcie off data ok at_) s = .next (finish u (pldmSay u pcie 0x15 0x80))) ∧
    (lockedBy u 1 = true → n = 3 →
      exec (.verifyComplete pcie at_) s = .next (finish u (pldmSay
        (modGmc (slotJudge d (otherSlot u)).2 fun g => { g with upd := { g.upd with
          step := if (slotJudge d (otherSlot u)).1 = 0 then 4 else 3, verified := (slotJudge d (otherSlot u)).1 == 0 } })
        pcie 0x17 (slotJudge d (otherSlot u)).1))) ∧
    ((lockedBy u 1 = false ∨ n ≠ 3) → exec (.verifyComplete pcie at_) s = .next (finish u (pldmSay u pcie 0x17 0x80))) ∧
    (lockedBy u 1 = true → n = 4 →
      exec (.applyComplete pcie at_) s =
        .next (finish u (pldmSay (setStep (trialState (bcWrite d 1 3 (otherSlot d))) 5) pcie 0x18 0))) ∧
    ((lockedBy u 1 = false ∨ n ≠ 4) → exec (.applyComplete pcie at_) s = .next (finish u (pldmSay u pcie 0x18 0x80))) ∧
    ∀ (ev : BootEv) (self : Bool) (e : State),
      e = (pldmSay (modGmc (freeLock u) fun g => { g with ucodePending := true }) pcie 0x1A 0).emit .ucodePending →
      (lockedBy u 1 = true → n = 5 →
        exec (.activateFirmware ⟨pcie, self⟩ ev at_) s = .next (finish u (if self = true then gmcReset e ev none else e))) ∧
      ((lockedBy u 1 = false ∨ n ≠ 5) →
        exec (.activateFirmware ⟨pcie, self⟩ ev at_) s = .next (finish u (pldmSay u pcie 0x1A 0x80)))

/-- The mailboxes where Gesta serves, with the next state whole: a waiting request of the command is answered in its mailbox.
The slots' versions and BC; the bytes of the flash; an erase and a write under the update lock, answered 0x08 while PLDM
holds it, 0x03 where Gesta refuses the range and 0x04 with kind 0x06 where the flash fails; a slot's verification; the
preferred slot with its trial, answered 0x05 where it does not verify; the confirmation of the running one; an event log
entry, its status free where there is none. Arguments or a length that a command may not have answer 0x02, a read into the
reserved flash 0x03, a command that the table does not have 0x01. A mailbox with no request waiting and a request of
another command change nothing (14 R405, R406, R409, R410). The first clauses say of each command that, whatever its
operands within their range, it answers the next state of its own operation where its part of the block runs (a register
row: where the write is taken; a packet row: where the station holds the packet). -/
def Obligations.Mailboxes : Prop :=
  (∀ (s u : State) (mb at_ : Nat) (ok : Bool), u = s.advance at_ → chipOn u = true → mb < 2 →
    exec (.getInfo mb at_) s = .next (finish u (mbServe u mb 1 fun v => mbGetInfo v mb)) ∧
    exec (.flashRead mb at_) s = .next (finish u (mbServe u mb 2 fun v => mbFlashRead v mb)) ∧
    exec (.flashErase mb ok at_) s = .next (finish u (mbServe u mb 3 fun v => mbFlashErase v mb ok)) ∧
    exec (.flashWrite mb ok at_) s = .next (finish u (mbServe u mb 4 fun v => mbFlashWrite v mb ok)) ∧
    exec (.verifySlot mb at_) s = .next (finish u (mbServe u mb 5 fun v => mbVerifySlot v mb)) ∧
    exec (.setPrefer mb at_) s = .next (finish u (mbServe u mb 6 fun v => mbSetPrefer v mb)) ∧
    exec (.confirm mb at_) s = .next (finish u (mbServe u mb 7 fun v => mbConfirm v mb)) ∧
    exec (.logRead mb at_) s = .next (finish u (mbServe u mb 8 fun v => mbLogRead v mb)) ∧
    exec (.mailboxUnknownCmd mb at_) s = .next (finish u (mbUnknown u mb))) ∧
  (∀ (s u : State) (mb at_ : Nat) (ok : Bool), u = s.advance at_ → chipOn u = true → mb < 2 →
    (u.gmc.mbox.contains mb = false ∨ bits (mbWord u mb 0) 24 8 = 0) →
    exec (.getInfo mb at_) s = .next (finish u u) ∧ exec (.flashRead mb at_) s = .next (finish u u) ∧
    exec (.flashErase mb ok at_) s = .next (finish u u) ∧ exec (.flashWrite mb ok at_) s = .next (finish u u) ∧
    exec (.verifySlot mb at_) s = .next (finish u u) ∧ exec (.setPrefer mb at_) s = .next (finish u u) ∧
    exec (.confirm mb at_) s = .next (finish u u) ∧ exec (.logRead mb at_) s = .next (finish u u)) ∧
  ∀ (s u d : State) (mb at_ cmd len a n : Nat) (ok : Bool), u = s.advance at_ → chipOn u = true → gestaServes u = true → mb < 2 →
    u.gmc.mbox.contains mb = true → cmd = bits (mbWord u mb 0) 24 8 → len = mbLen u mb → a = mbArg u mb 0 → n = mbArg u mb 1 →
    (cmd = 1 → len = 0 → exec (.getInfo mb at_) s = .next (finish u (mboxRespond u mb 0 (infoWords u) []))) ∧
    (len ≠ 0 →
      (cmd = 1 → exec (.getInfo mb at_) s = .next (finish u (mboxRespond u mb 2 [] []))) ∧
      (cmd = 2 → exec (.flashRead mb at_) s = .next (finish u (mboxRespond u mb 2 [] []))) ∧
      (cmd = 3 → exec (.flashErase mb ok at_) s = .next (finish u (mboxRespond u mb 2 [] []))) ∧
      (cmd = 5 → exec (.verifySlot mb at_) s = .next (finish u (mboxRespond u mb 2 [] []))) ∧
      (cmd = 6 → exec (.setPrefer mb at_) s = .next (finish u (mboxRespond u mb 2 [] []))) ∧
      (cmd = 7 → exec (.confirm mb at_) s = .next (finish u (mboxRespond u mb 2 [] []))) ∧
      (cmd = 8 → exec (.logRead mb at_) s = .next (finish u (mboxRespond u mb 2 [] [])))) ∧
    (cmd = 2 → len = 0 →
      ((a % 4 ≠ 0 ∨ n % 4 ≠ 0 ∨ 4064 < n) → exec (.flashRead mb at_) s = .next (finish u (mboxRespond u mb 2 [] []))) ∧
      (a % 4 = 0 → n % 4 = 0 → n ≤ 4064 → (0x3F00000 ≤ a ∨ 0x3F00000 < a + n) →
        exec (.flashRead mb at_) s = .next (finish u (mboxRespond u mb 3 [] []))) ∧
      (a % 4 = 0 → n % 4 = 0 → n ≤ 4064 → a < 0x3F00000 → a + n ≤ 0x3F00000 →
        exec (.flashRead mb at_) s = .next (finish u (mboxRespond { u with freeCtr := u.freeCtr + n } mb 0 [] (flashSeen u a n))))) ∧
    (cmd = 3 → len = 0 →
      ((a % 65536 ≠ 0 ∨ n % 65536 ≠ 0) → exec (.flashErase mb ok at_) s = .next (finish u (mboxRespond u mb 2 [] []))) ∧
      (a % 65536 = 0 → n % 65536 = 0 → lockedBy u 1 = true →
        exec (.flashErase mb ok at_) s = .next (finish u (mboxRespond u mb 8 [] []))) ∧
      (a % 65536 = 0 → n % 65536 = 0 → lockedBy u 1 = false → flashRefused u a n = true →
        exec (.flashErase mb ok at_) s = .next (finish u (mboxRespond u mb 3 [] []))) ∧
      (a % 65536 = 0 → n % 65536 = 0 → lockedBy u 1 = false → flashRefused u a n = false → d = freeLog (takeLock u 0) a n →
        exec (.flashErase mb true at_) s = .next (finish u (mboxRespond (Sys2Proof.Machine.flashErase d a n) mb 0 [] [])) ∧
        exec (.flashErase mb false at_) s = .next (finish u (mboxRespond (flashFail d a n) mb 4 [] [])))) ∧
    (cmd = 4 →
      ((a % 4 ≠ 0 ∨ len % 4 ≠ 0 ∨ 4064 < len) → exec (.flashWrite mb ok at_) s = .next (finish u (mboxRespond u mb 2 [] []))) ∧
      (a % 4 = 0 → len % 4 = 0 → len ≤ 4064 → lockedBy u 1 = true →
        exec (.flashWrite mb ok at_) s = .next (finish u (mboxRespond u mb 8 [] []))) ∧
      (a % 4 = 0 → len % 4 = 0 → len ≤ 4064 → lockedBy u 1 = false → flashRefused u a len = true →
        exec (.flashWrite mb ok at_) s = .next (finish u (mboxRespond u mb 3 [] []))) ∧
      (a % 4 = 0 → len % 4 = 0 → len ≤ 4064 → lockedBy u 1 = false → flashRefused u a len = false →
        d = freeLog (takeLock u 0) a len →
        exec (.flashWrite mb true at_) s =
          .next (finish u (mboxRespond (flashProgram (mbData (takeLock u 0) mb len) a d) mb 0 [] [])) ∧
        exec (.flashWrite mb false at_) s = .next (finish u (mboxRespond (flashFail d a len) mb 4 [] [])))) ∧
    (cmd = 5 → len = 0 →
      (1 < a → exec (.verifySlot mb at_) s = .next (finish u (mboxRespond u mb 2 [] []))) ∧
      (a ≤ 1 → exec (.verifySlot mb at_) s =
        .next (finish u (mboxRespond (slotJudge u a).2 mb (slotJudge u a).1 (slotInfo (slotJudge u a).2 a) [])))) ∧
    (cmd = 6 → len = 0 →
      (1 < a → exec (.setPrefer mb at_) s = .next (finish u (mboxRespond u mb 2 [] []))) ∧
      (a ≤ 1 → lockedBy u 1 = true → exec (.setPrefer mb at_) s = .next (finish u (mboxRespond u mb 8 [] []))) ∧
      (a ≤ 1 → lockedBy u 1 = false → d = trialState (freeLock (bcWrite (slotJudge u a).2 (n % 2) (3 * (n % 2)) a)) →
        exec (.setPrefer mb at_) s = .next (finish u (if (slotJudge u a).1 = 0 then
          mboxRespond d mb 0 [0, 0, 0, 0, bootControl d] [] else mboxRespond (slotJudge u a).2 mb 5 [] [])))) ∧
    (cmd = 7 → len = 0 → exec (.confirm mb at_) s = .next (finish u (mboxRespond (confirmRunning u) mb 0 [] []))) ∧
    (cmd = 8 → len = 0 →
      (u.gmc.log[a]? = none →
        exec (.logRead mb at_) s = .next (finish u (mboxRespond u.tick mb (Config.freeNat u.freeCtr % 256) [] []))) ∧
      ∀ e : List Byte, u.gmc.log[a]? = some e →
        exec (.logRead mb at_) s = .next (finish u (mboxRespond u mb 0 [] (e.take 4064)))) ∧
    ((cmd = 0 ∨ 8 < cmd) → exec (.mailboxUnknownCmd mb at_) s = .next (finish u (mboxRespond u mb 1 [] []))) ∧
    (1 ≤ cmd → cmd ≤ 8 → exec (.mailboxUnknownCmd mb at_) s = .next (finish u u))

/-- Resets by GLB_RST and their ends, with the next state whole. The go bit takes the reset it names, outside one of its kind
and outside a core warm reset, counted and reported; within one it changes nothing, but that a port's reset waits for the
core warm reset's end. PORT_GO of a port that does not exist is an access fault. A pump or pool domain's hold ends, with
no core warm reset and none held it changes nothing. The core warm reset ends every hold of its own, with RESUME on every
link that is up, the ports' resets that waited, a commit whose boundary has come, the held accesses in order and the dumps
that waited; with none running nothing (13 R384, 15 R426 to R431). The first clauses say of each command that, whatever
its operands within their range, it answers the next state of its own operation where its part of the block runs (a
register row: where the write is taken; a packet row: where the station holds the packet). -/
def Obligations.Resets : Prop :=
  (∀ (s : State) (m : Master) (n : Nat), n < 128 →
    (takesWrite s m .GLB_RST 0 0 = true → exec (.coreWarm m) s = .next (finish s (rstWrite (wrote s m .GLB_RST 0 0) m (2 ^ 31)
      15))) ∧
    (takesWrite s m .GLB_RST 0 0 = true → exec (.pump m) s = .next (finish s (rstWrite (wrote s m .GLB_RST 0 0) m (2 ^ 30) 15)))
      ∧
    (takesWrite s m .GLB_RST 0 0 = true → exec (.pool m) s = .next (finish s (rstWrite (wrote s m .GLB_RST 0 0) m (2 ^ 29) 15)))
      ∧
    (takesWrite s m .GLB_RST 0 0 = true → exec (.portGo m n) s = .next (finish s (settleSwitch (rstWrite (wrote s m .GLB_RST 0
      0) m (2 ^ 28 + n % 128) 15))))) ∧
  (∀ (s u : State) (at_ : Nat) (fail : Option Nat) (ev : BootEv), u = s.advance at_ → liveRuns u = true →
    exec (.pumpResetEnd at_) s = .next (finish u (pumpResetEnd u)) ∧
    exec (.poolResetEnd at_) s = .next (finish u (poolResetEnd u)) ∧
    exec (.coreWarmResetEnd fail ev at_) s = .next (finish u (coreWarmEnd u ev fail))) ∧
  (∀ (s c d : State) (m : Master), takesWrite s m .GLB_RST 0 0 = true → c = wrote s m .GLB_RST 0 0 → d = c.wr0 F.GLB_RST_CORE_WARM 1 →
    (inCoreReset c = true → exec (.coreWarm m) s = .next (finish s d)) ∧
    (inCoreReset c = false → exec (.coreWarm m) s = .next (finish s (Sys2Proof.Machine.coreWarm d none)))) ∧
  (∀ (s c d : State) (m : Master), takesWrite s m .GLB_RST 0 0 = true → c = wrote s m .GLB_RST 0 0 → d = c.wr0 F.GLB_RST_PUMP 1 →
    ((c.pumpHold.isSome = true ∨ inCoreReset c = true) → exec (.pump m) s = .next (finish s d)) ∧
    (c.pumpHold = none → inCoreReset c = false →
      exec (.pump m) s = .next (finish s (settleGroups (settleBusy (pumpDomainReset (resetTaken d 2 none))))))) ∧
  (∀ (s c d : State) (m : Master), takesWrite s m .GLB_RST 0 0 = true → c = wrote s m .GLB_RST 0 0 → d = c.wr0 F.GLB_RST_POOL 1 →
    ((c.well.poolUntil.isSome = true ∨ inCoreReset c = true) → exec (.pool m) s = .next (finish s d)) ∧
    (c.well.poolUntil = none → inCoreReset c = false →
      exec (.pool m) s = .next (finish s (settleBusy (poolEffects (resetTaken d 3 none)))))) ∧
  (∀ (s c d : State) (m : Master) (n : Nat), n < 128 → takesWrite s m .GLB_RST 0 0 = true → c = wrote s m .GLB_RST 0 0 →
    d = c.wr0 F.GLB_RST_PORT_GO 1 →
    (80 ≤ n → exec (.portGo m n) s = .next (finish s (settleSwitch (c.accessFault m 2 (regOff .GLB_RST 0))))) ∧
    (n < 80 → inCoreReset c = true → exec (.portGo m n) s = .next (finish s (settleSwitch
      { d with rst := { d.rst with ports := d.rst.ports.filter (·.1 != n) ++ [(n, none)] } }))) ∧
    (n < 80 → inCoreReset c = false → exec (.portGo m n) s = .next (finish s (settleSwitch (portReset c n none))))) ∧
  (∀ (s u : State) (at_ : Nat), u = s.advance at_ → liveRuns u = true →
    ((u.pumpHold = none ∨ inCoreReset u = true) → exec (.pumpResetEnd at_) s = .next (finish u u)) ∧
    (u.pumpHold.isSome = true → inCoreReset u = false →
      exec (.pumpResetEnd at_) s = .next (finish u (settleGroups (settleBusy { u with pumpHold := none })))) ∧
    ((u.well.poolUntil = none ∨ inCoreReset u = true) → exec (.poolResetEnd at_) s = .next (finish u u)) ∧
    (u.well.poolUntil.isSome = true → inCoreReset u = false →
      exec (.poolResetEnd at_) s = .next (finish u (settleBusy (modWell u fun w => { w with poolUntil := none }))))) ∧
  ∀ (s u d e f : State) (ev : BootEv) (fail : Option Nat) (at_ : Nat), u = s.advance at_ → liveRuns u = true →
    (inCoreReset u = false → exec (.coreWarmResetEnd fail ev at_) s = .next (finish u u)) ∧
    (inCoreReset u = true →
      d = (List.range 160).foldl (fun s lp => if s.linkUp lp then portCell s lp (pauseHdr 1 20) else s)
        (settleBusy { u with
          rst := ⟨none, [], [], u.rst.running⟩, pumpHold := none, well := { u.well with poolUntil := none } }) →
      e = u.rst.ports.foldl (fun s p => portReset (s.wr0 F.GLB_RST_PORT_GO 0) p.1 p.2) d →
      f = u.rst.held.foldl (runHeld ev) (siteAfterCommit ev e (takeCommit e)) →
      exec (.coreWarmResetEnd fail ev at_) s =
        .next (finish u (settleGroups (dumpNext (f.tel.queue.length + 1) fail f))))

/-- Fault reports and the safe state, with the next state whole. A source without a message changes nothing; one that arrives
whole is taken; one that fails its CRC brings the safe state with cause 2, a word of the collector that fails its parity
with cause 1. A source that is not enabled takes nothing. SAFE_GO enters the safe state with cause 3: SAFE reads 1, every
existing link idles, the uncorrectable internal error is logged, ALIVE is settled and ERR_FATAL goes to the host.
FAULT_N's minimum time ends 10 us after the latch and not before; ALIVE toggles 500 us after the last time while it runs
and REFCLK is there, and otherwise does not (15 R412 to R424, 18 R480). The first clauses say of each command that,
whatever its operands within their range, it answers the next state of its own operation where its part of the block runs
(a register row: where the write is taken; a packet row: where the station holds the packet). -/
def Obligations.FaultsAndSafeState : Prop :=
  (∀ (s u : State) (src at_ : Nat) (bad parity : Option Nat) (ev : BootEv), u = s.advance at_ → chipOn u = true → src < 1024 →
    exec (.faultMessage src bad parity ev at_) s = .next (finish u (settleSwitch (settleSite ev (faultMessage u src bad parity
      ev)))) ∧
    exec (.faultNMinEnd at_) s = .next (finish u (faultMinEnd u)) ∧
    exec (.aliveToggle at_) s = .next (finish u (aliveToggle u))) ∧
  (∀ (s : State) (m : Master),
    takesWrite s m .FLT_CTRL 0 0 = true → exec (.safeGo m) s = .next (finish s (safeEnter (wrote s m .FLT_CTRL 0 0) 3 0))) ∧
  (∀ (s u d : State) (src at_ : Nat) (bad parity : Option Nat) (ev : BootEv), u = s.advance at_ → chipOn u = true → src < 1024 →
    (mget u.flt.held src = none →
      exec (.faultMessage src bad parity ev at_) s = .next (finish u (settleSwitch (settleSite ev u)))) ∧
    ∀ m : HeldMsg, mget u.flt.held src = some m → d = modFlt u (fun f => { f with held := mdel f.held src }) →
      (∀ r : Nat, bad = some r → exec (.faultMessage src bad parity ev at_) s =
        .next (finish u (settleSwitch (settleSite ev (safeEnter d 2 (r % 1024)))))) ∧
      (∀ off : Nat, bad = none → parity = some off → exec (.faultMessage src bad parity ev at_) s =
        .next (finish u (settleSwitch (settleSite ev (safeEnter d 1 (off % 2 ^ 20)))))) ∧
      (bad = none → parity = none → d.flag F.FLT_SRC_CFG_EN src = false →
        exec (.faultMessage src bad parity ev at_) s = .next (finish u (settleSwitch (settleSite ev d)))) ∧
      (bad = none → parity = none → d.flag F.FLT_SRC_CFG_EN src = true →
        exec (.faultMessage src bad parity ev at_) s =
          .next (finish u (settleSwitch (settleSite ev (takeMessage d src m ev)))))) ∧
  (∀ (s c d : State) (m : Master), takesWrite s m .FLT_CTRL 0 0 = true → c = wrote s m .FLT_CTRL 0 0 →
    d = (List.range 160).foldl (fun s lp => if s.lpExists lp then s.wr F.PRT_LSTAT_EIDLE_TX lp 1 else s)
        (((c.wr0 F.FLT_STAT_SAFE 1).wr0 F.FLT_STAT_CAUSE 3).wr0 F.FLT_STAT_WHERE 0) →
      exec (.safeGo m) s = .next (finish s (settleAlive
        (({ d with
          flt := { d.flt with safeAt := some c.now }
          host := { d.host with pcie := { d.host.pcie with aer := Nat.lor d.host.pcie.aer (2 ^ 22) } } } : State).emit
            .errFatal)))) ∧
  (∀ (s u : State) (at_ : Nat), u = s.advance at_ → chipOn u = true →
    (u.flt.latchAt.any (fun t => decide (t + 10000 ≤ u.now)) = true →
      exec (.faultNMinEnd at_) s = .next (finish u { u with flt := { u.flt with latchAt := none } })) ∧
    (u.flt.latchAt.any (fun t => decide (t + 10000 ≤ u.now)) = false →
      exec (.faultNMinEnd at_) s = .next (finish u u))) ∧
  ∀ (s u : State) (at_ : Nat), u = s.advance at_ → chipOn u = true →
    (u.flag F.FLT_STAT_ALIVE_RUN = true → u.pin.refclk = true → u.pin.aliveAt + 500000 ≤ u.now →
      exec (.aliveToggle at_) s =
        .next (finish u { u with pin := { u.pin with alive := !u.pin.alive, aliveAt := u.now } })) ∧
    ((u.flag F.FLT_STAT_ALIVE_RUN = false ∨ u.pin.refclk = false ∨ u.now < u.pin.aliveAt + 500000) →
      exec (.aliveToggle at_) s = .next (finish u u))

/-- Dual active operation of the sequencers, with the next state whole. HEALTH is sent when none was, when a flag has changed
and when HIVL has passed, and not otherwise. A HEALTH kept from the partner sets P_SEEN and P_FLAGS and ends its silence:
one that claims takes COVER_ACT back and is answered, one that has resigned brings cover with kind 0x02, with SEQ_OK and
no cover yet, and another is only kept, yielding where a claim waits; one of another origin or no later than the last is
not kept. The sequencer's test: good with SEQ_OK set and bad with it clear change nothing, the first good one sets SEQ_OK
and, where the engine has not resigned, OWN_ACT, else starts the hold-off; a bad one clears SEQ_OK and resigns; outside a
rack nothing. Cover decides what was asked for when its time has come. A claim starts after the hold-off, completes 2 ms
later once the partner has yielded, with the role, the resent ABORTs and the open requests decided, is late after 1 s; a
partner silent for 16 HIVL is reported once. A Gesta core resigns; core 0 takes its role back after the hold-off. Where
its condition does not hold each of these changes nothing (15 R433 to R440, 06 R182). The first clauses say of each
command that, whatever its operands within their range, it answers the next state of its own operation where its part of
the block runs (a register row: where the write is taken; a packet row: where the station holds the packet). -/
def Obligations.DualActive : Prop :=
  (∀ (s u : State) (at_ : Nat) (ok : Bool), u = s.advance at_ → coreRuns u = true →
    exec (.healthSend at_) s = .next (finish u (healthDue u)) ∧
    exec (.seqKnownAnswerTest ok at_) s = .next (finish u (settleGroups (seqTest u ok))) ∧
    exec (.coverDecideStart at_) s = .next (finish u (settleGroups (coverDecide u))) ∧
    exec (.takebackClaim at_) s = .next (finish u (takebackClaim u)) ∧
    exec (.takebackComplete at_) s = .next (finish u (takebackComplete u)) ∧
    exec (.takebackTimeout at_) s = .next (finish u (takebackTimeout u)) ∧
    exec (.partnerSilent at_) s = .next (finish u (partnerSilent u))) ∧
  (∀ (s u : State) (p : StPkt) (at_ : Nat), u = s.advance at_ →
    stationHas u p 0x05 = true → exec (.health p at_) s = .next (finish u (settleGroups (healthReceive u p)))) ∧
  (∀ (s u : State) (c at_ : Nat), u = s.advance at_ → chipOn u = true → c < 2 →
    exec (.gestaCoreResign c at_) s = .next (finish u (coreResign u c)) ∧
    exec (.gestaTakeback at_) s = .next (finish u (coreTakeback u))) ∧
  (∀ (s u : State) (at_ : Nat), u = s.advance at_ → coreRuns u = true →
    (u.flt.sent = none → exec (.healthSend at_) s = .next (finish u (sendHealth u))) ∧
    ∀ t0 fl : Nat, u.flt.sent = some (t0, fl) →
      ((fl ≠ healthFlags u ∨ t0 + 1000 * u.rd0 F.FLT_DA_CFG_HIVL ≤ u.now) →
        exec (.healthSend at_) s = .next (finish u (sendHealth u))) ∧
      (fl = healthFlags u → u.now < t0 + 1000 * u.rd0 F.FLT_DA_CFG_HIVL →
        exec (.healthSend at_) s = .next (finish u u))) ∧
  (∀ (s u c d : State) (p : StPkt) (at_ fl : Nat) (late : Bool), u = s.advance at_ → stationHas u p 0x05 = true →
    c = takeStation u p → p.hdr.opcode = 5 → fl = p.hdr.opw1 % 64 →
    late = (c.flt.pSeq.any fun q => !(decide (1 ≤ (p.hdr.opw2 + 2 ^ 32 - q) % 2 ^ 32)
      && decide ((p.hdr.opw2 + 2 ^ 32 - q) % 2 ^ 32 < 2 ^ 31))) →
    d = modFlt ((c.wr0 F.FLT_DA_STAT_P_SEEN 1).wr0 F.FLT_DA_STAT_P_FLAGS fl) (fun f =>
      { f with pSeq := some p.hdr.opw2, pAt := some c.now, silent := false
               yielded := f.yielded || (f.claimAt.isSome && !bitAt fl 4) }) →
    ((c.isRack = false ∨ bits p.hdr.opw0 0 20 ≠ mkEid c.ownRow c.ownCol (eidSlot c.selfEid) 2 (partnerPlane c) ∨ late = true) →
      exec (.health p at_) s = .next (finish u (settleGroups c))) ∧
    (c.isRack = true → bits p.hdr.opw0 0 20 = mkEid c.ownRow c.ownCol (eidSlot c.selfEid) 2 (partnerPlane c) → late = false →
      (bitAt fl 2 = true → exec (.health p at_) s = .next (finish u (settleGroups
        (sendHealth { d.wr0 F.FLT_DA_STAT_COVER_ACT 0 with coverFrom := none })))) ∧
      (bitAt fl 2 = false → bitAt fl 1 = true → d.flag F.FLT_DA_STAT_SEQ_OK = true → d.flag F.FLT_DA_STAT_COVER_ACT = false →
        exec (.health p at_) s = .next (finish u (settleGroups
          (healthOnChange (coverResend (daFault { d.wr0 F.FLT_DA_STAT_COVER_ACT 1 with coverFrom := some (d.now + 2000000) } 2
            (partnerPlane c))))))) ∧
      (bitAt fl 2 = false → (bitAt fl 1 = false ∨ d.flag F.FLT_DA_STAT_SEQ_OK = false ∨ d.flag F.FLT_DA_STAT_COVER_ACT = true) →
        exec (.health p at_) s = .next (finish u (settleGroups d))))) ∧
  (∀ (s u d : State) (ok : Bool) (at_ : Nat), u = s.advance at_ → coreRuns u = true → d = u.wr0 F.FLT_DA_STAT_SEQ_OK 1 →
    ((u.isRack = false ∨ ok = u.flag F.FLT_DA_STAT_SEQ_OK) →
      exec (.seqKnownAnswerTest ok at_) s = .next (finish u (settleGroups u))) ∧
    (u.isRack = true → ok = true → u.flag F.FLT_DA_STAT_SEQ_OK = false →
      (u.flag F.FLT_DA_STAT_RESIGNED = true → exec (.seqKnownAnswerTest ok at_) s = .next (finish u (settleGroups
        (healthOnChange (modFlt d fun f => { f with okSince := some u.now }))))) ∧
      (u.flag F.FLT_DA_STAT_RESIGNED = false →
        exec (.seqKnownAnswerTest ok at_) s =
          .next (finish u (settleGroups (healthOnChange (d.wr0 F.FLT_DA_STAT_OWN_ACT 1)))))) ∧
    (u.isRack = true → ok = false → u.flag F.FLT_DA_STAT_SEQ_OK = true →
      exec (.seqKnownAnswerTest ok at_) s =
        .next (finish u (settleGroups (seqResign (u.wr0 F.FLT_DA_STAT_SEQ_OK 0)))))) ∧
  (∀ (s u : State) (at_ : Nat), u = s.advance at_ → coreRuns u = true →
    (u.coverFrom.any (fun t => decide (t ≤ u.now)) = false →
      exec (.coverDecideStart at_) s = .next (finish u (settleGroups u))) ∧
    (u.coverFrom.any (fun t => decide (t ≤ u.now)) = true →
      exec (.coverDecideStart at_) s = .next (finish u (settleGroups ((u.grps.map (·.1)).foldl (fun s g =>
        if actsFor s g && effHome s g == some (Nat.xor u.plane 8) then
          (getGrp s g).asked.foldl (fun s e => decideAbort s g e.1 e.2) s
        else s) { u with coverFrom := none }))))) ∧
  (∀ (s u : State) (at_ : Nat) (due : Prop), u = s.advance at_ → coreRuns u = true →
    (due ↔ u.rd0 F.FLT_DA_CFG_HOLDOFF ≠ 0 ∧ u.flag F.FLT_DA_STAT_RESIGNED = true ∧ u.flag F.FLT_DA_STAT_SEQ_OK = true ∧
      u.flt.claimAt = none ∧ u.flt.okSince.any (fun t => decide (t + 100000000 * u.rd0 F.FLT_DA_CFG_HOLDOFF ≤ u.now)) = true) →
    (¬ due → exec (.takebackClaim at_) s = .next (finish u u)) ∧
    (due → exec (.takebackClaim at_) s = .next (finish u (sendHealth (modFlt (u.wr0 F.FLT_DA_STAT_TAKEBACK 1)
      fun f => { f with claimAt := some u.now, yielded := false, claimLate := false }))))) ∧
  (∀ (s u d : State) (at_ : Nat) (due : Prop), u = s.advance at_ → coreRuns u = true →
    (due ↔ u.flt.yielded = true ∧ u.flt.claimAt.any (fun t => decide (t + 2000000 ≤ u.now)) = true) →
    d = sendHealth (daFault (modFlt
      (((u.wr0 F.FLT_DA_STAT_OWN_ACT 1).wr0 F.FLT_DA_STAT_TAKEBACK 0).wr0 F.FLT_DA_STAT_RESIGNED 0)
      fun f => { f with claimAt := none, yielded := false, okSince := none }) 3 u.plane) →
    (¬ due → exec (.takebackComplete at_) s = .next (finish u u)) ∧
    (due → exec (.takebackComplete at_) s =
      .next (finish u (settleGroups (decideAsked (resendAborts d u.plane) u.plane))))) ∧
  (∀ (s u : State) (at_ : Nat) (late gone : Prop), u = s.advance at_ → coreRuns u = true →
    (late ↔ u.flt.yielded = false ∧ u.flt.claimLate = false ∧
      u.flt.claimAt.any (fun t => decide (t + 1000000000 ≤ u.now)) = true) →
    (gone ↔ u.isRack = true ∧ u.rd0 F.FLT_DA_CFG_HIVL ≠ 0 ∧ u.flt.silent = false ∧
      u.flt.pAt.getD 0 + 16000 * u.rd0 F.FLT_DA_CFG_HIVL ≤ u.now) →
    (¬ late → exec (.takebackTimeout at_) s = .next (finish u u)) ∧
    (late → exec (.takebackTimeout at_) s =
      .next (finish u (daFault (modFlt u fun f => { f with claimLate := true }) 5 (partnerPlane u)))) ∧
    (¬ gone → exec (.partnerSilent at_) s = .next (finish u u)) ∧
    (gone → exec (.partnerSilent at_) s = .next (finish u
      (daFault (modFlt (u.wr0 F.FLT_DA_STAT_P_SEEN 0) fun f => { f with silent := true }) 4 (partnerPlane u))))) ∧
  (∀ (s u : State) (k at_ : Nat), u = s.advance at_ → chipOn u = true → k < 2 →
    (coreRole u k < 2 → exec (.gestaCoreResign k at_) s = .next (finish u u)) ∧
    (2 ≤ coreRole u k → exec (.gestaCoreResign k at_) s = .next (finish u (settleAlive (daFault
      (modGmc (coreLeaves u k 0) fun g => { g with resigned := mput g.resigned k u.now }) 6 k))))) ∧
  ∀ (s u d : State) (at_ : Nat) (due : Prop), u = s.advance at_ → chipOn u = true → d = coreReturn (coreReturn u 0) 1 →
    (due ↔ d.rd0 F.FLT_DA_CFG_HOLDOFF ≠ 0 ∧ coreRole d 0 = 2 ∧ coreRole d 1 = 3 ∧
      d.gmc.core0Ready.any (fun t => decide (t + 100000000 * d.rd0 F.FLT_DA_CFG_HOLDOFF ≤ d.now)) = true) →
    (¬ due → exec (.gestaTakeback at_) s = .next (finish u d)) ∧
    (due → exec (.gestaTakeback at_) s = .next (finish u
      (daFault (modGmc (setRole (setRole d 0 3) 1 2) fun g => { g with core0Ready := none }) 7 0)))

/-- The power cap and its loop, with the next state whole. A loop period takes the measured power, judges the heat balance,
settles the thermal limit and the cap, then steps the levels unless a CAPDROP holds them; OVERRUN follows from a clock
below the cap's, with kind 0x09 when it begins; with BRK_HOLD 0 a CAPDROP that did not begin with this period ends. A
write of a cap settles the effective one, a rack write renews the lease, or has none with LEASE 0; a lapsed lease falls
back with kind 0x01, one that has not lapsed goes on; a CAPDROP ends after BRK_HOLD and not before (16 R443 to R452,
R455). The first clauses say of each command that, whatever its operands within their range, it answers the next state of
its own operation where its part of the block runs (a register row: where the write is taken; a packet row: where the
station holds the packet). -/
def Obligations.PowerCaps : Prop :=
  (∀ (s u : State) (p at_ : Nat), u = s.advance at_ → chipOn u = true →
    exec (.powerLoop p at_) s = .next (finish u (powerLoop u p)) ∧
    exec (.rackLeaseLapse at_) s = .next (finish u (leaseLapse u)) ∧
    exec (.capdropEnd at_) s = .next (finish u (capdropEnd u))) ∧
  (∀ (s : State) (m : Master) (val be : Nat), val < 2 ^ 32 → beOk m be = true →
    (takesWrite s m .PWR_CAP_HOST 0 0 = true → exec (.pwrCapHostWrite m val be) s = .next (finish s (capHostWrite (wrote s m
      .PWR_CAP_HOST 0 0) m val be))) ∧
    (takesWrite s m .PWR_CAP_RACK 0 0 = true → exec (.pwrCapRackWrite m val be) s = .next (finish s (capRackWrite (wrote s m
      .PWR_CAP_RACK 0 0) m val be)))) ∧
  (∀ (s u a b c d e : State) (p at_ f w : Nat) (slow : Bool), u = s.advance at_ → chipOn u = true →
    a = heatAgain (modPwr (u.wr0 F.PWR_MEAS_P p) fun w => { w with thLast := w.thLast.map (spanP p) }) →
    b = settleCap (setPt a (thermalLimit a)) →
    (f, w) = (if b.pwr.capdrop.isSome = true then (b.pwr.f, b.pwr.u) else loopStep b p) →
    slow = decide (f < fCapFor b (b.rd0 F.PWR_STAT_EFF_CAP)) →
    c = modPwr b (fun x => { x with f := f, u := w, tPeak := none }) →
    d = (if slow = true ∧ u.flag F.PWR_STAT_OVERRUN = false then pwrFault c 9 f else c) →
    e = settleLevels (d.wr0 F.PWR_STAT_OVERRUN (b2n slow)) →
    (u.rd0 F.PWR_BRK_CFG_BRK_HOLD = 0 → u.pwr.capdrop.isSome = true → e.pwr.capdrop = u.pwr.capdrop →
      exec (.powerLoop p at_) s = .next (finish u
        (setCause (modPwr e fun w => { w with capdrop := none }) F.PWR_BRK_STAT_CAPDROP false))) ∧
    ((u.rd0 F.PWR_BRK_CFG_BRK_HOLD ≠ 0 ∨ u.pwr.capdrop = none ∨ e.pwr.capdrop ≠ u.pwr.capdrop) →
      exec (.powerLoop p at_) s = .next (finish u e))) ∧
  (∀ (s c : State) (m : Master) (val be : Nat), val < 2 ^ 32 → beOk m be = true → takesWrite s m .PWR_CAP_HOST 0 0 = true →
    c = wrote s m .PWR_CAP_HOST 0 0 →
    exec (.pwrCapHostWrite m val be) s = .next (finish s (settleCap (writeWord c m .PWR_CAP_HOST 0 0 val be)))) ∧
  (∀ (s c d : State) (m : Master) (val be l : Nat), val < 2 ^ 32 → beOk m be = true → takesWrite s m .PWR_CAP_RACK 0 0 = true →
    c = wrote s m .PWR_CAP_RACK 0 0 → d = writeWord c m .PWR_CAP_RACK 0 0 val be → l = d.rd0 F.PWR_LEASE_LEASE →
    (l ≠ 0 → exec (.pwrCapRackWrite m val be) s = .next (finish s (settleCap ((modPwr d fun w =>
      { w with rack := 1, leaseEnd := some (c.now + 100000000 * l) }).wr0 F.PWR_STAT_LEASE_OK 1)))) ∧
    (l = 0 → exec (.pwrCapRackWrite m val be) s = .next (finish s (settleCap ((modPwr d fun w =>
      { w with rack := 1, leaseEnd := none }).wr0 F.PWR_STAT_LEASE_OK 0))))) ∧
  (∀ (s u : State) (at_ : Nat), u = s.advance at_ → chipOn u = true →
    (u.pwr.leaseEnd.any (fun t => decide (t ≤ u.now)) = true →
      exec (.rackLeaseLapse at_) s = .next (finish u (settleCap (pwrFault
        ((modPwr u fun w => { w with rack := 2, leaseEnd := none }).wr0 F.PWR_STAT_LEASE_OK 0) 1
        (u.rd0 F.PWR_LEASE_FALLBACK))))) ∧
    (u.pwr.leaseEnd.any (fun t => decide (t ≤ u.now)) = false → exec (.rackLeaseLapse at_) s = .next (finish u u))) ∧
  ∀ (s u : State) (at_ : Nat), u = s.advance at_ → chipOn u = true →
    (u.rd0 F.PWR_BRK_CFG_BRK_HOLD ≠ 0 →
      u.pwr.capdrop.any (fun t => decide (t + 1000000 * u.rd0 F.PWR_BRK_CFG_BRK_HOLD ≤ u.now)) = true →
      exec (.capdropEnd at_) s = .next (finish u
        (setCause (modPwr u fun w => { w with capdrop := none }) F.PWR_BRK_STAT_CAPDROP false))) ∧
    ((u.rd0 F.PWR_BRK_CFG_BRK_HOLD = 0 ∨
        u.pwr.capdrop.any (fun t => decide (t + 1000000 * u.rd0 F.PWR_BRK_CFG_BRK_HOLD ≤ u.now)) = false) →
      exec (.capdropEnd at_) s = .next (finish u u))

/-- The power brake, coolant and heat, with the next state whole. A request write sets a cause that begins before it clears
one that ends. Each pin that returns clears its cause, held low for 500 ns it raises it, and for less it only has its
level; the coolant's also times the failure. On a chip that is not on a pin only has its level. A coolant failure or a
leak held for CF_SHUT shuts down with cause 2, and not with CF_SHUT 0 or before. A sample of the diodes fails those out of
range and those 20 degrees from their group's median for 100 ms, sets TJ_MAX and HOT with failed ones 10 degrees above the
hottest healthy, raises T_OPER's cause with kind 0x04 and clears it 3 degrees below, and shuts down at the second sample
in a row at T_SHUT, or with a whole group failed. A reading of the thermistors and the leak loop fails the implausible,
keeps the readings, judges the heat balance, sets T_IN and T_OUT, limits a hot inlet with kind 0x06 and raises or clears
the leak's cause with kind 0x07. Thresholds in order up to 112 are taken, others are an access fault. THERMTRIP_N goes low
with VDD_AON and does not without; EPO_N low for 200 ns on a chip that is on brings the safe state with cause 4, and
otherwise only has its level (16 R450 to R461). The first clauses say of each command that, whatever its operands within
their range, it answers the next state of its own operation where its part of the block runs (a register row: where the
write is taken; a packet row: where the station holds the packet). -/
def Obligations.BrakeAndHeat : Prop :=
  (∀ (s : State) (m : Master) (val be : Nat), val < 2 ^ 32 → beOk m be = true →
    (takesWrite s m .PWR_BRK_REQ 0 0 = true → exec (.pwrBrkReqWrite m val be) s = .next (finish s (brkReqWrite (wrote s m
      .PWR_BRK_REQ 0 0) m val be))) ∧
    (takesWrite s m .PWR_THERM_CFG 0 0 = true → exec (.pwrThermCfgWrite m val be) s = .next (finish s (thermCfgWrite (wrote s m
      .PWR_THERM_CFG 0 0) m val be)))) ∧
  (∀ (s u : State) (high : Bool) (lowNs at_ loopR : Nat) (rs : List Int) (tin tout : Int), u = s.advance at_ → chipOn u = true →
    exec (.pwrbrkNChange high lowNs at_) s = .next (finish u (brakePin { u with pin := { u.pin with pwrbrk := high } }
      F.PWR_BRK_STAT_PIN high lowNs)) ∧
    exec (.busUvNChange high lowNs at_) s = .next (finish u (brakePin { u with pin := { u.pin with busUv := high } }
      F.PWR_BRK_STAT_UV high lowNs)) ∧
    exec (.coolantFailNChange high lowNs at_) s = .next (finish u (coolantPin { u with pin := { u.pin with coolant := high } }
      high lowNs)) ∧
    exec (.coolantShutdown at_) s = .next (finish u (coolantShutdown u)) ∧
    exec (.diodeSample rs at_) s = .next (finish u (diodeSample u rs)) ∧
    exec (.thermistorRead tin tout loopR at_) s = .next (finish u (thermistorRead u tin tout loopR))) ∧
  (∀ (s u : State) (at_ lowNs : Nat) (high : Bool), u = s.advance at_ →
    exec (.thermtripN at_) s = .next (finish u (thermTrip u)) ∧
    exec (.epoN high lowNs at_) s = .next (finish u (epoPin u high lowNs))) ∧
  (∀ (s c d : State) (m : Master) (val be : Nat) (h r : Bool), val < 2 ^ 32 → beOk m be = true →
    takesWrite s m .PWR_BRK_REQ 0 0 = true → c = wrote s m .PWR_BRK_REQ 0 0 → d = writeWord c m .PWR_BRK_REQ 0 0 val be →
    h = d.flag F.PWR_BRK_REQ_HOST_REQ → r = d.flag F.PWR_BRK_REQ_RACK_REQ →
    (h = true → exec (.pwrBrkReqWrite m val be) s = .next (finish s
      (setCause (setCause d F.PWR_BRK_STAT_HOST_REQ true) F.PWR_BRK_STAT_RACK_REQ r))) ∧
    (h = false → exec (.pwrBrkReqWrite m val be) s = .next (finish s
      (setCause (setCause d F.PWR_BRK_STAT_RACK_REQ r) F.PWR_BRK_STAT_HOST_REQ false)))) ∧
  (∀ (s u a b c : State) (high : Bool) (n at_ : Nat), u = s.advance at_ → a = { u with pin := { u.pin with pwrbrk := high } } →
    b = { u with pin := { u.pin with busUv := high } } → c = { u with pin := { u.pin with coolant := high } } →
    (chipOn u = false → exec (.pwrbrkNChange high n at_) s = .next (finish u a) ∧
      exec (.busUvNChange high n at_) s = .next (finish u b) ∧ exec (.coolantFailNChange high n at_) s = .next (finish u c)) ∧
    (chipOn u = true → high = true →
      exec (.pwrbrkNChange high n at_) s = .next (finish u (setCause a F.PWR_BRK_STAT_PIN false)) ∧
      exec (.busUvNChange high n at_) s = .next (finish u (setCause b F.PWR_BRK_STAT_UV false)) ∧
      exec (.coolantFailNChange high n at_) s =
        .next (finish u (setCause (modPwr c fun w => { w with coolSince := none }) F.PWR_BRK_STAT_COOL false))) ∧
    (chipOn u = true → high = false → n < 500 → exec (.pwrbrkNChange high n at_) s = .next (finish u a) ∧
      exec (.busUvNChange high n at_) s = .next (finish u b) ∧ exec (.coolantFailNChange high n at_) s = .next (finish u c)) ∧
    (chipOn u = true → high = false → 500 ≤ n →
      exec (.pwrbrkNChange high n at_) s = .next (finish u (setCause a F.PWR_BRK_STAT_PIN true)) ∧
      exec (.busUvNChange high n at_) s = .next (finish u (setCause b F.PWR_BRK_STAT_UV true)) ∧
      exec (.coolantFailNChange high n at_) s = .next (finish u (setCause
        (modPwr c fun w => { w with coolSince := some (w.coolSince.getD (u.now - n)) }) F.PWR_BRK_STAT_COOL true)))) ∧
  (∀ (s u : State) (at_ cf : Nat) (due : Prop), u = s.advance at_ → chipOn u = true → cf = u.rd0 F.PWR_COOL_CFG_CF_SHUT →
    (due ↔ cf ≠ 0 ∧ (u.pwr.coolSince.any (fun t => decide (t + 100000000 * cf ≤ u.now)) = true ∨
      u.pwr.leakSince.any (fun t => decide (t + 100000000 * cf ≤ u.now)) = true)) →
    (due → exec (.coolantShutdown at_) s = .next (finish u (thermalShutdown u 2))) ∧
    (¬ due → exec (.coolantShutdown at_) s = .next (finish u u))) ∧
  (∀ (s u a b c d e : State) (rs used : List Int) (dev : List (Nat × Nat)) (at_ hot oper shut : Nat) (top tj : Int) (isHot : Bool),
    u = s.advance at_ → chipOn u = true →
    a = (List.range 20).foldl (fun s k => if rs.getD k 0 < -400 ∨ rs.getD k 0 > 1500 then failSensor s k else s) u →
    dev = (((List.range 20).filter fun k => !sensorFailed a k && diodeOff a rs k).map fun k => (k, mgetD u.pwr.dev k u.now)) →
    b = dev.foldl (fun s x => if x.2 + 100000000 ≤ s.now then failSensor s x.1 else s) a →
    top = (((List.range 20).filter fun k => !sensorFailed b k).map fun k => rs.getD k 0).foldl max (-400) →
    used = (List.range 20).map (fun k => if sensorFailed b k then top + 100 else rs.getD k 0) →
    tj = used.foldl max (-1000) → hot = ((List.range 20).find? fun k => used.getD k 0 == tj).getD 0 →
    c = modPwr ((b.wr0 F.PWR_TEMP_TJ_MAX (min 255 (tj.fdiv 10).toNat)).wr0 F.PWR_TEMP_HOT hot) (fun w => { w with
      dev := dev, diodes := used
      tPeak := some (match w.tPeak with
        | some t => max t (tj.fdiv 10)
        | none => tj.fdiv 10) }) →
    oper = u.rd0 F.PWR_THERM_CFG_T_OPER → shut = u.rd0 F.PWR_THERM_CFG_T_SHUT →
    d = (if (oper != 0 && decide (tj > 10 * (oper : Int))) = true ∧ c.flag F.PWR_BRK_STAT_TOPER = false then
        pwrFault (setCause c F.PWR_BRK_STAT_TOPER true) 4 hot
      else if (oper == 0 || decide (tj ≤ 10 * ((oper : Int) - 3))) = true then setCause c F.PWR_BRK_STAT_TOPER false else c) →
    isHot = (shut != 0 && decide (tj ≥ 10 * (shut : Int))) → e = modPwr d (fun w => { w with hotLast := isHot }) →
    (isHot = true → u.pwr.hotLast = true → exec (.diodeSample rs at_) s = .next (finish u (thermalShutdown e 1))) ∧
    ((isHot = false ∨ u.pwr.hotLast = false) →
      ([[0, 1, 2, 3], [4, 5, 6, 7], [16, 17, 18, 19]].any fun g => g.all (sensorFailed e)) = true →
      exec (.diodeSample rs at_) s = .next (finish u (thermalShutdown e 3))) ∧
    ((isHot = false ∨ u.pwr.hotLast = false) →
      ([[0, 1, 2, 3], [4, 5, 6, 7], [16, 17, 18, 19]].any fun g => g.all (sensorFailed e)) = false →
      exec (.diodeSample rs at_) s = .next (finish u e))) ∧
  (∀ (s u a b c d e f g : State) (tin tout useIn : Int) (loopR at_ imax : Nat) (hot leak : Bool), u = s.advance at_ →
    chipOn u = true →
    a = (if (!sensorFailed u 20 && thBad u 20 tin) = true then failSensor u 20 else u) →
    b = (if (!sensorFailed a 21 && thBad a 21 tout) = true then failSensor a 21 else a) →
    c = heatBalance (thKeep (thKeep b 20 tin) 21 tout) tin tout →
    d = (if loopR > 1000 then failSensor c 22 else c) → imax = u.rd0 F.PWR_THERM_CFG_INLET_MAX →
    useIn = (if (sensorFailed d 20 || sensorFailed d 21) = true then 10 * ((imax : Int) + 1) else tin) →
    hot = (imax != 0 && decide (useIn > 10 * (imax : Int))) →
    e = modPwr (if hot = true ∧ u.pwr.inletHot = false
      then pwrFault ((d.wr0 F.PWR_TEMP_T_IN (showDeg useIn)).wr0 F.PWR_TEMP_T_OUT (showDeg tout)) 6 (showDeg useIn)
      else (d.wr0 F.PWR_TEMP_T_IN (showDeg useIn)).wr0 F.PWR_TEMP_T_OUT (showDeg tout)) (fun w => { w with inletHot := hot }) →
    f = (if hot = true then settleCap (setPt e (min (e.rd0 F.PWR_MEAS_P_T)
      (if u.rd0 F.PWR_LEASE_FALLBACK = 0 then 980 else u.rd0 F.PWR_LEASE_FALLBACK))) else e) →
    leak = (leakReads loopR || sensorFailed f 22) →
    g = modPwr (if leak = true ∧ u.pwr.leak = false then pwrFault f 7 22 else f)
      (fun w => { w with leak := leak, leakSince := if leak then some (w.leakSince.getD u.now) else none }) →
    exec (.thermistorRead tin tout loopR at_) s = .next (finish u (setCause g F.PWR_BRK_STAT_LEAK leak))) ∧
  (∀ (s c d : State) (m : Master) (val be : Nat) (xs : List Nat), val < 2 ^ 32 → beOk m be = true →
    takesWrite s m .PWR_THERM_CFG 0 0 = true → c = wrote s m .PWR_THERM_CFG 0 0 → d = writeWord c m .PWR_THERM_CFG 0 0 val be →
    xs = (([F.PWR_THERM_CFG_T_THR, F.PWR_THERM_CFG_T_OPER, F.PWR_THERM_CFG_T_SHUT].map d.rd0).filter (· != 0)) →
    (((xs.zip (xs.drop 1)).all fun e => decide (e.1 < e.2)) = true → d.rd0 F.PWR_THERM_CFG_T_SHUT ≤ 112 →
      exec (.pwrThermCfgWrite m val be) s = .next (finish s d)) ∧
    ((((xs.zip (xs.drop 1)).all fun e => decide (e.1 < e.2)) = false ∨ 112 < d.rd0 F.PWR_THERM_CFG_T_SHUT) →
      exec (.pwrThermCfgWrite m val be) s = .next (finish s (c.accessFault m 1 (regOff .PWR_THERM_CFG 0))))) ∧
  (∀ (s u : State) (at_ : Nat), u = s.advance at_ →
    (u.pin.aon = true → exec (.thermtripN at_) s = .next (finish u { u with pin := { u.pin with thermtrip := true } })) ∧
    (u.pin.aon = false → exec (.thermtripN at_) s = .next (finish u u))) ∧
  ∀ (s u d : State) (high : Bool) (n at_ : Nat), u = s.advance at_ → d = { u with pin := { u.pin with epo := high } } →
    ((high = true ∨ n < 200 ∨ chipOn u = false) → exec (.epoN high n at_) s = .next (finish u d)) ∧
    (high = false → 200 ≤ n → chipOn u = true → exec (.epoN high n at_) s = .next (finish u (safeEnter d 4 0)))

/-- Telemetry, with the next state whole. A counter is written by its low word, held for the master, and its high word. A
bandwidth window ends at a tick that is a multiple of WIN: LAST of every link is its bytes, PEAK the larger of them and
the peak before, and the next window starts; otherwise, and with WIN 0, nothing. A write of TEL_BW_CFG abandons the
window, one of a WIN above 65536 is an access fault, one that enables none of its bytes changes nothing more. A write of
TEL_RING_CFG: without byte 3, or with EN as it was, its fields but EN, and PAGES not while EN is 1, where a change is an
access fault; EN 0 turns the ring off; EN 1 on a ring that is off turns it on with WPTR 0, and with PAGES 0 is an access
fault. A periodic dump is asked for at a multiple of its interval, skipped with kind 0x02 while one of its kind runs or
waits; otherwise nothing. A dump that runs ends with its end record, its completion or vector, and the next starts; with
none nothing (17 R464, R471, R473 to R478). The first clauses say of each command that, whatever its operands within their
range, it answers the next state of its own operation where its part of the block runs (a register row: where the write is
taken; a packet row: where the station holds the packet). -/
def Obligations.Telemetry : Prop :=
  (∀ (s : State) (m : Master) (off val be : Nat), off < 1601536 → val < 2 ^ 32 → beOk m be = true →
    (takesWrite s m .TEL_CNT (off / 8) 0 = true → exec (.counterLowWrite m off val be) s = .next (finish s (counterLow (wrote s
      m .TEL_CNT (off / 8) 0) m (off / 8 * 8) val be))) ∧
    (takesWrite s m .TEL_CNT (off / 8) 1 = true → exec (.counterHighWrite m off val be) s = .next (finish s (counterHigh (wrote
      s m .TEL_CNT (off / 8) 1) m (off / 8 * 8) val be))) ∧
    (takesWrite s m .TEL_BW_CFG 0 0 = true → exec (.telBwCfgWrite m val be) s = .next (finish s (bwCfgWrite (wrote s m
      .TEL_BW_CFG 0 0) m val be))) ∧
    (takesWrite s m .TEL_RING_CFG 0 0 = true → exec (.telRingCfgWrite m val be) s = .next (finish s (ringCfgWrite (wrote s m
      .TEL_RING_CFG 0 0) m val be)))) ∧
  (∀ (s u : State) (at_ : Nat) (fail : Option Nat), u = s.advance at_ → coreRuns u = true →
    exec (.bwWindowEnd at_) s = .next (finish u (bwWindowEnd u)) ∧
    exec (.periodicDumpStart fail at_) s = .next (finish u (periodicDump u fail)) ∧
    exec (.dumpEnd fail at_) s = .next (finish u (dumpEnd u fail))) ∧
  (∀ (s c : State) (m : Master) (k val be : Nat), k < 200192 → val < 2 ^ 32 → beOk m be = true → takesWrite s m .TEL_CNT k 0 = true →
    c = wrote s m .TEL_CNT k 0 →
    exec (.counterLowWrite m (8 * k) val be) s = .next (finish s { c with
      heldW := mput c.heldW (masterCode m * 2 ^ 26 + telBase + 8 * k) (mergeWord (counterVal c (8 * k) % 2 ^ 32) val be) })) ∧
  (∀ (s c : State) (m : Master) (k val be : Nat), k < 200192 → val < 2 ^ 32 → beOk m be = true → takesWrite s m .TEL_CNT k 1 = true →
    c = wrote s m .TEL_CNT k 1 →
    exec (.counterHighWrite m (8 * k) val be) s = .next (finish s (setCounter
      { c with heldW := mdel c.heldW (masterCode m * 2 ^ 26 + telBase + 8 * k) } (8 * k)
      (mergeWord (counterVal c (8 * k) / 2 ^ 32) val be % 65536 * 2 ^ 32 + mgetD c.heldW (masterCode m * 2 ^ 26 + telBase + 8 * k) 0)))) ∧
  (∀ (s u : State) (at_ win : Nat) (put : List (Nat × Nat) → Nat → Nat → Nat → List (Nat × Nat)), u = s.advance at_ →
    coreRuns u = true → win = u.rd0 F.TEL_BW_CFG_WIN →
    put = (fun c lp k v => mset 0 (mset 0 c (0x180000 + (lp * 4 + k) * 8) v) (0x180000 + (lp * 4 + k) * 8 + 16)
      (max v (mgetD (mset 0 c (0x180000 + (lp * 4 + k) * 8) v) (0x180000 + (lp * 4 + k) * 8 + 16) 0))) →
    ((win = 0 ∨ u.atTick win = false) → exec (.bwWindowEnd at_) s = .next (finish u u)) ∧
    (win ≠ 0 → u.atTick win = true → exec (.bwWindowEnd at_) s = .next (finish u (modTel u fun t => { t with
      cnt := (List.range 160).foldl (fun c lp => put (put c lp 0 (mgetD t.bwTx lp 0)) lp 1 (mgetD t.bwRx lp 0)) t.cnt
      bwTx := [], bwRx := [], winStart := u.now })))) ∧
  (∀ (s c d : State) (m : Master) (val be : Nat), val < 2 ^ 32 → beOk m be = true → takesWrite s m .TEL_BW_CFG 0 0 = true →
    c = wrote s m .TEL_BW_CFG 0 0 → d = writeWord c m .TEL_BW_CFG 0 0 val be →
    (be % 8 = 0 → exec (.telBwCfgWrite m val be) s = .next (finish s d)) ∧
    (be % 8 ≠ 0 → 65536 < d.rd0 F.TEL_BW_CFG_WIN →
      exec (.telBwCfgWrite m val be) s = .next (finish s (c.accessFault m 1 (regOff .TEL_BW_CFG 0)))) ∧
    (be % 8 ≠ 0 → d.rd0 F.TEL_BW_CFG_WIN ≤ 65536 →
      exec (.telBwCfgWrite m val be) s =
        .next (finish s (modTel d fun t => { t with bwTx := [], bwRx := [], winStart := c.now })))) ∧
  (∀ (s c d e : State) (m : Master) (val be off : Nat) (on lock : Bool), val < 2 ^ 32 → beOk m be = true →
    takesWrite s m .TEL_RING_CFG 0 0 = true → c = wrote s m .TEL_RING_CFG 0 0 → on = c.flag F.TEL_RING_CFG_EN →
    off = regOff .TEL_RING_CFG 0 →
    lock = (on && (bitAt be 0 || bitAt be 1) && fieldAfter c F.TEL_RING_CFG_PAGES 0 val be != c.rd0 F.TEL_RING_CFG_PAGES) →
    d = writeWord c m .TEL_RING_CFG 0 0 val be (fun f => f != F.TEL_RING_CFG_EN && !(on && f == F.TEL_RING_CFG_PAGES)) →
    e = (if lock = true then d.accessFault m 1 off else d) →
    (bitAt be 3 = false → exec (.telRingCfgWrite m val be) s = .next (finish s e)) ∧
    (bitAt be 3 = true → bitAt val 31 = false → exec (.telRingCfgWrite m val be) s = .next (finish s (e.wr0 F.TEL_RING_CFG_EN 0))) ∧
    (bitAt be 3 = true → bitAt val 31 = true → e.rd0 F.TEL_RING_CFG_PAGES = 0 →
      exec (.telRingCfgWrite m val be) s = .next (finish s (e.accessFault m 1 off))) ∧
    (bitAt be 3 = true → bitAt val 31 = true → e.rd0 F.TEL_RING_CFG_PAGES ≠ 0 → on = true →
      exec (.telRingCfgWrite m val be) s = .next (finish s e)) ∧
    (bitAt be 3 = true → bitAt val 31 = true → e.rd0 F.TEL_RING_CFG_PAGES ≠ 0 → on = false →
      exec (.telRingCfgWrite m val be) s = .next (finish s (setW (e.wr0 F.TEL_RING_CFG_EN 1) 0)))) ∧
  (∀ (s u : State) (at_ ivl : Nat) (fail : Option Nat) (busy : Bool), u = s.advance at_ → coreRuns u = true →
    ivl = u.rd0 F.TEL_PER_IVL_IVL → busy = (u.tel.running.any (·.hop.isNone) || u.tel.queue.any (·.hop.isNone)) →
    ((u.flag F.TEL_PER_CFG_EN = false ∨ ivl = 0 ∨ u.atTick ivl = false) →
      exec (.periodicDumpStart fail at_) s = .next (finish u u)) ∧
    (u.flag F.TEL_PER_CFG_EN = true → ivl ≠ 0 → u.atTick ivl = true → busy = true →
      exec (.periodicDumpStart fail at_) s =
        .next (finish u (telFault (u.bump F.TEL_DROP_SKIPPED 0) 2 (u.rd0 F.TEL_STAT_DUMP_SEQ)))) ∧
    (u.flag F.TEL_PER_CFG_EN = true → ivl ≠ 0 → u.atTick ivl = true → busy = false →
      exec (.periodicDumpStart fail at_) s = .next (finish u (dumpAsk u
        ⟨u.rd0 F.TEL_PER_CFG_SEL, u.flag F.TEL_PER_CFG_CLEAR, none, 0, 0, 0, none, false⟩ fail)))) ∧
  ∀ (s u : State) (at_ : Nat) (fail : Option Nat), u = s.advance at_ → coreRuns u = true →
    (u.tel.running = none → exec (.dumpEnd fail at_) s = .next (finish u u)) ∧
    ∀ (d e : State) (q r : DumpReq), u.tel.running = some q →
      dumpPut u q (mkRec u 3 0 (u.rd0 F.TEL_STAT_DUMP_SEQ) u.fabric (dumpFlags q) 0 []) fail = (d, r) → e = dumpClose d r →
      exec (.dumpEnd fail at_) s = .next (finish u (dumpNext (e.tel.queue.length + 1) fail e))

/-- Read commands of the console, with the next state whole: where Gesta does not serve nothing happens; where it does, the
line is echoed and the command ends with OK: HELP names every command, STAT, VER, FAULT, PORT, LANE, POWER and REG RD
print their registers, TEMP the sensors, LOG the entries or one. Other words after a command that takes none, a number
missing, malformed or out of range and an entry that is not there end with ERR 0x02. A line that spells no command of the
table ends with ERR 0x02 where its first word begins one, else with ERR 0x01; an empty one is only echoed (18 R481 to
R484, R486; the printed layout is the model's choice, log 81). The first clauses say of each command that, whatever its
operands within their range, it answers the next state of its own operation where its part of the block runs (a register
row: where the write is taken; a packet row: where the station holds the packet). -/
def Obligations.ConsoleReads : Prop :=
  (∀ (s u : State) (chars : List Byte) (at_ : Nat), u = s.advance at_ → chipOn u = true →
    exec (.help ⟨chars, at_⟩) s = .next (finish u (settleSwitch (conRow u .help chars (bare conHelp)))) ∧
    exec (.stat ⟨chars, at_⟩) s = .next (finish u (settleSwitch (conRow u .stat chars (bare conStat)))) ∧
    exec (.ver ⟨chars, at_⟩) s = .next (finish u (settleSwitch (conRow u .ver chars (bare conVer)))) ∧
    exec (.faultList ⟨chars, at_⟩) s = .next (finish u (settleSwitch (conRow u .fault chars (bare conFault)))) ∧
    exec (.port chars at_) s = .next (finish u (settleSwitch (conRow u .port chars fun v args => conPort v args))) ∧
    exec (.lane chars at_) s = .next (finish u (settleSwitch (conRow u .lane chars fun v args => conLane v args))) ∧
    exec (.temp ⟨chars, at_⟩) s = .next (finish u (settleSwitch (conRow u .temp chars (bare conTemp)))) ∧
    exec (.power ⟨chars, at_⟩) s = .next (finish u (settleSwitch (conRow u .power chars (bare conPower)))) ∧
    exec (.regRd chars at_) s = .next (finish u (settleSwitch (conRow u .regRd chars fun v args => conRegRd v args))) ∧
    exec (.log chars at_) s = .next (finish u (settleSwitch (conRow u .log chars fun v args => conLog v args))) ∧
    exec (.consoleUnknownCommand ⟨chars, at_⟩) s = .next (finish u (settleSwitch (conUnknown u chars)))) ∧
  (∀ (s u : State) (chars : List Byte) (at_ : Nat), u = s.advance at_ → chipOn u = true → gestaServes u = false →
    exec (.help ⟨chars, at_⟩) s = .next (finish u (settleSwitch u)) ∧
    exec (.stat ⟨chars, at_⟩) s = .next (finish u (settleSwitch u)) ∧
    exec (.ver ⟨chars, at_⟩) s = .next (finish u (settleSwitch u)) ∧
    exec (.faultList ⟨chars, at_⟩) s = .next (finish u (settleSwitch u)) ∧
    exec (.port chars at_) s = .next (finish u (settleSwitch u)) ∧
    exec (.lane chars at_) s = .next (finish u (settleSwitch u)) ∧
    exec (.temp ⟨chars, at_⟩) s = .next (finish u (settleSwitch u)) ∧
    exec (.power ⟨chars, at_⟩) s = .next (finish u (settleSwitch u)) ∧
    exec (.regRd chars at_) s = .next (finish u (settleSwitch u)) ∧
    exec (.log chars at_) s = .next (finish u (settleSwitch u)) ∧
    exec (.consoleUnknownCommand ⟨chars, at_⟩) s = .next (finish u (settleSwitch u))) ∧
  (∀ (s u v : State) (chars : List Byte) (at_ : Nat) (args : List (Option Nat)), u = s.advance at_ → v = sayBytes u chars →
    chipOn u = true → gestaServes u = true → args ≠ [] →
    (conLine chars = some (.help, args) → exec (.help ⟨chars, at_⟩) s = .next (finish u (settleSwitch (conErr v 2)))) ∧
    (conLine chars = some (.stat, args) → exec (.stat ⟨chars, at_⟩) s = .next (finish u (settleSwitch (conErr v 2)))) ∧
    (conLine chars = some (.ver, args) → exec (.ver ⟨chars, at_⟩) s = .next (finish u (settleSwitch (conErr v 2)))) ∧
    (conLine chars = some (.fault, args) → exec (.faultList ⟨chars, at_⟩) s = .next (finish u (settleSwitch (conErr v 2)))) ∧
    (conLine chars = some (.temp, args) → exec (.temp ⟨chars, at_⟩) s = .next (finish u (settleSwitch (conErr v 2)))) ∧
    (conLine chars = some (.power, args) → exec (.power ⟨chars, at_⟩) s = .next (finish u (settleSwitch (conErr v 2))))) ∧
  (∀ (s u v w : State) (chars : List Byte) (at_ : Nat), u = s.advance at_ → v = sayBytes u chars → chipOn u = true →
    gestaServes u = true → w = conWords v ([RegName.GMC_VER, .GMC_SVN, .GMC_MIN_SVN].map fun r => regOff r 0) →
    (conLine chars = some (.help, []) →
      exec (.help ⟨chars, at_⟩) s = .next (finish u (settleSwitch (conOk (commandNames.foldl sayLine v))))) ∧
    (conLine chars = some (.stat, []) → exec (.stat ⟨chars, at_⟩) s = .next (finish u (settleSwitch (conOk (v.gmc.ports.foldl
      (fun s p => sayLine s ("PORT " ++ decStr p ++ " HELD"))
      (conWords v ([RegName.GMC_STAT, .GLB_PLACE, .FLT_STAT, .PWR_STAT, .PMP_POOL, .WEL_STAT].map fun r => regOff r 0))))))) ∧
    (conLine chars = some (.ver, []) → exec (.ver ⟨chars, at_⟩) s =
      .next (finish u (settleSwitch (conOk (sayBytes w ((infoWords w).flatMap (leBytes 4))))))) ∧
    (conLine chars = some (.fault, []) →
      exec (.faultList ⟨chars, at_⟩) s = .next (finish u (settleSwitch (conOk (conWords v (regOff .FLT_GFIRST 0 ::
      ((List.range 1024).filter fun i => v.flag F.FLT_SRC_CFG_PEND i || v.flag F.FLT_CAP_VALID i).flatMap (regWords
        .FLT_CAP))))))) ∧
    (conLine chars = some (.temp, []) → exec (.temp ⟨chars, at_⟩) s = .next (finish u (settleSwitch (conOk (sayBytes
      (sayBytes (conWords v [regOff .PWR_TEMP 0]) (v.pwr.diodes.flatMap intBytes))
      ((v.pwr.thLast.flatMap fun e => intBytes e.2.1) ++ [if v.pwr.leak then 1 else 0])))))) ∧
    (conLine chars = some (.power, []) →
      exec (.power ⟨chars, at_⟩) s =
        .next (finish u (settleSwitch (conOk (conWords v [regOff .PWR_MEAS 0, regOff .PWR_LEVEL 0])))))) ∧
  (∀ (s u v : State) (chars : List Byte) (at_ : Nat) (args : List (Option Nat)), u = s.advance at_ → v = sayBytes u chars →
    chipOn u = true → gestaServes u = true →
    (conLine chars = some (.port, args) →
      (∀ p : Nat, args = [some p] → p < 80 →
        exec (.port chars at_) s = .next (finish u (settleSwitch (conOk (conWords v
          ([2 * p, 2 * p + 1].flatMap fun lp => [regOff .PRT_LSTAT lp, regOff .PRT_LERR lp, regOff .PRT_PEER lp])))))) ∧
      (arg1 args 80 = none → exec (.port chars at_) s = .next (finish u (settleSwitch (conErr v 2))))) ∧
    (conLine chars = some (.lane, args) →
      (∀ l : Nat, args = [some l] → l < 640 →
        exec (.lane chars at_) s = .next (finish u (settleSwitch (conOk (conWords v
          ([RegName.LNK_STAT, .LNK_FEC_CORR, .LNK_FEC_UNC, .LNK_PRBS_ERR, .LNK_PRBS_BITS].map fun r => regOff r l)))))) ∧
      (arg1 args 640 = none → exec (.lane chars at_) s = .next (finish u (settleSwitch (conErr v 2))))) ∧
    (conLine chars = some (.regRd, args) →
      (∀ off n : Nat, (args = [some off, some n] ∨ args = [some off] ∧ n = 1) →
        (off % 4 = 0 → 1 ≤ n → off + 4 * n ≤ 0x4000000 → exec (.regRd chars at_) s =
          .next (finish u (settleSwitch (conOk (conWords v ((List.range n).map fun i => off + 4 * i)))))) ∧
        ((off % 4 ≠ 0 ∨ n = 0 ∨ 0x4000000 < off + 4 * n) →
          exec (.regRd chars at_) s = .next (finish u (settleSwitch (conErr v 2))))) ∧
      ((args = [] ∨ 3 ≤ args.length ∨ none ∈ args) →
        exec (.regRd chars at_) s = .next (finish u (settleSwitch (conErr v 2))))) ∧
    (conLine chars = some (.log, args) →
      (args = [] → exec (.log chars at_) s = .next (finish u (settleSwitch (conOk (v.gmc.log.foldl sayBytes v))))) ∧
      (∀ i : Nat, args = [some i] →
        (∀ e : List Byte, v.gmc.log[i]? = some e →
          exec (.log chars at_) s = .next (finish u (settleSwitch (conOk (sayBytes v e))))) ∧
        (v.gmc.log[i]? = none → exec (.log chars at_) s = .next (finish u (settleSwitch (conErr v 2))))) ∧
      ((2 ≤ args.length ∨ none ∈ args) → exec (.log chars at_) s = .next (finish u (settleSwitch (conErr v 2)))))) ∧
  ∀ (s u v : State) (chars : List Byte) (at_ : Nat), u = s.advance at_ → v = sayBytes u chars → chipOn u = true →
    gestaServes u = true →
    (spelled chars = some [] → exec (.consoleUnknownCommand ⟨chars, at_⟩) s = .next (finish u (settleSwitch v))) ∧
    ∀ (w : List Nat) (ws : List (List Nat)), spelled chars = some (w :: ws) → conParse (w :: ws) = none →
      exec (.consoleUnknownCommand ⟨chars, at_⟩) s = .next (finish u (settleSwitch
        (conErr v (if conTable.any fun e => e.1.head?.map letters == some w then 2 else 1))))

/-- Quiet commands, with the next state whole where Gesta serves: in the safe state each ends with ERR 0x08, with the console
out of service with ERR 0x03. Otherwise REG WR writes as the active core and ends with OK, but one that resets Gesta
prints ERR 0x07 before it; FAULT CLEAR clears PEND, VALID and the latch, ATEST selects with an index of 0 where it has
none, SERVICE PORT holds a port and takes it into service, SERVICE ON takes the chip into service with every link down and
ends with ERR 0x04 with one up, SERVICE ON FORCE does with every port held, SERVICE OFF gives the held ports back but
those that the place holds off. A number missing, malformed or out of range ends with ERR 0x02 (18 R482, R483, R485,
R487). The first clauses say of each command that, whatever its operands within their range, it answers the next state of
its own operation where its part of the block runs (a register row: where the write is taken; a packet row: where the
station holds the packet). -/
def Obligations.ConsoleQuiet : Prop :=
  (∀ (s u : State) (chars : List Byte) (ev : BootEv) (at_ : Nat), u = s.advance at_ → chipOn u = true →
    exec (.regWr chars ev at_) s = .next (finish u (settleSwitch (settleSite ev (conRow u .regWr chars fun v args => conRegWr v
      args ev)))) ∧
    exec (.faultClear chars ev at_) s = .next (finish u (settleSwitch (conRow u .faultClear chars fun v args => conFaultClear v
      args ev))) ∧
    exec (.atest chars ev at_) s = .next (finish u (settleSwitch (conRow u .atest chars fun v args => conAtest v args ev))) ∧
    exec (.servicePort chars ev at_) s = .next (finish u (settleSwitch (conRow u .servicePort chars fun v args => conServicePort
      v args ev))) ∧
    exec (.serviceOn ⟨chars, at_⟩) s = .next (finish u (settleSwitch (conRow u .serviceOn chars (bare conServiceOn)))) ∧
    exec (.serviceOnForce ev ⟨chars, at_⟩) s = .next (finish u (settleSwitch (conRow u .serviceOnForce chars (bare (fun v =>
      conServiceForce v ev))))) ∧
    exec (.serviceOff ev ⟨chars, at_⟩) s = .next (finish u (settleSwitch (conRow u .serviceOff chars (bare (fun v =>
      conServiceOff v ev)))))) ∧
  (∀ (s u v : State) (chars : List Byte) (at_ e : Nat) (ev : BootEv) (args : List (Option Nat)), u = s.advance at_ →
    v = sayBytes u chars → chipOn u = true → gestaServes u = true →
    (isSafe u = true ∧ e = 8 ∨ isSafe u = false ∧ consService u = false ∧ e = 3) →
    (conLine chars = some (.regWr, args) → exec (.regWr chars ev at_) s =
      .next (finish u (settleSwitch (settleSite ev (conErr v e))))) ∧
    (conLine chars = some (.faultClear, args) → exec (.faultClear chars ev at_) s =
      .next (finish u (settleSwitch (conErr v e)))) ∧
    (conLine chars = some (.atest, args) → exec (.atest chars ev at_) s =
      .next (finish u (settleSwitch (conErr v e)))) ∧
    (conLine chars = some (.servicePort, args) → exec (.servicePort chars ev at_) s =
      .next (finish u (settleSwitch (conErr v e)))) ∧
    (conLine chars = some (.serviceOn, []) → exec (.serviceOn ⟨chars, at_⟩) s =
      .next (finish u (settleSwitch (conErr v e)))) ∧
    (conLine chars = some (.serviceOnForce, []) → exec (.serviceOnForce ev ⟨chars, at_⟩) s =
      .next (finish u (settleSwitch (conErr v e)))) ∧
    (conLine chars = some (.serviceOff, []) → exec (.serviceOff ev ⟨chars, at_⟩) s =
      .next (finish u (settleSwitch (conErr v e))))) ∧
  (∀ (s u v : State) (chars : List Byte) (at_ : Nat) (ev : BootEv) (args : List (Option Nat)), u = s.advance at_ →
    v = sayBytes u chars → chipOn u = true → gestaServes u = true → isSafe u = false → consService u = true →
    (conLine chars = some (.regWr, args) →
      (∀ off w : Nat, args = [some off, some w] → off % 4 = 0 → off < 0x4000000 → w < 2 ^ 32 →
        (¬ (off = regOff .GMC_CTRL 0 ∧ bitAt w 31 = true) → exec (.regWr chars ev at_) s =
          .next (finish u (settleSwitch (settleSite ev (conOk (busWrite ev v (conCore v) off w 15)))))) ∧
        (off = regOff .GMC_CTRL 0 → bitAt w 31 = true → exec (.regWr chars ev at_) s =
          .next (finish u (settleSwitch (settleSite ev (busWrite ev (sayErr v 7) (conCore v) off w 15)))))) ∧
      (∀ off w : Nat, args = [some off, some w] → (off % 4 ≠ 0 ∨ 0x4000000 ≤ off ∨ 2 ^ 32 ≤ w) →
        exec (.regWr chars ev at_) s = .next (finish u (settleSwitch (settleSite ev (conErr v 2))))) ∧
      ((args.length ≠ 2 ∨ none ∈ args) →
        exec (.regWr chars ev at_) s = .next (finish u (settleSwitch (settleSite ev (conErr v 2)))))) ∧
    (conLine chars = some (.faultClear, args) →
      (∀ i : Nat, args = [some i] → i < 1024 →
        exec (.faultClear chars ev at_) s = .next (finish u (settleSwitch (conOk
          (conField (conField (conField v ev F.FLT_SRC_CFG_PEND i 1) ev F.FLT_CAP_VALID i 1) ev F.FLT_PIN_LATCH 0 1))))) ∧
      (arg1 args 1024 = none → exec (.faultClear chars ev at_) s = .next (finish u (settleSwitch (conErr v 2))))) ∧
    (conLine chars = some (.atest, args) →
      (∀ sel idx : Nat, (args = [some sel, some idx] ∨ args = [some sel] ∧ idx = 0) →
        (sel < 8 → idx < 256 → atestOk sel idx = true → exec (.atest chars ev at_) s =
          .next (finish u (settleSwitch (conOk (leaveAtest v ev sel idx))))) ∧
        ((8 ≤ sel ∨ 256 ≤ idx ∨ atestOk sel idx = false) →
          exec (.atest chars ev at_) s = .next (finish u (settleSwitch (conErr v 2))))) ∧
      ((args = [] ∨ 3 ≤ args.length ∨ none ∈ args) →
        exec (.atest chars ev at_) s = .next (finish u (settleSwitch (conErr v 2))))) ∧
    (conLine chars = some (.servicePort, args) →
      (∀ p : Nat, args = [some p] → p < 80 →
        exec (.servicePort chars ev at_) s = .next (finish u (settleSwitch (conOk (sayLine
          (modGmc (setEn v ev p 0) fun g => { g with
            ports := g.ports.filter (· != p) ++ [p], svc := g.svc.filter (· != p) ++ [p] }) ("PORT " ++ decStr p ++ " HELD")))))) ∧
      (arg1 args 80 = none → exec (.servicePort chars ev at_) s = .next (finish u (settleSwitch (conErr v 2)))))) ∧
  ∀ (s u v : State) (chars : List Byte) (at_ : Nat) (ev : BootEv), u = s.advance at_ → v = sayBytes u chars →
    chipOn u = true → gestaServes u = true → isSafe u = false → consService u = true →
    (conLine chars = some (.serviceOn, []) →
      ((List.range 160).any u.linkUp = true →
        exec (.serviceOn ⟨chars, at_⟩) s = .next (finish u (settleSwitch (conErr v 4)))) ∧
      ((List.range 160).any u.linkUp = false → exec (.serviceOn ⟨chars, at_⟩) s =
        .next (finish u (settleSwitch (conOk (modGmc v fun g => { g with service := true })))))) ∧
    (conLine chars = some (.serviceOnForce, []) → exec (.serviceOnForce ev ⟨chars, at_⟩) s =
      .next (finish u (settleSwitch (conOk (modGmc ((List.range 80).foldl (fun s p => setEn s ev p 0) v)
        fun g => { g with service := true, ports := List.range 80, svc := List.range 80 }))))) ∧
    (conLine chars = some (.serviceOff, []) → exec (.serviceOff ev ⟨chars, at_⟩) s = .next (finish u (settleSwitch (conOk
      (modGmc (v.gmc.ports.foldl (fun s p => if heldOff s p then s else setEn s ev p 1) v)
        fun g => { g with service := false, ports := [], svc := [] })))))

/-- Resets from the console, with the next state whole where Gesta serves: in the safe state each ends with ERR 0x08, with the
console out of service with ERR 0x03, outside service state with ERR 0x04, RESET PORT also with its own port in service.
Otherwise each is the whole write of its go bit by the active core and ends with OK; RESET GMC prints ERR 0x07 before its
write, whose reset prints what follows. RESET PORT without a port ends with ERR 0x02 (18 R482, R483, R485, R487). The
first clauses say of each command that, whatever its operands within their range, it answers the next state of its own
operation where its part of the block runs (a register row: where the write is taken; a packet row: where the station
holds the packet). -/
def Obligations.ConsoleResets : Prop :=
  (∀ (s u : State) (chars : List Byte) (ev : BootEv) (at_ : Nat), u = s.advance at_ → chipOn u = true →
    exec (.resetPort chars ev at_) s = .next (finish u (settleSwitch (conRow u .resetPort chars fun v args => conResetPort v
      args ev))) ∧
    exec (.resetPump ev ⟨chars, at_⟩) s = .next (finish u (settleSwitch (conRow u .resetPump chars (bare (fun v => conResetPump
      v ev))))) ∧
    exec (.resetPool ev ⟨chars, at_⟩) s = .next (finish u (settleSwitch (conRow u .resetPool chars (bare (fun v => conResetPool
      v ev))))) ∧
    exec (.resetCore ev ⟨chars, at_⟩) s = .next (finish u (settleSwitch (conRow u .resetCore chars (bare (fun v => conResetCore
      v ev))))) ∧
    exec (.resetGmc ev ⟨chars, at_⟩) s = .next (finish u (settleSwitch (conRow u .resetGmc chars (bare (fun v => conResetGmc v
      ev)))))) ∧
  (∀ (s u v : State) (chars : List Byte) (at_ e p : Nat) (ev : BootEv) (args : List (Option Nat)), u = s.advance at_ →
    v = sayBytes u chars → chipOn u = true → gestaServes u = true → args = [some p] → p < 80 →
    (isSafe u = true ∧ e = 8 ∨ isSafe u = false ∧ consService u = false ∧ e = 3 ∨
      isSafe u = false ∧ consService u = true ∧ u.gmc.service = false ∧ u.gmc.svc.contains p = false ∧ e = 4) →
    (conLine chars = some (.resetPort, args) → exec (.resetPort chars ev at_) s =
      .next (finish u (settleSwitch (conErr v e)))) ∧
    (conLine chars = some (.resetPump, []) → exec (.resetPump ev ⟨chars, at_⟩) s =
      .next (finish u (settleSwitch (conErr v e)))) ∧
    (conLine chars = some (.resetPool, []) → exec (.resetPool ev ⟨chars, at_⟩) s =
      .next (finish u (settleSwitch (conErr v e)))) ∧
    (conLine chars = some (.resetCore, []) → exec (.resetCore ev ⟨chars, at_⟩) s =
      .next (finish u (settleSwitch (conErr v e)))) ∧
    (conLine chars = some (.resetGmc, []) → exec (.resetGmc ev ⟨chars, at_⟩) s =
      .next (finish u (settleSwitch (conErr v e))))) ∧
  (∀ (s u v : State) (chars : List Byte) (at_ : Nat) (ev : BootEv) (args : List (Option Nat)), u = s.advance at_ →
    v = sayBytes u chars → chipOn u = true → gestaServes u = true → isSafe u = false → consService u = true →
    conLine chars = some (.resetPort, args) →
    (arg1 args 80 = none → exec (.resetPort chars ev at_) s = .next (finish u (settleSwitch (conErr v 2)))) ∧
    ∀ p : Nat, args = [some p] → p < 80 → (u.gmc.service = true ∨ u.gmc.svc.contains p = true) →
      exec (.resetPort chars ev at_) s = .next (finish u (settleSwitch
        (conOk (busWrite ev v (conCore v) (regOff .GLB_RST 0) (2 ^ 28 + p) 15))))) ∧
  ∀ (s u v : State) (chars : List Byte) (at_ : Nat) (ev : BootEv), u = s.advance at_ → v = sayBytes u chars →
    chipOn u = true → gestaServes u = true → isSafe u = false → consService u = true → u.gmc.service = true →
    (conLine chars = some (.resetPump, []) → exec (.resetPump ev ⟨chars, at_⟩) s =
      .next (finish u (settleSwitch (conOk (busWrite ev v (conCore v) (regOff .GLB_RST 0) (2 ^ 30) 15))))) ∧
    (conLine chars = some (.resetPool, []) → exec (.resetPool ev ⟨chars, at_⟩) s =
      .next (finish u (settleSwitch (conOk (busWrite ev v (conCore v) (regOff .GLB_RST 0) (2 ^ 29) 15))))) ∧
    (conLine chars = some (.resetCore, []) → exec (.resetCore ev ⟨chars, at_⟩) s =
      .next (finish u (settleSwitch (conOk (busWrite ev v (conCore v) (regOff .GLB_RST 0) (2 ^ 31) 15))))) ∧
    (conLine chars = some (.resetGmc, []) → exec (.resetGmc ev ⟨chars, at_⟩) s =
      .next (finish u (settleSwitch (busWrite ev (sayErr v 7) (conCore v) (regOff .GMC_CTRL 0) (2 ^ 31) 15))))

/-- Self-tests that need a quiet chip only, with the next state whole where Gesta serves: in the safe state each ends with ERR
0x08, with the console out of service with ERR 0x03, and one that another stops with ERR 0x07; the group test on a group
that is there ends with ERR 0x09. Otherwise each leaves what it changes, prints a result line for each unit and the
summary, which goes to the event log, and ends with OK: rails and sensors leave ATEST on their selection, the cisterns'
lines hold the pattern, and in service state the chunks that stood in them are given up, the pumps are tested and one that
failed vector 7 is retired, each prints its state, its failures and its result, the group is declared, aborted and taken
down (18 R486, R488, R490; the operands give what the hardware under test does, log 9, 80 to 82). The first clauses say of
each command that, whatever its operands within their range, it answers the next state of its own operation where its part
of the block runs (a register row: where the write is taken; a packet row: where the station holds the packet). -/
def Obligations.SelfTestsQuiet : Prop :=
  (∀ (s u : State) (cut badB ok : Bool) (bad vec : List Nat) (ev : BootEv) (chars : List Byte) (at_ : Nat) (fails : List (Nat ×
    Nat)), u = s.advance at_ → chipOn u = true →
    exec (.selftestRails cut bad ev ⟨chars, at_⟩) s = .next (finish u (settleSwitch (conRow u .selftestRails chars (bare (fun v
      => testRails v cut bad ev))))) ∧
    exec (.selftestSensors cut badB ev ⟨chars, at_⟩) s = .next (finish u (settleSwitch (conRow u .selftestSensors chars (bare
      (fun v => testSensors v cut badB ev))))) ∧
    exec (.selftestCisterns cut bad ⟨chars, at_⟩) s = .next (finish u (settleSwitch (conRow u .selftestCisterns chars (bare (fun
      v => testCisterns v cut bad))))) ∧
    exec (.selftestGroup cut ok ev ⟨chars, at_⟩) s = .next (finish u (settleSwitch (conRow u .selftestGroup chars (bare (fun v
      => testGroup v cut ok ev))))) ∧
    exec (.selftestPumps cut fails vec ev ⟨chars, at_⟩) s = .next (finish u (settleSwitch (conRow u .selftestPumps chars (bare
      (fun v => testPumps v cut fails vec ev)))))) ∧
  (∀ (s u v : State) (chars : List Byte) (at_ e : Nat) (cut ok disagrees : Bool) (bad : List Nat) (fails : List (Nat × Nat))
    (ev : BootEv), u = s.advance at_ → v = sayBytes u chars → chipOn u = true → gestaServes u = true →
    (isSafe u = true ∧ e = 8 ∨ isSafe u = false ∧ consService u = false ∧ e = 3 ∨
      isSafe u = false ∧ consService u = true ∧ cut = true ∧ u.rd F.GRP_ENT_STATE 0x010 = 0 ∧ e = 7) →
    (conLine chars = some (.selftestRails, []) → exec (.selftestRails cut bad ev ⟨chars, at_⟩) s =
      .next (finish u (settleSwitch (conErr v e)))) ∧
    (conLine chars = some (.selftestSensors, []) → exec (.selftestSensors cut disagrees ev ⟨chars, at_⟩) s =
      .next (finish u (settleSwitch (conErr v e)))) ∧
    (conLine chars = some (.selftestCisterns, []) → exec (.selftestCisterns cut bad ⟨chars, at_⟩) s =
      .next (finish u (settleSwitch (conErr v e)))) ∧
    (conLine chars = some (.selftestGroup, []) → exec (.selftestGroup cut ok ev ⟨chars, at_⟩) s =
      .next (finish u (settleSwitch (conErr v e)))) ∧
    (conLine chars = some (.selftestPumps, []) → exec (.selftestPumps cut fails bad ev ⟨chars, at_⟩) s =
      .next (finish u (settleSwitch (conErr v e))))) ∧
  (∀ (s u v a b c d : State) (chars : List Byte) (at_ : Nat) (units bad vec : List Nat) (fails : List (Nat × Nat)) (ev : BootEv)
    (disagrees : Bool), u = s.advance at_ → v = sayBytes u chars → chipOn u = true → gestaServes u = true → isSafe u = false →
    consService u = true → units = ((List.range 168).filter fun n => pumpState v n ≠ 3) →
    (conLine chars = some (.selftestRails, []) →
      exec (.selftestRails false bad ev ⟨chars, at_⟩) s = .next (finish u (settleSwitch
        (testResult (leaveAtest v ev 3 10) "RAILS" "ALL" ((List.range 11).map fun r => (decStr r, failIf bad r)))))) ∧
    (conLine chars = some (.selftestSensors, []) →
      exec (.selftestSensors false disagrees ev ⟨chars, at_⟩) s = .next (finish u (settleSwitch
        (testResult (leaveAtest v ev 2 0x1F) "SENSORS" "ALL"
          (((List.range 23).map fun k => (decStr k, if sensorFailed v k then 2 else 0)) ++
            [("LEAK", if v.pwr.leak then 2 else 0), ("ATEST", if disagrees then 2 else 0)]))))) ∧
    (conLine chars = some (.selftestCisterns, []) →
      a = (if u.gmc.service = true
        then ((allChunks v).filter fun e => e.2.lines != 0).foldl (fun s e => giveUpChunk s e.1 e.2) v else v) →
      exec (.selftestCisterns false bad ⟨chars, at_⟩) s = .next (finish u (settleSwitch
        (testResult (units.foldl (fun s n => linePattern s n (bad.contains n)) a)
          "CISTERNS" "ALL" (units.map fun n => ("PU" ++ decStr n, failIf bad n)))))) ∧
    (conLine chars = some (.selftestPumps, []) →
      b = leaveAtest (units.foldl (fun s n => if vec.contains n ∧ pumpState (pumpTestEnd (pumpTestGo s n) n (mgetD fails n 0)) n ≤ 1
        then retirePump (pumpTestEnd (pumpTestGo s n) n (mgetD fails n 0)) n 4
        else pumpTestEnd (pumpTestGo s n) n (mgetD fails n 0)) v) ev 4 0xFF →
      c = (List.range 168).foldl (fun t n => sayBytes t (leBytes 1 n ++ leBytes 1 (pumpState t n) ++
        leBytes 2 (t.rd F.PMP_TEST_NFAIL n) ++ leBytes 4 (vectorWord v n (vec.contains n)))) b →
      d = sayBytes { c with freeCtr := c.freeCtr + 168 } (leBytes 1 (c.rd0 F.PMP_POOL_ACTIVE) ++ leBytes 1 (c.rd0 F.PMP_POOL_SPARES)) →
      exec (.selftestPumps false fails vec ev ⟨chars, at_⟩) s = .next (finish u (settleSwitch (testResult d "PUMPS" "ALL"
        (units.map fun n => ("PU" ++ decStr n, if mgetD fails n 0 ≠ 0 ∨ vec.contains n = true then 2 else 0))))))) ∧
  ∀ (s u v d e f : State) (chars : List Byte) (at_ : Nat) (cut ok : Bool) (ev : BootEv), u = s.advance at_ →
    v = sayBytes u chars → chipOn u = true → gestaServes u = true → isSafe u = false → consService u = true →
    conLine chars = some (.selftestGroup, []) → d = declareTestGroup v ev →
    (u.rd F.GRP_ENT_STATE 0x010 ≠ 0 →
      exec (.selftestGroup cut ok ev ⟨chars, at_⟩) s = .next (finish u (settleSwitch (conErr v 9)))) ∧
    (u.rd F.GRP_ENT_STATE 0x010 = 0 → cut = false → d.rd F.GRP_ENT_STATE 0x010 = 2 →
      e = (if ok = true
        then ((d.wr0 F.GRP_ABORT_LAST_CODE 2).wr0 F.GRP_ABORT_LAST_GID 0x010).wr0 F.GRP_ABORT_SEQ_SEQ 0 else d) →
      exec (.selftestGroup cut ok ev ⟨chars, at_⟩) s = .next (finish u (settleSwitch (testResult
        (settleGroups (groupDestroy e 0x010)) "GROUP" "ALL" [("0x010", if ok = true then 0 else 2)])))) ∧
    (u.rd F.GRP_ENT_STATE 0x010 = 0 → cut = false → d.rd F.GRP_ENT_STATE 0x010 ≠ 2 → f = resetFields d .GRP_ENT 0x010 →
      exec (.selftestGroup cut ok ev ⟨chars, at_⟩) s = .next (finish u (settleSwitch
        (testResult f "GROUP" "ALL" [("0x010", 2)]))))

/-- Self-tests that need service state, with the next state whole where Gesta serves: in the safe state each ends with ERR
0x08, with the console out of service with ERR 0x03, outside service state with ERR 0x04, those of a port also with that
port in service. Numbers out of range end with ERR 0x02; a port without a mode, a device that is out or not there, rooms
on a spine, without 64 GiB of far tier or with rooms in use with ERR 0x09; rooms with the semaphore held by another with
ERR 0x05; one that another stops with ERR 0x07. Otherwise each leaves what it changes, prints a result line for each unit
and the summary, which goes to the event log, and ends with OK: lanes and port of a port are tested and given back their
loop and EN, memory devices end zero-filled, the well's with its requests counted, sync objects at type 0 without waiters
and with free values, rooms with the top of the far tier zero-filled and their test rooms' generations (18 R486, R488,
R489; the operands give what the hardware under test does, log 9, 80 to 82). The first clauses say of each command that,
whatever its operands within their range, it answers the next state of its own operation where its part of the block runs
(a register row: where the write is taken; a packet row: where the station holds the packet). -/
def Obligations.SelfTestsBench : Prop :=
  (∀ (s u : State) (chars : List Byte) (cut up : Bool) (errs bad : List Nat) (ev : BootEv) (at_ corr unc : Nat), u = s.advance
    at_ → chipOn u = true →
    exec (.selftestLanes chars cut errs ev at_) s = .next (finish u (settleSwitch (conRow u .selftestLanes chars fun v args =>
      testLanes v args cut errs ev))) ∧
    exec (.selftestPort chars cut up bad ev at_) s = .next (finish u (settleSwitch (conRow u .selftestPort chars fun v args =>
      testPort v args cut up bad ev))) ∧
    exec (.selftestHbm chars cut corr unc at_) s = .next (finish u (settleSwitch (conRow u .selftestHbm chars fun v args =>
      testHbm v args cut corr unc))) ∧
    exec (.selftestDimm chars cut corr unc at_) s = .next (finish u (settleSwitch (conRow u .selftestDimm chars fun v args =>
      testDimm v args cut corr unc))) ∧
    exec (.selftestWell cut bad ⟨chars, at_⟩) s = .next (finish u (settleSwitch (conRow u .selftestWell chars (bare (fun v =>
      testWell v cut bad))))) ∧
    exec (.selftestSync cut bad ⟨chars, at_⟩) s = .next (finish u (settleSwitch (conRow u .selftestSync chars (bare (fun v =>
      testSync v cut bad))))) ∧
    exec (.selftestRooms cut bad ⟨chars, at_⟩) s = .next (finish u (settleSwitch (conRow u .selftestRooms chars (bare (fun v =>
      testRooms v cut bad)))))) ∧
  (∀ (s u v : State) (chars : List Byte) (at_ e p k corr unc : Nat) (cut up : Bool) (bad errs : List Nat) (ev : BootEv),
    u = s.advance at_ → v = sayBytes u chars → chipOn u = true → gestaServes u = true → p < 80 → 1 ≤ k → k ≤ 3 →
    (isSafe u = true ∧ e = 8 ∨ isSafe u = false ∧ consService u = false ∧ e = 3 ∨
      isSafe u = false ∧ consService u = true ∧ u.gmc.service = false ∧ u.gmc.svc.contains p = false ∧ e = 4) →
    (conLine chars = some (.selftestLanes, [some p, some k]) → exec (.selftestLanes chars cut errs ev at_) s =
      .next (finish u (settleSwitch (conErr v e)))) ∧
    (conLine chars = some (.selftestPort, [some p]) → exec (.selftestPort chars cut up bad ev at_) s =
      .next (finish u (settleSwitch (conErr v e)))) ∧
    (conLine chars = some (.selftestHbm, [some 0]) → exec (.selftestHbm chars cut corr unc at_) s =
      .next (finish u (settleSwitch (conErr v e)))) ∧
    (conLine chars = some (.selftestDimm, [some 0]) → exec (.selftestDimm chars cut corr unc at_) s =
      .next (finish u (settleSwitch (conErr v e)))) ∧
    (conLine chars = some (.selftestWell, []) → exec (.selftestWell cut bad ⟨chars, at_⟩) s =
      .next (finish u (settleSwitch (conErr v e)))) ∧
    (conLine chars = some (.selftestSync, []) → exec (.selftestSync cut bad ⟨chars, at_⟩) s =
      .next (finish u (settleSwitch (conErr v e)))) ∧
    (conLine chars = some (.selftestRooms, []) → exec (.selftestRooms cut bad ⟨chars, at_⟩) s =
      .next (finish u (settleSwitch (conErr v e))))) ∧
  (∀ (s u v a b c : State) (chars : List Byte) (at_ : Nat) (cut up : Bool) (bad errs : List Nat) (ev : BootEv)
    (args : List (Option Nat)), u = s.advance at_ → v = sayBytes u chars → chipOn u = true → gestaServes u = true →
    isSafe u = false → consService u = true →
    (conLine chars = some (.selftestPort, args) → arg1 args 80 = none →
      exec (.selftestPort chars cut up bad ev at_) s = .next (finish u (settleSwitch (conErr v 2)))) ∧
    (∀ p k : Nat, conLine chars = some (.selftestLanes, [some p, some k]) → (80 ≤ p ∨ k = 0 ∨ 3 < k) →
      exec (.selftestLanes chars cut errs ev at_) s = .next (finish u (settleSwitch (conErr v 2)))) ∧
    ∀ p : Nat, p < 80 → (u.gmc.service = true ∨ u.gmc.svc.contains p = true) →
      (conLine chars = some (.selftestPort, [some p]) →
        (u.portMode p = 0 →
          exec (.selftestPort chars cut up bad ev at_) s = .next (finish u (settleSwitch (conErr v 9)))) ∧
        (u.portMode p ≠ 0 → cut = true →
          exec (.selftestPort chars cut up bad ev at_) s = .next (finish u (settleSwitch (conErr v 7)))) ∧
        (u.portMode p ≠ 0 → cut = false →
          a = (portLanes p).foldl (fun s l => scanLane s ev l (bad.contains l)) (setEn v ev p 1) →
          exec (.selftestPort chars cut up bad ev at_) s = .next (finish u (settleSwitch
            (testResult (setEn a ev p (v.rdSw F.PRT_CTRL_EN p)) "PORT" ("P" ++ decStr p)
              (("P" ++ decStr p, if up then 0 else 2) :: (portLanes p).map fun l => ("L" ++ decStr l, failIf bad l))))))) ∧
      ∀ k : Nat, 1 ≤ k → k ≤ 3 → conLine chars = some (.selftestLanes, [some p, some k]) →
        (u.portMode p = 0 →
          exec (.selftestLanes chars cut errs ev at_) s = .next (finish u (settleSwitch (conErr v 9)))) ∧
        (u.portMode p ≠ 0 → cut = true →
          exec (.selftestLanes chars cut errs ev at_) s = .next (finish u (settleSwitch (conErr v 7)))) ∧
        (u.portMode p ≠ 0 → cut = false →
          a = (portLanes p).foldl (fun s l => busWrite ev s (conCore s) (regOff .LNK_PRBS l) 0 15)
            ((portLanes p).foldl (fun s l => busWrite ev s (conCore s) (regOff .LNK_PRBS l) (3 * 2 ^ 30) 15)
              (conField (conField v ev F.PRT_CTRL_LOOP p k) ev F.PRT_CTRL_EN p 1)) →
          b = ((portLanes p).zipIdx).foldl (fun s e => modLane (s.wr F.LNK_PRBS_ERR_COUNT e.1 (min (2 ^ 32 - 1) (errs.getD e.2 0)))
            e.1 fun x => { x with prbsNs := (233 * 10 * 2 ^ 32 + 2124) / 2125, prbsAt := none }) a →
          c = conField (conField b ev F.PRT_CTRL_LOOP p 0) ev F.PRT_CTRL_EN p (v.rdSw F.PRT_CTRL_EN p) →
          exec (.selftestLanes chars cut errs ev at_) s = .next (finish u (settleSwitch
            (testReport c "LANES" ("P" ++ decStr p ++ " LOOP" ++ decStr k) (((portLanes p).zipIdx).map fun e =>
              ("L" ++ decStr e.1, laneVerdict k (errs.getD e.2 0), laneDetail (errs.getD e.2 0)))))))) ∧
  (∀ (s u v a : State) (chars : List Byte) (at_ corr unc : Nat) (cut : Bool) (bad units slots : List Nat)
    (args : List (Option Nat)), u = s.advance at_ → v = sayBytes u chars → chipOn u = true → gestaServes u = true →
    isSafe u = false → consService u = true → u.gmc.service = true →
    units = ((List.range 20).filter fun d => devThere v d && !devOut v d) →
    slots = (if units.any (· < 4) then [0, 1, 2, 3, 4] else []) ++ (if units.any (· ≥ 4) then [8, 9, 10, 11, 12] else []) →
    (conLine chars = some (.selftestHbm, args) →
      (arg1 args 4 = none → exec (.selftestHbm chars cut corr unc at_) s = .next (finish u (settleSwitch (conErr v 2)))) ∧
      ∀ d : Nat, args = [some d] → d < 4 →
        (devOut u d = true → exec (.selftestHbm chars cut corr unc at_) s = .next (finish u (settleSwitch (conErr v 9)))) ∧
        (devOut u d = false → cut = true →
          exec (.selftestHbm chars cut corr unc at_) s = .next (finish u (settleSwitch (conErr v 7)))) ∧
        (devOut u d = false → cut = false →
          exec (.selftestHbm chars cut corr unc at_) s = .next (finish u (settleSwitch (march v "HBM" d corr unc))))) ∧
    (conLine chars = some (.selftestDimm, args) →
      (arg1 args 16 = none → exec (.selftestDimm chars cut corr unc at_) s = .next (finish u (settleSwitch (conErr v 2)))) ∧
      ∀ d : Nat, args = [some d] → d < 16 →
        ((devOut u (4 + d) = true ∨ devThere u (4 + d) = false) →
          exec (.selftestDimm chars cut corr unc at_) s = .next (finish u (settleSwitch (conErr v 9)))) ∧
        (devOut u (4 + d) = false → devThere u (4 + d) = true → cut = true →
          exec (.selftestDimm chars cut corr unc at_) s = .next (finish u (settleSwitch (conErr v 7)))) ∧
        (devOut u (4 + d) = false → devThere u (4 + d) = true → cut = false →
          exec (.selftestDimm chars cut corr unc at_) s = .next (finish u (settleSwitch (march v "DIMM" (4 + d) corr unc))))) ∧
    (conLine chars = some (.selftestWell, []) →
      (cut = true → exec (.selftestWell cut bad ⟨chars, at_⟩) s = .next (finish u (settleSwitch (conErr v 7)))) ∧
      (cut = false → exec (.selftestWell cut bad ⟨chars, at_⟩) s = .next (finish u (settleSwitch (testResult
        (freeCounts (units.foldl zeroDev v) slots) "WELL" "ALL" (units.map fun d => (decStr d, failIf bad d))))))) ∧
    (conLine chars = some (.selftestSync, []) →
      (cut = true → exec (.selftestSync cut bad ⟨chars, at_⟩) s = .next (finish u (settleSwitch (conErr v 7)))) ∧
      (cut = false →
        a = (List.range 8192).foldl (fun s n =>
          (setV ((resetWaiters s n).wr F.WEL_SO_TYPE n 0) n (Config.freeNat s.freeCtr % 2 ^ 64)).tick) v →
        exec (.selftestSync cut bad ⟨chars, at_⟩) s = .next (finish u (settleSwitch (testResult
          (freeCounts a [16, 17, 18, 19]) "SYNC" "ALL" [("ALL", if bad.isEmpty then 0 else 2)])))))) ∧
  ∀ (s u v a b : State) (chars : List Byte) (at_ : Nat) (cut unfit : Bool) (bad : List Nat), u = s.advance at_ →
    v = sayBytes u chars → chipOn u = true → gestaServes u = true → isSafe u = false → consService u = true →
    u.gmc.service = true → conLine chars = some (.selftestRooms, []) →
    unfit = (u.isSpine || decide (farSize u < 2 ^ 36) || (List.range 128).any (roomOn u)) →
    (unfit = true → exec (.selftestRooms cut bad ⟨chars, at_⟩) s = .next (finish u (settleSwitch (conErr v 9)))) ∧
    (unfit = false → semHolder u ≠ 0 → semHolder u ≠ 3 →
      exec (.selftestRooms cut bad ⟨chars, at_⟩) s = .next (finish u (settleSwitch (conErr v 5)))) ∧
    (unfit = false → (semHolder u = 0 ∨ semHolder u = 3) →
      (cut = true → exec (.selftestRooms cut bad ⟨chars, at_⟩) s = .next (finish u (settleSwitch (conErr v 7)))) ∧
      (cut = false →
        a = ((List.range 4).filter fun r => !bad.contains r).foldl (fun s r => (testedRoom s r).cntW 26 2) (zeroTop v) →
        b = semFree (freeCounts a [24, 25]) →
        exec (.selftestRooms cut bad ⟨chars, at_⟩) s = .next (finish u (settleSwitch (testResult
          (b.wr0 F.GLB_CMT_STAT_TAKEN ((b.rd0 F.GLB_CMT_STAT_TAKEN + Config.freeNat b.freeCtr) % 65536)).tick
          "ROOMS" "ALL" ((List.range 4).map fun r => (decStr r, failIf bad r)))))))

/-- Every command completes: whatever the command and its operands, the answer is a next state, whose clock does not lie before the
state's and whose queue is the state's (no fault, no refusal; that an impossible operand changes nothing is log 17, the clock log 1). -/
def Obligations.EveryCommandCompletes : Prop :=
  ∀ (i : Instr) (s : State), ∃ t, exec i s = .next t ∧ t.pending = s.pending ∧ s.now ≤ t.now

/-- A queue of commands runs to its end: as many steps as it holds commands empty it, without a fault or a refusal, the clock never
running backwards; the first step of a run is the command at the front (log 18). -/
def Obligations.QueueRunsToItsEnd : Prop :=
  (∀ s : State, ∃ t : State, Host.Core.run Sys2Proof.core s.pending.length s = .next t ∧ t.pending = [] ∧ s.now ≤ t.now) ∧
  ∀ (s t : State) (i : Instr) (rest : List Instr) (k : Nat), exec i { s with pending := rest } = .next t →
    Host.Core.run Sys2Proof.core (k + 1) { s with pending := i :: rest } = Host.Core.run Sys2Proof.core k t

/-- ALIVE never runs on its own: where a step begins with ALIVE low and ALIVE_RUN 0 unless the conditions of 15 R421 hold (the chip is out
of reset, not in the safe state, Gesta in stage 8 with an active core), it ends so. -/
def Obligations.AliveRuleKept : Prop :=
  ∀ s t : State, aliveRule s = true → step s = .next t → aliveRule t = true

/-- The state after reset: ALIVE's rule holds, no command waits, the pool lists no byte, every field of every register stands at its reset
value; and a chip cold reset (PERST_N) puts every register there again and keeps the flash and the event log (13 R384, 15 R432). -/
def Obligations.ResetState : Prop :=
  (aliveRule State.reset = true ∧ State.reset.pending = [] ∧ Memory.wf State.reset.mem = true ∧ State.reset.mem = []) ∧
  (∀ (f : Field) (i : Nat), State.reset.rd f i = resetOf f i ∧ State.reset.rdSw f i = resetOf f i) ∧
  ∀ (s u : State) (lowNs at_ : Nat), u = s.advance at_ → u.pin.perst = true → 100 ≤ lowNs →
    ∃ t, exec (.perstNAssert ⟨lowNs, at_⟩) s = .next t ∧
    t.mem = [] ∧ t.well = State.reset.well ∧ t.grps = [] ∧ t.sw = State.reset.sw ∧ t.links = [] ∧ t.host = State.reset.host ∧
    t.gmc.flash = u.gmc.flash ∧ t.gmc.log = u.gmc.log ∧ t.pin.perst = false ∧ t.pin.alive = false ∧
    ∀ (f : Field) (i : Nat), fkey f i ≠ fkey F.FLT_STAT_ALIVE_RUN 0 → t.rd f i = resetOf f i

/-- A register field reads back what was written, within its width, and every other field, in either copy, reads as before; a write of
software's copy of a shadowed field leaves every live value as it was (13 R367, R374). -/
def Obligations.RegistersReadBack : Prop :=
  ∀ (s : State) (f : Field) (i v : Nat),
    (s.wr f i v).rd f i = v % 2 ^ f.width ∧ (s.wr f i v).rdSw f i = v % 2 ^ f.width ∧
    (∀ (g : Field) (j : Nat), fkey g j ≠ fkey f i → (s.wr f i v).rd g j = s.rd g j ∧ (s.wr f i v).rdSw g j = s.rdSw g j) ∧
    (f.shadowed = true → (s.wrSw f i v).rdSw f i = v % 2 ^ f.width ∧
      (∀ (g : Field) (j : Nat), (s.wrSw f i v).rd g j = s.rd g j) ∧
      ∀ (g : Field) (j : Nat), fkey g j ≠ fkey f i → (s.wrSw f i v).rdSw g j = s.rdSw g j)

/-- The bytes of a write: whole lines of a range whose devices are in service and which no mirror window covers are stored at their
addresses, every other byte of the pool reads as before, and a clean read of the range gives the data back (09 R250 to R252). -/
def Obligations.StoredLines : Prop :=
  ∀ (s t : State) (p n : Nat) (d : List Byte), p % 64 = 0 → n % 64 = 0 → d.length = n →
    (∀ l ∈ linesOf p n, winOf s l = none ∧ devOut s (devOf s l) = false) → t = writeLines (linesOf p n) d s →
    (∀ a, memByte t a = if p ≤ a ∧ a < p + n then d.getD (a - p) 0 else memByte s a) ∧
    t.regs = s.regs ∧ t.well = s.well ∧ readLines [] (linesOf p n) t = ((0, 0, d), t)

/-- In the safe state every register write, doorbell and descriptor fetch is ignored without a fault: the command changes nothing, but
that ALIVE is held low (15 R421, R425). -/
def Obligations.SafeStateIgnoresWrites : Prop :=
  (∀ (s : State) (m : Master) (val be w i g n k off b kind c : Nat) (pset en : Bool) (ev : BootEv) (x : Instr), isSafe s = true →
    x ∈ ([
      .glbPlaceWrite m val be, .lock m val be, .swcFwdWrite m b pset i val be, .sealA m, .sealB m, .inval m, .loadArm m,
      .timCtrlSrcWrite m val be, .ttBankWrite m b kind i w val be, .ttSealA m, .ttSealB m, .admitA m, .admitB m, .issue m, .revert m,
      .cancel m, .grpEntWrite m g w val be, .grpRankWrite m b i val be, .create m g, .createShape m g, .destroy m g, .abort m g,
      .retire m n, .testGo m n, .restore m n, .welFarCfgWrite m val be, .takeOut m n, .soCmdRead m val be, .soCmdFetchAdd m val be,
      .soCmdCompareSwap m val be, .soCmdSignal m val be, .soTypeWrite m n w val be, .valLoWrite m n val be, .valHiWrite m n val be,
      .hbLateClear m i val be, .drop m n, .retrain m n, .portEnWrite m n en, .loop m n k, .escanGo m n, .prbsRxEnWrite m n val be,
      .crEnWrite m n val be, .cqEnWrite m n val be, .tail n val be, .head n val be, .kick m c, .release m ev, .gmcRst m ev, .safeGo m,
      .coreWarm m, .pump m, .pool m, .portGo m n, .pwrCapHostWrite m val be, .pwrCapRackWrite m val be, .pwrBrkReqWrite m val be,
      .pwrThermCfgWrite m val be, .counterLowWrite m off val be, .counterHighWrite m off val be, .telBwCfgWrite m val be,
      .telRingCfgWrite m val be] : List Instr) →
    exec x s = .next s ∨ exec x s = .next (settleAlive s)) ∧
  ∀ (s u : State) (ws : List Word) (at_ : Nat), u = s.advance at_ → isSafe u = true →
    exec (.descriptorFetch ws at_) s = .next (settleAlive u)

/-- The sum of a reduction does not depend on the order of its inputs or on the shape of the tree: contributors taken in another order
give the same accumulators, and the accumulators of all are the sums of those of any two parts (07 R194 to R196). -/
def Obligations.SumsHaveNoOrder : Prop :=
  (∀ (isInt : Bool) (n : Nat) (ls ms : List (List Acc)), ls.Perm ms → (∀ l ∈ ls, l.length = n ∧ ∀ a ∈ l, a.cls ≤ 4) →
    foldAccs 0 isInt n ls = foldAccs 0 isInt n ms) ∧
  ∀ (isInt : Bool) (n : Nat) (ls ms : List (List Acc)), ls ≠ [] → ms ≠ [] →
    (∀ l ∈ ls ++ ms, l.length = n ∧ ∀ a ∈ l, a.cls ≤ 4) →
    foldAccs 0 isInt n (ls ++ ms) = List.zipWith Acc.add (foldAccs 0 isInt n ls) (foldAccs 0 isInt n ms)

/-- 07 R199: an integer output is SUM divided by 2^149, clamped to the range of INT8 (format 0x10) or INT32 (0x11); a clamped output, and
no other, sets SAT (bit 0 of the flags). -/
def Obligations.IntegerOutputs : Prop :=
  ∀ (f : Nat) (lo hi : Int) (as_ : List Acc) (qs : List Int),
    (f = 0x10 ∧ lo = -128 ∧ hi = 127) ∨ (f = 0x11 ∧ lo = -2147483648 ∧ hi = 2147483647) →
    as_.map (·.sum) = qs.map (· * 2 ^ 149) →
    roundOut f as_ = (qs.map fun q => (unsigned (if f = 0x10 then 8 else 32) (max lo (min hi q)), 127),
      if qs.any (fun q => decide (q < lo) || decide (hi < q)) then 1 else 0)

/-- 13 R372: a read leaves every register as it was, but that a read of GLB_SEM acquires or renews and that a read of the first half of a
latched pair latches the second. -/
def Obligations.ReadsChangeNothing : Prop :=
  ∀ (s t : State) (m : Master) (off v : Nat), readNow s m off = (v, t) →
    (∀ (f : Field) (i : Nat), fkey f i ≠ fkey F.GLB_SEM_HOLDER 0 → fkey f i ≠ fkey F.GLB_SEM_HELD 0 →
      t.rd f i = s.rd f i ∧ t.rdSw f i = s.rdSw f i) ∧
    ((∀ i w, locate off ≠ some (.GLB_SEM, i, w)) → t.regs = s.regs ∧
      ((∀ r i w, locate off = some (r, i, w) → firstHalf r w = false) → t = s) ∧
      ∃ l, t = { s with latch := l })

/-- 12 R361: a read takes a free semaphore for its master with a fresh lease and renews its own master's; another master's read changes
nothing and returns GOT 0; the holder's whole write with RELEASE 1 frees it; any other master's write and a partial write are ignored,
raise an access fault and report kind 0x05; a REG_READ of it, however long, acquires as well. -/
def Obligations.SemaphoreRules : Prop :=
  (∀ (s : State) (m : Master), (semHolder s = 0 ∨ semHolder s = masterCode m) →
    ∃ v t, readNow s m (regOff .GLB_SEM 0) = (v, t) ∧ t = semTake s (masterCode m) ∧ bits v 30 1 = 1 ∧
      semHolder t = masterCode m ∧ t.rd0 F.GLB_SEM_HELD = 1 ∧
      t.semEnd = if s.rd0 F.GLB_SEM_CFG_LEASE = 0 then none else some (s.now + 1000000 * s.rd0 F.GLB_SEM_CFG_LEASE)) ∧
  (∀ (s : State) (m : Master), semHolder s ≠ 0 → semHolder s ≠ masterCode m →
    ∃ v, readNow s m (regOff .GLB_SEM 0) = (v, s) ∧ bits v 30 1 = 0) ∧
  (∀ (s : State) (m : Master) (val : Nat), semHolder s = masterCode m → val % 2 = 1 →
    semWrite s m val 15 = semFree s ∧ semHolder (semFree s) = 0 ∧ (semFree s).semEnd = none) ∧
  (∀ (s c : State) (k : Nat), c = countReg s .host false (regOff .GLB_SEM 0) → semHolder c = 0 →
    (regReads (k + 1) (regOff .GLB_SEM 0) s).2 = (regReads k (regOff .GLB_SEM 0 + 4) (semTake c (masterCode .host))).2) ∧
  ∀ (s : State) (m : Master) (val be : Nat), (semHolder s ≠ masterCode m ∨ be % 16 ≠ 15) → ∃ kind, (kind = 1 ∨ kind = 2) ∧
    semWrite s m val be = (s.accessFault m kind (regOff .GLB_SEM 0)).report 3 5 (masterCode m) (masterCode m) 2

/-- Sync objects: on an object that is no BARRIER, FETCH_ADD adds modulo 2^64, COMPARE_SWAP stores its first argument where V equals the
second, SIGNAL adds, and on an EVENT stores; every other object keeps its value; on a BARRIER a SIGNAL that reaches TARGET starts the
next generation with count 0, and one that does not adds to the count up to 2^32 - 1 (09 R268). -/
def Obligations.SyncValues : Prop :=
  (∀ (s : State) (n sop a0 a1 : Nat), n < 8192 → soType s n ≠ 3 → soValue (soDo s n sop a0 a1) n =
    if sop = 1 then (soValue s n + a0) % 2 ^ 64
    else if sop = 2 then (if soValue s n = a1 then a0 else soValue s n) % 2 ^ 64
    else if sop = 5 then (if soType s n = 4 then a0 else soValue s n + a0) % 2 ^ 64
    else soValue s n % 2 ^ 64) ∧
  (∀ (s : State) (n k sop a0 a1 : Nat), n < 8192 → k < 8192 → k ≠ n → soType s n ≠ 3 →
    soValue (soDo s n sop a0 a1) k = soValue s k) ∧
  ∀ (s : State) (n a0 a1 c : Nat), soType s n = 3 → c = min (soValue s n % 2 ^ 32 + a0 % 2 ^ 32) (2 ^ 32 - 1) →
    soApply s n 5 a0 a1 =
      if s.rd F.WEL_SO_TARGET n ≠ 0 ∧ s.rd F.WEL_SO_TARGET n ≤ c then ((soValue s n / 2 ^ 32 + 1) % 2 ^ 32 * 2 ^ 32, true)
      else (soValue s n / 2 ^ 32 * 2 ^ 32 + c, false)
end

