-- ==== Sys2Proof/Laws/Exec.lean ====
section
/-! SUPPORT. `exec` at each constructor is the constructor's meaning; the names that a proof about one row rewrites with first. -/

namespace Sys2Proof.Machine

open Sys2Proof

@[simp] theorem exec_registerWrite (m off val be ev) (s : State) : exec (.registerWrite m off val be ev) s = execRegisterWrite m off val be ev s := rfl
@[simp] theorem exec_latchedPairRead (m off way) (s : State) : exec (.latchedPairRead m off way) s = execLatchedPairRead m off way s := rfl
@[simp] theorem exec_glbPlaceWrite (m val be) (s : State) : exec (.glbPlaceWrite m val be) s = execGlbPlaceWrite m val be s := rfl
@[simp] theorem exec_lock (m val be) (s : State) : exec (.lock m val be) s = execLock m val be s := rfl
@[simp] theorem exec_linkBlockReceive (lp blk at_) (s : State) : exec (.linkBlockReceive lp blk at_) s = execLinkBlockReceive lp blk at_ s := rfl
@[simp] theorem exec_stageOneAdmit (idx k at_) (s : State) : exec (.stageOneAdmit idx k at_) s = execStageOneAdmit idx k at_ s := rfl
@[simp] theorem exec_stageTwoMove (k pos par at_) (s : State) : exec (.stageTwoMove k pos par at_) s = execStageTwoMove k pos par at_ s := rfl
@[simp] theorem exec_resequencerTimeout (src pos vc at_) (s : State) : exec (.resequencerTimeout src pos vc at_) s = execResequencerTimeout src pos vc at_ s := rfl
@[simp] theorem exec_egressCellSend (lp bad tx at_) (s : State) : exec (.egressCellSend lp bad tx at_) s = execEgressCellSend lp bad tx at_ s := rfl
@[simp] theorem exec_interCellGapTimeout (lp vc at_) (s : State) : exec (.interCellGapTimeout lp vc at_) s = execInterCellGapTimeout lp vc at_ s := rfl
@[simp] theorem exec_residencyLimit (pid at_) (s : State) : exec (.residencyLimit pid at_) s = execResidencyLimit pid at_ s := rfl
@[simp] theorem exec_starvePromotion (lp vc at_) (s : State) : exec (.starvePromotion lp vc at_) s = execStarvePromotion lp vc at_ s := rfl
@[simp] theorem exec_fenceRelease (lp at_) (s : State) : exec (.fenceRelease lp at_) s = execFenceRelease lp at_ s := rfl
@[simp] theorem exec_portFlushDone (lp at_) (s : State) : exec (.portFlushDone lp at_) s = execPortFlushDone lp at_ s := rfl
@[simp] theorem exec_swcFwdWrite (m b pset idx val be) (s : State) : exec (.swcFwdWrite m b pset idx val be) s = execSwcFwdWrite m b pset idx val be s := rfl
@[simp] theorem exec_sealA (m) (s : State) : exec (.sealA m) s = execSealA m s := rfl
@[simp] theorem exec_sealB (m) (s : State) : exec (.sealB m) s = execSealB m s := rfl
@[simp] theorem exec_bankDrainEnd (at_) (s : State) : exec (.bankDrainEnd at_) s = execBankDrainEnd at_ s := rfl
@[simp] theorem exec_tickEdge (high at_) (s : State) : exec (.tickEdge high at_) s = execTickEdge high at_ s := rfl
@[simp] theorem exec_holdoverEnter (at_) (s : State) : exec (.holdoverEnter at_) s = execHoldoverEnter at_ s := rfl
@[simp] theorem exec_tickBoundary (at_) (s : State) : exec (.tickBoundary at_) s = execTickBoundary at_ s := rfl
@[simp] theorem exec_inval (m) (s : State) : exec (.inval m) s = execInval m s := rfl
@[simp] theorem exec_loadArm (m) (s : State) : exec (.loadArm m) s = execLoadArm m s := rfl
@[simp] theorem exec_loadTakeEffect (at_) (s : State) : exec (.loadTakeEffect at_) s = execLoadTakeEffect at_ s := rfl
@[simp] theorem exec_timCtrlSrcWrite (m val be) (s : State) : exec (.timCtrlSrcWrite m val be) s = execTimCtrlSrcWrite m val be s := rfl
@[simp] theorem exec_syncSend (at_) (s : State) : exec (.syncSend at_) s = execSyncSend at_ s := rfl
@[simp] theorem exec_delayReqSend (at_) (s : State) : exec (.delayReqSend at_) s = execDelayReqSend at_ s := rfl
@[simp] theorem exec_delayRspReceive (p at_) (s : State) : exec (.delayRspReceive p at_) s = execDelayRspReceive p at_ s := rfl
@[simp] theorem exec_syncReceive (p at_) (s : State) : exec (.syncReceive p at_) s = execSyncReceive p at_ s := rfl
@[simp] theorem exec_ttBankWrite (m b kind idx w val be) (s : State) : exec (.ttBankWrite m b kind idx w val be) s = execTtBankWrite m b kind idx w val be s := rfl
@[simp] theorem exec_ttSealA (m) (s : State) : exec (.ttSealA m) s = execTtSealA m s := rfl
@[simp] theorem exec_ttSealB (m) (s : State) : exec (.ttSealB m) s = execTtSealB m s := rfl
@[simp] theorem exec_admitA (m) (s : State) : exec (.admitA m) s = execAdmitA m s := rfl
@[simp] theorem exec_admitB (m) (s : State) : exec (.admitB m) s = execAdmitB m s := rfl
@[simp] theorem exec_admissionDone (at_) (s : State) : exec (.admissionDone at_) s = execAdmissionDone at_ s := rfl
@[simp] theorem exec_timetableRecheck (at_) (s : State) : exec (.timetableRecheck at_) s = execTimetableRecheck at_ s := rfl
@[simp] theorem exec_deadlineMiss (g at_) (s : State) : exec (.deadlineMiss g at_) s = execDeadlineMiss g at_ s := rfl
@[simp] theorem exec_issue (m) (s : State) : exec (.issue m) s = execIssue m s := rfl
@[simp] theorem exec_revert (m) (s : State) : exec (.revert m) s = execRevert m s := rfl
@[simp] theorem exec_cancel (m) (s : State) : exec (.cancel m) s = execCancel m s := rfl
@[simp] theorem exec_commitTakeEffect (ev at_) (s : State) : exec (.commitTakeEffect ev at_) s = execCommitTakeEffect ev at_ s := rfl
@[simp] theorem exec_grpEntWrite (m g w val be) (s : State) : exec (.grpEntWrite m g w val be) s = execGrpEntWrite m g w val be s := rfl
@[simp] theorem exec_grpRankWrite (m b idx val be) (s : State) : exec (.grpRankWrite m b idx val be) s = execGrpRankWrite m b idx val be s := rfl
@[simp] theorem exec_create (m g) (s : State) : exec (.create m g) s = execCreate m g s := rfl
@[simp] theorem exec_createShape (m g) (s : State) : exec (.createShape m g) s = execCreateShape m g s := rfl
@[simp] theorem exec_destroy (m g) (s : State) : exec (.destroy m g) s = execDestroy m g s := rfl
@[simp] theorem exec_abort (m g) (s : State) : exec (.abort m g) s = execAbort m g s := rfl
@[simp] theorem exec_groupFree (g at_) (s : State) : exec (.groupFree g at_) s = execGroupFree g at_ s := rfl
@[simp] theorem exec_doorbell (p at_) (s : State) : exec (.doorbell p at_) s = execDoorbell p at_ s := rfl
@[simp] theorem exec_launch (g at_) (s : State) : exec (.launch g at_) s = execLaunch g at_ s := rfl
@[simp] theorem exec_grantReq (p at_) (s : State) : exec (.grantReq p at_) s = execGrantReq p at_ s := rfl
@[simp] theorem exec_waveGrant (hostData at_) (s : State) : exec (.waveGrant hostData at_) s = execWaveGrant hostData at_ s := rfl
@[simp] theorem exec_grant (p at_) (s : State) : exec (.grant p at_) s = execGrant p at_ s := rfl
@[simp] theorem exec_contrib (p at_) (s : State) : exec (.contrib p at_) s = execContrib p at_ s := rfl
@[simp] theorem exec_dispatch (p at_) (s : State) : exec (.dispatch p at_) s = execDispatch p at_ s := rfl
@[simp] theorem exec_expertOut (p at_) (s : State) : exec (.expertOut p at_) s = execExpertOut p at_ s := rfl
@[simp] theorem exec_result (p at_) (s : State) : exec (.result p at_) s = execResult p at_ s := rfl
@[simp] theorem exec_progressTimeout (g at_) (s : State) : exec (.progressTimeout g at_) s = execProgressTimeout g at_ s := rfl
@[simp] theorem exec_abortReq (p at_) (s : State) : exec (.abortReq p at_) s = execAbortReq p at_ s := rfl
@[simp] theorem exec_seqctlAbort (p at_) (s : State) : exec (.seqctlAbort p at_) s = execSeqctlAbort p at_ s := rfl
@[simp] theorem exec_token (p at_) (s : State) : exec (.token p at_) s = execToken p at_ s := rfl
@[simp] theorem exec_tokenSend (g at_) (s : State) : exec (.tokenSend g at_) s = execTokenSend g at_ s := rfl
@[simp] theorem exec_sweepStart (g idx at_) (s : State) : exec (.sweepStart g idx at_) s = execSweepStart g idx at_ s := rfl
@[simp] theorem exec_sweepDone (g idx mismatch parity at_) (s : State) : exec (.sweepDone g idx mismatch parity at_) s = execSweepDone g idx mismatch parity at_ s := rfl
@[simp] theorem exec_pumpDrained (n at_) (s : State) : exec (.pumpDrained n at_) s = execPumpDrained n at_ s := rfl
@[simp] theorem exec_retire (m n) (s : State) : exec (.retire m n) s = execRetire m n s := rfl
@[simp] theorem exec_testGo (m n) (s : State) : exec (.testGo m n) s = execTestGo m n s := rfl
@[simp] theorem exec_selfTestDone (n nfail at_) (s : State) : exec (.selfTestDone n nfail at_) s = execSelfTestDone n nfail at_ s := rfl
@[simp] theorem exec_restore (m n) (s : State) : exec (.restore m n) s = execRestore m n s := rfl
@[simp] theorem exec_cisternScrub (n fail chunk bad at_) (s : State) : exec (.cisternScrub n fail chunk bad at_) s = execCisternScrub n fail chunk bad at_ s := rfl
@[simp] theorem exec_wellInitDone (ev at_) (s : State) : exec (.wellInitDone ev at_) s = execWellInitDone ev at_ s := rfl
@[simp] theorem exec_welFarCfgWrite (m val be) (s : State) : exec (.welFarCfgWrite m val be) s = execWelFarCfgWrite m val be s := rfl
@[simp] theorem exec_read (p at_) (s : State) : exec (.read p at_) s = execRead p at_ s := rfl
@[simp] theorem exec_write (p badLine at_) (s : State) : exec (.write p badLine at_) s = execWrite p badLine at_ s := rfl
@[simp] theorem exec_atomicFetchAdd (p badLine at_) (s : State) : exec (.atomicFetchAdd p badLine at_) s = execAtomicFetchAdd p badLine at_ s := rfl
@[simp] theorem exec_atomicSwap (p badLine at_) (s : State) : exec (.atomicSwap p badLine at_) s = execAtomicSwap p badLine at_ s := rfl
@[simp] theorem exec_atomicCompareSwap (p badLine at_) (s : State) : exec (.atomicCompareSwap p badLine at_) s = execAtomicCompareSwap p badLine at_ s := rfl
@[simp] theorem exec_atomicFetchAnd (p badLine at_) (s : State) : exec (.atomicFetchAnd p badLine at_) s = execAtomicFetchAnd p badLine at_ s := rfl
@[simp] theorem exec_atomicFetchOr (p badLine at_) (s : State) : exec (.atomicFetchOr p badLine at_) s = execAtomicFetchOr p badLine at_ s := rfl
@[simp] theorem exec_atomicFetchXor (p badLine at_) (s : State) : exec (.atomicFetchXor p badLine at_) s = execAtomicFetchXor p badLine at_ s := rfl
@[simp] theorem exec_wellRequestComplete (id evs at_) (s : State) : exec (.wellRequestComplete id evs at_) s = execWellRequestComplete id evs at_ s := rfl
@[simp] theorem exec_takeOut (m d) (s : State) : exec (.takeOut m d) s = execTakeOut m d s := rfl
@[simp] theorem exec_contextTimeout (c at_) (s : State) : exec (.contextTimeout c at_) s = execContextTimeout c at_ s := rfl
@[simp] theorem exec_patrolScrub (far evs at_) (s : State) : exec (.patrolScrub far evs at_) s = execPatrolScrub far evs at_ s := rfl
@[simp] theorem exec_mirrorFillDone (w evs at_) (s : State) : exec (.mirrorFillDone w evs at_) s = execMirrorFillDone w evs at_ s := rfl
@[simp] theorem exec_migrationDone (evs at_) (s : State) : exec (.migrationDone evs at_) s = execMigrationDone evs at_ s := rfl
@[simp] theorem exec_bar4Access (kind b n data en at_) (s : State) : exec (.bar4Access kind b n data en at_) s = execBar4Access kind b n data en at_ s := rfl
@[simp] theorem exec_soRead (p at_) (s : State) : exec (.soRead p at_) s = execSoRead p at_ s := rfl
@[simp] theorem exec_soFetchAdd (p at_) (s : State) : exec (.soFetchAdd p at_) s = execSoFetchAdd p at_ s := rfl
@[simp] theorem exec_soCompareSwap (p at_) (s : State) : exec (.soCompareSwap p at_) s = execSoCompareSwap p at_ s := rfl
@[simp] theorem exec_waitGe (p at_) (s : State) : exec (.waitGe p at_) s = execWaitGe p at_ s := rfl
@[simp] theorem exec_waitEq (p at_) (s : State) : exec (.waitEq p at_) s = execWaitEq p at_ s := rfl
@[simp] theorem exec_signal (p at_) (s : State) : exec (.signal p at_) s = execSignal p at_ s := rfl
@[simp] theorem exec_soCancel (p at_) (s : State) : exec (.soCancel p at_) s = execSoCancel p at_ s := rfl
@[simp] theorem exec_soWaitTimeout (n k at_) (s : State) : exec (.soWaitTimeout n k at_) s = execSoWaitTimeout n k at_ s := rfl
@[simp] theorem exec_soCmdRead (m val be) (s : State) : exec (.soCmdRead m val be) s = execSoCmdRead m val be s := rfl
@[simp] theorem exec_soCmdFetchAdd (m val be) (s : State) : exec (.soCmdFetchAdd m val be) s = execSoCmdFetchAdd m val be s := rfl
@[simp] theorem exec_soCmdCompareSwap (m val be) (s : State) : exec (.soCmdCompareSwap m val be) s = execSoCmdCompareSwap m val be s := rfl
@[simp] theorem exec_soCmdSignal (m val be) (s : State) : exec (.soCmdSignal m val be) s = execSoCmdSignal m val be s := rfl
@[simp] theorem exec_soTypeWrite (m n w val be) (s : State) : exec (.soTypeWrite m n w val be) s = execSoTypeWrite m n w val be s := rfl
@[simp] theorem exec_valLoWrite (m n val be) (s : State) : exec (.valLoWrite m n val be) s = execValLoWrite m n val be s := rfl
@[simp] theorem exec_valHiWrite (m n val be) (s : State) : exec (.valHiWrite m n val be) s = execValHiWrite m n val be s := rfl
@[simp] theorem exec_roomSnap (p badLine at_) (s : State) : exec (.roomSnap p badLine at_) s = execRoomSnap p badLine at_ s := rfl
@[simp] theorem exec_roomJrnl (p badLine at_) (s : State) : exec (.roomJrnl p badLine at_) s = execRoomJrnl p badLine at_ s := rfl
@[simp] theorem exec_roomRead (p at_) (s : State) : exec (.roomRead p at_) s = execRoomRead p at_ s := rfl
@[simp] theorem exec_heartbeatCheck (at_) (s : State) : exec (.heartbeatCheck at_) s = execHeartbeatCheck at_ s := rfl
@[simp] theorem exec_hbLateClear (m idx val be) (s : State) : exec (.hbLateClear m idx val be) s = execHbLateClear m idx val be s := rfl
@[simp] theorem exec_lcwBuild (lp at_) (s : State) : exec (.lcwBuild lp at_) s = execLcwBuild lp at_ s := rfl
@[simp] theorem exec_lcwReceive (lp at_) (s : State) : exec (.lcwReceive lp at_) s = execLcwReceive lp at_ s := rfl
@[simp] theorem exec_replayTimeout (lp at_) (s : State) : exec (.replayTimeout lp at_) s = execReplayTimeout lp at_ s := rfl
@[simp] theorem exec_trainingFrameReceive (lp pos frame at_) (s : State) : exec (.trainingFrameReceive lp pos frame at_) s = execTrainingFrameReceive lp pos frame at_ s := rfl
@[simp] theorem exec_eqDone (lp ready at_) (s : State) : exec (.eqDone lp ready at_) s = execEqDone lp ready at_ s := rfl
@[simp] theorem exec_fecLockDone (lp bad at_) (s : State) : exec (.fecLockDone lp bad at_) s = execFecLockDone lp bad at_ s := rfl
@[simp] theorem exec_deskewDone (lp bad at_) (s : State) : exec (.deskewDone lp bad at_) s = execDeskewDone lp bad at_ s := rfl
@[simp] theorem exec_bringupStageTimeout (lp at_) (s : State) : exec (.bringupStageTimeout lp at_) s = execBringupStageTimeout lp at_ s := rfl
@[simp] theorem exec_bringupRetry (lp at_) (s : State) : exec (.bringupRetry lp at_) s = execBringupRetry lp at_ s := rfl
@[simp] theorem exec_identSend (lp at_) (s : State) : exec (.identSend lp at_) s = execIdentSend lp at_ s := rfl
@[simp] theorem exec_ident (p at_) (s : State) : exec (.ident p at_) s = execIdent p at_ s := rfl
@[simp] theorem exec_laneLockLoss (lp mask at_) (s : State) : exec (.laneLockLoss lp mask at_) s = execLaneLockLoss lp mask at_ s := rfl
@[simp] theorem exec_refclkLoss (at_) (s : State) : exec (.refclkLoss at_) s = execRefclkLoss at_ s := rfl
@[simp] theorem exec_restripeDone (lp peer at_) (s : State) : exec (.restripeDone lp peer at_) s = execRestripeDone lp peer at_ s := rfl
@[simp] theorem exec_drop (m l) (s : State) : exec (.drop m l) s = execDrop m l s := rfl
@[simp] theorem exec_retrain (m n) (s : State) : exec (.retrain m n) s = execRetrain m n s := rfl
@[simp] theorem exec_portEnWrite (m n en) (s : State) : exec (.portEnWrite m n en) s = execPortEnWrite m n en s := rfl
@[simp] theorem exec_loop (m n k) (s : State) : exec (.loop m n k) s = execLoop m n k s := rfl
@[simp] theorem exec_loopEchoEnd (lp at_) (s : State) : exec (.loopEchoEnd lp at_) s = execLoopEchoEnd lp at_ s := rfl
@[simp] theorem exec_eidleEnter (lp at_) (s : State) : exec (.eidleEnter lp at_) s = execEidleEnter lp at_ s := rfl
@[simp] theorem exec_eidleExit (lp at_) (s : State) : exec (.eidleExit lp at_) s = execEidleExit lp at_ s := rfl
@[simp] theorem exec_escanGo (m l) (s : State) : exec (.escanGo m l) s = execEscanGo m l s := rfl
@[simp] theorem exec_escanDone (l n at_) (s : State) : exec (.escanDone l n at_) s = execEscanDone l n at_ s := rfl
@[simp] theorem exec_prbsRxEnWrite (m l val be) (s : State) : exec (.prbsRxEnWrite m l val be) s = execPrbsRxEnWrite m l val be s := rfl
@[simp] theorem exec_pause (p at_) (s : State) : exec (.pause p at_) s = execPause p at_ s := rfl
@[simp] theorem exec_resume (p at_) (s : State) : exec (.resume p at_) s = execResume p at_ s := rfl
@[simp] theorem exec_pauseLimitExpire (lp at_) (s : State) : exec (.pauseLimitExpire lp at_) s = execPauseLimitExpire lp at_ s := rfl
@[simp] theorem exec_functionLevelReset (ev at_) (s : State) : exec (.functionLevelReset ev at_) s = execFunctionLevelReset ev at_ s := rfl
@[simp] theorem exec_dlDown (ev at_) (s : State) : exec (.dlDown ev at_) s = execDlDown ev at_ s := rfl
@[simp] theorem exec_hostReadFail (op fail at_) (s : State) : exec (.hostReadFail op fail at_) s = execHostReadFail op fail at_ s := rfl
@[simp] theorem exec_crEnWrite (m ring val be) (s : State) : exec (.crEnWrite m ring val be) s = execCrEnWrite m ring val be s := rfl
@[simp] theorem exec_cqEnWrite (m q val be) (s : State) : exec (.cqEnWrite m q val be) s = execCqEnWrite m q val be s := rfl
@[simp] theorem exec_tail (ring val be) (s : State) : exec (.tail ring val be) s = execTail ring val be s := rfl
@[simp] theorem exec_head (q val be) (s : State) : exec (.head q val be) s = execHead q val be s := rfl
@[simp] theorem exec_descriptorFetch (words at_) (s : State) : exec (.descriptorFetch words at_) s = execDescriptorFetch words at_ s := rfl
@[simp] theorem exec_groupOp (n at_) (s : State) : exec (.groupOp n at_) s = execGroupOp n at_ s := rfl
@[simp] theorem exec_regWrite (n words ev at_) (s : State) : exec (.regWrite n words ev at_) s = execRegWrite n words ev at_ s := rfl
@[simp] theorem exec_regRead (n at_) (s : State) : exec (.regRead n at_) s = execRegRead n at_ s := rfl
@[simp] theorem exec_dma (n data evs bad at_) (s : State) : exec (.dma n data evs bad at_) s = execDma n data evs bad at_ s := rfl
@[simp] theorem exec_migrate (n at_) (s : State) : exec (.migrate n at_) s = execMigrate n at_ s := rfl
@[simp] theorem exec_roomExport (n evs at_) (s : State) : exec (.roomExport n evs at_) s = execRoomExport n evs at_ s := rfl
@[simp] theorem exec_telDump (n fail at_) (s : State) : exec (.telDump n fail at_) s = execTelDump n fail at_ s := rfl
@[simp] theorem exec_fabricSend (n payload at_) (s : State) : exec (.fabricSend n payload at_) s = execFabricSend n payload at_ s := rfl
@[simp] theorem exec_recvPost (n at_) (s : State) : exec (.recvPost n at_) s = execRecvPost n at_ s := rfl
@[simp] theorem exec_nop (n at_) (s : State) : exec (.nop n at_) s = execNop n at_ s := rfl
@[simp] theorem exec_completionWrite (q at_) (s : State) : exec (.completionWrite q at_) s = execCompletionWrite q at_ s := rfl
@[simp] theorem exec_cqIrqTimer (q at_) (s : State) : exec (.cqIrqTimer q at_) s = execCqIrqTimer q at_ s := rfl
@[simp] theorem exec_hostPathDeliver (at_) (s : State) : exec (.hostPathDeliver at_) s = execHostPathDeliver at_ s := rfl
@[simp] theorem exec_read32 (pcie width len tag off at_) (s : State) : exec (.read32 pcie width len tag off at_) s = execRead32 pcie width len tag off at_ s := rfl
@[simp] theorem exec_write32 (pcie width len tag off val ev at_) (s : State) : exec (.write32 pcie width len tag off val ev at_) s = execWrite32 pcie width len tag off val ev at_ s := rfl
@[simp] theorem exec_setEndpointId (pcie eid at_) (s : State) : exec (.setEndpointId pcie eid at_) s = execSetEndpointId pcie eid at_ s := rfl
@[simp] theorem exec_getEndpointId (pcie at_) (s : State) : exec (.getEndpointId pcie at_) s = execGetEndpointId pcie at_ s := rfl
@[simp] theorem exec_getMctpVersionSupport (pcie kind at_) (s : State) : exec (.getMctpVersionSupport pcie kind at_) s = execGetMctpVersionSupport pcie kind at_ s := rfl
@[simp] theorem exec_getMessageTypeSupport (pcie at_) (s : State) : exec (.getMessageTypeSupport pcie at_) s = execGetMessageTypeSupport pcie at_ s := rfl
@[simp] theorem exec_getVendorDefinedMessageSupport (pcie sel at_) (s : State) : exec (.getVendorDefinedMessageSupport pcie sel at_) s = execGetVendorDefinedMessageSupport pcie sel at_ s := rfl
@[simp] theorem exec_entdaa (addr at_) (s : State) : exec (.entdaa addr at_) s = execEntdaa addr at_ s := rfl
@[simp] theorem exec_rstdaa (at_) (s : State) : exec (.rstdaa at_) s = execRstdaa at_ s := rfl
@[simp] theorem exec_setnewda (addr at_) (s : State) : exec (.setnewda addr at_) s = execSetnewda addr at_ s := rfl
@[simp] theorem exec_getpid (at_) (s : State) : exec (.getpid at_) s = execGetpid at_ s := rfl
@[simp] theorem exec_getbcr (at_) (s : State) : exec (.getbcr at_) s = execGetbcr at_ s := rfl
@[simp] theorem exec_getdcr (at_) (s : State) : exec (.getdcr at_) s = execGetdcr at_ s := rfl
@[simp] theorem exec_getstatus (at_) (s : State) : exec (.getstatus at_) s = execGetstatus at_ s := rfl
@[simp] theorem exec_getmrl (at_) (s : State) : exec (.getmrl at_) s = execGetmrl at_ s := rfl
@[simp] theorem exec_getmwl (at_) (s : State) : exec (.getmwl at_) s = execGetmwl at_ s := rfl
@[simp] theorem exec_enec (mask at_) (s : State) : exec (.enec mask at_) s = execEnec mask at_ s := rfl
@[simp] theorem exec_disec (mask at_) (s : State) : exec (.disec mask at_) s = execDisec mask at_ s := rfl
@[simp] theorem exec_rstact (act at_) (s : State) : exec (.rstact act at_) s = execRstact act at_ s := rfl
@[simp] theorem exec_getVersion (way at_) (s : State) : exec (.getVersion way at_) s = execGetVersion way at_ s := rfl
@[simp] theorem exec_getCapabilities (way ver at_) (s : State) : exec (.getCapabilities way ver at_) s = execGetCapabilities way ver at_ s := rfl
@[simp] theorem exec_negotiateAlgorithms (way at_) (s : State) : exec (.negotiateAlgorithms way at_) s = execNegotiateAlgorithms way at_ s := rfl
@[simp] theorem exec_getDigests (way at_) (s : State) : exec (.getDigests way at_) s = execGetDigests way at_ s := rfl
@[simp] theorem exec_getCertificate (way slot off len at_) (s : State) : exec (.getCertificate way slot off len at_) s = execGetCertificate way slot off len at_ s := rfl
@[simp] theorem exec_challenge (way slot nonce at_) (s : State) : exec (.challenge way slot nonce at_) s = execChallenge way slot nonce at_ s := rfl
@[simp] theorem exec_getMeasurements (way index nonce at_) (s : State) : exec (.getMeasurements way index nonce at_) s = execGetMeasurements way index nonce at_ s := rfl
@[simp] theorem exec_requestUpdate (pcie at_) (s : State) : exec (.requestUpdate pcie at_) s = execRequestUpdate pcie at_ s := rfl
@[simp] theorem exec_passComponentTable (pcie comp at_) (s : State) : exec (.passComponentTable pcie comp at_) s = execPassComponentTable pcie comp at_ s := rfl
@[simp] theorem exec_updateComponent (pcie comp at_) (s : State) : exec (.updateComponent pcie comp at_) s = execUpdateComponent pcie comp at_ s := rfl
@[simp] theorem exec_verifyComplete (pcie at_) (s : State) : exec (.verifyComplete pcie at_) s = execVerifyComplete pcie at_ s := rfl
@[simp] theorem exec_applyComplete (pcie at_) (s : State) : exec (.applyComplete pcie at_) s = execApplyComplete pcie at_ s := rfl
@[simp] theorem exec_activateFirmware (pcie ev at_) (s : State) : exec (.activateFirmware pcie ev at_) s = execActivateFirmware pcie ev at_ s := rfl
@[simp] theorem exec_semRead (m) (s : State) : exec (.semRead m) s = execSemRead m s := rfl
@[simp] theorem exec_release (m ev) (s : State) : exec (.release m ev) s = execRelease m ev s := rfl
@[simp] theorem exec_semLeaseLapse (ev at_) (s : State) : exec (.semLeaseLapse ev at_) s = execSemLeaseLapse ev at_ s := rfl
@[simp] theorem exec_configCrcPass (pass) (s : State) : exec (.configCrcPass pass) s = execConfigCrcPass pass s := rfl
@[simp] theorem exec_kick (m c) (s : State) : exec (.kick m c) s = execKick m c s := rfl
@[simp] theorem exec_watchdogLapse (c ev at_) (s : State) : exec (.watchdogLapse c ev at_) s = execWatchdogLapse c ev at_ s := rfl
@[simp] theorem exec_gmcRst (m ev) (s : State) : exec (.gmcRst m ev) s = execGmcRst m ev s := rfl
@[simp] theorem exec_perstNAssert (low) (s : State) : exec (.perstNAssert low) s = execPerstNAssert low s := rfl
@[simp] theorem exec_perstNRelease (ev at_) (s : State) : exec (.perstNRelease ev at_) s = execPerstNRelease ev at_ s := rfl
@[simp] theorem exec_recoveryNAssert (low) (s : State) : exec (.recoveryNAssert low) s = execRecoveryNAssert low s := rfl
@[simp] theorem exec_recoveryNRelease (ev at_) (s : State) : exec (.recoveryNRelease ev at_) s = execRecoveryNRelease ev at_ s := rfl
@[simp] theorem exec_trialConfirm (at_) (s : State) : exec (.trialConfirm at_) s = execTrialConfirm at_ s := rfl
@[simp] theorem exec_updateLockExpire (at_) (s : State) : exec (.updateLockExpire at_) s = execUpdateLockExpire at_ s := rfl
@[simp] theorem exec_getInfo (mb at_) (s : State) : exec (.getInfo mb at_) s = execGetInfo mb at_ s := rfl
@[simp] theorem exec_flashRead (mb at_) (s : State) : exec (.flashRead mb at_) s = execFlashRead mb at_ s := rfl
@[simp] theorem exec_flashErase (mb ok at_) (s : State) : exec (.flashErase mb ok at_) s = execFlashErase mb ok at_ s := rfl
@[simp] theorem exec_flashWrite (mb ok at_) (s : State) : exec (.flashWrite mb ok at_) s = execFlashWrite mb ok at_ s := rfl
@[simp] theorem exec_verifySlot (mb at_) (s : State) : exec (.verifySlot mb at_) s = execVerifySlot mb at_ s := rfl
@[simp] theorem exec_setPrefer (mb at_) (s : State) : exec (.setPrefer mb at_) s = execSetPrefer mb at_ s := rfl
@[simp] theorem exec_confirm (mb at_) (s : State) : exec (.confirm mb at_) s = execConfirm mb at_ s := rfl
@[simp] theorem exec_logRead (mb at_) (s : State) : exec (.logRead mb at_) s = execLogRead mb at_ s := rfl
@[simp] theorem exec_gestaCoreResign (c at_) (s : State) : exec (.gestaCoreResign c at_) s = execGestaCoreResign c at_ s := rfl
@[simp] theorem exec_gestaTakeback (at_) (s : State) : exec (.gestaTakeback at_) s = execGestaTakeback at_ s := rfl
@[simp] theorem exec_faultMessage (src bad parity ev at_) (s : State) : exec (.faultMessage src bad parity ev at_) s = execFaultMessage src bad parity ev at_ s := rfl
@[simp] theorem exec_safeGo (m) (s : State) : exec (.safeGo m) s = execSafeGo m s := rfl
@[simp] theorem exec_faultNMinEnd (at_) (s : State) : exec (.faultNMinEnd at_) s = execFaultNMinEnd at_ s := rfl
@[simp] theorem exec_coreWarm (m) (s : State) : exec (.coreWarm m) s = execCoreWarm m s := rfl
@[simp] theorem exec_coreWarmResetEnd (fail ev at_) (s : State) : exec (.coreWarmResetEnd fail ev at_) s = execCoreWarmResetEnd fail ev at_ s := rfl
@[simp] theorem exec_pump (m) (s : State) : exec (.pump m) s = execPump m s := rfl
@[simp] theorem exec_pumpResetEnd (at_) (s : State) : exec (.pumpResetEnd at_) s = execPumpResetEnd at_ s := rfl
@[simp] theorem exec_pool (m) (s : State) : exec (.pool m) s = execPool m s := rfl
@[simp] theorem exec_poolResetEnd (at_) (s : State) : exec (.poolResetEnd at_) s = execPoolResetEnd at_ s := rfl
@[simp] theorem exec_portGo (m n) (s : State) : exec (.portGo m n) s = execPortGo m n s := rfl
@[simp] theorem exec_healthSend (at_) (s : State) : exec (.healthSend at_) s = execHealthSend at_ s := rfl
@[simp] theorem exec_health (p at_) (s : State) : exec (.health p at_) s = execHealth p at_ s := rfl
@[simp] theorem exec_seqKnownAnswerTest (ok at_) (s : State) : exec (.seqKnownAnswerTest ok at_) s = execSeqKnownAnswerTest ok at_ s := rfl
@[simp] theorem exec_coverDecideStart (at_) (s : State) : exec (.coverDecideStart at_) s = execCoverDecideStart at_ s := rfl
@[simp] theorem exec_takebackClaim (at_) (s : State) : exec (.takebackClaim at_) s = execTakebackClaim at_ s := rfl
@[simp] theorem exec_takebackComplete (at_) (s : State) : exec (.takebackComplete at_) s = execTakebackComplete at_ s := rfl
@[simp] theorem exec_takebackTimeout (at_) (s : State) : exec (.takebackTimeout at_) s = execTakebackTimeout at_ s := rfl
@[simp] theorem exec_partnerSilent (at_) (s : State) : exec (.partnerSilent at_) s = execPartnerSilent at_ s := rfl
@[simp] theorem exec_powerLoop (p at_) (s : State) : exec (.powerLoop p at_) s = execPowerLoop p at_ s := rfl
@[simp] theorem exec_pwrCapHostWrite (m val be) (s : State) : exec (.pwrCapHostWrite m val be) s = execPwrCapHostWrite m val be s := rfl
@[simp] theorem exec_pwrCapRackWrite (m val be) (s : State) : exec (.pwrCapRackWrite m val be) s = execPwrCapRackWrite m val be s := rfl
@[simp] theorem exec_rackLeaseLapse (at_) (s : State) : exec (.rackLeaseLapse at_) s = execRackLeaseLapse at_ s := rfl
@[simp] theorem exec_capdropEnd (at_) (s : State) : exec (.capdropEnd at_) s = execCapdropEnd at_ s := rfl
@[simp] theorem exec_pwrBrkReqWrite (m val be) (s : State) : exec (.pwrBrkReqWrite m val be) s = execPwrBrkReqWrite m val be s := rfl
@[simp] theorem exec_pwrbrkNChange (high lowNs at_) (s : State) : exec (.pwrbrkNChange high lowNs at_) s = execPwrbrkNChange high lowNs at_ s := rfl
@[simp] theorem exec_coolantFailNChange (high lowNs at_) (s : State) : exec (.coolantFailNChange high lowNs at_) s = execCoolantFailNChange high lowNs at_ s := rfl
@[simp] theorem exec_busUvNChange (high lowNs at_) (s : State) : exec (.busUvNChange high lowNs at_) s = execBusUvNChange high lowNs at_ s := rfl
@[simp] theorem exec_coolantShutdown (at_) (s : State) : exec (.coolantShutdown at_) s = execCoolantShutdown at_ s := rfl
@[simp] theorem exec_diodeSample (rs at_) (s : State) : exec (.diodeSample rs at_) s = execDiodeSample rs at_ s := rfl
@[simp] theorem exec_thermistorRead (tin tout loopR at_) (s : State) : exec (.thermistorRead tin tout loopR at_) s = execThermistorRead tin tout loopR at_ s := rfl
@[simp] theorem exec_pwrThermCfgWrite (m val be) (s : State) : exec (.pwrThermCfgWrite m val be) s = execPwrThermCfgWrite m val be s := rfl
@[simp] theorem exec_thermtripN (at_) (s : State) : exec (.thermtripN at_) s = execThermtripN at_ s := rfl
@[simp] theorem exec_epoN (high lowNs at_) (s : State) : exec (.epoN high lowNs at_) s = execEpoN high lowNs at_ s := rfl
@[simp] theorem exec_counterLowWrite (m off val be) (s : State) : exec (.counterLowWrite m off val be) s = execCounterLowWrite m off val be s := rfl
@[simp] theorem exec_counterHighWrite (m off val be) (s : State) : exec (.counterHighWrite m off val be) s = execCounterHighWrite m off val be s := rfl
@[simp] theorem exec_bwWindowEnd (at_) (s : State) : exec (.bwWindowEnd at_) s = execBwWindowEnd at_ s := rfl
@[simp] theorem exec_telBwCfgWrite (m val be) (s : State) : exec (.telBwCfgWrite m val be) s = execTelBwCfgWrite m val be s := rfl
@[simp] theorem exec_telRingCfgWrite (m val be) (s : State) : exec (.telRingCfgWrite m val be) s = execTelRingCfgWrite m val be s := rfl
@[simp] theorem exec_periodicDumpStart (fail at_) (s : State) : exec (.periodicDumpStart fail at_) s = execPeriodicDumpStart fail at_ s := rfl
@[simp] theorem exec_dumpEnd (fail at_) (s : State) : exec (.dumpEnd fail at_) s = execDumpEnd fail at_ s := rfl
@[simp] theorem exec_help (line) (s : State) : exec (.help line) s = execHelp line s := rfl
@[simp] theorem exec_stat (line) (s : State) : exec (.stat line) s = execStat line s := rfl
@[simp] theorem exec_ver (line) (s : State) : exec (.ver line) s = execVer line s := rfl
@[simp] theorem exec_faultList (line) (s : State) : exec (.faultList line) s = execFaultList line s := rfl
@[simp] theorem exec_port (chars at_) (s : State) : exec (.port chars at_) s = execPort chars at_ s := rfl
@[simp] theorem exec_lane (chars at_) (s : State) : exec (.lane chars at_) s = execLane chars at_ s := rfl
@[simp] theorem exec_temp (line) (s : State) : exec (.temp line) s = execTemp line s := rfl
@[simp] theorem exec_power (line) (s : State) : exec (.power line) s = execPower line s := rfl
@[simp] theorem exec_regRd (chars at_) (s : State) : exec (.regRd chars at_) s = execRegRd chars at_ s := rfl
@[simp] theorem exec_log (chars at_) (s : State) : exec (.log chars at_) s = execLog chars at_ s := rfl
@[simp] theorem exec_regWr (chars ev at_) (s : State) : exec (.regWr chars ev at_) s = execRegWr chars ev at_ s := rfl
@[simp] theorem exec_faultClear (chars ev at_) (s : State) : exec (.faultClear chars ev at_) s = execFaultClear chars ev at_ s := rfl
@[simp] theorem exec_atest (chars ev at_) (s : State) : exec (.atest chars ev at_) s = execAtest chars ev at_ s := rfl
@[simp] theorem exec_servicePort (chars ev at_) (s : State) : exec (.servicePort chars ev at_) s = execServicePort chars ev at_ s := rfl
@[simp] theorem exec_serviceOn (line) (s : State) : exec (.serviceOn line) s = execServiceOn line s := rfl
@[simp] theorem exec_serviceOnForce (ev line) (s : State) : exec (.serviceOnForce ev line) s = execServiceOnForce ev line s := rfl
@[simp] theorem exec_serviceOff (ev line) (s : State) : exec (.serviceOff ev line) s = execServiceOff ev line s := rfl
@[simp] theorem exec_resetPort (chars ev at_) (s : State) : exec (.resetPort chars ev at_) s = execResetPort chars ev at_ s := rfl
@[simp] theorem exec_resetPump (ev line) (s : State) : exec (.resetPump ev line) s = execResetPump ev line s := rfl
@[simp] theorem exec_resetPool (ev line) (s : State) : exec (.resetPool ev line) s = execResetPool ev line s := rfl
@[simp] theorem exec_resetCore (ev line) (s : State) : exec (.resetCore ev line) s = execResetCore ev line s := rfl
@[simp] theorem exec_resetGmc (ev line) (s : State) : exec (.resetGmc ev line) s = execResetGmc ev line s := rfl
@[simp] theorem exec_selftestRails (cut bad ev line) (s : State) : exec (.selftestRails cut bad ev line) s = execSelftestRails cut bad ev line s := rfl
@[simp] theorem exec_selftestSensors (cut bad ev line) (s : State) : exec (.selftestSensors cut bad ev line) s = execSelftestSensors cut bad ev line s := rfl
@[simp] theorem exec_selftestLanes (chars cut errs ev at_) (s : State) : exec (.selftestLanes chars cut errs ev at_) s = execSelftestLanes chars cut errs ev at_ s := rfl
@[simp] theorem exec_selftestPort (chars cut up bad ev at_) (s : State) : exec (.selftestPort chars cut up bad ev at_) s = execSelftestPort chars cut up bad ev at_ s := rfl
@[simp] theorem exec_selftestPumps (cut fails vec ev line) (s : State) : exec (.selftestPumps cut fails vec ev line) s = execSelftestPumps cut fails vec ev line s := rfl
@[simp] theorem exec_selftestCisterns (cut bad line) (s : State) : exec (.selftestCisterns cut bad line) s = execSelftestCisterns cut bad line s := rfl
@[simp] theorem exec_selftestHbm (chars cut corr unc at_) (s : State) : exec (.selftestHbm chars cut corr unc at_) s = execSelftestHbm chars cut corr unc at_ s := rfl
@[simp] theorem exec_selftestDimm (chars cut corr unc at_) (s : State) : exec (.selftestDimm chars cut corr unc at_) s = execSelftestDimm chars cut corr unc at_ s := rfl
@[simp] theorem exec_selftestWell (cut bad line) (s : State) : exec (.selftestWell cut bad line) s = execSelftestWell cut bad line s := rfl
@[simp] theorem exec_selftestSync (cut bad line) (s : State) : exec (.selftestSync cut bad line) s = execSelftestSync cut bad line s := rfl
@[simp] theorem exec_selftestRooms (cut bad line) (s : State) : exec (.selftestRooms cut bad line) s = execSelftestRooms cut bad line s := rfl
@[simp] theorem exec_selftestGroup (cut ok ev line) (s : State) : exec (.selftestGroup cut ok ev line) s = execSelftestGroup cut ok ev line s := rfl
@[simp] theorem exec_refclkReturn (ev at_) (s : State) : exec (.refclkReturn ev at_) s = execRefclkReturn ev at_ s := rfl
@[simp] theorem exec_aliveToggle (at_) (s : State) : exec (.aliveToggle at_) s = execAliveToggle at_ s := rfl
@[simp] theorem exec_romLineRepeat (at_) (s : State) : exec (.romLineRepeat at_) s = execRomLineRepeat at_ s := rfl
@[simp] theorem exec_reorderHoldExpire (lp vc at_) (s : State) : exec (.reorderHoldExpire lp vc at_) s = execReorderHoldExpire lp vc at_ s := rfl
@[simp] theorem exec_alwaysOnSupplyUp (at_) (s : State) : exec (.alwaysOnSupplyUp at_) s = execAlwaysOnSupplyUp at_ s := rfl
@[simp] theorem exec_supplyRemoval (at_) (s : State) : exec (.supplyRemoval at_) s = execSupplyRemoval at_ s := rfl
@[simp] theorem exec_doeDiscovery (index at_) (s : State) : exec (.doeDiscovery index at_) s = execDoeDiscovery index at_ s := rfl
@[simp] theorem exec_consoleUnknownCommand (line) (s : State) : exec (.consoleUnknownCommand line) s = execConsoleUnknownCommand line s := rfl
@[simp] theorem exec_mailboxUnknownCmd (mb at_) (s : State) : exec (.mailboxUnknownCmd mb at_) s = execMailboxUnknownCmd mb at_ s := rfl
@[simp] theorem exec_vendorUnknownCmd (pcie cmd tag off at_) (s : State) : exec (.vendorUnknownCmd pcie cmd tag off at_) s = execVendorUnknownCmd pcie cmd tag off at_ s := rfl
@[simp] theorem exec_pldmFirmwareTransfer (pcie off data ok at_) (s : State) : exec (.pldmFirmwareTransfer pcie off data ok at_) s = execPldmFirmwareTransfer pcie off data ok at_ s := rfl

/-- What an exec can be: one effect at a time that the command names, or one at the clock as it stands. -/
def ExecForm (i : Instr) : Prop := (∃ n ok f, ∀ s, exec i s = atTime s n ok f) ∨ ∃ ok f, ∀ s, exec i s = atNow s ok f

theorem timed {i : Instr} {n ok f} (h : ∀ s, exec i s = atTime s n ok f) : ExecForm i := .inl ⟨n, ok, f, h⟩
theorem clocked {i : Instr} {ok f} (h : ∀ s, exec i s = atNow s ok f) : ExecForm i := .inr ⟨ok, f, h⟩

theorem exec_form (i : Instr) : ExecForm i := by
  cases i with
  | registerWrite => exact clocked fun _ => by rw [exec_registerWrite, execRegisterWrite]
  | latchedPairRead => exact clocked fun _ => by rw [exec_latchedPairRead, execLatchedPairRead]
  | glbPlaceWrite => exact clocked fun _ => by rw [exec_glbPlaceWrite, execGlbPlaceWrite]
  | lock => exact clocked fun _ => by rw [exec_lock, execLock]
  | linkBlockReceive => exact timed fun _ => by rw [exec_linkBlockReceive, execLinkBlockReceive]
  | stageOneAdmit => exact timed fun _ => by rw [exec_stageOneAdmit, execStageOneAdmit]
  | stageTwoMove => exact timed fun _ => by rw [exec_stageTwoMove, execStageTwoMove]
  | resequencerTimeout => exact timed fun _ => by rw [exec_resequencerTimeout, execResequencerTimeout]
  | egressCellSend => exact timed fun _ => by rw [exec_egressCellSend, execEgressCellSend]
  | interCellGapTimeout => exact timed fun _ => by rw [exec_interCellGapTimeout, execInterCellGapTimeout]
  | residencyLimit => exact timed fun _ => by rw [exec_residencyLimit, execResidencyLimit]
  | starvePromotion => exact timed fun _ => by rw [exec_starvePromotion, execStarvePromotion]
  | fenceRelease => exact timed fun _ => by rw [exec_fenceRelease, execFenceRelease]
  | portFlushDone => exact timed fun _ => by rw [exec_portFlushDone, execPortFlushDone]
  | swcFwdWrite => exact clocked fun _ => by rw [exec_swcFwdWrite, execSwcFwdWrite]
  | sealA => exact clocked fun _ => by rw [exec_sealA, execSealA]
  | sealB => exact clocked fun _ => by rw [exec_sealB, execSealB]
  | bankDrainEnd => exact timed fun _ => by rw [exec_bankDrainEnd, execBankDrainEnd]
  | tickEdge => exact timed fun _ => by rw [exec_tickEdge, execTickEdge]
  | holdoverEnter => exact timed fun _ => by rw [exec_holdoverEnter, execHoldoverEnter]
  | tickBoundary => exact timed fun _ => by rw [exec_tickBoundary, execTickBoundary]
  | inval => exact clocked fun _ => by rw [exec_inval, execInval]
  | loadArm => exact clocked fun _ => by rw [exec_loadArm, execLoadArm]
  | loadTakeEffect => exact timed fun _ => by rw [exec_loadTakeEffect, execLoadTakeEffect]
  | timCtrlSrcWrite => exact clocked fun _ => by rw [exec_timCtrlSrcWrite, execTimCtrlSrcWrite]
  | syncSend => exact timed fun _ => by rw [exec_syncSend, execSyncSend]
  | delayReqSend => exact timed fun _ => by rw [exec_delayReqSend, execDelayReqSend]
  | delayRspReceive => exact timed fun _ => by rw [exec_delayRspReceive, execDelayRspReceive]
  | syncReceive => exact timed fun _ => by rw [exec_syncReceive, execSyncReceive]
  | ttBankWrite => exact clocked fun _ => by rw [exec_ttBankWrite, execTtBankWrite]
  | ttSealA => exact clocked fun _ => by rw [exec_ttSealA, execTtSealA]
  | ttSealB => exact clocked fun _ => by rw [exec_ttSealB, execTtSealB]
  | admitA => exact clocked fun _ => by rw [exec_admitA, execAdmitA]
  | admitB => exact clocked fun _ => by rw [exec_admitB, execAdmitB]
  | admissionDone => exact timed fun _ => by rw [exec_admissionDone, execAdmissionDone]
  | timetableRecheck => exact timed fun _ => by rw [exec_timetableRecheck, execTimetableRecheck]
  | deadlineMiss => exact timed fun _ => by rw [exec_deadlineMiss, execDeadlineMiss]
  | issue => exact clocked fun _ => by rw [exec_issue, execIssue]
  | revert => exact clocked fun _ => by rw [exec_revert, execRevert]
  | cancel => exact clocked fun _ => by rw [exec_cancel, execCancel]
  | commitTakeEffect => exact timed fun _ => by rw [exec_commitTakeEffect, execCommitTakeEffect]
  | grpEntWrite => exact clocked fun _ => by rw [exec_grpEntWrite, execGrpEntWrite]
  | grpRankWrite => exact clocked fun _ => by rw [exec_grpRankWrite, execGrpRankWrite]
  | create => exact clocked fun _ => by rw [exec_create, execCreate]
  | createShape => exact clocked fun _ => by rw [exec_createShape, execCreateShape]
  | destroy => exact clocked fun _ => by rw [exec_destroy, execDestroy]
  | abort => exact clocked fun _ => by rw [exec_abort, execAbort]
  | groupFree => exact timed fun _ => by rw [exec_groupFree, execGroupFree]
  | doorbell => exact timed fun _ => by rw [exec_doorbell, execDoorbell]
  | launch => exact timed fun _ => by rw [exec_launch, execLaunch]
  | grantReq => exact timed fun _ => by rw [exec_grantReq, execGrantReq]
  | waveGrant => exact timed fun _ => by rw [exec_waveGrant, execWaveGrant]
  | grant => exact timed fun _ => by rw [exec_grant, execGrant]
  | contrib => exact timed fun _ => by rw [exec_contrib, execContrib]
  | dispatch => exact timed fun _ => by rw [exec_dispatch, execDispatch]
  | expertOut => exact timed fun _ => by rw [exec_expertOut, execExpertOut]
  | result => exact timed fun _ => by rw [exec_result, execResult]
  | progressTimeout => exact timed fun _ => by rw [exec_progressTimeout, execProgressTimeout]
  | abortReq => exact timed fun _ => by rw [exec_abortReq, execAbortReq]
  | seqctlAbort => exact timed fun _ => by rw [exec_seqctlAbort, execSeqctlAbort]
  | token => exact timed fun _ => by rw [exec_token, execToken]
  | tokenSend => exact timed fun _ => by rw [exec_tokenSend, execTokenSend]
  | sweepStart => exact timed fun _ => by rw [exec_sweepStart, execSweepStart]
  | sweepDone => exact timed fun _ => by rw [exec_sweepDone, execSweepDone]
  | pumpDrained => exact timed fun _ => by rw [exec_pumpDrained, execPumpDrained]
  | retire => exact clocked fun _ => by rw [exec_retire, execRetire]
  | testGo => exact clocked fun _ => by rw [exec_testGo, execTestGo]
  | selfTestDone => exact timed fun _ => by rw [exec_selfTestDone, execSelfTestDone]
  | restore => exact clocked fun _ => by rw [exec_restore, execRestore]
  | cisternScrub => exact timed fun _ => by rw [exec_cisternScrub, execCisternScrub]
  | wellInitDone => exact timed fun _ => by rw [exec_wellInitDone, execWellInitDone]
  | welFarCfgWrite => exact clocked fun _ => by rw [exec_welFarCfgWrite, execWelFarCfgWrite]
  | read => exact timed fun _ => by rw [exec_read, execRead]
  | write => exact timed fun _ => by rw [exec_write, execWrite]
  | atomicFetchAdd => exact timed fun _ => by rw [exec_atomicFetchAdd, execAtomicFetchAdd]
  | atomicSwap => exact timed fun _ => by rw [exec_atomicSwap, execAtomicSwap]
  | atomicCompareSwap => exact timed fun _ => by rw [exec_atomicCompareSwap, execAtomicCompareSwap]
  | atomicFetchAnd => exact timed fun _ => by rw [exec_atomicFetchAnd, execAtomicFetchAnd]
  | atomicFetchOr => exact timed fun _ => by rw [exec_atomicFetchOr, execAtomicFetchOr]
  | atomicFetchXor => exact timed fun _ => by rw [exec_atomicFetchXor, execAtomicFetchXor]
  | wellRequestComplete => exact timed fun _ => by rw [exec_wellRequestComplete, execWellRequestComplete]
  | takeOut => exact clocked fun _ => by rw [exec_takeOut, execTakeOut]
  | contextTimeout => exact timed fun _ => by rw [exec_contextTimeout, execContextTimeout]
  | patrolScrub => exact timed fun _ => by rw [exec_patrolScrub, execPatrolScrub]
  | mirrorFillDone => exact timed fun _ => by rw [exec_mirrorFillDone, execMirrorFillDone]
  | migrationDone => exact timed fun _ => by rw [exec_migrationDone, execMigrationDone]
  | bar4Access => exact timed fun _ => by rw [exec_bar4Access, execBar4Access]
  | soRead => exact timed fun _ => by rw [exec_soRead, execSoRead]
  | soFetchAdd => exact timed fun _ => by rw [exec_soFetchAdd, execSoFetchAdd]
  | soCompareSwap => exact timed fun _ => by rw [exec_soCompareSwap, execSoCompareSwap]
  | waitGe => exact timed fun _ => by rw [exec_waitGe, execWaitGe]
  | waitEq => exact timed fun _ => by rw [exec_waitEq, execWaitEq]
  | signal => exact timed fun _ => by rw [exec_signal, execSignal]
  | soCancel => exact timed fun _ => by rw [exec_soCancel, execSoCancel]
  | soWaitTimeout => exact timed fun _ => by rw [exec_soWaitTimeout, execSoWaitTimeout]
  | soCmdRead => exact clocked fun _ => by rw [exec_soCmdRead, execSoCmdRead]
  | soCmdFetchAdd => exact clocked fun _ => by rw [exec_soCmdFetchAdd, execSoCmdFetchAdd]
  | soCmdCompareSwap => exact clocked fun _ => by rw [exec_soCmdCompareSwap, execSoCmdCompareSwap]
  | soCmdSignal => exact clocked fun _ => by rw [exec_soCmdSignal, execSoCmdSignal]
  | soTypeWrite => exact clocked fun _ => by rw [exec_soTypeWrite, execSoTypeWrite]
  | valLoWrite => exact clocked fun _ => by rw [exec_valLoWrite, execValLoWrite]
  | valHiWrite => exact clocked fun _ => by rw [exec_valHiWrite, execValHiWrite]
  | roomSnap => exact timed fun _ => by rw [exec_roomSnap, execRoomSnap]
  | roomJrnl => exact timed fun _ => by rw [exec_roomJrnl, execRoomJrnl]
  | roomRead => exact timed fun _ => by rw [exec_roomRead, execRoomRead]
  | heartbeatCheck => exact timed fun _ => by rw [exec_heartbeatCheck, execHeartbeatCheck]
  | hbLateClear => exact clocked fun _ => by rw [exec_hbLateClear, execHbLateClear]
  | lcwBuild => exact timed fun _ => by rw [exec_lcwBuild, execLcwBuild]
  | lcwReceive => exact timed fun _ => by rw [exec_lcwReceive, execLcwReceive]
  | replayTimeout => exact timed fun _ => by rw [exec_replayTimeout, execReplayTimeout]
  | trainingFrameReceive => exact timed fun _ => by rw [exec_trainingFrameReceive, execTrainingFrameReceive]
  | eqDone => exact timed fun _ => by rw [exec_eqDone, execEqDone]
  | fecLockDone => exact timed fun _ => by rw [exec_fecLockDone, execFecLockDone]
  | deskewDone => exact timed fun _ => by rw [exec_deskewDone, execDeskewDone]
  | bringupStageTimeout => exact timed fun _ => by rw [exec_bringupStageTimeout, execBringupStageTimeout]
  | bringupRetry => exact timed fun _ => by rw [exec_bringupRetry, execBringupRetry]
  | identSend => exact timed fun _ => by rw [exec_identSend, execIdentSend]
  | ident => exact timed fun _ => by rw [exec_ident, execIdent]
  | laneLockLoss => exact timed fun _ => by rw [exec_laneLockLoss, execLaneLockLoss]
  | refclkLoss => exact timed fun _ => by rw [exec_refclkLoss, execRefclkLoss]
  | restripeDone => exact timed fun _ => by rw [exec_restripeDone, execRestripeDone]
  | drop => exact clocked fun _ => by rw [exec_drop, execDrop]
  | retrain => exact clocked fun _ => by rw [exec_retrain, execRetrain]
  | portEnWrite => exact clocked fun _ => by rw [exec_portEnWrite, execPortEnWrite]
  | loop => exact clocked fun _ => by rw [exec_loop, execLoop]
  | loopEchoEnd => exact timed fun _ => by rw [exec_loopEchoEnd, execLoopEchoEnd]
  | eidleEnter => exact timed fun _ => by rw [exec_eidleEnter, execEidleEnter]
  | eidleExit => exact timed fun _ => by rw [exec_eidleExit, execEidleExit]
  | escanGo => exact clocked fun _ => by rw [exec_escanGo, execEscanGo]
  | escanDone => exact timed fun _ => by rw [exec_escanDone, execEscanDone]
  | prbsRxEnWrite => exact clocked fun _ => by rw [exec_prbsRxEnWrite, execPrbsRxEnWrite]
  | pause => exact timed fun _ => by rw [exec_pause, execPause]
  | resume => exact timed fun _ => by rw [exec_resume, execResume]
  | pauseLimitExpire => exact timed fun _ => by rw [exec_pauseLimitExpire, execPauseLimitExpire]
  | functionLevelReset => exact timed fun _ => by rw [exec_functionLevelReset, execFunctionLevelReset]
  | dlDown => exact timed fun _ => by rw [exec_dlDown, execDlDown]
  | hostReadFail => exact timed fun _ => by rw [exec_hostReadFail, execHostReadFail]
  | crEnWrite => exact clocked fun _ => by rw [exec_crEnWrite, execCrEnWrite]
  | cqEnWrite => exact clocked fun _ => by rw [exec_cqEnWrite, execCqEnWrite]
  | tail => exact clocked fun _ => by rw [exec_tail, execTail]
  | head => exact clocked fun _ => by rw [exec_head, execHead]
  | descriptorFetch => exact timed fun _ => by rw [exec_descriptorFetch, execDescriptorFetch]
  | groupOp => exact timed fun _ => by rw [exec_groupOp, execGroupOp]
  | regWrite => exact timed fun _ => by rw [exec_regWrite, execRegWrite]
  | regRead => exact timed fun _ => by rw [exec_regRead, execRegRead]
  | dma => exact timed fun _ => by rw [exec_dma, execDma]
  | migrate => exact timed fun _ => by rw [exec_migrate, execMigrate]
  | roomExport => exact timed fun _ => by rw [exec_roomExport, execRoomExport]
  | telDump => exact timed fun _ => by rw [exec_telDump, execTelDump]
  | fabricSend => exact timed fun _ => by rw [exec_fabricSend, execFabricSend]
  | recvPost => exact timed fun _ => by rw [exec_recvPost, execRecvPost]
  | nop => exact timed fun _ => by rw [exec_nop, execNop]
  | completionWrite => exact timed fun _ => by rw [exec_completionWrite, execCompletionWrite]
  | cqIrqTimer => exact timed fun _ => by rw [exec_cqIrqTimer, execCqIrqTimer]
  | hostPathDeliver => exact timed fun _ => by rw [exec_hostPathDeliver, execHostPathDeliver]
  | read32 => exact timed fun _ => by rw [exec_read32, execRead32]
  | write32 => exact timed fun _ => by rw [exec_write32, execWrite32]
  | setEndpointId => exact timed fun _ => by rw [exec_setEndpointId, execSetEndpointId]
  | getEndpointId => exact timed fun _ => by rw [exec_getEndpointId, execGetEndpointId]
  | getMctpVersionSupport => exact timed fun _ => by rw [exec_getMctpVersionSupport, execGetMctpVersionSupport]
  | getMessageTypeSupport => exact timed fun _ => by rw [exec_getMessageTypeSupport, execGetMessageTypeSupport]
  | getVendorDefinedMessageSupport => exact timed fun _ => by rw [exec_getVendorDefinedMessageSupport, execGetVendorDefinedMessageSupport]
  | entdaa => exact timed fun _ => by rw [exec_entdaa, execEntdaa]
  | rstdaa => exact timed fun _ => by rw [exec_rstdaa, execRstdaa]
  | setnewda => exact timed fun _ => by rw [exec_setnewda, execSetnewda]
  | getpid => exact timed fun _ => by rw [exec_getpid, execGetpid]
  | getbcr => exact timed fun _ => by rw [exec_getbcr, execGetbcr]
  | getdcr => exact timed fun _ => by rw [exec_getdcr, execGetdcr]
  | getstatus => exact timed fun _ => by rw [exec_getstatus, execGetstatus]
  | getmrl => exact timed fun _ => by rw [exec_getmrl, execGetmrl]
  | getmwl => exact timed fun _ => by rw [exec_getmwl, execGetmwl]
  | enec => exact timed fun _ => by rw [exec_enec, execEnec]
  | disec => exact timed fun _ => by rw [exec_disec, execDisec]
  | rstact => exact timed fun _ => by rw [exec_rstact, execRstact]
  | getVersion => exact timed fun _ => by rw [exec_getVersion, execGetVersion]
  | getCapabilities => exact timed fun _ => by rw [exec_getCapabilities, execGetCapabilities]
  | negotiateAlgorithms => exact timed fun _ => by rw [exec_negotiateAlgorithms, execNegotiateAlgorithms]
  | getDigests => exact timed fun _ => by rw [exec_getDigests, execGetDigests]
  | getCertificate => exact timed fun _ => by rw [exec_getCertificate, execGetCertificate]
  | challenge => exact timed fun _ => by rw [exec_challenge, execChallenge]
  | getMeasurements => exact timed fun _ => by rw [exec_getMeasurements, execGetMeasurements]
  | requestUpdate => exact timed fun _ => by rw [exec_requestUpdate, execRequestUpdate]
  | passComponentTable => exact timed fun _ => by rw [exec_passComponentTable, execPassComponentTable]
  | updateComponent => exact timed fun _ => by rw [exec_updateComponent, execUpdateComponent]
  | verifyComplete => exact timed fun _ => by rw [exec_verifyComplete, execVerifyComplete]
  | applyComplete => exact timed fun _ => by rw [exec_applyComplete, execApplyComplete]
  | activateFirmware => exact timed fun _ => by rw [exec_activateFirmware, execActivateFirmware]
  | semRead => exact clocked fun _ => by rw [exec_semRead, execSemRead]
  | release => exact clocked fun _ => by rw [exec_release, execRelease]
  | semLeaseLapse => exact timed fun _ => by rw [exec_semLeaseLapse, execSemLeaseLapse]
  | configCrcPass => exact timed fun _ => by rw [exec_configCrcPass, execConfigCrcPass]
  | kick => exact clocked fun _ => by rw [exec_kick, execKick]
  | watchdogLapse => exact timed fun _ => by rw [exec_watchdogLapse, execWatchdogLapse]
  | gmcRst => exact clocked fun _ => by rw [exec_gmcRst, execGmcRst]
  | perstNAssert => exact timed fun _ => by rw [exec_perstNAssert, execPerstNAssert]
  | perstNRelease => exact timed fun _ => by rw [exec_perstNRelease, execPerstNRelease]
  | recoveryNAssert => exact timed fun _ => by rw [exec_recoveryNAssert, execRecoveryNAssert]
  | recoveryNRelease => exact timed fun _ => by rw [exec_recoveryNRelease, execRecoveryNRelease]
  | trialConfirm => exact timed fun _ => by rw [exec_trialConfirm, execTrialConfirm]
  | updateLockExpire => exact timed fun _ => by rw [exec_updateLockExpire, execUpdateLockExpire]
  | getInfo => exact timed fun _ => by rw [exec_getInfo, execGetInfo]
  | flashRead => exact timed fun _ => by rw [exec_flashRead, execFlashRead]
  | flashErase => exact timed fun _ => by rw [exec_flashErase, execFlashErase]
  | flashWrite => exact timed fun _ => by rw [exec_flashWrite, execFlashWrite]
  | verifySlot => exact timed fun _ => by rw [exec_verifySlot, execVerifySlot]
  | setPrefer => exact timed fun _ => by rw [exec_setPrefer, execSetPrefer]
  | confirm => exact timed fun _ => by rw [exec_confirm, execConfirm]
  | logRead => exact timed fun _ => by rw [exec_logRead, execLogRead]
  | gestaCoreResign => exact timed fun _ => by rw [exec_gestaCoreResign, execGestaCoreResign]
  | gestaTakeback => exact timed fun _ => by rw [exec_gestaTakeback, execGestaTakeback]
  | faultMessage => exact timed fun _ => by rw [exec_faultMessage, execFaultMessage]
  | safeGo => exact clocked fun _ => by rw [exec_safeGo, execSafeGo]
  | faultNMinEnd => exact timed fun _ => by rw [exec_faultNMinEnd, execFaultNMinEnd]
  | coreWarm => exact clocked fun _ => by rw [exec_coreWarm, execCoreWarm]
  | coreWarmResetEnd => exact timed fun _ => by rw [exec_coreWarmResetEnd, execCoreWarmResetEnd]
  | pump => exact clocked fun _ => by rw [exec_pump, execPump]
  | pumpResetEnd => exact timed fun _ => by rw [exec_pumpResetEnd, execPumpResetEnd]
  | pool => exact clocked fun _ => by rw [exec_pool, execPool]
  | poolResetEnd => exact timed fun _ => by rw [exec_poolResetEnd, execPoolResetEnd]
  | portGo => exact clocked fun _ => by rw [exec_portGo, execPortGo]
  | healthSend => exact timed fun _ => by rw [exec_healthSend, execHealthSend]
  | health => exact timed fun _ => by rw [exec_health, execHealth]
  | seqKnownAnswerTest => exact timed fun _ => by rw [exec_seqKnownAnswerTest, execSeqKnownAnswerTest]
  | coverDecideStart => exact timed fun _ => by rw [exec_coverDecideStart, execCoverDecideStart]
  | takebackClaim => exact timed fun _ => by rw [exec_takebackClaim, execTakebackClaim]
  | takebackComplete => exact timed fun _ => by rw [exec_takebackComplete, execTakebackComplete]
  | takebackTimeout => exact timed fun _ => by rw [exec_takebackTimeout, execTakebackTimeout]
  | partnerSilent => exact timed fun _ => by rw [exec_partnerSilent, execPartnerSilent]
  | powerLoop => exact timed fun _ => by rw [exec_powerLoop, execPowerLoop]
  | pwrCapHostWrite => exact clocked fun _ => by rw [exec_pwrCapHostWrite, execPwrCapHostWrite]
  | pwrCapRackWrite => exact clocked fun _ => by rw [exec_pwrCapRackWrite, execPwrCapRackWrite]
  | rackLeaseLapse => exact timed fun _ => by rw [exec_rackLeaseLapse, execRackLeaseLapse]
  | capdropEnd => exact timed fun _ => by rw [exec_capdropEnd, execCapdropEnd]
  | pwrBrkReqWrite => exact clocked fun _ => by rw [exec_pwrBrkReqWrite, execPwrBrkReqWrite]
  | pwrbrkNChange => exact timed fun _ => by rw [exec_pwrbrkNChange, execPwrbrkNChange]
  | coolantFailNChange => exact timed fun _ => by rw [exec_coolantFailNChange, execCoolantFailNChange]
  | busUvNChange => exact timed fun _ => by rw [exec_busUvNChange, execBusUvNChange]
  | coolantShutdown => exact timed fun _ => by rw [exec_coolantShutdown, execCoolantShutdown]
  | diodeSample => exact timed fun _ => by rw [exec_diodeSample, execDiodeSample]
  | thermistorRead => exact timed fun _ => by rw [exec_thermistorRead, execThermistorRead]
  | pwrThermCfgWrite => exact clocked fun _ => by rw [exec_pwrThermCfgWrite, execPwrThermCfgWrite]
  | thermtripN => exact timed fun _ => by rw [exec_thermtripN, execThermtripN]
  | epoN => exact timed fun _ => by rw [exec_epoN, execEpoN]
  | counterLowWrite => exact clocked fun _ => by rw [exec_counterLowWrite, execCounterLowWrite]
  | counterHighWrite => exact clocked fun _ => by rw [exec_counterHighWrite, execCounterHighWrite]
  | bwWindowEnd => exact timed fun _ => by rw [exec_bwWindowEnd, execBwWindowEnd]
  | telBwCfgWrite => exact clocked fun _ => by rw [exec_telBwCfgWrite, execTelBwCfgWrite]
  | telRingCfgWrite => exact clocked fun _ => by rw [exec_telRingCfgWrite, execTelRingCfgWrite]
  | periodicDumpStart => exact timed fun _ => by rw [exec_periodicDumpStart, execPeriodicDumpStart]
  | dumpEnd => exact timed fun _ => by rw [exec_dumpEnd, execDumpEnd]
  | help => exact timed fun _ => by rw [exec_help, execHelp]
  | stat => exact timed fun _ => by rw [exec_stat, execStat]
  | ver => exact timed fun _ => by rw [exec_ver, execVer]
  | faultList => exact timed fun _ => by rw [exec_faultList, execFaultList]
  | port => exact timed fun _ => by rw [exec_port, execPort]
  | lane => exact timed fun _ => by rw [exec_lane, execLane]
  | temp => exact timed fun _ => by rw [exec_temp, execTemp]
  | power => exact timed fun _ => by rw [exec_power, execPower]
  | regRd => exact timed fun _ => by rw [exec_regRd, execRegRd]
  | log => exact timed fun _ => by rw [exec_log, execLog]
  | regWr => exact timed fun _ => by rw [exec_regWr, execRegWr]
  | faultClear => exact timed fun _ => by rw [exec_faultClear, execFaultClear]
  | atest => exact timed fun _ => by rw [exec_atest, execAtest]
  | servicePort => exact timed fun _ => by rw [exec_servicePort, execServicePort]
  | serviceOn => exact timed fun _ => by rw [exec_serviceOn, execServiceOn]
  | serviceOnForce => exact timed fun _ => by rw [exec_serviceOnForce, execServiceOnForce]
  | serviceOff => exact timed fun _ => by rw [exec_serviceOff, execServiceOff]
  | resetPort => exact timed fun _ => by rw [exec_resetPort, execResetPort]
  | resetPump => exact timed fun _ => by rw [exec_resetPump, execResetPump]
  | resetPool => exact timed fun _ => by rw [exec_resetPool, execResetPool]
  | resetCore => exact timed fun _ => by rw [exec_resetCore, execResetCore]
  | resetGmc => exact timed fun _ => by rw [exec_resetGmc, execResetGmc]
  | selftestRails => exact timed fun _ => by rw [exec_selftestRails, execSelftestRails]
  | selftestSensors => exact timed fun _ => by rw [exec_selftestSensors, execSelftestSensors]
  | selftestLanes => exact timed fun _ => by rw [exec_selftestLanes, execSelftestLanes]
  | selftestPort => exact timed fun _ => by rw [exec_selftestPort, execSelftestPort]
  | selftestPumps => exact timed fun _ => by rw [exec_selftestPumps, execSelftestPumps]
  | selftestCisterns => exact timed fun _ => by rw [exec_selftestCisterns, execSelftestCisterns]
  | selftestHbm => exact timed fun _ => by rw [exec_selftestHbm, execSelftestHbm]
  | selftestDimm => exact timed fun _ => by rw [exec_selftestDimm, execSelftestDimm]
  | selftestWell => exact timed fun _ => by rw [exec_selftestWell, execSelftestWell]
  | selftestSync => exact timed fun _ => by rw [exec_selftestSync, execSelftestSync]
  | selftestRooms => exact timed fun _ => by rw [exec_selftestRooms, execSelftestRooms]
  | selftestGroup => exact timed fun _ => by rw [exec_selftestGroup, execSelftestGroup]
  | refclkReturn => exact timed fun _ => by rw [exec_refclkReturn, execRefclkReturn]
  | aliveToggle => exact timed fun _ => by rw [exec_aliveToggle, execAliveToggle]
  | romLineRepeat => exact timed fun _ => by rw [exec_romLineRepeat, execRomLineRepeat]
  | reorderHoldExpire => exact timed fun _ => by rw [exec_reorderHoldExpire, execReorderHoldExpire]
  | alwaysOnSupplyUp => exact timed fun _ => by rw [exec_alwaysOnSupplyUp, execAlwaysOnSupplyUp]
  | supplyRemoval => exact timed fun _ => by rw [exec_supplyRemoval, execSupplyRemoval]
  | doeDiscovery => exact timed fun _ => by rw [exec_doeDiscovery, execDoeDiscovery]
  | consoleUnknownCommand => exact timed fun _ => by rw [exec_consoleUnknownCommand, execConsoleUnknownCommand]
  | mailboxUnknownCmd => exact timed fun _ => by rw [exec_mailboxUnknownCmd, execMailboxUnknownCmd]
  | vendorUnknownCmd => exact timed fun _ => by rw [exec_vendorUnknownCmd, execVendorUnknownCmd]
  | pldmFirmwareTransfer => exact timed fun _ => by rw [exec_pldmFirmwareTransfer, execPldmFirmwareTransfer]

end Sys2Proof.Machine
end

