-- ==== Sys2Proof/Laws/Maps.lean ====
section
/-! SUPPORT. The laws of the sorted maps that hold sparse state: a key reads back what was put, every other key reads as
before, and each operation keeps the canonical form. Every proof about a register or a byte of memory rests on these. -/

namespace Sys2Proof.Machine

variable {α : Type}

/-! ## Reading back -/

theorem mget_mput_self (m : List (Nat × α)) (k : Nat) (v : α) : mget (mput m k v) k = some v := by
  induction m with
  | nil => simp [mput, mget]
  | cons e r ih =>
    obtain ⟨j, w⟩ := e
    by_cases h1 : k < j
    · simp [mput, h1, mget]
    · by_cases h2 : k = j
      · subst h2; simp [mput, mget]
      · simp [mput, h1, h2, mget, Ne.symm h2, ih]

theorem mget_mput_ne (m : List (Nat × α)) {k j : Nat} (v : α) (h : j ≠ k) : mget (mput m k v) j = mget m j := by
  induction m with
  | nil => simp [mput, mget, Ne.symm h]
  | cons e r ih =>
    obtain ⟨i, w⟩ := e
    by_cases h1 : k < i
    · simp [mput, h1, mget, Ne.symm h]
    · by_cases h2 : k = i
      · subst h2; simp [mput, mget, Ne.symm h]
      · simp [mput, h1, h2, mget, ih]

theorem mget_mdel_self (m : List (Nat × α)) (k : Nat) : mget (mdel m k) k = none := by
  induction m with
  | nil => rfl
  | cons e r ih =>
    obtain ⟨j, w⟩ := e
    by_cases h : j = k
    · subst h; simpa [mdel] using ih
    · simp only [mdel, List.filter_cons, bne_iff_ne, ne_eq, h, not_false_eq_true, if_true, mget, if_false]
      exact ih

theorem mget_mdel_ne (m : List (Nat × α)) {k j : Nat} (h : j ≠ k) : mget (mdel m k) j = mget m j := by
  induction m with
  | nil => rfl
  | cons e r ih =>
    obtain ⟨i, w⟩ := e
    by_cases h1 : i = k
    · subst h1
      have : mdel ((i, w) :: r) i = mdel r i := by simp [mdel]
      rw [this, ih]; simp [mget, Ne.symm h]
    · have : mdel ((i, w) :: r) k = (i, w) :: mdel r k := by simp [mdel, h1]
      rw [this]; simp only [mget, ih]

theorem mgetD_mset_self [DecidableEq α] (d : α) (m : List (Nat × α)) (k : Nat) (v : α) : mgetD (mset d m k v) k d = v := by
  unfold mset mgetD
  split
  · rename_i h; simp [mget_mdel_self, h]
  · simp [mget_mput_self]

theorem mget_mset_ne [DecidableEq α] (d : α) (m : List (Nat × α)) {k j : Nat} (v : α) (h : j ≠ k) :
    mget (mset d m k v) j = mget m j := by
  unfold mset
  split
  · exact mget_mdel_ne m h
  · exact mget_mput_ne m v h

theorem mgetD_mset_ne [DecidableEq α] (d : α) (m : List (Nat × α)) {k j : Nat} (v e : α) (h : j ≠ k) :
    mgetD (mset d m k v) j e = mgetD m j e := by
  unfold mgetD; rw [mget_mset_ne d m v h]

/-! ## The canonical form -/

/-- The canonical form as a statement about pairs: keys rise, no listed value is the unlisted one. -/
theorem mapWf_iff [DecidableEq α] (d : α) (m : List (Nat × α)) :
    mapWf d m = true ↔ m.Pairwise (fun a b => a.1 < b.1) ∧ ∀ e ∈ m, e.2 ≠ d := by
  induction m with
  | nil => simp [mapWf]
  | cons e r ih =>
    obtain ⟨j, v⟩ := e
    cases r with
    | nil => simp [mapWf]
    | cons f r =>
      obtain ⟨k, w⟩ := f
      simp only [mapWf, Bool.and_eq_true, decide_eq_true_eq, bne_iff_ne, ne_eq, ih, List.pairwise_cons,
        List.mem_cons, forall_eq_or_imp]
      constructor
      · rintro ⟨⟨h1, h2⟩, ⟨h3, h4⟩, h5, h6⟩
        exact ⟨⟨⟨h1, fun e he => Nat.lt_trans h1 (h3 e he)⟩, h3, h4⟩, h2, h5, h6⟩
      · rintro ⟨⟨⟨h1, -⟩, h3, h4⟩, h2, h5, h6⟩
        exact ⟨⟨h1, h2⟩, ⟨h3, h4⟩, h5, h6⟩

theorem mem_mput {m : List (Nat × α)} {k : Nat} {v : α} {e : Nat × α} (h : e ∈ mput m k v) : e = (k, v) ∨ e ∈ m := by
  induction m with
  | nil => simp [mput] at h; exact .inl h
  | cons f r ih =>
    obtain ⟨j, w⟩ := f
    by_cases h1 : k < j
    · simp [mput, h1] at h; simpa using h
    · by_cases h2 : k = j
      · subst h2; simp [mput] at h; rcases h with h | h <;> simp [h]
      · simp [mput, h1, h2] at h
        rcases h with h | h
        · simp [h]
        · rcases ih h with h | h <;> simp [h]

theorem mput_sorted {m : List (Nat × α)} (k : Nat) (v : α) (h : m.Pairwise (fun a b => a.1 < b.1)) :
    (mput m k v).Pairwise (fun a b => a.1 < b.1) := by
  induction m with
  | nil => simp [mput]
  | cons f r ih =>
    obtain ⟨j, w⟩ := f
    rw [List.pairwise_cons] at h
    by_cases h1 : k < j
    · rw [mput, if_pos h1, List.pairwise_cons, List.pairwise_cons]
      refine ⟨fun e he => ?_, h⟩
      rcases List.mem_cons.mp he with rfl | he
      · exact h1
      · exact Nat.lt_trans h1 (h.1 e he)
    · by_cases h2 : k = j
      · subst h2; simp only [mput, Nat.lt_irrefl, if_false, if_true, List.pairwise_cons]; exact h
      · simp only [mput, h1, h2, if_false, List.pairwise_cons]
        refine ⟨fun e he => ?_, ih h.2⟩
        rcases mem_mput he with he | he
        · subst he; simp only; omega
        · exact h.1 e he

theorem mput_wf [DecidableEq α] {d : α} {m : List (Nat × α)} (k : Nat) {v : α} (h : mapWf d m = true) (hv : v ≠ d) :
    mapWf d (mput m k v) = true := by
  rw [mapWf_iff] at *
  refine ⟨mput_sorted k v h.1, fun e he => ?_⟩
  rcases mem_mput he with he | he
  · subst he; exact hv
  · exact h.2 e he

theorem mdel_wf [DecidableEq α] {d : α} {m : List (Nat × α)} (k : Nat) (h : mapWf d m = true) :
    mapWf d (mdel m k) = true := by
  rw [mapWf_iff] at *
  exact ⟨h.1.filter _, fun e he => h.2 e (List.mem_of_mem_filter he)⟩

/-- Setting a key keeps the canonical form. -/
theorem mset_wf [DecidableEq α] {d : α} {m : List (Nat × α)} (k : Nat) (v : α) (h : mapWf d m = true) :
    mapWf d (mset d m k v) = true := by
  unfold mset
  split
  · exact mdel_wf k h
  · rename_i hv; exact mput_wf k h hv

/-! ## Fields of the register file -/

theorem fget_fset_self (m : List (Nat × Nat)) (f : Field) (i v : Nat) : fget (fset m f i v) f i = v % 2 ^ f.width :=
  mgetD_mset_self (resetOf f i) m (fkey f i) _

theorem fget_fset_ne (m : List (Nat × Nat)) {f g : Field} {i j : Nat} (v : Nat) (h : fkey g j ≠ fkey f i) :
    fget (fset m f i v) g j = fget m g j := by
  unfold fget fset; rw [mget_mset_ne _ _ _ h]

end Sys2Proof.Machine
end

