-- ==== Sys2Proof/Laws/State.lean ====
section
/-! SUPPORT. One lemma per update and field of the state, so that no proof unfolds a record update: what the update leaves
alone, and what it makes of the field it changes. Then: reading a register after an update of something else. -/

namespace Sys2Proof.Machine

open Sys2Proof

/-! ## wr -/

@[simp] theorem wr_now (s : State) (f : Field) (i v : Nat) : (s.wr f i v).now = s.now := by unfold State.wr; split <;> rfl
@[simp] theorem wr_freeCtr (s : State) (f : Field) (i v : Nat) : (s.wr f i v).freeCtr = s.freeCtr := by unfold State.wr; split <;> rfl
@[simp] theorem wr_pending (s : State) (f : Field) (i v : Nat) : (s.wr f i v).pending = s.pending := by unfold State.wr; split <;> rfl
@[simp] theorem wr_outbox (s : State) (f : Field) (i v : Nat) : (s.wr f i v).outbox = s.outbox := by unfold State.wr; split <;> rfl
@[simp] theorem wr_latch (s : State) (f : Field) (i v : Nat) : (s.wr f i v).latch = s.latch := by unfold State.wr; split <;> rfl
@[simp] theorem wr_heldW (s : State) (f : Field) (i v : Nat) : (s.wr f i v).heldW = s.heldW := by unfold State.wr; split <;> rfl
@[simp] theorem wr_time (s : State) (f : Field) (i v : Nat) : (s.wr f i v).time = s.time := by unfold State.wr; split <;> rfl
@[simp] theorem wr_commit (s : State) (f : Field) (i v : Nat) : (s.wr f i v).commit = s.commit := by unfold State.wr; split <;> rfl
@[simp] theorem wr_semEnd (s : State) (f : Field) (i v : Nat) : (s.wr f i v).semEnd = s.semEnd := by unfold State.wr; split <;> rfl
@[simp] theorem wr_lastFault (s : State) (f : Field) (i v : Nat) : (s.wr f i v).lastFault = s.lastFault := by unfold State.wr; split <;> rfl
@[simp] theorem wr_passCut (s : State) (f : Field) (i v : Nat) : (s.wr f i v).passCut = s.passCut := by unfold State.wr; split <;> rfl
@[simp] theorem wr_sw (s : State) (f : Field) (i v : Nat) : (s.wr f i v).sw = s.sw := by unfold State.wr; split <;> rfl
@[simp] theorem wr_links (s : State) (f : Field) (i v : Nat) : (s.wr f i v).links = s.links := by unfold State.wr; split <;> rfl
@[simp] theorem wr_lanes (s : State) (f : Field) (i v : Nat) : (s.wr f i v).lanes = s.lanes := by unfold State.wr; split <;> rfl
@[simp] theorem wr_flt (s : State) (f : Field) (i v : Nat) : (s.wr f i v).flt = s.flt := by unfold State.wr; split <;> rfl
@[simp] theorem wr_rst (s : State) (f : Field) (i v : Nat) : (s.wr f i v).rst = s.rst := by unfold State.wr; split <;> rfl
@[simp] theorem wr_pin (s : State) (f : Field) (i v : Nat) : (s.wr f i v).pin = s.pin := by unfold State.wr; split <;> rfl
@[simp] theorem wr_pwr (s : State) (f : Field) (i v : Nat) : (s.wr f i v).pwr = s.pwr := by unfold State.wr; split <;> rfl
@[simp] theorem wr_gmc (s : State) (f : Field) (i v : Nat) : (s.wr f i v).gmc = s.gmc := by unfold State.wr; split <;> rfl
@[simp] theorem wr_bus (s : State) (f : Field) (i v : Nat) : (s.wr f i v).bus = s.bus := by unfold State.wr; split <;> rfl
@[simp] theorem wr_tel (s : State) (f : Field) (i v : Nat) : (s.wr f i v).tel = s.tel := by unfold State.wr; split <;> rfl
@[simp] theorem wr_ctx (s : State) (f : Field) (i v : Nat) : (s.wr f i v).ctx = s.ctx := by unfold State.wr; split <;> rfl
@[simp] theorem wr_fenceHit (s : State) (f : Field) (i v : Nat) : (s.wr f i v).fenceHit = s.fenceHit := by unfold State.wr; split <;> rfl
@[simp] theorem wr_winOpen (s : State) (f : Field) (i v : Nat) : (s.wr f i v).winOpen = s.winOpen := by unfold State.wr; split <;> rfl
@[simp] theorem wr_resend (s : State) (f : Field) (i v : Nat) : (s.wr f i v).resend = s.resend := by unfold State.wr; split <;> rfl
@[simp] theorem wr_grps (s : State) (f : Field) (i v : Nat) : (s.wr f i v).grps = s.grps := by unfold State.wr; split <;> rfl
@[simp] theorem wr_grpRr (s : State) (f : Field) (i v : Nat) : (s.wr f i v).grpRr = s.grpRr := by unfold State.wr; split <;> rfl
@[simp] theorem wr_qstore (s : State) (f : Field) (i v : Nat) : (s.wr f i v).qstore = s.qstore := by unfold State.wr; split <;> rfl
@[simp] theorem wr_pumps (s : State) (f : Field) (i v : Nat) : (s.wr f i v).pumps = s.pumps := by unfold State.wr; split <;> rfl
@[simp] theorem wr_coverFrom (s : State) (f : Field) (i v : Nat) : (s.wr f i v).coverFrom = s.coverFrom := by unfold State.wr; split <;> rfl
@[simp] theorem wr_pumpHold (s : State) (f : Field) (i v : Nat) : (s.wr f i v).pumpHold = s.pumpHold := by unfold State.wr; split <;> rfl
@[simp] theorem wr_host (s : State) (f : Field) (i v : Nat) : (s.wr f i v).host = s.host := by unfold State.wr; split <;> rfl
@[simp] theorem wr_mem (s : State) (f : Field) (i v : Nat) : (s.wr f i v).mem = s.mem := by unfold State.wr; split <;> rfl
@[simp] theorem wr_well (s : State) (f : Field) (i v : Nat) : (s.wr f i v).well = s.well := by unfold State.wr; split <;> rfl

/-! ## wr0 -/

@[simp] theorem wr0_now (s : State) (f : Field) (v : Nat) : (s.wr0 f v).now = s.now := by simp [State.wr0]
@[simp] theorem wr0_freeCtr (s : State) (f : Field) (v : Nat) : (s.wr0 f v).freeCtr = s.freeCtr := by simp [State.wr0]
@[simp] theorem wr0_pending (s : State) (f : Field) (v : Nat) : (s.wr0 f v).pending = s.pending := by simp [State.wr0]
@[simp] theorem wr0_outbox (s : State) (f : Field) (v : Nat) : (s.wr0 f v).outbox = s.outbox := by simp [State.wr0]
@[simp] theorem wr0_latch (s : State) (f : Field) (v : Nat) : (s.wr0 f v).latch = s.latch := by simp [State.wr0]
@[simp] theorem wr0_heldW (s : State) (f : Field) (v : Nat) : (s.wr0 f v).heldW = s.heldW := by simp [State.wr0]
@[simp] theorem wr0_time (s : State) (f : Field) (v : Nat) : (s.wr0 f v).time = s.time := by simp [State.wr0]
@[simp] theorem wr0_commit (s : State) (f : Field) (v : Nat) : (s.wr0 f v).commit = s.commit := by simp [State.wr0]
@[simp] theorem wr0_semEnd (s : State) (f : Field) (v : Nat) : (s.wr0 f v).semEnd = s.semEnd := by simp [State.wr0]
@[simp] theorem wr0_lastFault (s : State) (f : Field) (v : Nat) : (s.wr0 f v).lastFault = s.lastFault := by simp [State.wr0]
@[simp] theorem wr0_passCut (s : State) (f : Field) (v : Nat) : (s.wr0 f v).passCut = s.passCut := by simp [State.wr0]
@[simp] theorem wr0_sw (s : State) (f : Field) (v : Nat) : (s.wr0 f v).sw = s.sw := by simp [State.wr0]
@[simp] theorem wr0_links (s : State) (f : Field) (v : Nat) : (s.wr0 f v).links = s.links := by simp [State.wr0]
@[simp] theorem wr0_lanes (s : State) (f : Field) (v : Nat) : (s.wr0 f v).lanes = s.lanes := by simp [State.wr0]
@[simp] theorem wr0_flt (s : State) (f : Field) (v : Nat) : (s.wr0 f v).flt = s.flt := by simp [State.wr0]
@[simp] theorem wr0_rst (s : State) (f : Field) (v : Nat) : (s.wr0 f v).rst = s.rst := by simp [State.wr0]
@[simp] theorem wr0_pin (s : State) (f : Field) (v : Nat) : (s.wr0 f v).pin = s.pin := by simp [State.wr0]
@[simp] theorem wr0_pwr (s : State) (f : Field) (v : Nat) : (s.wr0 f v).pwr = s.pwr := by simp [State.wr0]
@[simp] theorem wr0_gmc (s : State) (f : Field) (v : Nat) : (s.wr0 f v).gmc = s.gmc := by simp [State.wr0]
@[simp] theorem wr0_bus (s : State) (f : Field) (v : Nat) : (s.wr0 f v).bus = s.bus := by simp [State.wr0]
@[simp] theorem wr0_tel (s : State) (f : Field) (v : Nat) : (s.wr0 f v).tel = s.tel := by simp [State.wr0]
@[simp] theorem wr0_ctx (s : State) (f : Field) (v : Nat) : (s.wr0 f v).ctx = s.ctx := by simp [State.wr0]
@[simp] theorem wr0_fenceHit (s : State) (f : Field) (v : Nat) : (s.wr0 f v).fenceHit = s.fenceHit := by simp [State.wr0]
@[simp] theorem wr0_winOpen (s : State) (f : Field) (v : Nat) : (s.wr0 f v).winOpen = s.winOpen := by simp [State.wr0]
@[simp] theorem wr0_resend (s : State) (f : Field) (v : Nat) : (s.wr0 f v).resend = s.resend := by simp [State.wr0]
@[simp] theorem wr0_grps (s : State) (f : Field) (v : Nat) : (s.wr0 f v).grps = s.grps := by simp [State.wr0]
@[simp] theorem wr0_grpRr (s : State) (f : Field) (v : Nat) : (s.wr0 f v).grpRr = s.grpRr := by simp [State.wr0]
@[simp] theorem wr0_qstore (s : State) (f : Field) (v : Nat) : (s.wr0 f v).qstore = s.qstore := by simp [State.wr0]
@[simp] theorem wr0_pumps (s : State) (f : Field) (v : Nat) : (s.wr0 f v).pumps = s.pumps := by simp [State.wr0]
@[simp] theorem wr0_coverFrom (s : State) (f : Field) (v : Nat) : (s.wr0 f v).coverFrom = s.coverFrom := by simp [State.wr0]
@[simp] theorem wr0_pumpHold (s : State) (f : Field) (v : Nat) : (s.wr0 f v).pumpHold = s.pumpHold := by simp [State.wr0]
@[simp] theorem wr0_host (s : State) (f : Field) (v : Nat) : (s.wr0 f v).host = s.host := by simp [State.wr0]
@[simp] theorem wr0_mem (s : State) (f : Field) (v : Nat) : (s.wr0 f v).mem = s.mem := by simp [State.wr0]
@[simp] theorem wr0_well (s : State) (f : Field) (v : Nat) : (s.wr0 f v).well = s.well := by simp [State.wr0]

/-! ## wrSw -/

@[simp] theorem wrSw_now (s : State) (f : Field) (i v : Nat) : (s.wrSw f i v).now = s.now := by unfold State.wrSw; split <;> simp
@[simp] theorem wrSw_freeCtr (s : State) (f : Field) (i v : Nat) : (s.wrSw f i v).freeCtr = s.freeCtr := by unfold State.wrSw; split <;> simp
@[simp] theorem wrSw_pending (s : State) (f : Field) (i v : Nat) : (s.wrSw f i v).pending = s.pending := by unfold State.wrSw; split <;> simp
@[simp] theorem wrSw_outbox (s : State) (f : Field) (i v : Nat) : (s.wrSw f i v).outbox = s.outbox := by unfold State.wrSw; split <;> simp
@[simp] theorem wrSw_latch (s : State) (f : Field) (i v : Nat) : (s.wrSw f i v).latch = s.latch := by unfold State.wrSw; split <;> simp
@[simp] theorem wrSw_heldW (s : State) (f : Field) (i v : Nat) : (s.wrSw f i v).heldW = s.heldW := by unfold State.wrSw; split <;> simp
@[simp] theorem wrSw_time (s : State) (f : Field) (i v : Nat) : (s.wrSw f i v).time = s.time := by unfold State.wrSw; split <;> simp
@[simp] theorem wrSw_commit (s : State) (f : Field) (i v : Nat) : (s.wrSw f i v).commit = s.commit := by unfold State.wrSw; split <;> simp
@[simp] theorem wrSw_semEnd (s : State) (f : Field) (i v : Nat) : (s.wrSw f i v).semEnd = s.semEnd := by unfold State.wrSw; split <;> simp
@[simp] theorem wrSw_lastFault (s : State) (f : Field) (i v : Nat) : (s.wrSw f i v).lastFault = s.lastFault := by unfold State.wrSw; split <;> simp
@[simp] theorem wrSw_passCut (s : State) (f : Field) (i v : Nat) : (s.wrSw f i v).passCut = s.passCut := by unfold State.wrSw; split <;> simp
@[simp] theorem wrSw_sw (s : State) (f : Field) (i v : Nat) : (s.wrSw f i v).sw = s.sw := by unfold State.wrSw; split <;> simp
@[simp] theorem wrSw_links (s : State) (f : Field) (i v : Nat) : (s.wrSw f i v).links = s.links := by unfold State.wrSw; split <;> simp
@[simp] theorem wrSw_lanes (s : State) (f : Field) (i v : Nat) : (s.wrSw f i v).lanes = s.lanes := by unfold State.wrSw; split <;> simp
@[simp] theorem wrSw_flt (s : State) (f : Field) (i v : Nat) : (s.wrSw f i v).flt = s.flt := by unfold State.wrSw; split <;> simp
@[simp] theorem wrSw_rst (s : State) (f : Field) (i v : Nat) : (s.wrSw f i v).rst = s.rst := by unfold State.wrSw; split <;> simp
@[simp] theorem wrSw_pin (s : State) (f : Field) (i v : Nat) : (s.wrSw f i v).pin = s.pin := by unfold State.wrSw; split <;> simp
@[simp] theorem wrSw_pwr (s : State) (f : Field) (i v : Nat) : (s.wrSw f i v).pwr = s.pwr := by unfold State.wrSw; split <;> simp
@[simp] theorem wrSw_gmc (s : State) (f : Field) (i v : Nat) : (s.wrSw f i v).gmc = s.gmc := by unfold State.wrSw; split <;> simp
@[simp] theorem wrSw_bus (s : State) (f : Field) (i v : Nat) : (s.wrSw f i v).bus = s.bus := by unfold State.wrSw; split <;> simp
@[simp] theorem wrSw_tel (s : State) (f : Field) (i v : Nat) : (s.wrSw f i v).tel = s.tel := by unfold State.wrSw; split <;> simp
@[simp] theorem wrSw_ctx (s : State) (f : Field) (i v : Nat) : (s.wrSw f i v).ctx = s.ctx := by unfold State.wrSw; split <;> simp
@[simp] theorem wrSw_fenceHit (s : State) (f : Field) (i v : Nat) : (s.wrSw f i v).fenceHit = s.fenceHit := by unfold State.wrSw; split <;> simp
@[simp] theorem wrSw_winOpen (s : State) (f : Field) (i v : Nat) : (s.wrSw f i v).winOpen = s.winOpen := by unfold State.wrSw; split <;> simp
@[simp] theorem wrSw_resend (s : State) (f : Field) (i v : Nat) : (s.wrSw f i v).resend = s.resend := by unfold State.wrSw; split <;> simp
@[simp] theorem wrSw_grps (s : State) (f : Field) (i v : Nat) : (s.wrSw f i v).grps = s.grps := by unfold State.wrSw; split <;> simp
@[simp] theorem wrSw_grpRr (s : State) (f : Field) (i v : Nat) : (s.wrSw f i v).grpRr = s.grpRr := by unfold State.wrSw; split <;> simp
@[simp] theorem wrSw_qstore (s : State) (f : Field) (i v : Nat) : (s.wrSw f i v).qstore = s.qstore := by unfold State.wrSw; split <;> simp
@[simp] theorem wrSw_pumps (s : State) (f : Field) (i v : Nat) : (s.wrSw f i v).pumps = s.pumps := by unfold State.wrSw; split <;> simp
@[simp] theorem wrSw_coverFrom (s : State) (f : Field) (i v : Nat) : (s.wrSw f i v).coverFrom = s.coverFrom := by unfold State.wrSw; split <;> simp
@[simp] theorem wrSw_pumpHold (s : State) (f : Field) (i v : Nat) : (s.wrSw f i v).pumpHold = s.pumpHold := by unfold State.wrSw; split <;> simp
@[simp] theorem wrSw_host (s : State) (f : Field) (i v : Nat) : (s.wrSw f i v).host = s.host := by unfold State.wrSw; split <;> simp
@[simp] theorem wrSw_mem (s : State) (f : Field) (i v : Nat) : (s.wrSw f i v).mem = s.mem := by unfold State.wrSw; split <;> simp
@[simp] theorem wrSw_well (s : State) (f : Field) (i v : Nat) : (s.wrSw f i v).well = s.well := by unfold State.wrSw; split <;> simp

/-! ## bump -/

@[simp] theorem bump_now (s : State) (f : Field) (i n : Nat) : (s.bump f i n).now = s.now := by simp [State.bump]
@[simp] theorem bump_freeCtr (s : State) (f : Field) (i n : Nat) : (s.bump f i n).freeCtr = s.freeCtr := by simp [State.bump]
@[simp] theorem bump_pending (s : State) (f : Field) (i n : Nat) : (s.bump f i n).pending = s.pending := by simp [State.bump]
@[simp] theorem bump_outbox (s : State) (f : Field) (i n : Nat) : (s.bump f i n).outbox = s.outbox := by simp [State.bump]
@[simp] theorem bump_latch (s : State) (f : Field) (i n : Nat) : (s.bump f i n).latch = s.latch := by simp [State.bump]
@[simp] theorem bump_heldW (s : State) (f : Field) (i n : Nat) : (s.bump f i n).heldW = s.heldW := by simp [State.bump]
@[simp] theorem bump_time (s : State) (f : Field) (i n : Nat) : (s.bump f i n).time = s.time := by simp [State.bump]
@[simp] theorem bump_commit (s : State) (f : Field) (i n : Nat) : (s.bump f i n).commit = s.commit := by simp [State.bump]
@[simp] theorem bump_semEnd (s : State) (f : Field) (i n : Nat) : (s.bump f i n).semEnd = s.semEnd := by simp [State.bump]
@[simp] theorem bump_lastFault (s : State) (f : Field) (i n : Nat) : (s.bump f i n).lastFault = s.lastFault := by simp [State.bump]
@[simp] theorem bump_passCut (s : State) (f : Field) (i n : Nat) : (s.bump f i n).passCut = s.passCut := by simp [State.bump]
@[simp] theorem bump_sw (s : State) (f : Field) (i n : Nat) : (s.bump f i n).sw = s.sw := by simp [State.bump]
@[simp] theorem bump_links (s : State) (f : Field) (i n : Nat) : (s.bump f i n).links = s.links := by simp [State.bump]
@[simp] theorem bump_lanes (s : State) (f : Field) (i n : Nat) : (s.bump f i n).lanes = s.lanes := by simp [State.bump]
@[simp] theorem bump_flt (s : State) (f : Field) (i n : Nat) : (s.bump f i n).flt = s.flt := by simp [State.bump]
@[simp] theorem bump_rst (s : State) (f : Field) (i n : Nat) : (s.bump f i n).rst = s.rst := by simp [State.bump]
@[simp] theorem bump_pin (s : State) (f : Field) (i n : Nat) : (s.bump f i n).pin = s.pin := by simp [State.bump]
@[simp] theorem bump_pwr (s : State) (f : Field) (i n : Nat) : (s.bump f i n).pwr = s.pwr := by simp [State.bump]
@[simp] theorem bump_gmc (s : State) (f : Field) (i n : Nat) : (s.bump f i n).gmc = s.gmc := by simp [State.bump]
@[simp] theorem bump_bus (s : State) (f : Field) (i n : Nat) : (s.bump f i n).bus = s.bus := by simp [State.bump]
@[simp] theorem bump_tel (s : State) (f : Field) (i n : Nat) : (s.bump f i n).tel = s.tel := by simp [State.bump]
@[simp] theorem bump_ctx (s : State) (f : Field) (i n : Nat) : (s.bump f i n).ctx = s.ctx := by simp [State.bump]
@[simp] theorem bump_fenceHit (s : State) (f : Field) (i n : Nat) : (s.bump f i n).fenceHit = s.fenceHit := by simp [State.bump]
@[simp] theorem bump_winOpen (s : State) (f : Field) (i n : Nat) : (s.bump f i n).winOpen = s.winOpen := by simp [State.bump]
@[simp] theorem bump_resend (s : State) (f : Field) (i n : Nat) : (s.bump f i n).resend = s.resend := by simp [State.bump]
@[simp] theorem bump_grps (s : State) (f : Field) (i n : Nat) : (s.bump f i n).grps = s.grps := by simp [State.bump]
@[simp] theorem bump_grpRr (s : State) (f : Field) (i n : Nat) : (s.bump f i n).grpRr = s.grpRr := by simp [State.bump]
@[simp] theorem bump_qstore (s : State) (f : Field) (i n : Nat) : (s.bump f i n).qstore = s.qstore := by simp [State.bump]
@[simp] theorem bump_pumps (s : State) (f : Field) (i n : Nat) : (s.bump f i n).pumps = s.pumps := by simp [State.bump]
@[simp] theorem bump_coverFrom (s : State) (f : Field) (i n : Nat) : (s.bump f i n).coverFrom = s.coverFrom := by simp [State.bump]
@[simp] theorem bump_pumpHold (s : State) (f : Field) (i n : Nat) : (s.bump f i n).pumpHold = s.pumpHold := by simp [State.bump]
@[simp] theorem bump_host (s : State) (f : Field) (i n : Nat) : (s.bump f i n).host = s.host := by simp [State.bump]
@[simp] theorem bump_mem (s : State) (f : Field) (i n : Nat) : (s.bump f i n).mem = s.mem := by simp [State.bump]
@[simp] theorem bump_well (s : State) (f : Field) (i n : Nat) : (s.bump f i n).well = s.well := by simp [State.bump]

/-! ## emit -/

@[simp] theorem emit_now (s : State) (o : Out) : (s.emit o).now = s.now := rfl
@[simp] theorem emit_freeCtr (s : State) (o : Out) : (s.emit o).freeCtr = s.freeCtr := rfl
@[simp] theorem emit_pending (s : State) (o : Out) : (s.emit o).pending = s.pending := rfl
@[simp] theorem emit_outbox (s : State) (o : Out) : (s.emit o).outbox = o :: s.outbox := rfl
@[simp] theorem emit_regs (s : State) (o : Out) : (s.emit o).regs = s.regs := rfl
@[simp] theorem emit_latch (s : State) (o : Out) : (s.emit o).latch = s.latch := rfl
@[simp] theorem emit_heldW (s : State) (o : Out) : (s.emit o).heldW = s.heldW := rfl
@[simp] theorem emit_time (s : State) (o : Out) : (s.emit o).time = s.time := rfl
@[simp] theorem emit_commit (s : State) (o : Out) : (s.emit o).commit = s.commit := rfl
@[simp] theorem emit_semEnd (s : State) (o : Out) : (s.emit o).semEnd = s.semEnd := rfl
@[simp] theorem emit_lastFault (s : State) (o : Out) : (s.emit o).lastFault = s.lastFault := rfl
@[simp] theorem emit_passCut (s : State) (o : Out) : (s.emit o).passCut = s.passCut := rfl
@[simp] theorem emit_sw (s : State) (o : Out) : (s.emit o).sw = s.sw := rfl
@[simp] theorem emit_links (s : State) (o : Out) : (s.emit o).links = s.links := rfl
@[simp] theorem emit_lanes (s : State) (o : Out) : (s.emit o).lanes = s.lanes := rfl
@[simp] theorem emit_flt (s : State) (o : Out) : (s.emit o).flt = s.flt := rfl
@[simp] theorem emit_rst (s : State) (o : Out) : (s.emit o).rst = s.rst := rfl
@[simp] theorem emit_pin (s : State) (o : Out) : (s.emit o).pin = s.pin := rfl
@[simp] theorem emit_pwr (s : State) (o : Out) : (s.emit o).pwr = s.pwr := rfl
@[simp] theorem emit_gmc (s : State) (o : Out) : (s.emit o).gmc = s.gmc := rfl
@[simp] theorem emit_bus (s : State) (o : Out) : (s.emit o).bus = s.bus := rfl
@[simp] theorem emit_tel (s : State) (o : Out) : (s.emit o).tel = s.tel := rfl
@[simp] theorem emit_ctx (s : State) (o : Out) : (s.emit o).ctx = s.ctx := rfl
@[simp] theorem emit_fenceHit (s : State) (o : Out) : (s.emit o).fenceHit = s.fenceHit := rfl
@[simp] theorem emit_winOpen (s : State) (o : Out) : (s.emit o).winOpen = s.winOpen := rfl
@[simp] theorem emit_resend (s : State) (o : Out) : (s.emit o).resend = s.resend := rfl
@[simp] theorem emit_grps (s : State) (o : Out) : (s.emit o).grps = s.grps := rfl
@[simp] theorem emit_grpRr (s : State) (o : Out) : (s.emit o).grpRr = s.grpRr := rfl
@[simp] theorem emit_qstore (s : State) (o : Out) : (s.emit o).qstore = s.qstore := rfl
@[simp] theorem emit_pumps (s : State) (o : Out) : (s.emit o).pumps = s.pumps := rfl
@[simp] theorem emit_coverFrom (s : State) (o : Out) : (s.emit o).coverFrom = s.coverFrom := rfl
@[simp] theorem emit_pumpHold (s : State) (o : Out) : (s.emit o).pumpHold = s.pumpHold := rfl
@[simp] theorem emit_host (s : State) (o : Out) : (s.emit o).host = s.host := rfl
@[simp] theorem emit_mem (s : State) (o : Out) : (s.emit o).mem = s.mem := rfl
@[simp] theorem emit_well (s : State) (o : Out) : (s.emit o).well = s.well := rfl
@[simp] theorem emit_rd (s : State) (o : Out) (h : Field) (j : Nat) : (s.emit o).rd h j = s.rd h j := rfl
@[simp] theorem emit_rdSw (s : State) (o : Out) (h : Field) (j : Nat) : (s.emit o).rdSw h j = s.rdSw h j := rfl

/-! ## tick -/

@[simp] theorem tick_now (s : State) : s.tick.now = s.now := rfl
@[simp] theorem tick_freeCtr (s : State) : s.tick.freeCtr = s.freeCtr + 1 := rfl
@[simp] theorem tick_pending (s : State) : s.tick.pending = s.pending := rfl
@[simp] theorem tick_outbox (s : State) : s.tick.outbox = s.outbox := rfl
@[simp] theorem tick_regs (s : State) : s.tick.regs = s.regs := rfl
@[simp] theorem tick_latch (s : State) : s.tick.latch = s.latch := rfl
@[simp] theorem tick_heldW (s : State) : s.tick.heldW = s.heldW := rfl
@[simp] theorem tick_time (s : State) : s.tick.time = s.time := rfl
@[simp] theorem tick_commit (s : State) : s.tick.commit = s.commit := rfl
@[simp] theorem tick_semEnd (s : State) : s.tick.semEnd = s.semEnd := rfl
@[simp] theorem tick_lastFault (s : State) : s.tick.lastFault = s.lastFault := rfl
@[simp] theorem tick_passCut (s : State) : s.tick.passCut = s.passCut := rfl
@[simp] theorem tick_sw (s : State) : s.tick.sw = s.sw := rfl
@[simp] theorem tick_links (s : State) : s.tick.links = s.links := rfl
@[simp] theorem tick_lanes (s : State) : s.tick.lanes = s.lanes := rfl
@[simp] theorem tick_flt (s : State) : s.tick.flt = s.flt := rfl
@[simp] theorem tick_rst (s : State) : s.tick.rst = s.rst := rfl
@[simp] theorem tick_pin (s : State) : s.tick.pin = s.pin := rfl
@[simp] theorem tick_pwr (s : State) : s.tick.pwr = s.pwr := rfl
@[simp] theorem tick_gmc (s : State) : s.tick.gmc = s.gmc := rfl
@[simp] theorem tick_bus (s : State) : s.tick.bus = s.bus := rfl
@[simp] theorem tick_tel (s : State) : s.tick.tel = s.tel := rfl
@[simp] theorem tick_ctx (s : State) : s.tick.ctx = s.ctx := rfl
@[simp] theorem tick_fenceHit (s : State) : s.tick.fenceHit = s.fenceHit := rfl
@[simp] theorem tick_winOpen (s : State) : s.tick.winOpen = s.winOpen := rfl
@[simp] theorem tick_resend (s : State) : s.tick.resend = s.resend := rfl
@[simp] theorem tick_grps (s : State) : s.tick.grps = s.grps := rfl
@[simp] theorem tick_grpRr (s : State) : s.tick.grpRr = s.grpRr := rfl
@[simp] theorem tick_qstore (s : State) : s.tick.qstore = s.qstore := rfl
@[simp] theorem tick_pumps (s : State) : s.tick.pumps = s.pumps := rfl
@[simp] theorem tick_coverFrom (s : State) : s.tick.coverFrom = s.coverFrom := rfl
@[simp] theorem tick_pumpHold (s : State) : s.tick.pumpHold = s.pumpHold := rfl
@[simp] theorem tick_host (s : State) : s.tick.host = s.host := rfl
@[simp] theorem tick_mem (s : State) : s.tick.mem = s.mem := rfl
@[simp] theorem tick_well (s : State) : s.tick.well = s.well := rfl
@[simp] theorem tick_rd (s : State) (h : Field) (j : Nat) : s.tick.rd h j = s.rd h j := rfl
@[simp] theorem tick_rdSw (s : State) (h : Field) (j : Nat) : s.tick.rdSw h j = s.rdSw h j := rfl

/-! ## advance -/

@[simp] theorem advance_freeCtr (s : State) (n : Nat) : (s.advance n).freeCtr = s.freeCtr := by unfold State.advance; split <;> rfl
@[simp] theorem advance_pending (s : State) (n : Nat) : (s.advance n).pending = s.pending := by unfold State.advance; split <;> rfl
@[simp] theorem advance_outbox (s : State) (n : Nat) : (s.advance n).outbox = s.outbox := by unfold State.advance; split <;> rfl
@[simp] theorem advance_regs (s : State) (n : Nat) : (s.advance n).regs = s.regs := by unfold State.advance; split <;> rfl
@[simp] theorem advance_latch (s : State) (n : Nat) : (s.advance n).latch = s.latch := by unfold State.advance; split <;> rfl
@[simp] theorem advance_heldW (s : State) (n : Nat) : (s.advance n).heldW = s.heldW := by unfold State.advance; split <;> rfl
@[simp] theorem advance_commit (s : State) (n : Nat) : (s.advance n).commit = s.commit := by unfold State.advance; split <;> rfl
@[simp] theorem advance_semEnd (s : State) (n : Nat) : (s.advance n).semEnd = s.semEnd := by unfold State.advance; split <;> rfl
@[simp] theorem advance_lastFault (s : State) (n : Nat) : (s.advance n).lastFault = s.lastFault := by unfold State.advance; split <;> rfl
@[simp] theorem advance_passCut (s : State) (n : Nat) : (s.advance n).passCut = s.passCut := by unfold State.advance; split <;> rfl
@[simp] theorem advance_sw (s : State) (n : Nat) : (s.advance n).sw = s.sw := by unfold State.advance; split <;> rfl
@[simp] theorem advance_links (s : State) (n : Nat) : (s.advance n).links = s.links := by unfold State.advance; split <;> rfl
@[simp] theorem advance_lanes (s : State) (n : Nat) : (s.advance n).lanes = s.lanes := by unfold State.advance; split <;> rfl
@[simp] theorem advance_flt (s : State) (n : Nat) : (s.advance n).flt = s.flt := by unfold State.advance; split <;> rfl
@[simp] theorem advance_rst (s : State) (n : Nat) : (s.advance n).rst = s.rst := by unfold State.advance; split <;> rfl
@[simp] theorem advance_pin (s : State) (n : Nat) : (s.advance n).pin = s.pin := by unfold State.advance; split <;> rfl
@[simp] theorem advance_pwr (s : State) (n : Nat) : (s.advance n).pwr = s.pwr := by unfold State.advance; split <;> rfl
@[simp] theorem advance_gmc (s : State) (n : Nat) : (s.advance n).gmc = s.gmc := by unfold State.advance; split <;> rfl
@[simp] theorem advance_bus (s : State) (n : Nat) : (s.advance n).bus = s.bus := by unfold State.advance; split <;> rfl
@[simp] theorem advance_tel (s : State) (n : Nat) : (s.advance n).tel = s.tel := by unfold State.advance; split <;> rfl
@[simp] theorem advance_ctx (s : State) (n : Nat) : (s.advance n).ctx = s.ctx := by unfold State.advance; split <;> rfl
@[simp] theorem advance_fenceHit (s : State) (n : Nat) : (s.advance n).fenceHit = s.fenceHit := by unfold State.advance; split <;> rfl
@[simp] theorem advance_winOpen (s : State) (n : Nat) : (s.advance n).winOpen = s.winOpen := by unfold State.advance; split <;> rfl
@[simp] theorem advance_resend (s : State) (n : Nat) : (s.advance n).resend = s.resend := by unfold State.advance; split <;> rfl
@[simp] theorem advance_grps (s : State) (n : Nat) : (s.advance n).grps = s.grps := by unfold State.advance; split <;> rfl
@[simp] theorem advance_grpRr (s : State) (n : Nat) : (s.advance n).grpRr = s.grpRr := by unfold State.advance; split <;> rfl
@[simp] theorem advance_qstore (s : State) (n : Nat) : (s.advance n).qstore = s.qstore := by unfold State.advance; split <;> rfl
@[simp] theorem advance_pumps (s : State) (n : Nat) : (s.advance n).pumps = s.pumps := by unfold State.advance; split <;> rfl
@[simp] theorem advance_coverFrom (s : State) (n : Nat) : (s.advance n).coverFrom = s.coverFrom := by unfold State.advance; split <;> rfl
@[simp] theorem advance_pumpHold (s : State) (n : Nat) : (s.advance n).pumpHold = s.pumpHold := by unfold State.advance; split <;> rfl
@[simp] theorem advance_host (s : State) (n : Nat) : (s.advance n).host = s.host := by unfold State.advance; split <;> rfl
@[simp] theorem advance_mem (s : State) (n : Nat) : (s.advance n).mem = s.mem := by unfold State.advance; split <;> rfl
@[simp] theorem advance_well (s : State) (n : Nat) : (s.advance n).well = s.well := by unfold State.advance; split <;> rfl
@[simp] theorem advance_rd (s : State) (n : Nat) (h : Field) (j : Nat) : (s.advance n).rd h j = s.rd h j := by unfold State.advance; split <;> rfl
@[simp] theorem advance_rdSw (s : State) (n : Nat) (h : Field) (j : Nat) : (s.advance n).rdSw h j = s.rdSw h j := by unfold State.advance; split <;> rfl

/-! ## cnt -/

@[simp] theorem cnt_now (s : State) (k n : Nat) : (s.cnt k n).now = s.now := rfl
@[simp] theorem cnt_freeCtr (s : State) (k n : Nat) : (s.cnt k n).freeCtr = s.freeCtr := rfl
@[simp] theorem cnt_pending (s : State) (k n : Nat) : (s.cnt k n).pending = s.pending := rfl
@[simp] theorem cnt_outbox (s : State) (k n : Nat) : (s.cnt k n).outbox = s.outbox := rfl
@[simp] theorem cnt_regs (s : State) (k n : Nat) : (s.cnt k n).regs = s.regs := rfl
@[simp] theorem cnt_latch (s : State) (k n : Nat) : (s.cnt k n).latch = s.latch := rfl
@[simp] theorem cnt_heldW (s : State) (k n : Nat) : (s.cnt k n).heldW = s.heldW := rfl
@[simp] theorem cnt_time (s : State) (k n : Nat) : (s.cnt k n).time = s.time := rfl
@[simp] theorem cnt_commit (s : State) (k n : Nat) : (s.cnt k n).commit = s.commit := rfl
@[simp] theorem cnt_semEnd (s : State) (k n : Nat) : (s.cnt k n).semEnd = s.semEnd := rfl
@[simp] theorem cnt_lastFault (s : State) (k n : Nat) : (s.cnt k n).lastFault = s.lastFault := rfl
@[simp] theorem cnt_passCut (s : State) (k n : Nat) : (s.cnt k n).passCut = s.passCut := rfl
@[simp] theorem cnt_sw (s : State) (k n : Nat) : (s.cnt k n).sw = s.sw := rfl
@[simp] theorem cnt_links (s : State) (k n : Nat) : (s.cnt k n).links = s.links := rfl
@[simp] theorem cnt_lanes (s : State) (k n : Nat) : (s.cnt k n).lanes = s.lanes := rfl
@[simp] theorem cnt_flt (s : State) (k n : Nat) : (s.cnt k n).flt = s.flt := rfl
@[simp] theorem cnt_rst (s : State) (k n : Nat) : (s.cnt k n).rst = s.rst := rfl
@[simp] theorem cnt_pin (s : State) (k n : Nat) : (s.cnt k n).pin = s.pin := rfl
@[simp] theorem cnt_pwr (s : State) (k n : Nat) : (s.cnt k n).pwr = s.pwr := rfl
@[simp] theorem cnt_gmc (s : State) (k n : Nat) : (s.cnt k n).gmc = s.gmc := rfl
@[simp] theorem cnt_bus (s : State) (k n : Nat) : (s.cnt k n).bus = s.bus := rfl
@[simp] theorem cnt_ctx (s : State) (k n : Nat) : (s.cnt k n).ctx = s.ctx := rfl
@[simp] theorem cnt_fenceHit (s : State) (k n : Nat) : (s.cnt k n).fenceHit = s.fenceHit := rfl
@[simp] theorem cnt_winOpen (s : State) (k n : Nat) : (s.cnt k n).winOpen = s.winOpen := rfl
@[simp] theorem cnt_resend (s : State) (k n : Nat) : (s.cnt k n).resend = s.resend := rfl
@[simp] theorem cnt_grps (s : State) (k n : Nat) : (s.cnt k n).grps = s.grps := rfl
@[simp] theorem cnt_grpRr (s : State) (k n : Nat) : (s.cnt k n).grpRr = s.grpRr := rfl
@[simp] theorem cnt_qstore (s : State) (k n : Nat) : (s.cnt k n).qstore = s.qstore := rfl
@[simp] theorem cnt_pumps (s : State) (k n : Nat) : (s.cnt k n).pumps = s.pumps := rfl
@[simp] theorem cnt_coverFrom (s : State) (k n : Nat) : (s.cnt k n).coverFrom = s.coverFrom := rfl
@[simp] theorem cnt_pumpHold (s : State) (k n : Nat) : (s.cnt k n).pumpHold = s.pumpHold := rfl
@[simp] theorem cnt_host (s : State) (k n : Nat) : (s.cnt k n).host = s.host := rfl
@[simp] theorem cnt_mem (s : State) (k n : Nat) : (s.cnt k n).mem = s.mem := rfl
@[simp] theorem cnt_well (s : State) (k n : Nat) : (s.cnt k n).well = s.well := rfl
@[simp] theorem cnt_rd (s : State) (k n : Nat) (h : Field) (j : Nat) : (s.cnt k n).rd h j = s.rd h j := rfl
@[simp] theorem cnt_rdSw (s : State) (k n : Nat) (h : Field) (j : Nat) : (s.cnt k n).rdSw h j = s.rdSw h j := rfl

/-! ## report -/

@[simp] theorem report_now (s : State) (a k b m x p : Nat) : (s.report a k b m x p).now = s.now := rfl
@[simp] theorem report_freeCtr (s : State) (a k b m x p : Nat) : (s.report a k b m x p).freeCtr = s.freeCtr := rfl
@[simp] theorem report_pending (s : State) (a k b m x p : Nat) : (s.report a k b m x p).pending = s.pending := rfl
@[simp] theorem report_outbox (s : State) (a k b m x p : Nat) : (s.report a k b m x p).outbox = s.outbox := rfl
@[simp] theorem report_regs (s : State) (a k b m x p : Nat) : (s.report a k b m x p).regs = s.regs := rfl
@[simp] theorem report_latch (s : State) (a k b m x p : Nat) : (s.report a k b m x p).latch = s.latch := rfl
@[simp] theorem report_heldW (s : State) (a k b m x p : Nat) : (s.report a k b m x p).heldW = s.heldW := rfl
@[simp] theorem report_time (s : State) (a k b m x p : Nat) : (s.report a k b m x p).time = s.time := rfl
@[simp] theorem report_commit (s : State) (a k b m x p : Nat) : (s.report a k b m x p).commit = s.commit := rfl
@[simp] theorem report_semEnd (s : State) (a k b m x p : Nat) : (s.report a k b m x p).semEnd = s.semEnd := rfl
@[simp] theorem report_lastFault (s : State) (a k b m x p : Nat) : (s.report a k b m x p).lastFault = s.lastFault := rfl
@[simp] theorem report_passCut (s : State) (a k b m x p : Nat) : (s.report a k b m x p).passCut = s.passCut := rfl
@[simp] theorem report_sw (s : State) (a k b m x p : Nat) : (s.report a k b m x p).sw = s.sw := rfl
@[simp] theorem report_links (s : State) (a k b m x p : Nat) : (s.report a k b m x p).links = s.links := rfl
@[simp] theorem report_lanes (s : State) (a k b m x p : Nat) : (s.report a k b m x p).lanes = s.lanes := rfl
@[simp] theorem report_rst (s : State) (a k b m x p : Nat) : (s.report a k b m x p).rst = s.rst := rfl
@[simp] theorem report_pin (s : State) (a k b m x p : Nat) : (s.report a k b m x p).pin = s.pin := rfl
@[simp] theorem report_pwr (s : State) (a k b m x p : Nat) : (s.report a k b m x p).pwr = s.pwr := rfl
@[simp] theorem report_gmc (s : State) (a k b m x p : Nat) : (s.report a k b m x p).gmc = s.gmc := rfl
@[simp] theorem report_bus (s : State) (a k b m x p : Nat) : (s.report a k b m x p).bus = s.bus := rfl
@[simp] theorem report_tel (s : State) (a k b m x p : Nat) : (s.report a k b m x p).tel = s.tel := rfl
@[simp] theorem report_ctx (s : State) (a k b m x p : Nat) : (s.report a k b m x p).ctx = s.ctx := rfl
@[simp] theorem report_fenceHit (s : State) (a k b m x p : Nat) : (s.report a k b m x p).fenceHit = s.fenceHit := rfl
@[simp] theorem report_winOpen (s : State) (a k b m x p : Nat) : (s.report a k b m x p).winOpen = s.winOpen := rfl
@[simp] theorem report_resend (s : State) (a k b m x p : Nat) : (s.report a k b m x p).resend = s.resend := rfl
@[simp] theorem report_grps (s : State) (a k b m x p : Nat) : (s.report a k b m x p).grps = s.grps := rfl
@[simp] theorem report_grpRr (s : State) (a k b m x p : Nat) : (s.report a k b m x p).grpRr = s.grpRr := rfl
@[simp] theorem report_qstore (s : State) (a k b m x p : Nat) : (s.report a k b m x p).qstore = s.qstore := rfl
@[simp] theorem report_pumps (s : State) (a k b m x p : Nat) : (s.report a k b m x p).pumps = s.pumps := rfl
@[simp] theorem report_coverFrom (s : State) (a k b m x p : Nat) : (s.report a k b m x p).coverFrom = s.coverFrom := rfl
@[simp] theorem report_pumpHold (s : State) (a k b m x p : Nat) : (s.report a k b m x p).pumpHold = s.pumpHold := rfl
@[simp] theorem report_host (s : State) (a k b m x p : Nat) : (s.report a k b m x p).host = s.host := rfl
@[simp] theorem report_mem (s : State) (a k b m x p : Nat) : (s.report a k b m x p).mem = s.mem := rfl
@[simp] theorem report_well (s : State) (a k b m x p : Nat) : (s.report a k b m x p).well = s.well := rfl
@[simp] theorem report_rd (s : State) (a k b m x p : Nat) (h : Field) (j : Nat) : (s.report a k b m x p).rd h j = s.rd h j := rfl
@[simp] theorem report_rdSw (s : State) (a k b m x p : Nat) (h : Field) (j : Nat) : (s.report a k b m x p).rdSw h j = s.rdSw h j := rfl

/-! ## accessFault -/

@[simp] theorem accessFault_now (s : State) (m : Master) (k o a : Nat) : (s.accessFault m k o a).now = s.now := rfl
@[simp] theorem accessFault_freeCtr (s : State) (m : Master) (k o a : Nat) : (s.accessFault m k o a).freeCtr = s.freeCtr := rfl
@[simp] theorem accessFault_pending (s : State) (m : Master) (k o a : Nat) : (s.accessFault m k o a).pending = s.pending := rfl
@[simp] theorem accessFault_outbox (s : State) (m : Master) (k o a : Nat) : (s.accessFault m k o a).outbox = s.outbox := rfl
@[simp] theorem accessFault_regs (s : State) (m : Master) (k o a : Nat) : (s.accessFault m k o a).regs = s.regs := rfl
@[simp] theorem accessFault_latch (s : State) (m : Master) (k o a : Nat) : (s.accessFault m k o a).latch = s.latch := rfl
@[simp] theorem accessFault_heldW (s : State) (m : Master) (k o a : Nat) : (s.accessFault m k o a).heldW = s.heldW := rfl
@[simp] theorem accessFault_time (s : State) (m : Master) (k o a : Nat) : (s.accessFault m k o a).time = s.time := rfl
@[simp] theorem accessFault_commit (s : State) (m : Master) (k o a : Nat) : (s.accessFault m k o a).commit = s.commit := rfl
@[simp] theorem accessFault_semEnd (s : State) (m : Master) (k o a : Nat) : (s.accessFault m k o a).semEnd = s.semEnd := rfl
@[simp] theorem accessFault_lastFault (s : State) (m : Master) (k o a : Nat) : (s.accessFault m k o a).lastFault = some k := rfl
@[simp] theorem accessFault_passCut (s : State) (m : Master) (k o a : Nat) : (s.accessFault m k o a).passCut = s.passCut := rfl
@[simp] theorem accessFault_sw (s : State) (m : Master) (k o a : Nat) : (s.accessFault m k o a).sw = s.sw := rfl
@[simp] theorem accessFault_links (s : State) (m : Master) (k o a : Nat) : (s.accessFault m k o a).links = s.links := rfl
@[simp] theorem accessFault_lanes (s : State) (m : Master) (k o a : Nat) : (s.accessFault m k o a).lanes = s.lanes := rfl
@[simp] theorem accessFault_rst (s : State) (m : Master) (k o a : Nat) : (s.accessFault m k o a).rst = s.rst := rfl
@[simp] theorem accessFault_pin (s : State) (m : Master) (k o a : Nat) : (s.accessFault m k o a).pin = s.pin := rfl
@[simp] theorem accessFault_pwr (s : State) (m : Master) (k o a : Nat) : (s.accessFault m k o a).pwr = s.pwr := rfl
@[simp] theorem accessFault_gmc (s : State) (m : Master) (k o a : Nat) : (s.accessFault m k o a).gmc = s.gmc := rfl
@[simp] theorem accessFault_bus (s : State) (m : Master) (k o a : Nat) : (s.accessFault m k o a).bus = s.bus := rfl
@[simp] theorem accessFault_tel (s : State) (m : Master) (k o a : Nat) : (s.accessFault m k o a).tel = s.tel := rfl
@[simp] theorem accessFault_ctx (s : State) (m : Master) (k o a : Nat) : (s.accessFault m k o a).ctx = s.ctx := rfl
@[simp] theorem accessFault_fenceHit (s : State) (m : Master) (k o a : Nat) : (s.accessFault m k o a).fenceHit = s.fenceHit := rfl
@[simp] theorem accessFault_winOpen (s : State) (m : Master) (k o a : Nat) : (s.accessFault m k o a).winOpen = s.winOpen := rfl
@[simp] theorem accessFault_resend (s : State) (m : Master) (k o a : Nat) : (s.accessFault m k o a).resend = s.resend := rfl
@[simp] theorem accessFault_grps (s : State) (m : Master) (k o a : Nat) : (s.accessFault m k o a).grps = s.grps := rfl
@[simp] theorem accessFault_grpRr (s : State) (m : Master) (k o a : Nat) : (s.accessFault m k o a).grpRr = s.grpRr := rfl
@[simp] theorem accessFault_qstore (s : State) (m : Master) (k o a : Nat) : (s.accessFault m k o a).qstore = s.qstore := rfl
@[simp] theorem accessFault_pumps (s : State) (m : Master) (k o a : Nat) : (s.accessFault m k o a).pumps = s.pumps := rfl
@[simp] theorem accessFault_coverFrom (s : State) (m : Master) (k o a : Nat) : (s.accessFault m k o a).coverFrom = s.coverFrom := rfl
@[simp] theorem accessFault_pumpHold (s : State) (m : Master) (k o a : Nat) : (s.accessFault m k o a).pumpHold = s.pumpHold := rfl
@[simp] theorem accessFault_host (s : State) (m : Master) (k o a : Nat) : (s.accessFault m k o a).host = s.host := rfl
@[simp] theorem accessFault_mem (s : State) (m : Master) (k o a : Nat) : (s.accessFault m k o a).mem = s.mem := rfl
@[simp] theorem accessFault_well (s : State) (m : Master) (k o a : Nat) : (s.accessFault m k o a).well = s.well := rfl
@[simp] theorem accessFault_rd (s : State) (m : Master) (k o a : Nat) (h : Field) (j : Nat) : (s.accessFault m k o a).rd h j = s.rd h j := rfl
@[simp] theorem accessFault_rdSw (s : State) (m : Master) (k o a : Nat) (h : Field) (j : Nat) : (s.accessFault m k o a).rdSw h j = s.rdSw h j := rfl

/-! ## modTime -/

@[simp] theorem modTime_now (s : State) (f : TimeSt → TimeSt) : (modTime s f).now = s.now := rfl
@[simp] theorem modTime_freeCtr (s : State) (f : TimeSt → TimeSt) : (modTime s f).freeCtr = s.freeCtr := rfl
@[simp] theorem modTime_pending (s : State) (f : TimeSt → TimeSt) : (modTime s f).pending = s.pending := rfl
@[simp] theorem modTime_outbox (s : State) (f : TimeSt → TimeSt) : (modTime s f).outbox = s.outbox := rfl
@[simp] theorem modTime_regs (s : State) (f : TimeSt → TimeSt) : (modTime s f).regs = s.regs := rfl
@[simp] theorem modTime_latch (s : State) (f : TimeSt → TimeSt) : (modTime s f).latch = s.latch := rfl
@[simp] theorem modTime_heldW (s : State) (f : TimeSt → TimeSt) : (modTime s f).heldW = s.heldW := rfl
@[simp] theorem modTime_time (s : State) (f : TimeSt → TimeSt) : (modTime s f).time = f s.time := rfl
@[simp] theorem modTime_commit (s : State) (f : TimeSt → TimeSt) : (modTime s f).commit = s.commit := rfl
@[simp] theorem modTime_semEnd (s : State) (f : TimeSt → TimeSt) : (modTime s f).semEnd = s.semEnd := rfl
@[simp] theorem modTime_lastFault (s : State) (f : TimeSt → TimeSt) : (modTime s f).lastFault = s.lastFault := rfl
@[simp] theorem modTime_passCut (s : State) (f : TimeSt → TimeSt) : (modTime s f).passCut = s.passCut := rfl
@[simp] theorem modTime_sw (s : State) (f : TimeSt → TimeSt) : (modTime s f).sw = s.sw := rfl
@[simp] theorem modTime_links (s : State) (f : TimeSt → TimeSt) : (modTime s f).links = s.links := rfl
@[simp] theorem modTime_lanes (s : State) (f : TimeSt → TimeSt) : (modTime s f).lanes = s.lanes := rfl
@[simp] theorem modTime_flt (s : State) (f : TimeSt → TimeSt) : (modTime s f).flt = s.flt := rfl
@[simp] theorem modTime_rst (s : State) (f : TimeSt → TimeSt) : (modTime s f).rst = s.rst := rfl
@[simp] theorem modTime_pin (s : State) (f : TimeSt → TimeSt) : (modTime s f).pin = s.pin := rfl
@[simp] theorem modTime_pwr (s : State) (f : TimeSt → TimeSt) : (modTime s f).pwr = s.pwr := rfl
@[simp] theorem modTime_gmc (s : State) (f : TimeSt → TimeSt) : (modTime s f).gmc = s.gmc := rfl
@[simp] theorem modTime_bus (s : State) (f : TimeSt → TimeSt) : (modTime s f).bus = s.bus := rfl
@[simp] theorem modTime_tel (s : State) (f : TimeSt → TimeSt) : (modTime s f).tel = s.tel := rfl
@[simp] theorem modTime_ctx (s : State) (f : TimeSt → TimeSt) : (modTime s f).ctx = s.ctx := rfl
@[simp] theorem modTime_fenceHit (s : State) (f : TimeSt → TimeSt) : (modTime s f).fenceHit = s.fenceHit := rfl
@[simp] theorem modTime_winOpen (s : State) (f : TimeSt → TimeSt) : (modTime s f).winOpen = s.winOpen := rfl
@[simp] theorem modTime_resend (s : State) (f : TimeSt → TimeSt) : (modTime s f).resend = s.resend := rfl
@[simp] theorem modTime_grps (s : State) (f : TimeSt → TimeSt) : (modTime s f).grps = s.grps := rfl
@[simp] theorem modTime_grpRr (s : State) (f : TimeSt → TimeSt) : (modTime s f).grpRr = s.grpRr := rfl
@[simp] theorem modTime_qstore (s : State) (f : TimeSt → TimeSt) : (modTime s f).qstore = s.qstore := rfl
@[simp] theorem modTime_pumps (s : State) (f : TimeSt → TimeSt) : (modTime s f).pumps = s.pumps := rfl
@[simp] theorem modTime_coverFrom (s : State) (f : TimeSt → TimeSt) : (modTime s f).coverFrom = s.coverFrom := rfl
@[simp] theorem modTime_pumpHold (s : State) (f : TimeSt → TimeSt) : (modTime s f).pumpHold = s.pumpHold := rfl
@[simp] theorem modTime_host (s : State) (f : TimeSt → TimeSt) : (modTime s f).host = s.host := rfl
@[simp] theorem modTime_mem (s : State) (f : TimeSt → TimeSt) : (modTime s f).mem = s.mem := rfl
@[simp] theorem modTime_well (s : State) (f : TimeSt → TimeSt) : (modTime s f).well = s.well := rfl
@[simp] theorem modTime_rd (s : State) (f : TimeSt → TimeSt) (h : Field) (j : Nat) : (modTime s f).rd h j = s.rd h j := rfl
@[simp] theorem modTime_rdSw (s : State) (f : TimeSt → TimeSt) (h : Field) (j : Nat) : (modTime s f).rdSw h j = s.rdSw h j := rfl

/-! ## modSw -/

@[simp] theorem modSw_now (s : State) (f : SwitchSt → SwitchSt) : (modSw s f).now = s.now := rfl
@[simp] theorem modSw_freeCtr (s : State) (f : SwitchSt → SwitchSt) : (modSw s f).freeCtr = s.freeCtr := rfl
@[simp] theorem modSw_pending (s : State) (f : SwitchSt → SwitchSt) : (modSw s f).pending = s.pending := rfl
@[simp] theorem modSw_outbox (s : State) (f : SwitchSt → SwitchSt) : (modSw s f).outbox = s.outbox := rfl
@[simp] theorem modSw_regs (s : State) (f : SwitchSt → SwitchSt) : (modSw s f).regs = s.regs := rfl
@[simp] theorem modSw_latch (s : State) (f : SwitchSt → SwitchSt) : (modSw s f).latch = s.latch := rfl
@[simp] theorem modSw_heldW (s : State) (f : SwitchSt → SwitchSt) : (modSw s f).heldW = s.heldW := rfl
@[simp] theorem modSw_time (s : State) (f : SwitchSt → SwitchSt) : (modSw s f).time = s.time := rfl
@[simp] theorem modSw_commit (s : State) (f : SwitchSt → SwitchSt) : (modSw s f).commit = s.commit := rfl
@[simp] theorem modSw_semEnd (s : State) (f : SwitchSt → SwitchSt) : (modSw s f).semEnd = s.semEnd := rfl
@[simp] theorem modSw_lastFault (s : State) (f : SwitchSt → SwitchSt) : (modSw s f).lastFault = s.lastFault := rfl
@[simp] theorem modSw_passCut (s : State) (f : SwitchSt → SwitchSt) : (modSw s f).passCut = s.passCut := rfl
@[simp] theorem modSw_sw (s : State) (f : SwitchSt → SwitchSt) : (modSw s f).sw = f s.sw := rfl
@[simp] theorem modSw_links (s : State) (f : SwitchSt → SwitchSt) : (modSw s f).links = s.links := rfl
@[simp] theorem modSw_lanes (s : State) (f : SwitchSt → SwitchSt) : (modSw s f).lanes = s.lanes := rfl
@[simp] theorem modSw_flt (s : State) (f : SwitchSt → SwitchSt) : (modSw s f).flt = s.flt := rfl
@[simp] theorem modSw_rst (s : State) (f : SwitchSt → SwitchSt) : (modSw s f).rst = s.rst := rfl
@[simp] theorem modSw_pin (s : State) (f : SwitchSt → SwitchSt) : (modSw s f).pin = s.pin := rfl
@[simp] theorem modSw_pwr (s : State) (f : SwitchSt → SwitchSt) : (modSw s f).pwr = s.pwr := rfl
@[simp] theorem modSw_gmc (s : State) (f : SwitchSt → SwitchSt) : (modSw s f).gmc = s.gmc := rfl
@[simp] theorem modSw_bus (s : State) (f : SwitchSt → SwitchSt) : (modSw s f).bus = s.bus := rfl
@[simp] theorem modSw_tel (s : State) (f : SwitchSt → SwitchSt) : (modSw s f).tel = s.tel := rfl
@[simp] theorem modSw_ctx (s : State) (f : SwitchSt → SwitchSt) : (modSw s f).ctx = s.ctx := rfl
@[simp] theorem modSw_fenceHit (s : State) (f : SwitchSt → SwitchSt) : (modSw s f).fenceHit = s.fenceHit := rfl
@[simp] theorem modSw_winOpen (s : State) (f : SwitchSt → SwitchSt) : (modSw s f).winOpen = s.winOpen := rfl
@[simp] theorem modSw_resend (s : State) (f : SwitchSt → SwitchSt) : (modSw s f).resend = s.resend := rfl
@[simp] theorem modSw_grps (s : State) (f : SwitchSt → SwitchSt) : (modSw s f).grps = s.grps := rfl
@[simp] theorem modSw_grpRr (s : State) (f : SwitchSt → SwitchSt) : (modSw s f).grpRr = s.grpRr := rfl
@[simp] theorem modSw_qstore (s : State) (f : SwitchSt → SwitchSt) : (modSw s f).qstore = s.qstore := rfl
@[simp] theorem modSw_pumps (s : State) (f : SwitchSt → SwitchSt) : (modSw s f).pumps = s.pumps := rfl
@[simp] theorem modSw_coverFrom (s : State) (f : SwitchSt → SwitchSt) : (modSw s f).coverFrom = s.coverFrom := rfl
@[simp] theorem modSw_pumpHold (s : State) (f : SwitchSt → SwitchSt) : (modSw s f).pumpHold = s.pumpHold := rfl
@[simp] theorem modSw_host (s : State) (f : SwitchSt → SwitchSt) : (modSw s f).host = s.host := rfl
@[simp] theorem modSw_mem (s : State) (f : SwitchSt → SwitchSt) : (modSw s f).mem = s.mem := rfl
@[simp] theorem modSw_well (s : State) (f : SwitchSt → SwitchSt) : (modSw s f).well = s.well := rfl
@[simp] theorem modSw_rd (s : State) (f : SwitchSt → SwitchSt) (h : Field) (j : Nat) : (modSw s f).rd h j = s.rd h j := rfl
@[simp] theorem modSw_rdSw (s : State) (f : SwitchSt → SwitchSt) (h : Field) (j : Nat) : (modSw s f).rdSw h j = s.rdSw h j := rfl

/-! ## setLink -/

@[simp] theorem setLink_now (s : State) (n : Nat) (l : Link) : (setLink s n l).now = s.now := rfl
@[simp] theorem setLink_freeCtr (s : State) (n : Nat) (l : Link) : (setLink s n l).freeCtr = s.freeCtr := rfl
@[simp] theorem setLink_pending (s : State) (n : Nat) (l : Link) : (setLink s n l).pending = s.pending := rfl
@[simp] theorem setLink_outbox (s : State) (n : Nat) (l : Link) : (setLink s n l).outbox = s.outbox := rfl
@[simp] theorem setLink_regs (s : State) (n : Nat) (l : Link) : (setLink s n l).regs = s.regs := rfl
@[simp] theorem setLink_latch (s : State) (n : Nat) (l : Link) : (setLink s n l).latch = s.latch := rfl
@[simp] theorem setLink_heldW (s : State) (n : Nat) (l : Link) : (setLink s n l).heldW = s.heldW := rfl
@[simp] theorem setLink_time (s : State) (n : Nat) (l : Link) : (setLink s n l).time = s.time := rfl
@[simp] theorem setLink_commit (s : State) (n : Nat) (l : Link) : (setLink s n l).commit = s.commit := rfl
@[simp] theorem setLink_semEnd (s : State) (n : Nat) (l : Link) : (setLink s n l).semEnd = s.semEnd := rfl
@[simp] theorem setLink_lastFault (s : State) (n : Nat) (l : Link) : (setLink s n l).lastFault = s.lastFault := rfl
@[simp] theorem setLink_passCut (s : State) (n : Nat) (l : Link) : (setLink s n l).passCut = s.passCut := rfl
@[simp] theorem setLink_sw (s : State) (n : Nat) (l : Link) : (setLink s n l).sw = s.sw := rfl
@[simp] theorem setLink_links (s : State) (n : Nat) (l : Link) : (setLink s n l).links = mset linkInit s.links n l := rfl
@[simp] theorem setLink_lanes (s : State) (n : Nat) (l : Link) : (setLink s n l).lanes = s.lanes := rfl
@[simp] theorem setLink_flt (s : State) (n : Nat) (l : Link) : (setLink s n l).flt = s.flt := rfl
@[simp] theorem setLink_rst (s : State) (n : Nat) (l : Link) : (setLink s n l).rst = s.rst := rfl
@[simp] theorem setLink_pin (s : State) (n : Nat) (l : Link) : (setLink s n l).pin = s.pin := rfl
@[simp] theorem setLink_pwr (s : State) (n : Nat) (l : Link) : (setLink s n l).pwr = s.pwr := rfl
@[simp] theorem setLink_gmc (s : State) (n : Nat) (l : Link) : (setLink s n l).gmc = s.gmc := rfl
@[simp] theorem setLink_bus (s : State) (n : Nat) (l : Link) : (setLink s n l).bus = s.bus := rfl
@[simp] theorem setLink_tel (s : State) (n : Nat) (l : Link) : (setLink s n l).tel = s.tel := rfl
@[simp] theorem setLink_ctx (s : State) (n : Nat) (l : Link) : (setLink s n l).ctx = s.ctx := rfl
@[simp] theorem setLink_fenceHit (s : State) (n : Nat) (l : Link) : (setLink s n l).fenceHit = s.fenceHit := rfl
@[simp] theorem setLink_winOpen (s : State) (n : Nat) (l : Link) : (setLink s n l).winOpen = s.winOpen := rfl
@[simp] theorem setLink_resend (s : State) (n : Nat) (l : Link) : (setLink s n l).resend = s.resend := rfl
@[simp] theorem setLink_grps (s : State) (n : Nat) (l : Link) : (setLink s n l).grps = s.grps := rfl
@[simp] theorem setLink_grpRr (s : State) (n : Nat) (l : Link) : (setLink s n l).grpRr = s.grpRr := rfl
@[simp] theorem setLink_qstore (s : State) (n : Nat) (l : Link) : (setLink s n l).qstore = s.qstore := rfl
@[simp] theorem setLink_pumps (s : State) (n : Nat) (l : Link) : (setLink s n l).pumps = s.pumps := rfl
@[simp] theorem setLink_coverFrom (s : State) (n : Nat) (l : Link) : (setLink s n l).coverFrom = s.coverFrom := rfl
@[simp] theorem setLink_pumpHold (s : State) (n : Nat) (l : Link) : (setLink s n l).pumpHold = s.pumpHold := rfl
@[simp] theorem setLink_host (s : State) (n : Nat) (l : Link) : (setLink s n l).host = s.host := rfl
@[simp] theorem setLink_mem (s : State) (n : Nat) (l : Link) : (setLink s n l).mem = s.mem := rfl
@[simp] theorem setLink_well (s : State) (n : Nat) (l : Link) : (setLink s n l).well = s.well := rfl
@[simp] theorem setLink_rd (s : State) (n : Nat) (l : Link) (h : Field) (j : Nat) : (setLink s n l).rd h j = s.rd h j := rfl
@[simp] theorem setLink_rdSw (s : State) (n : Nat) (l : Link) (h : Field) (j : Nat) : (setLink s n l).rdSw h j = s.rdSw h j := rfl

/-! ## modLink -/

@[simp] theorem modLink_now (s : State) (n : Nat) (f : Link → Link) : (modLink s n f).now = s.now := rfl
@[simp] theorem modLink_freeCtr (s : State) (n : Nat) (f : Link → Link) : (modLink s n f).freeCtr = s.freeCtr := rfl
@[simp] theorem modLink_pending (s : State) (n : Nat) (f : Link → Link) : (modLink s n f).pending = s.pending := rfl
@[simp] theorem modLink_outbox (s : State) (n : Nat) (f : Link → Link) : (modLink s n f).outbox = s.outbox := rfl
@[simp] theorem modLink_regs (s : State) (n : Nat) (f : Link → Link) : (modLink s n f).regs = s.regs := rfl
@[simp] theorem modLink_latch (s : State) (n : Nat) (f : Link → Link) : (modLink s n f).latch = s.latch := rfl
@[simp] theorem modLink_heldW (s : State) (n : Nat) (f : Link → Link) : (modLink s n f).heldW = s.heldW := rfl
@[simp] theorem modLink_time (s : State) (n : Nat) (f : Link → Link) : (modLink s n f).time = s.time := rfl
@[simp] theorem modLink_commit (s : State) (n : Nat) (f : Link → Link) : (modLink s n f).commit = s.commit := rfl
@[simp] theorem modLink_semEnd (s : State) (n : Nat) (f : Link → Link) : (modLink s n f).semEnd = s.semEnd := rfl
@[simp] theorem modLink_lastFault (s : State) (n : Nat) (f : Link → Link) : (modLink s n f).lastFault = s.lastFault := rfl
@[simp] theorem modLink_passCut (s : State) (n : Nat) (f : Link → Link) : (modLink s n f).passCut = s.passCut := rfl
@[simp] theorem modLink_sw (s : State) (n : Nat) (f : Link → Link) : (modLink s n f).sw = s.sw := rfl
@[simp] theorem modLink_links (s : State) (n : Nat) (f : Link → Link) : (modLink s n f).links = mset linkInit s.links n (f (getLink s n)) := rfl
@[simp] theorem modLink_lanes (s : State) (n : Nat) (f : Link → Link) : (modLink s n f).lanes = s.lanes := rfl
@[simp] theorem modLink_flt (s : State) (n : Nat) (f : Link → Link) : (modLink s n f).flt = s.flt := rfl
@[simp] theorem modLink_rst (s : State) (n : Nat) (f : Link → Link) : (modLink s n f).rst = s.rst := rfl
@[simp] theorem modLink_pin (s : State) (n : Nat) (f : Link → Link) : (modLink s n f).pin = s.pin := rfl
@[simp] theorem modLink_pwr (s : State) (n : Nat) (f : Link → Link) : (modLink s n f).pwr = s.pwr := rfl
@[simp] theorem modLink_gmc (s : State) (n : Nat) (f : Link → Link) : (modLink s n f).gmc = s.gmc := rfl
@[simp] theorem modLink_bus (s : State) (n : Nat) (f : Link → Link) : (modLink s n f).bus = s.bus := rfl
@[simp] theorem modLink_tel (s : State) (n : Nat) (f : Link → Link) : (modLink s n f).tel = s.tel := rfl
@[simp] theorem modLink_ctx (s : State) (n : Nat) (f : Link → Link) : (modLink s n f).ctx = s.ctx := rfl
@[simp] theorem modLink_fenceHit (s : State) (n : Nat) (f : Link → Link) : (modLink s n f).fenceHit = s.fenceHit := rfl
@[simp] theorem modLink_winOpen (s : State) (n : Nat) (f : Link → Link) : (modLink s n f).winOpen = s.winOpen := rfl
@[simp] theorem modLink_resend (s : State) (n : Nat) (f : Link → Link) : (modLink s n f).resend = s.resend := rfl
@[simp] theorem modLink_grps (s : State) (n : Nat) (f : Link → Link) : (modLink s n f).grps = s.grps := rfl
@[simp] theorem modLink_grpRr (s : State) (n : Nat) (f : Link → Link) : (modLink s n f).grpRr = s.grpRr := rfl
@[simp] theorem modLink_qstore (s : State) (n : Nat) (f : Link → Link) : (modLink s n f).qstore = s.qstore := rfl
@[simp] theorem modLink_pumps (s : State) (n : Nat) (f : Link → Link) : (modLink s n f).pumps = s.pumps := rfl
@[simp] theorem modLink_coverFrom (s : State) (n : Nat) (f : Link → Link) : (modLink s n f).coverFrom = s.coverFrom := rfl
@[simp] theorem modLink_pumpHold (s : State) (n : Nat) (f : Link → Link) : (modLink s n f).pumpHold = s.pumpHold := rfl
@[simp] theorem modLink_host (s : State) (n : Nat) (f : Link → Link) : (modLink s n f).host = s.host := rfl
@[simp] theorem modLink_mem (s : State) (n : Nat) (f : Link → Link) : (modLink s n f).mem = s.mem := rfl
@[simp] theorem modLink_well (s : State) (n : Nat) (f : Link → Link) : (modLink s n f).well = s.well := rfl
@[simp] theorem modLink_rd (s : State) (n : Nat) (f : Link → Link) (h : Field) (j : Nat) : (modLink s n f).rd h j = s.rd h j := rfl
@[simp] theorem modLink_rdSw (s : State) (n : Nat) (f : Link → Link) (h : Field) (j : Nat) : (modLink s n f).rdSw h j = s.rdSw h j := rfl

/-! ## modLane -/

@[simp] theorem modLane_now (s : State) (n : Nat) (f : Lane → Lane) : (modLane s n f).now = s.now := rfl
@[simp] theorem modLane_freeCtr (s : State) (n : Nat) (f : Lane → Lane) : (modLane s n f).freeCtr = s.freeCtr := rfl
@[simp] theorem modLane_pending (s : State) (n : Nat) (f : Lane → Lane) : (modLane s n f).pending = s.pending := rfl
@[simp] theorem modLane_outbox (s : State) (n : Nat) (f : Lane → Lane) : (modLane s n f).outbox = s.outbox := rfl
@[simp] theorem modLane_regs (s : State) (n : Nat) (f : Lane → Lane) : (modLane s n f).regs = s.regs := rfl
@[simp] theorem modLane_latch (s : State) (n : Nat) (f : Lane → Lane) : (modLane s n f).latch = s.latch := rfl
@[simp] theorem modLane_heldW (s : State) (n : Nat) (f : Lane → Lane) : (modLane s n f).heldW = s.heldW := rfl
@[simp] theorem modLane_time (s : State) (n : Nat) (f : Lane → Lane) : (modLane s n f).time = s.time := rfl
@[simp] theorem modLane_commit (s : State) (n : Nat) (f : Lane → Lane) : (modLane s n f).commit = s.commit := rfl
@[simp] theorem modLane_semEnd (s : State) (n : Nat) (f : Lane → Lane) : (modLane s n f).semEnd = s.semEnd := rfl
@[simp] theorem modLane_lastFault (s : State) (n : Nat) (f : Lane → Lane) : (modLane s n f).lastFault = s.lastFault := rfl
@[simp] theorem modLane_passCut (s : State) (n : Nat) (f : Lane → Lane) : (modLane s n f).passCut = s.passCut := rfl
@[simp] theorem modLane_sw (s : State) (n : Nat) (f : Lane → Lane) : (modLane s n f).sw = s.sw := rfl
@[simp] theorem modLane_links (s : State) (n : Nat) (f : Lane → Lane) : (modLane s n f).links = s.links := rfl
@[simp] theorem modLane_lanes (s : State) (n : Nat) (f : Lane → Lane) : (modLane s n f).lanes = mset laneInit s.lanes n (f (getLane s n)) := rfl
@[simp] theorem modLane_flt (s : State) (n : Nat) (f : Lane → Lane) : (modLane s n f).flt = s.flt := rfl
@[simp] theorem modLane_rst (s : State) (n : Nat) (f : Lane → Lane) : (modLane s n f).rst = s.rst := rfl
@[simp] theorem modLane_pin (s : State) (n : Nat) (f : Lane → Lane) : (modLane s n f).pin = s.pin := rfl
@[simp] theorem modLane_pwr (s : State) (n : Nat) (f : Lane → Lane) : (modLane s n f).pwr = s.pwr := rfl
@[simp] theorem modLane_gmc (s : State) (n : Nat) (f : Lane → Lane) : (modLane s n f).gmc = s.gmc := rfl
@[simp] theorem modLane_bus (s : State) (n : Nat) (f : Lane → Lane) : (modLane s n f).bus = s.bus := rfl
@[simp] theorem modLane_tel (s : State) (n : Nat) (f : Lane → Lane) : (modLane s n f).tel = s.tel := rfl
@[simp] theorem modLane_ctx (s : State) (n : Nat) (f : Lane → Lane) : (modLane s n f).ctx = s.ctx := rfl
@[simp] theorem modLane_fenceHit (s : State) (n : Nat) (f : Lane → Lane) : (modLane s n f).fenceHit = s.fenceHit := rfl
@[simp] theorem modLane_winOpen (s : State) (n : Nat) (f : Lane → Lane) : (modLane s n f).winOpen = s.winOpen := rfl
@[simp] theorem modLane_resend (s : State) (n : Nat) (f : Lane → Lane) : (modLane s n f).resend = s.resend := rfl
@[simp] theorem modLane_grps (s : State) (n : Nat) (f : Lane → Lane) : (modLane s n f).grps = s.grps := rfl
@[simp] theorem modLane_grpRr (s : State) (n : Nat) (f : Lane → Lane) : (modLane s n f).grpRr = s.grpRr := rfl
@[simp] theorem modLane_qstore (s : State) (n : Nat) (f : Lane → Lane) : (modLane s n f).qstore = s.qstore := rfl
@[simp] theorem modLane_pumps (s : State) (n : Nat) (f : Lane → Lane) : (modLane s n f).pumps = s.pumps := rfl
@[simp] theorem modLane_coverFrom (s : State) (n : Nat) (f : Lane → Lane) : (modLane s n f).coverFrom = s.coverFrom := rfl
@[simp] theorem modLane_pumpHold (s : State) (n : Nat) (f : Lane → Lane) : (modLane s n f).pumpHold = s.pumpHold := rfl
@[simp] theorem modLane_host (s : State) (n : Nat) (f : Lane → Lane) : (modLane s n f).host = s.host := rfl
@[simp] theorem modLane_mem (s : State) (n : Nat) (f : Lane → Lane) : (modLane s n f).mem = s.mem := rfl
@[simp] theorem modLane_well (s : State) (n : Nat) (f : Lane → Lane) : (modLane s n f).well = s.well := rfl
@[simp] theorem modLane_rd (s : State) (n : Nat) (f : Lane → Lane) (h : Field) (j : Nat) : (modLane s n f).rd h j = s.rd h j := rfl
@[simp] theorem modLane_rdSw (s : State) (n : Nat) (f : Lane → Lane) (h : Field) (j : Nat) : (modLane s n f).rdSw h j = s.rdSw h j := rfl

/-! ## modFlt -/

@[simp] theorem modFlt_now (s : State) (f : FltSt → FltSt) : (modFlt s f).now = s.now := rfl
@[simp] theorem modFlt_freeCtr (s : State) (f : FltSt → FltSt) : (modFlt s f).freeCtr = s.freeCtr := rfl
@[simp] theorem modFlt_pending (s : State) (f : FltSt → FltSt) : (modFlt s f).pending = s.pending := rfl
@[simp] theorem modFlt_outbox (s : State) (f : FltSt → FltSt) : (modFlt s f).outbox = s.outbox := rfl
@[simp] theorem modFlt_regs (s : State) (f : FltSt → FltSt) : (modFlt s f).regs = s.regs := rfl
@[simp] theorem modFlt_latch (s : State) (f : FltSt → FltSt) : (modFlt s f).latch = s.latch := rfl
@[simp] theorem modFlt_heldW (s : State) (f : FltSt → FltSt) : (modFlt s f).heldW = s.heldW := rfl
@[simp] theorem modFlt_time (s : State) (f : FltSt → FltSt) : (modFlt s f).time = s.time := rfl
@[simp] theorem modFlt_commit (s : State) (f : FltSt → FltSt) : (modFlt s f).commit = s.commit := rfl
@[simp] theorem modFlt_semEnd (s : State) (f : FltSt → FltSt) : (modFlt s f).semEnd = s.semEnd := rfl
@[simp] theorem modFlt_lastFault (s : State) (f : FltSt → FltSt) : (modFlt s f).lastFault = s.lastFault := rfl
@[simp] theorem modFlt_passCut (s : State) (f : FltSt → FltSt) : (modFlt s f).passCut = s.passCut := rfl
@[simp] theorem modFlt_sw (s : State) (f : FltSt → FltSt) : (modFlt s f).sw = s.sw := rfl
@[simp] theorem modFlt_links (s : State) (f : FltSt → FltSt) : (modFlt s f).links = s.links := rfl
@[simp] theorem modFlt_lanes (s : State) (f : FltSt → FltSt) : (modFlt s f).lanes = s.lanes := rfl
@[simp] theorem modFlt_flt (s : State) (f : FltSt → FltSt) : (modFlt s f).flt = f s.flt := rfl
@[simp] theorem modFlt_rst (s : State) (f : FltSt → FltSt) : (modFlt s f).rst = s.rst := rfl
@[simp] theorem modFlt_pin (s : State) (f : FltSt → FltSt) : (modFlt s f).pin = s.pin := rfl
@[simp] theorem modFlt_pwr (s : State) (f : FltSt → FltSt) : (modFlt s f).pwr = s.pwr := rfl
@[simp] theorem modFlt_gmc (s : State) (f : FltSt → FltSt) : (modFlt s f).gmc = s.gmc := rfl
@[simp] theorem modFlt_bus (s : State) (f : FltSt → FltSt) : (modFlt s f).bus = s.bus := rfl
@[simp] theorem modFlt_tel (s : State) (f : FltSt → FltSt) : (modFlt s f).tel = s.tel := rfl
@[simp] theorem modFlt_ctx (s : State) (f : FltSt → FltSt) : (modFlt s f).ctx = s.ctx := rfl
@[simp] theorem modFlt_fenceHit (s : State) (f : FltSt → FltSt) : (modFlt s f).fenceHit = s.fenceHit := rfl
@[simp] theorem modFlt_winOpen (s : State) (f : FltSt → FltSt) : (modFlt s f).winOpen = s.winOpen := rfl
@[simp] theorem modFlt_resend (s : State) (f : FltSt → FltSt) : (modFlt s f).resend = s.resend := rfl
@[simp] theorem modFlt_grps (s : State) (f : FltSt → FltSt) : (modFlt s f).grps = s.grps := rfl
@[simp] theorem modFlt_grpRr (s : State) (f : FltSt → FltSt) : (modFlt s f).grpRr = s.grpRr := rfl
@[simp] theorem modFlt_qstore (s : State) (f : FltSt → FltSt) : (modFlt s f).qstore = s.qstore := rfl
@[simp] theorem modFlt_pumps (s : State) (f : FltSt → FltSt) : (modFlt s f).pumps = s.pumps := rfl
@[simp] theorem modFlt_coverFrom (s : State) (f : FltSt → FltSt) : (modFlt s f).coverFrom = s.coverFrom := rfl
@[simp] theorem modFlt_pumpHold (s : State) (f : FltSt → FltSt) : (modFlt s f).pumpHold = s.pumpHold := rfl
@[simp] theorem modFlt_host (s : State) (f : FltSt → FltSt) : (modFlt s f).host = s.host := rfl
@[simp] theorem modFlt_mem (s : State) (f : FltSt → FltSt) : (modFlt s f).mem = s.mem := rfl
@[simp] theorem modFlt_well (s : State) (f : FltSt → FltSt) : (modFlt s f).well = s.well := rfl
@[simp] theorem modFlt_rd (s : State) (f : FltSt → FltSt) (h : Field) (j : Nat) : (modFlt s f).rd h j = s.rd h j := rfl
@[simp] theorem modFlt_rdSw (s : State) (f : FltSt → FltSt) (h : Field) (j : Nat) : (modFlt s f).rdSw h j = s.rdSw h j := rfl

/-! ## modPwr -/

@[simp] theorem modPwr_now (s : State) (f : PwrSt → PwrSt) : (modPwr s f).now = s.now := rfl
@[simp] theorem modPwr_freeCtr (s : State) (f : PwrSt → PwrSt) : (modPwr s f).freeCtr = s.freeCtr := rfl
@[simp] theorem modPwr_pending (s : State) (f : PwrSt → PwrSt) : (modPwr s f).pending = s.pending := rfl
@[simp] theorem modPwr_outbox (s : State) (f : PwrSt → PwrSt) : (modPwr s f).outbox = s.outbox := rfl
@[simp] theorem modPwr_regs (s : State) (f : PwrSt → PwrSt) : (modPwr s f).regs = s.regs := rfl
@[simp] theorem modPwr_latch (s : State) (f : PwrSt → PwrSt) : (modPwr s f).latch = s.latch := rfl
@[simp] theorem modPwr_heldW (s : State) (f : PwrSt → PwrSt) : (modPwr s f).heldW = s.heldW := rfl
@[simp] theorem modPwr_time (s : State) (f : PwrSt → PwrSt) : (modPwr s f).time = s.time := rfl
@[simp] theorem modPwr_commit (s : State) (f : PwrSt → PwrSt) : (modPwr s f).commit = s.commit := rfl
@[simp] theorem modPwr_semEnd (s : State) (f : PwrSt → PwrSt) : (modPwr s f).semEnd = s.semEnd := rfl
@[simp] theorem modPwr_lastFault (s : State) (f : PwrSt → PwrSt) : (modPwr s f).lastFault = s.lastFault := rfl
@[simp] theorem modPwr_passCut (s : State) (f : PwrSt → PwrSt) : (modPwr s f).passCut = s.passCut := rfl
@[simp] theorem modPwr_sw (s : State) (f : PwrSt → PwrSt) : (modPwr s f).sw = s.sw := rfl
@[simp] theorem modPwr_links (s : State) (f : PwrSt → PwrSt) : (modPwr s f).links = s.links := rfl
@[simp] theorem modPwr_lanes (s : State) (f : PwrSt → PwrSt) : (modPwr s f).lanes = s.lanes := rfl
@[simp] theorem modPwr_flt (s : State) (f : PwrSt → PwrSt) : (modPwr s f).flt = s.flt := rfl
@[simp] theorem modPwr_rst (s : State) (f : PwrSt → PwrSt) : (modPwr s f).rst = s.rst := rfl
@[simp] theorem modPwr_pin (s : State) (f : PwrSt → PwrSt) : (modPwr s f).pin = s.pin := rfl
@[simp] theorem modPwr_pwr (s : State) (f : PwrSt → PwrSt) : (modPwr s f).pwr = f s.pwr := rfl
@[simp] theorem modPwr_gmc (s : State) (f : PwrSt → PwrSt) : (modPwr s f).gmc = s.gmc := rfl
@[simp] theorem modPwr_bus (s : State) (f : PwrSt → PwrSt) : (modPwr s f).bus = s.bus := rfl
@[simp] theorem modPwr_tel (s : State) (f : PwrSt → PwrSt) : (modPwr s f).tel = s.tel := rfl
@[simp] theorem modPwr_ctx (s : State) (f : PwrSt → PwrSt) : (modPwr s f).ctx = s.ctx := rfl
@[simp] theorem modPwr_fenceHit (s : State) (f : PwrSt → PwrSt) : (modPwr s f).fenceHit = s.fenceHit := rfl
@[simp] theorem modPwr_winOpen (s : State) (f : PwrSt → PwrSt) : (modPwr s f).winOpen = s.winOpen := rfl
@[simp] theorem modPwr_resend (s : State) (f : PwrSt → PwrSt) : (modPwr s f).resend = s.resend := rfl
@[simp] theorem modPwr_grps (s : State) (f : PwrSt → PwrSt) : (modPwr s f).grps = s.grps := rfl
@[simp] theorem modPwr_grpRr (s : State) (f : PwrSt → PwrSt) : (modPwr s f).grpRr = s.grpRr := rfl
@[simp] theorem modPwr_qstore (s : State) (f : PwrSt → PwrSt) : (modPwr s f).qstore = s.qstore := rfl
@[simp] theorem modPwr_pumps (s : State) (f : PwrSt → PwrSt) : (modPwr s f).pumps = s.pumps := rfl
@[simp] theorem modPwr_coverFrom (s : State) (f : PwrSt → PwrSt) : (modPwr s f).coverFrom = s.coverFrom := rfl
@[simp] theorem modPwr_pumpHold (s : State) (f : PwrSt → PwrSt) : (modPwr s f).pumpHold = s.pumpHold := rfl
@[simp] theorem modPwr_host (s : State) (f : PwrSt → PwrSt) : (modPwr s f).host = s.host := rfl
@[simp] theorem modPwr_mem (s : State) (f : PwrSt → PwrSt) : (modPwr s f).mem = s.mem := rfl
@[simp] theorem modPwr_well (s : State) (f : PwrSt → PwrSt) : (modPwr s f).well = s.well := rfl
@[simp] theorem modPwr_rd (s : State) (f : PwrSt → PwrSt) (h : Field) (j : Nat) : (modPwr s f).rd h j = s.rd h j := rfl
@[simp] theorem modPwr_rdSw (s : State) (f : PwrSt → PwrSt) (h : Field) (j : Nat) : (modPwr s f).rdSw h j = s.rdSw h j := rfl

/-! ## modGmc -/

@[simp] theorem modGmc_now (s : State) (f : GmcSt → GmcSt) : (modGmc s f).now = s.now := rfl
@[simp] theorem modGmc_freeCtr (s : State) (f : GmcSt → GmcSt) : (modGmc s f).freeCtr = s.freeCtr := rfl
@[simp] theorem modGmc_pending (s : State) (f : GmcSt → GmcSt) : (modGmc s f).pending = s.pending := rfl
@[simp] theorem modGmc_outbox (s : State) (f : GmcSt → GmcSt) : (modGmc s f).outbox = s.outbox := rfl
@[simp] theorem modGmc_regs (s : State) (f : GmcSt → GmcSt) : (modGmc s f).regs = s.regs := rfl
@[simp] theorem modGmc_latch (s : State) (f : GmcSt → GmcSt) : (modGmc s f).latch = s.latch := rfl
@[simp] theorem modGmc_heldW (s : State) (f : GmcSt → GmcSt) : (modGmc s f).heldW = s.heldW := rfl
@[simp] theorem modGmc_time (s : State) (f : GmcSt → GmcSt) : (modGmc s f).time = s.time := rfl
@[simp] theorem modGmc_commit (s : State) (f : GmcSt → GmcSt) : (modGmc s f).commit = s.commit := rfl
@[simp] theorem modGmc_semEnd (s : State) (f : GmcSt → GmcSt) : (modGmc s f).semEnd = s.semEnd := rfl
@[simp] theorem modGmc_lastFault (s : State) (f : GmcSt → GmcSt) : (modGmc s f).lastFault = s.lastFault := rfl
@[simp] theorem modGmc_passCut (s : State) (f : GmcSt → GmcSt) : (modGmc s f).passCut = s.passCut := rfl
@[simp] theorem modGmc_sw (s : State) (f : GmcSt → GmcSt) : (modGmc s f).sw = s.sw := rfl
@[simp] theorem modGmc_links (s : State) (f : GmcSt → GmcSt) : (modGmc s f).links = s.links := rfl
@[simp] theorem modGmc_lanes (s : State) (f : GmcSt → GmcSt) : (modGmc s f).lanes = s.lanes := rfl
@[simp] theorem modGmc_flt (s : State) (f : GmcSt → GmcSt) : (modGmc s f).flt = s.flt := rfl
@[simp] theorem modGmc_rst (s : State) (f : GmcSt → GmcSt) : (modGmc s f).rst = s.rst := rfl
@[simp] theorem modGmc_pin (s : State) (f : GmcSt → GmcSt) : (modGmc s f).pin = s.pin := rfl
@[simp] theorem modGmc_pwr (s : State) (f : GmcSt → GmcSt) : (modGmc s f).pwr = s.pwr := rfl
@[simp] theorem modGmc_gmc (s : State) (f : GmcSt → GmcSt) : (modGmc s f).gmc = f s.gmc := rfl
@[simp] theorem modGmc_bus (s : State) (f : GmcSt → GmcSt) : (modGmc s f).bus = s.bus := rfl
@[simp] theorem modGmc_tel (s : State) (f : GmcSt → GmcSt) : (modGmc s f).tel = s.tel := rfl
@[simp] theorem modGmc_ctx (s : State) (f : GmcSt → GmcSt) : (modGmc s f).ctx = s.ctx := rfl
@[simp] theorem modGmc_fenceHit (s : State) (f : GmcSt → GmcSt) : (modGmc s f).fenceHit = s.fenceHit := rfl
@[simp] theorem modGmc_winOpen (s : State) (f : GmcSt → GmcSt) : (modGmc s f).winOpen = s.winOpen := rfl
@[simp] theorem modGmc_resend (s : State) (f : GmcSt → GmcSt) : (modGmc s f).resend = s.resend := rfl
@[simp] theorem modGmc_grps (s : State) (f : GmcSt → GmcSt) : (modGmc s f).grps = s.grps := rfl
@[simp] theorem modGmc_grpRr (s : State) (f : GmcSt → GmcSt) : (modGmc s f).grpRr = s.grpRr := rfl
@[simp] theorem modGmc_qstore (s : State) (f : GmcSt → GmcSt) : (modGmc s f).qstore = s.qstore := rfl
@[simp] theorem modGmc_pumps (s : State) (f : GmcSt → GmcSt) : (modGmc s f).pumps = s.pumps := rfl
@[simp] theorem modGmc_coverFrom (s : State) (f : GmcSt → GmcSt) : (modGmc s f).coverFrom = s.coverFrom := rfl
@[simp] theorem modGmc_pumpHold (s : State) (f : GmcSt → GmcSt) : (modGmc s f).pumpHold = s.pumpHold := rfl
@[simp] theorem modGmc_host (s : State) (f : GmcSt → GmcSt) : (modGmc s f).host = s.host := rfl
@[simp] theorem modGmc_mem (s : State) (f : GmcSt → GmcSt) : (modGmc s f).mem = s.mem := rfl
@[simp] theorem modGmc_well (s : State) (f : GmcSt → GmcSt) : (modGmc s f).well = s.well := rfl
@[simp] theorem modGmc_rd (s : State) (f : GmcSt → GmcSt) (h : Field) (j : Nat) : (modGmc s f).rd h j = s.rd h j := rfl
@[simp] theorem modGmc_rdSw (s : State) (f : GmcSt → GmcSt) (h : Field) (j : Nat) : (modGmc s f).rdSw h j = s.rdSw h j := rfl

/-! ## modBus -/

@[simp] theorem modBus_now (s : State) (f : BusSt → BusSt) : (modBus s f).now = s.now := rfl
@[simp] theorem modBus_freeCtr (s : State) (f : BusSt → BusSt) : (modBus s f).freeCtr = s.freeCtr := rfl
@[simp] theorem modBus_pending (s : State) (f : BusSt → BusSt) : (modBus s f).pending = s.pending := rfl
@[simp] theorem modBus_outbox (s : State) (f : BusSt → BusSt) : (modBus s f).outbox = s.outbox := rfl
@[simp] theorem modBus_regs (s : State) (f : BusSt → BusSt) : (modBus s f).regs = s.regs := rfl
@[simp] theorem modBus_latch (s : State) (f : BusSt → BusSt) : (modBus s f).latch = s.latch := rfl
@[simp] theorem modBus_heldW (s : State) (f : BusSt → BusSt) : (modBus s f).heldW = s.heldW := rfl
@[simp] theorem modBus_time (s : State) (f : BusSt → BusSt) : (modBus s f).time = s.time := rfl
@[simp] theorem modBus_commit (s : State) (f : BusSt → BusSt) : (modBus s f).commit = s.commit := rfl
@[simp] theorem modBus_semEnd (s : State) (f : BusSt → BusSt) : (modBus s f).semEnd = s.semEnd := rfl
@[simp] theorem modBus_lastFault (s : State) (f : BusSt → BusSt) : (modBus s f).lastFault = s.lastFault := rfl
@[simp] theorem modBus_passCut (s : State) (f : BusSt → BusSt) : (modBus s f).passCut = s.passCut := rfl
@[simp] theorem modBus_sw (s : State) (f : BusSt → BusSt) : (modBus s f).sw = s.sw := rfl
@[simp] theorem modBus_links (s : State) (f : BusSt → BusSt) : (modBus s f).links = s.links := rfl
@[simp] theorem modBus_lanes (s : State) (f : BusSt → BusSt) : (modBus s f).lanes = s.lanes := rfl
@[simp] theorem modBus_flt (s : State) (f : BusSt → BusSt) : (modBus s f).flt = s.flt := rfl
@[simp] theorem modBus_rst (s : State) (f : BusSt → BusSt) : (modBus s f).rst = s.rst := rfl
@[simp] theorem modBus_pin (s : State) (f : BusSt → BusSt) : (modBus s f).pin = s.pin := rfl
@[simp] theorem modBus_pwr (s : State) (f : BusSt → BusSt) : (modBus s f).pwr = s.pwr := rfl
@[simp] theorem modBus_gmc (s : State) (f : BusSt → BusSt) : (modBus s f).gmc = s.gmc := rfl
@[simp] theorem modBus_bus (s : State) (f : BusSt → BusSt) : (modBus s f).bus = f s.bus := rfl
@[simp] theorem modBus_tel (s : State) (f : BusSt → BusSt) : (modBus s f).tel = s.tel := rfl
@[simp] theorem modBus_ctx (s : State) (f : BusSt → BusSt) : (modBus s f).ctx = s.ctx := rfl
@[simp] theorem modBus_fenceHit (s : State) (f : BusSt → BusSt) : (modBus s f).fenceHit = s.fenceHit := rfl
@[simp] theorem modBus_winOpen (s : State) (f : BusSt → BusSt) : (modBus s f).winOpen = s.winOpen := rfl
@[simp] theorem modBus_resend (s : State) (f : BusSt → BusSt) : (modBus s f).resend = s.resend := rfl
@[simp] theorem modBus_grps (s : State) (f : BusSt → BusSt) : (modBus s f).grps = s.grps := rfl
@[simp] theorem modBus_grpRr (s : State) (f : BusSt → BusSt) : (modBus s f).grpRr = s.grpRr := rfl
@[simp] theorem modBus_qstore (s : State) (f : BusSt → BusSt) : (modBus s f).qstore = s.qstore := rfl
@[simp] theorem modBus_pumps (s : State) (f : BusSt → BusSt) : (modBus s f).pumps = s.pumps := rfl
@[simp] theorem modBus_coverFrom (s : State) (f : BusSt → BusSt) : (modBus s f).coverFrom = s.coverFrom := rfl
@[simp] theorem modBus_pumpHold (s : State) (f : BusSt → BusSt) : (modBus s f).pumpHold = s.pumpHold := rfl
@[simp] theorem modBus_host (s : State) (f : BusSt → BusSt) : (modBus s f).host = s.host := rfl
@[simp] theorem modBus_mem (s : State) (f : BusSt → BusSt) : (modBus s f).mem = s.mem := rfl
@[simp] theorem modBus_well (s : State) (f : BusSt → BusSt) : (modBus s f).well = s.well := rfl
@[simp] theorem modBus_rd (s : State) (f : BusSt → BusSt) (h : Field) (j : Nat) : (modBus s f).rd h j = s.rd h j := rfl
@[simp] theorem modBus_rdSw (s : State) (f : BusSt → BusSt) (h : Field) (j : Nat) : (modBus s f).rdSw h j = s.rdSw h j := rfl

/-! ## modTel -/

@[simp] theorem modTel_now (s : State) (f : TelSt → TelSt) : (modTel s f).now = s.now := rfl
@[simp] theorem modTel_freeCtr (s : State) (f : TelSt → TelSt) : (modTel s f).freeCtr = s.freeCtr := rfl
@[simp] theorem modTel_pending (s : State) (f : TelSt → TelSt) : (modTel s f).pending = s.pending := rfl
@[simp] theorem modTel_outbox (s : State) (f : TelSt → TelSt) : (modTel s f).outbox = s.outbox := rfl
@[simp] theorem modTel_regs (s : State) (f : TelSt → TelSt) : (modTel s f).regs = s.regs := rfl
@[simp] theorem modTel_latch (s : State) (f : TelSt → TelSt) : (modTel s f).latch = s.latch := rfl
@[simp] theorem modTel_heldW (s : State) (f : TelSt → TelSt) : (modTel s f).heldW = s.heldW := rfl
@[simp] theorem modTel_time (s : State) (f : TelSt → TelSt) : (modTel s f).time = s.time := rfl
@[simp] theorem modTel_commit (s : State) (f : TelSt → TelSt) : (modTel s f).commit = s.commit := rfl
@[simp] theorem modTel_semEnd (s : State) (f : TelSt → TelSt) : (modTel s f).semEnd = s.semEnd := rfl
@[simp] theorem modTel_lastFault (s : State) (f : TelSt → TelSt) : (modTel s f).lastFault = s.lastFault := rfl
@[simp] theorem modTel_passCut (s : State) (f : TelSt → TelSt) : (modTel s f).passCut = s.passCut := rfl
@[simp] theorem modTel_sw (s : State) (f : TelSt → TelSt) : (modTel s f).sw = s.sw := rfl
@[simp] theorem modTel_links (s : State) (f : TelSt → TelSt) : (modTel s f).links = s.links := rfl
@[simp] theorem modTel_lanes (s : State) (f : TelSt → TelSt) : (modTel s f).lanes = s.lanes := rfl
@[simp] theorem modTel_flt (s : State) (f : TelSt → TelSt) : (modTel s f).flt = s.flt := rfl
@[simp] theorem modTel_rst (s : State) (f : TelSt → TelSt) : (modTel s f).rst = s.rst := rfl
@[simp] theorem modTel_pin (s : State) (f : TelSt → TelSt) : (modTel s f).pin = s.pin := rfl
@[simp] theorem modTel_pwr (s : State) (f : TelSt → TelSt) : (modTel s f).pwr = s.pwr := rfl
@[simp] theorem modTel_gmc (s : State) (f : TelSt → TelSt) : (modTel s f).gmc = s.gmc := rfl
@[simp] theorem modTel_bus (s : State) (f : TelSt → TelSt) : (modTel s f).bus = s.bus := rfl
@[simp] theorem modTel_tel (s : State) (f : TelSt → TelSt) : (modTel s f).tel = f s.tel := rfl
@[simp] theorem modTel_ctx (s : State) (f : TelSt → TelSt) : (modTel s f).ctx = s.ctx := rfl
@[simp] theorem modTel_fenceHit (s : State) (f : TelSt → TelSt) : (modTel s f).fenceHit = s.fenceHit := rfl
@[simp] theorem modTel_winOpen (s : State) (f : TelSt → TelSt) : (modTel s f).winOpen = s.winOpen := rfl
@[simp] theorem modTel_resend (s : State) (f : TelSt → TelSt) : (modTel s f).resend = s.resend := rfl
@[simp] theorem modTel_grps (s : State) (f : TelSt → TelSt) : (modTel s f).grps = s.grps := rfl
@[simp] theorem modTel_grpRr (s : State) (f : TelSt → TelSt) : (modTel s f).grpRr = s.grpRr := rfl
@[simp] theorem modTel_qstore (s : State) (f : TelSt → TelSt) : (modTel s f).qstore = s.qstore := rfl
@[simp] theorem modTel_pumps (s : State) (f : TelSt → TelSt) : (modTel s f).pumps = s.pumps := rfl
@[simp] theorem modTel_coverFrom (s : State) (f : TelSt → TelSt) : (modTel s f).coverFrom = s.coverFrom := rfl
@[simp] theorem modTel_pumpHold (s : State) (f : TelSt → TelSt) : (modTel s f).pumpHold = s.pumpHold := rfl
@[simp] theorem modTel_host (s : State) (f : TelSt → TelSt) : (modTel s f).host = s.host := rfl
@[simp] theorem modTel_mem (s : State) (f : TelSt → TelSt) : (modTel s f).mem = s.mem := rfl
@[simp] theorem modTel_well (s : State) (f : TelSt → TelSt) : (modTel s f).well = s.well := rfl
@[simp] theorem modTel_rd (s : State) (f : TelSt → TelSt) (h : Field) (j : Nat) : (modTel s f).rd h j = s.rd h j := rfl
@[simp] theorem modTel_rdSw (s : State) (f : TelSt → TelSt) (h : Field) (j : Nat) : (modTel s f).rdSw h j = s.rdSw h j := rfl

/-! ## setGrp -/

@[simp] theorem setGrp_now (s : State) (g : Nat) (x : GrpSt) : (setGrp s g x).now = s.now := rfl
@[simp] theorem setGrp_freeCtr (s : State) (g : Nat) (x : GrpSt) : (setGrp s g x).freeCtr = s.freeCtr := rfl
@[simp] theorem setGrp_pending (s : State) (g : Nat) (x : GrpSt) : (setGrp s g x).pending = s.pending := rfl
@[simp] theorem setGrp_outbox (s : State) (g : Nat) (x : GrpSt) : (setGrp s g x).outbox = s.outbox := rfl
@[simp] theorem setGrp_regs (s : State) (g : Nat) (x : GrpSt) : (setGrp s g x).regs = s.regs := rfl
@[simp] theorem setGrp_latch (s : State) (g : Nat) (x : GrpSt) : (setGrp s g x).latch = s.latch := rfl
@[simp] theorem setGrp_heldW (s : State) (g : Nat) (x : GrpSt) : (setGrp s g x).heldW = s.heldW := rfl
@[simp] theorem setGrp_time (s : State) (g : Nat) (x : GrpSt) : (setGrp s g x).time = s.time := rfl
@[simp] theorem setGrp_commit (s : State) (g : Nat) (x : GrpSt) : (setGrp s g x).commit = s.commit := rfl
@[simp] theorem setGrp_semEnd (s : State) (g : Nat) (x : GrpSt) : (setGrp s g x).semEnd = s.semEnd := rfl
@[simp] theorem setGrp_lastFault (s : State) (g : Nat) (x : GrpSt) : (setGrp s g x).lastFault = s.lastFault := rfl
@[simp] theorem setGrp_passCut (s : State) (g : Nat) (x : GrpSt) : (setGrp s g x).passCut = s.passCut := rfl
@[simp] theorem setGrp_sw (s : State) (g : Nat) (x : GrpSt) : (setGrp s g x).sw = s.sw := rfl
@[simp] theorem setGrp_links (s : State) (g : Nat) (x : GrpSt) : (setGrp s g x).links = s.links := rfl
@[simp] theorem setGrp_lanes (s : State) (g : Nat) (x : GrpSt) : (setGrp s g x).lanes = s.lanes := rfl
@[simp] theorem setGrp_flt (s : State) (g : Nat) (x : GrpSt) : (setGrp s g x).flt = s.flt := rfl
@[simp] theorem setGrp_rst (s : State) (g : Nat) (x : GrpSt) : (setGrp s g x).rst = s.rst := rfl
@[simp] theorem setGrp_pin (s : State) (g : Nat) (x : GrpSt) : (setGrp s g x).pin = s.pin := rfl
@[simp] theorem setGrp_pwr (s : State) (g : Nat) (x : GrpSt) : (setGrp s g x).pwr = s.pwr := rfl
@[simp] theorem setGrp_gmc (s : State) (g : Nat) (x : GrpSt) : (setGrp s g x).gmc = s.gmc := rfl
@[simp] theorem setGrp_bus (s : State) (g : Nat) (x : GrpSt) : (setGrp s g x).bus = s.bus := rfl
@[simp] theorem setGrp_tel (s : State) (g : Nat) (x : GrpSt) : (setGrp s g x).tel = s.tel := rfl
@[simp] theorem setGrp_ctx (s : State) (g : Nat) (x : GrpSt) : (setGrp s g x).ctx = s.ctx := rfl
@[simp] theorem setGrp_fenceHit (s : State) (g : Nat) (x : GrpSt) : (setGrp s g x).fenceHit = s.fenceHit := rfl
@[simp] theorem setGrp_winOpen (s : State) (g : Nat) (x : GrpSt) : (setGrp s g x).winOpen = s.winOpen := rfl
@[simp] theorem setGrp_resend (s : State) (g : Nat) (x : GrpSt) : (setGrp s g x).resend = s.resend := rfl
@[simp] theorem setGrp_grps (s : State) (g : Nat) (x : GrpSt) : (setGrp s g x).grps = mset grpInit s.grps g x := rfl
@[simp] theorem setGrp_grpRr (s : State) (g : Nat) (x : GrpSt) : (setGrp s g x).grpRr = s.grpRr := rfl
@[simp] theorem setGrp_qstore (s : State) (g : Nat) (x : GrpSt) : (setGrp s g x).qstore = s.qstore := rfl
@[simp] theorem setGrp_pumps (s : State) (g : Nat) (x : GrpSt) : (setGrp s g x).pumps = s.pumps := rfl
@[simp] theorem setGrp_coverFrom (s : State) (g : Nat) (x : GrpSt) : (setGrp s g x).coverFrom = s.coverFrom := rfl
@[simp] theorem setGrp_pumpHold (s : State) (g : Nat) (x : GrpSt) : (setGrp s g x).pumpHold = s.pumpHold := rfl
@[simp] theorem setGrp_host (s : State) (g : Nat) (x : GrpSt) : (setGrp s g x).host = s.host := rfl
@[simp] theorem setGrp_mem (s : State) (g : Nat) (x : GrpSt) : (setGrp s g x).mem = s.mem := rfl
@[simp] theorem setGrp_well (s : State) (g : Nat) (x : GrpSt) : (setGrp s g x).well = s.well := rfl
@[simp] theorem setGrp_rd (s : State) (g : Nat) (x : GrpSt) (h : Field) (j : Nat) : (setGrp s g x).rd h j = s.rd h j := rfl
@[simp] theorem setGrp_rdSw (s : State) (g : Nat) (x : GrpSt) (h : Field) (j : Nat) : (setGrp s g x).rdSw h j = s.rdSw h j := rfl

/-! ## modGrp -/

@[simp] theorem modGrp_now (s : State) (g : Nat) (f : GrpSt → GrpSt) : (modGrp s g f).now = s.now := rfl
@[simp] theorem modGrp_freeCtr (s : State) (g : Nat) (f : GrpSt → GrpSt) : (modGrp s g f).freeCtr = s.freeCtr := rfl
@[simp] theorem modGrp_pending (s : State) (g : Nat) (f : GrpSt → GrpSt) : (modGrp s g f).pending = s.pending := rfl
@[simp] theorem modGrp_outbox (s : State) (g : Nat) (f : GrpSt → GrpSt) : (modGrp s g f).outbox = s.outbox := rfl
@[simp] theorem modGrp_regs (s : State) (g : Nat) (f : GrpSt → GrpSt) : (modGrp s g f).regs = s.regs := rfl
@[simp] theorem modGrp_latch (s : State) (g : Nat) (f : GrpSt → GrpSt) : (modGrp s g f).latch = s.latch := rfl
@[simp] theorem modGrp_heldW (s : State) (g : Nat) (f : GrpSt → GrpSt) : (modGrp s g f).heldW = s.heldW := rfl
@[simp] theorem modGrp_time (s : State) (g : Nat) (f : GrpSt → GrpSt) : (modGrp s g f).time = s.time := rfl
@[simp] theorem modGrp_commit (s : State) (g : Nat) (f : GrpSt → GrpSt) : (modGrp s g f).commit = s.commit := rfl
@[simp] theorem modGrp_semEnd (s : State) (g : Nat) (f : GrpSt → GrpSt) : (modGrp s g f).semEnd = s.semEnd := rfl
@[simp] theorem modGrp_lastFault (s : State) (g : Nat) (f : GrpSt → GrpSt) : (modGrp s g f).lastFault = s.lastFault := rfl
@[simp] theorem modGrp_passCut (s : State) (g : Nat) (f : GrpSt → GrpSt) : (modGrp s g f).passCut = s.passCut := rfl
@[simp] theorem modGrp_sw (s : State) (g : Nat) (f : GrpSt → GrpSt) : (modGrp s g f).sw = s.sw := rfl
@[simp] theorem modGrp_links (s : State) (g : Nat) (f : GrpSt → GrpSt) : (modGrp s g f).links = s.links := rfl
@[simp] theorem modGrp_lanes (s : State) (g : Nat) (f : GrpSt → GrpSt) : (modGrp s g f).lanes = s.lanes := rfl
@[simp] theorem modGrp_flt (s : State) (g : Nat) (f : GrpSt → GrpSt) : (modGrp s g f).flt = s.flt := rfl
@[simp] theorem modGrp_rst (s : State) (g : Nat) (f : GrpSt → GrpSt) : (modGrp s g f).rst = s.rst := rfl
@[simp] theorem modGrp_pin (s : State) (g : Nat) (f : GrpSt → GrpSt) : (modGrp s g f).pin = s.pin := rfl
@[simp] theorem modGrp_pwr (s : State) (g : Nat) (f : GrpSt → GrpSt) : (modGrp s g f).pwr = s.pwr := rfl
@[simp] theorem modGrp_gmc (s : State) (g : Nat) (f : GrpSt → GrpSt) : (modGrp s g f).gmc = s.gmc := rfl
@[simp] theorem modGrp_bus (s : State) (g : Nat) (f : GrpSt → GrpSt) : (modGrp s g f).bus = s.bus := rfl
@[simp] theorem modGrp_tel (s : State) (g : Nat) (f : GrpSt → GrpSt) : (modGrp s g f).tel = s.tel := rfl
@[simp] theorem modGrp_ctx (s : State) (g : Nat) (f : GrpSt → GrpSt) : (modGrp s g f).ctx = s.ctx := rfl
@[simp] theorem modGrp_fenceHit (s : State) (g : Nat) (f : GrpSt → GrpSt) : (modGrp s g f).fenceHit = s.fenceHit := rfl
@[simp] theorem modGrp_winOpen (s : State) (g : Nat) (f : GrpSt → GrpSt) : (modGrp s g f).winOpen = s.winOpen := rfl
@[simp] theorem modGrp_resend (s : State) (g : Nat) (f : GrpSt → GrpSt) : (modGrp s g f).resend = s.resend := rfl
@[simp] theorem modGrp_grps (s : State) (g : Nat) (f : GrpSt → GrpSt) : (modGrp s g f).grps = mset grpInit s.grps g (f (getGrp s g)) := rfl
@[simp] theorem modGrp_grpRr (s : State) (g : Nat) (f : GrpSt → GrpSt) : (modGrp s g f).grpRr = s.grpRr := rfl
@[simp] theorem modGrp_qstore (s : State) (g : Nat) (f : GrpSt → GrpSt) : (modGrp s g f).qstore = s.qstore := rfl
@[simp] theorem modGrp_pumps (s : State) (g : Nat) (f : GrpSt → GrpSt) : (modGrp s g f).pumps = s.pumps := rfl
@[simp] theorem modGrp_coverFrom (s : State) (g : Nat) (f : GrpSt → GrpSt) : (modGrp s g f).coverFrom = s.coverFrom := rfl
@[simp] theorem modGrp_pumpHold (s : State) (g : Nat) (f : GrpSt → GrpSt) : (modGrp s g f).pumpHold = s.pumpHold := rfl
@[simp] theorem modGrp_host (s : State) (g : Nat) (f : GrpSt → GrpSt) : (modGrp s g f).host = s.host := rfl
@[simp] theorem modGrp_mem (s : State) (g : Nat) (f : GrpSt → GrpSt) : (modGrp s g f).mem = s.mem := rfl
@[simp] theorem modGrp_well (s : State) (g : Nat) (f : GrpSt → GrpSt) : (modGrp s g f).well = s.well := rfl
@[simp] theorem modGrp_rd (s : State) (g : Nat) (f : GrpSt → GrpSt) (h : Field) (j : Nat) : (modGrp s g f).rd h j = s.rd h j := rfl
@[simp] theorem modGrp_rdSw (s : State) (g : Nat) (f : GrpSt → GrpSt) (h : Field) (j : Nat) : (modGrp s g f).rdSw h j = s.rdSw h j := rfl

/-! ## modOp -/

@[simp] theorem modOp_now (s : State) (g : Nat) (f : GrpOp → GrpOp) : (modOp s g f).now = s.now := rfl
@[simp] theorem modOp_freeCtr (s : State) (g : Nat) (f : GrpOp → GrpOp) : (modOp s g f).freeCtr = s.freeCtr := rfl
@[simp] theorem modOp_pending (s : State) (g : Nat) (f : GrpOp → GrpOp) : (modOp s g f).pending = s.pending := rfl
@[simp] theorem modOp_outbox (s : State) (g : Nat) (f : GrpOp → GrpOp) : (modOp s g f).outbox = s.outbox := rfl
@[simp] theorem modOp_regs (s : State) (g : Nat) (f : GrpOp → GrpOp) : (modOp s g f).regs = s.regs := rfl
@[simp] theorem modOp_latch (s : State) (g : Nat) (f : GrpOp → GrpOp) : (modOp s g f).latch = s.latch := rfl
@[simp] theorem modOp_heldW (s : State) (g : Nat) (f : GrpOp → GrpOp) : (modOp s g f).heldW = s.heldW := rfl
@[simp] theorem modOp_time (s : State) (g : Nat) (f : GrpOp → GrpOp) : (modOp s g f).time = s.time := rfl
@[simp] theorem modOp_commit (s : State) (g : Nat) (f : GrpOp → GrpOp) : (modOp s g f).commit = s.commit := rfl
@[simp] theorem modOp_semEnd (s : State) (g : Nat) (f : GrpOp → GrpOp) : (modOp s g f).semEnd = s.semEnd := rfl
@[simp] theorem modOp_lastFault (s : State) (g : Nat) (f : GrpOp → GrpOp) : (modOp s g f).lastFault = s.lastFault := rfl
@[simp] theorem modOp_passCut (s : State) (g : Nat) (f : GrpOp → GrpOp) : (modOp s g f).passCut = s.passCut := rfl
@[simp] theorem modOp_sw (s : State) (g : Nat) (f : GrpOp → GrpOp) : (modOp s g f).sw = s.sw := rfl
@[simp] theorem modOp_links (s : State) (g : Nat) (f : GrpOp → GrpOp) : (modOp s g f).links = s.links := rfl
@[simp] theorem modOp_lanes (s : State) (g : Nat) (f : GrpOp → GrpOp) : (modOp s g f).lanes = s.lanes := rfl
@[simp] theorem modOp_flt (s : State) (g : Nat) (f : GrpOp → GrpOp) : (modOp s g f).flt = s.flt := rfl
@[simp] theorem modOp_rst (s : State) (g : Nat) (f : GrpOp → GrpOp) : (modOp s g f).rst = s.rst := rfl
@[simp] theorem modOp_pin (s : State) (g : Nat) (f : GrpOp → GrpOp) : (modOp s g f).pin = s.pin := rfl
@[simp] theorem modOp_pwr (s : State) (g : Nat) (f : GrpOp → GrpOp) : (modOp s g f).pwr = s.pwr := rfl
@[simp] theorem modOp_gmc (s : State) (g : Nat) (f : GrpOp → GrpOp) : (modOp s g f).gmc = s.gmc := rfl
@[simp] theorem modOp_bus (s : State) (g : Nat) (f : GrpOp → GrpOp) : (modOp s g f).bus = s.bus := rfl
@[simp] theorem modOp_tel (s : State) (g : Nat) (f : GrpOp → GrpOp) : (modOp s g f).tel = s.tel := rfl
@[simp] theorem modOp_ctx (s : State) (g : Nat) (f : GrpOp → GrpOp) : (modOp s g f).ctx = s.ctx := rfl
@[simp] theorem modOp_fenceHit (s : State) (g : Nat) (f : GrpOp → GrpOp) : (modOp s g f).fenceHit = s.fenceHit := rfl
@[simp] theorem modOp_winOpen (s : State) (g : Nat) (f : GrpOp → GrpOp) : (modOp s g f).winOpen = s.winOpen := rfl
@[simp] theorem modOp_resend (s : State) (g : Nat) (f : GrpOp → GrpOp) : (modOp s g f).resend = s.resend := rfl
@[simp] theorem modOp_grpRr (s : State) (g : Nat) (f : GrpOp → GrpOp) : (modOp s g f).grpRr = s.grpRr := rfl
@[simp] theorem modOp_qstore (s : State) (g : Nat) (f : GrpOp → GrpOp) : (modOp s g f).qstore = s.qstore := rfl
@[simp] theorem modOp_pumps (s : State) (g : Nat) (f : GrpOp → GrpOp) : (modOp s g f).pumps = s.pumps := rfl
@[simp] theorem modOp_coverFrom (s : State) (g : Nat) (f : GrpOp → GrpOp) : (modOp s g f).coverFrom = s.coverFrom := rfl
@[simp] theorem modOp_pumpHold (s : State) (g : Nat) (f : GrpOp → GrpOp) : (modOp s g f).pumpHold = s.pumpHold := rfl
@[simp] theorem modOp_host (s : State) (g : Nat) (f : GrpOp → GrpOp) : (modOp s g f).host = s.host := rfl
@[simp] theorem modOp_mem (s : State) (g : Nat) (f : GrpOp → GrpOp) : (modOp s g f).mem = s.mem := rfl
@[simp] theorem modOp_well (s : State) (g : Nat) (f : GrpOp → GrpOp) : (modOp s g f).well = s.well := rfl
@[simp] theorem modOp_rd (s : State) (g : Nat) (f : GrpOp → GrpOp) (h : Field) (j : Nat) : (modOp s g f).rd h j = s.rd h j := rfl
@[simp] theorem modOp_rdSw (s : State) (g : Nat) (f : GrpOp → GrpOp) (h : Field) (j : Nat) : (modOp s g f).rdSw h j = s.rdSw h j := rfl

/-! ## modPump -/

@[simp] theorem modPump_now (s : State) (n : Nat) (f : Pump → Pump) : (modPump s n f).now = s.now := rfl
@[simp] theorem modPump_freeCtr (s : State) (n : Nat) (f : Pump → Pump) : (modPump s n f).freeCtr = s.freeCtr := rfl
@[simp] theorem modPump_pending (s : State) (n : Nat) (f : Pump → Pump) : (modPump s n f).pending = s.pending := rfl
@[simp] theorem modPump_outbox (s : State) (n : Nat) (f : Pump → Pump) : (modPump s n f).outbox = s.outbox := rfl
@[simp] theorem modPump_regs (s : State) (n : Nat) (f : Pump → Pump) : (modPump s n f).regs = s.regs := rfl
@[simp] theorem modPump_latch (s : State) (n : Nat) (f : Pump → Pump) : (modPump s n f).latch = s.latch := rfl
@[simp] theorem modPump_heldW (s : State) (n : Nat) (f : Pump → Pump) : (modPump s n f).heldW = s.heldW := rfl
@[simp] theorem modPump_time (s : State) (n : Nat) (f : Pump → Pump) : (modPump s n f).time = s.time := rfl
@[simp] theorem modPump_commit (s : State) (n : Nat) (f : Pump → Pump) : (modPump s n f).commit = s.commit := rfl
@[simp] theorem modPump_semEnd (s : State) (n : Nat) (f : Pump → Pump) : (modPump s n f).semEnd = s.semEnd := rfl
@[simp] theorem modPump_lastFault (s : State) (n : Nat) (f : Pump → Pump) : (modPump s n f).lastFault = s.lastFault := rfl
@[simp] theorem modPump_passCut (s : State) (n : Nat) (f : Pump → Pump) : (modPump s n f).passCut = s.passCut := rfl
@[simp] theorem modPump_sw (s : State) (n : Nat) (f : Pump → Pump) : (modPump s n f).sw = s.sw := rfl
@[simp] theorem modPump_links (s : State) (n : Nat) (f : Pump → Pump) : (modPump s n f).links = s.links := rfl
@[simp] theorem modPump_lanes (s : State) (n : Nat) (f : Pump → Pump) : (modPump s n f).lanes = s.lanes := rfl
@[simp] theorem modPump_flt (s : State) (n : Nat) (f : Pump → Pump) : (modPump s n f).flt = s.flt := rfl
@[simp] theorem modPump_rst (s : State) (n : Nat) (f : Pump → Pump) : (modPump s n f).rst = s.rst := rfl
@[simp] theorem modPump_pin (s : State) (n : Nat) (f : Pump → Pump) : (modPump s n f).pin = s.pin := rfl
@[simp] theorem modPump_pwr (s : State) (n : Nat) (f : Pump → Pump) : (modPump s n f).pwr = s.pwr := rfl
@[simp] theorem modPump_gmc (s : State) (n : Nat) (f : Pump → Pump) : (modPump s n f).gmc = s.gmc := rfl
@[simp] theorem modPump_bus (s : State) (n : Nat) (f : Pump → Pump) : (modPump s n f).bus = s.bus := rfl
@[simp] theorem modPump_tel (s : State) (n : Nat) (f : Pump → Pump) : (modPump s n f).tel = s.tel := rfl
@[simp] theorem modPump_ctx (s : State) (n : Nat) (f : Pump → Pump) : (modPump s n f).ctx = s.ctx := rfl
@[simp] theorem modPump_fenceHit (s : State) (n : Nat) (f : Pump → Pump) : (modPump s n f).fenceHit = s.fenceHit := rfl
@[simp] theorem modPump_winOpen (s : State) (n : Nat) (f : Pump → Pump) : (modPump s n f).winOpen = s.winOpen := rfl
@[simp] theorem modPump_resend (s : State) (n : Nat) (f : Pump → Pump) : (modPump s n f).resend = s.resend := rfl
@[simp] theorem modPump_grps (s : State) (n : Nat) (f : Pump → Pump) : (modPump s n f).grps = s.grps := rfl
@[simp] theorem modPump_grpRr (s : State) (n : Nat) (f : Pump → Pump) : (modPump s n f).grpRr = s.grpRr := rfl
@[simp] theorem modPump_qstore (s : State) (n : Nat) (f : Pump → Pump) : (modPump s n f).qstore = s.qstore := rfl
@[simp] theorem modPump_pumps (s : State) (n : Nat) (f : Pump → Pump) : (modPump s n f).pumps = mset pumpInit s.pumps n (f (getPump s n)) := rfl
@[simp] theorem modPump_coverFrom (s : State) (n : Nat) (f : Pump → Pump) : (modPump s n f).coverFrom = s.coverFrom := rfl
@[simp] theorem modPump_pumpHold (s : State) (n : Nat) (f : Pump → Pump) : (modPump s n f).pumpHold = s.pumpHold := rfl
@[simp] theorem modPump_host (s : State) (n : Nat) (f : Pump → Pump) : (modPump s n f).host = s.host := rfl
@[simp] theorem modPump_mem (s : State) (n : Nat) (f : Pump → Pump) : (modPump s n f).mem = s.mem := rfl
@[simp] theorem modPump_well (s : State) (n : Nat) (f : Pump → Pump) : (modPump s n f).well = s.well := rfl
@[simp] theorem modPump_rd (s : State) (n : Nat) (f : Pump → Pump) (h : Field) (j : Nat) : (modPump s n f).rd h j = s.rd h j := rfl
@[simp] theorem modPump_rdSw (s : State) (n : Nat) (f : Pump → Pump) (h : Field) (j : Nat) : (modPump s n f).rdSw h j = s.rdSw h j := rfl

/-! ## modWell -/

@[simp] theorem modWell_now (s : State) (f : WellSt → WellSt) : (modWell s f).now = s.now := rfl
@[simp] theorem modWell_freeCtr (s : State) (f : WellSt → WellSt) : (modWell s f).freeCtr = s.freeCtr := rfl
@[simp] theorem modWell_pending (s : State) (f : WellSt → WellSt) : (modWell s f).pending = s.pending := rfl
@[simp] theorem modWell_outbox (s : State) (f : WellSt → WellSt) : (modWell s f).outbox = s.outbox := rfl
@[simp] theorem modWell_regs (s : State) (f : WellSt → WellSt) : (modWell s f).regs = s.regs := rfl
@[simp] theorem modWell_latch (s : State) (f : WellSt → WellSt) : (modWell s f).latch = s.latch := rfl
@[simp] theorem modWell_heldW (s : State) (f : WellSt → WellSt) : (modWell s f).heldW = s.heldW := rfl
@[simp] theorem modWell_time (s : State) (f : WellSt → WellSt) : (modWell s f).time = s.time := rfl
@[simp] theorem modWell_commit (s : State) (f : WellSt → WellSt) : (modWell s f).commit = s.commit := rfl
@[simp] theorem modWell_semEnd (s : State) (f : WellSt → WellSt) : (modWell s f).semEnd = s.semEnd := rfl
@[simp] theorem modWell_lastFault (s : State) (f : WellSt → WellSt) : (modWell s f).lastFault = s.lastFault := rfl
@[simp] theorem modWell_passCut (s : State) (f : WellSt → WellSt) : (modWell s f).passCut = s.passCut := rfl
@[simp] theorem modWell_sw (s : State) (f : WellSt → WellSt) : (modWell s f).sw = s.sw := rfl
@[simp] theorem modWell_links (s : State) (f : WellSt → WellSt) : (modWell s f).links = s.links := rfl
@[simp] theorem modWell_lanes (s : State) (f : WellSt → WellSt) : (modWell s f).lanes = s.lanes := rfl
@[simp] theorem modWell_flt (s : State) (f : WellSt → WellSt) : (modWell s f).flt = s.flt := rfl
@[simp] theorem modWell_rst (s : State) (f : WellSt → WellSt) : (modWell s f).rst = s.rst := rfl
@[simp] theorem modWell_pin (s : State) (f : WellSt → WellSt) : (modWell s f).pin = s.pin := rfl
@[simp] theorem modWell_pwr (s : State) (f : WellSt → WellSt) : (modWell s f).pwr = s.pwr := rfl
@[simp] theorem modWell_gmc (s : State) (f : WellSt → WellSt) : (modWell s f).gmc = s.gmc := rfl
@[simp] theorem modWell_bus (s : State) (f : WellSt → WellSt) : (modWell s f).bus = s.bus := rfl
@[simp] theorem modWell_tel (s : State) (f : WellSt → WellSt) : (modWell s f).tel = s.tel := rfl
@[simp] theorem modWell_ctx (s : State) (f : WellSt → WellSt) : (modWell s f).ctx = s.ctx := rfl
@[simp] theorem modWell_fenceHit (s : State) (f : WellSt → WellSt) : (modWell s f).fenceHit = s.fenceHit := rfl
@[simp] theorem modWell_winOpen (s : State) (f : WellSt → WellSt) : (modWell s f).winOpen = s.winOpen := rfl
@[simp] theorem modWell_resend (s : State) (f : WellSt → WellSt) : (modWell s f).resend = s.resend := rfl
@[simp] theorem modWell_grps (s : State) (f : WellSt → WellSt) : (modWell s f).grps = s.grps := rfl
@[simp] theorem modWell_grpRr (s : State) (f : WellSt → WellSt) : (modWell s f).grpRr = s.grpRr := rfl
@[simp] theorem modWell_qstore (s : State) (f : WellSt → WellSt) : (modWell s f).qstore = s.qstore := rfl
@[simp] theorem modWell_pumps (s : State) (f : WellSt → WellSt) : (modWell s f).pumps = s.pumps := rfl
@[simp] theorem modWell_coverFrom (s : State) (f : WellSt → WellSt) : (modWell s f).coverFrom = s.coverFrom := rfl
@[simp] theorem modWell_pumpHold (s : State) (f : WellSt → WellSt) : (modWell s f).pumpHold = s.pumpHold := rfl
@[simp] theorem modWell_host (s : State) (f : WellSt → WellSt) : (modWell s f).host = s.host := rfl
@[simp] theorem modWell_mem (s : State) (f : WellSt → WellSt) : (modWell s f).mem = s.mem := rfl
@[simp] theorem modWell_well (s : State) (f : WellSt → WellSt) : (modWell s f).well = f s.well := rfl
@[simp] theorem modWell_rd (s : State) (f : WellSt → WellSt) (h : Field) (j : Nat) : (modWell s f).rd h j = s.rd h j := rfl
@[simp] theorem modWell_rdSw (s : State) (f : WellSt → WellSt) (h : Field) (j : Nat) : (modWell s f).rdSw h j = s.rdSw h j := rfl

/-! ## memPut -/

@[simp] theorem memPut_now (s : State) (a : Nat) (b : Byte) : (memPut s a b).now = s.now := rfl
@[simp] theorem memPut_freeCtr (s : State) (a : Nat) (b : Byte) : (memPut s a b).freeCtr = s.freeCtr := rfl
@[simp] theorem memPut_pending (s : State) (a : Nat) (b : Byte) : (memPut s a b).pending = s.pending := rfl
@[simp] theorem memPut_outbox (s : State) (a : Nat) (b : Byte) : (memPut s a b).outbox = s.outbox := rfl
@[simp] theorem memPut_regs (s : State) (a : Nat) (b : Byte) : (memPut s a b).regs = s.regs := rfl
@[simp] theorem memPut_latch (s : State) (a : Nat) (b : Byte) : (memPut s a b).latch = s.latch := rfl
@[simp] theorem memPut_heldW (s : State) (a : Nat) (b : Byte) : (memPut s a b).heldW = s.heldW := rfl
@[simp] theorem memPut_time (s : State) (a : Nat) (b : Byte) : (memPut s a b).time = s.time := rfl
@[simp] theorem memPut_commit (s : State) (a : Nat) (b : Byte) : (memPut s a b).commit = s.commit := rfl
@[simp] theorem memPut_semEnd (s : State) (a : Nat) (b : Byte) : (memPut s a b).semEnd = s.semEnd := rfl
@[simp] theorem memPut_lastFault (s : State) (a : Nat) (b : Byte) : (memPut s a b).lastFault = s.lastFault := rfl
@[simp] theorem memPut_passCut (s : State) (a : Nat) (b : Byte) : (memPut s a b).passCut = s.passCut := rfl
@[simp] theorem memPut_sw (s : State) (a : Nat) (b : Byte) : (memPut s a b).sw = s.sw := rfl
@[simp] theorem memPut_links (s : State) (a : Nat) (b : Byte) : (memPut s a b).links = s.links := rfl
@[simp] theorem memPut_lanes (s : State) (a : Nat) (b : Byte) : (memPut s a b).lanes = s.lanes := rfl
@[simp] theorem memPut_flt (s : State) (a : Nat) (b : Byte) : (memPut s a b).flt = s.flt := rfl
@[simp] theorem memPut_rst (s : State) (a : Nat) (b : Byte) : (memPut s a b).rst = s.rst := rfl
@[simp] theorem memPut_pin (s : State) (a : Nat) (b : Byte) : (memPut s a b).pin = s.pin := rfl
@[simp] theorem memPut_pwr (s : State) (a : Nat) (b : Byte) : (memPut s a b).pwr = s.pwr := rfl
@[simp] theorem memPut_gmc (s : State) (a : Nat) (b : Byte) : (memPut s a b).gmc = s.gmc := rfl
@[simp] theorem memPut_bus (s : State) (a : Nat) (b : Byte) : (memPut s a b).bus = s.bus := rfl
@[simp] theorem memPut_tel (s : State) (a : Nat) (b : Byte) : (memPut s a b).tel = s.tel := rfl
@[simp] theorem memPut_ctx (s : State) (a : Nat) (b : Byte) : (memPut s a b).ctx = s.ctx := rfl
@[simp] theorem memPut_fenceHit (s : State) (a : Nat) (b : Byte) : (memPut s a b).fenceHit = s.fenceHit := rfl
@[simp] theorem memPut_winOpen (s : State) (a : Nat) (b : Byte) : (memPut s a b).winOpen = s.winOpen := rfl
@[simp] theorem memPut_resend (s : State) (a : Nat) (b : Byte) : (memPut s a b).resend = s.resend := rfl
@[simp] theorem memPut_grps (s : State) (a : Nat) (b : Byte) : (memPut s a b).grps = s.grps := rfl
@[simp] theorem memPut_grpRr (s : State) (a : Nat) (b : Byte) : (memPut s a b).grpRr = s.grpRr := rfl
@[simp] theorem memPut_qstore (s : State) (a : Nat) (b : Byte) : (memPut s a b).qstore = s.qstore := rfl
@[simp] theorem memPut_pumps (s : State) (a : Nat) (b : Byte) : (memPut s a b).pumps = s.pumps := rfl
@[simp] theorem memPut_coverFrom (s : State) (a : Nat) (b : Byte) : (memPut s a b).coverFrom = s.coverFrom := rfl
@[simp] theorem memPut_pumpHold (s : State) (a : Nat) (b : Byte) : (memPut s a b).pumpHold = s.pumpHold := rfl
@[simp] theorem memPut_host (s : State) (a : Nat) (b : Byte) : (memPut s a b).host = s.host := rfl
@[simp] theorem memPut_mem (s : State) (a : Nat) (b : Byte) : (memPut s a b).mem = mset 0#8 s.mem a b := rfl
@[simp] theorem memPut_well (s : State) (a : Nat) (b : Byte) : (memPut s a b).well = s.well := rfl
@[simp] theorem memPut_rd (s : State) (a : Nat) (b : Byte) (h : Field) (j : Nat) : (memPut s a b).rd h j = s.rd h j := rfl
@[simp] theorem memPut_rdSw (s : State) (a : Nat) (b : Byte) (h : Field) (j : Nat) : (memPut s a b).rdSw h j = s.rdSw h j := rfl

end Sys2Proof.Machine
end

