-- ==== Sys2Proof/Laws/Memory.lean ====
section
/-! SUPPORT. The pool's memory: a byte reads back what was put, every other byte reads as before, storing bytes changes
nothing but the memory, and every operation that changes the memory keeps its canonical form. -/

namespace Sys2Proof.Machine

open Sys2Proof

/-! ## One byte and a run of bytes -/

theorem memByte_memPut_self (s : State) (a : Nat) (b : Byte) : memByte (memPut s a b) a = b :=
  mgetD_mset_self _ _ _ _

theorem memByte_memPut_ne (s : State) {a c : Nat} (b : Byte) (h : c ≠ a) : memByte (memPut s a b) c = memByte s c :=
  mgetD_mset_ne _ _ _ _ h

/-- A run of stored bytes reads back, and every byte outside it reads as before. -/
theorem memByte_memWrite (d : List Byte) (s : State) (p a : Nat) :
    memByte (memWrite s p d) a = if p ≤ a ∧ a < p + d.length then d.getD (a - p) 0 else memByte s a := by
  induction d generalizing s p with
  | nil => rw [if_neg (by simp only [List.length_nil]; omega)]; rfl
  | cons b bs ih =>
    rw [memWrite, ih]
    by_cases h : a = p
    · subst h
      rw [if_neg (by omega), if_pos (by simp only [List.length_cons]; omega), memByte_memPut_self]; simp
    · by_cases h2 : p + 1 ≤ a ∧ a < p + 1 + bs.length
      · obtain ⟨k, rfl⟩ : ∃ k, a = p + 1 + k := ⟨a - p - 1, by omega⟩
        rw [if_pos h2, if_pos (by simp only [List.length_cons]; omega), show p + 1 + k - p = k + 1 by omega,
          show p + 1 + k - (p + 1) = k by omega]; simp
      · rw [if_neg h2, if_neg (by simp only [List.length_cons]; omega), memByte_memPut_ne _ _ h]

/-- Storing bytes changes the memory and nothing else. -/
theorem memWrite_frame (d : List Byte) (s : State) (p : Nat) :
    memWrite s p d = { s with mem := (memWrite s p d).mem } := by
  induction d generalizing s p with
  | nil => rfl
  | cons b bs ih => rw [memWrite, ih]; rfl

@[simp] theorem memWrite_regs (s : State) (p : Nat) (d : List Byte) : (memWrite s p d).regs = s.regs := by
  rw [memWrite_frame]

@[simp] theorem memWrite_well (s : State) (p : Nat) (d : List Byte) : (memWrite s p d).well = s.well := by
  rw [memWrite_frame]

/-! ## The canonical form -/

theorem memPut_wf {s : State} (a : Nat) (b : Byte) (h : Memory.wf s.mem = true) : Memory.wf (memPut s a b).mem = true :=
  mset_wf a b h

theorem memWrite_wf (d : List Byte) {s : State} (p : Nat) (h : Memory.wf s.mem = true) :
    Memory.wf (memWrite s p d).mem = true := by
  induction d generalizing s p with
  | nil => exact h
  | cons b bs ih => exact ih (p + 1) (memPut_wf p b h)

theorem writeLine_wf {s : State} (p : Nat) (d : List Byte) (h : Memory.wf s.mem = true) :
    Memory.wf (writeLine s p d).mem = true := by
  have h1 : Memory.wf (if devOut s (devOf s p) then s else memWrite s p d).mem = true := by
    split
    · exact h
    · exact memWrite_wf d p h
  simp only [writeLine]
  split
  · exact h1
  · split
    · exact h1
    · split
      · exact memWrite_wf d _ h1
      · exact memWrite_wf d _ h1

theorem writeLines_wf (ps : List Nat) (d : List Byte) {s : State} (h : Memory.wf s.mem = true) :
    Memory.wf (writeLines ps d s).mem = true := by
  induction ps generalizing s d with
  | nil => exact h
  | cons p ps ih => exact ih (d.drop 64) (writeLine_wf p (d.take 64) h)

@[simp] theorem corrected_mem (s : State) (p : Nat) (ev : LineEv) : (corrected s p ev).mem = s.mem := by
  unfold corrected; split <;> simp

/-- Dropping bytes keeps the form. -/
theorem filter_wf {m : List (Nat × Byte)} (q : Nat × Byte → Bool) (h : Memory.wf m = true) : Memory.wf (m.filter q) = true := by
  unfold Memory.wf at *
  rw [mapWf_iff] at *
  exact ⟨h.1.filter _, fun e he => h.2 e (List.mem_of_mem_filter he)⟩

theorem zeroDev_wf {s : State} (d : Nat) (h : Memory.wf s.mem = true) : Memory.wf (zeroDev s d).mem = true := filter_wf _ h

theorem zeroTop_wf {s : State} (h : Memory.wf s.mem = true) : Memory.wf (zeroTop s).mem = true := filter_wf _ h

theorem copyPrefix_wf {s : State} (m n : Nat) (h : Memory.wf s.mem = true) : Memory.wf (copyPrefix s m n).mem = true := by
  have key : ∀ (l : List (Nat × Byte)) (g : Nat → Nat) (k : List (Nat × Byte)), Memory.wf k = true →
      Memory.wf (l.foldl (fun mem e => mset 0#8 mem (g e.1) e.2) k) = true := by
    intro l g
    induction l with
    | nil => intro k hk; exact hk
    | cons e l ih => intro k hk; exact ih _ (mset_wf (g e.1) e.2 hk)
  exact key _ _ _ (filter_wf _ h)

theorem degrade_wf {s : State} (m : Nat) (h : Memory.wf s.mem = true) : Memory.wf (degrade s m).mem = true := by
  simp only [degrade, report_mem, wr_mem]
  split
  · simpa using copyPrefix_wf (s := s.tick) m _ h
  · exact h

theorem takeOut_wf {s : State} (d : Nat) (h : Memory.wf s.mem = true) : Memory.wf (takeOut s d).mem = true := by
  have key : ∀ (l : List Nat) (q : State → Nat → Bool) (t : State), Memory.wf t.mem = true →
      Memory.wf (l.foldl (fun t m => if q t m then degrade t m else t) t).mem = true := by
    intro l q
    induction l with
    | nil => intro t ht; exact ht
    | cons m l ih =>
      intro t ht
      refine ih _ ?_
      simp only
      split
      · exact degrade_wf m ht
      · exact ht
  unfold takeOut
  split
  · exact h
  · generalize List.range 16 = l
    refine key l (fun t m => (winState t m == 1 || winState t m == 2) && (winDevs t m).contains d) _ ?_
    split <;> simpa using h

theorem uncorrectable_wf {s : State} (d : Nat) (h : Memory.wf s.mem = true) : Memory.wf (uncorrectable s d).mem = true := by
  simp only [uncorrectable]
  split
  · exact takeOut_wf d (by simpa using h)
  · simpa using h

/-- A read of a line writes memory only where it heals the primary from the copy (09 R252). -/
theorem readLine_wf {s : State} (evs : List LineEv) (p : Nat) (h : Memory.wf s.mem = true) :
    Memory.wf (readLine s evs p).2.mem = true := by
  have h1 : Memory.wf (if devOut s (devOf s p) = true then s else uncorrectable s (devOf s p)).mem = true := by
    split
    · exact h
    · exact uncorrectable_wf _ h
  unfold readLine
  simp only
  split
  · split
    · simp only [corrected_mem]; exact h
    · simp only [corrected_mem, report_mem]; exact h
  · generalize (if devOut s (devOf s p) = true then s else uncorrectable s (devOf s p)) = t at h1 ⊢
    split
    · split
      · exact h1
      · simp only [report_mem]; exact h1
    · split
      · simp only [report_mem, corrected_mem]
        split
        · exact h1
        · exact memWrite_wf _ _ h1
      · simp only [report_mem]; exact uncorrectable_wf _ h1

theorem coldReset_wf (s : State) : Memory.wf (coldReset s).mem = true := rfl

theorem reset_wf : Memory.wf State.reset.mem = true := rfl

end Sys2Proof.Machine
end

