-- ==== Sys2Proof/Laws/Rows.lean ====
section
/-! SUPPORT. What the shared parts of the rows do, once each: the guards of events, the guard of register writes, the form that
every meaning has, what `finish` and `advance` leave alone. -/

namespace Sys2Proof.Machine

open Sys2Proof

/-! ## Guards of events -/

theorem whenOn_run {s : State} {f : State → State} (h : chipOn s = true) : whenOn s f = f s := by simp [whenOn, h]

theorem whenOn_off {s : State} {f : State → State} (h : chipOn s = false) : whenOn s f = s := by simp [whenOn, h]

theorem whenLive_run {s : State} {f : State → State} (h : liveRuns s = true) : whenLive s f = f s := by
  unfold liveRuns at h; simp [whenLive, h]

theorem whenCore_run {s : State} {f : State → State} (h : coreRuns s = true) : whenCore s f = f s := by
  unfold coreRuns at h; simp only [whenCore, h, if_true]

theorem whenLink_run {s : State} {f : State → State} (h : linkRuns s = true) : whenLink s f = f s := by
  unfold linkRuns at h; simp only [whenLink, h, if_true]

theorem liveRuns_on {s : State} (h : liveRuns s = true) : chipOn s = true := by simp [liveRuns] at h; exact h.1

theorem coreRuns_live {s : State} (h : coreRuns s = true) : liveRuns s = true := by
  simp [coreRuns] at h; simp [liveRuns, h]

theorem coreRuns_on {s : State} (h : coreRuns s = true) : chipOn s = true := liveRuns_on (coreRuns_live h)

theorem linkRuns_on {s : State} (h : linkRuns s = true) : chipOn s = true := by simp [linkRuns] at h; exact h.1.1

theorem whenOn_safe {s : State} {f : State → State} (h : chipOn s = true) : whenOn s f = f s := whenOn_run h

theorem whenLive_safe {s : State} {f : State → State} (h : isSafe s = true) : whenLive s f = s := by simp [whenLive, h]

theorem whenCore_safe {s : State} {f : State → State} (h : isSafe s = true) : whenCore s f = s := by simp [whenCore, h]

theorem whenLink_safe {s : State} {f : State → State} (h : isSafe s = true) : whenLink s f = s := by simp [whenLink, h]

theorem atStation_run {s : State} {p : StPkt} {op : Nat} {f : State → State} (h : stationHas s p op = true) :
    atStation s p op f = f s := by
  simp only [stationHas, Bool.and_eq_true, decide_eq_true_eq] at h
  simp [atStation, whenCore_run h.1.1.1, h.1.2, h.2]

theorem stationHas_arr {s : State} {p : StPkt} {op : Nat} (h : stationHas s p op = true) : p.arr ≤ 161 := by
  simp only [stationHas, Bool.and_eq_true, decide_eq_true_eq] at h; exact h.1.1.2

/-! ## Register writes -/

theorem takesWrite_ok {s : State} {m : Master} {r : RegName} {i w : Nat} (h : takesWrite s m r i w = true) : m.ok = true := by
  simp only [takesWrite, Bool.and_eq_true] at h; exact h.1.1.1.1

/-- A write that the arbiter executes at once runs its effect on the counted state. -/
theorem rowWrite_taken {s : State} {m : Master} {r : RegName} {i w val be : Nat} {f : State → State}
    (h : takesWrite s m r i w = true) : rowWrite s m r i w val be f = f (wrote s m r i w) := by
  simp only [takesWrite, Bool.and_eq_true, decide_eq_true_eq, Bool.not_eq_true'] at h
  obtain ⟨⟨⟨⟨-, h1⟩, h2⟩, h3⟩, h4⟩ := h
  have n2 : ¬ i ≥ regCount r := by omega
  have n3 : ¬ w ≥ (regInfo r).words := by omega
  simp [rowWrite, h1, n2, n3, h4, wrote]

/-- A go bit that the arbiter takes. -/
theorem rowBit_taken {s : State} {m : Master} {f : Field} {r : RegName} {i w : Nat} {tr : Bool} {eff : State → State}
    (hr : f.reg = r) (hw : f.word = w) (h : takesWrite s m r i w = true) : rowBit s m f i tr eff = eff (wrote s m r i w) := by
  subst hr; subst hw; simp only [rowBit]; exact rowWrite_taken h

/-- In the safe state no register write takes effect (15 R425). -/
theorem rowWrite_safe {s : State} {m : Master} {r : RegName} {i w val be : Nat} {f : State → State} (h : isSafe s = true) :
    rowWrite s m r i w val be f = s := by
  simp [rowWrite, mayWrite, h]

theorem rowBit_safe {s : State} {m : Master} {f : Field} {i : Nat} {tr : Bool} {eff : State → State} (h : isSafe s = true) :
    rowBit s m f i tr eff = s := by simp only [rowBit]; exact rowWrite_safe h

/-! ## The form of a meaning -/

theorem atTime_next (s : State) (at_ : Nat) (ok : Bool) (f : State → State) :
    atTime s at_ ok f = .next (if ok then finish (s.advance at_) (f (s.advance at_)) else s) := rfl

theorem atNow_next (s : State) (ok : Bool) (f : State → State) : atNow s ok f = .next (if ok then finish s (f s) else s) := rfl

theorem atTime_run {s : State} {at_ : Nat} {f : State → State} :
    atTime s at_ true f = .next (finish (s.advance at_) (f (s.advance at_))) := rfl

theorem atNow_run {s : State} {f : State → State} : atNow s true f = .next (finish s (f s)) := rfl

end Sys2Proof.Machine
end

