-- ==== Sys2Proof/Laws/Signal.lean ====
section
/-! SUPPORT. What the line coding of 11 R301 gives back: the receiver's recovery undoes the precoder, and each pair of bits comes
back from its Gray value. -/

namespace Sys2Proof.Machine

open Sys2Proof

/-- Recovery from the levels of the precoder gives the values that went in, whatever level came before (11 R301). -/
theorem recover_precode (xs : List Nat) : ∀ y, (∀ x ∈ xs, x < 4) → recover y (precode y xs) = xs := by
  induction xs with
  | nil => intro y _; rfl
  | cons x xs ih =>
    intro y h
    have hx : x < 4 := h x (by simp)
    have h1 : ((x + 4 - y % 4) % 4 + y) % 4 = x := by omega
    simp only [precode, recover, h1, ih _ fun z hz => h z (by simp [hz])]

/-- A pair of bits comes back from its Gray value (11 R301). -/
theorem grayBits_grayOf (a b : Bool) : grayBits (grayOf a b) = [a, b] := by cases a <;> cases b <;> rfl

/-- Every Gray value is one of the four levels. -/
theorem grayOf_lt (a b : Bool) : grayOf a b < 4 := by cases a <;> cases b <;> decide

/-- Every level that the precoder sends is one of the four. -/
theorem precode_lt (xs : List Nat) : ∀ y, ∀ z ∈ precode y xs, z < 4 := by
  induction xs with
  | nil => intro y z hz; cases hz
  | cons x xs ih =>
    intro y z hz
    simp only [precode, List.mem_cons] at hz
    obtain rfl | hz := hz
    · omega
    · exact ih _ z hz

end Sys2Proof.Machine
end

