-- ==== Sys2Proof/Tests/Slice0.lean ====
section
/-! SUPPORT. The model's own tests: ill-formed commands that WellFormed refuses, a few effects on fixed values, and for every
obligation that has hypotheses one theorem that shows, for each of its clauses, a state and operands that meet all of that
clause's hypotheses together. -/

set_option maxRecDepth 100000
set_option Elab.async false

namespace Sys2Proof.Tests

open Sys2Proof Sys2Proof.Machine

/-! ## Small states -/

/-- The block after reset, with some fields set. -/
def wrs (s : State) (l : List (Field × Nat × Nat)) : State := l.foldl (fun s e => s.wr e.1 e.2.1 e.2.2) s

/-- The block right after reset. -/
def r : State := State.reset

/-- One thousand seconds later, so that every time limit counted from 0 has passed. -/
def late (s : State) : State := { s with now := 1000000000000, time := { s.time with count := 1000000000000 } }

/-- Gesta in RUNNING, core 0 ACTIVE and core 1 STANDBY. -/
def gesta : State := wrs r [(F.GMC_STAT_STAGE, 0, 8), (F.GMC_STAT_ROLE0, 0, 3), (F.GMC_STAT_ROLE1, 0, 2)]

/-- Gesta with an owner record that allows the console's service commands, the chip in service state, endpoint IDs given. -/
def owned : State := { gesta with
  gmc := { gesta.gmc with owner := some ⟨1, [], List.replicate 52 0 ++ [2, 0, 0, 0]⟩, service := true }
  bus := { gesta.bus with eids := [(1, 9), (2, 9)], i3cAddr := some 8 } }

/-- The rack chip of plane 1 at row 0 and column 0 of two by two, with its host endpoint. -/
def rack (s : State) : State :=
  wrs s [(F.GLB_PLACE_SELF_EID, 0, 0x21), (F.GLB_PLACE_ROWS, 0, 2), (F.GLB_PLACE_COLS, 0, 2), (F.GLB_HOST_PLACE_HOST_EP_EN, 0, 1)]

/-- A link in a stage of bring-up. -/
def inStage (s : State) (lp k : Nat) : State :=
  wrs s [(F.PRT_LSTAT_STAGE, lp, k), (F.PRT_LSTAT_TXMASK, lp, 15), (F.PRT_LSTAT_RXMASK, lp, 15)]

/-- The same with a link layer of its own. -/
def withLink (s : State) (lp k : Nat) (f : Link → Link) : State := modLink (inStage s lp k) lp f

/-- A packet at the station. -/
def pk (op seq len opw0 opw1 opw2 arr : Nat) (data : List Byte) : StPkt := ⟨mkHdr op 0 0 0 len 0 seq opw0 opw1 opw2, data, arr⟩

/-- A packet in the switch core with one output. -/
def swPkt (vc lp : Nat) : PktRec :=
  { pid := 1, hdr := mkHdr 0x50 0x10 vc 0 0 0 0 0 0 0, arr := 4, src := 2, bank := 0,
    tgts := [⟨lp, lp, none, none, 0, false, false, none, false⟩], tHead := 0, tFab := 0, rxDone := true, data := [], emit := none, res := none, fenceHeld := false }

/-- A cell of it that waits for stage one. -/
def waitCell (vc : Nat) : WaitCell := ⟨1, 2, 4, vc, false, ⟨cellHdr 3 vc 1 0, List.replicate 16 0⟩⟩

/-- A cell of it that stage one has admitted. -/
def coreCell (seq : Nat) (loc : Loc) : CellRec :=
  { pid := 1, tgt := 6, vc := 3, src := 2, seq := seq, loc := loc, cls := 0, bad := false, rel := false, tArr := 0,
    cidx := 0 }

/-- A group of two members on logical ports 0 and 2, rung for, ACTIVE, with links up. -/
def group (s : State) : State :=
  wrs (rack (inStage (inStage s 0 10) 2 10))
    [(F.GRP_ENT_STATE, 5, 2), (F.GRP_ENT_MODE, 5, 1), (F.GRP_ENT_PMASK, 5, 2), (F.GRP_ENT_HOME, 5, 1), (F.GRP_ENT_NRANK, 5, 2),
     (F.GRP_ENT_NLOCAL, 5, 2), (F.GRP_ENT_WEIGHT, 5, 1), (F.GRP_ENT_QLOG, 5, 4), (F.GRP_RANK_A_VALID, 0, 1),
     (F.GRP_RANK_A_VALID, 1, 1), (F.GRP_RANK_A_RANK, 1, 1), (F.GRP_RANK_A_LP, 1, 2)]

/-- A descriptor: the sum of 64 FP32 elements. -/
def desc : List Word := [0, BitVec.ofNat 32 0x00108005, 0, 64, 0, 0, 0, 0, 0, 0, 0, 0, 0, 0, 0, 0]

/-- A chunk of it in a stage. -/
def chunk (stage : Nat) : Chunk :=
  { idx := 0, pump := 0, lines := 4, first := 0, elems := 64, want := [(.member 0, 256), (.member 2, 256)], got := [], stage := stage,
    sweeper := 0, retried := false, failedOn := [], partialUp := [], down := [], sentUp := [.rowUp], out := [], due := [], flags := 0 }

/-- The operation with some chunks. -/
def oper (cs : List Chunk) : GrpOp :=
  { seq := 0, d := desc, ep := 0, gto := 1, weight := 1, latency := false, np := 1, pj := 0, ec := 64, nc := 1, wave := 1,
    ranks := [(0, .member 0), (1, .member 2)], nextWave := 0, chunks := cs, done := [], upReq := [(.rowUp, 0)], upGot := [], flags := 0,
    hop := none, atStart := some 0 }

/-- A group running it. -/
def running (cs : List Chunk) : State := modGrp (group (late r)) 5 fun x => { x with op := some (oper cs), timer := some 0 }

/-- One room: 8 GiB stripes, 1 GiB snapshots, room 0 of group 0 owned by slot 0, on eight channels. -/
def roomed : State := late (wrs r [(F.WEL_FAR_CFG_NCH, 0, 8), (F.WEL_FAR_CFG_DIMM_GIB, 0, 256), (F.RMS_CFG_EN, 0, 1), (F.RMS_CFG_SNAP_G, 0, 1),
  (F.RMS_CFG_STRIPE_G, 0, 8), (F.RMS_ROOM_EN, 0, 1)])

/-- An operation of the host's ring 0 with sixteen descriptor words. -/
def hop (d : List Word) : HostOp := ⟨0, d ++ List.replicate (16 - d.length) 0, 0, 0, 0, 0, 0, false⟩

/-- The block with it in flight. -/
def hosted (d : List Word) : State := { rack r with host := { r.host with ops := [(0, hop d)], nextOp := 1 } }

/-- A boot that finds everything in order. -/
def ev0 : BootEv := ⟨true, true, 0, [], [], [], []⟩

/-- A mailbox request that waits: command, length, two arguments. -/
def boxed (cmd len a0 a1 : Nat) : State :=
  let s := wrs owned [(F.GMC_MB_REQ_DATA, 0, cmd * 2 ^ 24), (F.GMC_MB_REQ_DATA, 1, len), (F.GMC_MB_REQ_DATA, 2, a0), (F.GMC_MB_REQ_DATA, 3, a1)]
  { s with gmc := { s.gmc with mbox := [0], log := [[1]] } }

/-- An update by PLDM at a step. -/
def updating (step : Nat) : State := { owned with gmc := { owned.gmc with upd := ⟨some (1, 0), step, 0, false⟩ } }

/-- A port that has a cell to send and credit for it. -/
def sendable : State :=
  modLink (modSw (rack (inStage (late r) 6 10)) fun w => { w with pkts := [swPkt 3 6], cells := [{ coreCell 0 .store with rel := true }] })
    6 fun l => { l with limIn := [(3, 16)] }

/-- A migration of the first page to the second. -/
def moving : State := modWell r fun w => { w with migs := [⟨0, 0, 2 ^ 21, false, 0, 0⟩] }

theorem moving_advance : moving.advance 0 = moving := by decide +kernel

theorem moving_readLine (p : Nat) : readLine moving [] p = ((0, List.replicate 64 0), moving) := rfl

theorem moving_memWrite : ∀ n p, memWrite moving p (List.replicate n 0) = moving
  | 0, _ => rfl
  | n + 1, p => by
    have h : memPut moving p 0 = moving := rfl
    rw [List.replicate_succ, memWrite, h, moving_memWrite n]

theorem moving_writeLine (p : Nat) (h : p < farBase) : writeLine moving p (List.replicate 64 0) = moving := by
  have hw : winOf moving p = none := by simp [winOf, h]
  have hd : devOut moving (devOf moving p) = false := rfl
  unfold writeLine
  simp only [hw, hd, moving_memWrite]
  rfl

theorem moving_moveLines : ∀ k i, i + k ≤ 32768 → moveLines [] 0 (2 ^ 21) k i moving = ((0, 0), moving)
  | 0, _, _ => rfl
  | k + 1, i, h => by
    have hw : writeLine moving (2 ^ 21 + 64 * i) (List.replicate 64 0) = moving := moving_writeLine _ (by unfold farBase; omega)
    have hu : unserved moving (2 ^ 21 + 64 * i) true = false := rfl
    simp only [moveLines, moving_readLine, hu, hw, moving_moveLines k (i + 1) (by omega)]
    simp

/-- Some logical ports UP. -/
def upPorts (s : State) (lo n : Nat) : State := (List.range n).foldl (fun s i => inStage s (lo + i) 10) s

/-- A message of a tray peer, whole at the host path. -/
def atHost : HostPkt := ⟨pk 0x50 0 0 0 0 0 2 [], none, 1, none⟩

/-- The characters of a console line, with the CR that ends it. -/
def typed (t : String) : List Byte := (letters t).map (BitVec.ofNat 8) ++ [13]

/-- A descriptor with a gate on sync object 0 that waits for the value 1. -/
def gated : List Word := [0, BitVec.ofNat 32 0x00108005, BitVec.ofNat 32 0x80000000, 64, 0, 0, 1, 0, 0, 0, 0, 0, 0, 0, 0, 0]

/-- The group with a descriptor rung for by its two members. -/
def queued (d : List Word) : State :=
  modGrp (group (late r)) 5 fun x => { x with queue := [⟨0, d, [(.member 0, d), (.member 2, d)], none⟩] }

/-- The bytes of a descriptor in a DOORBELL. -/
def rung (d : List Word) : List Byte := d.flatMap fun w => leBytes 4 w.toNat

/-- A read of 64 bytes that the well has admitted. -/
def admitted (k : WKind) : WReq := ⟨1, k, 0, 64, [], [], mkHdr 0x20 0 3 0 64 0 0 0 0 64, 2⟩

/-- The first page moved away: its forward entry names the second page. -/
def forwarded (s : State) : State :=
  wrs s [(F.WEL_FWD_VALID, 0, 1), (F.WEL_FWD_DST_PAGE, 0, 1)]

/-- A codeword of zeros on lane position 0. -/
def zeros : Nat × List Nat := (0, List.replicate 2720 0)

/-- A link block without errors, and one whose CRC fails. -/
def block (crc : Nat) : RxBlock := ⟨List.replicate 16 ⟨0, List.replicate 16 0⟩, 0, crc, [], [], none⟩

/-- The function in D3hot. -/
def d3hot : State := { r with host := { r.host with pcie := { r.host.pcie with dstate := 3 } } }

/-- The core in its warm reset. -/
def warm (s : State) : State := { s with rst := ⟨some 0, [], [], []⟩ }

/-- Pins at other levels. -/
def pins (f : PinSt → PinSt) : State := { r with pin := f r.pin }

/-- The update lock held by PLDM. -/
def locked (s : State) : State := { s with gmc := { s.gmc with upd := ⟨some (1, 0), 1, 0, false⟩ } }

/-- The block with an operation of the host in a stage. -/
def hostedAt (d : List Word) (stage : Nat) : State :=
  { rack r with host := { r.host with ops := [(0, { hop d with stage := stage })], nextOp := 1, ready := [0] } }

theorem pair_parts {α β : Type} {x : α × β} : x = (x.1, x.2) := rfl

theorem pair_of {α β : Type} {x : α × β} {p : α} (h : x.1 = p) : x = (p, x.2) := by cases h; rfl

theorem triple_parts {α β γ : Type} {x : α × β × γ} : x = (x.1, x.2.1, x.2.2) := rfl

theorem wr_rd_ne (s : State) {f g : Field} {i j : Nat} (v : Nat) (h : fkey g j ≠ fkey f i) : (s.wr f i v).rd g j = s.rd g j := by
  unfold State.wr State.rd
  split <;> split <;> simp_all [fget_fset_ne]

theorem wr_rd_self (s : State) (f : Field) (i v : Nat) : (s.wr f i v).rd f i = v % 2 ^ f.width := by
  unfold State.wr State.rd
  split <;> simp_all [fget_fset_self]

/-- The registers of the image lie behind the configuration CRC's own. -/
theorem image_key {r : RegName} {f : Field} (i : Nat) (hr : 0x100 ≤ (regInfo r).base) (hf : f ∈ fieldsOf r) : 2048 ≤ fkey f i := by
  have h : ∀ r, (fieldsOf r).all (·.reg == r) = true := by intro r; cases r <;> rfl
  have := List.all_eq_true.mp (h r) f hf
  simp only [beq_iff_eq] at this
  unfold fkey regOff
  rw [this]
  omega

theorem liveWord_congr {s t : State} (h : ∀ f i, 2048 ≤ fkey f i → s.rd f i = t.rd f i) {r : RegName} (hr : 0x100 ≤ (regInfo r).base)
    (i w : Nat) (sel : Field → Bool) : liveWord s r i w sel = liveWord t r i w sel := by
  unfold liveWord
  congr 1
  refine List.map_congr_left fun f hf => ?_
  rw [h f i (image_key i hr (List.mem_of_mem_filter (List.mem_of_mem_filter hf)))]

theorem wholeImage_congr {s t : State} (h : ∀ f i, 2048 ≤ fkey f i → s.rd f i = t.rd f i) {r : RegName} (hr : 0x100 ≤ (regInfo r).base)
    (l : List Nat) : wholeImage s r l = wholeImage t r l := by
  simp only [wholeImage, liveWord_congr h hr]

theorem imageOf_congr {s t : State} (h : ∀ f i, 2048 ≤ fkey f i → s.rd f i = t.rd f i) {r : RegName} (hr : 0x100 ≤ (regInfo r).base)
    (sel : Field → Bool) (l : List Nat) : imageOf s r sel l = imageOf t r sel l := by
  simp only [imageOf, liveWord_congr h hr]

theorem configCrc_congr {s t : State} (h : ∀ f i, 2048 ≤ fkey f i → s.rd f i = t.rd f i) : configCrc s = configCrc t := by
  have hb : s.rd0 F.SWC_BANK_STAT_ACTIVE = t.rd0 F.SWC_BANK_STAT_ACTIVE := h _ _ (by decide)
  have ht : s.rd0 F.TIM_TT_STAT_ACTIVE = t.rd0 F.TIM_TT_STAT_ACTIVE := h _ _ (by decide)
  have h1 : ∀ b, 0x100 ≤ (regInfo (fwdReg b)).base := by intro b; unfold fwdReg; split <;> decide
  have h2 : ∀ b, 0x100 ≤ (regInfo (psetReg b)).base := by intro b; unfold psetReg; split <;> decide
  have h3 : ∀ b, 0x100 ≤ (regInfo (winReg b)).base := by intro b; unfold winReg; split <;> decide
  have h4 : ∀ b, 0x100 ≤ (regInfo (ttGrpReg b)).base := by intro b; unfold ttGrpReg; split <;> decide
  have h5 : ∀ r ∈ shadowedRegs, 0x100 ≤ (regInfo r).base := by decide
  have h6 : ∀ sel, (shadowedRegs.flatMap fun r => imageOf s r sel (List.range (regCount r))) =
      shadowedRegs.flatMap fun r => imageOf t r sel (List.range (regCount r)) := by
    intro sel
    simp only [List.flatMap]
    congr 1
    exact List.map_congr_left fun r hr => imageOf_congr h (h5 r hr) sel _
  unfold configCrc configImage
  simp only [hb, ht, h6, wholeImage_congr h (h1 _), wholeImage_congr h (h2 _), wholeImage_congr h (h3 _), wholeImage_congr h (h4 _),
    wholeImage_congr h (r := .GLB_PLACE) (by decide), wholeImage_congr h (r := .GLB_HOST_PLACE) (by decide),
    wholeImage_congr h (r := .TIM_TT_PER) (by decide), wholeImage_congr h (r := .TIM_TT_PHASE) (by decide)]

/-- The block whose configuration CRC is not its reference: the reference is no part of its image. -/
def crcOff (s : State) : State := s.wr0 F.GLB_CFG_CRC_REF_REF ((configCrc s + 1) % 2 ^ 32)

theorem crcOff_differs (s : State) : configCrc ((crcOff s).advance 0) ≠ ((crcOff s).advance 0).rd0 F.GLB_CFG_CRC_REF_REF := by
  have hk : fkey F.GLB_CFG_CRC_REF_REF 0 = 672 := by decide
  have h : configCrc ((crcOff s).advance 0) = configCrc s :=
    configCrc_congr fun f i hf => by rw [advance_rd]; exact wr_rd_ne s _ (by omega)
  have hv : ((crcOff s).advance 0).rd0 F.GLB_CFG_CRC_REF_REF = (configCrc s + 1) % 2 ^ 32 := by
    have : ((crcOff s).advance 0).rd0 F.GLB_CFG_CRC_REF_REF = (configCrc s + 1) % 2 ^ 32 % 2 ^ 32 := by
      unfold State.rd0; rw [advance_rd]; exact wr_rd_self _ _ _ _
    omega
  omega

theorem crcOff_flag (s : State) (f : Field) (h : fkey f 0 ≠ fkey F.GLB_CFG_CRC_REF_REF 0) : ((crcOff s).advance 0).flag f = s.flag f := by
  unfold State.flag
  rw [advance_rd, crcOff, State.wr0, wr_rd_ne _ _ h]

/-- What a pass writes before it looks at MISMATCH leaves that bit. -/
theorem crcOff_mismatch (s : State) :
    ((((crcOff s).advance 0).wr0 F.GLB_CFG_CRC_CUR_CUR (configCrc ((crcOff s).advance 0))).bump F.GLB_CFG_CRC_CTRL_MCOUNT 0).flag
      F.GLB_CFG_CRC_CTRL_MISMATCH = s.flag F.GLB_CFG_CRC_CTRL_MISMATCH := by
  unfold State.bump State.flag State.wr0
  simp only [wr_rd_ne _ _ (show fkey F.GLB_CFG_CRC_CTRL_MISMATCH 0 ≠ fkey F.GLB_CFG_CRC_CTRL_MCOUNT 0 by decide),
    wr_rd_ne _ _ (show fkey F.GLB_CFG_CRC_CTRL_MISMATCH 0 ≠ fkey F.GLB_CFG_CRC_CUR_CUR 0 by decide), advance_rd]
  rw [show (crcOff s).rd F.GLB_CFG_CRC_CTRL_MISMATCH 0 = s.rd F.GLB_CFG_CRC_CTRL_MISMATCH 0 from wr_rd_ne s _ (by decide)]

/-! ## Ill-formed commands -/

/-- Each check of WellFormed refuses a command that breaks it, and lets the neighbouring one pass. -/
theorem test_ill_formed_refused :
    [Instr.registerWrite (.gesta 2) 0 0 15 ev0, .registerWrite .host 2 0 15 ev0, .registerWrite .host (2 ^ 26) 0 15 ev0,
      .registerWrite .host 0x3FFFFFC 0 255 ev0, .registerWrite .host 0 (2 ^ 32) 15 ev0, .registerWrite .sideband 0 0 7 ev0,
      .registerWrite (.gesta 0) 0 0 16 ev0, .latchedPairRead .host (2 ^ 29 + 4096) ⟨15, 0⟩, .latchedPairRead .sideband (2 ^ 28) ⟨15, 0⟩,
      .linkBlockReceive 0 ⟨[], 0, 0, [], [], none⟩ 0, .linkBlockReceive 0 ⟨(block 0).slots, 4, 0, [], [], none⟩ 0,
      .linkBlockReceive 0 ⟨(block 0).slots, 0, 0, [], [], some (0, [])⟩ 0, .stageOneAdmit 80 0 0, .stageOneAdmit 0 80 0,
      .stageTwoMove 0 81 none 0, .resequencerTimeout 160 0 0 0, .resequencerTimeout 0 81 0 0, .interCellGapTimeout 160 0 0,
      .interCellGapTimeout 0 8 0, .swcFwdWrite .host 2 false 0 0 15, .ttBankWrite .host 0 4 0 0 0 15, .tokenSend 4096 0,
      .pumpDrained 168 0, .read (pk 0x20 0 0 0 0 0 162 []) 0, .contextTimeout 262144 0, .mirrorFillDone 16 [] 0,
      .bar4Access .rd (2 ^ 36) 4 [] [] 0, .soWaitTimeout 8192 0 0, .trainingFrameReceive 0 8 0 0, .loop .host 0 4, .escanDone 640 0 0,
      .hostReadFail none ⟨0, 4⟩ 0, .tail 128 0 15, .head 128 0 15, .completionWrite 128 0, .getDigests 3 0,
      .configCrcPass ⟨[2 ^ 26], 0⟩, .kick .host 2, .getInfo 2 0, .faultMessage 1024 none none ev0 0, .portGo .host 128,
      .counterLowWrite .host 1601536 0 15].all (fun i => !i.wellFormed) = true ∧
    [Instr.registerWrite (.gesta 1) 0x3FFFFFC (2 ^ 32 - 1) 15 ev0, .registerWrite .host 0x3FFFFF8 (2 ^ 64 - 1) 255 ev0,
      .latchedPairRead .host (2 ^ 29 + 4092) ⟨15, 0⟩, .latchedPairRead .host (2 ^ 28) ⟨15, 0⟩, .linkBlockReceive 0 (block 0) 0,
      .stageOneAdmit 79 79 0, .resequencerTimeout 159 79 7 0, .read (pk 0x20 0 0 0 0 0 161 []) 0, .contextTimeout 262143 0,
      .tail 127 0 15].all Instr.wellFormed = true := by
  decide +kernel

/-! ## Effects on fixed values -/

/-- CRC-32C of the digits 1 to 9, before its final inversion (13 R382, log 8). -/
theorem test_crc32c : crc32c 0xFFFFFFFF (([49, 50, 51, 52, 53, 54, 55, 56, 57] : List Nat).map (BitVec.ofNat 8)) = 0x1CF96D7C := by
  decide +kernel

/-- A write by the host with two byte enables changes those bytes alone (13 R374). -/
theorem test_byte_enables : (writeWord (wrs r [(F.TIM_LOAD_LO_LOAD, 0, 0x11223344)]) .host .TIM_LOAD_LO 0 0 0xAABBCCDD 6).rd0 F.TIM_LOAD_LO_LOAD = 0x11BBCC44 := by
  decide +kernel

/-- A read of the free semaphore takes it for its reader (13 R361). -/
theorem test_semaphore_taken : ((semRead r .sideband).rd0 F.GLB_SEM_HELD, (semRead r .sideband).rd0 F.GLB_SEM_HOLDER) = (1, 2) := by
  decide +kernel

/-- A FETCH_ADD on a sync object wraps at 64 bits (09 R268). -/
theorem test_fetch_add_wraps :
    soValue (soDo (wrs r [(F.WEL_SO_TYPE, 7, 1), (F.WEL_SO_VAL_LO, 7, 0xFFFFFFFF), (F.WEL_SO_VAL_HI, 7, 0xFFFFFFFF)]) 7 1 2 0) 7 = 1 := by
  decide +kernel

/-- Three symbols of a lane by hand from the table and the precoder of 11 R301. -/
theorem test_gray_precoded : precode 0 (grayPairs [true, false, false, true, true, true]) = [3, 2, 0] := by decide +kernel

/-- A console line in lower case with a character taken back and an underscore in a number (18 R481). -/
theorem test_console_line : conLine (typed "reg rx" ++ [8] ++ typed "d 0x1_0 2") = none ∧
    conLine ((typed "reg rx").dropLast ++ [8] ++ typed "d 0x1_0 2") = some (.regRd, [some 16, some 2]) := by decide +kernel

theorem witness_RegistersReadBack : (∃ (f g : Field) (i j : Nat), fkey g j ≠ fkey f i) ∧ ∃ f : Field, f.shadowed = true :=
  ⟨⟨F.GLB_PLACE_ROWS, F.GLB_PLACE_COLS, 0, 0, by decide⟩, F.GLB_CFG_CRC_REF_REF, rfl⟩

/-! ## Witnesses: the hypotheses of each obligation can be met -/

theorem witness_StepRunsFront :
    ∃ (s : State), s.pending = [] :=
  ⟨r, by decide +kernel⟩

theorem witness_RegisterRows :
    (∃ (m : Master) (off val be : Nat) (acc : ReadAcc), accessOk m off be = true ∧ val < 2 ^ (32 * beWords be) ∧
        accessOk m off acc.be = true) ∧
    (∃ (s : State) (m : Master) (val be : Nat), val < 2 ^ 32 ∧ beOk m be = true ∧ takesWrite s m .GLB_PLACE 0 0 = true) ∧
    (∃ (m : Master) (off val : Nat), accessOk m off 255 = true ∧ val < 2 ^ 64) ∧
    (∃ (s : State) (m : Master) (val be : Nat), val < 2 ^ 32 ∧ beOk m be = true ∧ takesWrite s m .SWC_RESEQ_TO 0 0 = true) ∧
    (∃ (s c : State) (m : Master), c = countReg s m false (regOff .TIM_NOW_LO 0) ∧ m.ok = true ∧ chipOn s = true ∧
        inCoreReset s = false ∧ (m = .host → s.host.pcie.dstate ≠ 3)) ∧
    (∃ (s : State) (q : Nat), chipOn s = true ∧ s.host.pcie.dstate ≠ 3 ∧ q < 128) ∧
    (∃ (s c : State) (m : Master) (val be : Nat), c = wrote s m .GLB_PLACE 0 0 ∧ val < 2 ^ 31 ∧ beOk m be = true ∧
        takesWrite s m .GLB_PLACE 0 0 = true ∧ c.flag F.GLB_PLACE_LOCK = false) ∧
    (∃ (s c d : State) (m : Master) (val be : Nat), c = wrote s m .GLB_PLACE 0 0 ∧
        d = (List.range 160).foldl rejudge (followPlace c (writeWord c m .GLB_PLACE 0 0 val (Nat.lor be 8) fun f => f != F.GLB_PLACE_LOCK)) ∧
        2 ^ 31 ≤ val ∧ val < 2 ^ 32 ∧ beOk m be = true ∧ takesWrite s m .GLB_PLACE 0 0 = true ∧
        c.flag F.GLB_PLACE_LOCK = false ∧ placeRefused d = false) :=
  ⟨⟨.host, 0, 0x82200021, 15, ⟨15, 0⟩, by decide +kernel⟩,
  ⟨r, .host, 0x82200021, 15, by decide +kernel⟩,
  ⟨.host, 0, 0, by decide +kernel⟩,
  ⟨r, .host, 0, 15, by decide +kernel⟩,
  ⟨r, _, .host, rfl, by decide +kernel⟩,
  ⟨r, 0, by decide +kernel⟩,
  ⟨r, _, .host, 0, 15, rfl, by decide +kernel⟩,
  ⟨(rack r), _, _, .host, 0x82200021, 15, rfl, rfl, by decide +kernel⟩⟩

theorem witness_SwitchCells :
    (∃ (s u : State) (i k at_ pos src vc lp : Nat), u = s.advance at_ ∧ coreRuns u = true ∧ i < 80 ∧ k < 80 ∧ pos ≤ 80 ∧
        src < 160 ∧ vc < 8 ∧ lp < 160) ∧
    (∃ (s u : State) (lp at_ : Nat), u = s.advance at_ ∧ linkRuns u = true ∧ lp < 160) ∧
    (∃ (s u t : State) (i k at_ y : Nat) (c : WaitCell), u = s.advance at_ ∧ linkCycle u.now i k = some y ∧
        admitCell u k c = some t ∧ coreRuns u = true ∧ i < 80 ∧ k < 80 ∧ useFree u.sw.oneUse i y 2 = true ∧
        offerList u (80 + i) = [] ∧ offerList u i = [c]) ∧
    (∃ (s u : State) (k pos at_ cl y : Nat) (c : CellRec), u = s.advance at_ ∧ moveCycle u k pos = some y ∧
        storeClass u.sw c false = some cl ∧ coreRuns u = true ∧ k < 80 ∧ pos < 80 ∧ crosspointHeads u.sw k pos = [c] ∧
        isMirCell c = false) ∧
    (∃ (s u : State) (src pos vc at_ e : Nat) (c : CellRec), u = s.advance at_ ∧ coreRuns u = true ∧ src < 160 ∧ pos < 80 ∧
        vc < 8 ∧ e < 65535 ∧ mgetD u.sw.seqExp (flowKey src pos vc) 0 = e ∧
        (u.sw.cells.filter fun d => flowKey d.src (posOf d.tgt) d.vc == flowKey src pos vc && !d.rel) = [c] ∧ c.loc = .store ∧
        c.seq = e + 1 ∧ (u.sw.cells.all fun d => !d.rel) = true ∧
        (u.sw.pkts.all fun p => p.tgts.all fun t => t.sent == 0) = true ∧ u.rd0 F.SWC_RESEQ_TO_TO ≠ 0 ∧
        c.tArr + 10 * u.rd0 F.SWC_RESEQ_TO_TO ≤ u.now) ∧
    (∃ (s u v : State) (lp at_ : Nat), u = s.advance at_ ∧ pickVc u lp = (none, v) ∧ linkRuns u = true ∧ lp < 160 ∧
        egressShut u lp = false ∧ (getLink u lp).ctlOut = [] ∧ u.linkUp lp = true ∧ u.paused lp = false) ∧
    (∃ (s u v : State) (lp at_ vc tier : Nat), u = s.advance at_ ∧ pickVc u lp = (some (tier, vc), v) ∧ linkRuns u = true ∧
        lp < 160 ∧ egressShut u lp = false ∧ (getLink u lp).ctlOut = [] ∧ u.linkUp lp = true ∧ u.paused lp = false) ∧
    (∃ (s u : State) (lp at_ : Nat) (h : Header) (hs : List Header), u = s.advance at_ ∧ linkRuns u = true ∧ lp < 160 ∧
        egressShut u lp = false ∧ (getLink u lp).ctlOut = h :: hs ∧ credits u lp 0 ≠ 0) ∧
    (∃ (s u : State) (lp vc at_ : Nat) (a : Asm), u = s.advance at_ ∧ getAsm u lp vc = some a ∧ coreRuns u = true ∧ lp < 160 ∧
        vc < 8 ∧ a.drop = false ∧ goesOn u a.pid = true ∧ u.rd F.PRT_CELL_GAP_GAP (lp / 2) ≠ 0 ∧
        a.tLast + 10 * u.rd F.PRT_CELL_GAP_GAP (lp / 2) ≤ u.now) :=
  ⟨⟨r, _, 2, 2, 0, 3, 2, 3, 0, rfl, by decide +kernel⟩,
  ⟨r, _, 0, 0, rfl, by decide +kernel⟩,
  ⟨(modSw (rack (late r)) fun w => { w with pkts := [swPkt 3 6], wait := [waitCell 3] }), _, _, 2, 2, 0, _, (waitCell 3), rfl,
      (Option.some_get (by decide +kernel)).symm, (Option.some_get (by decide +kernel)).symm, by decide +kernel⟩,
  ⟨(modSw (rack (late r)) fun w => { w with pkts := [swPkt 3 6], cells := [coreCell 0 (.relay 2)] }), _, 2, 3, 0, _, _,
      (coreCell 0 (.relay 2)), rfl, (Option.some_get (by decide +kernel)).symm, (Option.some_get (by decide +kernel)).symm,
      by decide +kernel⟩,
  ⟨(wrs (modSw (rack (late r)) fun w => { w with pkts := [swPkt 3 6], cells := [coreCell 1 .store] }) [(F.SWC_RESEQ_TO_TO, 0,
      1)]), _, 2, 3, 3, 0, 0, (coreCell 1 .store), rfl, by decide +kernel⟩,
  ⟨(inStage r 0 10), _, _, 0, 0, rfl, pair_of (by decide +kernel), by decide +kernel⟩,
  ⟨sendable, _, _, 6, 0, (((pickVc (sendable.advance 0) 6).1).get (by decide +kernel)).2,
      (((pickVc (sendable.advance 0) 6).1).get (by decide +kernel)).1, rfl,
      pair_of ((Option.some_get _).symm.trans (congrArg some (pair_parts))), by decide +kernel⟩,
  ⟨(withLink (late r) 0 10 fun l => { l with ctlOut := [mkHdr 3 0 0 0 0 0 0 0 0 0], limIn := [(0, 16)] }), _, 0, 0,
      (mkHdr 3 0 0 0 0 0 0 0 0 0), ([]), rfl, by decide +kernel⟩,
  ⟨(wrs (modSw (rack (inStage (late r) 6 10)) fun w => { w with pkts := [swPkt 3 6], asm := [(asmKey 0 3, ⟨1, mkHdr 0x50 0x10 3 0 0 0 0 0 0 0, 0, 2, false, 0, 0⟩)] }) [(F.PRT_CELL_GAP_GAP,
      0, 1)]), _, 0, 3, 0, _, rfl, (Option.some_get (by decide +kernel)).symm, by decide +kernel⟩⟩

theorem witness_SwitchLimits :
    (∃ (s u : State) (at_ lp vc : Nat), u = s.advance at_ ∧ coreRuns u = true ∧ lp < 160 ∧ vc < 8) ∧
    (∃ (s u : State) (lp at_ vc : Nat), u = s.advance at_ ∧ linkRuns u = true ∧ lp < 160 ∧ vc < 8) ∧
    (∃ (s u : State) (pid at_ : Nat) (p : PktRec) (t : Target), u = s.advance at_ ∧ findPkt u pid = some p ∧
        coreRuns u = true ∧ (u.sw.stationQ.find? (·.pid == pid)) = none ∧ 3 ≤ p.hdr.vc ∧ p.hdr.vc ≤ 6 ∧ p.tgts = [t] ∧
        t.mir = none ∧ t.sent = 0 ∧ t.live = true ∧ t.lp < 160 ∧ u.rd0 F.SWC_RTE_RESLIM_RES_LIM ≠ 0 ∧
        p.tHead + 1000 * u.rd0 F.SWC_RTE_RESLIM_RES_LIM < u.now) ∧
    (∃ (s u : State) (lp vc at_ t0 : Nat), u = s.advance at_ ∧ (getEgr u lp vc).eligSince = some t0 ∧ coreRuns u = true ∧
        lp < 160 ∧ 3 ≤ vc ∧ vc ≤ 7 ∧ (getEgr u lp vc).promoted = none ∧ eligible u lp vc = true ∧
        u.rd F.PRT_ARB_STARVE (lp / 2) ≠ 0 ∧ t0 + 1000 * u.rd F.PRT_ARB_STARVE (lp / 2) ≤ u.now) ∧
    (∃ (s u : State) (lp at_ : Nat) (c : WaitCell) (p : PktRec), u = s.advance at_ ∧ findPkt u c.pid = some p ∧
        coreRuns u = true ∧ lp < 160 ∧ (u.sw.wait.find? fun c => c.lp == lp && c.vc == 3) = some c ∧
        u.sw.wait.find? (inQueue c.src lp 3) = some c ∧ p.fenceHeld = true ∧ fenceCount u lp p.pid = 0) ∧
    (∃ (s u : State) (lp at_ : Nat), u = s.advance at_ ∧ linkRuns u = true ∧ lp < 160) ∧
    (∃ (s u : State) (lp vc at_ pid t0 : Nat), u = s.advance at_ ∧ linkRuns u = true ∧ lp < 160 ∧ vc < 8 ∧
        (getEgr u lp vc).held = some (pid, t0) ∧ t0 + 10000 ≤ u.now) :=
  ⟨⟨r, _, 0, 6, 3, rfl, by decide +kernel⟩,
  ⟨r, _, 6, 0, 3, rfl, by decide +kernel⟩,
  ⟨(wrs (modSw (rack (late r)) fun w => { w with pkts := [swPkt 3 6] }) [(F.SWC_RTE_RESLIM_RES_LIM, 0, 1)]), _, 1, 0, _,
      ((((findPkt ((wrs (modSw (rack (late r)) fun w => { w with pkts := [swPkt 3 6] }) [(F.SWC_RTE_RESLIM_RES_LIM, 0,
      1)]).advance 0) 1).get (by decide +kernel)).tgts).head (by decide +kernel)), rfl,
      (Option.some_get (by decide +kernel)).symm, by decide +kernel⟩,
  ⟨(wrs (modEgr sendable 6 3 fun e => { e with eligSince := some 0 }) [(F.PRT_ARB_STARVE, 3, 1)]), _, 6, 3, 0, _, rfl,
      (Option.some_get (by decide +kernel)).symm, by decide +kernel⟩,
  ⟨(modSw (rack (late r)) fun w => { w with pkts := [{ swPkt 3 6 with fenceHeld := true }], wait := [waitCell 3] }), _, 4, 0,
      (waitCell 3), _, rfl, (Option.some_get (by decide +kernel)).symm, by decide +kernel⟩,
  ⟨r, _, 0, 0, rfl, by decide +kernel⟩,
  ⟨(modEgr (late r) 0 3 fun e => { e with held := some (1, 0) }), _, 0, 3, 0, 1, 0, rfl, by decide +kernel⟩⟩

theorem witness_ForwardingBanks :
    (∃ (s : State) (m : Master) (b i val be : Nat) (pset : Bool), b < 2 ∧ val < 2 ^ 32 ∧ beOk m be = true ∧
        takesWrite s m (if pset then psetReg b else fwdReg b) i 0 = true) ∧
    (∃ (s : State) (m : Master) (b val be : Nat), b < 2 ∧ val < 2 ^ 32 ∧ beOk m be = true ∧
        takesWrite s m .SWC_BANK_CTRL 0 0 = true) ∧
    (∃ (s u : State) (at_ : Nat), u = s.advance at_ ∧ coreRuns u = true) ∧
    (∃ (s c : State) (m : Master) (b i val be : Nat), c = wrote s m (fwdReg b) i 0 ∧ b < 2 ∧ i < 336 ∧ val < 2 ^ 32 ∧
        beOk m be = true ∧ takesWrite s m (fwdReg b) i 0 = true ∧ bankState c b < 2) ∧
    (∃ (s c : State) (m : Master), c = wrote s m .SWC_BANK_CTRL 0 0 ∧ takesWrite s m .SWC_BANK_CTRL 0 0 = true ∧
        bankState c 0 = 0) ∧
    (∃ (s c : State) (m : Master), c = wrote s m .SWC_BANK_CTRL 0 0 ∧ takesWrite s m .SWC_BANK_CTRL 0 0 = true ∧
        bankState c 1 = 0) ∧
    (∃ (s u : State) (at_ b t0 : Nat), u = s.advance at_ ∧ b = 1 - u.rd0 F.SWC_BANK_STAT_ACTIVE ∧ u.sw.drainSince = some t0 ∧
        coreRuns u = true ∧ bankState u b = 3 ∧ t0 + 1000 * u.rd0 F.SWC_BANK_HOLD_HOLD ≤ u.now ∧ bankCount u b = 0) :=
  ⟨⟨r, .host, 0, 0, 0, 15, false, by decide +kernel⟩,
  ⟨r, .host, 0, 0, 15, by decide +kernel⟩,
  ⟨r, _, 0, rfl, by decide +kernel⟩,
  ⟨(wrs r [(F.SWC_BANK_STAT_STATE_A, 0, 0)]), _, .host, 0, 0, 0, 15, rfl, by decide +kernel⟩,
  ⟨(wrs r [(F.SWC_BANK_STAT_STATE_A, 0, 0)]), _, .host, rfl, by decide +kernel⟩,
  ⟨r, _, .host, rfl, by decide +kernel⟩,
  ⟨(wrs (modSw (late r) fun w => { w with drainSince := some 0 }) [(F.SWC_BANK_STAT_ACTIVE, 0, 0), (F.SWC_BANK_STAT_STATE_B,
      0, 3)]), _, 0, _, _, rfl, rfl, (Option.some_get (by decide +kernel)).symm, by decide +kernel⟩⟩

theorem witness_TimeFromTick :
    (∃ (s u : State) (at_ : Nat), u = s.advance at_ ∧ chipOn u = true) ∧
    (∃ (s u : State) (at_ : Nat), u = s.advance at_ ∧ coreRuns u = true) ∧
    (∃ (s u c : State) (high at_ thr smax : Nat) (e : Int), u = s.advance at_ ∧
        e = ((u.fabric : Int) + signed 16 (u.rd0 F.TIM_TICK_ADJ_ADJ) + 500) % 1000 - 500 ∧ thr = u.rd0 F.TIM_DISC_STEP_THR ∧
        smax = u.rd0 F.TIM_DISC_SLEW_MAX ∧
        c = (modTime u fun t => { t with lastEdge := some u.now }).wr0 F.TIM_PHASE_ERR_ERR (unsigned 32 e) ∧ chipOn u = true ∧
        u.rd0 F.TIM_CTRL_SRC = 0 ∧ high ≤ 400 ∧ (thr = 0 ∨ e.natAbs ≤ thr) ∧ smax ≠ 0) ∧
    (∃ (s u c : State) (high at_ thr smax : Nat) (e : Int), u = s.advance at_ ∧
        e = ((u.fabric : Int) + signed 16 (u.rd0 F.TIM_TICK_ADJ_ADJ) + 500) % 1000 - 500 ∧ thr = u.rd0 F.TIM_DISC_STEP_THR ∧
        smax = u.rd0 F.TIM_DISC_SLEW_MAX ∧
        c = (modTime u fun t => { t with lastEdge := some u.now }).wr0 F.TIM_PHASE_ERR_ERR (unsigned 32 e) ∧ chipOn u = true ∧
        u.rd0 F.TIM_CTRL_SRC = 0 ∧ high ≤ 400 ∧ (thr = 0 ∨ e.natAbs ≤ thr) ∧ smax = 0) ∧
    (∃ (s u c : State) (high at_ thr smax : Nat) (e : Int), u = s.advance at_ ∧
        e = ((u.fabric : Int) + signed 16 (u.rd0 F.TIM_TICK_ADJ_ADJ) + 500) % 1000 - 500 ∧ thr = u.rd0 F.TIM_DISC_STEP_THR ∧
        smax = u.rd0 F.TIM_DISC_SLEW_MAX ∧
        c = (modTime u fun t => { t with lastEdge := some u.now }).wr0 F.TIM_PHASE_ERR_ERR (unsigned 32 e) ∧ chipOn u = true ∧
        u.rd0 F.TIM_CTRL_SRC = 0 ∧ high ≤ 400 ∧ thr ≠ 0 ∧ thr < e.natAbs ∧ e < 0) ∧
    (∃ (s u c : State) (high at_ thr smax : Nat) (e : Int), u = s.advance at_ ∧
        e = ((u.fabric : Int) + signed 16 (u.rd0 F.TIM_TICK_ADJ_ADJ) + 500) % 1000 - 500 ∧ thr = u.rd0 F.TIM_DISC_STEP_THR ∧
        smax = u.rd0 F.TIM_DISC_SLEW_MAX ∧
        c = (modTime u fun t => { t with lastEdge := some u.now }).wr0 F.TIM_PHASE_ERR_ERR (unsigned 32 e) ∧ chipOn u = true ∧
        u.rd0 F.TIM_CTRL_SRC = 0 ∧ high ≤ 400 ∧ thr ≠ 0 ∧ thr < e.natAbs ∧ 0 ≤ e) ∧
    (∃ (s u d : State) (high at_ : Nat) (e : Int) (v : Nat), u = s.advance at_ ∧
        e = ((u.fabric : Int) + signed 16 (u.rd0 F.TIM_TICK_ADJ_ADJ) + 500) % 1000 - 500 ∧
        d = (applyPhase (modTime u fun t => { t with lastEdge := some u.now }) e).wr0 F.TIM_STAT_HOLDOVER 0 ∧
        chipOn u = true ∧ u.rd0 F.TIM_CTRL_SRC = 0 ∧ 400 < high ∧ d.time.armed = some v) ∧
    (∃ (s u d : State) (high at_ : Nat) (e : Int), u = s.advance at_ ∧
        e = ((u.fabric : Int) + signed 16 (u.rd0 F.TIM_TICK_ADJ_ADJ) + 500) % 1000 - 500 ∧
        d = (applyPhase (modTime u fun t => { t with lastEdge := some u.now }) e).wr0 F.TIM_STAT_HOLDOVER 0 ∧
        chipOn u = true ∧ u.rd0 F.TIM_CTRL_SRC = 0 ∧ 400 < high ∧ d.time.armed = none ∧ d.flag F.TIM_STAT_VALID = true ∧
        (u.fabric + 500) / 1000 % 65536 ≠ 0) ∧
    (∃ (s u d : State) (high at_ : Nat) (e : Int), u = s.advance at_ ∧
        e = ((u.fabric : Int) + signed 16 (u.rd0 F.TIM_TICK_ADJ_ADJ) + 500) % 1000 - 500 ∧
        d = (applyPhase (modTime u fun t => { t with lastEdge := some u.now }) e).wr0 F.TIM_STAT_HOLDOVER 0 ∧
        chipOn u = true ∧ u.rd0 F.TIM_CTRL_SRC = 0 ∧ 400 < high ∧ d.time.armed = none ∧
        (d.flag F.TIM_STAT_VALID = false ∨ (u.fabric + 500) / 1000 % 65536 = 0)) ∧
    (∃ (s u : State) (at_ t0 : Nat), u = s.advance at_ ∧ u.time.lastEdge = some t0 ∧ chipOn u = true ∧
        u.rd0 F.TIM_DISC_LOSS_N ≠ 0 ∧ u.flag F.TIM_STAT_HOLDOVER = false ∧ u.rd0 F.TIM_CTRL_SRC = 0 ∧
        t0 + u.rd0 F.TIM_DISC_LOSS_N * 1000 < u.now) ∧
    (∃ (s u : State) (at_ t0 : Nat), u = s.advance at_ ∧ u.time.lastSync = some t0 ∧ chipOn u = true ∧
        u.rd0 F.TIM_DISC_LOSS_N ≠ 0 ∧ u.flag F.TIM_STAT_HOLDOVER = false ∧ u.rd0 F.TIM_CTRL_SRC = 2 ∧
        u.rd0 F.TIM_IB_SYNC_IVL ≠ 0 ∧ t0 + u.rd0 F.TIM_DISC_LOSS_N * (1000 * u.rd0 F.TIM_IB_SYNC_IVL) < u.now) ∧
    (∃ (s u : State) (at_ : Nat) (ws : List Window), u = s.advance at_ ∧
        ws = (if u.flag F.TIM_STAT_VALID = false ∨ u.rd F.TIM_TT_PER_PERIOD (u.rd0 F.TIM_TT_STAT_ACTIVE) = 0 then [] else (windowsOf u (u.rd0 F.TIM_TT_STAT_ACTIVE)).filter (openAt (u.rd F.TIM_TT_PER_PERIOD (u.rd0 F.TIM_TT_STAT_ACTIVE)) (ttOffset u (u.rd0 F.TIM_TT_STAT_ACTIVE)))) ∧
        coreRuns u = true ∧ u.tickCount ≠ u.time.lastTick) :=
  ⟨⟨r, _, 0, rfl, by decide +kernel⟩,
  ⟨r, _, 0, rfl, by decide +kernel⟩,
  ⟨r, _, _, 0, 0, _, _, _, rfl, rfl, rfl, rfl, rfl, by decide +kernel⟩,
  ⟨(wrs (late r) [(F.TIM_DISC_SLEW_MAX, 0, 0), (F.TIM_DISC_STEP_THR, 0, 0)]), _, _, 100, 0, _, _, _, rfl, rfl, rfl, rfl, rfl,
      by decide +kernel⟩,
  ⟨(wrs (late r) [(F.TIM_DISC_STEP_THR, 0, 1), (F.TIM_TICK_ADJ_ADJ, 0, 65436)]), _, _, 100, 0, _, _, _, rfl, rfl, rfl, rfl,
      rfl, by decide +kernel⟩,
  ⟨(wrs (late r) [(F.TIM_DISC_STEP_THR, 0, 1), (F.TIM_TICK_ADJ_ADJ, 0, 100)]), _, _, 100, 0, _, _, _, rfl, rfl, rfl, rfl, rfl,
      by decide +kernel⟩,
  ⟨(modTime r fun t => { t with armed := some 1000 }), _, _, 500, 0, _, 1000, rfl, rfl, rfl, by decide +kernel⟩,
  ⟨(wrs (late r) [(F.TIM_STAT_VALID, 0, 1)]), _, _, 500, 0, _, rfl, rfl, rfl, by decide +kernel⟩,
  ⟨(modTime (late r) fun t => { t with lastEdge := some 0 }), _, _, 500, 0, _, rfl, rfl, rfl, by decide +kernel⟩,
  ⟨(modTime (late r) fun t => { t with lastEdge := some 0 }), _, 0, _, rfl, (Option.some_get (by decide +kernel)).symm,
      by decide +kernel⟩,
  ⟨(wrs (modTime (late r) fun t => { t with lastSync := some 0 }) [(F.TIM_CTRL_SRC, 0, 2), (F.TIM_IB_SYNC_IVL, 0, 1)]), _, 0,
      _, rfl, (Option.some_get (by decide +kernel)).symm, by decide +kernel⟩,
  ⟨(late r), _, 0, _, rfl, rfl, by decide +kernel⟩⟩

theorem witness_TimeControl :
    (∃ (s : State) (m : Master) (val be : Nat), val < 2 ^ 32 ∧ beOk m be = true ∧ takesWrite s m .TIM_CTRL 0 0 = true) ∧
    (∃ (s u : State) (at_ : Nat), u = s.advance at_ ∧ coreRuns u = true) ∧
    (∃ (s c : State) (m : Master), c = wrote s m .TIM_CTRL 0 0 ∧ takesWrite s m .TIM_CTRL 0 0 = true ∧ c.commit = none) ∧
    (∃ (s c : State) (m : Master) (k : PendCommit), c = wrote s m .TIM_CTRL 0 0 ∧ takesWrite s m .TIM_CTRL 0 0 = true ∧
        c.commit = some k ∧ k.mode ≠ 0) ∧
    (∃ (s c : State) (m : Master), c = wrote s m .TIM_CTRL 0 0 ∧ takesWrite s m .TIM_CTRL 0 0 = true ∧
        c.flag F.TIM_STAT_VALID = false ∧ (c.rd0 F.TIM_CTRL_SRC = 1 ∨ c.rd0 F.TIM_CTRL_SRC = 3) ∧ loadValue c % 1000 = 0) ∧
    (∃ (s u : State) (at_ v : Nat), u = s.advance at_ ∧ u.time.armed = some v ∧ coreRuns u = true ∧
        (u.rd0 F.TIM_CTRL_SRC = 1 ∨ u.rd0 F.TIM_CTRL_SRC = 3) ∧ u.tickCount ≠ u.time.armTick) ∧
    (∃ (s c d : State) (m : Master) (val be n : Nat), c = wrote s m .TIM_CTRL 0 0 ∧
        d = writeWord c m .TIM_CTRL 0 0 val be (fun f => f != F.TIM_CTRL_SRC) ∧ n = fieldAfter c F.TIM_CTRL_SRC 0 val be ∧
        val < 16 ∧ beOk m be = true ∧ takesWrite s m .TIM_CTRL 0 0 = true ∧ d.rd0 F.TIM_CTRL_SRC = n) ∧
    (∃ (s c d : State) (m : Master) (val be n : Nat), c = wrote s m .TIM_CTRL 0 0 ∧
        d = writeWord c m .TIM_CTRL 0 0 val be (fun f => f != F.TIM_CTRL_SRC) ∧ n = fieldAfter c F.TIM_CTRL_SRC 0 val be ∧
        val < 16 ∧ beOk m be = true ∧ takesWrite s m .TIM_CTRL 0 0 = true ∧ d.rd0 F.TIM_CTRL_SRC ≠ n) :=
  ⟨⟨r, .host, 0, 15, by decide +kernel⟩,
  ⟨r, _, 0, rfl, by decide +kernel⟩,
  ⟨r, _, .host, rfl, by decide +kernel⟩,
  ⟨({ r with commit := some ⟨1, 0, .host⟩ }), _, .host, (⟨1, 0, .host⟩), rfl, by decide +kernel⟩,
  ⟨(wrs r [(F.TIM_CTRL_SRC, 0, 3)]), _, .host, rfl, by decide +kernel⟩,
  ⟨(wrs (modTime (late r) fun t => { t with armed := some 1000 }) [(F.TIM_CTRL_SRC, 0, 3)]), _, 0, _, rfl,
      (Option.some_get (by decide +kernel)).symm, by decide +kernel⟩,
  ⟨r, _, _, .host, 0, 15, _, rfl, rfl, rfl, by decide +kernel⟩,
  ⟨(wrs r [(F.TIM_CTRL_SRC, 0, 3)]), _, _, .host, 0, 15, _, rfl, rfl, rfl, by decide +kernel⟩⟩

theorem witness_TimeInBand :
    (∃ (s u : State) (at_ : Nat), u = s.advance at_ ∧ coreRuns u = true) ∧
    (∃ (s u : State) (p : StPkt) (at_ : Nat), u = s.advance at_ ∧ stationHas u p 0x02 = true) ∧
    (∃ (s u : State) (at_ : Nat), u = s.advance at_ ∧ coreRuns u = true ∧ u.rd0 F.TIM_CTRL_SRC = 1 ∧
        u.rd0 F.TIM_IB_SYNC_IVL ≠ 0 ∧ u.atTick (u.rd0 F.TIM_IB_SYNC_IVL) = true) ∧
    (∃ (s u : State) (at_ : Nat), u = s.advance at_ ∧ coreRuns u = true ∧ u.rd0 F.TIM_CTRL_SRC = 2 ∧
        u.rd0 F.TIM_IB_SYNC_IVL ≠ 0 ∧ u.atTick (16 * u.rd0 F.TIM_IB_SYNC_IVL) = true) ∧
    (∃ (s u c : State) (p : StPkt) (at_ t1 : Nat) (d : Int), u = s.advance at_ ∧ c = takeStation u p ∧
        c.time.reqAt = some t1 ∧
        d = (((rxTime u p : Int) - t1) - ((leNat ((p.data.drop 8).take 8) : Int) - leNat (p.data.take 8))) / 2 ∧
        stationHas u p 0x02 = true ∧ c.rd0 F.TIM_CTRL_SRC = 2 ∧ p.hdr.opw0 % 4 = 2 ∧ c.time.delays = []) ∧
    (∃ (s u c : State) (p : StPkt) (at_ : Nat), u = s.advance at_ ∧ c = takeStation u p ∧ stationHas u p 0x02 = true ∧
        c.rd0 F.TIM_CTRL_SRC = 2 ∧ p.hdr.opw0 % 4 = 0 ∧ bits p.hdr.opw0 2 1 = 0) ∧
    (∃ (s u c : State) (p : StPkt) (at_ : Nat), u = s.advance at_ ∧ c = takeStation u p ∧ stationHas u p 0x02 = true ∧
        c.rd0 F.TIM_CTRL_SRC = 2 ∧ p.hdr.opw0 % 4 = 0 ∧ bits p.hdr.opw0 2 1 = 1 ∧ c.flag F.TIM_STAT_VALID = true) :=
  ⟨⟨r, _, 0, rfl, by decide +kernel⟩,
  ⟨r, _, (pk 0x02 0 0 2 0 0 0 []), 0, rfl, by decide +kernel⟩,
  ⟨(wrs r [(F.TIM_CTRL_SRC, 0, 1)]), _, 0, rfl, by decide +kernel⟩,
  ⟨(wrs r [(F.TIM_CTRL_SRC, 0, 2)]), _, 0, rfl, by decide +kernel⟩,
  ⟨(wrs (modTime r fun t => { t with reqAt := some 0 }) [(F.TIM_CTRL_SRC, 0, 2)]), _, _, (pk 0x02 0 0 2 0 0 0 []), 0, _, _,
      rfl, rfl, (Option.some_get (by decide +kernel)).symm, rfl, by decide +kernel⟩,
  ⟨(wrs r [(F.TIM_CTRL_SRC, 0, 2)]), _, _, (pk 0x02 0 0 0 0 0 0 []), 0, rfl, rfl, by decide +kernel⟩,
  ⟨(wrs r [(F.TIM_CTRL_SRC, 0, 2), (F.TIM_STAT_VALID, 0, 1)]), _, _, (pk 0x02 0 0 4 0 0 0 []), 0, rfl, rfl,
      by decide +kernel⟩⟩

theorem witness_Timetables :
    (∃ (s : State) (m : Master) (b kind i w val be : Nat), b < 2 ∧ kind < 4 ∧ val < 2 ^ 32 ∧ beOk m be = true ∧
        takesWrite s m (ttReg b kind) (if kind < 2 then b else i) w = true) ∧
    (∃ (s : State) (m : Master) (b kind val be : Nat), b < 2 ∧ kind < 4 ∧ val < 2 ^ 32 ∧ beOk m be = true ∧
        takesWrite s m .TIM_TT_CTRL 0 0 = true) ∧
    (∃ (s u : State) (at_ g : Nat), u = s.advance at_ ∧ coreRuns u = true ∧ g < 4096) ∧
    (∃ (s c : State) (m : Master) (b i w val be : Nat), c = wrote s m (winReg b) i w ∧ b < 2 ∧ val < 2 ^ 32 ∧
        beOk m be = true ∧ takesWrite s m (winReg b) i w = true ∧ ttState c b ≠ 3 ∧ c.flag F.TIM_ADM_STAT_BUSY = false ∧
        ttState (writeWord c m (winReg b) i w val be) b ≠ 0) ∧
    (∃ (s c : State) (m : Master), c = wrote s m .TIM_TT_CTRL 0 0 ∧ takesWrite s m .TIM_TT_CTRL 0 0 = true ∧
        ttState c 0 = 0) ∧
    (∃ (s c : State) (m : Master), c = wrote s m .TIM_TT_CTRL 0 0 ∧ takesWrite s m .TIM_TT_CTRL 0 0 = true ∧
        ttState c 1 = 0) ∧
    (∃ (s c : State) (m : Master), c = wrote s m .TIM_TT_CTRL 0 0 ∧ takesWrite s m .TIM_TT_CTRL 0 0 = true ∧ ttState c 0 = 1 ∧
        c.flag F.TIM_ADM_STAT_BUSY = false) ∧
    (∃ (s c : State) (m : Master), c = wrote s m .TIM_TT_CTRL 0 0 ∧ takesWrite s m .TIM_TT_CTRL 0 0 = true ∧ ttState c 1 = 1 ∧
        c.flag F.TIM_ADM_STAT_BUSY = false) ∧
    (∃ (s u v : State) (at_ : Nat) (r : AdmResult), u = s.advance at_ ∧ r = ttAdmit u (u.rd0 F.TIM_ADM_STAT_BANK) ∧
        v = (((((((((u.wr0 F.TIM_TT_CTRL_ADMIT_A 0).wr0 F.TIM_TT_CTRL_ADMIT_B 0).wr0 F.TIM_ADM_STAT_BUSY 0).wr0 F.TIM_ADM_STAT_RESULT r.code).wr0 F.TIM_ADM_STAT_LP r.lp).wr0 F.TIM_ADM_STAT_VC r.vc).wr0 F.TIM_ADM_STAT_GID r.gid).wr0 F.TIM_ADM_NEED_NEED r.need).wr0 F.TIM_ADM_HAVE_HAVE r.have_).wr0 F.TIM_ADM_TICK_OFFSET r.offset ∧
        coreRuns u = true ∧ u.flag F.TIM_ADM_STAT_BUSY = true ∧ r.code = 0 ∧ u.time.admCut = false) ∧
    (∃ (s u v : State) (at_ : Nat) (r : AdmResult), u = s.advance at_ ∧ r = ttAdmit u (u.rd0 F.TIM_ADM_STAT_BANK) ∧
        v = (((((((((u.wr0 F.TIM_TT_CTRL_ADMIT_A 0).wr0 F.TIM_TT_CTRL_ADMIT_B 0).wr0 F.TIM_ADM_STAT_BUSY 0).wr0 F.TIM_ADM_STAT_RESULT r.code).wr0 F.TIM_ADM_STAT_LP r.lp).wr0 F.TIM_ADM_STAT_VC r.vc).wr0 F.TIM_ADM_STAT_GID r.gid).wr0 F.TIM_ADM_NEED_NEED r.need).wr0 F.TIM_ADM_HAVE_HAVE r.have_).wr0 F.TIM_ADM_TICK_OFFSET r.offset ∧
        coreRuns u = true ∧ u.flag F.TIM_ADM_STAT_BUSY = true ∧ (r.code ≠ 0 ∨ u.time.admCut = true)) ∧
    (∃ (s u : State) (at_ b : Nat) (r : AdmResult), u = s.advance at_ ∧ b = u.rd0 F.TIM_TT_STAT_ACTIVE ∧
        r = ttConditions u b ∧ coreRuns u = true ∧ u.rd F.TIM_TT_PER_PERIOD b ≠ 0 ∧ r.code = 0) ∧
    (∃ (s u : State) (at_ b : Nat) (r : AdmResult), u = s.advance at_ ∧ b = u.rd0 F.TIM_TT_STAT_ACTIVE ∧
        r = ttConditions u b ∧ coreRuns u = true ∧ u.rd F.TIM_TT_PER_PERIOD b ≠ 0 ∧ r.code ≠ 0) ∧
    (∃ (s u c : State) (g at_ t0 : Nat) (o : GrpOp) (e : TtGroup), u = s.advance at_ ∧ (getGrp u g).op = some o ∧
        o.atStart = some t0 ∧ ((ttGroupsOf u (u.rd0 F.TIM_TT_STAT_ACTIVE)).find? (·.gid == g)) = some e ∧
        c = (modOp u g fun o => { o with atStart := none }).cntG g 14 ∧ coreRuns u = true ∧ g < 4096 ∧ e.deadline ≠ 0 ∧
        t0 + e.deadline ≤ u.tickCount ∧ e.strict = false) ∧
    (∃ (s u c : State) (g at_ t0 : Nat) (o : GrpOp) (e : TtGroup), u = s.advance at_ ∧ (getGrp u g).op = some o ∧
        o.atStart = some t0 ∧ ((ttGroupsOf u (u.rd0 F.TIM_TT_STAT_ACTIVE)).find? (·.gid == g)) = some e ∧
        c = (modOp u g fun o => { o with atStart := none }).cntG g 14 ∧ coreRuns u = true ∧ g < 4096 ∧ e.deadline ≠ 0 ∧
        t0 + e.deadline ≤ u.tickCount ∧ e.strict = true) :=
  ⟨⟨r, .host, 0, 0, 0, 0, 0, 15, by decide +kernel⟩,
  ⟨r, .host, 0, 0, 0, 15, by decide +kernel⟩,
  ⟨r, _, 0, 5, rfl, by decide +kernel⟩,
  ⟨(wrs r [(F.TIM_TT_STAT_STATE_A, 0, 1), (F.TIM_TT_STAT_ACTIVE, 0, 1)]), _, .host, 0, 0, 0, 0, 15, rfl, by decide +kernel⟩,
  ⟨(wrs r [(F.TIM_TT_STAT_STATE_A, 0, 0)]), _, .host, rfl, by decide +kernel⟩,
  ⟨r, _, .host, rfl, by decide +kernel⟩,
  ⟨(wrs r [(F.TIM_TT_STAT_STATE_A, 0, 1), (F.TIM_TT_STAT_ACTIVE, 0, 1)]), _, .host, rfl, by decide +kernel⟩,
  ⟨(wrs r [(F.TIM_TT_STAT_STATE_B, 0, 1)]), _, .host, rfl, by decide +kernel⟩,
  ⟨(wrs r [(F.TIM_TT_STAT_STATE_A, 0, 1), (F.TIM_ADM_STAT_BUSY, 0, 1), (F.TIM_STAT_VALID, 0, 1), (F.TIM_ADM_CFG_CIST_RSV, 0,
      0)]), _, _, 0, _, rfl, rfl, rfl, by decide +kernel⟩,
  ⟨(wrs (r) [(F.TIM_ADM_STAT_BUSY, 0, 1), (F.TIM_TT_PHASE_PHASE, 0, 1)]), _, _, 0, _, rfl, rfl, rfl, by decide +kernel⟩,
  ⟨(wrs r [(F.TIM_TT_PER_PERIOD, 0, 65536), (F.TIM_ADM_CFG_CIST_RSV, 0, 0)]), _, 0, _, _, rfl, rfl, rfl, by decide +kernel⟩,
  ⟨(wrs (r) [(F.TIM_TT_PER_PERIOD, 0, 65536)]), _, 0, _, _, rfl, rfl, rfl, by decide +kernel⟩,
  ⟨(wrs (running []) [(F.TIM_TT_STAT_ACTIVE, 0, 1), (F.TIM_GRP_B_VALID, 0, 1), (F.TIM_GRP_B_GID, 0, 5), (F.TIM_GRP_B_DEADLINE,
      0, 1)]), _, _, 5, 0, _, _, _, rfl, (Option.some_get (by decide +kernel)).symm,
      (Option.some_get (by decide +kernel)).symm, (Option.some_get (by decide +kernel)).symm, rfl, by decide +kernel⟩,
  ⟨(wrs (running []) [(F.TIM_TT_STAT_ACTIVE, 0, 1), (F.TIM_GRP_B_VALID, 0, 1), (F.TIM_GRP_B_GID, 0, 5), (F.TIM_GRP_B_DEADLINE,
      0, 1), (F.TIM_GRP_B_STRICT, 0, 1)]), _, _, 5, 0, _, _, _, rfl, (Option.some_get (by decide +kernel)).symm,
      (Option.some_get (by decide +kernel)).symm, (Option.some_get (by decide +kernel)).symm, rfl, by decide +kernel⟩⟩

theorem witness_GroupSetup :
    (∃ (s : State) (m : Master) (g w val be b : Nat), g < 4096 ∧ val < 2 ^ 32 ∧ beOk m be = true ∧ b < 2 ∧
        takesWrite s m .GRP_ENT g w = true) ∧
    (∃ (s : State) (m : Master) (g val be b i : Nat), g < 4096 ∧ val < 2 ^ 32 ∧ beOk m be = true ∧ b < 2 ∧
        takesWrite s m ((rankReg b)) i 0 = true) ∧
    (∃ (s : State) (m : Master) (g val be b : Nat), g < 4096 ∧ val < 2 ^ 32 ∧ beOk m be = true ∧ b < 2 ∧
        takesWrite s m .GRP_CMD 0 0 = true) ∧
    (∃ (s u : State) (g at_ : Nat), u = s.advance at_ ∧ coreRuns u = true ∧ g < 4096) ∧
    (∃ (s c : State) (m : Master) (g w val be : Nat), c = wrote s m .GRP_ENT g w ∧ g < 4096 ∧ val < 2 ^ 32 ∧
        beOk m be = true ∧ takesWrite s m .GRP_ENT g w = true ∧ groupLive c g = false ∧ c.rd F.GRP_ENT_STATE g = 0) ∧
    (∃ (s c : State) (m : Master) (b i val be : Nat), c = wrote s m (rankReg b) i 0 ∧ b < 2 ∧ val < 2 ^ 32 ∧
        beOk m be = true ∧ takesWrite s m (rankReg b) i 0 = true ∧ rankLocked c b i = false) ∧
    (∃ (s c : State) (m : Master) (g : Nat), c = wrote s m .GRP_CMD 0 0 ∧ g < 4096 ∧ takesWrite s m .GRP_CMD 0 0 = true ∧
        createResult c g false (planWritten c g) = 0) ∧
    (∃ (s c : State) (m : Master) (g : Nat), c = wrote s m .GRP_CMD 0 0 ∧ g < 4096 ∧ takesWrite s m .GRP_CMD 0 0 = true ∧
        createResult c g false (planWritten c g) ≠ 0) ∧
    (∃ (s c : State) (m : Master) (g : Nat), c = wrote s m .GRP_CMD 0 0 ∧ g < 4096 ∧ takesWrite s m .GRP_CMD 0 0 = true ∧
        createResult c g true (planShape c) = 0) ∧
    (∃ (s c : State) (m : Master) (g : Nat), c = wrote s m .GRP_CMD 0 0 ∧ g < 4096 ∧ takesWrite s m .GRP_CMD 0 0 = true ∧
        createResult c g true (planShape c) ≠ 0) ∧
    (∃ (s c d : State) (m : Master) (g : Nat), c = wrote s m .GRP_CMD 0 0 ∧
        d = modGrp (withdrawQueued (c.wr F.GRP_ENT_STATE g 3) g) g (fun x => { x with closingAt := some c.now }) ∧ g < 4096 ∧
        takesWrite s m .GRP_CMD 0 0 = true ∧ groupActive c g = true ∧ (getGrp d g).op = none) ∧
    (∃ (s c d : State) (m : Master) (g : Nat) (o : GrpOp), c = wrote s m .GRP_CMD 0 0 ∧
        d = modGrp (withdrawQueued (c.wr F.GRP_ENT_STATE g 3) g) g (fun x => { x with closingAt := some c.now }) ∧
        (getGrp d g).op = some o ∧ g < 4096 ∧ takesWrite s m .GRP_CMD 0 0 = true ∧ groupActive c g = true) ∧
    (∃ (s c : State) (m : Master) (g : Nat), c = wrote s m .GRP_CMD 0 0 ∧ g < 4096 ∧ takesWrite s m .GRP_CMD 0 0 = true ∧
        groupActive c g = false) ∧
    (∃ (s c : State) (m : Master) (g : Nat) (o : GrpOp), c = wrote s m .GRP_CMD 0 0 ∧ (getGrp c g).op = some o ∧ g < 4096 ∧
        takesWrite s m .GRP_CMD 0 0 = true ∧ groupActive c g = true) ∧
    (∃ (s u d : State) (g at_ t0 : Nat), u = s.advance at_ ∧ (getGrp u g).closingAt = some t0 ∧
        d = setGrp (resetFields u .GRP_ENT g) g grpInit ∧ coreRuns u = true ∧ g < 4096 ∧ u.rd F.GRP_ENT_STATE g = 3 ∧
        (getGrp u g).op = none ∧ t0 + 1000 * u.rd0 F.SWC_BANK_HOLD_HOLD ≤ u.now) :=
  ⟨⟨r, .host, 5, 0, 0, 15, 0, by decide +kernel⟩,
  ⟨r, .host, 5, 0, 15, 0, 0, by decide +kernel⟩,
  ⟨r, .host, 5, 0, 15, 0, by decide +kernel⟩,
  ⟨r, _, 5, 0, rfl, by decide +kernel⟩,
  ⟨r, _, .host, 0, 0, 0, 15, rfl, by decide +kernel⟩,
  ⟨r, _, .host, 0, 0, 0, 15, rfl, by decide +kernel⟩,
  ⟨(wrs (group r) [(F.GRP_ENT_STATE, 5, 1)]), _, .host, 5, rfl, by decide +kernel⟩,
  ⟨r, _, .host, 0, rfl, by decide +kernel⟩,
  ⟨(wrs (inStage (group r) 1 10) [(F.GRP_ENT_STATE, 5, 1), (F.GRP_SHAPE_NROW, 0, 1), (F.GRP_SHAPE_NCOL, 0, 1),
      (F.GRP_SHAPE_NSLOT, 0, 2)]), _, .host, 5, rfl, by decide +kernel⟩,
  ⟨r, _, .host, 0, rfl, by decide +kernel⟩,
  ⟨(group r), _, _, .host, 5, rfl, rfl, by decide +kernel⟩,
  ⟨(running []), _, _, .host, 5, _, rfl, rfl, (Option.some_get (by decide +kernel)).symm, by decide +kernel⟩,
  ⟨r, _, .host, 0, rfl, by decide +kernel⟩,
  ⟨(running []), _, .host, 5, _, rfl, (Option.some_get (by decide +kernel)).symm, by decide +kernel⟩,
  ⟨(wrs (modGrp (group (late r)) 5 fun x => { x with closingAt := some 0 }) [(F.GRP_ENT_STATE, 5, 3)]), _, _, 5, 0, _, rfl,
      (Option.some_get (by decide +kernel)).symm, rfl, by decide +kernel⟩⟩

theorem witness_GroupLaunch :
    (∃ (s u : State) (p : StPkt) (at_ : Nat), u = s.advance at_ ∧ stationHas u p 0x14 = true) ∧
    (∃ (s u : State) (p : StPkt) (at_ : Nat), u = s.advance at_ ∧ stationHas u p 0x10 = true) ∧
    (∃ (s u : State) (p : StPkt) (at_ : Nat), u = s.advance at_ ∧ stationHas u p 0x11 = true) ∧
    (∃ (s u : State) (g at_ : Nat), u = s.advance at_ ∧ coreRuns u = true ∧ g < 4096) ∧
    (∃ (s u c : State) (p : StPkt) (at_ g seq n : Nat) (l : GLink), u = s.advance at_ ∧ c = takeStation u p ∧ g = p.hdr.gid ∧
        seq = p.hdr.seq ∧ l = linkCode c p.arr ∧ n = 2 ^ c.rd F.GRP_ENT_QLOG g ∧ stationHas u p 0x14 = true ∧
        collectiveReason c p.hdr p.arr = 0 ∧ c.flag F.GRP_ENT_MODE g = true ∧ 1 ≤ seqSub (nextSeq c g) seq ∧
        seqSub (nextSeq c g) seq ≤ n) ∧
    (∃ (s u c : State) (p : StPkt) (at_ g seq n : Nat) (l : GLink), u = s.advance at_ ∧ c = takeStation u p ∧ g = p.hdr.gid ∧
        seq = p.hdr.seq ∧ l = linkCode c p.arr ∧ n = 2 ^ c.rd F.GRP_ENT_QLOG g ∧ stationHas u p 0x14 = true ∧
        collectiveReason c p.hdr p.arr = 0 ∧ c.flag F.GRP_ENT_MODE g = true ∧ n < seqSub (nextSeq c g) seq ∧
        n ≤ seqSub seq (nextSeq c g)) ∧
    (∃ (s u c : State) (p : StPkt) (at_ g seq n : Nat) (l : GLink) (d e : State) (w : List Word) (sig : List Byte),
        u = s.advance at_ ∧ c = takeStation u p ∧ g = p.hdr.gid ∧ seq = p.hdr.seq ∧ l = linkCode c p.arr ∧
        n = 2 ^ c.rd F.GRP_ENT_QLOG g ∧ w = wordsOf 16 p.data ∧ sig = signatureOf w (c.rd F.GRP_ENT_GEPOCH g) ∧
        d = noteFirst c g seq ∧
        e = putQstore (modGrp d g fun x => { x with queue := x.queue ++ [⟨seq, w, [(l, w)], none⟩] }) g seq w ∧
        stationHas u p 0x14 = true ∧ collectiveReason c p.hdr p.arr = 0 ∧ c.flag F.GRP_ENT_MODE g = true ∧
        (seqSub (nextSeq c g) seq = 0 ∨ n < seqSub (nextSeq c g) seq) ∧ seqSub seq (nextSeq c g) < n ∧ p.hdr.len = 64 ∧
        descReserved c g w true = false ∧ (getGrp d g).queue.find? (·.seq == seq) = none ∧ reqsDiffer e g seq sig = false) ∧
    (∃ (s u c : State) (p : StPkt) (at_ g seq n : Nat) (l : GLink) (d : State) (w : List Word) (sig : List Byte) (q : QEnt),
        u = s.advance at_ ∧ c = takeStation u p ∧ g = p.hdr.gid ∧ seq = p.hdr.seq ∧ l = linkCode c p.arr ∧
        n = 2 ^ c.rd F.GRP_ENT_QLOG g ∧ w = wordsOf 16 p.data ∧ sig = signatureOf w (c.rd F.GRP_ENT_GEPOCH g) ∧
        d = noteFirst c g seq ∧ (getGrp d g).queue.find? (·.seq == seq) = some q ∧ stationHas u p 0x14 = true ∧
        collectiveReason c p.hdr p.arr = 0 ∧ c.flag F.GRP_ENT_MODE g = true ∧
        (seqSub (nextSeq c g) seq = 0 ∨ n < seqSub (nextSeq c g) seq) ∧ seqSub seq (nextSeq c g) < n ∧ p.hdr.len = 64 ∧
        descReserved c g w true = false ∧ signatureOf q.desc (c.rd F.GRP_ENT_GEPOCH g) = sig) ∧
    (∃ (s u : State) (g at_ : Nat) (d : List Word) (hop : Option Nat), u = s.advance at_ ∧ launchDesc u g = some (d, hop) ∧
        coreRuns u = true ∧ g < 4096 ∧ bitAt (dW d 2) 31 = true ∧ (getGrp u g).gate = none ∧ gateMet u d = false) ∧
    (∃ (s u : State) (g at_ : Nat) (d : List Word) (hop : Option Nat), u = s.advance at_ ∧ launchDesc u g = some (d, hop) ∧
        coreRuns u = true ∧ g < 4096 ∧ (getGrp u g).gate.isSome = true ∧ gateMet u d = false) ∧
    (∃ (s u : State) (g at_ : Nat) (d : List Word) (hop : Option Nat), u = s.advance at_ ∧ launchDesc u g = some (d, hop) ∧
        coreRuns u = true ∧ g < 4096 ∧ (bitAt (dW d 2) 31 = false ∧ (getGrp u g).gate = none ∨ gateMet u d = true)) ∧
    (∃ (s u c : State) (p : StPkt) (at_ g seq : Nat) (l : GLink), u = s.advance at_ ∧ c = takeStation u p ∧ g = p.hdr.gid ∧
        seq = p.hdr.seq ∧ l = linkCode c p.arr ∧ stationHas u p 0x10 = true ∧ collectiveReason c p.hdr p.arr = 0 ∧
        (getGrp c g).reqs.any (·.link == l) = true) ∧
    (∃ (s u c : State) (p : StPkt) (at_ g seq : Nat) (l : GLink), u = s.advance at_ ∧ c = takeStation u p ∧ g = p.hdr.gid ∧
        seq = p.hdr.seq ∧ l = linkCode c p.arr ∧ stationHas u p 0x10 = true ∧ collectiveReason c p.hdr p.arr = 0 ∧
        (getGrp c g).reqs.any (·.link == l) = false ∧ seqEnded c g seq = false ∧
        (p.hdr.len ≠ 24 ∨ p.hdr.opw0 ≠ dW (descOfSig (p.data.take 24)) 1 ∨ descReserved c g (descOfSig (p.data.take 24)) false = true)) ∧
    (∃ (s u c : State) (p : StPkt) (at_ g seq : Nat) (l : GLink), u = s.advance at_ ∧ c = takeStation u p ∧ g = p.hdr.gid ∧
        seq = p.hdr.seq ∧ l = linkCode c p.arr ∧ stationHas u p 0x10 = true ∧ collectiveReason c p.hdr p.arr = 0 ∧
        (getGrp c g).reqs.any (·.link == l) = false ∧ seqEnded c g seq = false ∧ p.hdr.len = 24 ∧
        p.hdr.opw0 = dW (descOfSig (p.data.take 24)) 1 ∧ descReserved c g (descOfSig (p.data.take 24)) false = false ∧
        (getGrp c g).op = none ∧ c.isSpine = false ∧ (getGrp c g).queue.find? (·.seq == seq) = none) ∧
    (∃ (s u v a b d : State) (at_ g w : Nat) (hostData : Option (List Byte)) (o : GrpOp) (cs ds : List Chunk) (rs : List GReq),
        u = s.advance at_ ∧ (getGrp u g).op = some o ∧ w = o.nextWave ∧ waveSpace u g (waveChunks u g o) = some (cs, v) ∧
        ds = giveHost v g o cs hostData ∧ rs = (getGrp u g).reqs.filter (·.seq == o.seq) ∧
        a = modOp ((modGrp v g fun x => { x with reqs := x.reqs.filter (·.seq != o.seq) }).cntG g 10 (hostGiven ds)) g (fun o => { o with nextWave := w + 1, chunks := o.chunks ++ ds }) ∧
        b = rs.foldl (fun s r => sendGrant s g r.link 0 o.seq (w * o.wave) ((ds.map fun c => ((c.want.find? (·.1 == r.link)).map (·.2)).getD 0).foldl (· + ·) 0)) a ∧
        d = (ds.map (·.idx)).foldl (fun s i => chunkArrived s g i) ((groupUps b g).foldl (fun s l => askUp s g l w) b) ∧
        coreRuns u = true ∧ grantOrder u = [g] ∧ u.grpRr.1 ≠ g ∧ waveTooBig u g (waveChunks u g o) = false ∧
        u.pumpHold = none) ∧
    (∃ (s u c d : State) (p : StPkt) (at_ g w : Nat) (l : GLink) (o : GrpOp), u = s.advance at_ ∧ c = takeStation u p ∧
        g = p.hdr.gid ∧ l = linkCode c p.arr ∧ (getGrp c g).op = some o ∧ w = p.hdr.opw1 / max 1 o.wave ∧
        d = askUp (modOp c g fun o => { o with upGot := o.upGot ++ [(l, w)] }) g l (w + 1) ∧ stationHas u p 0x11 = true ∧
        collectiveReason c p.hdr p.arr = 0 ∧ seqEnded c g p.hdr.seq = false ∧ o.seq = p.hdr.seq ∧ p.hdr.opw0 / 2 ^ 30 = 0 ∧
        o.upReq.contains (l, w) = true ∧ o.upGot.contains (l, w) = false) :=
  ⟨⟨r, _, (pk 0x14 0 64 5 0 0 2 (desc.flatMap fun w => leBytes 4 w.toNat)), 0, rfl, by decide +kernel⟩,
  ⟨r, _, (pk 0x10 0 24 5 0 0 2 []), 0, rfl, by decide +kernel⟩,
  ⟨r, _, (pk 0x11 0 0 5 0 0 128 []), 0, rfl, by decide +kernel⟩,
  ⟨r, _, 5, 0, rfl, by decide +kernel⟩,
  ⟨(wrs (group r) [(F.GRP_ENT_NEXT_SEQ, 5, 1)]), _, _, (pk 0x14 0 64 5 0 0 2 (rung desc)), 0, _, _, _, _, rfl, rfl, rfl, rfl,
      rfl, rfl, by decide +kernel⟩,
  ⟨(queued gated), _, _, (pk 0x14 16 64 5 0 0 2 (rung desc)), 0, _, _, _, _, rfl, rfl, rfl, rfl, rfl, rfl, by decide +kernel⟩,
  ⟨(group r), _, _, (pk 0x14 0 64 5 0 0 2 (desc.flatMap fun w => leBytes 4 w.toNat)), 0, _, _, _, _, _, _, _, _, rfl, rfl,
      rfl, rfl, rfl, rfl, rfl, rfl, rfl, rfl, by decide +kernel⟩,
  ⟨(modGrp (group r) 5 fun x => { x with queue := [⟨0, desc, [(.member 0, desc), (.member 2, desc)], none⟩] }), _, _,
      (pk 0x14 0 64 5 0 0 2 (desc.flatMap fun w => leBytes 4 w.toNat)), 0, _, _, _, _, _, _, _, _, rfl, rfl, rfl, rfl, rfl,
      rfl, rfl, rfl, rfl, (Option.some_get (by decide +kernel)).symm, by decide +kernel⟩,
  ⟨(queued gated), _, 5, 0, ((launchDesc ((queued gated).advance 0) 5).get (by decide +kernel)).1,
      ((launchDesc ((queued gated).advance 0) 5).get (by decide +kernel)).2, rfl,
      (Option.some_get _).symm.trans (congrArg some (pair_parts)), by decide +kernel⟩,
  ⟨(modGrp (queued gated) 5 fun x => { x with gate := some 0 }), _, 5, 0,
      ((launchDesc ((modGrp (queued gated) 5 fun x => { x with gate := some 0 }).advance 0) 5).get (by decide +kernel)).1,
      ((launchDesc ((modGrp (queued gated) 5 fun x => { x with gate := some 0 }).advance 0) 5).get (by decide +kernel)).2,
      rfl, (Option.some_get _).symm.trans (congrArg some (pair_parts)), by decide +kernel⟩,
  ⟨(modGrp (group r) 5 fun x => { x with queue := [⟨0, desc, [(.member 0, desc), (.member 2, desc)], none⟩] }), _, 5, 0,
      ((launchDesc ((modGrp (group r) 5 fun x => { x with queue := [⟨0, desc, [(.member 0, desc), (.member 2, desc)], none⟩] }).advance 0) 5).get (by decide +kernel)).1,
      ((launchDesc ((modGrp (group r) 5 fun x => { x with queue := [⟨0, desc, [(.member 0, desc), (.member 2, desc)], none⟩] }).advance 0) 5).get (by decide +kernel)).2,
      rfl, (Option.some_get _).symm.trans (congrArg some (pair_parts)), by decide +kernel⟩,
  ⟨(modGrp (running []) 5 fun x => { x with reqs := [⟨.member 0, 0, 0, 0, [], 0⟩, ⟨.member 2, 0, 0, 0, [], 0⟩] }), _, _,
      (pk 0x10 0 24 5 0 0 2 []), 0, _, _, _, rfl, rfl, rfl, rfl, rfl, by decide +kernel⟩,
  ⟨(group r), _, _, (pk 0x10 0 24 5 0 0 2 []), 0, _, _, _, rfl, rfl, rfl, rfl, rfl, by decide +kernel⟩,
  ⟨(group r), _, _, (pk 0x10 0 24 0x00108005 0 0 2 (signatureOf desc 0)), 0, _, _, _, rfl, rfl, rfl, rfl, rfl,
      by decide +kernel⟩,
  ⟨(wrs (modGrp (running []) 5 fun x => { x with reqs := [⟨.member 0, 0, 0, 0, [], 0⟩, ⟨.member 2, 0, 0, 0, [], 0⟩] }) [(F.PMP_STAT_STATE,
      0, 2), (F.PMP_POOL_ACTIVE, 0, 1)]), _,
      ((waveSpace ((wrs (modGrp (running []) 5 fun x => { x with reqs := [⟨.member 0, 0, 0, 0, [], 0⟩, ⟨.member 2, 0, 0, 0, [], 0⟩] }) [(F.PMP_STAT_STATE,
      0, 2), (F.PMP_POOL_ACTIVE, 0,
      1)]).advance 0) ((grantOrder ((wrs (modGrp (running []) 5 fun x => { x with reqs := [⟨.member 0, 0, 0, 0, [], 0⟩, ⟨.member 2, 0, 0, 0, [], 0⟩] }) [(F.PMP_STAT_STATE,
      0, 2), (F.PMP_POOL_ACTIVE, 0,
      1)]).advance 0)).head (by decide +kernel)) (waveChunks ((wrs (modGrp (running []) 5 fun x => { x with reqs := [⟨.member 0, 0, 0, 0, [], 0⟩, ⟨.member 2, 0, 0, 0, [], 0⟩] }) [(F.PMP_STAT_STATE,
      0, 2), (F.PMP_POOL_ACTIVE, 0,
      1)]).advance 0) ((grantOrder ((wrs (modGrp (running []) 5 fun x => { x with reqs := [⟨.member 0, 0, 0, 0, [], 0⟩, ⟨.member 2, 0, 0, 0, [], 0⟩] }) [(F.PMP_STAT_STATE,
      0, 2), (F.PMP_POOL_ACTIVE, 0,
      1)]).advance 0)).head (by decide +kernel)) (((getGrp ((wrs (modGrp (running []) 5 fun x => { x with reqs := [⟨.member 0, 0, 0, 0, [], 0⟩, ⟨.member 2, 0, 0, 0, [], 0⟩] }) [(F.PMP_STAT_STATE,
      0, 2), (F.PMP_POOL_ACTIVE, 0,
      1)]).advance 0) ((grantOrder ((wrs (modGrp (running []) 5 fun x => { x with reqs := [⟨.member 0, 0, 0, 0, [], 0⟩, ⟨.member 2, 0, 0, 0, [], 0⟩] }) [(F.PMP_STAT_STATE,
      0, 2), (F.PMP_POOL_ACTIVE, 0,
      1)]).advance 0)).head (by decide +kernel))).op).get (by decide +kernel)))).get (by decide +kernel)).2, _, _, _, 0,
      ((grantOrder ((wrs (modGrp (running []) 5 fun x => { x with reqs := [⟨.member 0, 0, 0, 0, [], 0⟩, ⟨.member 2, 0, 0, 0, [], 0⟩] }) [(F.PMP_STAT_STATE,
      0, 2), (F.PMP_POOL_ACTIVE, 0, 1)]).advance 0)).head (by decide +kernel)), _, none, _,
      ((waveSpace ((wrs (modGrp (running []) 5 fun x => { x with reqs := [⟨.member 0, 0, 0, 0, [], 0⟩, ⟨.member 2, 0, 0, 0, [], 0⟩] }) [(F.PMP_STAT_STATE,
      0, 2), (F.PMP_POOL_ACTIVE, 0,
      1)]).advance 0) ((grantOrder ((wrs (modGrp (running []) 5 fun x => { x with reqs := [⟨.member 0, 0, 0, 0, [], 0⟩, ⟨.member 2, 0, 0, 0, [], 0⟩] }) [(F.PMP_STAT_STATE,
      0, 2), (F.PMP_POOL_ACTIVE, 0,
      1)]).advance 0)).head (by decide +kernel)) (waveChunks ((wrs (modGrp (running []) 5 fun x => { x with reqs := [⟨.member 0, 0, 0, 0, [], 0⟩, ⟨.member 2, 0, 0, 0, [], 0⟩] }) [(F.PMP_STAT_STATE,
      0, 2), (F.PMP_POOL_ACTIVE, 0,
      1)]).advance 0) ((grantOrder ((wrs (modGrp (running []) 5 fun x => { x with reqs := [⟨.member 0, 0, 0, 0, [], 0⟩, ⟨.member 2, 0, 0, 0, [], 0⟩] }) [(F.PMP_STAT_STATE,
      0, 2), (F.PMP_POOL_ACTIVE, 0,
      1)]).advance 0)).head (by decide +kernel)) (((getGrp ((wrs (modGrp (running []) 5 fun x => { x with reqs := [⟨.member 0, 0, 0, 0, [], 0⟩, ⟨.member 2, 0, 0, 0, [], 0⟩] }) [(F.PMP_STAT_STATE,
      0, 2), (F.PMP_POOL_ACTIVE, 0,
      1)]).advance 0) ((grantOrder ((wrs (modGrp (running []) 5 fun x => { x with reqs := [⟨.member 0, 0, 0, 0, [], 0⟩, ⟨.member 2, 0, 0, 0, [], 0⟩] }) [(F.PMP_STAT_STATE,
      0, 2), (F.PMP_POOL_ACTIVE, 0,
      1)]).advance 0)).head (by decide +kernel))).op).get (by decide +kernel)))).get (by decide +kernel)).1, _, _, rfl,
      (Option.some_get (by decide +kernel)).symm, rfl, (Option.some_get _).symm.trans (congrArg some (pair_parts)), rfl, rfl,
      rfl, rfl, rfl, by decide +kernel⟩,
  ⟨(wrs (running [chunk 1]) [(F.GRP_ENT_ROW_ST, 5, 1)]), _, _, _, (pk 0x11 0 0 5 0 0 128 []), 0, _, _, _, _, rfl, rfl, rfl,
      rfl, (Option.some_get (by decide +kernel)).symm, rfl, rfl, by decide +kernel⟩⟩

theorem witness_GroupData :
    (∃ (s u : State) (p : StPkt) (at_ : Nat), u = s.advance at_ ∧ stationHas u p 0x12 = true) ∧
    (∃ (s u : State) (p : StPkt) (at_ : Nat), u = s.advance at_ ∧ stationHas u p 0x15 = true) ∧
    (∃ (s u : State) (p : StPkt) (at_ : Nat), u = s.advance at_ ∧ stationHas u p 0x16 = true) ∧
    (∃ (s u : State) (p : StPkt) (at_ : Nat), u = s.advance at_ ∧ stationHas u p 0x13 = true) ∧
    (∃ (s u c : State) (p : StPkt) (at_ : Nat) (o : GrpOp) (k : Chunk) (w : GLink × Nat), u = s.advance at_ ∧
        c = takeStation u p ∧ (getGrp c p.hdr.gid).op = some o ∧
        (o.chunks.find? fun k => k.idx == p.hdr.opw1 && k.stage == 0) = some k ∧
        (k.want.find? fun x => x.1 == linkCode c p.arr) = some w ∧ stationHas u p 0x12 = true ∧
        collectiveReason c p.hdr p.arr = 0 ∧ seqEnded c p.hdr.gid p.hdr.seq = false ∧ o.seq = p.hdr.seq ∧
        gotOf k (linkCode c p.arr) = [] ∧ (c.isSpine && usesXp o.d && !isBarrier o.d && xpReserved p.data) = false ∧
        p.hdr.opw0 = dW o.d 1 ∧ p.hdr.opw2 = sigcOf (signatureOf o.d o.ep)) ∧
    (∃ (s u c : State) (p : StPkt) (at_ : Nat) (o : GrpOp) (k : Chunk) (w : GLink × Nat), u = s.advance at_ ∧
        c = takeStation u p ∧ (getGrp c p.hdr.gid).op = some o ∧
        (o.chunks.find? fun k => k.idx == p.hdr.opw1 && k.stage == 0) = some k ∧
        (k.want.find? fun x => x.1 == linkCode c p.arr) = some w ∧ stationHas u p 0x15 = true ∧
        collectiveReason c p.hdr p.arr = 0 ∧ seqEnded c p.hdr.gid p.hdr.seq = false ∧ o.seq = p.hdr.seq ∧
        gotOf k (linkCode c p.arr) = [] ∧ (c.isSpine && usesXp o.d && !isBarrier o.d && xpReserved p.data) = false ∧
        p.hdr.opw0 = dW o.d 1 ∧ p.hdr.opw2 = sigcOf (signatureOf o.d o.ep)) ∧
    (∃ (s u c : State) (p : StPkt) (at_ : Nat) (o : GrpOp) (k : Chunk) (w : GLink × Nat), u = s.advance at_ ∧
        c = takeStation u p ∧ (getGrp c p.hdr.gid).op = some o ∧
        (o.chunks.find? fun k => k.idx == p.hdr.opw1 && k.stage == 0) = some k ∧
        (k.want.find? fun x => x.1 == linkCode c p.arr) = some w ∧ stationHas u p 0x16 = true ∧
        collectiveReason c p.hdr p.arr = 0 ∧ seqEnded c p.hdr.gid p.hdr.seq = false ∧ o.seq = p.hdr.seq ∧
        gotOf k (linkCode c p.arr) = [] ∧ (c.isSpine && usesXp o.d && !isBarrier o.d && xpReserved p.data) = false ∧
        p.hdr.opw0 = dW o.d 1 ∧ p.hdr.opw2 = sigcOf (signatureOf o.d o.ep)) ∧
    (∃ (s u c : State) (p : StPkt) (at_ : Nat) (o : GrpOp) (k : Chunk), u = s.advance at_ ∧ c = takeStation u p ∧
        (getGrp c p.hdr.gid).op = some o ∧ (o.chunks.find? (·.idx == p.hdr.opw1)) = some k ∧ stationHas u p 0x13 = true ∧
        collectiveReason c p.hdr p.arr = 0 ∧ seqEnded c p.hdr.gid p.hdr.seq = false ∧ o.seq = p.hdr.seq ∧
        isTwoStage c p.hdr.gid = false ∧ linkCode c p.arr = lastUp c p.hdr.gid ∧ bits p.hdr.opw2 26 2 = 0 ∧ k.stage = 3 ∧
        k.sentUp.contains (linkCode c p.arr) = true ∧ opCount o.d ≠ 0 ∧ opCode o.d = 0 ∧
        stageElems false (finalFmt o.d) (k.down ++ [p.data]) < k.elems) ∧
    (∃ (s u c : State) (p : StPkt) (at_ : Nat), u = s.advance at_ ∧ c = takeStation u p ∧ collectiveReason c p.hdr p.arr = 0 ∧
        seqEnded c p.hdr.gid p.hdr.seq = true ∧ stationHas u p 0x12 = true) ∧
    (∃ (s u c : State) (p : StPkt) (at_ : Nat), u = s.advance at_ ∧ c = takeStation u p ∧ collectiveReason c p.hdr p.arr = 0 ∧
        seqEnded c p.hdr.gid p.hdr.seq = true ∧ stationHas u p 0x13 = true) ∧
    (∃ (s u c : State) (p : StPkt) (at_ : Nat), u = s.advance at_ ∧ c = takeStation u p ∧ collectiveReason c p.hdr p.arr = 0 ∧
        seqEnded c p.hdr.gid p.hdr.seq = true ∧ stationHas u p 0x15 = true) ∧
    (∃ (s u c : State) (p : StPkt) (at_ : Nat), u = s.advance at_ ∧ c = takeStation u p ∧ collectiveReason c p.hdr p.arr = 0 ∧
        seqEnded c p.hdr.gid p.hdr.seq = true ∧ stationHas u p 0x16 = true) ∧
    (∃ (s u c : State) (p : StPkt) (at_ : Nat), u = s.advance at_ ∧ c = takeStation u p ∧ collectiveReason c p.hdr p.arr = 0 ∧
        seqEnded c p.hdr.gid p.hdr.seq = false ∧ (getGrp c p.hdr.gid).op = none ∧ stationHas u p 0x12 = true) ∧
    (∃ (s u c : State) (p : StPkt) (at_ : Nat), u = s.advance at_ ∧ c = takeStation u p ∧ collectiveReason c p.hdr p.arr = 0 ∧
        seqEnded c p.hdr.gid p.hdr.seq = false ∧ (getGrp c p.hdr.gid).op = none ∧ stationHas u p 0x15 = true) ∧
    (∃ (s u c : State) (p : StPkt) (at_ : Nat), u = s.advance at_ ∧ c = takeStation u p ∧ collectiveReason c p.hdr p.arr = 0 ∧
        seqEnded c p.hdr.gid p.hdr.seq = false ∧ (getGrp c p.hdr.gid).op = none ∧ stationHas u p 0x16 = true) :=
  ⟨⟨r, _, (pk 0x12 0 256 0x00108005 0 (sigcOf (signatureOf desc 0)) 2 (List.replicate 256 0)), 0, rfl, by decide +kernel⟩,
  ⟨r, _, (pk 0x15 0 256 0x00108005 0 (sigcOf (signatureOf desc 0)) 2 (List.replicate 256 0)), 0, rfl, by decide +kernel⟩,
  ⟨r, _, (pk 0x16 0 256 0x00108005 0 (sigcOf (signatureOf desc 0)) 2 (List.replicate 256 0)), 0, rfl, by decide +kernel⟩,
  ⟨r, _, (pk 0x13 0 0 0x00108005 0 0 128 []), 0, rfl, by decide +kernel⟩,
  ⟨(running [chunk 0]), _, _, (pk 0x12 0 256 0x00108005 0 (sigcOf (signatureOf desc 0)) 2 (List.replicate 256 0)), 0, _, _, _,
      rfl, rfl, (Option.some_get (by decide +kernel)).symm, (Option.some_get (by decide +kernel)).symm,
      (Option.some_get (by decide +kernel)).symm, by decide +kernel⟩,
  ⟨(running [chunk 0]), _, _, (pk 0x15 0 256 0x00108005 0 (sigcOf (signatureOf desc 0)) 2 (List.replicate 256 0)), 0, _, _, _,
      rfl, rfl, (Option.some_get (by decide +kernel)).symm, (Option.some_get (by decide +kernel)).symm,
      (Option.some_get (by decide +kernel)).symm, by decide +kernel⟩,
  ⟨(running [chunk 0]), _, _, (pk 0x16 0 256 0x00108005 0 (sigcOf (signatureOf desc 0)) 2 (List.replicate 256 0)), 0, _, _, _,
      rfl, rfl, (Option.some_get (by decide +kernel)).symm, (Option.some_get (by decide +kernel)).symm,
      (Option.some_get (by decide +kernel)).symm, by decide +kernel⟩,
  ⟨(wrs (running [chunk 3]) [(F.GRP_ENT_ROW_ST, 5, 1)]), _, _, (pk 0x13 0 0 0x00108005 0 0 128 []), 0, _, _, rfl, rfl,
      (Option.some_get (by decide +kernel)).symm, (Option.some_get (by decide +kernel)).symm, by decide +kernel⟩,
  ⟨(wrs (running []) [(F.GRP_ENT_NEXT_SEQ, 5, 1)]), _, _,
      (pk 0x12 0 256 0x00108005 0 (sigcOf (signatureOf desc 0)) 2 (List.replicate 256 0)), 0, rfl, rfl, by decide +kernel⟩,
  ⟨(wrs (running []) [(F.GRP_ENT_NEXT_SEQ, 5, 1)]), _, _, (pk 0x13 0 0 5 0 0 2 []), 0, rfl, rfl, by decide +kernel⟩,
  ⟨(wrs (running []) [(F.GRP_ENT_NEXT_SEQ, 5, 1)]), _, _,
      (pk 0x15 0 256 0x00108005 0 (sigcOf (signatureOf desc 0)) 2 (List.replicate 256 0)), 0, rfl, rfl, by decide +kernel⟩,
  ⟨(wrs (running []) [(F.GRP_ENT_NEXT_SEQ, 5, 1)]), _, _,
      (pk 0x16 0 256 0x00108005 0 (sigcOf (signatureOf desc 0)) 2 (List.replicate 256 0)), 0, rfl, rfl, by decide +kernel⟩,
  ⟨(group r), _, _, (pk 0x12 0 256 0x00108005 0 (sigcOf (signatureOf desc 0)) 2 (List.replicate 256 0)), 0, rfl, rfl,
      by decide +kernel⟩,
  ⟨(group r), _, _, (pk 0x15 0 256 0x00108005 0 (sigcOf (signatureOf desc 0)) 2 (List.replicate 256 0)), 0, rfl, rfl,
      by decide +kernel⟩,
  ⟨(group r), _, _, (pk 0x16 0 256 0x00108005 0 (sigcOf (signatureOf desc 0)) 2 (List.replicate 256 0)), 0, rfl, rfl,
      by decide +kernel⟩⟩

theorem witness_GroupAborts :
    (∃ (s u : State) (g at_ : Nat), u = s.advance at_ ∧ coreRuns u = true ∧ g < 4096) ∧
    (∃ (s u : State) (p : StPkt) (at_ : Nat), u = s.advance at_ ∧ stationHas u p 0x06 = true) ∧
    (∃ (s u : State) (g at_ t0 n : Nat), u = s.advance at_ ∧
        n = (match (getGrp u g).op with | some o => o.gto | none => if (getGrp u g).firsts.any (·.1 == nextSeq u g) = true then u.rd F.GRP_ENT_GTO g else 0) ∧
        (getGrp u g).timer = some t0 ∧ coreRuns u = true ∧ g < 4096 ∧ n ≠ 0 ∧ (getGrp u g).gate = none ∧
        t0 + 1000 * n ≤ u.now) ∧
    (∃ (s u c d e : State) (p : StPkt) (at_ g : Nat), u = s.advance at_ ∧ c = takeStation u p ∧ g = p.hdr.gid ∧
        noteKey c g [p.hdr.seq, 0, seqCode p, p.hdr.opw1 % 2 ^ 20] = (true, d) ∧ e = forwardSeqctl d g p ∧
        stationHas u p 0x06 = true ∧ collectiveReason c p.hdr p.arr = 0 ∧ seqKind p = 0 ∧ actsFor e g = true ∧
        coverWaits e g = false) ∧
    (∃ (s u c d e : State) (p : StPkt) (at_ g : Nat), u = s.advance at_ ∧ c = takeStation u p ∧ g = p.hdr.gid ∧
        noteKey c g [p.hdr.seq, 0, seqCode p, p.hdr.opw1 % 2 ^ 20] = (true, d) ∧ e = forwardSeqctl d g p ∧
        stationHas u p 0x06 = true ∧ collectiveReason c p.hdr p.arr = 0 ∧ seqKind p = 0 ∧ actsFor e g = false ∧
        inHomeRack e g = true ∧ (getGrp e g).decided.contains p.hdr.seq = false ∧ (getGrp e g).asked.contains (p.hdr.seq,
        seqCode p) = false) ∧
    (∃ (s u c d e : State) (p : StPkt) (at_ g : Nat), u = s.advance at_ ∧ c = takeStation u p ∧ g = p.hdr.gid ∧
        noteKey c g [p.hdr.seq, 1] = (true, d) ∧ e = endSeq (forwardSeqctl d g p) g p.hdr.seq (seqCode p) true ∧
        stationHas u p 0x06 = true ∧ collectiveReason c p.hdr p.arr = 0 ∧ seqKind p = 1 ∧ inHomeRack e g = false) ∧
    (∃ (s u c d e : State) (p : StPkt) (at_ g : Nat), u = s.advance at_ ∧ c = takeStation u p ∧ g = p.hdr.gid ∧
        noteKey c g [p.hdr.seq, 1] = (true, d) ∧ e = endSeq (forwardSeqctl d g p) g p.hdr.seq (seqCode p) true ∧
        stationHas u p 0x06 = true ∧ collectiveReason c p.hdr p.arr = 0 ∧ seqKind p = 1 ∧ inHomeRack e g = true) ∧
    (∃ (s u c d : State) (p : StPkt) (at_ g : Nat), u = s.advance at_ ∧ c = takeStation u p ∧ g = p.hdr.gid ∧
        noteKey c g [p.hdr.seq, 2] = (true, d) ∧ stationHas u p 0x06 = true ∧ collectiveReason c p.hdr p.arr = 0 ∧
        seqKind p = 2) ∧
    (∃ (s u : State) (g at_ seq t0 : Nat), u = s.advance at_ ∧ coreRuns u = true ∧ g < 4096 ∧ groupLive u g = true ∧
        actsFor u g = true ∧ (getGrp u g).tokenDue = [(seq, t0)] ∧ t0 ≤ u.now) :=
  ⟨⟨r, _, 5, 0, rfl, by decide +kernel⟩,
  ⟨r, _, (pk 0x06 0 0 5 0 0 2 []), 0, rfl, by decide +kernel⟩,
  ⟨(running []), _, 5, 0, _, _, rfl, rfl, (Option.some_get (by decide +kernel)).symm, by decide +kernel⟩,
  ⟨(wrs (group r) [(F.GRP_PLANE_LIVE_LIVE, 0, 2), (F.FLT_DA_STAT_OWN_ACT, 0, 1)]), _, _, _, _, (pk 0x06 0 0 5 0 0 2 []), 0, _,
      rfl, rfl, rfl, pair_of (by decide +kernel), rfl, by decide +kernel⟩,
  ⟨(running []), _, _, _, _, (pk 0x06 0 0 5 0 0 2 []), 0, _, rfl, rfl, rfl, pair_of (by decide +kernel), rfl,
      by decide +kernel⟩,
  ⟨(wrs (group r) [(F.GRP_ENT_HOME_ROW, 5, 1)]), _, _, _, _, (pk 0x06 0 0 0x10000005 0 0 2 []), 0, _, rfl, rfl, rfl,
      pair_of (by decide +kernel), rfl, by decide +kernel⟩,
  ⟨(running []), _, _, _, _, (pk 0x06 0 0 0x10000005 0 0 2 []), 0, _, rfl, rfl, rfl, pair_of (by decide +kernel), rfl,
      by decide +kernel⟩,
  ⟨(group r), _, _, _, (pk 0x06 0 0 0x20000005 0 0 2 []), 0, _, rfl, rfl, rfl, pair_of (by decide +kernel),
      by decide +kernel⟩,
  ⟨(modGrp (wrs (group r) [(F.GRP_PLANE_LIVE_LIVE, 0, 2), (F.FLT_DA_STAT_OWN_ACT, 0,
      1)]) 5 fun x => { x with tokenDue := [(0, 0)] }), _, 5, 0, 0, 0, rfl, by decide +kernel⟩⟩

theorem witness_PumpSweeps :
    (∃ (s u : State) (g at_ n : Nat), u = s.advance at_ ∧ coreRuns u = true ∧ g < 4096 ∧ n < 168) ∧
    (∃ (s u : State) (g idx at_ : Nat) (c : Chunk) (o : GrpOp), u = s.advance at_ ∧ findChunk u g idx 1 = some c ∧
        (getGrp u g).op = some o ∧ coreRuns u = true ∧ g < 4096 ∧ sweeps o.d = true ∧ sweeperFor u c = none) ∧
    (∃ (s u : State) (g idx at_ : Nat) (c : Chunk) (o : GrpOp) (n : Nat), u = s.advance at_ ∧ findChunk u g idx 1 = some c ∧
        (getGrp u g).op = some o ∧ sweeperFor u c = some n ∧ coreRuns u = true ∧ g < 4096 ∧ sweeps o.d = true ∧
        isSweeping u n = false ∧ u.flag F.PMP_TEST_BUSY n = false) ∧
    (∃ (s u : State) (g idx at_ : Nat) (c : Chunk) (o : GrpOp) (n : Nat), u = s.advance at_ ∧ findChunk u g idx 1 = some c ∧
        (getGrp u g).op = some o ∧ sweeperFor u c = some n ∧ coreRuns u = true ∧ g < 4096 ∧ sweeps o.d = true ∧
        (isSweeping u n = true ∨ u.flag F.PMP_TEST_BUSY n = true)) ∧
    (∃ (s u v t : State) (g idx at_ n lc soon : Nat) (c : Chunk) (o : GrpOp), u = s.advance at_ ∧
        findChunk u g idx 2 = some c ∧ (getGrp u g).op = some o ∧ n = c.sweeper ∧ lc = laneCycles u g o c ∧
        v = (u.cntU n 1 lc).cntU n 2 (if n = c.pump then (lc + 63) / 64 + 48 else 2 * ((lc + 63) / 64 + 48)) ∧
        soon = (getPump v n).retireNext ∧
        t = settleGroups (sweepOutputs (modChunk (if n = c.pump then v.cntU n 0 else (v.cntU n 0).cntU n 4) g c.idx fun k => { k with stage := 1 }) g o c) ∧
        coreRuns u = true ∧ g < 4096 ∧ soon = 0) ∧
    (∃ (s u v t : State) (g idx at_ n lc soon : Nat) (c : Chunk) (o : GrpOp), u = s.advance at_ ∧
        findChunk u g idx 2 = some c ∧ (getGrp u g).op = some o ∧ n = c.sweeper ∧ lc = laneCycles u g o c ∧
        v = (u.cntU n 1 lc).cntU n 2 (if n = c.pump then (lc + 63) / 64 + 48 else 2 * ((lc + 63) / 64 + 48)) ∧
        soon = (getPump v n).retireNext ∧
        t = settleGroups (sweepOutputs (modChunk (if n = c.pump then v.cntU n 0 else (v.cntU n 0).cntU n 4) g c.idx fun k => { k with stage := 1 }) g o c) ∧
        coreRuns u = true ∧ g < 4096 ∧ soon ≠ 0) ∧
    (∃ (s u v w t : State) (g idx at_ n lc : Nat) (c : Chunk) (o : GrpOp) (ts : List Nat), u = s.advance at_ ∧
        findChunk u g idx 2 = some c ∧ (getGrp u g).op = some o ∧ n = c.sweeper ∧ lc = laneCycles u g o c ∧
        v = (u.cntU n 1 lc).cntU n 2 (if n = c.pump then (lc + 63) / 64 + 48 else 2 * ((lc + 63) / 64 + 48)) ∧
        w = v.report 6 1 n ∧ ts = (w.now :: (getPump w n).soft).take 256 ∧
        t = modChunk ((modPump (w.bump F.PMP_ERRCNT_MISMATCH n) n fun p => { p with soft := ts }).cntU n 3) g c.idx (fun k => { k with retried := true }) ∧
        coreRuns u = true ∧ g < 4096 ∧ c.retried = false ∧ (getPump w n).retireNext ≠ 5 ∧ softReached t ts = false) ∧
    (∃ (s u v w t : State) (g idx at_ n lc : Nat) (c : Chunk) (o : GrpOp) (ts : List Nat), u = s.advance at_ ∧
        findChunk u g idx 2 = some c ∧ (getGrp u g).op = some o ∧ n = c.sweeper ∧ lc = laneCycles u g o c ∧
        v = (u.cntU n 1 lc).cntU n 2 (if n = c.pump then (lc + 63) / 64 + 48 else 2 * ((lc + 63) / 64 + 48)) ∧
        w = v.report 6 1 n ∧ ts = (w.now :: (getPump w n).soft).take 256 ∧
        t = modChunk ((modPump (w.bump F.PMP_ERRCNT_MISMATCH n) n fun p => { p with soft := ts }).cntU n 3) g c.idx (fun k => { k with retried := true }) ∧
        coreRuns u = true ∧ g < 4096 ∧ c.retried = false ∧ (getPump w n).retireNext ≠ 5 ∧ softReached t ts = true) ∧
    (∃ (s u v w t : State) (g idx at_ n lc : Nat) (c : Chunk) (o : GrpOp) (ts : List Nat), u = s.advance at_ ∧
        findChunk u g idx 2 = some c ∧ (getGrp u g).op = some o ∧ n = c.sweeper ∧ lc = laneCycles u g o c ∧
        v = (u.cntU n 1 lc).cntU n 2 (if n = c.pump then (lc + 63) / 64 + 48 else 2 * ((lc + 63) / 64 + 48)) ∧
        w = v.report 6 1 n ∧ ts = (w.now :: (getPump w n).soft).take 256 ∧
        t = modChunk ((modPump (w.bump F.PMP_ERRCNT_MISMATCH n) n fun p => { p with soft := ts }).cntU n 3) g c.idx (fun k => { k with retried := true }) ∧
        coreRuns u = true ∧ g < 4096 ∧ c.retried = true ∧ c.failedOn = []) ∧
    (∃ (s u c : State) (n at_ : Nat), u = s.advance at_ ∧ c = (u.bump F.PMP_ERRCNT_PARITY n).report 6 3 n ∧
        coreRuns u = true ∧ n < 168 ∧ u.rd0 F.PMP_SCRUB_IVL ≠ 0 ∧ (pumpState u n = 0 ∨ pumpState u n = 2)) :=
  ⟨⟨r, _, 5, 0, 0, rfl, by decide +kernel⟩,
  ⟨((List.range 168).foldl (fun s n => s.wr F.PMP_STAT_STATE n 3) (running [chunk 1])), _, 5, 0, 0, _, _, rfl,
      (Option.some_get (by decide +kernel)).symm, (Option.some_get (by decide +kernel)).symm, by decide +kernel⟩,
  ⟨(running [chunk 1]), _, 5, 0, 0, _, _, _, rfl, (Option.some_get (by decide +kernel)).symm,
      (Option.some_get (by decide +kernel)).symm, (Option.some_get (by decide +kernel)).symm, by decide +kernel⟩,
  ⟨((List.range 168).foldl (fun s n => s.wr F.PMP_TEST_BUSY n 1) (running [chunk 1])), _, 5, 0, 0, _, _, _, rfl,
      (Option.some_get (by decide +kernel)).symm, (Option.some_get (by decide +kernel)).symm,
      (Option.some_get (by decide +kernel)).symm, by decide +kernel⟩,
  ⟨(running [chunk 2]), _, _, _, 5, 0, 0, _, _, _, _, _, rfl, (Option.some_get (by decide +kernel)).symm,
      (Option.some_get (by decide +kernel)).symm, rfl, rfl, rfl, rfl, rfl, by decide +kernel⟩,
  ⟨(modPump (running [chunk 2]) 0 fun p => { p with retireNext := 5 }), _, _, _, 5, 0, 0, _, _, _, _, _, rfl,
      (Option.some_get (by decide +kernel)).symm, (Option.some_get (by decide +kernel)).symm, rfl, rfl, rfl, rfl, rfl,
      by decide +kernel⟩,
  ⟨(running [chunk 2]), _, _, _, _, 5, 0, 0, _, _, _, _, _, rfl, (Option.some_get (by decide +kernel)).symm,
      (Option.some_get (by decide +kernel)).symm, rfl, rfl, rfl, rfl, rfl, rfl, by decide +kernel⟩,
  ⟨(wrs (running [chunk 2]) [(F.PMP_CFG_SOFT_LIM, 0, 1), (F.PMP_CFG_SOFT_WIN, 0, 1)]), _, _, _, _, 5, 0, 0, _, _, _, _, _,
      rfl, (Option.some_get (by decide +kernel)).symm, (Option.some_get (by decide +kernel)).symm, rfl, rfl, rfl, rfl, rfl,
      rfl, by decide +kernel⟩,
  ⟨(running [{ chunk 2 with retried := true }]), _, _, _, _, 5, 0, 0, _, _, _, _, _, rfl,
      (Option.some_get (by decide +kernel)).symm, (Option.some_get (by decide +kernel)).symm, rfl, rfl, rfl, rfl, rfl, rfl,
      by decide +kernel⟩,
  ⟨r, _, _, 0, 0, rfl, rfl, by decide +kernel⟩⟩

theorem witness_PumpStates :
    (∃ (s u : State) (n at_ : Nat), u = s.advance at_ ∧ coreRuns u = true ∧ n < 168) ∧
    (∃ (s : State) (m : Master) (n : Nat), takesWrite s m .PMP_CTRL n 0 = true) ∧
    (∃ (s u : State) (n at_ : Nat), u = s.advance at_ ∧ coreRuns u = true ∧ n < 168 ∧ pumpState u n = 2 ∧
        ((allChunks u).any fun e => e.2.pump == n && e.2.lines != 0) = false ∧
        (u.grps.any fun e => e.2.route.any fun r => r.pump == n && r.lines != 0) = false) ∧
    (∃ (s c b : State) (m : Master) (n : Nat), c = wrote s m .PMP_CTRL n 0 ∧
        b = modPump c n (fun p => { p with retireNext := 0, testPass := false, soft := [] }) ∧
        takesWrite s m .PMP_CTRL n 0 = true ∧ 1 < pumpState c n) ∧
    (∃ (s c b : State) (m : Master) (n : Nat), c = wrote s m .PMP_CTRL n 0 ∧
        b = modPump c n (fun p => { p with retireNext := 0, testPass := false, soft := [] }) ∧
        takesWrite s m .PMP_CTRL n 0 = true ∧ pumpState c n ≤ 1 ∧ isSweeping c n = true) ∧
    (∃ (s c b : State) (m : Master) (n : Nat), c = wrote s m .PMP_CTRL n 0 ∧
        b = modPump c n (fun p => { p with retireNext := 0, testPass := false, soft := [] }) ∧
        takesWrite s m .PMP_CTRL n 0 = true ∧ pumpState c n = 1 ∧ isSweeping c n = false) ∧
    (∃ (s c b : State) (m : Master) (n : Nat) (d : State) (k : Nat), c = wrote s m .PMP_CTRL n 0 ∧
        b = modPump c n (fun p => { p with retireNext := 0, testPass := false, soft := [] }) ∧
        d = stopSweeps (((b.wr F.PMP_STAT_STATE n 2).wr F.PMP_STAT_CAUSE n 5).report 6 2 n) n ∧
        ((List.range 168).find? fun k => pumpState d k == 1) = some k ∧ takesWrite s m .PMP_CTRL n 0 = true ∧
        pumpState c n = 0 ∧ isSweeping c n = false) ∧
    (∃ (s c : State) (m : Master) (n : Nat), c = wrote s m .PMP_CTRL n 0 ∧ takesWrite s m .PMP_CTRL n 0 = true ∧
        c.flag F.PMP_TEST_BUSY n = false) ∧
    (∃ (s c : State) (m : Master) (n : Nat), c = wrote s m .PMP_CTRL n 0 ∧ takesWrite s m .PMP_CTRL n 0 = true ∧
        c.flag F.PMP_TEST_BUSY n = true) ∧
    (∃ (s c : State) (m : Master) (n : Nat), c = wrote s m .PMP_CTRL n 0 ∧ takesWrite s m .PMP_CTRL n 0 = true ∧
        pumpState c n = 3 ∧ (getPump c n).testPass = true) ∧
    (∃ (s c : State) (m : Master) (n : Nat), c = wrote s m .PMP_CTRL n 0 ∧ takesWrite s m .PMP_CTRL n 0 = true ∧
        (pumpState c n ≠ 3 ∨ (getPump c n).testPass = false)) ∧
    (∃ (s u d e : State) (n k at_ : Nat), u = s.advance at_ ∧ d = (u.wr F.PMP_TEST_BUSY n 0).wr F.PMP_CTRL_TEST_GO n 0 ∧
        e = ((d.wr F.PMP_TEST_PASS n 0).wr F.PMP_TEST_NFAIL n (min 65535 k)).report 6 6 n ∧ coreRuns u = true ∧ n < 168 ∧
        u.flag F.PMP_TEST_BUSY n = true ∧ isSweeping u n = false ∧ k ≠ 0) ∧
    (∃ (s u d e : State) (n k at_ : Nat), u = s.advance at_ ∧ d = (u.wr F.PMP_TEST_BUSY n 0).wr F.PMP_CTRL_TEST_GO n 0 ∧
        e = ((d.wr F.PMP_TEST_PASS n 0).wr F.PMP_TEST_NFAIL n (min 65535 k)).report 6 6 n ∧ coreRuns u = true ∧ n < 168 ∧
        u.flag F.PMP_TEST_BUSY n = true ∧ isSweeping u n = false ∧ k ≠ 0 ∧ pumpState e n ≤ 1) ∧
    (∃ (s u d e : State) (n k at_ : Nat), u = s.advance at_ ∧ d = (u.wr F.PMP_TEST_BUSY n 0).wr F.PMP_CTRL_TEST_GO n 0 ∧
        e = ((d.wr F.PMP_TEST_PASS n 0).wr F.PMP_TEST_NFAIL n (min 65535 k)).report 6 6 n ∧ coreRuns u = true ∧ n < 168 ∧
        u.flag F.PMP_TEST_BUSY n = true ∧ isSweeping u n = false ∧ k ≠ 0 ∧ 1 < pumpState e n) :=
  ⟨⟨r, _, 167, 0, rfl, by decide +kernel⟩,
  ⟨r, .host, 167, by decide +kernel⟩,
  ⟨(wrs r [(F.PMP_STAT_STATE, 167, 2)]), _, 167, 0, rfl, by decide +kernel⟩,
  ⟨(wrs r [(F.PMP_STAT_STATE, 167, 2)]), _, _, .host, 167, rfl, rfl, by decide +kernel⟩,
  ⟨(running [chunk 2]), _, _, .host, 0, rfl, rfl, by decide +kernel⟩,
  ⟨(wrs r [(F.PMP_STAT_STATE, 167, 1)]), _, _, .host, 167, rfl, rfl, by decide +kernel⟩,
  ⟨(wrs r [(F.PMP_STAT_STATE, 167, 1)]), _, _, .host, 0, _, _, rfl, rfl, rfl, (Option.some_get (by decide +kernel)).symm,
      by decide +kernel⟩,
  ⟨r, _, .host, 0, rfl, by decide +kernel⟩,
  ⟨(wrs r [(F.PMP_TEST_BUSY, 0, 1)]), _, .host, 0, rfl, by decide +kernel⟩,
  ⟨(wrs (modPump r 0 fun p => { p with testPass := true }) [(F.PMP_STAT_STATE, 0, 3)]), _, .host, 0, rfl, by decide +kernel⟩,
  ⟨r, _, .host, 0, rfl, by decide +kernel⟩,
  ⟨(wrs r [(F.PMP_TEST_BUSY, 0, 1)]), _, _, _, 0, 1, 0, rfl, rfl, rfl, by decide +kernel⟩,
  ⟨(wrs r [(F.PMP_TEST_BUSY, 0, 1)]), _, _, _, 0, 1, 0, rfl, rfl, rfl, by decide +kernel⟩,
  ⟨(wrs (r) [(F.PMP_TEST_BUSY, 0, 1), (F.PMP_STAT_STATE, 0, 3)]), _, _, _, 0, 1, 0, rfl, rfl, rfl, by decide +kernel⟩⟩

theorem witness_WellRequests :
    (∃ (s u : State) (p : StPkt) (at_ : Nat), u = s.advance at_ ∧ stationHas u p 0x20 = true) ∧
    (∃ (s u : State) (p : StPkt) (at_ : Nat), u = s.advance at_ ∧ stationHas u p 0x21 = true) ∧
    (∃ (s u : State) (p : StPkt) (at_ : Nat), u = s.advance at_ ∧ stationHas u p 0x22 = true) ∧
    (∃ (s u : State) (at_ : Nat), u = s.advance at_ ∧ coreRuns u = true) ∧
    (∃ (s u c : State) (p : StPkt) (at_ a n lk : Nat) (arr : Option Nat) (d : State), u = s.advance at_ ∧
        c = takeStation u p ∧ a = reqAddr p.hdr ∧ lk = bits p.hdr.opw1 28 4 ∧
        arr = (if p.arr < 160 then some p.arr else none) ∧ n = bits p.hdr.opw2 0 13 ∧
        d = countAccess (countHot (cntTier c a 0) a) 0 3 0 a n arr ∧ p.hdr.dst = c.selfEid ∧ stationHas u p 0x20 = true) ∧
    (∃ (s u c : State) (p : StPkt) (at_ a n lk : Nat) (arr : Option Nat) (d : State), u = s.advance at_ ∧
        c = takeStation u p ∧ a = reqAddr p.hdr ∧ lk = bits p.hdr.opw1 28 4 ∧
        arr = (if p.arr < 160 then some p.arr else none) ∧ n = p.hdr.len ∧
        d = countAccess (countHot (cntTier c a 1) a) 0 3 1 a n arr ∧ p.hdr.dst = c.selfEid ∧ stationHas u p 0x21 = true) ∧
    (∃ (s u c : State) (p : StPkt) (at_ a lk : Nat) (arr : Option Nat) (d t : State) (bad : Option Nat), u = s.advance at_ ∧
        c = takeStation u p ∧ a = reqAddr p.hdr ∧ lk = bits p.hdr.opw1 28 4 ∧
        arr = (if p.arr < 160 then some p.arr else none) ∧ d = countAccess (countHot (cntTier c a 2) a) 0 3 2 a 8 arr ∧
        t = finish u (if c.well.poolUntil.isSome = true then refuse d p.hdr a 0x0D else if formCode p.hdr p.data ≠ 0 then refuse d p.hdr a (formCode p.hdr p.data) else if placeCode c a 8 (fun _ => false) ≠ 0 then refuse d p.hdr a (placeCode c a 8 fun _ => false) else if bad.isSome = true then refuse (d.report 7 6 (a / 64 * 64 + 64 * bad.getD 0)) p.hdr a 8 else admitReq d (.atomic lk) a 8 p.data [] p.hdr p.arr) ∧
        p.hdr.dst = c.selfEid ∧ stationHas u p 0x22 = true ∧ lk = 0) ∧
    (∃ (s u c : State) (p : StPkt) (at_ a lk : Nat) (arr : Option Nat) (d t : State) (bad : Option Nat), u = s.advance at_ ∧
        c = takeStation u p ∧ a = reqAddr p.hdr ∧ lk = bits p.hdr.opw1 28 4 ∧
        arr = (if p.arr < 160 then some p.arr else none) ∧ d = countAccess (countHot (cntTier c a 2) a) 0 3 2 a 8 arr ∧
        t = finish u (if c.well.poolUntil.isSome = true then refuse d p.hdr a 0x0D else if formCode p.hdr p.data ≠ 0 then refuse d p.hdr a (formCode p.hdr p.data) else if placeCode c a 8 (fun _ => false) ≠ 0 then refuse d p.hdr a (placeCode c a 8 fun _ => false) else if bad.isSome = true then refuse (d.report 7 6 (a / 64 * 64 + 64 * bad.getD 0)) p.hdr a 8 else admitReq d (.atomic lk) a 8 p.data [] p.hdr p.arr) ∧
        p.hdr.dst = c.selfEid ∧ stationHas u p 0x22 = true ∧ lk = 1) ∧
    (∃ (s u c : State) (p : StPkt) (at_ a lk : Nat) (arr : Option Nat) (d t : State) (bad : Option Nat), u = s.advance at_ ∧
        c = takeStation u p ∧ a = reqAddr p.hdr ∧ lk = bits p.hdr.opw1 28 4 ∧
        arr = (if p.arr < 160 then some p.arr else none) ∧ d = countAccess (countHot (cntTier c a 2) a) 0 3 2 a 8 arr ∧
        t = finish u (if c.well.poolUntil.isSome = true then refuse d p.hdr a 0x0D else if formCode p.hdr p.data ≠ 0 then refuse d p.hdr a (formCode p.hdr p.data) else if placeCode c a 8 (fun _ => false) ≠ 0 then refuse d p.hdr a (placeCode c a 8 fun _ => false) else if bad.isSome = true then refuse (d.report 7 6 (a / 64 * 64 + 64 * bad.getD 0)) p.hdr a 8 else admitReq d (.atomic lk) a 8 p.data [] p.hdr p.arr) ∧
        p.hdr.dst = c.selfEid ∧ stationHas u p 0x22 = true ∧ lk = 2) ∧
    (∃ (s u c : State) (p : StPkt) (at_ a lk : Nat) (arr : Option Nat) (d t : State) (bad : Option Nat), u = s.advance at_ ∧
        c = takeStation u p ∧ a = reqAddr p.hdr ∧ lk = bits p.hdr.opw1 28 4 ∧
        arr = (if p.arr < 160 then some p.arr else none) ∧ d = countAccess (countHot (cntTier c a 2) a) 0 3 2 a 8 arr ∧
        t = finish u (if c.well.poolUntil.isSome = true then refuse d p.hdr a 0x0D else if formCode p.hdr p.data ≠ 0 then refuse d p.hdr a (formCode p.hdr p.data) else if placeCode c a 8 (fun _ => false) ≠ 0 then refuse d p.hdr a (placeCode c a 8 fun _ => false) else if bad.isSome = true then refuse (d.report 7 6 (a / 64 * 64 + 64 * bad.getD 0)) p.hdr a 8 else admitReq d (.atomic lk) a 8 p.data [] p.hdr p.arr) ∧
        p.hdr.dst = c.selfEid ∧ stationHas u p 0x22 = true ∧ lk = 3) ∧
    (∃ (s u c : State) (p : StPkt) (at_ a lk : Nat) (arr : Option Nat) (d t : State) (bad : Option Nat), u = s.advance at_ ∧
        c = takeStation u p ∧ a = reqAddr p.hdr ∧ lk = bits p.hdr.opw1 28 4 ∧
        arr = (if p.arr < 160 then some p.arr else none) ∧ d = countAccess (countHot (cntTier c a 2) a) 0 3 2 a 8 arr ∧
        t = finish u (if c.well.poolUntil.isSome = true then refuse d p.hdr a 0x0D else if formCode p.hdr p.data ≠ 0 then refuse d p.hdr a (formCode p.hdr p.data) else if placeCode c a 8 (fun _ => false) ≠ 0 then refuse d p.hdr a (placeCode c a 8 fun _ => false) else if bad.isSome = true then refuse (d.report 7 6 (a / 64 * 64 + 64 * bad.getD 0)) p.hdr a 8 else admitReq d (.atomic lk) a 8 p.data [] p.hdr p.arr) ∧
        p.hdr.dst = c.selfEid ∧ stationHas u p 0x22 = true ∧ lk = 4) ∧
    (∃ (s u c : State) (p : StPkt) (at_ a lk : Nat) (arr : Option Nat) (d t : State) (bad : Option Nat), u = s.advance at_ ∧
        c = takeStation u p ∧ a = reqAddr p.hdr ∧ lk = bits p.hdr.opw1 28 4 ∧
        arr = (if p.arr < 160 then some p.arr else none) ∧ d = countAccess (countHot (cntTier c a 2) a) 0 3 2 a 8 arr ∧
        t = finish u (if c.well.poolUntil.isSome = true then refuse d p.hdr a 0x0D else if formCode p.hdr p.data ≠ 0 then refuse d p.hdr a (formCode p.hdr p.data) else if placeCode c a 8 (fun _ => false) ≠ 0 then refuse d p.hdr a (placeCode c a 8 fun _ => false) else if bad.isSome = true then refuse (d.report 7 6 (a / 64 * 64 + 64 * bad.getD 0)) p.hdr a 8 else admitReq d (.atomic lk) a 8 p.data [] p.hdr p.arr) ∧
        p.hdr.dst = c.selfEid ∧ stationHas u p 0x22 = true ∧ lk = 5) ∧
    (∃ (s u d : State) (id at_ : Nat) (r : WReq), u = s.advance at_ ∧ (u.well.queue.find? (·.id == id)) = some r ∧
        d = modWell u (fun w => { w with queue := w.queue.filter (·.id != id) }) ∧ coreRuns u = true ∧ mayRun u r = true ∧
        fwdOf d r.addr = none) ∧
    (∃ (s u d : State) (id at_ : Nat) (r : WReq), u = s.advance at_ ∧ (u.well.queue.find? (·.id == id)) = some r ∧
        d = modWell u (fun w => { w with queue := w.queue.filter (·.id != id) }) ∧ coreRuns u = true ∧ mayRun u r = true ∧
        (fwdOf d r.addr).isSome = true ∧ [WKind.roomWrite, .roomRead, .apRead, .apWrite].contains r.kind = false) ∧
    (∃ (s u d : State) (id at_ : Nat) (r : WReq), u = s.advance at_ ∧ (u.well.queue.find? (·.id == id)) = some r ∧
        d = modWell u (fun w => { w with queue := w.queue.filter (·.id != id) }) ∧ coreRuns u = true ∧ mayRun u r = true ∧
        (fwdOf d r.addr).isSome = true ∧ (r.kind = .apRead ∨ r.kind = .apWrite)) ∧
    (∃ (s u d : State) (id at_ : Nat) (r : WReq), u = s.advance at_ ∧ (u.well.queue.find? (·.id == id)) = some r ∧
        d = modWell u (fun w => { w with queue := w.queue.filter (·.id != id) }) ∧ coreRuns u = true ∧ mayRun u r = false) :=
  ⟨⟨r, _, (pk 0x20 0 0 0 0 0 0 []), 0, rfl, by decide +kernel⟩,
  ⟨r, _, (pk 0x21 0 0 0 0 0 0 []), 0, rfl, by decide +kernel⟩,
  ⟨r, _, (pk 0x22 0 16 0 0x0 0 2 (List.replicate 16 0)), 0, rfl, by decide +kernel⟩,
  ⟨r, _, 0, rfl, by decide +kernel⟩,
  ⟨r, _, _, (pk 0x20 0 0 0 0 0 0 []), 0, _, _, _, _, _, rfl, rfl, rfl, rfl, rfl, rfl, rfl, by decide +kernel⟩,
  ⟨r, _, _, (pk 0x21 0 0 0 0 0 0 []), 0, _, _, _, _, _, rfl, rfl, rfl, rfl, rfl, rfl, rfl, by decide +kernel⟩,
  ⟨r, _, _, (pk 0x22 0 0 0 0 0 0 []), 0, _, _, _, _, _, none, rfl, rfl, rfl, rfl, rfl, rfl, rfl, by decide +kernel⟩,
  ⟨r, _, _, (pk 0x22 0 16 0 0x10000000 0 2 (List.replicate 16 0)), 0, _, _, _, _, _, none, rfl, rfl, rfl, rfl, rfl, rfl, rfl,
      by decide +kernel⟩,
  ⟨r, _, _, (pk 0x22 0 16 0 0x20000000 0 2 (List.replicate 16 0)), 0, _, _, _, _, _, none, rfl, rfl, rfl, rfl, rfl, rfl, rfl,
      by decide +kernel⟩,
  ⟨r, _, _, (pk 0x22 0 16 0 0x30000000 0 2 (List.replicate 16 0)), 0, _, _, _, _, _, none, rfl, rfl, rfl, rfl, rfl, rfl, rfl,
      by decide +kernel⟩,
  ⟨r, _, _, (pk 0x22 0 16 0 0x40000000 0 2 (List.replicate 16 0)), 0, _, _, _, _, _, none, rfl, rfl, rfl, rfl, rfl, rfl, rfl,
      by decide +kernel⟩,
  ⟨r, _, _, (pk 0x22 0 16 0 0x50000000 0 2 (List.replicate 16 0)), 0, _, _, _, _, _, none, rfl, rfl, rfl, rfl, rfl, rfl, rfl,
      by decide +kernel⟩,
  ⟨(modWell r fun w => { w with queue := [⟨0, .read, 0, 64, [], [], mkHdr 0x20 0 3 0 0 0 0 0 0 64, 2⟩] }), _, _, 0, 0, _, rfl,
      (Option.some_get (by decide +kernel)).symm, rfl, by decide +kernel⟩,
  ⟨(forwarded (modWell r fun w => { w with queue := [admitted .read] })), _, _, 1, 0, _, rfl,
      (Option.some_get (by decide +kernel)).symm, rfl, by decide +kernel⟩,
  ⟨(forwarded (modWell r fun w => { w with queue := [admitted .apRead] })), _, _, 1, 0, _, rfl,
      (Option.some_get (by decide +kernel)).symm, rfl, by decide +kernel⟩,
  ⟨(modWell r fun w => { w with queue := [{ admitted .write with id := 0 }, admitted .read] }), _, _, 1, 0, _, rfl,
      (Option.some_get (by decide +kernel)).symm, rfl, by decide +kernel⟩⟩

theorem witness_WellUpkeep :
    (∃ (s u : State) (at_ w c : Nat), u = s.advance at_ ∧ coreRuns u = true ∧ w < 16 ∧ c < 262144) ∧
    (∃ (s : State) (m : Master) (val be : Nat), val < 2 ^ 32 ∧ beOk m be = true ∧ takesWrite s m .WEL_FAR_CFG 0 0 = true) ∧
    (∃ (s : State) (m : Master) (val be d : Nat), val < 2 ^ 32 ∧ beOk m be = true ∧ takesWrite s m .WEL_DEV d 0 = true) ∧
    (∃ (s u : State) (b at_ : Nat), u = s.advance at_ ∧ liveRuns u = true ∧ b < 2 ^ 36) ∧
    (∃ (s u : State) (at_ : Nat), u = s.advance at_ ∧ coreRuns u = true ∧ u.well.clearing = true) ∧
    (∃ (s c : State) (m : Master) (val be : Nat), c = wrote s m .WEL_FAR_CFG 0 0 ∧ val < 2 ^ 32 ∧ beOk m be = true ∧
        takesWrite s m .WEL_FAR_CFG 0 0 = true ∧ c.flag F.WEL_STAT_INIT_DONE = false ∧
        fieldAfter c F.WEL_FAR_CFG_NCH 0 val be ∈ [0, 1, 2, 4, 8]) ∧
    (∃ (s c : State) (m : Master) (val be : Nat), c = wrote s m .WEL_FAR_CFG 0 0 ∧ val < 2 ^ 32 ∧ beOk m be = true ∧
        takesWrite s m .WEL_FAR_CFG 0 0 = true ∧
        (c.flag F.WEL_STAT_INIT_DONE = true ∨ fieldAfter c F.WEL_FAR_CFG_NCH 0 val be ∉ [0, 1, 2, 4, 8])) ∧
    (∃ (s c e : State) (m : Master) (d : Nat), c = wrote s m .WEL_DEV d 0 ∧ e = c.wr F.WEL_DEV_OUT d 1 ∧
        takesWrite s m .WEL_DEV d 0 = true ∧ devOut c d = true) ∧
    (∃ (s c e : State) (m : Master) (d : Nat), c = wrote s m .WEL_DEV d 0 ∧ e = c.wr F.WEL_DEV_OUT d 1 ∧
        takesWrite s m .WEL_DEV d 0 = true ∧ devOut c d = false) ∧
    (∃ (s u : State) (w at_ : Nat), u = s.advance at_ ∧ coreRuns u = true ∧ w < 16 ∧ winState u w = 1) ∧
    (∃ (s u : State) (e : LineEv) (at_ : Nat), u = s.advance at_ ∧ coreRuns u = true ∧ u.rd0 F.WEL_SCRUB_NEAR_H ≠ 0 ∧
        e.addr < farBase ∧ populated u e.addr = true) ∧
    (∃ (s u t : State) (g : Mig) (at_ : Nat) (evs : List LineEv), u = s.advance at_ ∧
        moveLines evs g.src g.dst 32768 0 u = ((g.src, 0), t) ∧ coreRuns u = true ∧ u.well.migs = [g] ∧ migWaits u = false ∧
        g.move = false) ∧
    (∃ (s u : State) (c at_ : Nat) (x : Ctx), u = s.advance at_ ∧ mget u.ctx c = some x ∧ coreRuns u = true ∧ c < 262144 ∧
        u.rd0 F.WEL_CTX_CFG_TO ≠ 0 ∧ x.openAt + 1000 * u.rd0 F.WEL_CTX_CFG_TO ≤ u.now ∧ u.well.poolUntil = none) ∧
    (∃ (s u : State) (b at_ base a : Nat), u = s.advance at_ ∧ base = u.rd0 F.WEL_AP_BASE_BASE ∧ a = base * 2 ^ 36 + b ∧
        liveRuns u = true ∧ b < 2 ^ 36 ∧ u.host.pcie.dstate = 3) ∧
    (∃ (s u : State) (b at_ base a : Nat), u = s.advance at_ ∧ base = u.rd0 F.WEL_AP_BASE_BASE ∧ a = base * 2 ^ 36 + b ∧
        liveRuns u = true ∧ b < 2 ^ 36) ∧
    (∃ (s u c : State) (b n at_ base a : Nat), u = s.advance at_ ∧ base = u.rd0 F.WEL_AP_BASE_BASE ∧ a = base * 2 ^ 36 + b ∧
        c = countAccess (countHot (cntTier u a 0) a) 0 0 7 a n ∧ liveRuns u = true ∧ b < 2 ^ 36 ∧ u.host.pcie.dstate ≠ 3) ∧
    (∃ (s u c : State) (b n at_ base a : Nat), u = s.advance at_ ∧ base = u.rd0 F.WEL_AP_BASE_BASE ∧ a = base * 2 ^ 36 + b ∧
        c = countAccess (countHot (cntTier u a 1) a) 0 0 7 a n ∧ liveRuns u = true ∧ b < 2 ^ 36 ∧ u.host.pcie.dstate ≠ 3) :=
  ⟨⟨r, _, 0, 0, 0, rfl, by decide +kernel⟩,
  ⟨r, .host, 0x80000, 15, by decide +kernel⟩,
  ⟨r, .host, 0x80000, 15, 0, by decide +kernel⟩,
  ⟨r, _, 0, 0, rfl, by decide +kernel⟩,
  ⟨(modWell r fun w => { w with clearing := true }), _, 0, rfl, by decide +kernel⟩,
  ⟨r, _, .host, 0, 15, rfl, by decide +kernel⟩,
  ⟨(modWell r fun w => { w with clearing := true }), _, .host, 0xFFFFFFFF, 15, rfl, by decide +kernel⟩,
  ⟨(wrs (r) [(F.WEL_DEV_OUT, 0, 1)]), _, _, .host, 0, rfl, rfl, by decide +kernel⟩,
  ⟨r, _, _, .host, 0, rfl, rfl, by decide +kernel⟩,
  ⟨(wrs r [(F.WEL_MIR_STATE, 0, 1)]), _, 0, 0, rfl, by decide +kernel⟩,
  ⟨r, _, ⟨0, false, 0, 0⟩, 0, rfl, by decide +kernel⟩,
  ⟨moving, moving, moving, ⟨0, 0, 2 ^ 21, false, 0, 0⟩, 0, [], moving_advance.symm, moving_moveLines 32768 0 (Nat.le_refl _),
      by decide +kernel⟩,
  ⟨({ late r with ctx := [(0, ⟨1, 0, 0x20, false, 0⟩)] }), _, 0, 0, _, rfl, (Option.some_get (by decide +kernel)).symm,
      by decide +kernel⟩,
  ⟨d3hot, _, 0, 0, _, _, rfl, rfl, rfl, by decide +kernel⟩,
  ⟨r, _, 0, 0, _, _, rfl, rfl, rfl, by decide +kernel⟩,
  ⟨r, _, _, 0, 0, 0, _, _, rfl, rfl, rfl, rfl, by decide +kernel⟩,
  ⟨r, _, _, 0, 0, 0, _, _, rfl, rfl, rfl, rfl, by decide +kernel⟩⟩

theorem witness_SyncPackets :
    (∃ (s u : State) (p : StPkt) (at_ : Nat), u = s.advance at_ ∧ stationHas u p 0x30 = true) ∧
    (∃ (s u : State) (n at_ : Nat), u = s.advance at_ ∧ coreRuns u = true ∧ n < 8192) ∧
    (∃ (s u c d : State) (p : StPkt) (at_ n op code v a0 a1 : Nat) (t : State), u = s.advance at_ ∧ c = takeStation u p ∧
        n = p.hdr.opw0 % 8192 ∧ op = bits p.hdr.opw0 28 4 ∧ d = soCount c 3 (if p.arr < 160 then some p.arr else none) ∧
        code = (if c.well.poolUntil.isSome = true then 0x0D else soCode d p.hdr p.data) ∧ v = soValue d n ∧
        a0 = leNat (p.data.take 8) ∧ a1 = leNat ((p.data.drop 8).take 8) ∧
        t = finish u (settleSwitch (sendErr d p.hdr code p.hdr.opw0 p.hdr.opw1)) ∧ stationHas u p 0x30 = true ∧
        p.hdr.dst = c.selfEid ∧ code ≠ 0 ∧ op = 0) ∧
    (∃ (s u c d : State) (p : StPkt) (at_ n op code v a0 a1 : Nat) (t : State), u = s.advance at_ ∧ c = takeStation u p ∧
        n = p.hdr.opw0 % 8192 ∧ op = bits p.hdr.opw0 28 4 ∧ d = soCount c 3 (if p.arr < 160 then some p.arr else none) ∧
        code = (if c.well.poolUntil.isSome = true then 0x0D else soCode d p.hdr p.data) ∧ v = soValue d n ∧
        a0 = leNat (p.data.take 8) ∧ a1 = leNat ((p.data.drop 8).take 8) ∧
        t = finish u (settleSwitch (sendErr d p.hdr code p.hdr.opw0 p.hdr.opw1)) ∧ stationHas u p 0x30 = true ∧
        p.hdr.dst = c.selfEid ∧ code ≠ 0 ∧ op = 1) ∧
    (∃ (s u c d : State) (p : StPkt) (at_ n op code v a0 a1 : Nat) (t : State), u = s.advance at_ ∧ c = takeStation u p ∧
        n = p.hdr.opw0 % 8192 ∧ op = bits p.hdr.opw0 28 4 ∧ d = soCount c 3 (if p.arr < 160 then some p.arr else none) ∧
        code = (if c.well.poolUntil.isSome = true then 0x0D else soCode d p.hdr p.data) ∧ v = soValue d n ∧
        a0 = leNat (p.data.take 8) ∧ a1 = leNat ((p.data.drop 8).take 8) ∧
        t = finish u (settleSwitch (sendErr d p.hdr code p.hdr.opw0 p.hdr.opw1)) ∧ stationHas u p 0x30 = true ∧
        p.hdr.dst = c.selfEid ∧ code ≠ 0 ∧ op = 2) ∧
    (∃ (s u c d : State) (p : StPkt) (at_ n op code v a0 a1 : Nat) (t : State), u = s.advance at_ ∧ c = takeStation u p ∧
        n = p.hdr.opw0 % 8192 ∧ op = bits p.hdr.opw0 28 4 ∧ d = soCount c 3 (if p.arr < 160 then some p.arr else none) ∧
        code = (if c.well.poolUntil.isSome = true then 0x0D else soCode d p.hdr p.data) ∧ v = soValue d n ∧
        a0 = leNat (p.data.take 8) ∧ a1 = leNat ((p.data.drop 8).take 8) ∧
        t = finish u (settleSwitch (sendErr d p.hdr code p.hdr.opw0 p.hdr.opw1)) ∧ stationHas u p 0x30 = true ∧
        p.hdr.dst = c.selfEid ∧ code ≠ 0 ∧ op = 3) ∧
    (∃ (s u c d : State) (p : StPkt) (at_ n op code v a0 a1 : Nat) (t : State), u = s.advance at_ ∧ c = takeStation u p ∧
        n = p.hdr.opw0 % 8192 ∧ op = bits p.hdr.opw0 28 4 ∧ d = soCount c 3 (if p.arr < 160 then some p.arr else none) ∧
        code = (if c.well.poolUntil.isSome = true then 0x0D else soCode d p.hdr p.data) ∧ v = soValue d n ∧
        a0 = leNat (p.data.take 8) ∧ a1 = leNat ((p.data.drop 8).take 8) ∧
        t = finish u (settleSwitch (sendErr d p.hdr code p.hdr.opw0 p.hdr.opw1)) ∧ stationHas u p 0x30 = true ∧
        p.hdr.dst = c.selfEid ∧ code ≠ 0 ∧ op = 4) ∧
    (∃ (s u c d : State) (p : StPkt) (at_ n op code v a0 a1 : Nat) (t : State), u = s.advance at_ ∧ c = takeStation u p ∧
        n = p.hdr.opw0 % 8192 ∧ op = bits p.hdr.opw0 28 4 ∧ d = soCount c 3 (if p.arr < 160 then some p.arr else none) ∧
        code = (if c.well.poolUntil.isSome = true then 0x0D else soCode d p.hdr p.data) ∧ v = soValue d n ∧
        a0 = leNat (p.data.take 8) ∧ a1 = leNat ((p.data.drop 8).take 8) ∧
        t = finish u (settleSwitch (sendErr d p.hdr code p.hdr.opw0 p.hdr.opw1)) ∧ stationHas u p 0x30 = true ∧
        p.hdr.dst = c.selfEid ∧ code ≠ 0 ∧ op = 5) ∧
    (∃ (s u c d : State) (p : StPkt) (at_ n op code v a0 a1 : Nat) (t : State), u = s.advance at_ ∧ c = takeStation u p ∧
        n = p.hdr.opw0 % 8192 ∧ op = bits p.hdr.opw0 28 4 ∧ d = soCount c 3 (if p.arr < 160 then some p.arr else none) ∧
        code = (if c.well.poolUntil.isSome = true then 0x0D else soCode d p.hdr p.data) ∧ v = soValue d n ∧
        a0 = leNat (p.data.take 8) ∧ a1 = leNat ((p.data.drop 8).take 8) ∧
        t = finish u (settleSwitch (sendErr d p.hdr code p.hdr.opw0 p.hdr.opw1)) ∧ stationHas u p 0x30 = true ∧
        p.hdr.dst = c.selfEid ∧ code ≠ 0 ∧ op = 6) ∧
    (∃ (s u c d : State) (p : StPkt) (at_ n op code v a0 a1 : Nat), u = s.advance at_ ∧ c = takeStation u p ∧
        n = p.hdr.opw0 % 8192 ∧ op = bits p.hdr.opw0 28 4 ∧ d = soCount c 3 (if p.arr < 160 then some p.arr else none) ∧
        code = (if c.well.poolUntil.isSome = true then 0x0D else soCode d p.hdr p.data) ∧ v = soValue d n ∧
        a0 = leNat (p.data.take 8) ∧ a1 = leNat ((p.data.drop 8).take 8) ∧ stationHas u p 0x30 = true ∧
        p.hdr.dst = c.selfEid ∧ code = 0 ∧ op = 0) ∧
    (∃ (s u c d : State) (p : StPkt) (at_ n op code v a0 a1 : Nat), u = s.advance at_ ∧ c = takeStation u p ∧
        n = p.hdr.opw0 % 8192 ∧ op = bits p.hdr.opw0 28 4 ∧ d = soCount c 3 (if p.arr < 160 then some p.arr else none) ∧
        code = (if c.well.poolUntil.isSome = true then 0x0D else soCode d p.hdr p.data) ∧ v = soValue d n ∧
        a0 = leNat (p.data.take 8) ∧ a1 = leNat ((p.data.drop 8).take 8) ∧ stationHas u p 0x30 = true ∧
        p.hdr.dst = c.selfEid ∧ code = 0 ∧ op = 1) ∧
    (∃ (s u c d : State) (p : StPkt) (at_ n op code v a0 a1 : Nat), u = s.advance at_ ∧ c = takeStation u p ∧
        n = p.hdr.opw0 % 8192 ∧ op = bits p.hdr.opw0 28 4 ∧ d = soCount c 3 (if p.arr < 160 then some p.arr else none) ∧
        code = (if c.well.poolUntil.isSome = true then 0x0D else soCode d p.hdr p.data) ∧ v = soValue d n ∧
        a0 = leNat (p.data.take 8) ∧ a1 = leNat ((p.data.drop 8).take 8) ∧ stationHas u p 0x30 = true ∧
        p.hdr.dst = c.selfEid ∧ code = 0 ∧ op = 2) ∧
    (∃ (s u c d : State) (p : StPkt) (at_ n op code v a0 a1 : Nat), u = s.advance at_ ∧ c = takeStation u p ∧
        n = p.hdr.opw0 % 8192 ∧ op = bits p.hdr.opw0 28 4 ∧ d = soCount c 3 (if p.arr < 160 then some p.arr else none) ∧
        code = (if c.well.poolUntil.isSome = true then 0x0D else soCode d p.hdr p.data) ∧ v = soValue d n ∧
        a0 = leNat (p.data.take 8) ∧ a1 = leNat ((p.data.drop 8).take 8) ∧ stationHas u p 0x30 = true ∧
        p.hdr.dst = c.selfEid ∧ code = 0 ∧ op = 5) ∧
    (∃ (s u c d : State) (p : StPkt) (at_ n op code v a0 a1 : Nat), u = s.advance at_ ∧ c = takeStation u p ∧
        n = p.hdr.opw0 % 8192 ∧ op = bits p.hdr.opw0 28 4 ∧ d = soCount c 3 (if p.arr < 160 then some p.arr else none) ∧
        code = (if c.well.poolUntil.isSome = true then 0x0D else soCode d p.hdr p.data) ∧ v = soValue d n ∧
        a0 = leNat (p.data.take 8) ∧ a1 = leNat ((p.data.drop 8).take 8) ∧ stationHas u p 0x30 = true ∧
        p.hdr.dst = c.selfEid ∧ code = 0 ∧ op = 6) ∧
    (∃ (s u c d : State) (p : StPkt) (at_ n op code v a0 a1 : Nat), u = s.advance at_ ∧ c = takeStation u p ∧
        n = p.hdr.opw0 % 8192 ∧ op = bits p.hdr.opw0 28 4 ∧ d = soCount c 3 (if p.arr < 160 then some p.arr else none) ∧
        code = (if c.well.poolUntil.isSome = true then 0x0D else soCode d p.hdr p.data) ∧ v = soValue d n ∧
        a0 = leNat (p.data.take 8) ∧ a1 = leNat ((p.data.drop 8).take 8) ∧ stationHas u p 0x30 = true ∧
        p.hdr.dst = c.selfEid ∧ code = 0 ∧ op = 3 ∧ soType d n ≠ 2 ∧ a0 ≤ v) ∧
    (∃ (s u c d : State) (p : StPkt) (at_ n op code v a0 a1 : Nat), u = s.advance at_ ∧ c = takeStation u p ∧
        n = p.hdr.opw0 % 8192 ∧ op = bits p.hdr.opw0 28 4 ∧ d = soCount c 3 (if p.arr < 160 then some p.arr else none) ∧
        code = (if c.well.poolUntil.isSome = true then 0x0D else soCode d p.hdr p.data) ∧ v = soValue d n ∧
        a0 = leNat (p.data.take 8) ∧ a1 = leNat ((p.data.drop 8).take 8) ∧ stationHas u p 0x30 = true ∧
        p.hdr.dst = c.selfEid ∧ code = 0 ∧ op = 3 ∧ soType d n = 2 ∧ a0 ≤ v ∧ ((soWaiters d n).any (·.cons)) = false) ∧
    (∃ (s u c d : State) (p : StPkt) (at_ n op code v a0 a1 : Nat), u = s.advance at_ ∧ c = takeStation u p ∧
        n = p.hdr.opw0 % 8192 ∧ op = bits p.hdr.opw0 28 4 ∧ d = soCount c 3 (if p.arr < 160 then some p.arr else none) ∧
        code = (if c.well.poolUntil.isSome = true then 0x0D else soCode d p.hdr p.data) ∧ v = soValue d n ∧
        a0 = leNat (p.data.take 8) ∧ a1 = leNat ((p.data.drop 8).take 8) ∧ stationHas u p 0x30 = true ∧
        p.hdr.dst = c.selfEid ∧ code = 0 ∧ op = 3 ∧ (v < a0 ∨ soType d n = 2 ∧ ((soWaiters d n).any (·.cons)) = true) ∧
        d.well.waiters.length < 16384) ∧
    (∃ (s u c d : State) (p : StPkt) (at_ n op code v a0 a1 : Nat), u = s.advance at_ ∧ c = takeStation u p ∧
        n = p.hdr.opw0 % 8192 ∧ op = bits p.hdr.opw0 28 4 ∧ d = soCount c 3 (if p.arr < 160 then some p.arr else none) ∧
        code = (if c.well.poolUntil.isSome = true then 0x0D else soCode d p.hdr p.data) ∧ v = soValue d n ∧
        a0 = leNat (p.data.take 8) ∧ a1 = leNat ((p.data.drop 8).take 8) ∧ stationHas u p 0x30 = true ∧
        p.hdr.dst = c.selfEid ∧ code = 0 ∧ op = 3 ∧ (v < a0 ∨ soType d n = 2 ∧ ((soWaiters d n).any (·.cons)) = true) ∧
        16384 ≤ d.well.waiters.length) ∧
    (∃ (s u c d : State) (p : StPkt) (at_ n op code v a0 a1 : Nat), u = s.advance at_ ∧ c = takeStation u p ∧
        n = p.hdr.opw0 % 8192 ∧ op = bits p.hdr.opw0 28 4 ∧ d = soCount c 3 (if p.arr < 160 then some p.arr else none) ∧
        code = (if c.well.poolUntil.isSome = true then 0x0D else soCode d p.hdr p.data) ∧ v = soValue d n ∧
        a0 = leNat (p.data.take 8) ∧ a1 = leNat ((p.data.drop 8).take 8) ∧ stationHas u p 0x30 = true ∧
        p.hdr.dst = c.selfEid ∧ code = 0 ∧ op = 4 ∧ v = a0) ∧
    (∃ (s u c d : State) (p : StPkt) (at_ n op code v a0 a1 : Nat), u = s.advance at_ ∧ c = takeStation u p ∧
        n = p.hdr.opw0 % 8192 ∧ op = bits p.hdr.opw0 28 4 ∧ d = soCount c 3 (if p.arr < 160 then some p.arr else none) ∧
        code = (if c.well.poolUntil.isSome = true then 0x0D else soCode d p.hdr p.data) ∧ v = soValue d n ∧
        a0 = leNat (p.data.take 8) ∧ a1 = leNat ((p.data.drop 8).take 8) ∧ stationHas u p 0x30 = true ∧
        p.hdr.dst = c.selfEid ∧ code = 0 ∧ op = 4 ∧ v ≠ a0 ∧ d.well.waiters.length < 16384) ∧
    (∃ (s u c d : State) (p : StPkt) (at_ n op code v a0 a1 : Nat), u = s.advance at_ ∧ c = takeStation u p ∧
        n = p.hdr.opw0 % 8192 ∧ op = bits p.hdr.opw0 28 4 ∧ d = soCount c 3 (if p.arr < 160 then some p.arr else none) ∧
        code = (if c.well.poolUntil.isSome = true then 0x0D else soCode d p.hdr p.data) ∧ v = soValue d n ∧
        a0 = leNat (p.data.take 8) ∧ a1 = leNat ((p.data.drop 8).take 8) ∧ stationHas u p 0x30 = true ∧
        p.hdr.dst = c.selfEid ∧ code = 0 ∧ op = 4 ∧ v ≠ a0 ∧ 16384 ≤ d.well.waiters.length) ∧
    (∃ (s u : State) (n k at_ : Nat) (w : Waiter), u = s.advance at_ ∧ (soWaiters u n)[k]? = some w ∧ coreRuns u = true ∧
        n < 8192 ∧ w.ticks ≠ 0 ∧ w.since + 1000 * w.ticks ≤ u.now - u.fabric % 1000) :=
  ⟨⟨r, _, (pk 0x30 0 16 0 0 0 2 (List.replicate 16 0)), 0, rfl, by decide +kernel⟩,
  ⟨r, _, 0, 0, rfl, by decide +kernel⟩,
  ⟨r, _, _, _, (pk 0x30 0 0 0 0 0 0 []), 0, _, _, _, _, _, _, _, rfl, rfl, rfl, rfl, rfl, rfl, rfl, rfl, rfl, rfl,
      by decide +kernel⟩,
  ⟨(modWell (late r) fun w => { w with waiters := [⟨0, false, false, 0, 0, 0, 0, 0, 1, 0⟩] }), _, _, _,
      (pk 0x30 0 16 0x10000000 0 0 2 (List.replicate 16 0)), 0, _, _, _, _, _, _, _, rfl, rfl, rfl, rfl, rfl, rfl, rfl, rfl,
      rfl, rfl, by decide +kernel⟩,
  ⟨(modWell (late r) fun w => { w with waiters := [⟨0, false, false, 0, 0, 0, 0, 0, 1, 0⟩] }), _, _, _,
      (pk 0x30 0 16 0x20000000 0 0 2 (List.replicate 16 0)), 0, _, _, _, _, _, _, _, rfl, rfl, rfl, rfl, rfl, rfl, rfl, rfl,
      rfl, rfl, by decide +kernel⟩,
  ⟨(modWell (late r) fun w => { w with waiters := [⟨0, false, false, 0, 0, 0, 0, 0, 1, 0⟩] }), _, _, _,
      (pk 0x30 0 16 0x30000000 0 0 2 (List.replicate 16 0)), 0, _, _, _, _, _, _, _, rfl, rfl, rfl, rfl, rfl, rfl, rfl, rfl,
      rfl, rfl, by decide +kernel⟩,
  ⟨(modWell (late r) fun w => { w with waiters := [⟨0, false, false, 0, 0, 0, 0, 0, 1, 0⟩] }), _, _, _,
      (pk 0x30 0 16 0x40000000 0 0 2 (List.replicate 16 0)), 0, _, _, _, _, _, _, _, rfl, rfl, rfl, rfl, rfl, rfl, rfl, rfl,
      rfl, rfl, by decide +kernel⟩,
  ⟨(modWell (late r) fun w => { w with waiters := [⟨0, false, false, 0, 0, 0, 0, 0, 1, 0⟩] }), _, _, _,
      (pk 0x30 0 16 0x50000000 0 0 2 (List.replicate 16 0)), 0, _, _, _, _, _, _, _, rfl, rfl, rfl, rfl, rfl, rfl, rfl, rfl,
      rfl, rfl, by decide +kernel⟩,
  ⟨(modWell (late r) fun w => { w with waiters := [⟨0, false, false, 0, 0, 0, 0, 0, 1, 0⟩] }), _, _, _,
      (pk 0x30 0 16 0x60000000 0 0 2 (List.replicate 16 0)), 0, _, _, _, _, _, _, _, rfl, rfl, rfl, rfl, rfl, rfl, rfl, rfl,
      rfl, rfl, by decide +kernel⟩,
  ⟨(wrs r [(F.WEL_SO_TYPE, 0, 1)]), _, _, _, (pk 0x30 0 16 0 0 0 2 (List.replicate 16 0)), 0, _, _, _, _, _, _, rfl, rfl, rfl,
      rfl, rfl, rfl, rfl, rfl, rfl, by decide +kernel⟩,
  ⟨(wrs r [(F.WEL_SO_TYPE, 0, 1)]), _, _, _, (pk 0x30 0 16 0x10000000 0 0 2 (List.replicate 16 0)), 0, _, _, _, _, _, _, rfl,
      rfl, rfl, rfl, rfl, rfl, rfl, rfl, rfl, by decide +kernel⟩,
  ⟨(wrs r [(F.WEL_SO_TYPE, 0, 1)]), _, _, _, (pk 0x30 0 16 0x20000000 0 0 2 (List.replicate 16 0)), 0, _, _, _, _, _, _, rfl,
      rfl, rfl, rfl, rfl, rfl, rfl, rfl, rfl, by decide +kernel⟩,
  ⟨(wrs r [(F.WEL_SO_TYPE, 0, 1)]), _, _, _, (pk 0x30 0 16 0x50000000 0 0 2 (List.replicate 16 0)), 0, _, _, _, _, _, _, rfl,
      rfl, rfl, rfl, rfl, rfl, rfl, rfl, rfl, by decide +kernel⟩,
  ⟨(wrs r [(F.WEL_SO_TYPE, 0, 1)]), _, _, _, (pk 0x30 0 16 0x60000000 0 0 2 (List.replicate 16 0)), 0, _, _, _, _, _, _, rfl,
      rfl, rfl, rfl, rfl, rfl, rfl, rfl, rfl, by decide +kernel⟩,
  ⟨(wrs r [(F.WEL_SO_TYPE, 0, 1)]), _, _, _, (pk 0x30 0 16 0x30000000 0 0 2 (List.replicate 16 0)), 0, _, _, _, _, _, _, rfl,
      rfl, rfl, rfl, rfl, rfl, rfl, rfl, rfl, by decide +kernel⟩,
  ⟨(wrs (r) [(F.WEL_SO_TYPE, 0, 2)]), _, _, _, (pk 0x30 0 16 0x30000000 0 0 2 (List.replicate 16 0)), 0, _, _, _, _, _, _,
      rfl, rfl, rfl, rfl, rfl, rfl, rfl, rfl, rfl, by decide +kernel⟩,
  ⟨(wrs (r) [(F.WEL_SO_TYPE, 0, 1)]), _, _, _, (pk 0x30 0 16 0x30000000 0 0 2 (1 :: List.replicate 15 0)), 0, _, _, _, _, _,
      _, rfl, rfl, rfl, rfl, rfl, rfl, rfl, rfl, rfl, by decide +kernel⟩,
  ⟨(modWell (wrs (r) [(F.WEL_SO_TYPE, 0,
      1)]) fun w => { w with waiters := List.replicate 16384 ⟨0, false, false, 0, 0, 0, 0, 0, 0, 0⟩ }), _, _, _,
      (pk 0x30 0 16 0x30000000 0 0 2 (1 :: List.replicate 15 0)), 0, _, _, _, _, _, _, rfl, rfl, rfl, rfl, rfl, rfl, rfl, rfl,
      rfl, by decide +kernel⟩,
  ⟨(wrs r [(F.WEL_SO_TYPE, 0, 1)]), _, _, _, (pk 0x30 0 16 0x40000000 0 0 2 (List.replicate 16 0)), 0, _, _, _, _, _, _, rfl,
      rfl, rfl, rfl, rfl, rfl, rfl, rfl, rfl, by decide +kernel⟩,
  ⟨(wrs (r) [(F.WEL_SO_TYPE, 0, 1)]), _, _, _, (pk 0x30 0 16 0x40000000 0 0 2 (1 :: List.replicate 15 0)), 0, _, _, _, _, _,
      _, rfl, rfl, rfl, rfl, rfl, rfl, rfl, rfl, rfl, by decide +kernel⟩,
  ⟨(modWell (wrs (r) [(F.WEL_SO_TYPE, 0,
      1)]) fun w => { w with waiters := List.replicate 16384 ⟨0, false, false, 0, 0, 0, 0, 0, 0, 0⟩ }), _, _, _,
      (pk 0x30 0 16 0x40000000 0 0 2 (1 :: List.replicate 15 0)), 0, _, _, _, _, _, _, rfl, rfl, rfl, rfl, rfl, rfl, rfl, rfl,
      rfl, by decide +kernel⟩,
  ⟨(modWell (late r) fun w => { w with waiters := [⟨0, false, false, 0, 0, 0, 0, 0, 1, 0⟩] }), _, 0, 0, 0, _, rfl,
      (Option.some_get (by decide +kernel)).symm, by decide +kernel⟩⟩

theorem witness_SyncRegisters :
    (∃ (s : State) (m : Master) (val be : Nat), val < 2 ^ 32 ∧ beOk m be = true ∧ takesWrite s m .WEL_SO_CMD 0 0 = true) ∧
    (∃ (s : State) (m : Master) (val be n w : Nat), val < 2 ^ 32 ∧ beOk m be = true ∧ takesWrite s m .WEL_SO n w = true) ∧
    (∃ (s : State) (m : Master) (val be n : Nat), val < 2 ^ 32 ∧ beOk m be = true ∧ takesWrite s m .WEL_SO n 2 = true) ∧
    (∃ (s : State) (m : Master) (val be n : Nat), val < 2 ^ 32 ∧ beOk m be = true ∧ takesWrite s m .WEL_SO n 3 = true) ∧
    (∃ (s c d : State) (m : Master) (val n op : Nat), c = soCount (wrote s m .WEL_SO_CMD 0 0) (masterCode m - 1) none ∧
        n = val % 8192 ∧ op = bits val 28 4 ∧
        d = ((c.wr0 F.WEL_SO_RES_LO_VAL (soValue c n % 2 ^ 32)).wr0 F.WEL_SO_RES_HI_VAL (soValue c n / 2 ^ 32)).wr0 F.WEL_SO_CSTAT_STATUS 0 ∧
        val < 2 ^ 32 ∧ takesWrite s m .WEL_SO_CMD 0 0 = true ∧ op = 0 ∧ soArg c 1 = 0 ∧ soType c n ≠ 0) ∧
    (∃ (s c d : State) (m : Master) (val n op : Nat), c = soCount (wrote s m .WEL_SO_CMD 0 0) (masterCode m - 1) none ∧
        n = val % 8192 ∧ op = bits val 28 4 ∧
        d = ((c.wr0 F.WEL_SO_RES_LO_VAL (soValue c n % 2 ^ 32)).wr0 F.WEL_SO_RES_HI_VAL (soValue c n / 2 ^ 32)).wr0 F.WEL_SO_CSTAT_STATUS 0 ∧
        val < 2 ^ 32 ∧ takesWrite s m .WEL_SO_CMD 0 0 = true ∧ op = 1 ∧ soArg c 1 = 0 ∧ soType c n ≠ 0) ∧
    (∃ (s c d : State) (m : Master) (val n op : Nat), c = soCount (wrote s m .WEL_SO_CMD 0 0) (masterCode m - 1) none ∧
        n = val % 8192 ∧ op = bits val 28 4 ∧
        d = ((c.wr0 F.WEL_SO_RES_LO_VAL (soValue c n % 2 ^ 32)).wr0 F.WEL_SO_RES_HI_VAL (soValue c n / 2 ^ 32)).wr0 F.WEL_SO_CSTAT_STATUS 0 ∧
        val < 2 ^ 32 ∧ takesWrite s m .WEL_SO_CMD 0 0 = true ∧ op = 2 ∧ soType c n ≠ 0) ∧
    (∃ (s c d : State) (m : Master) (val n op : Nat), c = soCount (wrote s m .WEL_SO_CMD 0 0) (masterCode m - 1) none ∧
        n = val % 8192 ∧ op = bits val 28 4 ∧
        d = ((c.wr0 F.WEL_SO_RES_LO_VAL (soValue c n % 2 ^ 32)).wr0 F.WEL_SO_RES_HI_VAL (soValue c n / 2 ^ 32)).wr0 F.WEL_SO_CSTAT_STATUS 0 ∧
        val < 2 ^ 32 ∧ takesWrite s m .WEL_SO_CMD 0 0 = true ∧ op = 5 ∧ soArg c 1 = 0 ∧ soType c n ≠ 0) ∧
    (∃ (s c d : State) (m : Master) (val n op : Nat), c = soCount (wrote s m .WEL_SO_CMD 0 0) (masterCode m - 1) none ∧
        n = val % 8192 ∧ op = bits val 28 4 ∧
        d = ((c.wr0 F.WEL_SO_RES_LO_VAL (soValue c n % 2 ^ 32)).wr0 F.WEL_SO_RES_HI_VAL (soValue c n / 2 ^ 32)).wr0 F.WEL_SO_CSTAT_STATUS 0 ∧
        val < 2 ^ 32 ∧ takesWrite s m .WEL_SO_CMD 0 0 = true ∧ op = 1 ∧ soArg c 1 ≠ 0) ∧
    (∃ (s c d : State) (m : Master) (val n op : Nat), c = soCount (wrote s m .WEL_SO_CMD 0 0) (masterCode m - 1) none ∧
        n = val % 8192 ∧ op = bits val 28 4 ∧
        d = ((c.wr0 F.WEL_SO_RES_LO_VAL (soValue c n % 2 ^ 32)).wr0 F.WEL_SO_RES_HI_VAL (soValue c n / 2 ^ 32)).wr0 F.WEL_SO_CSTAT_STATUS 0 ∧
        val < 2 ^ 32 ∧ takesWrite s m .WEL_SO_CMD 0 0 = true ∧ op = 2 ∧ soType c n = 0) ∧
    (∃ (s c : State) (m : Master) (n w val be : Nat), c = wrote s m .WEL_SO n w ∧ val < 2 ^ 32 ∧ beOk m be = true ∧ w < 2 ∧
        takesWrite s m .WEL_SO n w = true ∧ (w = 0 → fieldAfter c F.WEL_SO_TYPE n val be < 5)) ∧
    (∃ (s c : State) (m : Master) (n w val be : Nat), c = wrote s m .WEL_SO n w ∧ val < 2 ^ 32 ∧ beOk m be = true ∧ w < 2 ∧
        takesWrite s m .WEL_SO n w = true ∧ w = 0 ∧ 5 ≤ fieldAfter c F.WEL_SO_TYPE n val be) ∧
    (∃ (s c : State) (m : Master) (n val be : Nat), c = wrote s m .WEL_SO n 2 ∧ val < 2 ^ 32 ∧ beOk m be = true ∧
        takesWrite s m .WEL_SO n 2 = true) ∧
    (∃ (s c d : State) (m : Master) (n val be : Nat), c = wrote s m .WEL_SO n 3 ∧
        d = setV { c with heldW := mdel c.heldW (soHoldKey m n) } n (fieldAfter c F.WEL_SO_VAL_HI n val be * 2 ^ 32 + mgetD c.heldW (soHoldKey m n) 0) ∧
        val < 2 ^ 32 ∧ beOk m be = true ∧ takesWrite s m .WEL_SO n 3 = true) :=
  ⟨⟨r, .host, 0x0, 15, by decide +kernel⟩,
  ⟨r, .host, 0x0, 15, 0, 0, by decide +kernel⟩,
  ⟨r, .host, 0x0, 15, 0, by decide +kernel⟩,
  ⟨r, .host, 0x0, 15, 0, by decide +kernel⟩,
  ⟨(wrs r [(F.WEL_SO_TYPE, 0, 1)]), _, _, .host, 0x0, _, _, rfl, rfl, rfl, rfl, by decide +kernel⟩,
  ⟨(wrs r [(F.WEL_SO_TYPE, 0, 1)]), _, _, .host, 0x10000000, _, _, rfl, rfl, rfl, rfl, by decide +kernel⟩,
  ⟨(wrs r [(F.WEL_SO_TYPE, 0, 1)]), _, _, .host, 0x20000000, _, _, rfl, rfl, rfl, rfl, by decide +kernel⟩,
  ⟨(wrs r [(F.WEL_SO_TYPE, 0, 1)]), _, _, .host, 0x50000000, _, _, rfl, rfl, rfl, rfl, by decide +kernel⟩,
  ⟨(wrs (r) [(F.WEL_SO_TYPE, 0, 1), (F.WEL_SO_ARG1_LO_VAL, 0, 1)]), _, _, .host, (1 <<< 28), _, _, rfl, rfl, rfl, rfl,
      by decide +kernel⟩,
  ⟨r, _, _, .host, 0x20000000, _, _, rfl, rfl, rfl, rfl, by decide +kernel⟩,
  ⟨(wrs (r) [(F.WEL_SO_TYPE, 0, 1), (F.WEL_SO_ARG1_LO_VAL, 0, 1)]), _, .host, 0, 0, (1 <<< 28), 15, rfl, by decide +kernel⟩,
  ⟨(wrs r [(F.WEL_SO_TYPE, 0, 1)]), _, .host, 0, 0, 0xFFFFFFFF, 15, rfl, by decide +kernel⟩,
  ⟨r, _, .host, 0, 0, 15, rfl, by decide +kernel⟩,
  ⟨r, _, _, .host, 0, 0, 15, rfl, rfl, by decide +kernel⟩⟩

theorem witness_Rooms :
    (∃ (s u : State) (p : StPkt) (at_ : Nat), u = s.advance at_ ∧ stationHas u p 0x40 = true) ∧
    (∃ (s u : State) (p : StPkt) (at_ : Nat), u = s.advance at_ ∧ stationHas u p 0x41 = true) ∧
    (∃ (s u : State) (p : StPkt) (at_ : Nat), u = s.advance at_ ∧ stationHas u p 0x42 = true) ∧
    (∃ (s u : State) (at_ : Nat), u = s.advance at_ ∧ coreRuns u = true) ∧
    (∃ (s : State) (m : Master) (i val be : Nat), val < 2 ^ 32 ∧ beOk m be = true ∧ takesWrite s m .RMS_HB_LATE i 0 = true) ∧
    (∃ (s u c d : State) (p : StPkt) (at_ r base size off : Nat), u = s.advance at_ ∧ c = takeStation u p ∧ r = roomOf p.hdr ∧
        (base, size) = areaOf c r (bits p.hdr.opw0 31 1) (1 - c.rd F.RMS_ROOM_BSLOT r) ∧ off = p.hdr.opw2 * 64 ∧
        d = roomCount c p (base + off) p.hdr.len ∧ stationHas u p 0x40 = true) ∧
    (∃ (s u c d e : State) (p : StPkt) (at_ r base size off : Nat), u = s.advance at_ ∧ c = takeStation u p ∧
        r = roomOf p.hdr ∧ (base, size) = areaOf c r (bits p.hdr.opw0 31 1) 2 ∧ off = p.hdr.opw2 * 64 ∧
        d = roomCount c p (base + off) p.hdr.len ∧
        e = (d.wr F.RMS_ROOM_OPEN_KIND r 2).wr F.RMS_ROOM_OPEN_HIGH r (c.rd F.RMS_ROOM_JCMT r) ∧ stationHas u p 0x41 = true) ∧
    (∃ (s u c d : State) (p : StPkt) (at_ r base size off n lim k : Nat), u = s.advance at_ ∧ c = takeStation u p ∧
        r = roomOf p.hdr ∧ k = bits p.hdr.opw0 28 2 ∧ (base,
        size) = areaOf c r (bits p.hdr.opw0 31 1) (if k = 0 then c.rd F.RMS_ROOM_BSLOT r else 2) ∧ off = p.hdr.opw2 * 64 ∧
        n = bits p.hdr.opw1 0 22 ∧ lim = (if k = 0 then c.rd F.RMS_ROOM_SNAP_LEN r else c.rd F.RMS_ROOM_JCMT r) * 64 ∧
        d = roomCount c p (base + off) n ∧ stationHas u p 0x42 = true) ∧
    (∃ (s u : State) (at_ : Nat), u = s.advance at_ ∧ coreRuns u = true ∧ u.flag F.RMS_HB_CFG_EN = true ∧
        u.rd0 F.RMS_HB_CFG_MISS ≠ 0 ∧ u.rd0 F.RMS_HB_CFG_IVL ≠ 0) ∧
    (∃ (s c : State) (m : Master) (i val be : Nat), c = wrote s m .RMS_HB_LATE i 0 ∧ i < 4 ∧ val < 2 ^ 32 ∧ beOk m be = true ∧
        takesWrite s m .RMS_HB_LATE i 0 = true) :=
  ⟨⟨r, _, (pk 0x40 0 0 0 1 0 2 []), 0, rfl, by decide +kernel⟩,
  ⟨r, _, (pk 0x41 0 0 0 1 0 2 []), 0, rfl, by decide +kernel⟩,
  ⟨r, _, (pk 0x42 0 0 0 0 0 2 []), 0, rfl, by decide +kernel⟩,
  ⟨r, _, 0, rfl, by decide +kernel⟩,
  ⟨r, .host, 0, 0, 15, by decide +kernel⟩,
  ⟨r, _, _, _, (pk 0x40 0 0 0 0 0 0 []), 0, _,
      (areaOf (takeStation (r.advance 0) (pk 0x40 0 0 0 0 0 0 [])) (roomOf (pk 0x40 0 0 0 0 0 0 []).hdr) (bits (pk 0x40 0 0 0 0 0 0 []).hdr.opw0 31 1) (1 - (takeStation (r.advance 0) (pk 0x40 0 0 0 0 0 0 [])).rd F.RMS_ROOM_BSLOT (roomOf (pk 0x40 0 0 0 0 0 0 []).hdr))).1,
      (areaOf (takeStation (r.advance 0) (pk 0x40 0 0 0 0 0 0 [])) (roomOf (pk 0x40 0 0 0 0 0 0 []).hdr) (bits (pk 0x40 0 0 0 0 0 0 []).hdr.opw0 31 1) (1 - (takeStation (r.advance 0) (pk 0x40 0 0 0 0 0 0 [])).rd F.RMS_ROOM_BSLOT (roomOf (pk 0x40 0 0 0 0 0 0 []).hdr))).2,
      _, rfl, rfl, rfl, (pair_parts).symm, rfl, rfl, by decide +kernel⟩,
  ⟨r, _, _, _, _, (pk 0x41 0 0 0 0 0 0 []), 0, _,
      (areaOf (takeStation (r.advance 0) (pk 0x41 0 0 0 0 0 0 [])) (roomOf (pk 0x41 0 0 0 0 0 0 []).hdr) (bits (pk 0x41 0 0 0 0 0 0 []).hdr.opw0 31 1) 2).1,
      (areaOf (takeStation (r.advance 0) (pk 0x41 0 0 0 0 0 0 [])) (roomOf (pk 0x41 0 0 0 0 0 0 []).hdr) (bits (pk 0x41 0 0 0 0 0 0 []).hdr.opw0 31 1) 2).2,
      _, rfl, rfl, rfl, (pair_parts).symm, rfl, rfl, rfl, by decide +kernel⟩,
  ⟨r, _, _, _, (pk 0x42 0 0 0 0 0 0 []), 0, _,
      (areaOf (takeStation (r.advance 0) (pk 0x42 0 0 0 0 0 0 [])) (roomOf (pk 0x42 0 0 0 0 0 0 []).hdr) (bits (pk 0x42 0 0 0 0 0 0 []).hdr.opw0 31 1) (if (bits (pk 0x42 0 0 0 0 0 0 []).hdr.opw0 28 2) = 0 then (takeStation (r.advance 0) (pk 0x42 0 0 0 0 0 0 [])).rd F.RMS_ROOM_BSLOT (roomOf (pk 0x42 0 0 0 0 0 0 []).hdr) else 2)).1,
      (areaOf (takeStation (r.advance 0) (pk 0x42 0 0 0 0 0 0 [])) (roomOf (pk 0x42 0 0 0 0 0 0 []).hdr) (bits (pk 0x42 0 0 0 0 0 0 []).hdr.opw0 31 1) (if (bits (pk 0x42 0 0 0 0 0 0 []).hdr.opw0 28 2) = 0 then (takeStation (r.advance 0) (pk 0x42 0 0 0 0 0 0 [])).rd F.RMS_ROOM_BSLOT (roomOf (pk 0x42 0 0 0 0 0 0 []).hdr) else 2)).2,
      _, _, _, _, rfl, rfl, rfl, rfl, (pair_parts).symm, rfl, rfl, rfl, rfl, by decide +kernel⟩,
  ⟨(wrs roomed [(F.RMS_HB_CFG_EN, 0, 1), (F.RMS_HB_CFG_MISS, 0, 1), (F.RMS_HB_CFG_IVL, 0, 1)]), _, 0, rfl, by decide +kernel⟩,
  ⟨r, _, .host, 0, 0, 15, rfl, by decide +kernel⟩⟩

theorem witness_LinkBlocks :
    (∃ (s u : State) (lp at_ : Nat) (blk : RxBlock), u = s.advance at_ ∧ linkRuns u = true ∧ lp < 160 ∧ blk.ok = true) ∧
    (∃ (s u d : State) (lp at_ : Nat) (b : RxBlock), u = s.advance at_ ∧
        d = setLink u lp (gatherLcw (getLink u lp) b.lcw (b.crc == blockCrc (getLink u lp).rxSeq b.slots b.lcw)) ∧
        linkRuns u = true ∧ lp < 160 ∧ b.ok = true ∧ b.code = none ∧ blocksFlow u lp = true ∧ (getLink u lp).stopped = false ∧
        b.fec = [] ∧ b.crc = blockCrc (getLink u lp).rxSeq b.slots b.lcw) ∧
    (∃ (s u d : State) (lp at_ : Nat) (b : RxBlock), u = s.advance at_ ∧
        d = setLink u lp (gatherLcw (getLink u lp) b.lcw (b.crc == blockCrc (getLink u lp).rxSeq b.slots b.lcw)) ∧
        linkRuns u = true ∧ lp < 160 ∧ b.ok = true ∧ b.code = none ∧ blocksFlow u lp = true ∧ (getLink u lp).stopped = false ∧
        b.fec = [] ∧ b.crc ≠ blockCrc (getLink u lp).rxSeq b.slots b.lcw ∧ (getLink u lp).replayWait = false) ∧
    (∃ (s u d : State) (lp at_ : Nat) (b : RxBlock), u = s.advance at_ ∧
        d = setLink u lp (gatherLcw (getLink u lp) b.lcw (b.crc == blockCrc (getLink u lp).rxSeq b.slots b.lcw)) ∧
        linkRuns u = true ∧ lp < 160 ∧ b.ok = true ∧ b.code = none ∧ blocksFlow u lp = true ∧ (getLink u lp).stopped = false ∧
        b.fec = [] ∧ b.crc ≠ blockCrc (getLink u lp).rxSeq b.slots b.lcw ∧ (getLink u lp).replayWait = true) ∧
    (∃ (s u : State) (lp at_ pos : Nat) (ys : List Nat) (b : RxBlock), u = s.advance at_ ∧ b.code = some (pos, ys) ∧
        linkRuns u = true ∧ lp < 160 ∧ b.ok = true ∧ u.flag F.PRT_LSTAT_LOOP_SLAVE lp = true) ∧
    (∃ (s u : State) (lp at_ pos : Nat) (ys : List Nat) (b : RxBlock), u = s.advance at_ ∧ b.code = some (pos, ys) ∧
        linkRuns u = true ∧ lp < 160 ∧ b.ok = true ∧ u.flag F.PRT_LSTAT_LOOP_SLAVE lp = false ∧
        (u.stage lp = 6 ∨ u.stage lp = 7)) ∧
    (∃ (s u : State) (lp at_ pos : Nat) (ys : List Nat) (b : RxBlock), u = s.advance at_ ∧ b.code = some (pos, ys) ∧
        linkRuns u = true ∧ lp < 160 ∧ b.ok = true ∧ u.flag F.PRT_LSTAT_LOOP_SLAVE lp = false ∧ blocksFlow u lp = true ∧
        (getLink u lp).stopped = false ∧ b.fec = []) ∧
    (∃ (s u : State) (lp at_ : Nat), u = s.advance at_ ∧ linkRuns u = true ∧ lp < 160 ∧ blocksFlow u lp = true ∧
        u.flag F.PRT_LSTAT_EIDLE_TX lp = false ∧ (getLink u lp).txCount % 32 = 0 ∧
        (getLink u lp).lcwRun ≠ some (getLink u lp).txCount) ∧
    (∃ (s u d : State) (lp at_ w : Nat), u = s.advance at_ ∧ (getLink u lp).rxEarly = some w ∧
        d = takeAck (modLink u lp fun k => { k with rxEarly := none }) lp (w % 4096) ∧ linkRuns u = true ∧ lp < 160 ∧
        (getLink u lp).rxReady = none ∧ bitAt w 12 = false) ∧
    (∃ (s u d : State) (lp at_ w : Nat), u = s.advance at_ ∧ (getLink u lp).rxEarly = some w ∧
        d = takeAck (modLink u lp fun k => { k with rxEarly := none }) lp (w % 4096) ∧ linkRuns u = true ∧ lp < 160 ∧
        (getLink u lp).rxReady = none ∧ bitAt w 12 = true) ∧
    (∃ (s u d : State) (lp at_ w : Nat), u = s.advance at_ ∧ (getLink u lp).rxReady = some w ∧ d = [0, 1, 2,
        3].foldl (fun s i => touchElig s lp (4 * bits w 13 1 + i)) (modLink u lp fun k => { k with rxReady := none, limIn := [0, 1, 2, 3].foldl (fun m i => mset 0 m (4 * bits w 13 1 + i) (bits w (14 + 12 * i) 12)) (getLink u lp).limIn, rxKinds := Nat.lor (getLink u lp).rxKinds (2 ^ bits w 13 1) }) ∧
        linkRuns u = true ∧ lp < 160 ∧ blocksFlow u lp = true ∧ (getLink u lp).rxEarly = none ∧ d.stage lp ≠ 8) ∧
    (∃ (s u d : State) (lp at_ w : Nat), u = s.advance at_ ∧ (getLink u lp).rxReady = some w ∧ d = [0, 1, 2,
        3].foldl (fun s i => touchElig s lp (4 * bits w 13 1 + i)) (modLink u lp fun k => { k with rxReady := none, limIn := [0, 1, 2, 3].foldl (fun m i => mset 0 m (4 * bits w 13 1 + i) (bits w (14 + 12 * i) 12)) (getLink u lp).limIn, rxKinds := Nat.lor (getLink u lp).rxKinds (2 ^ bits w 13 1) }) ∧
        linkRuns u = true ∧ lp < 160 ∧ blocksFlow u lp = true ∧ (getLink u lp).rxEarly = none ∧ d.stage lp = 8 ∧
        Nat.lor (getLink u lp).rxKinds (2 ^ bits w 13 1) = 3 ∧ (getLink d lp).stopped = false) ∧
    (∃ (s u : State) (lp at_ n lim : Nat) (b : TxBlock) (bs : List TxBlock), u = s.advance at_ ∧
        n = (if (getLink u lp).resends ≠ 0 ∧ (getLink u lp).resendSeq = b.seq then (getLink u lp).resends else 0) ∧
        lim = u.rd F.PRT_LINK_CFG_REPLAY_MAX (lp / 2) ∧ linkRuns u = true ∧ lp < 160 ∧
        u.rd F.PRT_LINK_CFG_REPLAY_TO (lp / 2) ≠ 0 ∧ (getLink u lp).retry = b :: bs ∧ blocksFlow u lp = true ∧
        (getLink u lp).ackAt + 100 * u.rd F.PRT_LINK_CFG_REPLAY_TO (lp / 2) ≤ u.now ∧ (getLink u lp).restripe = false ∧
        lim ≠ 0 ∧ lim ≤ n ∧ u.linkUp lp = true) ∧
    (∃ (s u : State) (lp at_ n lim : Nat) (b : TxBlock) (bs : List TxBlock), u = s.advance at_ ∧
        n = (if (getLink u lp).resends ≠ 0 ∧ (getLink u lp).resendSeq = b.seq then (getLink u lp).resends else 0) ∧
        lim = u.rd F.PRT_LINK_CFG_REPLAY_MAX (lp / 2) ∧ linkRuns u = true ∧ lp < 160 ∧
        u.rd F.PRT_LINK_CFG_REPLAY_TO (lp / 2) ≠ 0 ∧ (getLink u lp).retry = b :: bs ∧ blocksFlow u lp = true ∧
        (getLink u lp).ackAt + 100 * u.rd F.PRT_LINK_CFG_REPLAY_TO (lp / 2) ≤ u.now ∧ (getLink u lp).restripe = false ∧
        (lim = 0 ∨ n < lim ∨ u.linkUp lp = false) ∧ (getLink u lp).txSlots = []) :=
  ⟨⟨r, _, 0, 0, (block 0), rfl, by decide +kernel⟩,
  ⟨(withLink r 0 10 fun l => { l with replayWait := true }), _, _, 0, 0, (block (blockCrc 0 (List.replicate 16 ⟨0,
      List.replicate 16 0⟩) 0)), rfl, rfl, by decide +kernel⟩,
  ⟨(withLink r 0 10 fun l => { l with rxEarly := some 4096 }), _, _, 0, 0, (block 0), rfl, rfl, by decide +kernel⟩,
  ⟨(withLink r 0 10 fun l => { l with replayWait := true }), _, _, 0, 0, (block 0), rfl, rfl, by decide +kernel⟩,
  ⟨(wrs (inStage r 0 11) [(F.PRT_LSTAT_LOOP_SLAVE, 0, 1)]), _, 0, 0,
      ((({ block 0 with code := some zeros }).code).get (by decide +kernel)).1,
      ((({ block 0 with code := some zeros }).code).get (by decide +kernel)).2, ({ block 0 with code := some zeros }), rfl,
      (Option.some_get _).symm.trans (congrArg some (pair_parts)), by decide +kernel⟩,
  ⟨(inStage r 0 6), _, 0, 0, ((({ block 0 with code := some zeros }).code).get (by decide +kernel)).1,
      ((({ block 0 with code := some zeros }).code).get (by decide +kernel)).2, ({ block 0 with code := some zeros }), rfl,
      (Option.some_get _).symm.trans (congrArg some (pair_parts)), by decide +kernel⟩,
  ⟨(withLink r 0 10 fun l => { l with replayWait := true }), _, 0, 0,
      ((({ block 0 with code := some zeros }).code).get (by decide +kernel)).1,
      ((({ block 0 with code := some zeros }).code).get (by decide +kernel)).2, ({ block 0 with code := some zeros }), rfl,
      (Option.some_get _).symm.trans (congrArg some (pair_parts)), by decide +kernel⟩,
  ⟨(inStage r 0 10), _, 0, 0, rfl, by decide +kernel⟩,
  ⟨(withLink r 0 10 fun l => { l with rxEarly := some 0 }), _, _, 0, 0, _, rfl, (Option.some_get (by decide +kernel)).symm,
      rfl, by decide +kernel⟩,
  ⟨(withLink r 0 10 fun l => { l with rxEarly := some 4096 }), _, _, 0, 0, _, rfl, (Option.some_get (by decide +kernel)).symm,
      rfl, by decide +kernel⟩,
  ⟨(withLink r 0 10 fun l => { l with rxReady := some 0 }), _, _, 0, 0, _, rfl, (Option.some_get (by decide +kernel)).symm,
      rfl, by decide +kernel⟩,
  ⟨(withLink r 0 8 fun l => { l with rxReady := some 0, rxKinds := 2 }), _, _, 0, 0, _, rfl,
      (Option.some_get (by decide +kernel)).symm, rfl, by decide +kernel⟩,
  ⟨(withLink (late (wrs (r) [(F.PRT_LINK_CFG_REPLAY_MAX, 0,
      1)])) 0 10 fun l => { l with retry := [⟨0, []⟩], resends := 8, resendSeq := 0 }), _, 0, 0, _, _, (⟨0, []⟩), ([]), rfl,
      rfl, rfl, by decide +kernel⟩,
  ⟨(withLink (late r) 0 8 fun l => { l with retry := [⟨0, []⟩] }), _, 0, 0, _, _, (⟨0, []⟩), ([]), rfl, rfl, rfl,
      by decide +kernel⟩⟩

theorem witness_LinkBringUp :
    (∃ (s u : State) (lp pos at_ : Nat) (p : StPkt), u = s.advance at_ ∧ linkRuns u = true ∧ lp < 160 ∧ pos < 8 ∧
        p.arr ≤ 161) ∧
    (∃ (s u : State) (lp pos at_ l : Nat), u = s.advance at_ ∧ l = laneAt u lp pos ∧ linkRuns u = true ∧ lp < 160 ∧ pos < 8 ∧
        u.lpExists lp = true ∧ pos < linkWidth u lp ∧ (getLane u l).excluded = false ∧
        u.flag F.PRT_LSTAT_LOOP_SLAVE lp = true) ∧
    (∃ (s u : State) (lp pos v at_ l : Nat), u = s.advance at_ ∧ l = laneAt u lp pos ∧ linkRuns u = true ∧ lp < 160 ∧
        pos < 8 ∧ u.lpExists lp = true ∧ pos < linkWidth u lp ∧ (getLane u l).excluded = false ∧
        u.flag F.PRT_LSTAT_LOOP_SLAVE lp = false ∧ u.stage lp = 1 ∧ readFrame v (u.flag F.LNK_STAT_POL_INV l) = none) ∧
    (∃ (s u : State) (lp pos v at_ l x : Nat), u = s.advance at_ ∧ l = laneAt u lp pos ∧
        readFrame v (u.flag F.LNK_STAT_POL_INV l) = some x ∧ linkRuns u = true ∧ lp < 160 ∧ pos < 8 ∧ u.lpExists lp = true ∧
        pos < linkWidth u lp ∧ (getLane u l).excluded = false ∧ u.flag F.PRT_LSTAT_LOOP_SLAVE lp = false ∧ bits x 32 2 ≠ 1 ∧
        u.stage lp = 10) ∧
    (∃ (s u : State) (lp pos v at_ l x : Nat), u = s.advance at_ ∧ l = laneAt u lp pos ∧
        readFrame v (u.flag F.LNK_STAT_POL_INV l) = some x ∧ linkRuns u = true ∧ lp < 160 ∧ pos < 8 ∧ u.lpExists lp = true ∧
        pos < linkWidth u lp ∧ (getLane u l).excluded = false ∧ u.flag F.PRT_LSTAT_LOOP_SLAVE lp = false ∧ bits x 32 2 ≠ 1 ∧
        1 ≤ u.stage lp ∧ u.stage lp ≤ 7 ∧ u.stage lp ≠ 2 ∧ (getLink u lp).retryAt = none) ∧
    (∃ (s u : State) (lp pos v at_ l x : Nat) (d : State), u = s.advance at_ ∧ l = laneAt u lp pos ∧
        readFrame v (u.flag F.LNK_STAT_POL_INV l) = some x ∧
        d = modLink ((modLane u l fun y => { y with good := y.good + 1 }).wr F.LNK_STAT_LOCK l 1) lp (fun k => { k with peerMask := bits x 35 8 }) ∧
        linkRuns u = true ∧ lp < 160 ∧ pos < 8 ∧ u.lpExists lp = true ∧ pos < linkWidth u lp ∧
        (getLane u l).excluded = false ∧ u.flag F.PRT_LSTAT_LOOP_SLAVE lp = false ∧ bits x 32 2 ≠ 1 ∧ u.stage lp = 1 ∧
        (getLink u lp).retryAt = none ∧ bits x 44 1 = b2n (u.portMode (lp / 2) == 2) ∧ (getLane d l).good < 16) ∧
    (∃ (s u : State) (lp pos v at_ l x : Nat) (d : State), u = s.advance at_ ∧ l = laneAt u lp pos ∧
        readFrame v (u.flag F.LNK_STAT_POL_INV l) = some x ∧
        d = modLink ((modLane u l fun y => { y with good := y.good + 1 }).wr F.LNK_STAT_LOCK l 1) lp (fun k => { k with peerMask := bits x 35 8 }) ∧
        linkRuns u = true ∧ lp < 160 ∧ pos < 8 ∧ u.lpExists lp = true ∧ pos < linkWidth u lp ∧
        (getLane u l).excluded = false ∧ u.flag F.PRT_LSTAT_LOOP_SLAVE lp = false ∧ bits x 32 2 ≠ 1 ∧ u.stage lp = 1 ∧
        (getLink u lp).retryAt = none ∧ bits x 44 1 = b2n (u.portMode (lp / 2) == 2) ∧ 16 ≤ (getLane d l).good) ∧
    (∃ (s u : State) (lp at_ : Nat), u = s.advance at_ ∧ linkRuns u = true ∧ lp < 160 ∧ u.stage lp = 5) ∧
    (∃ (s u : State) (lp at_ : Nat), u = s.advance at_ ∧ linkRuns u = true ∧ lp < 160 ∧ u.stage lp = 6) ∧
    (∃ (s u c d e : State) (lp bad at_ tx rx : Nat) (refused : Bool), u = s.advance at_ ∧
        c = excludeLanes u lp ((liveLanes u lp).filter (bitAt bad)) ∧ tx = (getLink u lp).peerMask % 2 ^ linkWidth u lp ∧
        rx = rxMask c lp ∧
        refused = (((List.range 8).any fun v => rsvCells u lp v == 0) || decide (bufCells u lp < sumRsv u lp)) ∧
        d = setLink (setMasks c lp tx rx) lp { linkInit with failRun := (getLink c lp).failRun, flushing := (getLink c lp).flushing, clkMode := (getLink c lp).clkMode, peerMask := (getLink c lp).peerMask, stopped := refused, cred := (List.range 8).foldl (fun m v => mset 0 m v (rsvCells u lp v)) [], flex := (List.range 8).foldl (fun m v => mset 0 m v (flexCells u lp v)) [] } ∧
        e = enterStage ((liveLanes d lp).foldl (fun s p => modLane (s.wr F.LNK_STAT_IN_USE (laneAt s lp p) 1) (laneAt s lp p) fun x => { x with txWords := [], rxWords := [] }) d) lp 8 ∧
        linkRuns u = true ∧ lp < 160 ∧ u.stage lp = 7 ∧ (popCount tx < minLanes u lp ∨ popCount rx < minLanes u lp)) ∧
    (∃ (s u c d e : State) (lp bad at_ tx rx : Nat) (refused : Bool), u = s.advance at_ ∧
        c = excludeLanes u lp ((liveLanes u lp).filter (bitAt bad)) ∧ tx = (getLink u lp).peerMask % 2 ^ linkWidth u lp ∧
        rx = rxMask c lp ∧
        refused = (((List.range 8).any fun v => rsvCells u lp v == 0) || decide (bufCells u lp < sumRsv u lp)) ∧
        d = setLink (setMasks c lp tx rx) lp { linkInit with failRun := (getLink c lp).failRun, flushing := (getLink c lp).flushing, clkMode := (getLink c lp).clkMode, peerMask := (getLink c lp).peerMask, stopped := refused, cred := (List.range 8).foldl (fun m v => mset 0 m v (rsvCells u lp v)) [], flex := (List.range 8).foldl (fun m v => mset 0 m v (flexCells u lp v)) [] } ∧
        e = enterStage ((liveLanes d lp).foldl (fun s p => modLane (s.wr F.LNK_STAT_IN_USE (laneAt s lp p) 1) (laneAt s lp p) fun x => { x with txWords := [], rxWords := [] }) d) lp 8 ∧
        linkRuns u = true ∧ lp < 160 ∧ u.stage lp = 7 ∧ minLanes u lp ≤ popCount tx ∧ minLanes u lp ≤ popCount rx ∧
        u.rd F.PRT_CTRL_LOOP (lp / 2) ≠ 3) ∧
    (∃ (s u : State) (lp at_ : Nat), u = s.advance at_ ∧ linkRuns u = true ∧ lp < 160 ∧ 4 ≤ u.stage lp ∧ u.stage lp ≤ 8 ∧
        (u.stage lp = 8 → (getLink u lp).stopped = false) ∧
        (getLink u lp).stageAt + (if u.stage lp = 5 then 30000000 else if u.stage lp = 6 then 2000000 else 1000000) ≤ u.now) ∧
    (∃ (s u : State) (lp at_ t0 : Nat), u = s.advance at_ ∧ (getLink u lp).retryAt = some t0 ∧ linkRuns u = true ∧ lp < 160 ∧
        t0 ≤ u.now) ∧
    (∃ (s u : State) (lp at_ : Nat), u = s.advance at_ ∧ linkRuns u = true ∧ lp < 160 ∧ u.stage lp = 9 ∧
        (u.flag F.PRT_PEER_VALID lp = false ∨ u.flag F.GLB_PLACE_LOCK = false)) ∧
    (∃ (s u c d : State) (p : StPkt) (at_ lp : Nat) (ok : Bool), u = s.advance at_ ∧ c = takeCtl u p ∧ lp = p.arr ∧
        ok = identOk c lp p.hdr.srcE (bits p.hdr.opw0 0 7) ∧
        d = ((((c.wr F.PRT_PEER_VALID lp 1).wr F.PRT_PEER_MATCH lp (b2n ok)).wr F.PRT_PEER_HALF lp (bits p.hdr.opw0 8 1)).wr F.PRT_PEER_PPORT lp (bits p.hdr.opw0 0 7)).wr F.PRT_PEER_EID lp p.hdr.srcE ∧
        linkRuns u = true ∧ p.arr ≤ 161 ∧ c.stage lp = 9 ∧ p.hdr.opcode = 1 ∧ ok = true) ∧
    (∃ (s u c d : State) (p : StPkt) (at_ lp : Nat) (ok : Bool), u = s.advance at_ ∧ c = takeCtl u p ∧ lp = p.arr ∧
        ok = identOk c lp p.hdr.srcE (bits p.hdr.opw0 0 7) ∧
        d = ((((c.wr F.PRT_PEER_VALID lp 1).wr F.PRT_PEER_MATCH lp (b2n ok)).wr F.PRT_PEER_HALF lp (bits p.hdr.opw0 8 1)).wr F.PRT_PEER_PPORT lp (bits p.hdr.opw0 0 7)).wr F.PRT_PEER_EID lp p.hdr.srcE ∧
        linkRuns u = true ∧ p.arr ≤ 161 ∧ c.stage lp = 9 ∧ p.hdr.opcode = 1 ∧ ok = false) :=
  ⟨⟨r, _, 0, 0, 0, (pk 1 0 0 0 0 0 0 []), rfl, by decide +kernel⟩,
  ⟨(wrs (rack r) [(F.PRT_LSTAT_LOOP_SLAVE, 0, 1)]), _, 0, 0, 0, _, rfl, rfl, by decide +kernel⟩,
  ⟨(inStage (rack r) 0 1), _, 0, 0, 0, 0, _, rfl, rfl, by decide +kernel⟩,
  ⟨(inStage (rack r) 0 10), _, 0, 0, (trainFrame (inStage (rack r) 0 1) 0 1 0), 0, _, _, rfl, rfl,
      (Option.some_get (by decide +kernel)).symm, by decide +kernel⟩,
  ⟨(inStage (rack r) 0 1), _, 0, 0, (trainFrame (inStage (rack r) 0 1) 0 1 0), 0, _, _, rfl, rfl,
      (Option.some_get (by decide +kernel)).symm, by decide +kernel⟩,
  ⟨(inStage (rack r) 0 1), _, 0, 0, (trainFrame (inStage (rack r) 0 1) 0 1 0), 0, _, _, _, rfl, rfl,
      (Option.some_get (by decide +kernel)).symm, rfl, by decide +kernel⟩,
  ⟨(modLane (inStage (rack r) 0 1) (laneAt r 0 0) fun x => { x with good := 15 }), _, 0, 0,
      (trainFrame (inStage (rack r) 0 1) 0 1 0), 0, _, _, _, rfl, rfl, (Option.some_get (by decide +kernel)).symm, rfl,
      by decide +kernel⟩,
  ⟨(inStage r 0 5), _, 0, 0, rfl, by decide +kernel⟩,
  ⟨(inStage r 0 6), _, 0, 0, rfl, by decide +kernel⟩,
  ⟨(inStage (rack r) 0 7), _, _, _, _, 0, 0, 0, _, _, _, rfl, rfl, rfl, rfl, rfl, rfl, rfl, by decide +kernel⟩,
  ⟨(withLink r 0 7 fun l => { l with peerMask := 15 }), _, _, _, _, 0, 0, 0, _, _, _, rfl, rfl, rfl, rfl, rfl, rfl, rfl,
      by decide +kernel⟩,
  ⟨(inStage (late r) 0 4), _, 0, 0, rfl, by decide +kernel⟩,
  ⟨(withLink r 0 1 fun l => { l with retryAt := some 0 }), _, 0, 0, _, rfl, (Option.some_get (by decide +kernel)).symm,
      by decide +kernel⟩,
  ⟨(inStage r 0 9), _, 0, 0, rfl, by decide +kernel⟩,
  ⟨(inStage (rack r) 0 9), _, _, _, (pk 1 0 0 0 0 0 0 []), 0, _, _, rfl, rfl, rfl, rfl, rfl, by decide +kernel⟩,
  ⟨(inStage r 0 9), _, _, _, (pk 1 0 0 0 0 0 0 []), 0, _, _, rfl, rfl, rfl, rfl, rfl, by decide +kernel⟩⟩

theorem witness_LinkLanes :
    (∃ (s u : State) (lp at_ : Nat), u = s.advance at_ ∧ linkRuns u = true ∧ lp < 160) ∧
    (∃ (s : State) (m : Master) (l : Nat), takesWrite s m .LNK_CTRL l 0 = true) ∧
    (∃ (s u d : State) (lp mask at_ lost : Nat), u = s.advance at_ ∧
        lost = maskOf (((positions u lp).filter (bitAt mask)).map (rxPos u lp)) ∧
        d = ((positions u lp).filter (bitAt mask)).foldl (fun s p => s.wr F.LNK_STAT_LOCK (laneAt s lp p) 0) u ∧
        linkRuns u = true ∧ lp < 160 ∧ u.linkUp lp = true ∧
        Nat.land (u.rd F.PRT_LSTAT_RXMASK lp) lost = u.rd F.PRT_LSTAT_RXMASK lp) ∧
    (∃ (s u d : State) (lp mask at_ lost : Nat), u = s.advance at_ ∧
        lost = maskOf (((positions u lp).filter (bitAt mask)).map (rxPos u lp)) ∧
        d = ((positions u lp).filter (bitAt mask)).foldl (fun s p => s.wr F.LNK_STAT_LOCK (laneAt s lp p) 0) u ∧
        linkRuns u = true ∧ lp < 160 ∧ u.linkUp lp = true ∧
        Nat.land (u.rd F.PRT_LSTAT_RXMASK lp) lost ≠ u.rd F.PRT_LSTAT_RXMASK lp) ∧
    (∃ (s u d : State) (lp peer at_ tx : Nat), u = s.advance at_ ∧ tx = Nat.land (u.rd F.PRT_LSTAT_TXMASK lp) peer ∧
        d = setMasks u lp tx (u.rd F.PRT_LSTAT_RXMASK lp) ∧ linkRuns u = true ∧ lp < 160 ∧ u.linkUp lp = true ∧
        (getLink u lp).restripe = true ∧ popCount tx < minLanes u lp) ∧
    (∃ (s u d : State) (lp peer at_ tx : Nat), u = s.advance at_ ∧ tx = Nat.land (u.rd F.PRT_LSTAT_TXMASK lp) peer ∧
        d = setMasks u lp tx (u.rd F.PRT_LSTAT_RXMASK lp) ∧ linkRuns u = true ∧ lp < 160 ∧ u.linkUp lp = true ∧
        (getLink u lp).restripe = true ∧ minLanes u lp ≤ popCount tx ∧ tx = u.rd F.PRT_LSTAT_TXMASK lp) ∧
    (∃ (s u d : State) (lp peer at_ tx : Nat), u = s.advance at_ ∧ tx = Nat.land (u.rd F.PRT_LSTAT_TXMASK lp) peer ∧
        d = setMasks u lp tx (u.rd F.PRT_LSTAT_RXMASK lp) ∧ linkRuns u = true ∧ lp < 160 ∧ u.linkUp lp = true ∧
        (getLink u lp).restripe = true ∧ minLanes u lp ≤ popCount tx ∧ tx ≠ u.rd F.PRT_LSTAT_TXMASK lp) ∧
    (∃ (s c : State) (m : Master) (l : Nat), c = wrote s m .LNK_CTRL l 0 ∧ takesWrite s m .LNK_CTRL l 0 = true) ∧
    (∃ (s u : State) (lp at_ : Nat), u = s.advance at_ ∧ linkRuns u = true ∧ lp < 160 ∧ u.linkUp lp = true ∧
        idleOk u lp = true ∧ (u.flag F.PWR_STAT_BRAKE = true ∨ u.rd F.PRT_CTRL_EIDLE_T (lp / 2) ≠ 0 ∧
        (getLink u lp).idleSince.any (fun a => decide (a + 100 * u.rd F.PRT_CTRL_EIDLE_T (lp / 2) ≤ u.now)) = true)) ∧
    (∃ (s u : State) (lp at_ : Nat), u = s.advance at_ ∧ linkRuns u = true ∧ lp < 160 ∧
        u.flag F.PRT_LSTAT_EIDLE_TX lp = true ∧ (cellReady u lp = true ∨ lcwChanged u lp = true)) :=
  ⟨⟨r, _, 6, 0, rfl, by decide +kernel⟩,
  ⟨r, .host, 0, by decide +kernel⟩,
  ⟨(inStage r 0 10), _, _, 0, 15, 0, _, rfl, rfl, rfl, by decide +kernel⟩,
  ⟨(inStage r 0 10), _, _, 0, 0, 0, _, rfl, rfl, rfl, by decide +kernel⟩,
  ⟨(withLink r 0 10 fun l => { l with restripe := true }), _, _, 0, 0, 0, _, rfl, rfl, rfl, by decide +kernel⟩,
  ⟨(withLink r 0 10 fun l => { l with restripe := true }), _, _, 0, 15, 0, _, rfl, rfl, rfl, by decide +kernel⟩,
  ⟨(withLink r 0 10 fun l => { l with restripe := true }), _, _, 0, 1, 0, _, rfl, rfl, rfl, by decide +kernel⟩,
  ⟨r, _, .host, 0, rfl, by decide +kernel⟩,
  ⟨(wrs (inStage r 0 10) [(F.PWR_STAT_BRAKE, 0, 1)]), _, 0, 0, rfl, by decide +kernel⟩,
  ⟨(wrs sendable [(F.PRT_LSTAT_EIDLE_TX, 6, 1)]), _, 6, 0, rfl, by decide +kernel⟩⟩

theorem witness_PortControls :
    (∃ (s : State) (m : Master) (n k val be : Nat), k < 4 ∧ val < 2 ^ 32 ∧ beOk m be = true ∧
        takesWrite s m .PRT_CTRL n 0 = true) ∧
    (∃ (s : State) (m : Master) (k l val be : Nat), k < 4 ∧ val < 2 ^ 32 ∧ beOk m be = true ∧
        takesWrite s m .LNK_ESCAN l 0 = true) ∧
    (∃ (s : State) (m : Master) (k l val be : Nat), k < 4 ∧ val < 2 ^ 32 ∧ beOk m be = true ∧
        takesWrite s m .LNK_PRBS l 0 = true) ∧
    (∃ (s u : State) (lp at_ l : Nat), u = s.advance at_ ∧ linkRuns u = true ∧ lp < 160 ∧ l < 640) ∧
    (∃ (s c : State) (m : Master) (n : Nat), c = wrote s m .PRT_CTRL n 0 ∧ takesWrite s m .PRT_CTRL n 0 = true ∧
        c.portMode n ≠ 0) ∧
    (∃ (s c : State) (m : Master) (n v : Nat) (en : Bool), c = wrote s m .PRT_CTRL n 0 ∧
        v = b2n en * 2 ^ 31 + s.rdSw F.PRT_CTRL_LOOP n * 2 ^ 28 + s.rdSw F.PRT_CTRL_CLKMODE n * 2 ^ 26 ∧
        takesWrite s m .PRT_CTRL n 0 = true) ∧
    (∃ (s c : State) (m : Master) (n k v : Nat), c = wrote s m .PRT_CTRL n 0 ∧
        v = s.rdSw F.PRT_CTRL_EN n * 2 ^ 31 + k * 2 ^ 28 + s.rdSw F.PRT_CTRL_CLKMODE n * 2 ^ 26 ∧ k < 4 ∧
        takesWrite s m .PRT_CTRL n 0 = true) ∧
    (∃ (s u : State) (lp at_ : Nat), u = s.advance at_ ∧ linkRuns u = true ∧ lp < 160 ∧
        u.flag F.PRT_LSTAT_LOOP_SLAVE lp = true) ∧
    (∃ (s c : State) (m : Master) (l : Nat), c = wrote s m .LNK_ESCAN l 0 ∧ takesWrite s m .LNK_ESCAN l 0 = true ∧
        c.flag F.LNK_ESCAN_BUSY l = false ∧ 5 ≤ c.stage (linkOfLane c l).1 ∧ c.rd F.LNK_ESCAN_LOG2N l ≠ 0) ∧
    (∃ (s u : State) (l at_ : Nat), u = s.advance at_ ∧ linkRuns u = true ∧ l < 640 ∧ u.flag F.LNK_ESCAN_BUSY l = true) ∧
    (∃ (s c d : State) (m : Master) (l val be : Nat), c = wrote s m .LNK_PRBS l 0 ∧
        d = prbsDrive (writeWord (if bitAt be 3 then prbsFreeze c l else c) m .LNK_PRBS l 0 val be) l ∧ val < 2 ^ 32 ∧
        beOk m be = true ∧ takesWrite s m .LNK_PRBS l 0 = true ∧ (bitAt val 30 && bitAt be 3) = true) ∧
    (∃ (s c d : State) (m : Master) (l val be : Nat), c = wrote s m .LNK_PRBS l 0 ∧
        d = prbsDrive (writeWord (if bitAt be 3 then prbsFreeze c l else c) m .LNK_PRBS l 0 val be) l ∧ val < 2 ^ 32 ∧
        beOk m be = true ∧ takesWrite s m .LNK_PRBS l 0 = true ∧ (bitAt val 30 && bitAt be 3) = false) :=
  ⟨⟨r, .host, 0, 0, 0xFFFFFFFF, 15, by decide +kernel⟩,
  ⟨r, .host, 0, 0, 0xFFFFFFFF, 15, by decide +kernel⟩,
  ⟨r, .host, 0, 0, 0xFFFFFFFF, 15, by decide +kernel⟩,
  ⟨r, _, 0, 0, 0, rfl, by decide +kernel⟩,
  ⟨(rack r), _, .host, 0, rfl, by decide +kernel⟩,
  ⟨r, _, .host, 0, _, false, rfl, rfl, by decide +kernel⟩,
  ⟨r, _, .host, 0, 0, _, rfl, rfl, by decide +kernel⟩,
  ⟨(wrs r [(F.PRT_LSTAT_LOOP_SLAVE, 0, 1)]), _, 0, 0, rfl, by decide +kernel⟩,
  ⟨(inStage r 0 10), _, .host, 0, rfl, by decide +kernel⟩,
  ⟨(wrs r [(F.LNK_ESCAN_BUSY, 0, 1)]), _, 0, 0, rfl, by decide +kernel⟩,
  ⟨(rack r), _, _, .host, 0, 0xFFFFFFFF, 15, rfl, rfl, by decide +kernel⟩,
  ⟨r, _, _, .host, 0, 0, 15, rfl, rfl, by decide +kernel⟩⟩

theorem witness_Pauses :
    (∃ (s u : State) (p : StPkt) (at_ lp : Nat), u = s.advance at_ ∧ linkRuns u = true ∧ p.arr ≤ 161 ∧ lp < 160) ∧
    (∃ (s u c : State) (p : StPkt) (at_ : Nat), u = s.advance at_ ∧ c = takeCtl u p ∧ linkRuns u = true ∧ p.arr ≤ 161 ∧
        c.linkUp p.arr = true ∧ p.hdr.opcode = 3 ∧ bits p.hdr.opw0 24 8 = 0) ∧
    (∃ (s u c : State) (p : StPkt) (at_ : Nat), u = s.advance at_ ∧ c = takeCtl u p ∧ linkRuns u = true ∧ p.arr ≤ 161 ∧
        p.hdr.opcode = 3 ∧ bits p.hdr.opw0 24 8 = 1) ∧
    (∃ (s u : State) (lp at_ t0 : Nat), u = s.advance at_ ∧ (getLink u lp).pausedAt = some t0 ∧ linkRuns u = true ∧ lp < 160 ∧
        u.rd F.PRT_PAUSE_LIMIT (lp / 2) ≠ 0 ∧ u.linkUp lp = true ∧ t0 + 1000000 * u.rd F.PRT_PAUSE_LIMIT (lp / 2) ≤ u.now) :=
  ⟨⟨r, _, (pk 3 0 0 0 0 0 0 []), 0, 0, rfl, by decide +kernel⟩,
  ⟨(inStage r 0 10), _, _, (pk 3 0 0 0 0 0 0 []), 0, rfl, rfl, by decide +kernel⟩,
  ⟨r, _, _, (pk 3 0 0 0x1000000 0 0 0 []), 0, rfl, rfl, by decide +kernel⟩,
  ⟨(withLink (late r) 0 10 fun l => { l with pausedAt := some 0 }), _, 0, 0, _, rfl,
      (Option.some_get (by decide +kernel)).symm, by decide +kernel⟩⟩

theorem witness_HostRings :
    (∃ (s : State) (m : Master) (ring val be : Nat), val < 2 ^ 32 ∧ beOk m be = true ∧
        takesWrite s m .HST_CR ring F.HST_CR_EN.word = true) ∧
    (∃ (s : State) (m : Master) (val be q : Nat), val < 2 ^ 32 ∧ beOk m be = true ∧
        takesWrite s m .HST_CQ q F.HST_CQ_EN.word = true) ∧
    (∃ (s : State) (ring val be q : Nat), liveRuns s = true ∧ ring < 128 ∧ val < 2 ^ 32 ∧ be < 16 ∧ q < 128) ∧
    (∃ (s u : State) (at_ : Nat), u = s.advance at_ ∧ liveRuns u = true) ∧
    (∃ (s u : State) (at_ : Nat), u = s.advance at_ ∧ chipOn u = true) ∧
    (∃ (s c d : State) (m : Master) (r val be off : Nat), c = wrote s m .HST_CR r 0 ∧ off = regOff .HST_CR r ∧
        d = guardedWrite c m .HST_CR r 0 val be (fun f => c.rd F.HST_CR_STATE r != 0 && crLocked f) (· == F.HST_CR_EN) ∧
        val < 2 ^ 32 ∧ beOk m be = true ∧ takesWrite s m .HST_CR r 0 = true ∧ bitAt be 3 = false) ∧
    (∃ (s c d : State) (m : Master) (r val be off : Nat), c = wrote s m .HST_CR r 0 ∧ off = regOff .HST_CR r ∧
        d = guardedWrite c m .HST_CR r 0 val be (fun f => c.rd F.HST_CR_STATE r != 0 && crLocked f) (· == F.HST_CR_EN) ∧
        val < 2 ^ 32 ∧ beOk m be = true ∧ takesWrite s m .HST_CR r 0 = true ∧ bitAt be 3 = true ∧ bitAt val 31 = true ∧
        c.rd F.HST_CR_STATE r = 0 ∧ 4 ≤ d.rd F.HST_CR_LOG2N r ∧ d.rd F.HST_CR_LOG2N r ≤ 12 ∧
        d.flag F.HST_CQ_EN (d.rd F.HST_CR_CQ r) = true) ∧
    (∃ (s c d : State) (m : Master) (r val be off : Nat), c = wrote s m .HST_CR r 0 ∧ off = regOff .HST_CR r ∧
        d = guardedWrite c m .HST_CR r 0 val be (fun f => c.rd F.HST_CR_STATE r != 0 && crLocked f) (· == F.HST_CR_EN) ∧
        val < 2 ^ 32 ∧ beOk m be = true ∧ takesWrite s m .HST_CR r 0 = true ∧ bitAt be 3 = true ∧ bitAt val 31 = true ∧
        c.rd F.HST_CR_STATE r = 0 ∧
        (d.rd F.HST_CR_LOG2N r < 4 ∨ 12 < d.rd F.HST_CR_LOG2N r ∨ d.flag F.HST_CQ_EN (d.rd F.HST_CR_CQ r) = false)) ∧
    (∃ (s c d : State) (m : Master) (r val be off : Nat), c = wrote s m .HST_CR r 0 ∧ off = regOff .HST_CR r ∧
        d = guardedWrite c m .HST_CR r 0 val be (fun f => c.rd F.HST_CR_STATE r != 0 && crLocked f) (· == F.HST_CR_EN) ∧
        val < 2 ^ 32 ∧ beOk m be = true ∧ takesWrite s m .HST_CR r 0 = true ∧ bitAt be 3 = true ∧ bitAt val 31 = true ∧
        c.rd F.HST_CR_STATE r = 2) ∧
    (∃ (s c d : State) (m : Master) (r val be off : Nat), c = wrote s m .HST_CR r 0 ∧ off = regOff .HST_CR r ∧
        d = guardedWrite c m .HST_CR r 0 val be (fun f => c.rd F.HST_CR_STATE r != 0 && crLocked f) (· == F.HST_CR_EN) ∧
        val < 2 ^ 32 ∧ beOk m be = true ∧ takesWrite s m .HST_CR r 0 = true ∧ bitAt be 3 = true ∧ bitAt val 31 = true ∧
        (c.rd F.HST_CR_STATE r = 1 ∨ c.rd F.HST_CR_STATE r = 3)) ∧
    (∃ (s c d : State) (m : Master) (r val be off : Nat), c = wrote s m .HST_CR r 0 ∧ off = regOff .HST_CR r ∧
        d = guardedWrite c m .HST_CR r 0 val be (fun f => c.rd F.HST_CR_STATE r != 0 && crLocked f) (· == F.HST_CR_EN) ∧
        val < 2 ^ 32 ∧ beOk m be = true ∧ takesWrite s m .HST_CR r 0 = true ∧ bitAt be 3 = true ∧ bitAt val 31 = false ∧
        (c.rd F.HST_CR_STATE r = 1 ∨ c.rd F.HST_CR_STATE r = 3)) ∧
    (∃ (s c d : State) (m : Master) (r val be off : Nat), c = wrote s m .HST_CR r 0 ∧ off = regOff .HST_CR r ∧
        d = guardedWrite c m .HST_CR r 0 val be (fun f => c.rd F.HST_CR_STATE r != 0 && crLocked f) (· == F.HST_CR_EN) ∧
        val < 2 ^ 32 ∧ beOk m be = true ∧ takesWrite s m .HST_CR r 0 = true ∧ bitAt be 3 = true ∧ bitAt val 31 = false ∧
        (c.rd F.HST_CR_STATE r = 0 ∨ c.rd F.HST_CR_STATE r = 2)) ∧
    (∃ (s c d e : State) (m : Master) (q val be off : Nat), c = wrote s m .HST_CQ q 0 ∧ off = regOff .HST_CQ q ∧
        d = guardedWrite c m .HST_CQ q 0 val be (fun f => c.flag F.HST_CQ_EN q && cqLocked f) (· == F.HST_CQ_EN) ∧
        e = (((d.wr F.HST_CQ_EN q 1).wr F.HST_CQ_HEAD q 0).wr F.HST_CQ_TAIL q 0).wr F.HST_CQ_PHASE q 1 ∧ val < 2 ^ 32 ∧
        beOk m be = true ∧ takesWrite s m .HST_CQ q 0 = true ∧ (bitAt be 3 = false ∨ bitAt val 31 = c.flag F.HST_CQ_EN q)) ∧
    (∃ (s c d e : State) (m : Master) (q val be off : Nat), c = wrote s m .HST_CQ q 0 ∧ off = regOff .HST_CQ q ∧
        d = guardedWrite c m .HST_CQ q 0 val be (fun f => c.flag F.HST_CQ_EN q && cqLocked f) (· == F.HST_CQ_EN) ∧
        e = (((d.wr F.HST_CQ_EN q 1).wr F.HST_CQ_HEAD q 0).wr F.HST_CQ_TAIL q 0).wr F.HST_CQ_PHASE q 1 ∧ val < 2 ^ 32 ∧
        beOk m be = true ∧ takesWrite s m .HST_CQ q 0 = true ∧ bitAt be 3 = true ∧ bitAt val 31 = true ∧
        c.flag F.HST_CQ_EN q = false ∧ 4 ≤ d.rd F.HST_CQ_LOG2N q ∧ d.rd F.HST_CQ_LOG2N q ≤ 12) ∧
    (∃ (s c d e : State) (m : Master) (q val be off : Nat), c = wrote s m .HST_CQ q 0 ∧ off = regOff .HST_CQ q ∧
        d = guardedWrite c m .HST_CQ q 0 val be (fun f => c.flag F.HST_CQ_EN q && cqLocked f) (· == F.HST_CQ_EN) ∧
        e = (((d.wr F.HST_CQ_EN q 1).wr F.HST_CQ_HEAD q 0).wr F.HST_CQ_TAIL q 0).wr F.HST_CQ_PHASE q 1 ∧ val < 2 ^ 32 ∧
        beOk m be = true ∧ takesWrite s m .HST_CQ q 0 = true ∧ bitAt be 3 = true ∧ bitAt val 31 = true ∧
        c.flag F.HST_CQ_EN q = false ∧ (d.rd F.HST_CQ_LOG2N q < 4 ∨ 12 < d.rd F.HST_CQ_LOG2N q)) ∧
    (∃ (s c d e : State) (m : Master) (q val be off : Nat), c = wrote s m .HST_CQ q 0 ∧ off = regOff .HST_CQ q ∧
        d = guardedWrite c m .HST_CQ q 0 val be (fun f => c.flag F.HST_CQ_EN q && cqLocked f) (· == F.HST_CQ_EN) ∧
        e = (((d.wr F.HST_CQ_EN q 1).wr F.HST_CQ_HEAD q 0).wr F.HST_CQ_TAIL q 0).wr F.HST_CQ_PHASE q 1 ∧ val < 2 ^ 32 ∧
        beOk m be = true ∧ takesWrite s m .HST_CQ q 0 = true ∧ bitAt be 3 = true ∧ bitAt val 31 = false ∧
        c.flag F.HST_CQ_EN q = true ∧
        ((List.range 128).any fun r => d.flag F.HST_CR_EN r && d.rd F.HST_CR_CQ r == q) = true) ∧
    (∃ (s c d e : State) (m : Master) (q val be off : Nat), c = wrote s m .HST_CQ q 0 ∧ off = regOff .HST_CQ q ∧
        d = guardedWrite c m .HST_CQ q 0 val be (fun f => c.flag F.HST_CQ_EN q && cqLocked f) (· == F.HST_CQ_EN) ∧
        e = (((d.wr F.HST_CQ_EN q 1).wr F.HST_CQ_HEAD q 0).wr F.HST_CQ_TAIL q 0).wr F.HST_CQ_PHASE q 1 ∧ val < 2 ^ 32 ∧
        beOk m be = true ∧ takesWrite s m .HST_CQ q 0 = true ∧ bitAt be 3 = true ∧ bitAt val 31 = false ∧
        c.flag F.HST_CQ_EN q = true ∧
        ((List.range 128).any fun r => d.flag F.HST_CR_EN r && d.rd F.HST_CR_CQ r == q) = false) ∧
    (∃ (s : State) (r val be : Nat), r < 128 ∧ val < 2 ^ 32 ∧ be < 16 ∧ liveRuns s = true ∧ s.host.pcie.dstate = 3) ∧
    (∃ (s : State) (r val be : Nat), r < 128 ∧ val < 2 ^ 32 ∧ be < 16 ∧ liveRuns s = true ∧ s.host.pcie.dstate ≠ 3 ∧
        be ≠ 15) ∧
    (∃ (s : State) (r val be : Nat), r < 128 ∧ val < 2 ^ 32 ∧ be < 16 ∧ liveRuns s = true ∧ s.host.pcie.dstate ≠ 3 ∧ be = 15 ∧
        s.rd F.HST_CR_STATE r ≠ 1) ∧
    (∃ (s : State) (r val be : Nat), r < 128 ∧ val < 2 ^ 32 ∧ be < 16 ∧ liveRuns s = true ∧ s.host.pcie.dstate ≠ 3 ∧ be = 15 ∧
        s.rd F.HST_CR_STATE r = 1 ∧ 2 ^ s.rd F.HST_CR_LOG2N r ≤ val % 4096) ∧
    (∃ (s : State) (r val be : Nat), r < 128 ∧ val < 2 ^ 32 ∧ be < 16 ∧ liveRuns s = true ∧ s.host.pcie.dstate ≠ 3 ∧ be = 15 ∧
        s.rd F.HST_CR_STATE r = 1 ∧ val % 4096 < 2 ^ s.rd F.HST_CR_LOG2N r) ∧
    (∃ (s : State) (r val be : Nat), r < 128 ∧ val < 2 ^ 32 ∧ be < 16 ∧ liveRuns s = true ∧ s.host.pcie.dstate ≠ 3 ∧
        be = 15) ∧
    (∃ (s u : State) (at_ : Nat), u = s.advance at_ ∧ liveRuns u = true ∧ fetchRing u = none) ∧
    (∃ (s u d e : State) (ws : List Word) (at_ r st : Nat), u = s.advance at_ ∧ fetchRing u = some r ∧ st = fetchStatus u ⟨r,
        ws.take 16, 0, 0, 0, 0, 0, false⟩ ∧
        d = u.wr F.HST_CR_HEAD r ((u.rd F.HST_CR_HEAD r + 1) % 2 ^ u.rd F.HST_CR_LOG2N r) ∧
        e = { d with host := { d.host with ops := mput d.host.ops u.host.nextOp ⟨r, ws.take 16, 0, 0, 0, 0, 0, false⟩, nextOp := u.host.nextOp + 1, rr := r } } ∧
        liveRuns u = true ∧ st = 0) ∧
    (∃ (s u d e : State) (ws : List Word) (at_ r st : Nat), u = s.advance at_ ∧ fetchRing u = some r ∧ st = fetchStatus u ⟨r,
        ws.take 16, 0, 0, 0, 0, 0, false⟩ ∧
        d = u.wr F.HST_CR_HEAD r ((u.rd F.HST_CR_HEAD r + 1) % 2 ^ u.rd F.HST_CR_LOG2N r) ∧
        e = { d with host := { d.host with ops := mput d.host.ops u.host.nextOp ⟨r, ws.take 16, 0, 0, 0, 0, 0, false⟩, nextOp := u.host.nextOp + 1, rr := r } } ∧
        liveRuns u = true ∧ st ≠ 0) :=
  ⟨⟨r, .host, 0, 0x80040000, 15, by decide +kernel⟩,
  ⟨r, .host, 0x80040000, 15, 1, by decide +kernel⟩,
  ⟨r, 0, 0x80040000, 15, 1, by decide +kernel⟩,
  ⟨r, _, 0, rfl, by decide +kernel⟩,
  ⟨r, _, 0, rfl, by decide +kernel⟩,
  ⟨(wrs r [(F.HST_CQ_EN, 0, 1)]), _, _, .host, 0, 0x80040000, 7, _, rfl, rfl, rfl, by decide +kernel⟩,
  ⟨(wrs r [(F.HST_CQ_EN, 0, 1)]), _, _, .host, 0, 0x80040000, 15, _, rfl, rfl, rfl, by decide +kernel⟩,
  ⟨r, _, _, .host, 0, 0x80040000, 15, _, rfl, rfl, rfl, by decide +kernel⟩,
  ⟨(wrs (r) [(F.HST_CR_STATE, 0, 2)]), _, _, .host, 0, 0x80040000, 15, _, rfl, rfl, rfl, by decide +kernel⟩,
  ⟨(wrs r [(F.HST_CR_STATE, 0, 1)]), _, _, .host, 0, 0x80040000, 15, _, rfl, rfl, rfl, by decide +kernel⟩,
  ⟨(wrs r [(F.HST_CR_STATE, 0, 1)]), _, _, .host, 0, 0, 15, _, rfl, rfl, rfl, by decide +kernel⟩,
  ⟨r, _, _, .host, 0, 0, 15, _, rfl, rfl, rfl, by decide +kernel⟩,
  ⟨r, _, _, _, .host, 0, 0, 15, _, rfl, rfl, rfl, rfl, by decide +kernel⟩,
  ⟨r, _, _, _, .host, 0, 0x80040000, 15, _, rfl, rfl, rfl, rfl, by decide +kernel⟩,
  ⟨(wrs r [(F.HST_CQ_EN, 0, 1)]), _, _, _, .host, 1, 0x80040000, 8, _, rfl, rfl, rfl, rfl, by decide +kernel⟩,
  ⟨(wrs (r) [(F.HST_CQ_EN, 0, 1), (F.HST_CR_EN, 0, 1)]), _, _, _, .host, 0, 0, 15, _, rfl, rfl, rfl, rfl, by decide +kernel⟩,
  ⟨(wrs r [(F.HST_CQ_EN, 0, 1)]), _, _, _, .host, 0, 0, 15, _, rfl, rfl, rfl, rfl, by decide +kernel⟩,
  ⟨d3hot, 0, 0x80040000, 15, by decide +kernel⟩,
  ⟨(wrs r [(F.HST_CQ_EN, 0, 1)]), 0, 0x80040000, 7, by decide +kernel⟩,
  ⟨r, 0, 0, 15, by decide +kernel⟩,
  ⟨(wrs r [(F.HST_CR_STATE, 0, 1)]), 0, 1, 15, by decide +kernel⟩,
  ⟨(wrs r [(F.HST_CR_STATE, 0, 1)]), 0, 0, 15, by decide +kernel⟩,
  ⟨r, 0, 0, 15, by decide +kernel⟩,
  ⟨r, _, 0, rfl, by decide +kernel⟩,
  ⟨(wrs r [(F.HST_CR_STATE, 0, 1), (F.HST_CR_LOG2N, 0, 4), (F.HST_CR_TAIL, 0, 1)]), _, _, _, ([BitVec.ofNat 32 0xF0000000]),
      0, _, _, rfl, (Option.some_get (by decide +kernel)).symm, rfl, rfl, rfl, by decide +kernel⟩,
  ⟨(wrs r [(F.HST_CR_STATE, 0, 1), (F.HST_CR_LOG2N, 0, 4), (F.HST_CR_TAIL, 0, 1)]), _, _, _, ([]), 0, _, _, rfl,
      (Option.some_get (by decide +kernel)).symm, rfl, rfl, rfl, by decide +kernel⟩⟩

theorem witness_HostOperations :
    (∃ (s u : State) (at_ : Nat), u = s.advance at_ ∧ liveRuns u = true) ∧
    (∃ (s u : State) (at_ : Nat), u = s.advance at_ ∧ coreRuns u = true) ∧
    (∃ (s u : State) (n at_ : Nat), u = s.advance at_ ∧ coreRuns u = true ∧ (∀ o : HostOp,
        mget u.host.ops n = some o → canStart u n = false) ∧ liveRuns u = true) ∧
    (∃ (s u : State) (n at_ : Nat), u = s.advance at_ ∧ coreRuns u = true ∧ (∀ o : HostOp,
        mget u.host.ops n = some o → canStart u n = false)) ∧
    (∃ (s u d x : State) (n at_ : Nat) (o : HostOp), u = s.advance at_ ∧ mget u.host.ops n = some o ∧
        d = modOp1 u n (fun o => { o with stage := 1 }) ∧ x = hostDone d n 0x80 0 0 0 ∧ liveRuns u = true ∧
        canStart u n = true ∧ opKind o = 15 ∧ wordsReserved 15 o.words = true) ∧
    (∃ (s u d x : State) (n at_ : Nat) (o : HostOp), u = s.advance at_ ∧ mget u.host.ops n = some o ∧
        d = modOp1 u n (fun o => { o with stage := 1 }) ∧ x = hostDone d n 0x80 0 0 0 ∧ liveRuns u = true ∧
        canStart u n = true ∧ opKind o = 15 ∧ wordsReserved 15 o.words = false) ∧
    (∃ (s u d x : State) (n at_ : Nat) (o : HostOp), u = s.advance at_ ∧ mget u.host.ops n = some o ∧
        d = modOp1 u n (fun o => { o with stage := 1 }) ∧ x = hostDone d n 0x80 0 0 0 ∧ liveRuns u = true ∧
        canStart u n = true ∧ opKind o = 9 ∧ wordsReserved 9 o.words = true) ∧
    (∃ (s u d x : State) (n at_ : Nat) (o : HostOp), u = s.advance at_ ∧ mget u.host.ops n = some o ∧
        d = modOp1 u n (fun o => { o with stage := 1 }) ∧ x = hostDone d n 0x80 0 0 0 ∧ liveRuns u = true ∧
        canStart u n = true ∧ opKind o = 9 ∧ wordsReserved 9 o.words = false ∧ d.hostEpOn = false) ∧
    (∃ (s u d x : State) (n at_ : Nat) (o : HostOp), u = s.advance at_ ∧ mget u.host.ops n = some o ∧
        d = modOp1 u n (fun o => { o with stage := 1 }) ∧ x = hostDone d n 0x80 0 0 0 ∧ liveRuns u = true ∧
        canStart u n = true ∧ opKind o = 9 ∧ wordsReserved 9 o.words = false ∧ d.hostEpOn = true ∧
        4096 ≤ d.host.recv.length) ∧
    (∃ (s u d x : State) (n at_ : Nat) (o : HostOp), u = s.advance at_ ∧ mget u.host.ops n = some o ∧
        d = modOp1 u n (fun o => { o with stage := 1 }) ∧ x = hostDone d n 0x80 0 0 0 ∧ liveRuns u = true ∧
        canStart u n = true ∧ opKind o = 9 ∧ wordsReserved 9 o.words = false ∧ d.hostEpOn = true ∧
        d.host.recv.length < 4096) ∧
    (∃ (s u d x : State) (n at_ : Nat) (o : HostOp), u = s.advance at_ ∧ mget u.host.ops n = some o ∧
        d = modOp1 u n (fun o => { o with stage := 1 }) ∧ x = hostDone d n 0x80 0 0 0 ∧ liveRuns u = true ∧
        canStart u n = true ∧ regHeld u o.words = true) ∧
    (∃ (s u d x : State) (n at_ : Nat) (o : HostOp), u = s.advance at_ ∧ mget u.host.ops n = some o ∧
        d = modOp1 u n (fun o => { o with stage := 1 }) ∧ x = hostDone d n 0x80 0 0 0 ∧ liveRuns u = true ∧
        canStart u n = true ∧ regHeld u o.words = false ∧ opKind o = 3 ∧
        (wordsReserved 3 o.words = true ∨ regRange o.words = false)) ∧
    (∃ (s u d x : State) (n at_ : Nat) (o : HostOp), u = s.advance at_ ∧ mget u.host.ops n = some o ∧
        d = modOp1 u n (fun o => { o with stage := 1 }) ∧ x = hostDone d n 0x80 0 0 0 ∧ liveRuns u = true ∧
        canStart u n = true ∧ regHeld u o.words = false ∧ opKind o = 3 ∧ wordsReserved 3 o.words = false ∧
        regRange o.words = true ∧ dW o.words 2 ≠ 0) ∧
    (∃ (s u d x : State) (n at_ : Nat) (o : HostOp), u = s.advance at_ ∧ mget u.host.ops n = some o ∧
        d = modOp1 u n (fun o => { o with stage := 1 }) ∧ x = hostDone d n 0x80 0 0 0 ∧ liveRuns u = true ∧
        canStart u n = true ∧ regHeld u o.words = false ∧ opKind o = 2 ∧
        (wordsReserved 2 o.words = true ∨ regRange o.words = false)) ∧
    (∃ (s u d x : State) (n at_ : Nat) (o : HostOp) (ws : List Word) (ev : BootEv) (k : Nat) (t : State), u = s.advance at_ ∧
        mget u.host.ops n = some o ∧ d = modOp1 u n (fun o => { o with stage := 1 }) ∧ x = hostDone d n 0x80 0 0 0 ∧
        regWrites ev (dW o.words 1) 0 ((List.range (dW o.words 2)).map fun i => ws.getD i 0) d = ((k, none), t) ∧
        liveRuns u = true ∧ canStart u n = true ∧ regHeld u o.words = false ∧ opKind o = 2 ∧ wordsReserved 2 o.words = false ∧
        regRange o.words = true) ∧
    (∃ (s u d x : State) (n at_ : Nat) (o : HostOp) (ws : List Word) (ev : BootEv) (k : Nat) (t : State) (off : Nat),
        u = s.advance at_ ∧ mget u.host.ops n = some o ∧ d = modOp1 u n (fun o => { o with stage := 1 }) ∧
        x = hostDone d n 0x80 0 0 0 ∧
        regWrites ev (dW o.words 1) 0 ((List.range (dW o.words 2)).map fun i => ws.getD i 0) d = ((k, some off), t) ∧
        liveRuns u = true ∧ canStart u n = true ∧ regHeld u o.words = false ∧ opKind o = 2 ∧ wordsReserved 2 o.words = false ∧
        regRange o.words = true) ∧
    (∃ (s u d x p : State) (n at_ src : Nat) (o : HostOp), u = s.advance at_ ∧ mget u.host.ops n = some o ∧
        d = modOp1 u n (fun o => { o with stage := 1 }) ∧ x = hostDone d n 0x80 0 0 0 ∧ src = poolAddr o.words 4 ∧
        p = hostDone d n 0x0D 0 0 0 ∧ coreRuns u = true ∧ canStart u n = true ∧ opKind o = 4 ∧ dW o.words 1 % 4 = 0 ∧
        lineWaits u src (dW o.words 2) true = true) ∧
    (∃ (s u d x p : State) (n at_ src : Nat) (o : HostOp), u = s.advance at_ ∧ mget u.host.ops n = some o ∧
        d = modOp1 u n (fun o => { o with stage := 1 }) ∧ x = hostDone d n 0x80 0 0 0 ∧ src = poolAddr o.words 4 ∧
        p = hostDone d n 0x0D 0 0 0 ∧ coreRuns u = true ∧ canStart u n = true ∧ opKind o = 4 ∧ dW o.words 1 % 4 = 0 ∧
        lineWaits u src (dW o.words 2) true = false ∧
        (wordsReserved 4 o.words = true ∨ dW o.words 6 ≠ 0 ∨ dW o.words 7 ≠ 0)) ∧
    (∃ (s u d x p : State) (n at_ src : Nat) (o : HostOp), u = s.advance at_ ∧ mget u.host.ops n = some o ∧
        d = modOp1 u n (fun o => { o with stage := 1 }) ∧ x = hostDone d n 0x80 0 0 0 ∧ src = poolAddr o.words 4 ∧
        p = hostDone d n 0x0D 0 0 0 ∧ coreRuns u = true ∧ canStart u n = true ∧ opKind o = 4 ∧ dW o.words 1 % 4 = 0 ∧
        lineWaits u src (dW o.words 2) true = false ∧ wordsReserved 4 o.words = false ∧ dW o.words 6 = 0 ∧ dW o.words 7 = 0 ∧
        dW o.words 2 = 0) ∧
    (∃ (s u d x p : State) (n at_ src : Nat) (o : HostOp), u = s.advance at_ ∧ mget u.host.ops n = some o ∧
        d = modOp1 u n (fun o => { o with stage := 1 }) ∧ x = hostDone d n 0x80 0 0 0 ∧ src = poolAddr o.words 4 ∧
        p = hostDone d n 0x0D 0 0 0 ∧ coreRuns u = true ∧ canStart u n = true ∧ opKind o = 4 ∧ dW o.words 1 % 4 = 0 ∧
        lineWaits u src (dW o.words 2) true = false ∧ wordsReserved 4 o.words = false ∧ dW o.words 6 = 0 ∧ dW o.words 7 = 0 ∧
        dW o.words 2 ≠ 0 ∧ d.well.poolUntil.isSome = true) ∧
    (∃ (s u d x p : State) (n at_ src : Nat) (o : HostOp) (c a : Nat), u = s.advance at_ ∧ mget u.host.ops n = some o ∧
        d = modOp1 u n (fun o => { o with stage := 1 }) ∧ x = hostDone d n 0x80 0 0 0 ∧ src = poolAddr o.words 4 ∧
        p = hostDone d n 0x0D 0 0 0 ∧ dmaCode d 0 src (poolAddr o.words 6) (dW o.words 2) = (c, a) ∧ coreRuns u = true ∧
        canStart u n = true ∧ opKind o = 4 ∧ dW o.words 1 % 4 = 0 ∧ lineWaits u src (dW o.words 2) true = false ∧
        wordsReserved 4 o.words = false ∧ dW o.words 6 = 0 ∧ dW o.words 7 = 0 ∧ dW o.words 2 ≠ 0 ∧ d.well.poolUntil = none ∧
        c ≠ 0) ∧
    (∃ (s u d x p : State) (n at_ src : Nat) (o : HostOp) (data : List Byte) (evs : List LineEv) (bad : Option Nat) (r : DmaOut) (t : State),
        u = s.advance at_ ∧ mget u.host.ops n = some o ∧ d = modOp1 u n (fun o => { o with stage := 1 }) ∧
        x = hostDone d n 0x80 0 0 0 ∧ src = poolAddr o.words 4 ∧ p = hostDone d n 0x0D 0 0 0 ∧
        dmaLines 0 src (poolAddr o.words 6) evs bad (dW o.words 2 / 64) data ⟨0, 0, 0, []⟩ d = (r, t) ∧ coreRuns u = true ∧
        canStart u n = true ∧ opKind o = 4 ∧ dW o.words 1 % 4 = 0 ∧ lineWaits u src (dW o.words 2) true = false ∧
        wordsReserved 4 o.words = false ∧ dW o.words 6 = 0 ∧ dW o.words 7 = 0 ∧ dW o.words 2 ≠ 0 ∧ d.well.poolUntil = none ∧
        dmaCode d 0 src (poolAddr o.words 6) (dW o.words 2) = (0, 0)) ∧
    (∃ (s u d x p : State) (n at_ src : Nat) (o : HostOp), u = s.advance at_ ∧ mget u.host.ops n = some o ∧
        d = modOp1 u n (fun o => { o with stage := 1 }) ∧ x = hostDone d n 0x80 0 0 0 ∧ src = poolAddr o.words 4 ∧
        p = hostDone d n 0x0D 0 0 0 ∧ coreRuns u = true ∧ canStart u n = true ∧ opKind o = 5 ∧
        wordsReserved 5 o.words = true) ∧
    (∃ (s u d x p : State) (n at_ src : Nat) (o : HostOp), u = s.advance at_ ∧ mget u.host.ops n = some o ∧
        d = modOp1 u n (fun o => { o with stage := 1 }) ∧ x = hostDone d n 0x80 0 0 0 ∧ src = poolAddr o.words 4 ∧
        p = hostDone d n 0x0D 0 0 0 ∧ coreRuns u = true ∧ canStart u n = true ∧ opKind o = 5 ∧
        wordsReserved 5 o.words = false ∧ d.well.poolUntil.isSome = true) ∧
    (∃ (s u d x p : State) (n at_ src : Nat) (o : HostOp), u = s.advance at_ ∧ mget u.host.ops n = some o ∧
        d = modOp1 u n (fun o => { o with stage := 1 }) ∧ x = hostDone d n 0x80 0 0 0 ∧ src = poolAddr o.words 4 ∧
        p = hostDone d n 0x0D 0 0 0 ∧ coreRuns u = true ∧ canStart u n = true ∧ opKind o = 5 ∧
        wordsReserved 5 o.words = false ∧ d.well.poolUntil = none) ∧
    (∃ (s u d x p : State) (n at_ src : Nat) (o : HostOp), u = s.advance at_ ∧ mget u.host.ops n = some o ∧
        d = modOp1 u n (fun o => { o with stage := 1 }) ∧ x = hostDone d n 0x80 0 0 0 ∧ src = poolAddr o.words 4 ∧
        p = hostDone d n 0x0D 0 0 0 ∧ coreRuns u = true ∧ canStart u n = true ∧ opKind o = 7 ∧
        wordsReserved 7 o.words = true) ∧
    (∃ (s u d x p : State) (n at_ src : Nat) (o : HostOp), u = s.advance at_ ∧ mget u.host.ops n = some o ∧
        d = modOp1 u n (fun o => { o with stage := 1 }) ∧ x = hostDone d n 0x80 0 0 0 ∧ src = poolAddr o.words 4 ∧
        p = hostDone d n 0x0D 0 0 0 ∧ coreRuns u = true ∧ canStart u n = true ∧ opKind o = 7 ∧
        wordsReserved 7 o.words = false) ∧
    (∃ (s u d x p : State) (n at_ src : Nat) (o : HostOp), u = s.advance at_ ∧ mget u.host.ops n = some o ∧
        d = modOp1 u n (fun o => { o with stage := 1 }) ∧ x = hostDone d n 0x80 0 0 0 ∧ src = poolAddr o.words 4 ∧
        p = hostDone d n 0x0D 0 0 0 ∧ coreRuns u = true ∧ canStart u n = true ∧ opKind o = 1 ∧
        bits (dW o.words 0) 16 11 ≠ 0) ∧
    (∃ (s u d x p : State) (n at_ src : Nat) (o : HostOp), u = s.advance at_ ∧ mget u.host.ops n = some o ∧
        d = modOp1 u n (fun o => { o with stage := 1 }) ∧ x = hostDone d n 0x80 0 0 0 ∧ src = poolAddr o.words 4 ∧
        p = hostDone d n 0x0D 0 0 0 ∧ coreRuns u = true ∧ canStart u n = true ∧ opKind o = 1 ∧
        bits (dW o.words 0) 16 11 = 0) ∧
    (∃ (s u d : State) (n at_ base lim cmt from_ size : Nat) (o : HostOp), u = s.advance at_ ∧ mget u.host.ops n = some o ∧
        d = modOp1 u n (fun o => { o with stage := 1 }) ∧
        exportArea u (bits (dW o.words 1) 16 7) (bits (dW o.words 1) 31 1) (bits (dW o.words 1) 28 2) = (base, lim, cmt) ∧
        size = dW o.words 2 ∧ from_ = dW o.words 3 * 64 ∧ coreRuns u = true ∧ canStart u n = true ∧ opKind o = 6 ∧
        lineWaits u (base + from_) size false = false ∧ wordsReserved 6 o.words = true) ∧
    (∃ (s u d : State) (n at_ base lim cmt from_ size : Nat) (o : HostOp), u = s.advance at_ ∧ mget u.host.ops n = some o ∧
        d = modOp1 u n (fun o => { o with stage := 1 }) ∧
        exportArea u (bits (dW o.words 1) 16 7) (bits (dW o.words 1) 31 1) (bits (dW o.words 1) 28 2) = (base, lim, cmt) ∧
        size = dW o.words 2 ∧ from_ = dW o.words 3 * 64 ∧ coreRuns u = true ∧ canStart u n = true ∧ opKind o = 6 ∧
        lineWaits u (base + from_) size false = false ∧ wordsReserved 6 o.words = false ∧ d.well.poolUntil.isSome = true) ∧
    (∃ (s u d : State) (n at_ base lim cmt from_ size : Nat) (o : HostOp), u = s.advance at_ ∧ mget u.host.ops n = some o ∧
        d = modOp1 u n (fun o => { o with stage := 1 }) ∧
        exportArea u (bits (dW o.words 1) 16 7) (bits (dW o.words 1) 31 1) (bits (dW o.words 1) 28 2) = (base, lim, cmt) ∧
        size = dW o.words 2 ∧ from_ = dW o.words 3 * 64 ∧ coreRuns u = true ∧ canStart u n = true ∧ opKind o = 6 ∧
        lineWaits u (base + from_) size false = false ∧ wordsReserved 6 o.words = false ∧ d.well.poolUntil = none ∧
        2 ≤ bits (dW o.words 1) 28 2) ∧
    (∃ (s u d : State) (n at_ base lim cmt from_ size : Nat) (o : HostOp), u = s.advance at_ ∧ mget u.host.ops n = some o ∧
        d = modOp1 u n (fun o => { o with stage := 1 }) ∧
        exportArea u (bits (dW o.words 1) 16 7) (bits (dW o.words 1) 31 1) (bits (dW o.words 1) 28 2) = (base, lim, cmt) ∧
        size = dW o.words 2 ∧ from_ = dW o.words 3 * 64 ∧ coreRuns u = true ∧ canStart u n = true ∧ opKind o = 6 ∧
        lineWaits u (base + from_) size false = false ∧ wordsReserved 6 o.words = false ∧ d.well.poolUntil = none ∧
        bits (dW o.words 1) 28 2 < 2 ∧ size = 0) ∧
    (∃ (s u d : State) (n at_ base lim cmt from_ size : Nat) (o : HostOp), u = s.advance at_ ∧ mget u.host.ops n = some o ∧
        d = modOp1 u n (fun o => { o with stage := 1 }) ∧
        exportArea u (bits (dW o.words 1) 16 7) (bits (dW o.words 1) 31 1) (bits (dW o.words 1) 28 2) = (base, lim, cmt) ∧
        size = dW o.words 2 ∧ from_ = dW o.words 3 * 64 ∧ coreRuns u = true ∧ canStart u n = true ∧ opKind o = 6 ∧
        lineWaits u (base + from_) size false = false ∧ wordsReserved 6 o.words = false ∧ d.well.poolUntil = none ∧
        bits (dW o.words 1) 28 2 < 2 ∧ size ≠ 0 ∧ (size % 64 ≠ 0 ∨ lim < from_ + size)) ∧
    (∃ (s u d : State) (n at_ base lim cmt from_ size : Nat) (o : HostOp), u = s.advance at_ ∧ mget u.host.ops n = some o ∧
        d = modOp1 u n (fun o => { o with stage := 1 }) ∧
        exportArea u (bits (dW o.words 1) 16 7) (bits (dW o.words 1) 31 1) (bits (dW o.words 1) 28 2) = (base, lim, cmt) ∧
        size = dW o.words 2 ∧ from_ = dW o.words 3 * 64 ∧ coreRuns u = true ∧ canStart u n = true ∧ opKind o = 6 ∧
        lineWaits u (base + from_) size false = false ∧ wordsReserved 6 o.words = false ∧ d.well.poolUntil = none ∧
        bits (dW o.words 1) 28 2 < 2 ∧ size ≠ 0 ∧ size % 64 = 0 ∧ from_ + size ≤ lim ∧ cmt < from_ + size) ∧
    (∃ (s u d : State) (n at_ base lim cmt from_ size : Nat) (o : HostOp) (evs : List LineEv) (a : Nat) (bs : List Byte) (t : State),
        u = s.advance at_ ∧ mget u.host.ops n = some o ∧ d = modOp1 u n (fun o => { o with stage := 1 }) ∧
        exportArea u (bits (dW o.words 1) 16 7) (bits (dW o.words 1) 31 1) (bits (dW o.words 1) 28 2) = (base, lim, cmt) ∧
        size = dW o.words 2 ∧ from_ = dW o.words 3 * 64 ∧
        readLines evs (linesOf (base + from_) size) (countPages (countAccess d 0 0 4 (base + from_) size) (base + from_) size) = ((0,
        a, bs), t) ∧ coreRuns u = true ∧ canStart u n = true ∧ opKind o = 6 ∧ lineWaits u (base + from_) size false = false ∧
        wordsReserved 6 o.words = false ∧ d.well.poolUntil = none ∧ bits (dW o.words 1) 28 2 < 2 ∧ size ≠ 0 ∧ size % 64 = 0 ∧
        from_ + size ≤ lim ∧ from_ + size ≤ cmt) ∧
    (∃ (s u d : State) (n at_ vc len : Nat) (o : HostOp) (h : Header), u = s.advance at_ ∧ mget u.host.ops n = some o ∧
        d = modOp1 u n (fun o => { o with stage := 1 }) ∧ vc = bits (dW o.words 1) 27 3 ∧ len = dW o.words 2 % 2 ^ 13 ∧
        h = mkHdr 0x50 (dW o.words 1 % 2 ^ 20) vc d.hostEid len 0 (dW o.words 6) (dW o.words 3) (dW o.words 4) (dW o.words 5) ∧
        coreRuns u = true ∧ canStart u n = true ∧ opKind o = 8 ∧ wordsReserved 8 o.words = true) ∧
    (∃ (s u d : State) (n at_ vc len : Nat) (o : HostOp) (h : Header), u = s.advance at_ ∧ mget u.host.ops n = some o ∧
        d = modOp1 u n (fun o => { o with stage := 1 }) ∧ vc = bits (dW o.words 1) 27 3 ∧ len = dW o.words 2 % 2 ^ 13 ∧
        h = mkHdr 0x50 (dW o.words 1 % 2 ^ 20) vc d.hostEid len 0 (dW o.words 6) (dW o.words 3) (dW o.words 4) (dW o.words 5) ∧
        coreRuns u = true ∧ canStart u n = true ∧ opKind o = 8 ∧ wordsReserved 8 o.words = false ∧ d.hostEpOn = false) ∧
    (∃ (s u d : State) (n at_ vc len : Nat) (o : HostOp) (h : Header), u = s.advance at_ ∧ mget u.host.ops n = some o ∧
        d = modOp1 u n (fun o => { o with stage := 1 }) ∧ vc = bits (dW o.words 1) 27 3 ∧ len = dW o.words 2 % 2 ^ 13 ∧
        h = mkHdr 0x50 (dW o.words 1 % 2 ^ 20) vc d.hostEid len 0 (dW o.words 6) (dW o.words 3) (dW o.words 4) (dW o.words 5) ∧
        coreRuns u = true ∧ canStart u n = true ∧ opKind o = 8 ∧ wordsReserved 8 o.words = false ∧ d.hostEpOn = true ∧
        (¬ (vc = 3 ∨ vc = 7) ∨ 4096 < len ∨ 1 < eidKind (dW o.words 1 % 2 ^ 20))) ∧
    (∃ (s u d : State) (n at_ vc len : Nat) (o : HostOp) (h : Header), u = s.advance at_ ∧ mget u.host.ops n = some o ∧
        d = modOp1 u n (fun o => { o with stage := 1 }) ∧ vc = bits (dW o.words 1) 27 3 ∧ len = dW o.words 2 % 2 ^ 13 ∧
        h = mkHdr 0x50 (dW o.words 1 % 2 ^ 20) vc d.hostEid len 0 (dW o.words 6) (dW o.words 3) (dW o.words 4) (dW o.words 5) ∧
        coreRuns u = true ∧ canStart u n = true ∧ opKind o = 8 ∧ wordsReserved 8 o.words = false ∧ d.hostEpOn = true ∧
        (vc = 3 ∨ vc = 7) ∧ len ≤ 4096 ∧ eidKind (dW o.words 1 % 2 ^ 20) ≤ 1) :=
  ⟨⟨r, _, 0, rfl, by decide +kernel⟩,
  ⟨r, _, 0, rfl, by decide +kernel⟩,
  ⟨r, _, 0, 0, rfl, by decide +kernel⟩,
  ⟨r, _, 0, 0, rfl, by decide +kernel⟩,
  ⟨(hosted [BitVec.ofNat 32 0xF0000000, BitVec.ofNat 32 0x0, BitVec.ofNat 32 0x0, BitVec.ofNat 32 0x0, BitVec.ofNat 32 0x0,
      BitVec.ofNat 32 0x0, BitVec.ofNat 32 0x0, BitVec.ofNat 32 0x0, BitVec.ofNat 32 0x0, BitVec.ofNat 32 0x0,
      BitVec.ofNat 32 0x0, BitVec.ofNat 32 0x0, BitVec.ofNat 32 0x0, BitVec.ofNat 32 0x0, BitVec.ofNat 32 0x0,
      BitVec.ofNat 32 0x1]), _, _, _, 0, 0, _, rfl, (Option.some_get (by decide +kernel)).symm, rfl, rfl, by decide +kernel⟩,
  ⟨(hosted [BitVec.ofNat 32 0xF0000000]), _, _, _, 0, 0, _, rfl, (Option.some_get (by decide +kernel)).symm, rfl, rfl,
      by decide +kernel⟩,
  ⟨(hosted [BitVec.ofNat 32 0x90000000, BitVec.ofNat 32 0x0, BitVec.ofNat 32 0x0, BitVec.ofNat 32 0x0, BitVec.ofNat 32 0x0,
      BitVec.ofNat 32 0x0, BitVec.ofNat 32 0x0, BitVec.ofNat 32 0x0, BitVec.ofNat 32 0x0, BitVec.ofNat 32 0x0,
      BitVec.ofNat 32 0x0, BitVec.ofNat 32 0x0, BitVec.ofNat 32 0x0, BitVec.ofNat 32 0x0, BitVec.ofNat 32 0x0,
      BitVec.ofNat 32 0x1]), _, _, _, 0, 0, _, rfl, (Option.some_get (by decide +kernel)).symm, rfl, rfl, by decide +kernel⟩,
  ⟨(wrs (hosted [BitVec.ofNat 32 0x90000000]) [(F.GLB_HOST_PLACE_HOST_EP_EN, 0, 0)]), _, _, _, 0, 0, _, rfl,
      (Option.some_get (by decide +kernel)).symm, rfl, rfl, by decide +kernel⟩,
  ⟨({ hosted [BitVec.ofNat 32 0x90000000] with host := { (hosted [BitVec.ofNat 32 0x90000000]).host with recv := List.replicate 4096 0 } }),
      _, _, _, 0, 0, _, rfl, (Option.some_get (by decide +kernel)).symm, rfl, rfl, by decide +kernel⟩,
  ⟨(hosted [BitVec.ofNat 32 0x90000000]), _, _, _, 0, 0, _, rfl, (Option.some_get (by decide +kernel)).symm, rfl, rfl,
      by decide +kernel⟩,
  ⟨(warm (hosted [BitVec.ofNat 32 0x30000000, BitVec.ofNat 32 0x800028, BitVec.ofNat 32 0x1])), _, _, _, 0, 0, _, rfl,
      (Option.some_get (by decide +kernel)).symm, rfl, rfl, by decide +kernel⟩,
  ⟨(hosted [BitVec.ofNat 32 0x30000000, BitVec.ofNat 32 0x4000000, BitVec.ofNat 32 0x1]), _, _, _, 0, 0, _, rfl,
      (Option.some_get (by decide +kernel)).symm, rfl, rfl, by decide +kernel⟩,
  ⟨(hosted [BitVec.ofNat 32 0x30000000, BitVec.ofNat 32 0x0, BitVec.ofNat 32 0x1]), _, _, _, 0, 0, _, rfl,
      (Option.some_get (by decide +kernel)).symm, rfl, rfl, by decide +kernel⟩,
  ⟨(hosted [BitVec.ofNat 32 0x20000000, BitVec.ofNat 32 0x4000000, BitVec.ofNat 32 0x1]), _, _, _, 0, 0, _, rfl,
      (Option.some_get (by decide +kernel)).symm, rfl, rfl, by decide +kernel⟩,
  ⟨(hosted [BitVec.ofNat 32 0x20000000]), _, _, _, 0, 0, _, ([]), ev0,
      ((regWrites ev0 (dW ((mget ((hosted [BitVec.ofNat 32 0x20000000]).advance 0).host.ops 0).get (by decide +kernel)).words 1) 0 ((List.range (dW ((mget ((hosted [BitVec.ofNat 32 0x20000000]).advance 0).host.ops 0).get (by decide +kernel)).words 2)).map fun i => ([]).getD i 0) (modOp1 ((hosted [BitVec.ofNat 32 0x20000000]).advance 0) 0 (fun o => { o with stage := 1 }))).1).1,
      _, rfl, (Option.some_get (by decide +kernel)).symm, rfl, rfl, pair_of (Prod.ext (rfl) (by decide +kernel)),
      by decide +kernel⟩,
  ⟨(hosted [BitVec.ofNat 32 0x20000000, BitVec.ofNat 32 0x410000, BitVec.ofNat 32 0x1]), _, _, _, 0, 0, _,
      ([BitVec.ofNat 32 0x80000000]), ev0, 0, _, 4259840, rfl, (Option.some_get (by decide +kernel)).symm, rfl, rfl,
      pair_of (by decide +kernel), by decide +kernel⟩,
  ⟨(modWell (hosted [BitVec.ofNat 32 0x40000000, BitVec.ofNat 32 0x0,
      BitVec.ofNat 32 0x40]) fun w => { w with queue := [admitted .write] }), _, _, _, _, 0, 0, _, _, rfl,
      (Option.some_get (by decide +kernel)).symm, rfl, rfl, rfl, rfl, by decide +kernel⟩,
  ⟨(hosted [BitVec.ofNat 32 0x40000000, BitVec.ofNat 32 0x0, BitVec.ofNat 32 0x0, BitVec.ofNat 32 0x0, BitVec.ofNat 32 0x0,
      BitVec.ofNat 32 0x0, BitVec.ofNat 32 0x1]), _, _, _, _, 0, 0, _, _, rfl, (Option.some_get (by decide +kernel)).symm,
      rfl, rfl, rfl, rfl, by decide +kernel⟩,
  ⟨(hosted [BitVec.ofNat 32 0x40000000, BitVec.ofNat 32 0x0, BitVec.ofNat 32 0x0]), _, _, _, _, 0, 0, _, _, rfl,
      (Option.some_get (by decide +kernel)).symm, rfl, rfl, rfl, rfl, by decide +kernel⟩,
  ⟨(modWell (hosted [BitVec.ofNat 32 0x40000000, BitVec.ofNat 32 0x0,
      BitVec.ofNat 32 0x40]) fun w => { w with poolUntil := some 0 }), _, _, _, _, 0, 0, _, _, rfl,
      (Option.some_get (by decide +kernel)).symm, rfl, rfl, rfl, rfl, by decide +kernel⟩,
  ⟨(hosted [BitVec.ofNat 32 0x40000000, BitVec.ofNat 32 0x0, BitVec.ofNat 32 0x20]), _, _, _, _, 0, 0, _, _, _, _, rfl,
      (Option.some_get (by decide +kernel)).symm, rfl, rfl, rfl, rfl, pair_parts, by decide +kernel⟩,
  ⟨(hosted [BitVec.ofNat 32 0x40000000, BitVec.ofNat 32 0x0, BitVec.ofNat 32 0x40]), _, _, _, _, 0, 0, _, _, ([]), ([]), none,
      _, _, rfl, (Option.some_get (by decide +kernel)).symm, rfl, rfl, rfl, rfl, pair_parts, by decide +kernel⟩,
  ⟨(hosted [BitVec.ofNat 32 0x50000000, BitVec.ofNat 32 0x0, BitVec.ofNat 32 0x0, BitVec.ofNat 32 0x0, BitVec.ofNat 32 0x0,
      BitVec.ofNat 32 0x0, BitVec.ofNat 32 0x0, BitVec.ofNat 32 0x0, BitVec.ofNat 32 0x0, BitVec.ofNat 32 0x0,
      BitVec.ofNat 32 0x0, BitVec.ofNat 32 0x0, BitVec.ofNat 32 0x0, BitVec.ofNat 32 0x0, BitVec.ofNat 32 0x0,
      BitVec.ofNat 32 0x1]), _, _, _, _, 0, 0, _, _, rfl, (Option.some_get (by decide +kernel)).symm, rfl, rfl, rfl, rfl,
      by decide +kernel⟩,
  ⟨(modWell (hosted [BitVec.ofNat 32 0x50000000]) fun w => { w with poolUntil := some 0 }), _, _, _, _, 0, 0, _, _, rfl,
      (Option.some_get (by decide +kernel)).symm, rfl, rfl, rfl, rfl, by decide +kernel⟩,
  ⟨(hosted [BitVec.ofNat 32 0x50000000]), _, _, _, _, 0, 0, _, _, rfl, (Option.some_get (by decide +kernel)).symm, rfl, rfl,
      rfl, rfl, by decide +kernel⟩,
  ⟨(hosted [BitVec.ofNat 32 0x70000000, BitVec.ofNat 32 0x0, BitVec.ofNat 32 0x0, BitVec.ofNat 32 0x0, BitVec.ofNat 32 0x0,
      BitVec.ofNat 32 0x0, BitVec.ofNat 32 0x0, BitVec.ofNat 32 0x0, BitVec.ofNat 32 0x0, BitVec.ofNat 32 0x0,
      BitVec.ofNat 32 0x0, BitVec.ofNat 32 0x0, BitVec.ofNat 32 0x0, BitVec.ofNat 32 0x0, BitVec.ofNat 32 0x0,
      BitVec.ofNat 32 0x1]), _, _, _, _, 0, 0, _, _, rfl, (Option.some_get (by decide +kernel)).symm, rfl, rfl, rfl, rfl,
      by decide +kernel⟩,
  ⟨(hosted [BitVec.ofNat 32 0x70000000]), _, _, _, _, 0, 0, _, _, rfl, (Option.some_get (by decide +kernel)).symm, rfl, rfl,
      rfl, rfl, by decide +kernel⟩,
  ⟨(hosted [BitVec.ofNat 32 0x10010000]), _, _, _, _, 0, 0, _, _, rfl, (Option.some_get (by decide +kernel)).symm, rfl, rfl,
      rfl, rfl, by decide +kernel⟩,
  ⟨(hosted [BitVec.ofNat 32 0x10000000]), _, _, _, _, 0, 0, _, _, rfl, (Option.some_get (by decide +kernel)).symm, rfl, rfl,
      rfl, rfl, by decide +kernel⟩,
  ⟨(hosted [BitVec.ofNat 32 0x60000000, BitVec.ofNat 32 0x0, BitVec.ofNat 32 0x0, BitVec.ofNat 32 0x0, BitVec.ofNat 32 0x0,
      BitVec.ofNat 32 0x0, BitVec.ofNat 32 0x0, BitVec.ofNat 32 0x0, BitVec.ofNat 32 0x0, BitVec.ofNat 32 0x0,
      BitVec.ofNat 32 0x0, BitVec.ofNat 32 0x0, BitVec.ofNat 32 0x0, BitVec.ofNat 32 0x0, BitVec.ofNat 32 0x0,
      BitVec.ofNat 32 0x1]), _, _, 0, 0, _, _, _, _, _, _, rfl, (Option.some_get (by decide +kernel)).symm, rfl, triple_parts,
      rfl, rfl, by decide +kernel⟩,
  ⟨(modWell (hosted [BitVec.ofNat 32 0x60000000, BitVec.ofNat 32 0x0,
      BitVec.ofNat 32 0x40]) fun w => { w with poolUntil := some 0 }), _, _, 0, 0, _, _, _, _, _, _, rfl,
      (Option.some_get (by decide +kernel)).symm, rfl, triple_parts, rfl, rfl, by decide +kernel⟩,
  ⟨(hosted [BitVec.ofNat 32 0x60000000, BitVec.ofNat 32 0x20000000, BitVec.ofNat 32 0x40]), _, _, 0, 0, _, _, _, _, _, _, rfl,
      (Option.some_get (by decide +kernel)).symm, rfl, triple_parts, rfl, rfl, by decide +kernel⟩,
  ⟨(hosted [BitVec.ofNat 32 0x60000000, BitVec.ofNat 32 0x0, BitVec.ofNat 32 0x0]), _, _, 0, 0, _, _, _, _, _, _, rfl,
      (Option.some_get (by decide +kernel)).symm, rfl, triple_parts, rfl, rfl, by decide +kernel⟩,
  ⟨(hosted [BitVec.ofNat 32 0x60000000, BitVec.ofNat 32 0x0, BitVec.ofNat 32 0x20]), _, _, 0, 0, _, _, _, _, _, _, rfl,
      (Option.some_get (by decide +kernel)).symm, rfl, triple_parts, rfl, rfl, by decide +kernel⟩,
  ⟨({ roomed with host := (hosted [BitVec.ofNat 32 0x60000000, BitVec.ofNat 32 0x0, BitVec.ofNat 32 0x40]).host }), _, _, 0,
      0, _, _, _, _, _, _, rfl, (Option.some_get (by decide +kernel)).symm, rfl, triple_parts, rfl, rfl, by decide +kernel⟩,
  ⟨(wrs ({ roomed with host := (hosted [BitVec.ofNat 32 0x60000000, BitVec.ofNat 32 0x0, BitVec.ofNat 32 0x40]).host }) [(F.RMS_ROOM_SNAP_LEN,
      0, 1)]), _, _, 0, 0, _, _, _, _, _, _, ([]),
      (((readLines ([]) (linesOf (((exportArea ((wrs ({ roomed with host := (hosted [BitVec.ofNat 32 0x60000000, BitVec.ofNat 32 0x0, BitVec.ofNat 32 0x40]).host }) [(F.RMS_ROOM_SNAP_LEN,
      0,
      1)]).advance 0) (bits (dW ((mget ((wrs ({ roomed with host := (hosted [BitVec.ofNat 32 0x60000000, BitVec.ofNat 32 0x0, BitVec.ofNat 32 0x40]).host }) [(F.RMS_ROOM_SNAP_LEN,
      0,
      1)]).advance 0).host.ops 0).get (by decide +kernel)).words 1) 16 7) (bits (dW ((mget ((wrs ({ roomed with host := (hosted [BitVec.ofNat 32 0x60000000, BitVec.ofNat 32 0x0, BitVec.ofNat 32 0x40]).host }) [(F.RMS_ROOM_SNAP_LEN,
      0,
      1)]).advance 0).host.ops 0).get (by decide +kernel)).words 1) 31 1) (bits (dW ((mget ((wrs ({ roomed with host := (hosted [BitVec.ofNat 32 0x60000000, BitVec.ofNat 32 0x0, BitVec.ofNat 32 0x40]).host }) [(F.RMS_ROOM_SNAP_LEN,
      0,
      1)]).advance 0).host.ops 0).get (by decide +kernel)).words 1) 28 2))).1 + (dW ((mget ((wrs ({ roomed with host := (hosted [BitVec.ofNat 32 0x60000000, BitVec.ofNat 32 0x0, BitVec.ofNat 32 0x40]).host }) [(F.RMS_ROOM_SNAP_LEN,
      0,
      1)]).advance 0).host.ops 0).get (by decide +kernel)).words 3 * 64)) (dW ((mget ((wrs ({ roomed with host := (hosted [BitVec.ofNat 32 0x60000000, BitVec.ofNat 32 0x0, BitVec.ofNat 32 0x40]).host }) [(F.RMS_ROOM_SNAP_LEN,
      0,
      1)]).advance 0).host.ops 0).get (by decide +kernel)).words 2)) (countPages (countAccess (modOp1 ((wrs ({ roomed with host := (hosted [BitVec.ofNat 32 0x60000000, BitVec.ofNat 32 0x0, BitVec.ofNat 32 0x40]).host }) [(F.RMS_ROOM_SNAP_LEN,
      0,
      1)]).advance 0) 0 (fun o => { o with stage := 1 })) 0 0 4 (((exportArea ((wrs ({ roomed with host := (hosted [BitVec.ofNat 32 0x60000000, BitVec.ofNat 32 0x0, BitVec.ofNat 32 0x40]).host }) [(F.RMS_ROOM_SNAP_LEN,
      0,
      1)]).advance 0) (bits (dW ((mget ((wrs ({ roomed with host := (hosted [BitVec.ofNat 32 0x60000000, BitVec.ofNat 32 0x0, BitVec.ofNat 32 0x40]).host }) [(F.RMS_ROOM_SNAP_LEN,
      0,
      1)]).advance 0).host.ops 0).get (by decide +kernel)).words 1) 16 7) (bits (dW ((mget ((wrs ({ roomed with host := (hosted [BitVec.ofNat 32 0x60000000, BitVec.ofNat 32 0x0, BitVec.ofNat 32 0x40]).host }) [(F.RMS_ROOM_SNAP_LEN,
      0,
      1)]).advance 0).host.ops 0).get (by decide +kernel)).words 1) 31 1) (bits (dW ((mget ((wrs ({ roomed with host := (hosted [BitVec.ofNat 32 0x60000000, BitVec.ofNat 32 0x0, BitVec.ofNat 32 0x40]).host }) [(F.RMS_ROOM_SNAP_LEN,
      0,
      1)]).advance 0).host.ops 0).get (by decide +kernel)).words 1) 28 2))).1 + (dW ((mget ((wrs ({ roomed with host := (hosted [BitVec.ofNat 32 0x60000000, BitVec.ofNat 32 0x0, BitVec.ofNat 32 0x40]).host }) [(F.RMS_ROOM_SNAP_LEN,
      0,
      1)]).advance 0).host.ops 0).get (by decide +kernel)).words 3 * 64)) (dW ((mget ((wrs ({ roomed with host := (hosted [BitVec.ofNat 32 0x60000000, BitVec.ofNat 32 0x0, BitVec.ofNat 32 0x40]).host }) [(F.RMS_ROOM_SNAP_LEN,
      0,
      1)]).advance 0).host.ops 0).get (by decide +kernel)).words 2)) (((exportArea ((wrs ({ roomed with host := (hosted [BitVec.ofNat 32 0x60000000, BitVec.ofNat 32 0x0, BitVec.ofNat 32 0x40]).host }) [(F.RMS_ROOM_SNAP_LEN,
      0,
      1)]).advance 0) (bits (dW ((mget ((wrs ({ roomed with host := (hosted [BitVec.ofNat 32 0x60000000, BitVec.ofNat 32 0x0, BitVec.ofNat 32 0x40]).host }) [(F.RMS_ROOM_SNAP_LEN,
      0,
      1)]).advance 0).host.ops 0).get (by decide +kernel)).words 1) 16 7) (bits (dW ((mget ((wrs ({ roomed with host := (hosted [BitVec.ofNat 32 0x60000000, BitVec.ofNat 32 0x0, BitVec.ofNat 32 0x40]).host }) [(F.RMS_ROOM_SNAP_LEN,
      0,
      1)]).advance 0).host.ops 0).get (by decide +kernel)).words 1) 31 1) (bits (dW ((mget ((wrs ({ roomed with host := (hosted [BitVec.ofNat 32 0x60000000, BitVec.ofNat 32 0x0, BitVec.ofNat 32 0x40]).host }) [(F.RMS_ROOM_SNAP_LEN,
      0,
      1)]).advance 0).host.ops 0).get (by decide +kernel)).words 1) 28 2))).1 + (dW ((mget ((wrs ({ roomed with host := (hosted [BitVec.ofNat 32 0x60000000, BitVec.ofNat 32 0x0, BitVec.ofNat 32 0x40]).host }) [(F.RMS_ROOM_SNAP_LEN,
      0,
      1)]).advance 0).host.ops 0).get (by decide +kernel)).words 3 * 64)) (dW ((mget ((wrs ({ roomed with host := (hosted [BitVec.ofNat 32 0x60000000, BitVec.ofNat 32 0x0, BitVec.ofNat 32 0x40]).host }) [(F.RMS_ROOM_SNAP_LEN,
      0, 1)]).advance 0).host.ops 0).get (by decide +kernel)).words 2))).1).2).1,
      (((readLines ([]) (linesOf (((exportArea ((wrs ({ roomed with host := (hosted [BitVec.ofNat 32 0x60000000, BitVec.ofNat 32 0x0, BitVec.ofNat 32 0x40]).host }) [(F.RMS_ROOM_SNAP_LEN,
      0,
      1)]).advance 0) (bits (dW ((mget ((wrs ({ roomed with host := (hosted [BitVec.ofNat 32 0x60000000, BitVec.ofNat 32 0x0, BitVec.ofNat 32 0x40]).host }) [(F.RMS_ROOM_SNAP_LEN,
      0,
      1)]).advance 0).host.ops 0).get (by decide +kernel)).words 1) 16 7) (bits (dW ((mget ((wrs ({ roomed with host := (hosted [BitVec.ofNat 32 0x60000000, BitVec.ofNat 32 0x0, BitVec.ofNat 32 0x40]).host }) [(F.RMS_ROOM_SNAP_LEN,
      0,
      1)]).advance 0).host.ops 0).get (by decide +kernel)).words 1) 31 1) (bits (dW ((mget ((wrs ({ roomed with host := (hosted [BitVec.ofNat 32 0x60000000, BitVec.ofNat 32 0x0, BitVec.ofNat 32 0x40]).host }) [(F.RMS_ROOM_SNAP_LEN,
      0,
      1)]).advance 0).host.ops 0).get (by decide +kernel)).words 1) 28 2))).1 + (dW ((mget ((wrs ({ roomed with host := (hosted [BitVec.ofNat 32 0x60000000, BitVec.ofNat 32 0x0, BitVec.ofNat 32 0x40]).host }) [(F.RMS_ROOM_SNAP_LEN,
      0,
      1)]).advance 0).host.ops 0).get (by decide +kernel)).words 3 * 64)) (dW ((mget ((wrs ({ roomed with host := (hosted [BitVec.ofNat 32 0x60000000, BitVec.ofNat 32 0x0, BitVec.ofNat 32 0x40]).host }) [(F.RMS_ROOM_SNAP_LEN,
      0,
      1)]).advance 0).host.ops 0).get (by decide +kernel)).words 2)) (countPages (countAccess (modOp1 ((wrs ({ roomed with host := (hosted [BitVec.ofNat 32 0x60000000, BitVec.ofNat 32 0x0, BitVec.ofNat 32 0x40]).host }) [(F.RMS_ROOM_SNAP_LEN,
      0,
      1)]).advance 0) 0 (fun o => { o with stage := 1 })) 0 0 4 (((exportArea ((wrs ({ roomed with host := (hosted [BitVec.ofNat 32 0x60000000, BitVec.ofNat 32 0x0, BitVec.ofNat 32 0x40]).host }) [(F.RMS_ROOM_SNAP_LEN,
      0,
      1)]).advance 0) (bits (dW ((mget ((wrs ({ roomed with host := (hosted [BitVec.ofNat 32 0x60000000, BitVec.ofNat 32 0x0, BitVec.ofNat 32 0x40]).host }) [(F.RMS_ROOM_SNAP_LEN,
      0,
      1)]).advance 0).host.ops 0).get (by decide +kernel)).words 1) 16 7) (bits (dW ((mget ((wrs ({ roomed with host := (hosted [BitVec.ofNat 32 0x60000000, BitVec.ofNat 32 0x0, BitVec.ofNat 32 0x40]).host }) [(F.RMS_ROOM_SNAP_LEN,
      0,
      1)]).advance 0).host.ops 0).get (by decide +kernel)).words 1) 31 1) (bits (dW ((mget ((wrs ({ roomed with host := (hosted [BitVec.ofNat 32 0x60000000, BitVec.ofNat 32 0x0, BitVec.ofNat 32 0x40]).host }) [(F.RMS_ROOM_SNAP_LEN,
      0,
      1)]).advance 0).host.ops 0).get (by decide +kernel)).words 1) 28 2))).1 + (dW ((mget ((wrs ({ roomed with host := (hosted [BitVec.ofNat 32 0x60000000, BitVec.ofNat 32 0x0, BitVec.ofNat 32 0x40]).host }) [(F.RMS_ROOM_SNAP_LEN,
      0,
      1)]).advance 0).host.ops 0).get (by decide +kernel)).words 3 * 64)) (dW ((mget ((wrs ({ roomed with host := (hosted [BitVec.ofNat 32 0x60000000, BitVec.ofNat 32 0x0, BitVec.ofNat 32 0x40]).host }) [(F.RMS_ROOM_SNAP_LEN,
      0,
      1)]).advance 0).host.ops 0).get (by decide +kernel)).words 2)) (((exportArea ((wrs ({ roomed with host := (hosted [BitVec.ofNat 32 0x60000000, BitVec.ofNat 32 0x0, BitVec.ofNat 32 0x40]).host }) [(F.RMS_ROOM_SNAP_LEN,
      0,
      1)]).advance 0) (bits (dW ((mget ((wrs ({ roomed with host := (hosted [BitVec.ofNat 32 0x60000000, BitVec.ofNat 32 0x0, BitVec.ofNat 32 0x40]).host }) [(F.RMS_ROOM_SNAP_LEN,
      0,
      1)]).advance 0).host.ops 0).get (by decide +kernel)).words 1) 16 7) (bits (dW ((mget ((wrs ({ roomed with host := (hosted [BitVec.ofNat 32 0x60000000, BitVec.ofNat 32 0x0, BitVec.ofNat 32 0x40]).host }) [(F.RMS_ROOM_SNAP_LEN,
      0,
      1)]).advance 0).host.ops 0).get (by decide +kernel)).words 1) 31 1) (bits (dW ((mget ((wrs ({ roomed with host := (hosted [BitVec.ofNat 32 0x60000000, BitVec.ofNat 32 0x0, BitVec.ofNat 32 0x40]).host }) [(F.RMS_ROOM_SNAP_LEN,
      0,
      1)]).advance 0).host.ops 0).get (by decide +kernel)).words 1) 28 2))).1 + (dW ((mget ((wrs ({ roomed with host := (hosted [BitVec.ofNat 32 0x60000000, BitVec.ofNat 32 0x0, BitVec.ofNat 32 0x40]).host }) [(F.RMS_ROOM_SNAP_LEN,
      0,
      1)]).advance 0).host.ops 0).get (by decide +kernel)).words 3 * 64)) (dW ((mget ((wrs ({ roomed with host := (hosted [BitVec.ofNat 32 0x60000000, BitVec.ofNat 32 0x0, BitVec.ofNat 32 0x40]).host }) [(F.RMS_ROOM_SNAP_LEN,
      0, 1)]).advance 0).host.ops 0).get (by decide +kernel)).words 2))).1).2).2, _, rfl,
      (Option.some_get (by decide +kernel)).symm, rfl, triple_parts, rfl, rfl,
      pair_of (Prod.ext (by decide +kernel) (pair_parts)), by decide +kernel⟩,
  ⟨(hosted [BitVec.ofNat 32 0x80000000, BitVec.ofNat 32 0x0, BitVec.ofNat 32 0x0, BitVec.ofNat 32 0x0, BitVec.ofNat 32 0x0,
      BitVec.ofNat 32 0x0, BitVec.ofNat 32 0x0, BitVec.ofNat 32 0x0, BitVec.ofNat 32 0x0, BitVec.ofNat 32 0x0,
      BitVec.ofNat 32 0x0, BitVec.ofNat 32 0x0, BitVec.ofNat 32 0x0, BitVec.ofNat 32 0x0, BitVec.ofNat 32 0x0,
      BitVec.ofNat 32 0x1]), _, _, 0, 0, _, _, _, _, rfl, (Option.some_get (by decide +kernel)).symm, rfl, rfl, rfl, rfl,
      by decide +kernel⟩,
  ⟨(wrs (hosted [BitVec.ofNat 32 0x80000000, BitVec.ofNat 32 0x18000000]) [(F.GLB_HOST_PLACE_HOST_EP_EN, 0, 0)]), _, _, 0, 0,
      _, _, _, _, rfl, (Option.some_get (by decide +kernel)).symm, rfl, rfl, rfl, rfl, by decide +kernel⟩,
  ⟨(hosted [BitVec.ofNat 32 0x80000000]), _, _, 0, 0, _, _, _, _, rfl, (Option.some_get (by decide +kernel)).symm, rfl, rfl,
      rfl, rfl, by decide +kernel⟩,
  ⟨(hosted [BitVec.ofNat 32 0x80000000, BitVec.ofNat 32 0x18000000]), _, _, 0, 0, _, _, _, _, rfl,
      (Option.some_get (by decide +kernel)).symm, rfl, rfl, rfl, rfl, by decide +kernel⟩⟩

theorem witness_HostCompletions :
    (∃ (s u : State) (q at_ cause : Nat), u = s.advance at_ ∧ liveRuns u = true ∧ q < 128 ∧ cause < 4) ∧
    (∃ (s u : State) (at_ : Nat), u = s.advance at_ ∧ coreRuns u = true) ∧
    (∃ (s u : State) (q at_ n : Nat) (o : HostOp), u = s.advance at_ ∧ (heldOf u q).head? = some n ∧
        mget u.host.ops n = some o ∧ liveRuns u = true ∧ q < 128 ∧ cqHasRoom u q = true) ∧
    (∃ (s u : State) (q at_ n : Nat) (o : HostOp), u = s.advance at_ ∧ mget u.host.ops n = some o ∧ liveRuns u = true ∧
        q < 128 ∧ cqHasRoom u q = true ∧ heldOf u q = [] ∧
        (u.host.ready.find? fun n => (mget u.host.ops n).any fun o => o.stage == 2 && opCq u o == q) = some n) ∧
    (∃ (s u : State) (q at_ : Nat), u = s.advance at_ ∧ liveRuns u = true ∧ q < 128 ∧ cqHasRoom u q = true ∧ heldOf u q = [] ∧
        (u.host.ready.find? fun n => (mget u.host.ops n).any fun o => o.stage == 2 && opCq u o == q) = none) ∧
    (∃ (s u : State) (q at_ : Nat), u = s.advance at_ ∧ liveRuns u = true ∧ q < 128 ∧ cqHasRoom u q = false ∧
        (u.host.ready.find? fun n => (mget u.host.ops n).any fun o => o.stage == 2 && opCq u o == q) = none) ∧
    (∃ (s u : State) (q at_ n : Nat) (d : State), u = s.advance at_ ∧
        (u.host.ready.find? fun n => (mget u.host.ops n).any fun o => o.stage == 2 && opCq u o == q) = some n ∧
        d = modOp1 u n (fun o => { o with stage := 3 }) ∧ liveRuns u = true ∧ q < 128 ∧ cqHasRoom u q = false ∧
        d.flag F.HST_CQ_FULL q = true) ∧
    (∃ (s u : State) (q at_ n : Nat) (d : State), u = s.advance at_ ∧
        (u.host.ready.find? fun n => (mget u.host.ops n).any fun o => o.stage == 2 && opCq u o == q) = some n ∧
        d = modOp1 u n (fun o => { o with stage := 3 }) ∧ liveRuns u = true ∧ q < 128 ∧ cqHasRoom u q = false ∧
        d.flag F.HST_CQ_FULL q = false) ∧
    (∃ (s u : State) (q at_ : Nat), u = s.advance at_ ∧ liveRuns u = true ∧ q < 128 ∧ u.flag F.HST_CQ_EN q = true ∧
        u.flag F.HST_CQ_IRQ_EN q = true ∧ u.host.armed.contains q = true ∧ u.rd F.HST_CQ_CNT q ≠ 0 ∧
        u.rd F.HST_CQ_CNT q ≤ cqPending u q) ∧
    (∃ (s u : State) (q at_ : Nat), u = s.advance at_ ∧ liveRuns u = true ∧ q < 128 ∧
        (u.flag F.HST_CQ_EN q = false ∨ u.flag F.HST_CQ_IRQ_EN q = false ∨ u.host.armed.contains q = false)) ∧
    (∃ (s u : State) (at_ : Nat), u = s.advance at_ ∧ coreRuns u = true ∧ u.sw.hostQ = []) ∧
    (∃ (s u d : State) (p : HostPkt) (ps : List HostPkt) (at_ : Nat), u = s.advance at_ ∧
        d = hostCollect (modSw u fun w => { w with hostQ := ps }) ∧ coreRuns u = true ∧ u.sw.hostQ = p :: ps ∧ p.mir = none ∧
        p.res = none ∧ p.pkt.hdr.opcode ≠ 0x50) ∧
    (∃ (s u d : State) (p : HostPkt) (ps : List HostPkt) (at_ : Nat), u = s.advance at_ ∧
        d = hostCollect (modSw u fun w => { w with hostQ := ps }) ∧ coreRuns u = true ∧ u.sw.hostQ = p :: ps ∧ p.mir = none ∧
        p.res = none ∧ p.pkt.hdr.opcode = 0x50 ∧ d.host.recv = []) ∧
    (∃ (s u d : State) (p : HostPkt) (ps : List HostPkt) (at_ n : Nat) (ns : List Nat), u = s.advance at_ ∧
        d = hostCollect (modSw u fun w => { w with hostQ := ps }) ∧ coreRuns u = true ∧ u.sw.hostQ = p :: ps ∧ p.mir = none ∧
        p.res = none ∧ p.pkt.hdr.opcode = 0x50 ∧ d.host.recv = n :: ns) ∧
    (∃ (s u : State) (n at_ cause : Nat) (o : HostOp), u = s.advance at_ ∧ mget u.host.ops n = some o ∧ cause < 4 ∧
        liveRuns u = true ∧ opKind o = 1 ∧ o.stage = 1) ∧
    (∃ (s u : State) (n at_ cause : Nat) (o : HostOp), u = s.advance at_ ∧ mget u.host.ops n = some o ∧ cause < 4 ∧
        liveRuns u = true ∧ canStart u n = true ∧ (opKind o = 2 ∨ opKind o = 8 ∨ opKind o = 4 ∧ dW o.words 1 % 4 = 0) ∧
        wordsReserved (opKind o) o.words = false) ∧
    (∃ (s u : State) (at_ cause : Nat), u = s.advance at_ ∧ cause < 4 ∧ liveRuns u = true ∧ fetchRing u = none) ∧
    (∃ (s u : State) (at_ cause r : Nat), u = s.advance at_ ∧ fetchRing u = some r ∧ cause < 4 ∧ liveRuns u = true) :=
  ⟨⟨r, _, 0, 0, 0, rfl, by decide +kernel⟩,
  ⟨r, _, 0, rfl, by decide +kernel⟩,
  ⟨(wrs (hostedAt [BitVec.ofNat 32 0xF0000000] 3) [(F.HST_CQ_EN, 0, 1), (F.HST_CQ_LOG2N, 0, 4)]), _, 0, 0, _, _, rfl,
      (Option.some_get (by decide +kernel)).symm, (Option.some_get (by decide +kernel)).symm, by decide +kernel⟩,
  ⟨(wrs ({ r with host := { r.host with ops := [(0, { hop [BitVec.ofNat 32 0xF0000000] with stage := 2 })], ready := [0] } }) [(F.HST_CQ_EN,
      0, 1), (F.HST_CQ_LOG2N, 0, 4)]), _, 0, 0, 0, _, rfl, (Option.some_get (by decide +kernel)).symm, by decide +kernel⟩,
  ⟨(wrs ({ r with host := { r.host with armed := [0] } }) [(F.HST_CQ_EN, 0, 1), (F.HST_CQ_IRQ_EN, 0, 1), (F.HST_CQ_LOG2N, 0,
      4), (F.HST_CQ_CNT, 0, 1), (F.HST_CQ_TAIL, 0, 1)]), _, 0, 0, rfl, by decide +kernel⟩,
  ⟨r, _, 0, 0, rfl, by decide +kernel⟩,
  ⟨(wrs (hostedAt [BitVec.ofNat 32 0xF0000000] 2) [(F.HST_CQ_FULL, 0, 1)]), _, 0, 0, _, _, rfl,
      (Option.some_get (by decide +kernel)).symm, rfl, by decide +kernel⟩,
  ⟨(hostedAt [BitVec.ofNat 32 0xF0000000] 2), _, 0, 0, _, _, rfl, (Option.some_get (by decide +kernel)).symm, rfl,
      by decide +kernel⟩,
  ⟨(wrs ({ r with host := { r.host with armed := [0] } }) [(F.HST_CQ_EN, 0, 1), (F.HST_CQ_IRQ_EN, 0, 1), (F.HST_CQ_LOG2N, 0,
      4), (F.HST_CQ_CNT, 0, 1), (F.HST_CQ_TAIL, 0, 1)]), _, 0, 0, rfl, by decide +kernel⟩,
  ⟨r, _, 0, 0, rfl, by decide +kernel⟩,
  ⟨r, _, 0, rfl, by decide +kernel⟩,
  ⟨(modSw r fun w => { w with hostQ := [{ atHost with pkt := pk 0x51 0 0 0 0 0 2 [] }] }), _, _,
      ({ atHost with pkt := pk 0x51 0 0 0 0 0 2 [] }), ([]), 0, rfl, rfl, by decide +kernel⟩,
  ⟨(modSw r fun w => { w with hostQ := [atHost] }), _, _, atHost, ([]), 0, rfl, rfl, by decide +kernel⟩,
  ⟨(modSw ({ r with host := { r.host with recv := [0] } }) fun w => { w with hostQ := [atHost] }), _, _, atHost, ([]), 0, 0,
      ([]), rfl, rfl, by decide +kernel⟩,
  ⟨(hostedAt [BitVec.ofNat 32 0x10000000] 1), _, 0, 0, 0, _, rfl, (Option.some_get (by decide +kernel)).symm,
      by decide +kernel⟩,
  ⟨(hosted [BitVec.ofNat 32 0x20000000]), _, 0, 0, 0, _, rfl, (Option.some_get (by decide +kernel)).symm, by decide +kernel⟩,
  ⟨r, _, 0, 0, rfl, by decide +kernel⟩,
  ⟨(wrs (r) [(F.HST_CR_STATE, 0, 1), (F.HST_CR_LOG2N, 0, 4), (F.HST_CR_TAIL, 0, 1)]), _, 0, 0, _, rfl,
      (Option.some_get (by decide +kernel)).symm, by decide +kernel⟩⟩

theorem witness_Commits :
    (∃ (s : State) (m : Master), takesWrite s m .GLB_CMT 0 0 = true) ∧
    (∃ (s : State) (m : Master), takesWrite s m .TIM_CMT_WHEN 0 0 = true) ∧
    (∃ (s u : State) (at_ : Nat), u = s.advance at_ ∧ coreRuns u = true) ∧
    (∃ (s c d : State) (m : Master), c = wrote s m .GLB_CMT 0 0 ∧ d = c.wr0 F.GLB_CMT_STAT_MASTER (masterCode m) ∧
        takesWrite s m .GLB_CMT 0 0 = true ∧ semHolder d ≠ masterCode m) ∧
    (∃ (s c d : State) (m : Master) (why : Nat), c = wrote s m .GLB_CMT 0 0 ∧ d = c.wr0 F.GLB_CMT_STAT_MASTER (masterCode m) ∧
        takesWrite s m .GLB_CMT 0 0 = true ∧ semHolder d = masterCode m ∧
        commitBoundary d (d.rd0 F.TIM_CMT_WHEN_MODE) = .inr why) ∧
    (∃ (s c d : State) (m : Master) (b k off : Nat), c = wrote s m .GLB_CMT 0 0 ∧
        d = c.wr0 F.GLB_CMT_STAT_MASTER (masterCode m) ∧ firstCheck d (atShadows d) issueChecks = some (k, off) ∧
        takesWrite s m .GLB_CMT 0 0 = true ∧ semHolder d = masterCode m ∧
        commitBoundary d (d.rd0 F.TIM_CMT_WHEN_MODE) = .inl b) ∧
    (∃ (s c d : State) (m : Master) (b : Nat), c = wrote s m .GLB_CMT 0 0 ∧ d = c.wr0 F.GLB_CMT_STAT_MASTER (masterCode m) ∧
        takesWrite s m .GLB_CMT 0 0 = true ∧ semHolder d = masterCode m ∧
        commitBoundary d (d.rd0 F.TIM_CMT_WHEN_MODE) = .inl b ∧ firstCheck d (atShadows d) issueChecks = none) ∧
    (∃ (s c : State) (m : Master), c = wrote s m .GLB_CMT 0 0 ∧ takesWrite s m .GLB_CMT 0 0 = true ∧ c.commit.isSome = true) ∧
    (∃ (s c : State) (m : Master), c = wrote s m .GLB_CMT 0 0 ∧ takesWrite s m .GLB_CMT 0 0 = true ∧ c.commit = none) ∧
    (∃ (s c : State) (m : Master), c = wrote s m .TIM_CMT_WHEN 0 0 ∧ takesWrite s m .TIM_CMT_WHEN 0 0 = true ∧
        (c.commit = none ∨ c.commit.any (boundaryReached c) = true)) ∧
    (∃ (s c : State) (m : Master) (k : PendCommit), c = wrote s m .TIM_CMT_WHEN 0 0 ∧
        takesWrite s m .TIM_CMT_WHEN 0 0 = true ∧ c.commit = some k ∧ boundaryReached c k = false) ∧
    (∃ (s u : State) (at_ : Nat), u = s.advance at_ ∧ coreRuns u = true ∧
        (u.commit = none ∨ u.commit.any (boundaryReached u) = false)) ∧
    (∃ (s u c : State) (at_ : Nat) (k : PendCommit) (n off : Nat), u = s.advance at_ ∧ u.commit = some k ∧
        c = ({ u with commit := none } : State).wr0 F.TIM_CMT_STAT_PENDING 0 ∧
        firstCheck u (atShadows u) boundaryChecks = some (n, off) ∧ coreRuns u = true ∧ boundaryReached u k = true) ∧
    (∃ (s u c d : State) (at_ : Nat) (k : PendCommit), u = s.advance at_ ∧
        c = ({ u with commit := none } : State).wr0 F.TIM_CMT_STAT_PENDING 0 ∧
        d = ((cmtResult (commitEffects c) 2 0).wr0 F.GLB_SEM_DIRTY 0).wr0 F.TIM_CMT_STAT_RESULT 1 ∧ coreRuns u = true ∧
        u.commit = some k ∧ boundaryReached u k = true ∧ firstCheck u (atShadows u) boundaryChecks = none) :=
  ⟨⟨r, .host, by decide +kernel⟩,
  ⟨r, .host, by decide +kernel⟩,
  ⟨r, _, 0, rfl, by decide +kernel⟩,
  ⟨r, _, _, .host, rfl, rfl, by decide +kernel⟩,
  ⟨(wrs (r) [(F.GLB_SEM_HOLDER, 0, 1), (F.TIM_CMT_WHEN_MODE, 0, 1)]), _, _, .host, 3, rfl, rfl, by decide +kernel⟩,
  ⟨(wrs (r) [(F.GLB_SEM_HOLDER, 0, 1), (F.SWC_BANK_STAT_STATE_A, 0, 0)]), _, _, .host, 0,
      ((firstCheck ((wrote (wrs (r) [(F.GLB_SEM_HOLDER, 0, 1), (F.SWC_BANK_STAT_STATE_A, 0,
      0)]) .host .GLB_CMT 0 0).wr0 F.GLB_CMT_STAT_MASTER (masterCode .host)) (atShadows ((wrote (wrs (r) [(F.GLB_SEM_HOLDER,
      0, 1), (F.SWC_BANK_STAT_STATE_A, 0,
      0)]) .host .GLB_CMT 0 0).wr0 F.GLB_CMT_STAT_MASTER (masterCode .host))) issueChecks).get (by decide +kernel)).1,
      ((firstCheck ((wrote (wrs (r) [(F.GLB_SEM_HOLDER, 0, 1), (F.SWC_BANK_STAT_STATE_A, 0,
      0)]) .host .GLB_CMT 0 0).wr0 F.GLB_CMT_STAT_MASTER (masterCode .host)) (atShadows ((wrote (wrs (r) [(F.GLB_SEM_HOLDER,
      0, 1), (F.SWC_BANK_STAT_STATE_A, 0,
      0)]) .host .GLB_CMT 0 0).wr0 F.GLB_CMT_STAT_MASTER (masterCode .host))) issueChecks).get (by decide +kernel)).2, rfl,
      rfl, (Option.some_get _).symm.trans (congrArg some (pair_parts)), by decide +kernel⟩,
  ⟨(wrs r [(F.GLB_SEM_HOLDER, 0, 1)]), _, _, .host, 0, rfl, rfl, by decide +kernel⟩,
  ⟨({ r with commit := some ⟨1, 5, .host⟩ }), _, .host, rfl, by decide +kernel⟩,
  ⟨r, _, .host, rfl, by decide +kernel⟩,
  ⟨r, _, .host, rfl, by decide +kernel⟩,
  ⟨({ r with commit := some ⟨1, 5, .host⟩ }), _, .host, (⟨1, 5, .host⟩), rfl, by decide +kernel⟩,
  ⟨r, _, 0, rfl, by decide +kernel⟩,
  ⟨(wrs ({ r with commit := some ⟨0, 0, .host⟩ }) [(F.SWC_BANK_STAT_STATE_A, 0, 0)]), _, _, 0, _,
      ((firstCheck ((wrs ({ r with commit := some ⟨0, 0, .host⟩ }) [(F.SWC_BANK_STAT_STATE_A, 0,
      0)]).advance 0) (atShadows ((wrs ({ r with commit := some ⟨0, 0, .host⟩ }) [(F.SWC_BANK_STAT_STATE_A, 0,
      0)]).advance 0)) boundaryChecks).get (by decide +kernel)).1,
      ((firstCheck ((wrs ({ r with commit := some ⟨0, 0, .host⟩ }) [(F.SWC_BANK_STAT_STATE_A, 0,
      0)]).advance 0) (atShadows ((wrs ({ r with commit := some ⟨0, 0, .host⟩ }) [(F.SWC_BANK_STAT_STATE_A, 0,
      0)]).advance 0)) boundaryChecks).get (by decide +kernel)).2, rfl, (Option.some_get (by decide +kernel)).symm, rfl,
      (Option.some_get _).symm.trans (congrArg some (pair_parts)), by decide +kernel⟩,
  ⟨({ r with commit := some ⟨0, 0, .host⟩ }), _, _, _, 0, (⟨0, 0, .host⟩), rfl, rfl, rfl, by decide +kernel⟩⟩

theorem witness_Semaphore :
    (∃ (m : Master), m.ok = true) ∧
    (∃ (s : State) (m : Master), takesWrite s m .GLB_SEM 0 0 = true) ∧
    (∃ (s u : State) (at_ : Nat) (parity : List Nat), u = s.advance at_ ∧ chipOn u = true ∧ parity.all (· < 2 ^ 26) = true) ∧
    (∃ (s c d : State) (m : Master), c = countReg s m false (regOff .GLB_SEM 0) ∧
        d = (if semHolder c = 0 ∨ semHolder c = masterCode m then semTake c (masterCode m) else c) ∧ m.ok = true ∧
        chipOn s = true ∧ mustHold s (regOff .GLB_SEM 0) = false ∧ (m = .host → s.host.pcie.dstate ≠ 3)) ∧
    (∃ (s c : State) (m : Master), c = wrote s m .GLB_SEM 0 0 ∧ takesWrite s m .GLB_SEM 0 0 = true ∧
        semHolder c = masterCode m) ∧
    (∃ (s c : State) (m : Master), c = wrote s m .GLB_SEM 0 0 ∧ takesWrite s m .GLB_SEM 0 0 = true ∧
        semHolder c ≠ masterCode m) ∧
    (∃ (s u : State) (at_ : Nat), u = s.advance at_ ∧ chipOn u = true ∧ u.semEnd.any (fun t => decide (t ≤ u.now)) = false) ∧
    (∃ (s u : State) (at_ : Nat), u = s.advance at_ ∧ chipOn u = true ∧ u.semEnd.any (fun t => decide (t ≤ u.now)) = true) ∧
    (∃ (s u d e : State) (at_ : Nat), u = s.advance at_ ∧ d = u.wr0 F.GLB_CFG_CRC_CUR_CUR (configCrc u) ∧
        e = d.bump F.GLB_CFG_CRC_CTRL_MCOUNT 0 ∧ chipOn u = true ∧ u.passCut = true) ∧
    (∃ (s u d e : State) (at_ : Nat), u = s.advance at_ ∧ d = u.wr0 F.GLB_CFG_CRC_CUR_CUR (configCrc u) ∧
        e = d.bump F.GLB_CFG_CRC_CTRL_MCOUNT 0 ∧ chipOn u = true ∧ u.passCut = false ∧
        (u.flag F.GLB_CFG_CRC_CTRL_EN = false ∨ configCrc u = u.rd0 F.GLB_CFG_CRC_REF_REF)) ∧
    (∃ (s u d e : State) (at_ : Nat), u = s.advance at_ ∧ d = u.wr0 F.GLB_CFG_CRC_CUR_CUR (configCrc u) ∧
        e = d.bump F.GLB_CFG_CRC_CTRL_MCOUNT 0 ∧ u.flag F.GLB_CFG_CRC_CTRL_EN = true ∧
        configCrc u ≠ u.rd0 F.GLB_CFG_CRC_REF_REF ∧ e.flag F.GLB_CFG_CRC_CTRL_MISMATCH = true ∧ chipOn u = true ∧
        u.passCut = false) ∧
    (∃ (s u d e : State) (at_ : Nat), u = s.advance at_ ∧ d = u.wr0 F.GLB_CFG_CRC_CUR_CUR (configCrc u) ∧
        e = d.bump F.GLB_CFG_CRC_CTRL_MCOUNT 0 ∧ u.flag F.GLB_CFG_CRC_CTRL_EN = true ∧
        configCrc u ≠ u.rd0 F.GLB_CFG_CRC_REF_REF ∧ e.flag F.GLB_CFG_CRC_CTRL_MISMATCH = false ∧ chipOn u = true ∧
        u.passCut = false) ∧
    (∃ (s u : State) (off at_ : Nat), u = s.advance at_ ∧ chipOn u = true ∧ off < 2 ^ 26 ∧ collectorWord off = false ∧
        parityWord off = true) ∧
    (∃ (s u : State) (off at_ : Nat), u = s.advance at_ ∧ chipOn u = true ∧ off < 2 ^ 26 ∧ collectorWord off = true) :=
  ⟨⟨.host, by decide +kernel⟩,
  ⟨r, .host, by decide +kernel⟩,
  ⟨r, _, 0, ([]), rfl, by decide +kernel⟩,
  ⟨r, _, _, .host, rfl, rfl, by decide +kernel⟩,
  ⟨(wrs r [(F.GLB_SEM_HOLDER, 0, 1)]), _, .host, rfl, by decide +kernel⟩,
  ⟨r, _, .host, rfl, by decide +kernel⟩,
  ⟨r, _, 0, rfl, by decide +kernel⟩,
  ⟨({ r with semEnd := some 0 }), _, 0, rfl, by decide +kernel⟩,
  ⟨({ r with passCut := true }), _, _, _, 0, rfl, rfl, rfl, by decide +kernel⟩,
  ⟨r, _, _, _, 0, rfl, rfl, rfl, by decide +kernel⟩,
  ⟨crcOff (wrs r [(F.GLB_CFG_CRC_CTRL_EN, 0, 1), (F.GLB_CFG_CRC_CTRL_MISMATCH, 0, 1)]), _, _, _, 0, rfl, rfl, rfl,
      (crcOff_flag _ _ (by decide)).trans (by decide +kernel), crcOff_differs _,
      (crcOff_mismatch _).trans (by decide +kernel), by decide +kernel⟩,
  ⟨crcOff (wrs r [(F.GLB_CFG_CRC_CTRL_EN, 0, 1)]), _, _, _, 0, rfl, rfl, rfl,
      (crcOff_flag _ _ (by decide)).trans (by decide +kernel), crcOff_differs _,
      (crcOff_mismatch _).trans (by decide +kernel), by decide +kernel⟩,
  ⟨({ r with passCut := true }), _, (regOff .SWC_RESEQ_TO 0), 0, rfl, by decide +kernel⟩,
  ⟨(wrs (r) [(F.GLB_CFG_CRC_CTRL_EN, 0, 1)]), _, (regOff .FLT_KSEV 0), 0, rfl, by decide +kernel⟩⟩

theorem witness_PinsAndSupplies :
    (∃ (s u : State) (at_ : Nat), u = s.advance at_) ∧
    (∃ (s u : State) (lowNs at_ : Nat), u = s.advance at_ ∧ u.pin.perst = true ∧ 100 ≤ lowNs) ∧
    (∃ (s u : State) (lowNs at_ : Nat), u = s.advance at_ ∧ (u.pin.perst = false ∨ lowNs < 100)) ∧
    (∃ (s u d : State) (at_ : Nat) (low : Bool), u = s.advance at_ ∧ low = (u.pin.bootDue && !u.pin.perst && !u.pin.epo) ∧
        d = { u with pin := { u.pin with perst := u.pin.aon, supplies := u.pin.aon, noBoot := u.pin.noBoot || low } } ∧
        (u.pin.aon = false ∨ u.pin.bootDue = false)) ∧
    (∃ (s u d : State) (ev : BootEv) (at_ : Nat) (low : Bool), u = s.advance at_ ∧
        low = (u.pin.bootDue && !u.pin.perst && !u.pin.epo) ∧
        d = { u with pin := { u.pin with perst := u.pin.aon, supplies := u.pin.aon, noBoot := u.pin.noBoot || low } } ∧
        u.pin.aon = true ∧ u.pin.bootDue = true ∧ (trayWrites d ev).pin.refclk = true) ∧
    (∃ (s u d : State) (ev : BootEv) (at_ : Nat) (low : Bool), u = s.advance at_ ∧
        low = (u.pin.bootDue && !u.pin.perst && !u.pin.epo) ∧
        d = { u with pin := { u.pin with perst := u.pin.aon, supplies := u.pin.aon, noBoot := u.pin.noBoot || low } } ∧
        u.pin.aon = true ∧ u.pin.bootDue = true ∧ (trayWrites d ev).pin.refclk = false) ∧
    (∃ (s u d : State) (lowNs at_ : Nat), u = s.advance at_ ∧ d = { u with pin := { u.pin with recovery := false } } ∧
        (u.pin.recovery = false ∨ lowNs < 1000)) ∧
    (∃ (s u d : State) (lowNs at_ : Nat), u = s.advance at_ ∧ d = { u with pin := { u.pin with recovery := false } } ∧
        u.pin.recovery = true ∧ 1000 ≤ lowNs ∧ chipOn d = false) ∧
    (∃ (s u d : State) (lowNs at_ : Nat), u = s.advance at_ ∧ d = { u with pin := { u.pin with recovery := false } } ∧
        u.pin.recovery = true ∧ 1000 ≤ lowNs ∧ chipOn d = true) ∧
    (∃ (s u d e : State) (ev : BootEv) (at_ : Nat), u = s.advance at_ ∧
        d = { u with pin := { u.pin with recovery := true } } ∧
        e = (trayWrites d ev).gmc.mbox.foldl (fun s m => mboxRespond s m 7 [] []) (trayWrites d ev) ∧ u.pin.recovery = true) ∧
    (∃ (s u d e : State) (ev : BootEv) (at_ : Nat), u = s.advance at_ ∧
        d = { u with pin := { u.pin with recovery := true } } ∧
        e = (trayWrites d ev).gmc.mbox.foldl (fun s m => mboxRespond s m 7 [] []) (trayWrites d ev) ∧ u.pin.recovery = false ∧
        chipOn d = false) ∧
    (∃ (s u d e : State) (ev : BootEv) (at_ : Nat), u = s.advance at_ ∧
        d = { u with pin := { u.pin with recovery := true } } ∧
        e = (trayWrites d ev).gmc.mbox.foldl (fun s m => mboxRespond s m 7 [] []) (trayWrites d ev) ∧ u.pin.recovery = false ∧
        chipOn d = true ∧ e.flag F.GLB_PLACE_LOCK = true) ∧
    (∃ (s u d e : State) (ev : BootEv) (at_ : Nat), u = s.advance at_ ∧
        d = { u with pin := { u.pin with recovery := true } } ∧
        e = (trayWrites d ev).gmc.mbox.foldl (fun s m => mboxRespond s m 7 [] []) (trayWrites d ev) ∧ u.pin.recovery = false ∧
        chipOn d = true ∧ e.flag F.GLB_PLACE_LOCK = false) ∧
    (∃ (s u d : State) (at_ : Nat), u = s.advance at_ ∧ d = { u with pin := { u.pin with refclk := false, alive := false } } ∧
        chipOn u = false) ∧
    (∃ (s u d : State) (at_ : Nat), u = s.advance at_ ∧ d = { u with pin := { u.pin with refclk := false, alive := false } } ∧
        chipOn u = true) ∧
    (∃ (s u d : State) (at_ : Nat), u = s.advance at_ ∧ d = { u with pin := { u.pin with refclk := true } } ∧
        u.pin.refclk = true) ∧
    (∃ (s u d : State) (at_ : Nat), u = s.advance at_ ∧ d = { u with pin := { u.pin with refclk := true } } ∧
        u.pin.refclk = false ∧ u.pin.waitClk = true) ∧
    (∃ (s u d : State) (at_ : Nat), u = s.advance at_ ∧ d = { u with pin := { u.pin with refclk := true } } ∧
        u.pin.refclk = false ∧ u.pin.waitClk = false ∧ chipOn d = false) ∧
    (∃ (s u d : State) (at_ : Nat), u = s.advance at_ ∧ d = { u with pin := { u.pin with refclk := true } } ∧
        u.pin.refclk = false ∧ u.pin.waitClk = false ∧ chipOn d = true) :=
  ⟨⟨r, _, 0, rfl⟩,
  ⟨r, _, 100, 0, rfl, by decide +kernel⟩,
  ⟨r, _, 0, 0, rfl, by decide +kernel⟩,
  ⟨(pins fun p => { p with bootDue := false }), _, _, 0, _, rfl, rfl, rfl, by decide +kernel⟩,
  ⟨r, _, _, ev0, 0, _, rfl, rfl, rfl, by decide +kernel⟩,
  ⟨({ r with pin := { r.pin with refclk := false, waitClk := true } }), _, _, ev0, 0, _, rfl, rfl, rfl, by decide +kernel⟩,
  ⟨r, _, _, 0, 0, rfl, rfl, by decide +kernel⟩,
  ⟨({ r with pin := { r.pin with refclk := false, waitClk := true } }), _, _, 1000, 0, rfl, rfl, by decide +kernel⟩,
  ⟨r, _, _, 1000, 0, rfl, rfl, by decide +kernel⟩,
  ⟨r, _, _, _, ev0, 0, rfl, rfl, rfl, by decide +kernel⟩,
  ⟨(pins fun p => { p with recovery := false, perst := false }), _, _, _, ev0, 0, rfl, rfl, rfl, by decide +kernel⟩,
  ⟨(wrs (pins fun p => { p with recovery := false }) [(F.GLB_PLACE_LOCK, 0, 1)]), _, _, _, ev0, 0, rfl, rfl, rfl,
      by decide +kernel⟩,
  ⟨({ r with pin := { r.pin with recovery := false } }), _, _, _, ev0, 0, rfl, rfl, rfl, by decide +kernel⟩,
  ⟨({ r with pin := { r.pin with refclk := false, waitClk := true } }), _, _, 0, rfl, rfl, by decide +kernel⟩,
  ⟨r, _, _, 0, rfl, rfl, by decide +kernel⟩,
  ⟨r, _, _, 0, rfl, rfl, by decide +kernel⟩,
  ⟨({ r with pin := { r.pin with refclk := false, waitClk := true } }), _, _, 0, rfl, rfl, by decide +kernel⟩,
  ⟨(pins fun p => { p with refclk := false, waitClk := false, supplies := false }), _, _, 0, rfl, rfl, by decide +kernel⟩,
  ⟨(pins fun p => { p with refclk := false, waitClk := false }), _, _, 0, rfl, rfl, by decide +kernel⟩⟩

theorem witness_GestaWatch :
    (∃ (m : Master) (c : Nat), m.ok = true ∧ c < 2) ∧
    (∃ (s u : State) (c at_ : Nat), u = s.advance at_ ∧ chipOn u = true ∧ c < 2) ∧
    (∃ (s : State) (m : Master), takesWrite s m .GMC_CTRL 0 0 = true) ∧
    (∃ (s : State) (m : Master) (k : Nat), m.ok = true ∧ k < 2 ∧ (mayWrite s m = true ∨ m = .gesta k ∧ chipOn s = true ∧
        isSafe s = false)) ∧
    (∃ (s : State) (m : Master) (k : Nat), m.ok = true ∧ k < 2 ∧ mayWrite s m = false ∧ m ≠ .gesta k) ∧
    (∃ (s u : State) (k at_ : Nat), u = s.advance at_ ∧ chipOn u = true ∧ k < 2 ∧
        (u.rd0 F.GMC_WDT_PERIOD = 0 ∨ u.now < kickOf u k + 1000000 * u.rd0 F.GMC_WDT_PERIOD ∨ (coreRole u k < 2 ∧
        (u.rd0 F.GMC_STAT_STAGE ≠ 8 ∨ coreRole u k ≠ 0)))) ∧
    (∃ (s u : State) (k at_ : Nat), u = s.advance at_ ∧ chipOn u = true ∧ k < 2 ∧ u.rd0 F.GMC_WDT_PERIOD ≠ 0 ∧
        2 ≤ coreRole u k ∧ kickOf u k + 1000000 * u.rd0 F.GMC_WDT_PERIOD ≤ u.now ∧ 2 ≤ coreRole u (1 - k)) ∧
    (∃ (s u : State) (k at_ : Nat), u = s.advance at_ ∧ chipOn u = true ∧ k < 2 ∧ u.rd0 F.GMC_WDT_PERIOD ≠ 0 ∧
        2 ≤ coreRole u k ∧ kickOf u k + 1000000 * u.rd0 F.GMC_WDT_PERIOD ≤ u.now ∧ coreRole u (1 - k) < 2) ∧
    (∃ (s c : State) (m : Master), c = wrote s m .GMC_CTRL 0 0 ∧ takesWrite s m .GMC_CTRL 0 0 = true) ∧
    (∃ (s u : State) (at_ : Nat) (due : Prop), u = s.advance at_ ∧ (due ↔ u.flag F.GMC_STAT_TRIAL = true ∧
        u.rd0 F.GMC_STAT_STAGE = 8 ∧ 2 ≤ coreRole u 0 ∧ 2 ≤ coreRole u 1 ∧
        u.gmc.runSince.any (fun t => decide (t + 60000000000 ≤ u.now)) = true) ∧ chipOn u = true ∧ ¬ due) ∧
    (∃ (s u : State) (at_ : Nat) (due : Prop), u = s.advance at_ ∧ (due ↔ u.flag F.GMC_STAT_TRIAL = true ∧
        u.rd0 F.GMC_STAT_STAGE = 8 ∧ 2 ≤ coreRole u 0 ∧ 2 ≤ coreRole u 1 ∧
        u.gmc.runSince.any (fun t => decide (t + 60000000000 ≤ u.now)) = true) ∧ chipOn u = true ∧ due ∧
        bcTrial (bootControl u) = 1 ∧ bcPrefer (bootControl u) = runSlot u) ∧
    (∃ (s u : State) (at_ : Nat) (due : Prop), u = s.advance at_ ∧ (due ↔ u.flag F.GMC_STAT_TRIAL = true ∧
        u.rd0 F.GMC_STAT_STAGE = 8 ∧ 2 ≤ coreRole u 0 ∧ 2 ≤ coreRole u 1 ∧
        u.gmc.runSince.any (fun t => decide (t + 60000000000 ≤ u.now)) = true) ∧ chipOn u = true ∧ due ∧
        (bcTrial (bootControl u) ≠ 1 ∨ bcPrefer (bootControl u) ≠ runSlot u)) ∧
    (∃ (s u : State) (at_ : Nat), u = s.advance at_ ∧ chipOn u = true ∧
        u.gmc.upd.lock.any (fun l => decide (l.2 + 60000000000 ≤ u.now)) = true) ∧
    (∃ (s u : State) (at_ : Nat), u = s.advance at_ ∧ chipOn u = true ∧
        u.gmc.upd.lock.any (fun l => decide (l.2 + 60000000000 ≤ u.now)) = false) ∧
    (∃ (s u : State) (at_ t0 : Nat) (text : String), u = s.advance at_ ∧ chipOn u = true ∧ u.gmc.line = some (text, t0) ∧
        (u.rd0 F.GMC_STAT_STAGE = 0x0E ∨ u.rd0 F.GMC_STAT_STAGE = 0x0F) ∧ t0 + 10000000000 ≤ u.now) ∧
    (∃ (s u : State) (at_ t0 : Nat) (text : String), u = s.advance at_ ∧ chipOn u = true ∧ u.gmc.line = some (text, t0) ∧
        (u.rd0 F.GMC_STAT_STAGE ≠ 0x0E ∧ u.rd0 F.GMC_STAT_STAGE ≠ 0x0F ∨ u.now < t0 + 10000000000)) :=
  ⟨⟨.host, 0, by decide +kernel⟩,
  ⟨r, _, 0, 0, rfl, by decide +kernel⟩,
  ⟨r, .host, by decide +kernel⟩,
  ⟨r, .host, 0, by decide +kernel⟩,
  ⟨(late gesta), (.gesta 1), 0, by decide +kernel⟩,
  ⟨r, _, 0, 0, rfl, by decide +kernel⟩,
  ⟨(late gesta), _, 0, 0, rfl, by decide +kernel⟩,
  ⟨(wrs (late gesta) [(F.GMC_STAT_ROLE1, 0, 0), (F.GMC_WDT_PERIOD, 0, 100)]), _, 0, 0, rfl, by decide +kernel⟩,
  ⟨r, _, .host, rfl, by decide +kernel⟩,
  ⟨(wrs (late gesta) [(F.GMC_STAT_ROLE1, 0, 0), (F.GMC_WDT_PERIOD, 0, 100)]), _, 0, _, rfl, Iff.rfl, by decide +kernel⟩,
  ⟨(wrs ({ late (bcWrite gesta 1 3 0) with gmc := { (bcWrite gesta 1 3 0).gmc with runSince := some 0 } }) [(F.GMC_STAT_TRIAL,
      0, 1)]), _, 0, _, rfl, Iff.rfl, by decide +kernel⟩,
  ⟨(wrs ({ late gesta with gmc := { gesta.gmc with runSince := some 0 } }) [(F.GMC_STAT_TRIAL, 0, 1)]), _, 0, _, rfl, Iff.rfl,
      by decide +kernel⟩,
  ⟨(late (updating 1)), _, 0, rfl, by decide +kernel⟩,
  ⟨r, _, 0, rfl, by decide +kernel⟩,
  ⟨(wrs ({ late r with gmc := { r.gmc with line := some ("", 0) } }) [(F.GMC_STAT_STAGE, 0, 15)]), _, 0, 0, (""), rfl,
      by decide +kernel⟩,
  ⟨({ late r with gmc := { r.gmc with line := some ("", 1000000000000) } }), _, 0, 1000000000000, (""), rfl,
      by decide +kernel⟩⟩

theorem witness_MctpMessages :
    (∃ (s u : State) (at_ val : Nat), u = s.advance at_ ∧ chipOn u = true ∧ val < 2 ^ 32) ∧
    (∃ (s u : State) (pcie : Bool) (val at_ : Nat), u = s.advance at_ ∧ chipOn u = true ∧ mctpEid u pcie = 0 ∧ val < 2 ^ 32) ∧
    (∃ (s u : State) (pcie : Bool) (width len off val cc at_ : Nat), u = s.advance at_ ∧
        cc = (if width ≠ 4 then 1 else if len ≠ 10 then 2 else if off ≥ 0x4000000 ∨ off % 4 ≠ 0 then 3 else 0) ∧
        chipOn u = true ∧ mctpEid u pcie ≠ 0 ∧ val < 2 ^ 32 ∧ cc ≠ 0) ∧
    (∃ (s u : State) (pcie : Bool) (width len off val cc at_ : Nat), u = s.advance at_ ∧
        cc = (if width ≠ 4 then 1 else if len ≠ 14 then 2 else if off ≥ 0x4000000 ∨ off % 4 ≠ 0 then 3 else 0) ∧
        chipOn u = true ∧ mctpEid u pcie ≠ 0 ∧ val < 2 ^ 32 ∧ cc ≠ 0) ∧
    (∃ (s u d : State) (pcie : Bool) (off at_ : Nat), u = s.advance at_ ∧
        d = countReg (softCheck u off) (viaMaster pcie) false off ∧ chipOn u = true ∧ mctpEid u pcie ≠ 0 ∧ off < 0x4000000 ∧
        off % 4 = 0 ∧ mustHold u off = false) ∧
    (∃ (s u d : State) (pcie : Bool) (off at_ : Nat), u = s.advance at_ ∧
        d = countReg (softCheck u off) (viaMaster pcie) false off ∧ chipOn u = true ∧ mctpEid u pcie ≠ 0 ∧ off < 0x4000000 ∧
        off % 4 = 0 ∧ mustHold u off = true) ∧
    (∃ (s u d : State) (pcie : Bool) (off val at_ : Nat) (ev : BootEv), u = s.advance at_ ∧
        d = busWrite ev { u with lastFault := none } (viaMaster pcie) off val 15 ∧ chipOn u = true ∧ mctpEid u pcie ≠ 0 ∧
        off < 0x4000000 ∧ off % 4 = 0 ∧ val < 2 ^ 32 ∧ (mayWrite u (viaMaster pcie) = false ∨ mustHold u off = false)) ∧
    (∃ (s u d : State) (pcie : Bool) (off val at_ : Nat) (ev : BootEv), u = s.advance at_ ∧
        d = busWrite ev { u with lastFault := none } (viaMaster pcie) off val 15 ∧ chipOn u = true ∧ mctpEid u pcie ≠ 0 ∧
        off < 0x4000000 ∧ off % 4 = 0 ∧ val < 2 ^ 32 ∧ mayWrite u (viaMaster pcie) = true ∧ mustHold u off = true) ∧
    (∃ (s u : State) (pcie : Bool) (cmd at_ : Nat), u = s.advance at_ ∧ chipOn u = true ∧ mctpEid u pcie ≠ 0 ∧ cmd < 256 ∧
        (cmd = 1 ∨ cmd = 2)) ∧
    (∃ (s u : State) (pcie : Bool) (cmd at_ : Nat), u = s.advance at_ ∧ chipOn u = true ∧ mctpEid u pcie ≠ 0 ∧ cmd < 256 ∧
        cmd ≠ 1 ∧ cmd ≠ 2) ∧
    (∃ (s u : State) (eid at_ : Nat), u = s.advance at_ ∧ chipOn u = true ∧ eid < 256 ∧ (eid = 0 ∨ eid = 255)) ∧
    (∃ (s u : State) (eid at_ : Nat), u = s.advance at_ ∧ chipOn u = true ∧ eid < 256 ∧ eid ≠ 0 ∧ eid ≠ 255) ∧
    (∃ (s u : State) (at_ : Nat), u = s.advance at_ ∧ chipOn u = true) :=
  ⟨⟨r, _, 0, 0, rfl, by decide +kernel⟩,
  ⟨r, _, false, 0, 0, rfl, by decide +kernel⟩,
  ⟨owned, _, false, 0, 0, 0, 0, _, 0, rfl, rfl, by decide +kernel⟩,
  ⟨owned, _, false, 0, 0, 0, 0, _, 0, rfl, rfl, by decide +kernel⟩,
  ⟨owned, _, _, false, 0, 0, rfl, rfl, by decide +kernel⟩,
  ⟨(warm owned), _, _, false, (regOff .SWC_RESEQ_TO 0), 0, rfl, rfl, by decide +kernel⟩,
  ⟨owned, _, _, false, 0, 0, 0, ev0, rfl, rfl, by decide +kernel⟩,
  ⟨(warm owned), _, _, false, (regOff .SWC_RESEQ_TO 0), 0, 0, ev0, rfl, rfl, by decide +kernel⟩,
  ⟨owned, _, false, 1, 0, rfl, by decide +kernel⟩,
  ⟨owned, _, false, 0, 0, rfl, by decide +kernel⟩,
  ⟨(warm owned), _, 0, 0, rfl, by decide +kernel⟩,
  ⟨r, _, 254, 0, rfl, by decide +kernel⟩,
  ⟨r, _, 0, rfl, by decide +kernel⟩⟩

theorem witness_I3cTarget :
    (∃ (s u : State) (at_ : Nat), u = s.advance at_ ∧ chipOn u = true) ∧
    (∃ (s u : State) (addr at_ : Nat), u = s.advance at_ ∧ chipOn u = true ∧ addr < 128 ∧ u.bus.i3cAddr.isSome = true) ∧
    (∃ (s u : State) (addr at_ v : Nat), u = s.advance at_ ∧ u.bus.i3cPid = some v ∧ chipOn u = true ∧ addr < 128 ∧
        u.bus.i3cAddr = none) ∧
    (∃ (s u : State) (addr at_ : Nat), u = s.advance at_ ∧ chipOn u = true ∧ addr < 128 ∧ u.bus.i3cAddr = none ∧
        u.bus.i3cPid = none) ∧
    (∃ (s u : State) (at_ mask act : Nat), u = s.advance at_ ∧ chipOn u = true ∧ mask < 256 ∧ act < 256) ∧
    (∃ (s u : State) (at_ : Nat), u = s.advance at_ ∧ chipOn u = true ∧ u.bus.i3cAddr = none) ∧
    (∃ (s u : State) (at_ addr : Nat), u = s.advance at_ ∧ chipOn u = true ∧ u.bus.i3cAddr.isSome = true ∧ addr < 128) ∧
    (∃ (s u : State) (at_ : Nat), u = s.advance at_ ∧ chipOn u = true ∧ u.bus.i3cAddr.isSome = true) :=
  ⟨⟨r, _, 0, rfl, by decide +kernel⟩,
  ⟨owned, _, 0, 0, rfl, by decide +kernel⟩,
  ⟨({ owned with bus := { owned.bus with i3cAddr := none, i3cPid := some 1 } }), _, 0, 0, _, rfl,
      (Option.some_get (by decide +kernel)).symm, by decide +kernel⟩,
  ⟨r, _, 0, 0, rfl, by decide +kernel⟩,
  ⟨r, _, 0, 0, 0, rfl, by decide +kernel⟩,
  ⟨r, _, 0, rfl, by decide +kernel⟩,
  ⟨owned, _, 0, 0, rfl, by decide +kernel⟩,
  ⟨owned, _, 0, rfl, by decide +kernel⟩⟩

theorem witness_SpdmAndDoe :
    (∃ (s u : State) (at_ way : Nat), u = s.advance at_ ∧ chipOn u = true ∧ way < 3) ∧
    (∃ (s u : State) (at_ : Nat), u = s.advance at_ ∧ chipOn u = true ∧ gestaServes u = false) ∧
    (∃ (s u : State) (at_ : Nat), u = s.advance at_ ∧ chipOn u = true ∧ gestaServes u = true) ∧
    (∃ (s u : State) (at_ ver : Nat), u = s.advance at_ ∧ chipOn u = true ∧ gestaServes u = true ∧
        (ver = 0x12 ∨ ver = 0x13)) ∧
    (∃ (s u : State) (at_ ver : Nat), u = s.advance at_ ∧ chipOn u = true ∧ gestaServes u = true ∧ ver ≠ 0x12 ∧ ver ≠ 0x13) ∧
    (∃ (s u : State) (at_ slot : Nat) (body : List (List Byte)), u = s.advance at_ ∧ body = [Config.sha384 (spdmChain u),
        spdmNonce u, Config.sha384 ((measureBlocks u).flatMap id)] ∧ chipOn u = true ∧ gestaServes u = true ∧ slot ≠ 0) ∧
    (∃ (s u : State) (at_ slot : Nat) (body : List (List Byte)), u = s.advance at_ ∧ body = [Config.sha384 (spdmChain u),
        spdmNonce u, Config.sha384 ((measureBlocks u).flatMap id)] ∧ chipOn u = true ∧ gestaServes u = true ∧ slot = 0) ∧
    (∃ (s u : State) (at_ i : Nat) (bs : List (List Byte)), u = s.advance at_ ∧
        bs = (if i = 0xFF then measureBlocks u else [(measureBlocks u).getD (i - 1) []]) ∧ chipOn u = true ∧
        gestaServes u = true ∧ (i = 0 ∨ 9 < i ∧ i ≠ 0xFF)) ∧
    (∃ (s u : State) (at_ i : Nat) (bs : List (List Byte)), u = s.advance at_ ∧
        bs = (if i = 0xFF then measureBlocks u else [(measureBlocks u).getD (i - 1) []]) ∧ chipOn u = true ∧
        gestaServes u = true ∧ (1 ≤ i ∧ i ≤ 9 ∨ i = 0xFF)) ∧
    (∃ (s u : State) (at_ way : Nat), u = s.advance at_ ∧ chipOn u = true ∧ gestaServes u = true ∧ (way = 1 ∨ way = 2) ∧
        mctpEid u (way == 1) ≠ 0) :=
  ⟨⟨r, _, 0, 1, rfl, by decide +kernel⟩,
  ⟨(late r), _, 0, rfl, by decide +kernel⟩,
  ⟨owned, _, 0, rfl, by decide +kernel⟩,
  ⟨owned, _, 0, 0x12, rfl, by decide +kernel⟩,
  ⟨owned, _, 0, 0, rfl, by decide +kernel⟩,
  ⟨owned, _, 0, 1, _, rfl, rfl, by decide +kernel⟩,
  ⟨owned, _, 0, 0, _, rfl, rfl, by decide +kernel⟩,
  ⟨owned, _, 0, 0, _, rfl, rfl, by decide +kernel⟩,
  ⟨owned, _, 0, 9, _, rfl, rfl, by decide +kernel⟩,
  ⟨owned, _, 0, 1, rfl, by decide +kernel⟩⟩

theorem witness_PldmUpdate :
    (∃ (s u : State) (at_ : Nat), u = s.advance at_ ∧ chipOn u = true) ∧
    (∃ (s u d : State) (pcie : Bool) (at_ n : Nat), u = s.advance at_ ∧ d = takeLock u 1 ∧ n = u.gmc.upd.step ∧
        chipOn u = true ∧ gestaServes u = true ∧ mctpEid u pcie ≠ 0 ∧ u.gmc.upd.lock = none) ∧
    (∃ (s u d : State) (pcie : Bool) (at_ n : Nat), u = s.advance at_ ∧ d = takeLock u 1 ∧ n = u.gmc.upd.step ∧
        chipOn u = true ∧ gestaServes u = true ∧ mctpEid u pcie ≠ 0 ∧ u.gmc.upd.lock.isSome = true) ∧
    (∃ (s u d : State) (pcie : Bool) (at_ n c : Nat), u = s.advance at_ ∧ d = takeLock u 1 ∧ n = u.gmc.upd.step ∧
        chipOn u = true ∧ gestaServes u = true ∧ mctpEid u pcie ≠ 0 ∧ lockedBy u 1 = true ∧ n = 1 ∧ c = 1) ∧
    (∃ (s u d : State) (pcie : Bool) (at_ n c : Nat), u = s.advance at_ ∧ d = takeLock u 1 ∧ n = u.gmc.upd.step ∧
        chipOn u = true ∧ gestaServes u = true ∧ mctpEid u pcie ≠ 0 ∧ (lockedBy u 1 = false ∨ n ≠ 1 ∨ c ≠ 1)) ∧
    (∃ (s u d : State) (pcie : Bool) (at_ n c : Nat), u = s.advance at_ ∧ d = takeLock u 1 ∧ n = u.gmc.upd.step ∧
        chipOn u = true ∧ gestaServes u = true ∧ mctpEid u pcie ≠ 0 ∧ lockedBy u 1 = true ∧ n = 2 ∧ c = 1) ∧
    (∃ (s u d : State) (pcie : Bool) (at_ n c : Nat), u = s.advance at_ ∧ d = takeLock u 1 ∧ n = u.gmc.upd.step ∧
        chipOn u = true ∧ gestaServes u = true ∧ mctpEid u pcie ≠ 0 ∧ (lockedBy u 1 = false ∨ n ≠ 2 ∨ c ≠ 1)) ∧
    (∃ (s u d : State) (pcie : Bool) (at_ n off : Nat) (data : List Byte), u = s.advance at_ ∧ d = takeLock u 1 ∧
        n = u.gmc.upd.step ∧ chipOn u = true ∧ gestaServes u = true ∧ mctpEid u pcie ≠ 0 ∧ lockedBy u 1 = true ∧ n = 3 ∧
        off + data.length ≤ 0x1F00000) ∧
    (∃ (s u d : State) (pcie : Bool) (at_ n off : Nat) (data : List Byte), u = s.advance at_ ∧ d = takeLock u 1 ∧
        n = u.gmc.upd.step ∧ chipOn u = true ∧ gestaServes u = true ∧ mctpEid u pcie ≠ 0 ∧
        (lockedBy u 1 = false ∨ n ≠ 3 ∨ 0x1F00000 < off + data.length)) ∧
    (∃ (s u d : State) (pcie : Bool) (at_ n : Nat), u = s.advance at_ ∧ d = takeLock u 1 ∧ n = u.gmc.upd.step ∧
        chipOn u = true ∧ gestaServes u = true ∧ mctpEid u pcie ≠ 0 ∧ lockedBy u 1 = true ∧ n = 3) ∧
    (∃ (s u d : State) (pcie : Bool) (at_ n : Nat), u = s.advance at_ ∧ d = takeLock u 1 ∧ n = u.gmc.upd.step ∧
        chipOn u = true ∧ gestaServes u = true ∧ mctpEid u pcie ≠ 0 ∧ (lockedBy u 1 = false ∨ n ≠ 3)) ∧
    (∃ (s u d : State) (pcie : Bool) (at_ n : Nat), u = s.advance at_ ∧ d = takeLock u 1 ∧ n = u.gmc.upd.step ∧
        chipOn u = true ∧ gestaServes u = true ∧ mctpEid u pcie ≠ 0 ∧ lockedBy u 1 = true ∧ n = 4) ∧
    (∃ (s u d : State) (pcie : Bool) (at_ n : Nat), u = s.advance at_ ∧ d = takeLock u 1 ∧ n = u.gmc.upd.step ∧
        chipOn u = true ∧ gestaServes u = true ∧ mctpEid u pcie ≠ 0 ∧ (lockedBy u 1 = false ∨ n ≠ 4)) ∧
    (∃ (s u d : State) (pcie : Bool) (at_ n : Nat) (e : State), u = s.advance at_ ∧ d = takeLock u 1 ∧ n = u.gmc.upd.step ∧
        e = (pldmSay (modGmc (freeLock u) fun g => { g with ucodePending := true }) pcie 0x1A 0).emit .ucodePending ∧
        chipOn u = true ∧ gestaServes u = true ∧ mctpEid u pcie ≠ 0 ∧ lockedBy u 1 = true ∧ n = 5) ∧
    (∃ (s u d : State) (pcie : Bool) (at_ n : Nat) (e : State), u = s.advance at_ ∧ d = takeLock u 1 ∧ n = u.gmc.upd.step ∧
        e = (pldmSay (modGmc (freeLock u) fun g => { g with ucodePending := true }) pcie 0x1A 0).emit .ucodePending ∧
        chipOn u = true ∧ gestaServes u = true ∧ mctpEid u pcie ≠ 0 ∧ (lockedBy u 1 = false ∨ n ≠ 5)) :=
  ⟨⟨r, _, 0, rfl, by decide +kernel⟩,
  ⟨owned, _, _, false, 0, _, rfl, rfl, rfl, by decide +kernel⟩,
  ⟨(updating 1), _, _, false, 0, _, rfl, rfl, rfl, by decide +kernel⟩,
  ⟨(updating 1), _, _, false, 0, _, 1, rfl, rfl, rfl, by decide +kernel⟩,
  ⟨owned, _, _, false, 0, _, 0, rfl, rfl, rfl, by decide +kernel⟩,
  ⟨(updating 2), _, _, false, 0, _, 1, rfl, rfl, rfl, by decide +kernel⟩,
  ⟨owned, _, _, false, 0, _, 0, rfl, rfl, rfl, by decide +kernel⟩,
  ⟨(updating 3), _, _, false, 0, _, 0, ([]), rfl, rfl, rfl, by decide +kernel⟩,
  ⟨owned, _, _, false, 0, _, 0, ([]), rfl, rfl, rfl, by decide +kernel⟩,
  ⟨(updating 3), _, _, false, 0, _, rfl, rfl, rfl, by decide +kernel⟩,
  ⟨owned, _, _, false, 0, _, rfl, rfl, rfl, by decide +kernel⟩,
  ⟨(updating 4), _, _, false, 0, _, rfl, rfl, rfl, by decide +kernel⟩,
  ⟨owned, _, _, false, 0, _, rfl, rfl, rfl, by decide +kernel⟩,
  ⟨(updating 5), _, _, false, 0, _, _, rfl, rfl, rfl, rfl, by decide +kernel⟩,
  ⟨owned, _, _, false, 0, _, _, rfl, rfl, rfl, rfl, by decide +kernel⟩⟩

theorem witness_Mailboxes :
    (∃ (s u : State) (mb at_ : Nat), u = s.advance at_ ∧ chipOn u = true ∧ mb < 2) ∧
    (∃ (s u : State) (mb at_ : Nat), u = s.advance at_ ∧ chipOn u = true ∧ mb < 2 ∧
        (u.gmc.mbox.contains mb = false ∨ bits (mbWord u mb 0) 24 8 = 0)) ∧
    (∃ (s u : State) (mb at_ cmd len a n : Nat), u = s.advance at_ ∧ cmd = bits (mbWord u mb 0) 24 8 ∧ len = mbLen u mb ∧
        a = mbArg u mb 0 ∧ n = mbArg u mb 1 ∧ chipOn u = true ∧ gestaServes u = true ∧ mb < 2 ∧
        u.gmc.mbox.contains mb = true ∧ cmd = 1 ∧ len = 0) ∧
    (∃ (s u : State) (mb at_ cmd len a n : Nat), u = s.advance at_ ∧ cmd = bits (mbWord u mb 0) 24 8 ∧ len = mbLen u mb ∧
        a = mbArg u mb 0 ∧ n = mbArg u mb 1 ∧ chipOn u = true ∧ gestaServes u = true ∧ mb < 2 ∧
        u.gmc.mbox.contains mb = true ∧ len ≠ 0 ∧ cmd = 1) ∧
    (∃ (s u : State) (mb at_ cmd len a n : Nat), u = s.advance at_ ∧ cmd = bits (mbWord u mb 0) 24 8 ∧ len = mbLen u mb ∧
        a = mbArg u mb 0 ∧ n = mbArg u mb 1 ∧ chipOn u = true ∧ gestaServes u = true ∧ mb < 2 ∧
        u.gmc.mbox.contains mb = true ∧ len ≠ 0 ∧ cmd = 2) ∧
    (∃ (s u : State) (mb at_ cmd len a n : Nat), u = s.advance at_ ∧ cmd = bits (mbWord u mb 0) 24 8 ∧ len = mbLen u mb ∧
        a = mbArg u mb 0 ∧ n = mbArg u mb 1 ∧ chipOn u = true ∧ gestaServes u = true ∧ mb < 2 ∧
        u.gmc.mbox.contains mb = true ∧ len ≠ 0 ∧ cmd = 3) ∧
    (∃ (s u : State) (mb at_ cmd len a n : Nat), u = s.advance at_ ∧ cmd = bits (mbWord u mb 0) 24 8 ∧ len = mbLen u mb ∧
        a = mbArg u mb 0 ∧ n = mbArg u mb 1 ∧ chipOn u = true ∧ gestaServes u = true ∧ mb < 2 ∧
        u.gmc.mbox.contains mb = true ∧ len ≠ 0 ∧ cmd = 5) ∧
    (∃ (s u : State) (mb at_ cmd len a n : Nat), u = s.advance at_ ∧ cmd = bits (mbWord u mb 0) 24 8 ∧ len = mbLen u mb ∧
        a = mbArg u mb 0 ∧ n = mbArg u mb 1 ∧ chipOn u = true ∧ gestaServes u = true ∧ mb < 2 ∧
        u.gmc.mbox.contains mb = true ∧ len ≠ 0 ∧ cmd = 6) ∧
    (∃ (s u : State) (mb at_ cmd len a n : Nat), u = s.advance at_ ∧ cmd = bits (mbWord u mb 0) 24 8 ∧ len = mbLen u mb ∧
        a = mbArg u mb 0 ∧ n = mbArg u mb 1 ∧ chipOn u = true ∧ gestaServes u = true ∧ mb < 2 ∧
        u.gmc.mbox.contains mb = true ∧ len ≠ 0 ∧ cmd = 7) ∧
    (∃ (s u : State) (mb at_ cmd len a n : Nat), u = s.advance at_ ∧ cmd = bits (mbWord u mb 0) 24 8 ∧ len = mbLen u mb ∧
        a = mbArg u mb 0 ∧ n = mbArg u mb 1 ∧ chipOn u = true ∧ gestaServes u = true ∧ mb < 2 ∧
        u.gmc.mbox.contains mb = true ∧ len ≠ 0 ∧ cmd = 8) ∧
    (∃ (s u : State) (mb at_ cmd len a n : Nat), u = s.advance at_ ∧ cmd = bits (mbWord u mb 0) 24 8 ∧ len = mbLen u mb ∧
        a = mbArg u mb 0 ∧ n = mbArg u mb 1 ∧ chipOn u = true ∧ gestaServes u = true ∧ mb < 2 ∧
        u.gmc.mbox.contains mb = true ∧ cmd = 2 ∧ len = 0 ∧ (a % 4 ≠ 0 ∨ n % 4 ≠ 0 ∨ 4064 < n)) ∧
    (∃ (s u : State) (mb at_ cmd len a n : Nat), u = s.advance at_ ∧ cmd = bits (mbWord u mb 0) 24 8 ∧ len = mbLen u mb ∧
        a = mbArg u mb 0 ∧ n = mbArg u mb 1 ∧ chipOn u = true ∧ gestaServes u = true ∧ mb < 2 ∧
        u.gmc.mbox.contains mb = true ∧ cmd = 2 ∧ len = 0 ∧ a % 4 = 0 ∧ n % 4 = 0 ∧ n ≤ 4064 ∧
        (0x3F00000 ≤ a ∨ 0x3F00000 < a + n)) ∧
    (∃ (s u : State) (mb at_ cmd len a n : Nat), u = s.advance at_ ∧ cmd = bits (mbWord u mb 0) 24 8 ∧ len = mbLen u mb ∧
        a = mbArg u mb 0 ∧ n = mbArg u mb 1 ∧ chipOn u = true ∧ gestaServes u = true ∧ mb < 2 ∧
        u.gmc.mbox.contains mb = true ∧ cmd = 2 ∧ len = 0 ∧ a % 4 = 0 ∧ n % 4 = 0 ∧ n ≤ 4064 ∧ a < 0x3F00000 ∧
        a + n ≤ 0x3F00000) ∧
    (∃ (s u : State) (mb at_ cmd len a n : Nat), u = s.advance at_ ∧ cmd = bits (mbWord u mb 0) 24 8 ∧ len = mbLen u mb ∧
        a = mbArg u mb 0 ∧ n = mbArg u mb 1 ∧ chipOn u = true ∧ gestaServes u = true ∧ mb < 2 ∧
        u.gmc.mbox.contains mb = true ∧ cmd = 3 ∧ len = 0 ∧ (a % 65536 ≠ 0 ∨ n % 65536 ≠ 0)) ∧
    (∃ (s u : State) (mb at_ cmd len a n : Nat), u = s.advance at_ ∧ cmd = bits (mbWord u mb 0) 24 8 ∧ len = mbLen u mb ∧
        a = mbArg u mb 0 ∧ n = mbArg u mb 1 ∧ chipOn u = true ∧ gestaServes u = true ∧ mb < 2 ∧
        u.gmc.mbox.contains mb = true ∧ cmd = 3 ∧ len = 0 ∧ a % 65536 = 0 ∧ n % 65536 = 0 ∧ lockedBy u 1 = true) ∧
    (∃ (s u : State) (mb at_ cmd len a n : Nat), u = s.advance at_ ∧ cmd = bits (mbWord u mb 0) 24 8 ∧ len = mbLen u mb ∧
        a = mbArg u mb 0 ∧ n = mbArg u mb 1 ∧ chipOn u = true ∧ gestaServes u = true ∧ mb < 2 ∧
        u.gmc.mbox.contains mb = true ∧ cmd = 3 ∧ len = 0 ∧ a % 65536 = 0 ∧ n % 65536 = 0 ∧ lockedBy u 1 = false ∧
        flashRefused u a n = true) ∧
    (∃ (s u d : State) (mb at_ cmd len a n : Nat), u = s.advance at_ ∧ cmd = bits (mbWord u mb 0) 24 8 ∧ len = mbLen u mb ∧
        a = mbArg u mb 0 ∧ n = mbArg u mb 1 ∧ d = freeLog (takeLock u 0) a n ∧ chipOn u = true ∧ gestaServes u = true ∧
        mb < 2 ∧ u.gmc.mbox.contains mb = true ∧ cmd = 3 ∧ len = 0 ∧ a % 65536 = 0 ∧ n % 65536 = 0 ∧ lockedBy u 1 = false ∧
        flashRefused u a n = false) ∧
    (∃ (s u : State) (mb at_ cmd len a n : Nat), u = s.advance at_ ∧ cmd = bits (mbWord u mb 0) 24 8 ∧ len = mbLen u mb ∧
        a = mbArg u mb 0 ∧ n = mbArg u mb 1 ∧ chipOn u = true ∧ gestaServes u = true ∧ mb < 2 ∧
        u.gmc.mbox.contains mb = true ∧ cmd = 4 ∧ (a % 4 ≠ 0 ∨ len % 4 ≠ 0 ∨ 4064 < len)) ∧
    (∃ (s u : State) (mb at_ cmd len a n : Nat), u = s.advance at_ ∧ cmd = bits (mbWord u mb 0) 24 8 ∧ len = mbLen u mb ∧
        a = mbArg u mb 0 ∧ n = mbArg u mb 1 ∧ chipOn u = true ∧ gestaServes u = true ∧ mb < 2 ∧
        u.gmc.mbox.contains mb = true ∧ cmd = 4 ∧ a % 4 = 0 ∧ len % 4 = 0 ∧ len ≤ 4064 ∧ lockedBy u 1 = true) ∧
    (∃ (s u : State) (mb at_ cmd len a n : Nat), u = s.advance at_ ∧ cmd = bits (mbWord u mb 0) 24 8 ∧ len = mbLen u mb ∧
        a = mbArg u mb 0 ∧ n = mbArg u mb 1 ∧ chipOn u = true ∧ gestaServes u = true ∧ mb < 2 ∧
        u.gmc.mbox.contains mb = true ∧ cmd = 4 ∧ a % 4 = 0 ∧ len % 4 = 0 ∧ len ≤ 4064 ∧ lockedBy u 1 = false ∧
        flashRefused u a len = true) ∧
    (∃ (s u d : State) (mb at_ cmd len a n : Nat), u = s.advance at_ ∧ cmd = bits (mbWord u mb 0) 24 8 ∧ len = mbLen u mb ∧
        a = mbArg u mb 0 ∧ n = mbArg u mb 1 ∧ d = freeLog (takeLock u 0) a len ∧ chipOn u = true ∧ gestaServes u = true ∧
        mb < 2 ∧ u.gmc.mbox.contains mb = true ∧ cmd = 4 ∧ a % 4 = 0 ∧ len % 4 = 0 ∧ len ≤ 4064 ∧ lockedBy u 1 = false ∧
        flashRefused u a len = false) ∧
    (∃ (s u : State) (mb at_ cmd len a n : Nat), u = s.advance at_ ∧ cmd = bits (mbWord u mb 0) 24 8 ∧ len = mbLen u mb ∧
        a = mbArg u mb 0 ∧ n = mbArg u mb 1 ∧ chipOn u = true ∧ gestaServes u = true ∧ mb < 2 ∧
        u.gmc.mbox.contains mb = true ∧ cmd = 5 ∧ len = 0 ∧ 1 < a) ∧
    (∃ (s u : State) (mb at_ cmd len a n : Nat), u = s.advance at_ ∧ cmd = bits (mbWord u mb 0) 24 8 ∧ len = mbLen u mb ∧
        a = mbArg u mb 0 ∧ n = mbArg u mb 1 ∧ chipOn u = true ∧ gestaServes u = true ∧ mb < 2 ∧
        u.gmc.mbox.contains mb = true ∧ cmd = 5 ∧ len = 0 ∧ a ≤ 1) ∧
    (∃ (s u : State) (mb at_ cmd len a n : Nat), u = s.advance at_ ∧ cmd = bits (mbWord u mb 0) 24 8 ∧ len = mbLen u mb ∧
        a = mbArg u mb 0 ∧ n = mbArg u mb 1 ∧ chipOn u = true ∧ gestaServes u = true ∧ mb < 2 ∧
        u.gmc.mbox.contains mb = true ∧ cmd = 6 ∧ len = 0 ∧ 1 < a) ∧
    (∃ (s u : State) (mb at_ cmd len a n : Nat), u = s.advance at_ ∧ cmd = bits (mbWord u mb 0) 24 8 ∧ len = mbLen u mb ∧
        a = mbArg u mb 0 ∧ n = mbArg u mb 1 ∧ chipOn u = true ∧ gestaServes u = true ∧ mb < 2 ∧
        u.gmc.mbox.contains mb = true ∧ cmd = 6 ∧ len = 0 ∧ a ≤ 1 ∧ lockedBy u 1 = true) ∧
    (∃ (s u d : State) (mb at_ cmd len a n : Nat), u = s.advance at_ ∧ cmd = bits (mbWord u mb 0) 24 8 ∧ len = mbLen u mb ∧
        a = mbArg u mb 0 ∧ n = mbArg u mb 1 ∧ d = trialState (freeLock (bcWrite (slotJudge u a).2 (n % 2) (3 * (n % 2)) a)) ∧
        chipOn u = true ∧ gestaServes u = true ∧ mb < 2 ∧ u.gmc.mbox.contains mb = true ∧ cmd = 6 ∧ len = 0 ∧ a ≤ 1 ∧
        lockedBy u 1 = false) ∧
    (∃ (s u : State) (mb at_ cmd len a n : Nat), u = s.advance at_ ∧ cmd = bits (mbWord u mb 0) 24 8 ∧ len = mbLen u mb ∧
        a = mbArg u mb 0 ∧ n = mbArg u mb 1 ∧ chipOn u = true ∧ gestaServes u = true ∧ mb < 2 ∧
        u.gmc.mbox.contains mb = true ∧ cmd = 7 ∧ len = 0) ∧
    (∃ (s u : State) (mb at_ cmd len a n : Nat), u = s.advance at_ ∧ cmd = bits (mbWord u mb 0) 24 8 ∧ len = mbLen u mb ∧
        a = mbArg u mb 0 ∧ n = mbArg u mb 1 ∧ chipOn u = true ∧ gestaServes u = true ∧ mb < 2 ∧
        u.gmc.mbox.contains mb = true ∧ cmd = 8 ∧ len = 0 ∧ u.gmc.log[a]? = none) ∧
    (∃ (s u : State) (mb at_ cmd len a n : Nat) (e : List Byte), u = s.advance at_ ∧ cmd = bits (mbWord u mb 0) 24 8 ∧
        len = mbLen u mb ∧ a = mbArg u mb 0 ∧ n = mbArg u mb 1 ∧ u.gmc.log[a]? = some e ∧ chipOn u = true ∧
        gestaServes u = true ∧ mb < 2 ∧ u.gmc.mbox.contains mb = true ∧ cmd = 8 ∧ len = 0) ∧
    (∃ (s u : State) (mb at_ cmd len a n : Nat), u = s.advance at_ ∧ cmd = bits (mbWord u mb 0) 24 8 ∧ len = mbLen u mb ∧
        a = mbArg u mb 0 ∧ n = mbArg u mb 1 ∧ chipOn u = true ∧ gestaServes u = true ∧ mb < 2 ∧
        u.gmc.mbox.contains mb = true ∧ (cmd = 0 ∨ 8 < cmd)) ∧
    (∃ (s u : State) (mb at_ cmd len a n : Nat), u = s.advance at_ ∧ cmd = bits (mbWord u mb 0) 24 8 ∧ len = mbLen u mb ∧
        a = mbArg u mb 0 ∧ n = mbArg u mb 1 ∧ chipOn u = true ∧ gestaServes u = true ∧ mb < 2 ∧
        u.gmc.mbox.contains mb = true ∧ 1 ≤ cmd ∧ cmd ≤ 8) :=
  ⟨⟨r, _, 1, 0, rfl, by decide +kernel⟩,
  ⟨(boxed 1 4 0 0), _, 1, 0, rfl, by decide +kernel⟩,
  ⟨(boxed 1 0 0 0), _, 0, 0, _, _, _, _, rfl, rfl, rfl, rfl, rfl, by decide +kernel⟩,
  ⟨(boxed 1 4 0 0), _, 0, 0, _, _, _, _, rfl, rfl, rfl, rfl, rfl, by decide +kernel⟩,
  ⟨(boxed 2 4 0 0), _, 0, 0, _, _, _, _, rfl, rfl, rfl, rfl, rfl, by decide +kernel⟩,
  ⟨(boxed 3 4 0 0), _, 0, 0, _, _, _, _, rfl, rfl, rfl, rfl, rfl, by decide +kernel⟩,
  ⟨(boxed 5 4 0 0), _, 0, 0, _, _, _, _, rfl, rfl, rfl, rfl, rfl, by decide +kernel⟩,
  ⟨(boxed 6 4 0 0), _, 0, 0, _, _, _, _, rfl, rfl, rfl, rfl, rfl, by decide +kernel⟩,
  ⟨(boxed 7 4 0 0), _, 0, 0, _, _, _, _, rfl, rfl, rfl, rfl, rfl, by decide +kernel⟩,
  ⟨(boxed 8 4 0 0), _, 0, 0, _, _, _, _, rfl, rfl, rfl, rfl, rfl, by decide +kernel⟩,
  ⟨(boxed 2 0 1 0), _, 0, 0, _, _, _, _, rfl, rfl, rfl, rfl, rfl, by decide +kernel⟩,
  ⟨(boxed 2 0 0x3F00000 0), _, 0, 0, _, _, _, _, rfl, rfl, rfl, rfl, rfl, by decide +kernel⟩,
  ⟨(boxed 2 0 0 0), _, 0, 0, _, _, _, _, rfl, rfl, rfl, rfl, rfl, by decide +kernel⟩,
  ⟨(boxed 3 0 1 0), _, 0, 0, _, _, _, _, rfl, rfl, rfl, rfl, rfl, by decide +kernel⟩,
  ⟨(locked (boxed 3 0 0 0)), _, 0, 0, _, _, _, _, rfl, rfl, rfl, rfl, rfl, by decide +kernel⟩,
  ⟨(boxed 3 0 0x3F00000 0x10000), _, 0, 0, _, _, _, _, rfl, rfl, rfl, rfl, rfl, by decide +kernel⟩,
  ⟨(boxed 3 0 0 0), _, _, 0, 0, _, _, _, _, rfl, rfl, rfl, rfl, rfl, rfl, by decide +kernel⟩,
  ⟨(boxed 4 1 0 0), _, 0, 0, _, _, _, _, rfl, rfl, rfl, rfl, rfl, by decide +kernel⟩,
  ⟨(locked (boxed 4 4 0 0)), _, 0, 0, _, _, _, _, rfl, rfl, rfl, rfl, rfl, by decide +kernel⟩,
  ⟨(boxed 4 4 0 0), _, 0, 0, _, _, _, _, rfl, rfl, rfl, rfl, rfl, by decide +kernel⟩,
  ⟨(boxed 4 0 0 0), _, _, 0, 0, _, _, _, _, rfl, rfl, rfl, rfl, rfl, rfl, by decide +kernel⟩,
  ⟨(boxed 5 0 2 0), _, 0, 0, _, _, _, _, rfl, rfl, rfl, rfl, rfl, by decide +kernel⟩,
  ⟨(boxed 5 0 0 0), _, 0, 0, _, _, _, _, rfl, rfl, rfl, rfl, rfl, by decide +kernel⟩,
  ⟨(boxed 6 0 2 0), _, 0, 0, _, _, _, _, rfl, rfl, rfl, rfl, rfl, by decide +kernel⟩,
  ⟨(locked (boxed 6 0 0 0)), _, 0, 0, _, _, _, _, rfl, rfl, rfl, rfl, rfl, by decide +kernel⟩,
  ⟨(boxed 6 0 0 0), _, _, 0, 0, _, _, _, _, rfl, rfl, rfl, rfl, rfl, rfl, by decide +kernel⟩,
  ⟨(boxed 7 0 0 0), _, 0, 0, _, _, _, _, rfl, rfl, rfl, rfl, rfl, by decide +kernel⟩,
  ⟨(boxed 8 0 5 0), _, 0, 0, _, _, _, _, rfl, rfl, rfl, rfl, rfl, by decide +kernel⟩,
  ⟨(boxed 8 0 0 0), _, 0, 0, _, _, _, _, _, rfl, rfl, rfl, rfl, rfl, (Option.some_get (by decide +kernel)).symm,
      by decide +kernel⟩,
  ⟨(boxed 9 0 0 0), _, 0, 0, _, _, _, _, rfl, rfl, rfl, rfl, rfl, by decide +kernel⟩,
  ⟨(boxed 1 4 0 0), _, 0, 0, _, _, _, _, rfl, rfl, rfl, rfl, rfl, by decide +kernel⟩⟩

theorem witness_Resets :
    (∃ (s : State) (m : Master) (n : Nat), n < 128 ∧ takesWrite s m .GLB_RST 0 0 = true) ∧
    (∃ (s u : State) (at_ : Nat), u = s.advance at_ ∧ liveRuns u = true) ∧
    (∃ (s c d : State) (m : Master), c = wrote s m .GLB_RST 0 0 ∧ d = c.wr0 F.GLB_RST_CORE_WARM 1 ∧
        takesWrite s m .GLB_RST 0 0 = true ∧ inCoreReset c = true) ∧
    (∃ (s c d : State) (m : Master), c = wrote s m .GLB_RST 0 0 ∧ d = c.wr0 F.GLB_RST_CORE_WARM 1 ∧
        takesWrite s m .GLB_RST 0 0 = true ∧ inCoreReset c = false) ∧
    (∃ (s c d : State) (m : Master), c = wrote s m .GLB_RST 0 0 ∧ d = c.wr0 F.GLB_RST_PUMP 1 ∧
        takesWrite s m .GLB_RST 0 0 = true ∧ (c.pumpHold.isSome = true ∨ inCoreReset c = true)) ∧
    (∃ (s c d : State) (m : Master), c = wrote s m .GLB_RST 0 0 ∧ d = c.wr0 F.GLB_RST_PUMP 1 ∧
        takesWrite s m .GLB_RST 0 0 = true ∧ c.pumpHold = none ∧ inCoreReset c = false) ∧
    (∃ (s c d : State) (m : Master), c = wrote s m .GLB_RST 0 0 ∧ d = c.wr0 F.GLB_RST_POOL 1 ∧
        takesWrite s m .GLB_RST 0 0 = true ∧ (c.well.poolUntil.isSome = true ∨ inCoreReset c = true)) ∧
    (∃ (s c d : State) (m : Master), c = wrote s m .GLB_RST 0 0 ∧ d = c.wr0 F.GLB_RST_POOL 1 ∧
        takesWrite s m .GLB_RST 0 0 = true ∧ c.well.poolUntil = none ∧ inCoreReset c = false) ∧
    (∃ (s c d : State) (m : Master) (n : Nat), c = wrote s m .GLB_RST 0 0 ∧ d = c.wr0 F.GLB_RST_PORT_GO 1 ∧ n < 128 ∧
        takesWrite s m .GLB_RST 0 0 = true ∧ 80 ≤ n) ∧
    (∃ (s c d : State) (m : Master) (n : Nat), c = wrote s m .GLB_RST 0 0 ∧ d = c.wr0 F.GLB_RST_PORT_GO 1 ∧ n < 128 ∧
        takesWrite s m .GLB_RST 0 0 = true ∧ n < 80 ∧ inCoreReset c = true) ∧
    (∃ (s c d : State) (m : Master) (n : Nat), c = wrote s m .GLB_RST 0 0 ∧ d = c.wr0 F.GLB_RST_PORT_GO 1 ∧ n < 128 ∧
        takesWrite s m .GLB_RST 0 0 = true ∧ n < 80 ∧ inCoreReset c = false) ∧
    (∃ (s u : State) (at_ : Nat), u = s.advance at_ ∧ liveRuns u = true ∧ (u.pumpHold = none ∨ inCoreReset u = true)) ∧
    (∃ (s u : State) (at_ : Nat), u = s.advance at_ ∧ liveRuns u = true ∧ u.pumpHold.isSome = true ∧ inCoreReset u = false) ∧
    (∃ (s u : State) (at_ : Nat), u = s.advance at_ ∧ liveRuns u = true ∧ (u.well.poolUntil = none ∨ inCoreReset u = true)) ∧
    (∃ (s u : State) (at_ : Nat), u = s.advance at_ ∧ liveRuns u = true ∧ u.well.poolUntil.isSome = true ∧
        inCoreReset u = false) ∧
    (∃ (s u : State) (at_ : Nat), u = s.advance at_ ∧ liveRuns u = true ∧ inCoreReset u = false) ∧
    (∃ (s u d e f : State) (ev : BootEv) (at_ : Nat), u = s.advance at_ ∧
        d = (List.range 160).foldl (fun s lp => if s.linkUp lp then portCell s lp (pauseHdr 1 20) else s) (settleBusy { u with rst := ⟨none, [], [], u.rst.running⟩, pumpHold := none, well := { u.well with poolUntil := none } }) ∧
        e = u.rst.ports.foldl (fun s p => portReset (s.wr0 F.GLB_RST_PORT_GO 0) p.1 p.2) d ∧
        f = u.rst.held.foldl (runHeld ev) (siteAfterCommit ev e (takeCommit e)) ∧ liveRuns u = true ∧ inCoreReset u = true) :=
  ⟨⟨r, .host, 80, by decide +kernel⟩,
  ⟨r, _, 0, rfl, by decide +kernel⟩,
  ⟨(warm r), _, _, .host, rfl, rfl, by decide +kernel⟩,
  ⟨r, _, _, .host, rfl, rfl, by decide +kernel⟩,
  ⟨({ r with pumpHold := some 0 }), _, _, .host, rfl, rfl, by decide +kernel⟩,
  ⟨r, _, _, .host, rfl, rfl, by decide +kernel⟩,
  ⟨(modWell r fun w => { w with poolUntil := some 0 }), _, _, .host, rfl, rfl, by decide +kernel⟩,
  ⟨r, _, _, .host, rfl, rfl, by decide +kernel⟩,
  ⟨(warm r), _, _, .host, 80, rfl, rfl, by decide +kernel⟩,
  ⟨(warm r), _, _, .host, 0, rfl, rfl, by decide +kernel⟩,
  ⟨r, _, _, .host, 0, rfl, rfl, by decide +kernel⟩,
  ⟨r, _, 0, rfl, by decide +kernel⟩,
  ⟨({ r with pumpHold := some 0 }), _, 0, rfl, by decide +kernel⟩,
  ⟨r, _, 0, rfl, by decide +kernel⟩,
  ⟨(modWell r fun w => { w with poolUntil := some 0 }), _, 0, rfl, by decide +kernel⟩,
  ⟨r, _, 0, rfl, by decide +kernel⟩,
  ⟨(warm r), _, _, _, _, ev0, 0, rfl, rfl, rfl, rfl, by decide +kernel⟩⟩

theorem witness_FaultsAndSafeState :
    (∃ (s u : State) (src at_ : Nat), u = s.advance at_ ∧ chipOn u = true ∧ src < 1024) ∧
    (∃ (s : State) (m : Master), takesWrite s m .FLT_CTRL 0 0 = true) ∧
    (∃ (s u : State) (src at_ : Nat), u = s.advance at_ ∧ chipOn u = true ∧ src < 1024 ∧ mget u.flt.held src = none) ∧
    (∃ (s u d : State) (src at_ : Nat) (bad : Option Nat) (m : HeldMsg) (r : Nat), u = s.advance at_ ∧
        mget u.flt.held src = some m ∧ d = modFlt u (fun f => { f with held := mdel f.held src }) ∧ bad = some r ∧
        chipOn u = true ∧ src < 1024) ∧
    (∃ (s u d : State) (src at_ : Nat) (bad parity : Option Nat) (m : HeldMsg) (off : Nat), u = s.advance at_ ∧
        mget u.flt.held src = some m ∧ d = modFlt u (fun f => { f with held := mdel f.held src }) ∧ bad = none ∧
        parity = some off ∧ chipOn u = true ∧ src < 1024) ∧
    (∃ (s u d : State) (src at_ : Nat) (bad parity : Option Nat) (m : HeldMsg), u = s.advance at_ ∧
        mget u.flt.held src = some m ∧ d = modFlt u (fun f => { f with held := mdel f.held src }) ∧ bad = none ∧
        parity = none ∧ chipOn u = true ∧ src < 1024 ∧ d.flag F.FLT_SRC_CFG_EN src = false) ∧
    (∃ (s u d : State) (src at_ : Nat) (bad parity : Option Nat) (m : HeldMsg), u = s.advance at_ ∧
        mget u.flt.held src = some m ∧ d = modFlt u (fun f => { f with held := mdel f.held src }) ∧ bad = none ∧
        parity = none ∧ chipOn u = true ∧ src < 1024 ∧ d.flag F.FLT_SRC_CFG_EN src = true) ∧
    (∃ (s c d : State) (m : Master), c = wrote s m .FLT_CTRL 0 0 ∧
        d = (List.range 160).foldl (fun s lp => if s.lpExists lp then s.wr F.PRT_LSTAT_EIDLE_TX lp 1 else s) (((c.wr0 F.FLT_STAT_SAFE 1).wr0 F.FLT_STAT_CAUSE 3).wr0 F.FLT_STAT_WHERE 0) ∧
        takesWrite s m .FLT_CTRL 0 0 = true) ∧
    (∃ (s u : State) (at_ : Nat), u = s.advance at_ ∧ chipOn u = true ∧
        u.flt.latchAt.any (fun t => decide (t + 10000 ≤ u.now)) = true) ∧
    (∃ (s u : State) (at_ : Nat), u = s.advance at_ ∧ chipOn u = true ∧
        u.flt.latchAt.any (fun t => decide (t + 10000 ≤ u.now)) = false) ∧
    (∃ (s u : State) (at_ : Nat), u = s.advance at_ ∧ chipOn u = true ∧ u.flag F.FLT_STAT_ALIVE_RUN = true ∧
        u.pin.refclk = true ∧ u.pin.aliveAt + 500000 ≤ u.now) ∧
    (∃ (s u : State) (at_ : Nat), u = s.advance at_ ∧ chipOn u = true ∧
        (u.flag F.FLT_STAT_ALIVE_RUN = false ∨ u.pin.refclk = false ∨ u.now < u.pin.aliveAt + 500000)) :=
  ⟨⟨r, _, 1, 0, rfl, by decide +kernel⟩,
  ⟨r, .host, by decide +kernel⟩,
  ⟨(wrs ({ r with flt := { r.flt with held := [(0, ⟨0, 0, 0, 0, 0, 0⟩)] } }) [(F.FLT_SRC_CFG_EN, 0, 0)]), _, 1, 0, rfl,
      by decide +kernel⟩,
  ⟨(wrs ({ r with flt := { r.flt with held := [(0, ⟨0, 0, 0, 0, 0, 0⟩)] } }) [(F.FLT_SRC_CFG_EN, 0, 0)]), _, _, 0, 0, _, _, 0,
      rfl, (Option.some_get (by decide +kernel)).symm, rfl, rfl, by decide +kernel⟩,
  ⟨(wrs ({ r with flt := { r.flt with held := [(0, ⟨0, 0, 0, 0, 0, 0⟩)] } }) [(F.FLT_SRC_CFG_EN, 0, 0)]), _, _, 0, 0, _, _, _,
      0, rfl, (Option.some_get (by decide +kernel)).symm, rfl, rfl, rfl, by decide +kernel⟩,
  ⟨(wrs ({ r with flt := { r.flt with held := [(0, ⟨0, 0, 0, 0, 0, 0⟩)] } }) [(F.FLT_SRC_CFG_EN, 0, 0)]), _, _, 0, 0, _, _, _,
      rfl, (Option.some_get (by decide +kernel)).symm, rfl, rfl, rfl, by decide +kernel⟩,
  ⟨(wrs ({ r with flt := { r.flt with held := [(0, ⟨0, 0, 0, 0, 0, 0⟩)] } }) [(F.FLT_SRC_CFG_EN, 0, 1)]), _, _, 0, 0, _, _, _,
      rfl, (Option.some_get (by decide +kernel)).symm, rfl, rfl, rfl, by decide +kernel⟩,
  ⟨(wrs ({ r with flt := { r.flt with held := [(0, ⟨0, 0, 0, 0, 0, 0⟩)] } }) [(F.FLT_SRC_CFG_EN, 0, 0)]), _, _, .host, rfl,
      rfl, by decide +kernel⟩,
  ⟨({ late r with flt := { r.flt with latchAt := some 0 } }), _, 0, rfl, by decide +kernel⟩,
  ⟨(wrs ({ r with flt := { r.flt with held := [(0, ⟨0, 0, 0, 0, 0, 0⟩)] } }) [(F.FLT_SRC_CFG_EN, 0, 0)]), _, 0, rfl,
      by decide +kernel⟩,
  ⟨(wrs (late r) [(F.FLT_STAT_ALIVE_RUN, 0, 1)]), _, 0, rfl, by decide +kernel⟩,
  ⟨(wrs ({ r with flt := { r.flt with held := [(0, ⟨0, 0, 0, 0, 0, 0⟩)] } }) [(F.FLT_SRC_CFG_EN, 0, 0)]), _, 0, rfl,
      by decide +kernel⟩⟩

theorem witness_DualActive :
    (∃ (s u : State) (at_ : Nat), u = s.advance at_ ∧ coreRuns u = true) ∧
    (∃ (s u : State) (p : StPkt) (at_ : Nat), u = s.advance at_ ∧ stationHas u p 0x05 = true) ∧
    (∃ (s u : State) (c at_ : Nat), u = s.advance at_ ∧ chipOn u = true ∧ c < 2) ∧
    (∃ (s u : State) (at_ : Nat), u = s.advance at_ ∧ coreRuns u = true ∧ u.flt.sent = none) ∧
    (∃ (s u : State) (at_ t0 fl : Nat), u = s.advance at_ ∧ coreRuns u = true ∧ u.flt.sent = some (t0, fl) ∧
        (fl ≠ healthFlags u ∨ t0 + 1000 * u.rd0 F.FLT_DA_CFG_HIVL ≤ u.now)) ∧
    (∃ (s u : State) (at_ t0 fl : Nat), u = s.advance at_ ∧ coreRuns u = true ∧ u.flt.sent = some (t0, fl) ∧
        fl = healthFlags u ∧ u.now < t0 + 1000 * u.rd0 F.FLT_DA_CFG_HIVL) ∧
    (∃ (s u c d : State) (p : StPkt) (at_ fl : Nat) (late : Bool), u = s.advance at_ ∧ c = takeStation u p ∧
        fl = p.hdr.opw1 % 64 ∧
        late = (c.flt.pSeq.any fun q => !(decide (1 ≤ (p.hdr.opw2 + 2 ^ 32 - q) % 2 ^ 32) && decide ((p.hdr.opw2 + 2 ^ 32 - q) % 2 ^ 32 < 2 ^ 31))) ∧
        d = modFlt ((c.wr0 F.FLT_DA_STAT_P_SEEN 1).wr0 F.FLT_DA_STAT_P_FLAGS fl) (fun f => { f with pSeq := some p.hdr.opw2, pAt := some c.now, silent := false, yielded := f.yielded || (f.claimAt.isSome && !bitAt fl 4) }) ∧
        stationHas u p 0x05 = true ∧ p.hdr.opcode = 5 ∧
        (c.isRack = false ∨ bits p.hdr.opw0 0 20 ≠ mkEid c.ownRow c.ownCol (eidSlot c.selfEid) 2 (partnerPlane c) ∨ late = true)) ∧
    (∃ (s u c d : State) (p : StPkt) (at_ fl : Nat) (late : Bool), u = s.advance at_ ∧ c = takeStation u p ∧
        fl = p.hdr.opw1 % 64 ∧
        late = (c.flt.pSeq.any fun q => !(decide (1 ≤ (p.hdr.opw2 + 2 ^ 32 - q) % 2 ^ 32) && decide ((p.hdr.opw2 + 2 ^ 32 - q) % 2 ^ 32 < 2 ^ 31))) ∧
        d = modFlt ((c.wr0 F.FLT_DA_STAT_P_SEEN 1).wr0 F.FLT_DA_STAT_P_FLAGS fl) (fun f => { f with pSeq := some p.hdr.opw2, pAt := some c.now, silent := false, yielded := f.yielded || (f.claimAt.isSome && !bitAt fl 4) }) ∧
        stationHas u p 0x05 = true ∧ p.hdr.opcode = 5 ∧ c.isRack = true ∧
        bits p.hdr.opw0 0 20 = mkEid c.ownRow c.ownCol (eidSlot c.selfEid) 2 (partnerPlane c) ∧ late = false ∧
        bitAt fl 2 = true) ∧
    (∃ (s u c d : State) (p : StPkt) (at_ fl : Nat) (late : Bool), u = s.advance at_ ∧ c = takeStation u p ∧
        fl = p.hdr.opw1 % 64 ∧
        late = (c.flt.pSeq.any fun q => !(decide (1 ≤ (p.hdr.opw2 + 2 ^ 32 - q) % 2 ^ 32) && decide ((p.hdr.opw2 + 2 ^ 32 - q) % 2 ^ 32 < 2 ^ 31))) ∧
        d = modFlt ((c.wr0 F.FLT_DA_STAT_P_SEEN 1).wr0 F.FLT_DA_STAT_P_FLAGS fl) (fun f => { f with pSeq := some p.hdr.opw2, pAt := some c.now, silent := false, yielded := f.yielded || (f.claimAt.isSome && !bitAt fl 4) }) ∧
        stationHas u p 0x05 = true ∧ p.hdr.opcode = 5 ∧ c.isRack = true ∧
        bits p.hdr.opw0 0 20 = mkEid c.ownRow c.ownCol (eidSlot c.selfEid) 2 (partnerPlane c) ∧ late = false ∧
        bitAt fl 2 = false ∧ bitAt fl 1 = true ∧ d.flag F.FLT_DA_STAT_SEQ_OK = true ∧
        d.flag F.FLT_DA_STAT_COVER_ACT = false) ∧
    (∃ (s u c d : State) (p : StPkt) (at_ fl : Nat) (late : Bool), u = s.advance at_ ∧ c = takeStation u p ∧
        fl = p.hdr.opw1 % 64 ∧
        late = (c.flt.pSeq.any fun q => !(decide (1 ≤ (p.hdr.opw2 + 2 ^ 32 - q) % 2 ^ 32) && decide ((p.hdr.opw2 + 2 ^ 32 - q) % 2 ^ 32 < 2 ^ 31))) ∧
        d = modFlt ((c.wr0 F.FLT_DA_STAT_P_SEEN 1).wr0 F.FLT_DA_STAT_P_FLAGS fl) (fun f => { f with pSeq := some p.hdr.opw2, pAt := some c.now, silent := false, yielded := f.yielded || (f.claimAt.isSome && !bitAt fl 4) }) ∧
        stationHas u p 0x05 = true ∧ p.hdr.opcode = 5 ∧ c.isRack = true ∧
        bits p.hdr.opw0 0 20 = mkEid c.ownRow c.ownCol (eidSlot c.selfEid) 2 (partnerPlane c) ∧ late = false ∧
        bitAt fl 2 = false ∧
        (bitAt fl 1 = false ∨ d.flag F.FLT_DA_STAT_SEQ_OK = false ∨ d.flag F.FLT_DA_STAT_COVER_ACT = true)) ∧
    (∃ (s u d : State) (ok : Bool) (at_ : Nat), u = s.advance at_ ∧ d = u.wr0 F.FLT_DA_STAT_SEQ_OK 1 ∧ coreRuns u = true ∧
        (u.isRack = false ∨ ok = u.flag F.FLT_DA_STAT_SEQ_OK)) ∧
    (∃ (s u d : State) (ok : Bool) (at_ : Nat), u = s.advance at_ ∧ d = u.wr0 F.FLT_DA_STAT_SEQ_OK 1 ∧ ok = true ∧
        coreRuns u = true ∧ u.isRack = true ∧ u.flag F.FLT_DA_STAT_SEQ_OK = false ∧ u.flag F.FLT_DA_STAT_RESIGNED = true) ∧
    (∃ (s u d : State) (ok : Bool) (at_ : Nat), u = s.advance at_ ∧ d = u.wr0 F.FLT_DA_STAT_SEQ_OK 1 ∧ ok = true ∧
        coreRuns u = true ∧ u.isRack = true ∧ u.flag F.FLT_DA_STAT_SEQ_OK = false ∧ u.flag F.FLT_DA_STAT_RESIGNED = false) ∧
    (∃ (s u d : State) (ok : Bool) (at_ : Nat), u = s.advance at_ ∧ d = u.wr0 F.FLT_DA_STAT_SEQ_OK 1 ∧ ok = false ∧
        coreRuns u = true ∧ u.isRack = true ∧ u.flag F.FLT_DA_STAT_SEQ_OK = true) ∧
    (∃ (s u : State) (at_ : Nat), u = s.advance at_ ∧ coreRuns u = true ∧
        u.coverFrom.any (fun t => decide (t ≤ u.now)) = false) ∧
    (∃ (s u : State) (at_ : Nat), u = s.advance at_ ∧ coreRuns u = true ∧
        u.coverFrom.any (fun t => decide (t ≤ u.now)) = true) ∧
    (∃ (s u : State) (at_ : Nat) (due : Prop), u = s.advance at_ ∧ (due ↔ u.rd0 F.FLT_DA_CFG_HOLDOFF ≠ 0 ∧
        u.flag F.FLT_DA_STAT_RESIGNED = true ∧ u.flag F.FLT_DA_STAT_SEQ_OK = true ∧ u.flt.claimAt = none ∧
        u.flt.okSince.any (fun t => decide (t + 100000000 * u.rd0 F.FLT_DA_CFG_HOLDOFF ≤ u.now)) = true) ∧ coreRuns u = true ∧
        ¬ due) ∧
    (∃ (s u : State) (at_ : Nat) (due : Prop), u = s.advance at_ ∧ (due ↔ u.rd0 F.FLT_DA_CFG_HOLDOFF ≠ 0 ∧
        u.flag F.FLT_DA_STAT_RESIGNED = true ∧ u.flag F.FLT_DA_STAT_SEQ_OK = true ∧ u.flt.claimAt = none ∧
        u.flt.okSince.any (fun t => decide (t + 100000000 * u.rd0 F.FLT_DA_CFG_HOLDOFF ≤ u.now)) = true) ∧ coreRuns u = true ∧
        due) ∧
    (∃ (s u d : State) (at_ : Nat) (due : Prop), u = s.advance at_ ∧ (due ↔ u.flt.yielded = true ∧
        u.flt.claimAt.any (fun t => decide (t + 2000000 ≤ u.now)) = true) ∧
        d = sendHealth (daFault (modFlt (((u.wr0 F.FLT_DA_STAT_OWN_ACT 1).wr0 F.FLT_DA_STAT_TAKEBACK 0).wr0 F.FLT_DA_STAT_RESIGNED 0) fun f => { f with claimAt := none, yielded := false, okSince := none }) 3 u.plane) ∧
        coreRuns u = true ∧ ¬ due) ∧
    (∃ (s u d : State) (at_ : Nat) (due : Prop), u = s.advance at_ ∧ (due ↔ u.flt.yielded = true ∧
        u.flt.claimAt.any (fun t => decide (t + 2000000 ≤ u.now)) = true) ∧
        d = sendHealth (daFault (modFlt (((u.wr0 F.FLT_DA_STAT_OWN_ACT 1).wr0 F.FLT_DA_STAT_TAKEBACK 0).wr0 F.FLT_DA_STAT_RESIGNED 0) fun f => { f with claimAt := none, yielded := false, okSince := none }) 3 u.plane) ∧
        coreRuns u = true ∧ due) ∧
    (∃ (s u : State) (at_ : Nat) (late gone : Prop), u = s.advance at_ ∧ (late ↔ u.flt.yielded = false ∧
        u.flt.claimLate = false ∧ u.flt.claimAt.any (fun t => decide (t + 1000000000 ≤ u.now)) = true) ∧
        (gone ↔ u.isRack = true ∧ u.rd0 F.FLT_DA_CFG_HIVL ≠ 0 ∧ u.flt.silent = false ∧
        u.flt.pAt.getD 0 + 16000 * u.rd0 F.FLT_DA_CFG_HIVL ≤ u.now) ∧ coreRuns u = true ∧ ¬ late) ∧
    (∃ (s u : State) (at_ : Nat) (late gone : Prop), u = s.advance at_ ∧ (late ↔ u.flt.yielded = false ∧
        u.flt.claimLate = false ∧ u.flt.claimAt.any (fun t => decide (t + 1000000000 ≤ u.now)) = true) ∧
        (gone ↔ u.isRack = true ∧ u.rd0 F.FLT_DA_CFG_HIVL ≠ 0 ∧ u.flt.silent = false ∧
        u.flt.pAt.getD 0 + 16000 * u.rd0 F.FLT_DA_CFG_HIVL ≤ u.now) ∧ coreRuns u = true ∧ late) ∧
    (∃ (s u : State) (at_ : Nat) (late gone : Prop), u = s.advance at_ ∧ (late ↔ u.flt.yielded = false ∧
        u.flt.claimLate = false ∧ u.flt.claimAt.any (fun t => decide (t + 1000000000 ≤ u.now)) = true) ∧
        (gone ↔ u.isRack = true ∧ u.rd0 F.FLT_DA_CFG_HIVL ≠ 0 ∧ u.flt.silent = false ∧
        u.flt.pAt.getD 0 + 16000 * u.rd0 F.FLT_DA_CFG_HIVL ≤ u.now) ∧ coreRuns u = true ∧ ¬ gone) ∧
    (∃ (s u : State) (at_ : Nat) (late gone : Prop), u = s.advance at_ ∧ (late ↔ u.flt.yielded = false ∧
        u.flt.claimLate = false ∧ u.flt.claimAt.any (fun t => decide (t + 1000000000 ≤ u.now)) = true) ∧
        (gone ↔ u.isRack = true ∧ u.rd0 F.FLT_DA_CFG_HIVL ≠ 0 ∧ u.flt.silent = false ∧
        u.flt.pAt.getD 0 + 16000 * u.rd0 F.FLT_DA_CFG_HIVL ≤ u.now) ∧ coreRuns u = true ∧ gone) ∧
    (∃ (s u : State) (k at_ : Nat), u = s.advance at_ ∧ chipOn u = true ∧ k < 2 ∧ coreRole u k < 2) ∧
    (∃ (s u : State) (k at_ : Nat), u = s.advance at_ ∧ chipOn u = true ∧ k < 2 ∧ 2 ≤ coreRole u k) ∧
    (∃ (s u d : State) (at_ : Nat) (due : Prop), u = s.advance at_ ∧ d = coreReturn (coreReturn u 0) 1 ∧
        (due ↔ d.rd0 F.FLT_DA_CFG_HOLDOFF ≠ 0 ∧ coreRole d 0 = 2 ∧ coreRole d 1 = 3 ∧
        d.gmc.core0Ready.any (fun t => decide (t + 100000000 * d.rd0 F.FLT_DA_CFG_HOLDOFF ≤ d.now)) = true) ∧
        chipOn u = true ∧ ¬ due) ∧
    (∃ (s u d : State) (at_ : Nat) (due : Prop), u = s.advance at_ ∧ d = coreReturn (coreReturn u 0) 1 ∧
        (due ↔ d.rd0 F.FLT_DA_CFG_HOLDOFF ≠ 0 ∧ coreRole d 0 = 2 ∧ coreRole d 1 = 3 ∧
        d.gmc.core0Ready.any (fun t => decide (t + 100000000 * d.rd0 F.FLT_DA_CFG_HOLDOFF ≤ d.now)) = true) ∧
        chipOn u = true ∧ due) :=
  ⟨⟨r, _, 0, rfl, by decide +kernel⟩,
  ⟨r, _, (pk 5 0 0 0x29 1 0 2 []), 0, rfl, by decide +kernel⟩,
  ⟨r, _, 0, 0, rfl, by decide +kernel⟩,
  ⟨r, _, 0, rfl, by decide +kernel⟩,
  ⟨({ rack (late r) with flt := { r.flt with sent := some (0, 63) } }), _, 0, 0, 63, rfl, by decide +kernel⟩,
  ⟨({ rack (late r) with flt := { r.flt with sent := some (1000000000000, healthFlags (rack (late r))) } }), _, 0,
      1000000000000, (healthFlags (rack (late r))), rfl, by decide +kernel⟩,
  ⟨r, _, _, _, (pk 0x05 0 0 0 0 0 0 []), 0, _, _, rfl, rfl, rfl, rfl, rfl, by decide +kernel⟩,
  ⟨({ rack (late r) with flt := { r.flt with sent := some (0, 63) } }), _, _, _, (pk 5 0 0 0x29 4 0 2 []), 0, _, _, rfl, rfl,
      rfl, rfl, rfl, by decide +kernel⟩,
  ⟨(wrs (rack r) [(F.FLT_DA_STAT_SEQ_OK, 0, 1)]), _, _, _, (pk 5 0 0 0x29 2 0 2 []), 0, _, _, rfl, rfl, rfl, rfl, rfl,
      by decide +kernel⟩,
  ⟨(rack r), _, _, _, (pk 5 0 0 0x29 1 0 2 []), 0, _, _, rfl, rfl, rfl, rfl, rfl, by decide +kernel⟩,
  ⟨r, _, _, false, 0, rfl, rfl, by decide +kernel⟩,
  ⟨(wrs (rack r) [(F.FLT_DA_STAT_RESIGNED, 0, 1)]), _, _, _, 0, rfl, rfl, rfl, by decide +kernel⟩,
  ⟨(rack r), _, _, _, 0, rfl, rfl, rfl, by decide +kernel⟩,
  ⟨(wrs (rack r) [(F.FLT_DA_STAT_SEQ_OK, 0, 1)]), _, _, _, 0, rfl, rfl, rfl, by decide +kernel⟩,
  ⟨r, _, 0, rfl, by decide +kernel⟩,
  ⟨({ r with coverFrom := some 0 }), _, 0, rfl, by decide +kernel⟩,
  ⟨({ rack (late r) with flt := { r.flt with sent := some (0, 63) } }), _, 0, _, rfl, Iff.rfl, by decide +kernel⟩,
  ⟨(wrs ({ late r with flt := { r.flt with okSince := some 0 } }) [(F.FLT_DA_STAT_RESIGNED, 0, 1), (F.FLT_DA_STAT_SEQ_OK, 0,
      1)]), _, 0, _, rfl, Iff.rfl, by decide +kernel⟩,
  ⟨({ rack (late r) with flt := { r.flt with sent := some (0, 63) } }), _, _, 0, _, rfl, Iff.rfl, rfl, by decide +kernel⟩,
  ⟨({ late r with flt := { r.flt with claimAt := some 0, yielded := true } }), _, _, 0, _, rfl, Iff.rfl, rfl,
      by decide +kernel⟩,
  ⟨({ rack (late r) with flt := { r.flt with sent := some (0, 63) } }), _, 0, _, _, rfl, Iff.rfl, Iff.rfl, by decide +kernel⟩,
  ⟨({ late r with flt := { r.flt with claimAt := some 0 } }), _, 0, _, _, rfl, Iff.rfl, Iff.rfl, by decide +kernel⟩,
  ⟨(wrs (rack r) [(F.FLT_DA_STAT_SEQ_OK, 0, 1)]), _, 0, _, _, rfl, Iff.rfl, Iff.rfl, by decide +kernel⟩,
  ⟨({ rack (late r) with flt := { r.flt with sent := some (0, 63) } }), _, 0, _, _, rfl, Iff.rfl, Iff.rfl, by decide +kernel⟩,
  ⟨r, _, 0, 0, rfl, by decide +kernel⟩,
  ⟨owned, _, 0, 0, rfl, by decide +kernel⟩,
  ⟨({ rack (late r) with flt := { r.flt with sent := some (0, 63) } }), _, _, 0, _, rfl, rfl, Iff.rfl, by decide +kernel⟩,
  ⟨(wrs ({ late gesta with gmc := { gesta.gmc with core0Ready := some 0 } }) [(F.GMC_STAT_ROLE0, 0, 2), (F.GMC_STAT_ROLE1, 0,
      3)]), _, _, 0, _, rfl, rfl, Iff.rfl, by decide +kernel⟩⟩

theorem witness_PowerCaps :
    (∃ (s u : State) (at_ : Nat), u = s.advance at_ ∧ chipOn u = true) ∧
    (∃ (s : State) (m : Master) (val be : Nat), val < 2 ^ 32 ∧ beOk m be = true ∧ takesWrite s m .PWR_CAP_HOST 0 0 = true) ∧
    (∃ (s : State) (m : Master) (val be : Nat), val < 2 ^ 32 ∧ beOk m be = true ∧ takesWrite s m .PWR_CAP_RACK 0 0 = true) ∧
    (∃ (s u a b c d e : State) (p at_ f w : Nat) (slow : Bool), u = s.advance at_ ∧
        a = heatAgain (modPwr (u.wr0 F.PWR_MEAS_P p) fun w => { w with thLast := w.thLast.map (spanP p) }) ∧
        b = settleCap (setPt a (thermalLimit a)) ∧ (f, w) = (if b.pwr.capdrop.isSome = true then (b.pwr.f,
        b.pwr.u) else loopStep b p) ∧ slow = decide (f < fCapFor b (b.rd0 F.PWR_STAT_EFF_CAP)) ∧
        c = modPwr b (fun x => { x with f := f, u := w, tPeak := none }) ∧ d = (if slow = true ∧
        u.flag F.PWR_STAT_OVERRUN = false then pwrFault c 9 f else c) ∧
        e = settleLevels (d.wr0 F.PWR_STAT_OVERRUN (b2n slow)) ∧ chipOn u = true ∧ u.rd0 F.PWR_BRK_CFG_BRK_HOLD = 0 ∧
        u.pwr.capdrop.isSome = true ∧ e.pwr.capdrop = u.pwr.capdrop) ∧
    (∃ (s u a b c d e : State) (p at_ f w : Nat) (slow : Bool), u = s.advance at_ ∧
        a = heatAgain (modPwr (u.wr0 F.PWR_MEAS_P p) fun w => { w with thLast := w.thLast.map (spanP p) }) ∧
        b = settleCap (setPt a (thermalLimit a)) ∧ (f, w) = (if b.pwr.capdrop.isSome = true then (b.pwr.f,
        b.pwr.u) else loopStep b p) ∧ slow = decide (f < fCapFor b (b.rd0 F.PWR_STAT_EFF_CAP)) ∧
        c = modPwr b (fun x => { x with f := f, u := w, tPeak := none }) ∧ d = (if slow = true ∧
        u.flag F.PWR_STAT_OVERRUN = false then pwrFault c 9 f else c) ∧
        e = settleLevels (d.wr0 F.PWR_STAT_OVERRUN (b2n slow)) ∧ chipOn u = true ∧
        (u.rd0 F.PWR_BRK_CFG_BRK_HOLD ≠ 0 ∨ u.pwr.capdrop = none ∨ e.pwr.capdrop ≠ u.pwr.capdrop)) ∧
    (∃ (s c : State) (m : Master) (val be : Nat), c = wrote s m .PWR_CAP_HOST 0 0 ∧ val < 2 ^ 32 ∧ beOk m be = true ∧
        takesWrite s m .PWR_CAP_HOST 0 0 = true) ∧
    (∃ (s c d : State) (m : Master) (val be l : Nat), c = wrote s m .PWR_CAP_RACK 0 0 ∧
        d = writeWord c m .PWR_CAP_RACK 0 0 val be ∧ l = d.rd0 F.PWR_LEASE_LEASE ∧ val < 2 ^ 32 ∧ beOk m be = true ∧
        takesWrite s m .PWR_CAP_RACK 0 0 = true ∧ l ≠ 0) ∧
    (∃ (s c d : State) (m : Master) (val be l : Nat), c = wrote s m .PWR_CAP_RACK 0 0 ∧
        d = writeWord c m .PWR_CAP_RACK 0 0 val be ∧ l = d.rd0 F.PWR_LEASE_LEASE ∧ val < 2 ^ 32 ∧ beOk m be = true ∧
        takesWrite s m .PWR_CAP_RACK 0 0 = true ∧ l = 0) ∧
    (∃ (s u : State) (at_ : Nat), u = s.advance at_ ∧ chipOn u = true ∧
        u.pwr.leaseEnd.any (fun t => decide (t ≤ u.now)) = true) ∧
    (∃ (s u : State) (at_ : Nat), u = s.advance at_ ∧ chipOn u = true ∧
        u.pwr.leaseEnd.any (fun t => decide (t ≤ u.now)) = false) ∧
    (∃ (s u : State) (at_ : Nat), u = s.advance at_ ∧ chipOn u = true ∧ u.rd0 F.PWR_BRK_CFG_BRK_HOLD ≠ 0 ∧
        u.pwr.capdrop.any (fun t => decide (t + 1000000 * u.rd0 F.PWR_BRK_CFG_BRK_HOLD ≤ u.now)) = true) ∧
    (∃ (s u : State) (at_ : Nat), u = s.advance at_ ∧ chipOn u = true ∧
        (u.rd0 F.PWR_BRK_CFG_BRK_HOLD = 0 ∨ u.pwr.capdrop.any (fun t => decide (t + 1000000 * u.rd0 F.PWR_BRK_CFG_BRK_HOLD ≤ u.now)) = false)) :=
  ⟨⟨r, _, 0, rfl, by decide +kernel⟩,
  ⟨r, .host, 0, 15, by decide +kernel⟩,
  ⟨r, .host, 0, 15, by decide +kernel⟩,
  ⟨(wrs ({ late r with pwr := { r.pwr with capdrop := some 0 } }) [(F.PWR_BRK_CFG_BRK_HOLD, 0, 0)]), _, _, _, _, _, _, 0, 0,
      ((if (settleCap (setPt (heatAgain (modPwr (((wrs ({ late r with pwr := { r.pwr with capdrop := some 0 } }) [(F.PWR_BRK_CFG_BRK_HOLD,
      0,
      0)]).advance 0).wr0 F.PWR_MEAS_P 0) fun w => { w with thLast := w.thLast.map (spanP 0) })) (thermalLimit (heatAgain (modPwr (((wrs ({ late r with pwr := { r.pwr with capdrop := some 0 } }) [(F.PWR_BRK_CFG_BRK_HOLD,
      0,
      0)]).advance 0).wr0 F.PWR_MEAS_P 0) fun w => { w with thLast := w.thLast.map (spanP 0) }))))).pwr.capdrop.isSome = true then ((settleCap (setPt (heatAgain (modPwr (((wrs ({ late r with pwr := { r.pwr with capdrop := some 0 } }) [(F.PWR_BRK_CFG_BRK_HOLD,
      0,
      0)]).advance 0).wr0 F.PWR_MEAS_P 0) fun w => { w with thLast := w.thLast.map (spanP 0) })) (thermalLimit (heatAgain (modPwr (((wrs ({ late r with pwr := { r.pwr with capdrop := some 0 } }) [(F.PWR_BRK_CFG_BRK_HOLD,
      0, 0)]).advance 0).wr0 F.PWR_MEAS_P 0) fun w => { w with thLast := w.thLast.map (spanP 0) }))))).pwr.f,
      (settleCap (setPt (heatAgain (modPwr (((wrs ({ late r with pwr := { r.pwr with capdrop := some 0 } }) [(F.PWR_BRK_CFG_BRK_HOLD,
      0,
      0)]).advance 0).wr0 F.PWR_MEAS_P 0) fun w => { w with thLast := w.thLast.map (spanP 0) })) (thermalLimit (heatAgain (modPwr (((wrs ({ late r with pwr := { r.pwr with capdrop := some 0 } }) [(F.PWR_BRK_CFG_BRK_HOLD,
      0,
      0)]).advance 0).wr0 F.PWR_MEAS_P 0) fun w => { w with thLast := w.thLast.map (spanP 0) }))))).pwr.u) else loopStep (settleCap (setPt (heatAgain (modPwr (((wrs ({ late r with pwr := { r.pwr with capdrop := some 0 } }) [(F.PWR_BRK_CFG_BRK_HOLD,
      0,
      0)]).advance 0).wr0 F.PWR_MEAS_P 0) fun w => { w with thLast := w.thLast.map (spanP 0) })) (thermalLimit (heatAgain (modPwr (((wrs ({ late r with pwr := { r.pwr with capdrop := some 0 } }) [(F.PWR_BRK_CFG_BRK_HOLD,
      0, 0)]).advance 0).wr0 F.PWR_MEAS_P 0) fun w => { w with thLast := w.thLast.map (spanP 0) }))))) 0)).1,
      ((if (settleCap (setPt (heatAgain (modPwr (((wrs ({ late r with pwr := { r.pwr with capdrop := some 0 } }) [(F.PWR_BRK_CFG_BRK_HOLD,
      0,
      0)]).advance 0).wr0 F.PWR_MEAS_P 0) fun w => { w with thLast := w.thLast.map (spanP 0) })) (thermalLimit (heatAgain (modPwr (((wrs ({ late r with pwr := { r.pwr with capdrop := some 0 } }) [(F.PWR_BRK_CFG_BRK_HOLD,
      0,
      0)]).advance 0).wr0 F.PWR_MEAS_P 0) fun w => { w with thLast := w.thLast.map (spanP 0) }))))).pwr.capdrop.isSome = true then ((settleCap (setPt (heatAgain (modPwr (((wrs ({ late r with pwr := { r.pwr with capdrop := some 0 } }) [(F.PWR_BRK_CFG_BRK_HOLD,
      0,
      0)]).advance 0).wr0 F.PWR_MEAS_P 0) fun w => { w with thLast := w.thLast.map (spanP 0) })) (thermalLimit (heatAgain (modPwr (((wrs ({ late r with pwr := { r.pwr with capdrop := some 0 } }) [(F.PWR_BRK_CFG_BRK_HOLD,
      0, 0)]).advance 0).wr0 F.PWR_MEAS_P 0) fun w => { w with thLast := w.thLast.map (spanP 0) }))))).pwr.f,
      (settleCap (setPt (heatAgain (modPwr (((wrs ({ late r with pwr := { r.pwr with capdrop := some 0 } }) [(F.PWR_BRK_CFG_BRK_HOLD,
      0,
      0)]).advance 0).wr0 F.PWR_MEAS_P 0) fun w => { w with thLast := w.thLast.map (spanP 0) })) (thermalLimit (heatAgain (modPwr (((wrs ({ late r with pwr := { r.pwr with capdrop := some 0 } }) [(F.PWR_BRK_CFG_BRK_HOLD,
      0,
      0)]).advance 0).wr0 F.PWR_MEAS_P 0) fun w => { w with thLast := w.thLast.map (spanP 0) }))))).pwr.u) else loopStep (settleCap (setPt (heatAgain (modPwr (((wrs ({ late r with pwr := { r.pwr with capdrop := some 0 } }) [(F.PWR_BRK_CFG_BRK_HOLD,
      0,
      0)]).advance 0).wr0 F.PWR_MEAS_P 0) fun w => { w with thLast := w.thLast.map (spanP 0) })) (thermalLimit (heatAgain (modPwr (((wrs ({ late r with pwr := { r.pwr with capdrop := some 0 } }) [(F.PWR_BRK_CFG_BRK_HOLD,
      0, 0)]).advance 0).wr0 F.PWR_MEAS_P 0) fun w => { w with thLast := w.thLast.map (spanP 0) }))))) 0)).2, _, rfl, rfl,
      rfl, (pair_parts).symm, rfl, rfl, rfl, rfl, by decide +kernel⟩,
  ⟨r, _, _, _, _, _, _, 0, 0,
      ((if (settleCap (setPt (heatAgain (modPwr ((r.advance 0).wr0 F.PWR_MEAS_P 0) fun w => { w with thLast := w.thLast.map (spanP 0) })) (thermalLimit (heatAgain (modPwr ((r.advance 0).wr0 F.PWR_MEAS_P 0) fun w => { w with thLast := w.thLast.map (spanP 0) }))))).pwr.capdrop.isSome = true then ((settleCap (setPt (heatAgain (modPwr ((r.advance 0).wr0 F.PWR_MEAS_P 0) fun w => { w with thLast := w.thLast.map (spanP 0) })) (thermalLimit (heatAgain (modPwr ((r.advance 0).wr0 F.PWR_MEAS_P 0) fun w => { w with thLast := w.thLast.map (spanP 0) }))))).pwr.f,
      (settleCap (setPt (heatAgain (modPwr ((r.advance 0).wr0 F.PWR_MEAS_P 0) fun w => { w with thLast := w.thLast.map (spanP 0) })) (thermalLimit (heatAgain (modPwr ((r.advance 0).wr0 F.PWR_MEAS_P 0) fun w => { w with thLast := w.thLast.map (spanP 0) }))))).pwr.u) else loopStep (settleCap (setPt (heatAgain (modPwr ((r.advance 0).wr0 F.PWR_MEAS_P 0) fun w => { w with thLast := w.thLast.map (spanP 0) })) (thermalLimit (heatAgain (modPwr ((r.advance 0).wr0 F.PWR_MEAS_P 0) fun w => { w with thLast := w.thLast.map (spanP 0) }))))) 0)).1,
      ((if (settleCap (setPt (heatAgain (modPwr ((r.advance 0).wr0 F.PWR_MEAS_P 0) fun w => { w with thLast := w.thLast.map (spanP 0) })) (thermalLimit (heatAgain (modPwr ((r.advance 0).wr0 F.PWR_MEAS_P 0) fun w => { w with thLast := w.thLast.map (spanP 0) }))))).pwr.capdrop.isSome = true then ((settleCap (setPt (heatAgain (modPwr ((r.advance 0).wr0 F.PWR_MEAS_P 0) fun w => { w with thLast := w.thLast.map (spanP 0) })) (thermalLimit (heatAgain (modPwr ((r.advance 0).wr0 F.PWR_MEAS_P 0) fun w => { w with thLast := w.thLast.map (spanP 0) }))))).pwr.f,
      (settleCap (setPt (heatAgain (modPwr ((r.advance 0).wr0 F.PWR_MEAS_P 0) fun w => { w with thLast := w.thLast.map (spanP 0) })) (thermalLimit (heatAgain (modPwr ((r.advance 0).wr0 F.PWR_MEAS_P 0) fun w => { w with thLast := w.thLast.map (spanP 0) }))))).pwr.u) else loopStep (settleCap (setPt (heatAgain (modPwr ((r.advance 0).wr0 F.PWR_MEAS_P 0) fun w => { w with thLast := w.thLast.map (spanP 0) })) (thermalLimit (heatAgain (modPwr ((r.advance 0).wr0 F.PWR_MEAS_P 0) fun w => { w with thLast := w.thLast.map (spanP 0) }))))) 0)).2,
      _, rfl, rfl, rfl, (pair_parts).symm, rfl, rfl, rfl, rfl, by decide +kernel⟩,
  ⟨r, _, .host, 0, 15, rfl, by decide +kernel⟩,
  ⟨r, _, _, .host, 0, 15, _, rfl, rfl, rfl, by decide +kernel⟩,
  ⟨(wrs (r) [(F.PWR_LEASE_LEASE, 0, 0)]), _, _, .host, 0, 15, _, rfl, rfl, rfl, by decide +kernel⟩,
  ⟨({ late r with pwr := { r.pwr with leaseEnd := some 0 } }), _, 0, rfl, by decide +kernel⟩,
  ⟨r, _, 0, rfl, by decide +kernel⟩,
  ⟨({ late r with pwr := { r.pwr with capdrop := some 0 } }), _, 0, rfl, by decide +kernel⟩,
  ⟨r, _, 0, rfl, by decide +kernel⟩⟩

theorem witness_BrakeAndHeat :
    (∃ (s : State) (m : Master) (val be : Nat), val < 2 ^ 32 ∧ beOk m be = true ∧ takesWrite s m .PWR_BRK_REQ 0 0 = true) ∧
    (∃ (s : State) (m : Master) (val be : Nat), val < 2 ^ 32 ∧ beOk m be = true ∧ takesWrite s m .PWR_THERM_CFG 0 0 = true) ∧
    (∃ (s u : State) (at_ : Nat), u = s.advance at_ ∧ chipOn u = true) ∧
    (∃ (s u : State) (at_ : Nat), u = s.advance at_) ∧
    (∃ (s c d : State) (m : Master) (val be : Nat) (h r : Bool), c = wrote s m .PWR_BRK_REQ 0 0 ∧
        d = writeWord c m .PWR_BRK_REQ 0 0 val be ∧ h = d.flag F.PWR_BRK_REQ_HOST_REQ ∧ r = d.flag F.PWR_BRK_REQ_RACK_REQ ∧
        val < 2 ^ 32 ∧ beOk m be = true ∧ takesWrite s m .PWR_BRK_REQ 0 0 = true ∧ h = true) ∧
    (∃ (s c d : State) (m : Master) (val be : Nat) (h r : Bool), c = wrote s m .PWR_BRK_REQ 0 0 ∧
        d = writeWord c m .PWR_BRK_REQ 0 0 val be ∧ h = d.flag F.PWR_BRK_REQ_HOST_REQ ∧ r = d.flag F.PWR_BRK_REQ_RACK_REQ ∧
        val < 2 ^ 32 ∧ beOk m be = true ∧ takesWrite s m .PWR_BRK_REQ 0 0 = true ∧ h = false) ∧
    (∃ (s u a b c : State) (high : Bool) (at_ : Nat), u = s.advance at_ ∧
        a = { u with pin := { u.pin with pwrbrk := high } } ∧ b = { u with pin := { u.pin with busUv := high } } ∧
        c = { u with pin := { u.pin with coolant := high } } ∧ chipOn u = false) ∧
    (∃ (s u a b c : State) (high : Bool) (at_ : Nat), u = s.advance at_ ∧
        a = { u with pin := { u.pin with pwrbrk := high } } ∧ b = { u with pin := { u.pin with busUv := high } } ∧
        c = { u with pin := { u.pin with coolant := high } } ∧ high = true ∧ chipOn u = true) ∧
    (∃ (s u a b c : State) (high : Bool) (n at_ : Nat), u = s.advance at_ ∧
        a = { u with pin := { u.pin with pwrbrk := high } } ∧ b = { u with pin := { u.pin with busUv := high } } ∧
        c = { u with pin := { u.pin with coolant := high } } ∧ high = false ∧ chipOn u = true ∧ n < 500) ∧
    (∃ (s u a b c : State) (high : Bool) (n at_ : Nat), u = s.advance at_ ∧
        a = { u with pin := { u.pin with pwrbrk := high } } ∧ b = { u with pin := { u.pin with busUv := high } } ∧
        c = { u with pin := { u.pin with coolant := high } } ∧ high = false ∧ chipOn u = true ∧ 500 ≤ n) ∧
    (∃ (s u : State) (at_ cf : Nat) (due : Prop), u = s.advance at_ ∧ cf = u.rd0 F.PWR_COOL_CFG_CF_SHUT ∧ (due ↔ cf ≠ 0 ∧
        (u.pwr.coolSince.any (fun t => decide (t + 100000000 * cf ≤ u.now)) = true ∨ u.pwr.leakSince.any (fun t => decide (t + 100000000 * cf ≤ u.now)) = true)) ∧
        chipOn u = true ∧ due) ∧
    (∃ (s u : State) (at_ cf : Nat) (due : Prop), u = s.advance at_ ∧ cf = u.rd0 F.PWR_COOL_CFG_CF_SHUT ∧ (due ↔ cf ≠ 0 ∧
        (u.pwr.coolSince.any (fun t => decide (t + 100000000 * cf ≤ u.now)) = true ∨ u.pwr.leakSince.any (fun t => decide (t + 100000000 * cf ≤ u.now)) = true)) ∧
        chipOn u = true ∧ ¬ due) ∧
    (∃ (s u a b c d e : State) (rs used : List Int) (dev : List (Nat × Nat)) (at_ hot oper shut : Nat) (top tj : Int) (isHot : Bool),
        u = s.advance at_ ∧
        a = (List.range 20).foldl (fun s k => if rs.getD k 0 < -400 ∨ rs.getD k 0 > 1500 then failSensor s k else s) u ∧
        dev = (((List.range 20).filter fun k => !sensorFailed a k && diodeOff a rs k).map fun k => (k,
        mgetD u.pwr.dev k u.now)) ∧ b = dev.foldl (fun s x => if x.2 + 100000000 ≤ s.now then failSensor s x.1 else s) a ∧
        top = (((List.range 20).filter fun k => !sensorFailed b k).map fun k => rs.getD k 0).foldl max (-400) ∧
        used = (List.range 20).map (fun k => if sensorFailed b k then top + 100 else rs.getD k 0) ∧
        tj = used.foldl max (-1000) ∧ hot = ((List.range 20).find? fun k => used.getD k 0 == tj).getD 0 ∧
        c = modPwr ((b.wr0 F.PWR_TEMP_TJ_MAX (min 255 (tj.fdiv 10).toNat)).wr0 F.PWR_TEMP_HOT hot) (fun w => { w with dev := dev, diodes := used, tPeak := some (match w.tPeak with | some t => max t (tj.fdiv 10) | none => tj.fdiv 10) }) ∧
        oper = u.rd0 F.PWR_THERM_CFG_T_OPER ∧ shut = u.rd0 F.PWR_THERM_CFG_T_SHUT ∧
        d = (if (oper != 0 && decide (tj > 10 * (oper : Int))) = true ∧
        c.flag F.PWR_BRK_STAT_TOPER = false then pwrFault (setCause c F.PWR_BRK_STAT_TOPER true) 4 hot else if (oper == 0 || decide (tj ≤ 10 * ((oper : Int) - 3))) = true then setCause c F.PWR_BRK_STAT_TOPER false else c) ∧
        isHot = (shut != 0 && decide (tj ≥ 10 * (shut : Int))) ∧ e = modPwr d (fun w => { w with hotLast := isHot }) ∧
        chipOn u = true ∧ isHot = true ∧ u.pwr.hotLast = true) ∧
    (∃ (s u a b c d e : State) (rs used : List Int) (dev : List (Nat × Nat)) (at_ hot oper shut : Nat) (top tj : Int) (isHot : Bool),
        u = s.advance at_ ∧
        a = (List.range 20).foldl (fun s k => if rs.getD k 0 < -400 ∨ rs.getD k 0 > 1500 then failSensor s k else s) u ∧
        dev = (((List.range 20).filter fun k => !sensorFailed a k && diodeOff a rs k).map fun k => (k,
        mgetD u.pwr.dev k u.now)) ∧ b = dev.foldl (fun s x => if x.2 + 100000000 ≤ s.now then failSensor s x.1 else s) a ∧
        top = (((List.range 20).filter fun k => !sensorFailed b k).map fun k => rs.getD k 0).foldl max (-400) ∧
        used = (List.range 20).map (fun k => if sensorFailed b k then top + 100 else rs.getD k 0) ∧
        tj = used.foldl max (-1000) ∧ hot = ((List.range 20).find? fun k => used.getD k 0 == tj).getD 0 ∧
        c = modPwr ((b.wr0 F.PWR_TEMP_TJ_MAX (min 255 (tj.fdiv 10).toNat)).wr0 F.PWR_TEMP_HOT hot) (fun w => { w with dev := dev, diodes := used, tPeak := some (match w.tPeak with | some t => max t (tj.fdiv 10) | none => tj.fdiv 10) }) ∧
        oper = u.rd0 F.PWR_THERM_CFG_T_OPER ∧ shut = u.rd0 F.PWR_THERM_CFG_T_SHUT ∧
        d = (if (oper != 0 && decide (tj > 10 * (oper : Int))) = true ∧
        c.flag F.PWR_BRK_STAT_TOPER = false then pwrFault (setCause c F.PWR_BRK_STAT_TOPER true) 4 hot else if (oper == 0 || decide (tj ≤ 10 * ((oper : Int) - 3))) = true then setCause c F.PWR_BRK_STAT_TOPER false else c) ∧
        isHot = (shut != 0 && decide (tj ≥ 10 * (shut : Int))) ∧ e = modPwr d (fun w => { w with hotLast := isHot }) ∧
        chipOn u = true ∧ (isHot = false ∨ u.pwr.hotLast = false) ∧ ([[0, 1, 2, 3], [4, 5, 6, 7], [16, 17, 18,
        19]].any fun g => g.all (sensorFailed e)) = true) ∧
    (∃ (s u a b c d e : State) (rs used : List Int) (dev : List (Nat × Nat)) (at_ hot oper shut : Nat) (top tj : Int) (isHot : Bool),
        u = s.advance at_ ∧
        a = (List.range 20).foldl (fun s k => if rs.getD k 0 < -400 ∨ rs.getD k 0 > 1500 then failSensor s k else s) u ∧
        dev = (((List.range 20).filter fun k => !sensorFailed a k && diodeOff a rs k).map fun k => (k,
        mgetD u.pwr.dev k u.now)) ∧ b = dev.foldl (fun s x => if x.2 + 100000000 ≤ s.now then failSensor s x.1 else s) a ∧
        top = (((List.range 20).filter fun k => !sensorFailed b k).map fun k => rs.getD k 0).foldl max (-400) ∧
        used = (List.range 20).map (fun k => if sensorFailed b k then top + 100 else rs.getD k 0) ∧
        tj = used.foldl max (-1000) ∧ hot = ((List.range 20).find? fun k => used.getD k 0 == tj).getD 0 ∧
        c = modPwr ((b.wr0 F.PWR_TEMP_TJ_MAX (min 255 (tj.fdiv 10).toNat)).wr0 F.PWR_TEMP_HOT hot) (fun w => { w with dev := dev, diodes := used, tPeak := some (match w.tPeak with | some t => max t (tj.fdiv 10) | none => tj.fdiv 10) }) ∧
        oper = u.rd0 F.PWR_THERM_CFG_T_OPER ∧ shut = u.rd0 F.PWR_THERM_CFG_T_SHUT ∧
        d = (if (oper != 0 && decide (tj > 10 * (oper : Int))) = true ∧
        c.flag F.PWR_BRK_STAT_TOPER = false then pwrFault (setCause c F.PWR_BRK_STAT_TOPER true) 4 hot else if (oper == 0 || decide (tj ≤ 10 * ((oper : Int) - 3))) = true then setCause c F.PWR_BRK_STAT_TOPER false else c) ∧
        isHot = (shut != 0 && decide (tj ≥ 10 * (shut : Int))) ∧ e = modPwr d (fun w => { w with hotLast := isHot }) ∧
        chipOn u = true ∧ (isHot = false ∨ u.pwr.hotLast = false) ∧ ([[0, 1, 2, 3], [4, 5, 6, 7], [16, 17, 18,
        19]].any fun g => g.all (sensorFailed e)) = false) ∧
    (∃ (s u a b c d e f g : State) (tin tout useIn : Int) (loopR at_ imax : Nat) (hot leak : Bool), u = s.advance at_ ∧
        a = (if (!sensorFailed u 20 && thBad u 20 tin) = true then failSensor u 20 else u) ∧
        b = (if (!sensorFailed a 21 && thBad a 21 tout) = true then failSensor a 21 else a) ∧
        c = heatBalance (thKeep (thKeep b 20 tin) 21 tout) tin tout ∧ d = (if loopR > 1000 then failSensor c 22 else c) ∧
        imax = u.rd0 F.PWR_THERM_CFG_INLET_MAX ∧
        useIn = (if (sensorFailed d 20 || sensorFailed d 21) = true then 10 * ((imax : Int) + 1) else tin) ∧
        hot = (imax != 0 && decide (useIn > 10 * (imax : Int))) ∧ e = modPwr (if hot = true ∧
        u.pwr.inletHot = false then pwrFault ((d.wr0 F.PWR_TEMP_T_IN (showDeg useIn)).wr0 F.PWR_TEMP_T_OUT (showDeg tout)) 6 (showDeg useIn) else (d.wr0 F.PWR_TEMP_T_IN (showDeg useIn)).wr0 F.PWR_TEMP_T_OUT (showDeg tout)) (fun w => { w with inletHot := hot }) ∧
        f = (if hot = true then settleCap (setPt e (min (e.rd0 F.PWR_MEAS_P_T) (if u.rd0 F.PWR_LEASE_FALLBACK = 0 then 980 else u.rd0 F.PWR_LEASE_FALLBACK))) else e) ∧
        leak = (leakReads loopR || sensorFailed f 22) ∧ g = modPwr (if leak = true ∧
        u.pwr.leak = false then pwrFault f 7 22 else f) (fun w => { w with leak := leak, leakSince := if leak then some (w.leakSince.getD u.now) else none }) ∧
        chipOn u = true) ∧
    (∃ (s c d : State) (m : Master) (val be : Nat) (xs : List Nat), c = wrote s m .PWR_THERM_CFG 0 0 ∧
        d = writeWord c m .PWR_THERM_CFG 0 0 val be ∧ xs = (([F.PWR_THERM_CFG_T_THR, F.PWR_THERM_CFG_T_OPER,
        F.PWR_THERM_CFG_T_SHUT].map d.rd0).filter (· != 0)) ∧ val < 2 ^ 32 ∧ beOk m be = true ∧
        takesWrite s m .PWR_THERM_CFG 0 0 = true ∧ ((xs.zip (xs.drop 1)).all fun e => decide (e.1 < e.2)) = true ∧
        d.rd0 F.PWR_THERM_CFG_T_SHUT ≤ 112) ∧
    (∃ (s c d : State) (m : Master) (val be : Nat) (xs : List Nat), c = wrote s m .PWR_THERM_CFG 0 0 ∧
        d = writeWord c m .PWR_THERM_CFG 0 0 val be ∧ xs = (([F.PWR_THERM_CFG_T_THR, F.PWR_THERM_CFG_T_OPER,
        F.PWR_THERM_CFG_T_SHUT].map d.rd0).filter (· != 0)) ∧ val < 2 ^ 32 ∧ beOk m be = true ∧
        takesWrite s m .PWR_THERM_CFG 0 0 = true ∧
        (((xs.zip (xs.drop 1)).all fun e => decide (e.1 < e.2)) = false ∨ 112 < d.rd0 F.PWR_THERM_CFG_T_SHUT)) ∧
    (∃ (s u : State) (at_ : Nat), u = s.advance at_ ∧ u.pin.aon = true) ∧
    (∃ (s u : State) (at_ : Nat), u = s.advance at_ ∧ u.pin.aon = false) ∧
    (∃ (s u d : State) (high : Bool) (n at_ : Nat), u = s.advance at_ ∧ d = { u with pin := { u.pin with epo := high } } ∧
        (high = true ∨ n < 200 ∨ chipOn u = false)) ∧
    (∃ (s u d : State) (high : Bool) (n at_ : Nat), u = s.advance at_ ∧ d = { u with pin := { u.pin with epo := high } } ∧
        high = false ∧ 200 ≤ n ∧ chipOn u = true) :=
  ⟨⟨r, .host, 0x6E695F2D, 15, by decide +kernel⟩,
  ⟨r, .host, 0x6E695F2D, 15, by decide +kernel⟩,
  ⟨r, _, 0, rfl, by decide +kernel⟩,
  ⟨r, _, 0, rfl⟩,
  ⟨r, _, _, .host, 0x6E695F2D, 15, _, _, rfl, rfl, rfl, rfl, by decide +kernel⟩,
  ⟨r, _, _, .host, 0, 15, _, _, rfl, rfl, rfl, rfl, by decide +kernel⟩,
  ⟨(pins fun p => { p with perst := false }), _, _, _, _, false, 0, rfl, rfl, rfl, rfl, by decide +kernel⟩,
  ⟨r, _, _, _, _, _, 0, rfl, rfl, rfl, rfl, rfl, by decide +kernel⟩,
  ⟨r, _, _, _, _, _, 0, 0, rfl, rfl, rfl, rfl, rfl, by decide +kernel⟩,
  ⟨r, _, _, _, _, _, 500, 0, rfl, rfl, rfl, rfl, rfl, by decide +kernel⟩,
  ⟨({ late r with pwr := { r.pwr with coolSince := some 0 } }), _, 0, _, _, rfl, rfl, Iff.rfl, by decide +kernel⟩,
  ⟨(pins fun p => { p with aon := false }), _, 0, _, _, rfl, rfl, Iff.rfl, by decide +kernel⟩,
  ⟨({ late r with pwr := { r.pwr with hotLast := true } }), _, _, _, _, _, _, (List.replicate 20 1500), _, _, 0, _, _, _, _,
      _, _, rfl, rfl, rfl, rfl, rfl, rfl, rfl, rfl, rfl, rfl, rfl, rfl, rfl, rfl, by decide +kernel⟩,
  ⟨(pins fun p => { p with aon := false }), _, _, _, _, _, _, ([2000, 2000, 2000, 2000] ++ List.replicate 16 250), _, _, 0, _,
      _, _, _, _, _, rfl, rfl, rfl, rfl, rfl, rfl, rfl, rfl, rfl, rfl, rfl, rfl, rfl, rfl, by decide +kernel⟩,
  ⟨r, _, _, _, _, _, _, ([]), _, _, 0, _, _, _, _, _, _, rfl, rfl, rfl, rfl, rfl, rfl, rfl, rfl, rfl, rfl, rfl, rfl, rfl, rfl,
      by decide +kernel⟩,
  ⟨r, _, _, _, _, _, _, _, _, 0, 0, _, 0, 0, _, _, _, rfl, rfl, rfl, rfl, rfl, rfl, rfl, rfl, rfl, rfl, rfl, rfl,
      by decide +kernel⟩,
  ⟨r, _, _, .host, 0, 15, _, rfl, rfl, rfl, by decide +kernel⟩,
  ⟨({ late r with pwr := { r.pwr with coolSince := some 0 } }), _, _, .host, 0x80000000, 15, _, rfl, rfl, rfl,
      by decide +kernel⟩,
  ⟨r, _, 0, rfl, by decide +kernel⟩,
  ⟨(pins fun p => { p with aon := false }), _, 0, rfl, by decide +kernel⟩,
  ⟨r, _, _, false, 0, 0, rfl, rfl, by decide +kernel⟩,
  ⟨r, _, _, _, 500, 0, rfl, rfl, rfl, by decide +kernel⟩⟩

theorem witness_Telemetry :
    (∃ (s : State) (m : Master) (off val be : Nat), off < 1601536 ∧ val < 2 ^ 32 ∧ beOk m be = true ∧
        takesWrite s m .TEL_CNT (off / 8) 0 = true) ∧
    (∃ (s : State) (m : Master) (off val be : Nat), off < 1601536 ∧ val < 2 ^ 32 ∧ beOk m be = true ∧
        takesWrite s m .TEL_CNT (off / 8) 1 = true) ∧
    (∃ (s : State) (m : Master) (off val be : Nat), off < 1601536 ∧ val < 2 ^ 32 ∧ beOk m be = true ∧
        takesWrite s m .TEL_BW_CFG 0 0 = true) ∧
    (∃ (s : State) (m : Master) (off val be : Nat), off < 1601536 ∧ val < 2 ^ 32 ∧ beOk m be = true ∧
        takesWrite s m .TEL_RING_CFG 0 0 = true) ∧
    (∃ (s u : State) (at_ : Nat), u = s.advance at_ ∧ coreRuns u = true) ∧
    (∃ (s c : State) (m : Master) (k val be : Nat), c = wrote s m .TEL_CNT k 0 ∧ k < 200192 ∧ val < 2 ^ 32 ∧
        beOk m be = true ∧ takesWrite s m .TEL_CNT k 0 = true) ∧
    (∃ (s c : State) (m : Master) (k val be : Nat), c = wrote s m .TEL_CNT k 1 ∧ k < 200192 ∧ val < 2 ^ 32 ∧
        beOk m be = true ∧ takesWrite s m .TEL_CNT k 1 = true) ∧
    (∃ (s u : State) (at_ win : Nat) (put : List (Nat × Nat) → Nat → Nat → Nat → List (Nat × Nat)), u = s.advance at_ ∧
        win = u.rd0 F.TEL_BW_CFG_WIN ∧
        put = (fun c lp k v => mset 0 (mset 0 c (0x180000 + (lp * 4 + k) * 8) v) (0x180000 + (lp * 4 + k) * 8 + 16) (max v (mgetD (mset 0 c (0x180000 + (lp * 4 + k) * 8) v) (0x180000 + (lp * 4 + k) * 8 + 16) 0))) ∧
        coreRuns u = true ∧ (win = 0 ∨ u.atTick win = false)) ∧
    (∃ (s u : State) (at_ win : Nat) (put : List (Nat × Nat) → Nat → Nat → Nat → List (Nat × Nat)), u = s.advance at_ ∧
        win = u.rd0 F.TEL_BW_CFG_WIN ∧
        put = (fun c lp k v => mset 0 (mset 0 c (0x180000 + (lp * 4 + k) * 8) v) (0x180000 + (lp * 4 + k) * 8 + 16) (max v (mgetD (mset 0 c (0x180000 + (lp * 4 + k) * 8) v) (0x180000 + (lp * 4 + k) * 8 + 16) 0))) ∧
        coreRuns u = true ∧ win ≠ 0 ∧ u.atTick win = true) ∧
    (∃ (s c d : State) (m : Master) (val be : Nat), c = wrote s m .TEL_BW_CFG 0 0 ∧ d = writeWord c m .TEL_BW_CFG 0 0 val be ∧
        val < 2 ^ 32 ∧ beOk m be = true ∧ takesWrite s m .TEL_BW_CFG 0 0 = true ∧ be % 8 = 0) ∧
    (∃ (s c d : State) (m : Master) (val be : Nat), c = wrote s m .TEL_BW_CFG 0 0 ∧ d = writeWord c m .TEL_BW_CFG 0 0 val be ∧
        val < 2 ^ 32 ∧ beOk m be = true ∧ takesWrite s m .TEL_BW_CFG 0 0 = true ∧ be % 8 ≠ 0 ∧
        65536 < d.rd0 F.TEL_BW_CFG_WIN) ∧
    (∃ (s c d : State) (m : Master) (val be : Nat), c = wrote s m .TEL_BW_CFG 0 0 ∧ d = writeWord c m .TEL_BW_CFG 0 0 val be ∧
        val < 2 ^ 32 ∧ beOk m be = true ∧ takesWrite s m .TEL_BW_CFG 0 0 = true ∧ be % 8 ≠ 0 ∧
        d.rd0 F.TEL_BW_CFG_WIN ≤ 65536) ∧
    (∃ (s c d e : State) (m : Master) (val be off : Nat) (on lock : Bool), c = wrote s m .TEL_RING_CFG 0 0 ∧
        on = c.flag F.TEL_RING_CFG_EN ∧ off = regOff .TEL_RING_CFG 0 ∧
        lock = (on && (bitAt be 0 || bitAt be 1) && fieldAfter c F.TEL_RING_CFG_PAGES 0 val be != c.rd0 F.TEL_RING_CFG_PAGES) ∧
        d = writeWord c m .TEL_RING_CFG 0 0 val be (fun f => f != F.TEL_RING_CFG_EN && !(on && f == F.TEL_RING_CFG_PAGES)) ∧
        e = (if lock = true then d.accessFault m 1 off else d) ∧ val < 2 ^ 32 ∧ beOk m be = true ∧
        takesWrite s m .TEL_RING_CFG 0 0 = true ∧ bitAt be 3 = false) ∧
    (∃ (s c d e : State) (m : Master) (val be off : Nat) (on lock : Bool), c = wrote s m .TEL_RING_CFG 0 0 ∧
        on = c.flag F.TEL_RING_CFG_EN ∧ off = regOff .TEL_RING_CFG 0 ∧
        lock = (on && (bitAt be 0 || bitAt be 1) && fieldAfter c F.TEL_RING_CFG_PAGES 0 val be != c.rd0 F.TEL_RING_CFG_PAGES) ∧
        d = writeWord c m .TEL_RING_CFG 0 0 val be (fun f => f != F.TEL_RING_CFG_EN && !(on && f == F.TEL_RING_CFG_PAGES)) ∧
        e = (if lock = true then d.accessFault m 1 off else d) ∧ val < 2 ^ 32 ∧ beOk m be = true ∧
        takesWrite s m .TEL_RING_CFG 0 0 = true ∧ bitAt be 3 = true ∧ bitAt val 31 = false) ∧
    (∃ (s c d e : State) (m : Master) (val be off : Nat) (on lock : Bool), c = wrote s m .TEL_RING_CFG 0 0 ∧
        on = c.flag F.TEL_RING_CFG_EN ∧ off = regOff .TEL_RING_CFG 0 ∧
        lock = (on && (bitAt be 0 || bitAt be 1) && fieldAfter c F.TEL_RING_CFG_PAGES 0 val be != c.rd0 F.TEL_RING_CFG_PAGES) ∧
        d = writeWord c m .TEL_RING_CFG 0 0 val be (fun f => f != F.TEL_RING_CFG_EN && !(on && f == F.TEL_RING_CFG_PAGES)) ∧
        e = (if lock = true then d.accessFault m 1 off else d) ∧ val < 2 ^ 32 ∧ beOk m be = true ∧
        takesWrite s m .TEL_RING_CFG 0 0 = true ∧ bitAt be 3 = true ∧ bitAt val 31 = true ∧ e.rd0 F.TEL_RING_CFG_PAGES = 0) ∧
    (∃ (s c d e : State) (m : Master) (val be off : Nat) (on lock : Bool), c = wrote s m .TEL_RING_CFG 0 0 ∧
        on = c.flag F.TEL_RING_CFG_EN ∧ off = regOff .TEL_RING_CFG 0 ∧
        lock = (on && (bitAt be 0 || bitAt be 1) && fieldAfter c F.TEL_RING_CFG_PAGES 0 val be != c.rd0 F.TEL_RING_CFG_PAGES) ∧
        d = writeWord c m .TEL_RING_CFG 0 0 val be (fun f => f != F.TEL_RING_CFG_EN && !(on && f == F.TEL_RING_CFG_PAGES)) ∧
        e = (if lock = true then d.accessFault m 1 off else d) ∧ val < 2 ^ 32 ∧ beOk m be = true ∧
        takesWrite s m .TEL_RING_CFG 0 0 = true ∧ bitAt be 3 = true ∧ bitAt val 31 = true ∧ e.rd0 F.TEL_RING_CFG_PAGES ≠ 0 ∧
        on = true) ∧
    (∃ (s c d e : State) (m : Master) (val be off : Nat) (on lock : Bool), c = wrote s m .TEL_RING_CFG 0 0 ∧
        on = c.flag F.TEL_RING_CFG_EN ∧ off = regOff .TEL_RING_CFG 0 ∧
        lock = (on && (bitAt be 0 || bitAt be 1) && fieldAfter c F.TEL_RING_CFG_PAGES 0 val be != c.rd0 F.TEL_RING_CFG_PAGES) ∧
        d = writeWord c m .TEL_RING_CFG 0 0 val be (fun f => f != F.TEL_RING_CFG_EN && !(on && f == F.TEL_RING_CFG_PAGES)) ∧
        e = (if lock = true then d.accessFault m 1 off else d) ∧ val < 2 ^ 32 ∧ beOk m be = true ∧
        takesWrite s m .TEL_RING_CFG 0 0 = true ∧ bitAt be 3 = true ∧ bitAt val 31 = true ∧ e.rd0 F.TEL_RING_CFG_PAGES ≠ 0 ∧
        on = false) ∧
    (∃ (s u : State) (at_ ivl : Nat) (busy : Bool), u = s.advance at_ ∧ ivl = u.rd0 F.TEL_PER_IVL_IVL ∧
        busy = (u.tel.running.any (·.hop.isNone) || u.tel.queue.any (·.hop.isNone)) ∧ coreRuns u = true ∧
        (u.flag F.TEL_PER_CFG_EN = false ∨ ivl = 0 ∨ u.atTick ivl = false)) ∧
    (∃ (s u : State) (at_ ivl : Nat) (busy : Bool), u = s.advance at_ ∧ ivl = u.rd0 F.TEL_PER_IVL_IVL ∧
        busy = (u.tel.running.any (·.hop.isNone) || u.tel.queue.any (·.hop.isNone)) ∧ coreRuns u = true ∧
        u.flag F.TEL_PER_CFG_EN = true ∧ ivl ≠ 0 ∧ u.atTick ivl = true ∧ busy = true) ∧
    (∃ (s u : State) (at_ ivl : Nat) (busy : Bool), u = s.advance at_ ∧ ivl = u.rd0 F.TEL_PER_IVL_IVL ∧
        busy = (u.tel.running.any (·.hop.isNone) || u.tel.queue.any (·.hop.isNone)) ∧ coreRuns u = true ∧
        u.flag F.TEL_PER_CFG_EN = true ∧ ivl ≠ 0 ∧ u.atTick ivl = true ∧ busy = false) ∧
    (∃ (s u : State) (at_ : Nat), u = s.advance at_ ∧ coreRuns u = true ∧ u.tel.running = none) ∧
    (∃ (s u : State) (at_ : Nat) (fail : Option Nat) (d e : State) (q r : DumpReq), u = s.advance at_ ∧
        u.tel.running = some q ∧ dumpPut u q (mkRec u 3 0 (u.rd0 F.TEL_STAT_DUMP_SEQ) u.fabric (dumpFlags q) 0 []) fail = (d,
        r) ∧ e = dumpClose d r ∧ coreRuns u = true) :=
  ⟨⟨r, .host, 0, 0, 15, by decide +kernel⟩,
  ⟨r, .host, 0, 0, 15, by decide +kernel⟩,
  ⟨r, .host, 0, 0, 15, by decide +kernel⟩,
  ⟨r, .host, 0, 0, 15, by decide +kernel⟩,
  ⟨r, _, 0, rfl, by decide +kernel⟩,
  ⟨r, _, .host, 0, 0, 15, rfl, by decide +kernel⟩,
  ⟨r, _, .host, 0, 0, 15, rfl, by decide +kernel⟩,
  ⟨(wrs (r) [(F.TEL_BW_CFG_WIN, 0, 0)]), _, 0, _, _, rfl, rfl, rfl, by decide +kernel⟩,
  ⟨(wrs r [(F.TEL_PER_CFG_EN, 0, 1), (F.TEL_PER_IVL_IVL, 0, 1)]), _, 0, _, _, rfl, rfl, rfl, by decide +kernel⟩,
  ⟨(wrs r [(F.TEL_PER_CFG_EN, 0, 1), (F.TEL_PER_IVL_IVL, 0, 1)]), _, _, .host, 0, 8, rfl, rfl, by decide +kernel⟩,
  ⟨(wrs r [(F.TEL_PER_CFG_EN, 0, 1), (F.TEL_PER_IVL_IVL, 0, 1)]), _, _, .host, 0xFFFFFFFF, 15, rfl, rfl, by decide +kernel⟩,
  ⟨r, _, _, .host, 0, 15, rfl, rfl, by decide +kernel⟩,
  ⟨(wrs r [(F.TEL_PER_CFG_EN, 0, 1), (F.TEL_PER_IVL_IVL, 0, 1)]), _, _, _, .host, 0, 7, _, _, _, rfl, rfl, rfl, rfl, rfl, rfl,
      by decide +kernel⟩,
  ⟨r, _, _, _, .host, 0, 15, _, _, _, rfl, rfl, rfl, rfl, rfl, rfl, by decide +kernel⟩,
  ⟨(wrs r [(F.TEL_PER_CFG_EN, 0, 1), (F.TEL_PER_IVL_IVL, 0, 1)]), _, _, _, .host, 0x80000000, 15, _, _, _, rfl, rfl, rfl, rfl,
      rfl, rfl, by decide +kernel⟩,
  ⟨(wrs (r) [(F.TEL_RING_CFG_EN, 0, 1), (F.TEL_RING_CFG_PAGES, 0, 1)]), _, _, _, .host, 0x80000001, 15, _, _, _, rfl, rfl,
      rfl, rfl, rfl, rfl, by decide +kernel⟩,
  ⟨(wrs r [(F.TEL_PER_CFG_EN, 0, 1), (F.TEL_PER_IVL_IVL, 0, 1)]), _, _, _, .host, 0xFFFFFFFF, 15, _, _, _, rfl, rfl, rfl, rfl,
      rfl, rfl, by decide +kernel⟩,
  ⟨r, _, 0, _, _, rfl, rfl, rfl, by decide +kernel⟩,
  ⟨(wrs (modTel r fun t => { t with running := some ⟨0, false, none, 0, 0, 0, none, false⟩ }) [(F.TEL_PER_CFG_EN, 0, 1),
      (F.TEL_PER_IVL_IVL, 0, 1)]), _, 0, _, _, rfl, rfl, rfl, by decide +kernel⟩,
  ⟨(wrs r [(F.TEL_PER_CFG_EN, 0, 1), (F.TEL_PER_IVL_IVL, 0, 1)]), _, 0, _, _, rfl, rfl, rfl, by decide +kernel⟩,
  ⟨r, _, 0, rfl, by decide +kernel⟩,
  ⟨(modTel r fun t => { t with running := some ⟨0, false, some 0, 0, 0, 0, none, false⟩ }), _, 0, none, _, _, _, _, rfl,
      (Option.some_get (by decide +kernel)).symm, pair_parts, rfl, by decide +kernel⟩⟩

theorem witness_ConsoleReads :
    (∃ (s u : State) (at_ : Nat), u = s.advance at_ ∧ chipOn u = true) ∧
    (∃ (s u : State) (at_ : Nat), u = s.advance at_ ∧ chipOn u = true ∧ gestaServes u = false) ∧
    (∃ (s u v : State) (chars : List Byte) (at_ : Nat) (args : List (Option Nat)), u = s.advance at_ ∧ v = sayBytes u chars ∧
        conLine chars = some (.help, args) ∧ chipOn u = true ∧ gestaServes u = true ∧ args ≠ []) ∧
    (∃ (s u v : State) (chars : List Byte) (at_ : Nat) (args : List (Option Nat)), u = s.advance at_ ∧ v = sayBytes u chars ∧
        conLine chars = some (.stat, args) ∧ chipOn u = true ∧ gestaServes u = true ∧ args ≠ []) ∧
    (∃ (s u v : State) (chars : List Byte) (at_ : Nat) (args : List (Option Nat)), u = s.advance at_ ∧ v = sayBytes u chars ∧
        conLine chars = some (.ver, args) ∧ chipOn u = true ∧ gestaServes u = true ∧ args ≠ []) ∧
    (∃ (s u v : State) (chars : List Byte) (at_ : Nat) (args : List (Option Nat)), u = s.advance at_ ∧ v = sayBytes u chars ∧
        conLine chars = some (.fault, args) ∧ chipOn u = true ∧ gestaServes u = true ∧ args ≠ []) ∧
    (∃ (s u v : State) (chars : List Byte) (at_ : Nat) (args : List (Option Nat)), u = s.advance at_ ∧ v = sayBytes u chars ∧
        conLine chars = some (.temp, args) ∧ chipOn u = true ∧ gestaServes u = true ∧ args ≠ []) ∧
    (∃ (s u v : State) (chars : List Byte) (at_ : Nat) (args : List (Option Nat)), u = s.advance at_ ∧ v = sayBytes u chars ∧
        conLine chars = some (.power, args) ∧ chipOn u = true ∧ gestaServes u = true ∧ args ≠ []) ∧
    (∃ (s u v w : State) (chars : List Byte) (at_ : Nat), u = s.advance at_ ∧ v = sayBytes u chars ∧
        w = conWords v ([RegName.GMC_VER, .GMC_SVN, .GMC_MIN_SVN].map fun r => regOff r 0) ∧ chipOn u = true ∧
        gestaServes u = true ∧ conLine chars = some (.help, [])) ∧
    (∃ (s u v w : State) (chars : List Byte) (at_ : Nat), u = s.advance at_ ∧ v = sayBytes u chars ∧
        w = conWords v ([RegName.GMC_VER, .GMC_SVN, .GMC_MIN_SVN].map fun r => regOff r 0) ∧ chipOn u = true ∧
        gestaServes u = true ∧ conLine chars = some (.stat, [])) ∧
    (∃ (s u v w : State) (chars : List Byte) (at_ : Nat), u = s.advance at_ ∧ v = sayBytes u chars ∧
        w = conWords v ([RegName.GMC_VER, .GMC_SVN, .GMC_MIN_SVN].map fun r => regOff r 0) ∧ chipOn u = true ∧
        gestaServes u = true ∧ conLine chars = some (.ver, [])) ∧
    (∃ (s u v w : State) (chars : List Byte) (at_ : Nat), u = s.advance at_ ∧ v = sayBytes u chars ∧
        w = conWords v ([RegName.GMC_VER, .GMC_SVN, .GMC_MIN_SVN].map fun r => regOff r 0) ∧ chipOn u = true ∧
        gestaServes u = true ∧ conLine chars = some (.fault, [])) ∧
    (∃ (s u v w : State) (chars : List Byte) (at_ : Nat), u = s.advance at_ ∧ v = sayBytes u chars ∧
        w = conWords v ([RegName.GMC_VER, .GMC_SVN, .GMC_MIN_SVN].map fun r => regOff r 0) ∧ chipOn u = true ∧
        gestaServes u = true ∧ conLine chars = some (.temp, [])) ∧
    (∃ (s u v w : State) (chars : List Byte) (at_ : Nat), u = s.advance at_ ∧ v = sayBytes u chars ∧
        w = conWords v ([RegName.GMC_VER, .GMC_SVN, .GMC_MIN_SVN].map fun r => regOff r 0) ∧ chipOn u = true ∧
        gestaServes u = true ∧ conLine chars = some (.power, [])) ∧
    (∃ (s u v : State) (chars : List Byte) (at_ : Nat) (args : List (Option Nat)) (p : Nat), u = s.advance at_ ∧
        v = sayBytes u chars ∧ conLine chars = some (.port, args) ∧ chipOn u = true ∧ gestaServes u = true ∧ args = [some p] ∧
        p < 80) ∧
    (∃ (s u v : State) (chars : List Byte) (at_ : Nat) (args : List (Option Nat)), u = s.advance at_ ∧ v = sayBytes u chars ∧
        conLine chars = some (.port, args) ∧ chipOn u = true ∧ gestaServes u = true ∧ arg1 args 80 = none) ∧
    (∃ (s u v : State) (chars : List Byte) (at_ : Nat) (args : List (Option Nat)) (l : Nat), u = s.advance at_ ∧
        v = sayBytes u chars ∧ conLine chars = some (.lane, args) ∧ chipOn u = true ∧ gestaServes u = true ∧ args = [some l] ∧
        l < 640) ∧
    (∃ (s u v : State) (chars : List Byte) (at_ : Nat) (args : List (Option Nat)), u = s.advance at_ ∧ v = sayBytes u chars ∧
        conLine chars = some (.lane, args) ∧ chipOn u = true ∧ gestaServes u = true ∧ arg1 args 640 = none) ∧
    (∃ (s u v : State) (chars : List Byte) (at_ : Nat) (args : List (Option Nat)) (off n : Nat), u = s.advance at_ ∧
        v = sayBytes u chars ∧ conLine chars = some (.regRd, args) ∧ chipOn u = true ∧ gestaServes u = true ∧
        (args = [some off, some n] ∨ args = [some off] ∧ n = 1) ∧ off % 4 = 0 ∧ 1 ≤ n ∧ off + 4 * n ≤ 0x4000000) ∧
    (∃ (s u v : State) (chars : List Byte) (at_ : Nat) (args : List (Option Nat)) (off n : Nat), u = s.advance at_ ∧
        v = sayBytes u chars ∧ conLine chars = some (.regRd, args) ∧ chipOn u = true ∧ gestaServes u = true ∧
        (args = [some off, some n] ∨ args = [some off] ∧ n = 1) ∧ (off % 4 ≠ 0 ∨ n = 0 ∨ 0x4000000 < off + 4 * n)) ∧
    (∃ (s u v : State) (chars : List Byte) (at_ : Nat) (args : List (Option Nat)), u = s.advance at_ ∧ v = sayBytes u chars ∧
        conLine chars = some (.regRd, args) ∧ chipOn u = true ∧ gestaServes u = true ∧
        (args = [] ∨ 3 ≤ args.length ∨ none ∈ args)) ∧
    (∃ (s u v : State) (chars : List Byte) (at_ : Nat) (args : List (Option Nat)), u = s.advance at_ ∧ v = sayBytes u chars ∧
        conLine chars = some (.log, args) ∧ chipOn u = true ∧ gestaServes u = true ∧ args = []) ∧
    (∃ (s u v : State) (chars : List Byte) (at_ : Nat) (args : List (Option Nat)) (i : Nat) (e : List Byte),
        u = s.advance at_ ∧ v = sayBytes u chars ∧ conLine chars = some (.log, args) ∧ v.gmc.log[i]? = some e ∧
        chipOn u = true ∧ gestaServes u = true ∧ args = [some i]) ∧
    (∃ (s u v : State) (chars : List Byte) (at_ : Nat) (args : List (Option Nat)) (i : Nat), u = s.advance at_ ∧
        v = sayBytes u chars ∧ conLine chars = some (.log, args) ∧ chipOn u = true ∧ gestaServes u = true ∧ args = [some i] ∧
        v.gmc.log[i]? = none) ∧
    (∃ (s u v : State) (chars : List Byte) (at_ : Nat) (args : List (Option Nat)), u = s.advance at_ ∧ v = sayBytes u chars ∧
        conLine chars = some (.log, args) ∧ chipOn u = true ∧ gestaServes u = true ∧ (2 ≤ args.length ∨ none ∈ args)) ∧
    (∃ (s u v : State) (chars : List Byte) (at_ : Nat), u = s.advance at_ ∧ v = sayBytes u chars ∧ chipOn u = true ∧
        gestaServes u = true ∧ spelled chars = some []) ∧
    (∃ (s u v : State) (chars : List Byte) (at_ : Nat) (w : List Nat) (ws : List (List Nat)), u = s.advance at_ ∧
        v = sayBytes u chars ∧ chipOn u = true ∧ gestaServes u = true ∧ spelled chars = some (w :: ws) ∧
        conParse (w :: ws) = none) :=
  ⟨⟨r, _, 0, rfl, by decide +kernel⟩,
  ⟨(late r), _, 0, rfl, by decide +kernel⟩,
  ⟨owned, _, _, (typed "HELP 0"), 0, ((conLine (typed "HELP 0")).get (by decide +kernel)).2, rfl, rfl,
      (Option.some_get _).symm.trans (congrArg some (pair_of (by decide +kernel))), by decide +kernel⟩,
  ⟨owned, _, _, (typed "STAT 0"), 0, ((conLine (typed "STAT 0")).get (by decide +kernel)).2, rfl, rfl,
      (Option.some_get _).symm.trans (congrArg some (pair_of (by decide +kernel))), by decide +kernel⟩,
  ⟨owned, _, _, (typed "VER 0"), 0, ((conLine (typed "VER 0")).get (by decide +kernel)).2, rfl, rfl,
      (Option.some_get _).symm.trans (congrArg some (pair_of (by decide +kernel))), by decide +kernel⟩,
  ⟨owned, _, _, (typed "FAULT 0"), 0, ((conLine (typed "FAULT 0")).get (by decide +kernel)).2, rfl, rfl,
      (Option.some_get _).symm.trans (congrArg some (pair_of (by decide +kernel))), by decide +kernel⟩,
  ⟨owned, _, _, (typed "TEMP 0"), 0, ((conLine (typed "TEMP 0")).get (by decide +kernel)).2, rfl, rfl,
      (Option.some_get _).symm.trans (congrArg some (pair_of (by decide +kernel))), by decide +kernel⟩,
  ⟨owned, _, _, (typed "POWER 0"), 0, ((conLine (typed "POWER 0")).get (by decide +kernel)).2, rfl, rfl,
      (Option.some_get _).symm.trans (congrArg some (pair_of (by decide +kernel))), by decide +kernel⟩,
  ⟨owned, _, _, _, (typed "HELP"), 0, rfl, rfl, rfl, by decide +kernel⟩,
  ⟨owned, _, _, _, (typed "STAT"), 0, rfl, rfl, rfl, by decide +kernel⟩,
  ⟨owned, _, _, _, (typed "VER"), 0, rfl, rfl, rfl, by decide +kernel⟩,
  ⟨owned, _, _, _, (typed "FAULT"), 0, rfl, rfl, rfl, by decide +kernel⟩,
  ⟨owned, _, _, _, (typed "TEMP"), 0, rfl, rfl, rfl, by decide +kernel⟩,
  ⟨owned, _, _, _, (typed "POWER"), 0, rfl, rfl, rfl, by decide +kernel⟩,
  ⟨owned, _, _, (typed "PORT 0"), 0, ((conLine (typed "PORT 0")).get (by decide +kernel)).2, 0, rfl, rfl,
      (Option.some_get _).symm.trans (congrArg some (pair_of (by decide +kernel))), by decide +kernel⟩,
  ⟨owned, _, _, (typed "PORT"), 0, ((conLine (typed "PORT")).get (by decide +kernel)).2, rfl, rfl,
      (Option.some_get _).symm.trans (congrArg some (pair_of (by decide +kernel))), by decide +kernel⟩,
  ⟨owned, _, _, (typed "LANE 0"), 0, ((conLine (typed "LANE 0")).get (by decide +kernel)).2, 0, rfl, rfl,
      (Option.some_get _).symm.trans (congrArg some (pair_of (by decide +kernel))), by decide +kernel⟩,
  ⟨owned, _, _, (typed "LANE"), 0, ((conLine (typed "LANE")).get (by decide +kernel)).2, rfl, rfl,
      (Option.some_get _).symm.trans (congrArg some (pair_of (by decide +kernel))), by decide +kernel⟩,
  ⟨owned, _, _, (typed "REG RD 0"), 0, ((conLine (typed "REG RD 0")).get (by decide +kernel)).2, 0, 1, rfl, rfl,
      (Option.some_get _).symm.trans (congrArg some (pair_of (by decide +kernel))), by decide +kernel⟩,
  ⟨owned, _, _, (typed "REG RD 1"), 0, ((conLine (typed "REG RD 1")).get (by decide +kernel)).2, 1, 1, rfl, rfl,
      (Option.some_get _).symm.trans (congrArg some (pair_of (by decide +kernel))), by decide +kernel⟩,
  ⟨owned, _, _, (typed "REG RD"), 0, ((conLine (typed "REG RD")).get (by decide +kernel)).2, rfl, rfl,
      (Option.some_get _).symm.trans (congrArg some (pair_of (by decide +kernel))), by decide +kernel⟩,
  ⟨owned, _, _, (typed "LOG"), 0, ((conLine (typed "LOG")).get (by decide +kernel)).2, rfl, rfl,
      (Option.some_get _).symm.trans (congrArg some (pair_of (by decide +kernel))), by decide +kernel⟩,
  ⟨({ owned with gmc := { owned.gmc with log := [[1]] } }), _, _, (typed "LOG 0"), 0,
      ((conLine (typed "LOG 0")).get (by decide +kernel)).2, 0, _, rfl, rfl,
      (Option.some_get _).symm.trans (congrArg some (pair_of (by decide +kernel))),
      (Option.some_get (by decide +kernel)).symm, by decide +kernel⟩,
  ⟨owned, _, _, (typed "LOG 0"), 0, ((conLine (typed "LOG 0")).get (by decide +kernel)).2, 0, rfl, rfl,
      (Option.some_get _).symm.trans (congrArg some (pair_of (by decide +kernel))), by decide +kernel⟩,
  ⟨owned, _, _, (typed "LOG 0 1"), 0, ((conLine (typed "LOG 0 1")).get (by decide +kernel)).2, rfl, rfl,
      (Option.some_get _).symm.trans (congrArg some (pair_of (by decide +kernel))), by decide +kernel⟩,
  ⟨owned, _, _, (typed ""), 0, rfl, rfl, by decide +kernel⟩,
  ⟨owned, _, _, (typed "FOO"), 0, (letters "FOO"), ([]), rfl, rfl, by decide +kernel⟩⟩

theorem witness_ConsoleQuiet :
    (∃ (s u : State) (at_ : Nat), u = s.advance at_ ∧ chipOn u = true) ∧
    (∃ (s u v : State) (chars : List Byte) (at_ e : Nat) (args : List (Option Nat)), u = s.advance at_ ∧
        v = sayBytes u chars ∧ conLine chars = some (.regWr, args) ∧ chipOn u = true ∧ gestaServes u = true ∧
        (isSafe u = true ∧ e = 8 ∨ isSafe u = false ∧ consService u = false ∧ e = 3)) ∧
    (∃ (s u v : State) (chars : List Byte) (at_ e : Nat) (args : List (Option Nat)), u = s.advance at_ ∧
        v = sayBytes u chars ∧ conLine chars = some (.faultClear, args) ∧ chipOn u = true ∧ gestaServes u = true ∧
        (isSafe u = true ∧ e = 8 ∨ isSafe u = false ∧ consService u = false ∧ e = 3)) ∧
    (∃ (s u v : State) (chars : List Byte) (at_ e : Nat) (args : List (Option Nat)), u = s.advance at_ ∧
        v = sayBytes u chars ∧ conLine chars = some (.atest, args) ∧ chipOn u = true ∧ gestaServes u = true ∧
        (isSafe u = true ∧ e = 8 ∨ isSafe u = false ∧ consService u = false ∧ e = 3)) ∧
    (∃ (s u v : State) (chars : List Byte) (at_ e : Nat) (args : List (Option Nat)), u = s.advance at_ ∧
        v = sayBytes u chars ∧ conLine chars = some (.servicePort, args) ∧ chipOn u = true ∧ gestaServes u = true ∧
        (isSafe u = true ∧ e = 8 ∨ isSafe u = false ∧ consService u = false ∧ e = 3)) ∧
    (∃ (s u v : State) (chars : List Byte) (at_ e : Nat), u = s.advance at_ ∧ v = sayBytes u chars ∧ chipOn u = true ∧
        gestaServes u = true ∧ (isSafe u = true ∧ e = 8 ∨ isSafe u = false ∧ consService u = false ∧ e = 3) ∧
        conLine chars = some (.serviceOn, [])) ∧
    (∃ (s u v : State) (chars : List Byte) (at_ e : Nat), u = s.advance at_ ∧ v = sayBytes u chars ∧ chipOn u = true ∧
        gestaServes u = true ∧ (isSafe u = true ∧ e = 8 ∨ isSafe u = false ∧ consService u = false ∧ e = 3) ∧
        conLine chars = some (.serviceOnForce, [])) ∧
    (∃ (s u v : State) (chars : List Byte) (at_ e : Nat), u = s.advance at_ ∧ v = sayBytes u chars ∧ chipOn u = true ∧
        gestaServes u = true ∧ (isSafe u = true ∧ e = 8 ∨ isSafe u = false ∧ consService u = false ∧ e = 3) ∧
        conLine chars = some (.serviceOff, [])) ∧
    (∃ (s u v : State) (chars : List Byte) (at_ : Nat) (args : List (Option Nat)) (off w : Nat), u = s.advance at_ ∧
        v = sayBytes u chars ∧ conLine chars = some (.regWr, args) ∧ chipOn u = true ∧ gestaServes u = true ∧
        isSafe u = false ∧ consService u = true ∧ args = [some off, some w] ∧ off % 4 = 0 ∧ off < 0x4000000 ∧ w < 2 ^ 32 ∧
        ¬ (off = regOff .GMC_CTRL 0 ∧ bitAt w 31 = true)) ∧
    (∃ (s u v : State) (chars : List Byte) (at_ : Nat) (args : List (Option Nat)) (off w : Nat), u = s.advance at_ ∧
        v = sayBytes u chars ∧ conLine chars = some (.regWr, args) ∧ off = regOff .GMC_CTRL 0 ∧ chipOn u = true ∧
        gestaServes u = true ∧ isSafe u = false ∧ consService u = true ∧ args = [some off, some w] ∧ off % 4 = 0 ∧
        off < 0x4000000 ∧ w < 2 ^ 32 ∧ bitAt w 31 = true) ∧
    (∃ (s u v : State) (chars : List Byte) (at_ : Nat) (args : List (Option Nat)) (off w : Nat), u = s.advance at_ ∧
        v = sayBytes u chars ∧ conLine chars = some (.regWr, args) ∧ chipOn u = true ∧ gestaServes u = true ∧
        isSafe u = false ∧ consService u = true ∧ args = [some off, some w] ∧ (off % 4 ≠ 0 ∨ 0x4000000 ≤ off ∨ 2 ^ 32 ≤ w)) ∧
    (∃ (s u v : State) (chars : List Byte) (at_ : Nat) (args : List (Option Nat)), u = s.advance at_ ∧ v = sayBytes u chars ∧
        conLine chars = some (.regWr, args) ∧ chipOn u = true ∧ gestaServes u = true ∧ isSafe u = false ∧
        consService u = true ∧ (args.length ≠ 2 ∨ none ∈ args)) ∧
    (∃ (s u v : State) (chars : List Byte) (at_ : Nat) (args : List (Option Nat)) (i : Nat), u = s.advance at_ ∧
        v = sayBytes u chars ∧ conLine chars = some (.faultClear, args) ∧ chipOn u = true ∧ gestaServes u = true ∧
        isSafe u = false ∧ consService u = true ∧ args = [some i] ∧ i < 1024) ∧
    (∃ (s u v : State) (chars : List Byte) (at_ : Nat) (args : List (Option Nat)), u = s.advance at_ ∧ v = sayBytes u chars ∧
        conLine chars = some (.faultClear, args) ∧ chipOn u = true ∧ gestaServes u = true ∧ isSafe u = false ∧
        consService u = true ∧ arg1 args 1024 = none) ∧
    (∃ (s u v : State) (chars : List Byte) (at_ : Nat) (args : List (Option Nat)) (sel idx : Nat), u = s.advance at_ ∧
        v = sayBytes u chars ∧ conLine chars = some (.atest, args) ∧ chipOn u = true ∧ gestaServes u = true ∧
        isSafe u = false ∧ consService u = true ∧ (args = [some sel, some idx] ∨ args = [some sel] ∧ idx = 0) ∧ sel < 8 ∧
        idx < 256 ∧ atestOk sel idx = true) ∧
    (∃ (s u v : State) (chars : List Byte) (at_ : Nat) (args : List (Option Nat)) (sel idx : Nat), u = s.advance at_ ∧
        v = sayBytes u chars ∧ conLine chars = some (.atest, args) ∧ chipOn u = true ∧ gestaServes u = true ∧
        isSafe u = false ∧ consService u = true ∧ (args = [some sel, some idx] ∨ args = [some sel] ∧ idx = 0) ∧
        (8 ≤ sel ∨ 256 ≤ idx ∨ atestOk sel idx = false)) ∧
    (∃ (s u v : State) (chars : List Byte) (at_ : Nat) (args : List (Option Nat)), u = s.advance at_ ∧ v = sayBytes u chars ∧
        conLine chars = some (.atest, args) ∧ chipOn u = true ∧ gestaServes u = true ∧ isSafe u = false ∧
        consService u = true ∧ (args = [] ∨ 3 ≤ args.length ∨ none ∈ args)) ∧
    (∃ (s u v : State) (chars : List Byte) (at_ : Nat) (args : List (Option Nat)) (p : Nat), u = s.advance at_ ∧
        v = sayBytes u chars ∧ conLine chars = some (.servicePort, args) ∧ chipOn u = true ∧ gestaServes u = true ∧
        isSafe u = false ∧ consService u = true ∧ args = [some p] ∧ p < 80) ∧
    (∃ (s u v : State) (chars : List Byte) (at_ : Nat) (args : List (Option Nat)), u = s.advance at_ ∧ v = sayBytes u chars ∧
        conLine chars = some (.servicePort, args) ∧ chipOn u = true ∧ gestaServes u = true ∧ isSafe u = false ∧
        consService u = true ∧ arg1 args 80 = none) ∧
    (∃ (s u v : State) (chars : List Byte) (at_ : Nat), u = s.advance at_ ∧ v = sayBytes u chars ∧ chipOn u = true ∧
        gestaServes u = true ∧ isSafe u = false ∧ consService u = true ∧ conLine chars = some (.serviceOn, []) ∧
        (List.range 160).any u.linkUp = true) ∧
    (∃ (s u v : State) (chars : List Byte) (at_ : Nat), u = s.advance at_ ∧ v = sayBytes u chars ∧ chipOn u = true ∧
        gestaServes u = true ∧ isSafe u = false ∧ consService u = true ∧ conLine chars = some (.serviceOn, []) ∧
        (List.range 160).any u.linkUp = false) ∧
    (∃ (s u v : State) (chars : List Byte) (at_ : Nat), u = s.advance at_ ∧ v = sayBytes u chars ∧ chipOn u = true ∧
        gestaServes u = true ∧ isSafe u = false ∧ consService u = true ∧ conLine chars = some (.serviceOnForce, [])) ∧
    (∃ (s u v : State) (chars : List Byte) (at_ : Nat), u = s.advance at_ ∧ v = sayBytes u chars ∧ chipOn u = true ∧
        gestaServes u = true ∧ isSafe u = false ∧ consService u = true ∧ conLine chars = some (.serviceOff, [])) :=
  ⟨⟨r, _, 0, rfl, by decide +kernel⟩,
  ⟨gesta, _, _, (typed "REG WR"), 0, 3, ((conLine (typed "REG WR")).get (by decide +kernel)).2, rfl, rfl,
      (Option.some_get _).symm.trans (congrArg some (pair_of (by decide +kernel))), by decide +kernel⟩,
  ⟨gesta, _, _, (typed "FAULT CLEAR"), 0, 3, ((conLine (typed "FAULT CLEAR")).get (by decide +kernel)).2, rfl, rfl,
      (Option.some_get _).symm.trans (congrArg some (pair_of (by decide +kernel))), by decide +kernel⟩,
  ⟨gesta, _, _, (typed "ATEST"), 0, 3, ((conLine (typed "ATEST")).get (by decide +kernel)).2, rfl, rfl,
      (Option.some_get _).symm.trans (congrArg some (pair_of (by decide +kernel))), by decide +kernel⟩,
  ⟨gesta, _, _, (typed "SERVICE PORT"), 0, 3, ((conLine (typed "SERVICE PORT")).get (by decide +kernel)).2, rfl, rfl,
      (Option.some_get _).symm.trans (congrArg some (pair_of (by decide +kernel))), by decide +kernel⟩,
  ⟨gesta, _, _, (typed "SERVICE ON"), 0, 3, rfl, rfl, by decide +kernel⟩,
  ⟨gesta, _, _, (typed "SERVICE ON FORCE"), 0, 3, rfl, rfl, by decide +kernel⟩,
  ⟨gesta, _, _, (typed "SERVICE OFF"), 0, 3, rfl, rfl, by decide +kernel⟩,
  ⟨owned, _, _, (typed "REG WR 0 1"), 0, ((conLine (typed "REG WR 0 1")).get (by decide +kernel)).2, 0, 1, rfl, rfl,
      (Option.some_get _).symm.trans (congrArg some (pair_of (by decide +kernel))), by decide +kernel⟩,
  ⟨(inStage owned 0 10), _, _, (typed "REG WR 0x3E00010 0x80000000"), 0,
      ((conLine (typed "REG WR 0x3E00010 0x80000000")).get (by decide +kernel)).2, _, 2147483648, rfl, rfl,
      (Option.some_get _).symm.trans (congrArg some (pair_of (by decide +kernel))), rfl, by decide +kernel⟩,
  ⟨owned, _, _, (typed "REG WR 1 1"), 0, ((conLine (typed "REG WR 1 1")).get (by decide +kernel)).2, 1, 1, rfl, rfl,
      (Option.some_get _).symm.trans (congrArg some (pair_of (by decide +kernel))), by decide +kernel⟩,
  ⟨owned, _, _, (typed "REG WR"), 0, ((conLine (typed "REG WR")).get (by decide +kernel)).2, rfl, rfl,
      (Option.some_get _).symm.trans (congrArg some (pair_of (by decide +kernel))), by decide +kernel⟩,
  ⟨owned, _, _, (typed "FAULT CLEAR 0"), 0, ((conLine (typed "FAULT CLEAR 0")).get (by decide +kernel)).2, 0, rfl, rfl,
      (Option.some_get _).symm.trans (congrArg some (pair_of (by decide +kernel))), by decide +kernel⟩,
  ⟨owned, _, _, (typed "FAULT CLEAR"), 0, ((conLine (typed "FAULT CLEAR")).get (by decide +kernel)).2, rfl, rfl,
      (Option.some_get _).symm.trans (congrArg some (pair_of (by decide +kernel))), by decide +kernel⟩,
  ⟨owned, _, _, (typed "ATEST 0"), 0, ((conLine (typed "ATEST 0")).get (by decide +kernel)).2, 0, 0, rfl, rfl,
      (Option.some_get _).symm.trans (congrArg some (pair_of (by decide +kernel))), by decide +kernel⟩,
  ⟨owned, _, _, (typed "ATEST 0 1"), 0, ((conLine (typed "ATEST 0 1")).get (by decide +kernel)).2, 0, 1, rfl, rfl,
      (Option.some_get _).symm.trans (congrArg some (pair_of (by decide +kernel))), by decide +kernel⟩,
  ⟨owned, _, _, (typed "ATEST"), 0, ((conLine (typed "ATEST")).get (by decide +kernel)).2, rfl, rfl,
      (Option.some_get _).symm.trans (congrArg some (pair_of (by decide +kernel))), by decide +kernel⟩,
  ⟨owned, _, _, (typed "SERVICE PORT 0"), 0, ((conLine (typed "SERVICE PORT 0")).get (by decide +kernel)).2, 0, rfl, rfl,
      (Option.some_get _).symm.trans (congrArg some (pair_of (by decide +kernel))), by decide +kernel⟩,
  ⟨owned, _, _, (typed "SERVICE PORT"), 0, ((conLine (typed "SERVICE PORT")).get (by decide +kernel)).2, rfl, rfl,
      (Option.some_get _).symm.trans (congrArg some (pair_of (by decide +kernel))), by decide +kernel⟩,
  ⟨(inStage owned 0 10), _, _, (typed "SERVICE ON"), 0, rfl, rfl, by decide +kernel⟩,
  ⟨owned, _, _, (typed "SERVICE ON"), 0, rfl, rfl, by decide +kernel⟩,
  ⟨owned, _, _, (typed "SERVICE ON FORCE"), 0, rfl, rfl, by decide +kernel⟩,
  ⟨owned, _, _, (typed "SERVICE OFF"), 0, rfl, rfl, by decide +kernel⟩⟩

theorem witness_ConsoleResets :
    (∃ (s u : State) (at_ : Nat), u = s.advance at_ ∧ chipOn u = true) ∧
    (∃ (s u v : State) (chars : List Byte) (at_ e p : Nat) (args : List (Option Nat)), u = s.advance at_ ∧
        v = sayBytes u chars ∧ args = [some p] ∧ chipOn u = true ∧ gestaServes u = true ∧ p < 80 ∧ (isSafe u = true ∧
        e = 8 ∨ isSafe u = false ∧ consService u = false ∧ e = 3 ∨ isSafe u = false ∧ consService u = true ∧
        u.gmc.service = false ∧ u.gmc.svc.contains p = false ∧ e = 4) ∧ conLine chars = some (.resetPort, args)) ∧
    (∃ (s u v : State) (chars : List Byte) (at_ e p : Nat) (args : List (Option Nat)), u = s.advance at_ ∧
        v = sayBytes u chars ∧ args = [some p] ∧ chipOn u = true ∧ gestaServes u = true ∧ p < 80 ∧ (isSafe u = true ∧
        e = 8 ∨ isSafe u = false ∧ consService u = false ∧ e = 3 ∨ isSafe u = false ∧ consService u = true ∧
        u.gmc.service = false ∧ u.gmc.svc.contains p = false ∧ e = 4) ∧ conLine chars = some (.resetPump, [])) ∧
    (∃ (s u v : State) (chars : List Byte) (at_ e p : Nat) (args : List (Option Nat)), u = s.advance at_ ∧
        v = sayBytes u chars ∧ args = [some p] ∧ chipOn u = true ∧ gestaServes u = true ∧ p < 80 ∧ (isSafe u = true ∧
        e = 8 ∨ isSafe u = false ∧ consService u = false ∧ e = 3 ∨ isSafe u = false ∧ consService u = true ∧
        u.gmc.service = false ∧ u.gmc.svc.contains p = false ∧ e = 4) ∧ conLine chars = some (.resetPool, [])) ∧
    (∃ (s u v : State) (chars : List Byte) (at_ e p : Nat) (args : List (Option Nat)), u = s.advance at_ ∧
        v = sayBytes u chars ∧ args = [some p] ∧ chipOn u = true ∧ gestaServes u = true ∧ p < 80 ∧ (isSafe u = true ∧
        e = 8 ∨ isSafe u = false ∧ consService u = false ∧ e = 3 ∨ isSafe u = false ∧ consService u = true ∧
        u.gmc.service = false ∧ u.gmc.svc.contains p = false ∧ e = 4) ∧ conLine chars = some (.resetCore, [])) ∧
    (∃ (s u v : State) (chars : List Byte) (at_ e p : Nat) (args : List (Option Nat)), u = s.advance at_ ∧
        v = sayBytes u chars ∧ args = [some p] ∧ chipOn u = true ∧ gestaServes u = true ∧ p < 80 ∧ (isSafe u = true ∧
        e = 8 ∨ isSafe u = false ∧ consService u = false ∧ e = 3 ∨ isSafe u = false ∧ consService u = true ∧
        u.gmc.service = false ∧ u.gmc.svc.contains p = false ∧ e = 4) ∧ conLine chars = some (.resetGmc, [])) ∧
    (∃ (s u v : State) (chars : List Byte) (at_ : Nat) (args : List (Option Nat)), u = s.advance at_ ∧ v = sayBytes u chars ∧
        conLine chars = some (.resetPort, args) ∧ chipOn u = true ∧ gestaServes u = true ∧ isSafe u = false ∧
        consService u = true ∧ arg1 args 80 = none) ∧
    (∃ (s u v : State) (chars : List Byte) (at_ : Nat) (args : List (Option Nat)) (p : Nat), u = s.advance at_ ∧
        v = sayBytes u chars ∧ conLine chars = some (.resetPort, args) ∧ chipOn u = true ∧ gestaServes u = true ∧
        isSafe u = false ∧ consService u = true ∧ args = [some p] ∧ p < 80 ∧
        (u.gmc.service = true ∨ u.gmc.svc.contains p = true)) ∧
    (∃ (s u v : State) (chars : List Byte) (at_ : Nat), u = s.advance at_ ∧ v = sayBytes u chars ∧ chipOn u = true ∧
        gestaServes u = true ∧ isSafe u = false ∧ consService u = true ∧ u.gmc.service = true ∧
        conLine chars = some (.resetPump, [])) ∧
    (∃ (s u v : State) (chars : List Byte) (at_ : Nat), u = s.advance at_ ∧ v = sayBytes u chars ∧ chipOn u = true ∧
        gestaServes u = true ∧ isSafe u = false ∧ consService u = true ∧ u.gmc.service = true ∧
        conLine chars = some (.resetPool, [])) ∧
    (∃ (s u v : State) (chars : List Byte) (at_ : Nat), u = s.advance at_ ∧ v = sayBytes u chars ∧ chipOn u = true ∧
        gestaServes u = true ∧ isSafe u = false ∧ consService u = true ∧ u.gmc.service = true ∧
        conLine chars = some (.resetCore, [])) ∧
    (∃ (s u v : State) (chars : List Byte) (at_ : Nat), u = s.advance at_ ∧ v = sayBytes u chars ∧ chipOn u = true ∧
        gestaServes u = true ∧ isSafe u = false ∧ consService u = true ∧ u.gmc.service = true ∧
        conLine chars = some (.resetGmc, [])) :=
  ⟨⟨r, _, 0, rfl, by decide +kernel⟩,
  ⟨gesta, _, _, (typed "RESET PORT 0"), 0, 3, 0, _, rfl, rfl, rfl, by decide +kernel⟩,
  ⟨gesta, _, _, (typed "RESET PUMP"), 0, 3, 0, _, rfl, rfl, rfl, by decide +kernel⟩,
  ⟨gesta, _, _, (typed "RESET POOL"), 0, 3, 0, _, rfl, rfl, rfl, by decide +kernel⟩,
  ⟨gesta, _, _, (typed "RESET CORE"), 0, 3, 0, _, rfl, rfl, rfl, by decide +kernel⟩,
  ⟨gesta, _, _, (typed "RESET GMC"), 0, 3, 0, _, rfl, rfl, rfl, by decide +kernel⟩,
  ⟨owned, _, _, (typed "RESET PORT"), 0, ((conLine (typed "RESET PORT")).get (by decide +kernel)).2, rfl, rfl,
      (Option.some_get _).symm.trans (congrArg some (pair_of (by decide +kernel))), by decide +kernel⟩,
  ⟨owned, _, _, (typed "RESET PORT 0"), 0, ((conLine (typed "RESET PORT 0")).get (by decide +kernel)).2, 0, rfl, rfl,
      (Option.some_get _).symm.trans (congrArg some (pair_of (by decide +kernel))), by decide +kernel⟩,
  ⟨owned, _, _, (typed "RESET PUMP"), 0, rfl, rfl, by decide +kernel⟩,
  ⟨owned, _, _, (typed "RESET POOL"), 0, rfl, rfl, by decide +kernel⟩,
  ⟨owned, _, _, (typed "RESET CORE"), 0, rfl, rfl, by decide +kernel⟩,
  ⟨owned, _, _, (typed "RESET GMC"), 0, rfl, rfl, by decide +kernel⟩⟩

theorem witness_SelfTestsQuiet :
    (∃ (s u : State) (at_ : Nat), u = s.advance at_ ∧ chipOn u = true) ∧
    (∃ (s u v : State) (chars : List Byte) (at_ e : Nat) (cut : Bool), u = s.advance at_ ∧ v = sayBytes u chars ∧
        chipOn u = true ∧ gestaServes u = true ∧ (isSafe u = true ∧ e = 8 ∨ isSafe u = false ∧ consService u = false ∧
        e = 3 ∨ isSafe u = false ∧ consService u = true ∧ cut = true ∧ u.rd F.GRP_ENT_STATE 0x010 = 0 ∧ e = 7) ∧
        conLine chars = some (.selftestRails, [])) ∧
    (∃ (s u v : State) (chars : List Byte) (at_ e : Nat) (cut : Bool), u = s.advance at_ ∧ v = sayBytes u chars ∧
        chipOn u = true ∧ gestaServes u = true ∧ (isSafe u = true ∧ e = 8 ∨ isSafe u = false ∧ consService u = false ∧
        e = 3 ∨ isSafe u = false ∧ consService u = true ∧ cut = true ∧ u.rd F.GRP_ENT_STATE 0x010 = 0 ∧ e = 7) ∧
        conLine chars = some (.selftestSensors, [])) ∧
    (∃ (s u v : State) (chars : List Byte) (at_ e : Nat) (cut : Bool), u = s.advance at_ ∧ v = sayBytes u chars ∧
        chipOn u = true ∧ gestaServes u = true ∧ (isSafe u = true ∧ e = 8 ∨ isSafe u = false ∧ consService u = false ∧
        e = 3 ∨ isSafe u = false ∧ consService u = true ∧ cut = true ∧ u.rd F.GRP_ENT_STATE 0x010 = 0 ∧ e = 7) ∧
        conLine chars = some (.selftestCisterns, [])) ∧
    (∃ (s u v : State) (chars : List Byte) (at_ e : Nat) (cut : Bool), u = s.advance at_ ∧ v = sayBytes u chars ∧
        chipOn u = true ∧ gestaServes u = true ∧ (isSafe u = true ∧ e = 8 ∨ isSafe u = false ∧ consService u = false ∧
        e = 3 ∨ isSafe u = false ∧ consService u = true ∧ cut = true ∧ u.rd F.GRP_ENT_STATE 0x010 = 0 ∧ e = 7) ∧
        conLine chars = some (.selftestGroup, [])) ∧
    (∃ (s u v : State) (chars : List Byte) (at_ e : Nat) (cut : Bool), u = s.advance at_ ∧ v = sayBytes u chars ∧
        chipOn u = true ∧ gestaServes u = true ∧ (isSafe u = true ∧ e = 8 ∨ isSafe u = false ∧ consService u = false ∧
        e = 3 ∨ isSafe u = false ∧ consService u = true ∧ cut = true ∧ u.rd F.GRP_ENT_STATE 0x010 = 0 ∧ e = 7) ∧
        conLine chars = some (.selftestPumps, [])) ∧
    (∃ (s u v : State) (chars : List Byte) (at_ : Nat) (units : List Nat), u = s.advance at_ ∧ v = sayBytes u chars ∧
        units = ((List.range 168).filter fun n => pumpState v n ≠ 3) ∧ chipOn u = true ∧ gestaServes u = true ∧
        isSafe u = false ∧ consService u = true ∧ conLine chars = some (.selftestRails, [])) ∧
    (∃ (s u v : State) (chars : List Byte) (at_ : Nat) (units : List Nat), u = s.advance at_ ∧ v = sayBytes u chars ∧
        units = ((List.range 168).filter fun n => pumpState v n ≠ 3) ∧ chipOn u = true ∧ gestaServes u = true ∧
        isSafe u = false ∧ consService u = true ∧ conLine chars = some (.selftestSensors, [])) ∧
    (∃ (s u v a : State) (chars : List Byte) (at_ : Nat) (units : List Nat), u = s.advance at_ ∧ v = sayBytes u chars ∧
        units = ((List.range 168).filter fun n => pumpState v n ≠ 3) ∧
        a = (if u.gmc.service = true then ((allChunks v).filter fun e => e.2.lines != 0).foldl (fun s e => giveUpChunk s e.1 e.2) v else v) ∧
        chipOn u = true ∧ gestaServes u = true ∧ isSafe u = false ∧ consService u = true ∧
        conLine chars = some (.selftestCisterns, [])) ∧
    (∃ (s u v b c d : State) (chars : List Byte) (at_ : Nat) (units vec : List Nat) (fails : List (Nat × Nat)) (ev : BootEv),
        u = s.advance at_ ∧ v = sayBytes u chars ∧ units = ((List.range 168).filter fun n => pumpState v n ≠ 3) ∧
        b = leaveAtest (units.foldl (fun s n => if vec.contains n ∧
        pumpState (pumpTestEnd (pumpTestGo s n) n (mgetD fails n 0)) n ≤ 1 then retirePump (pumpTestEnd (pumpTestGo s n) n (mgetD fails n 0)) n 4 else pumpTestEnd (pumpTestGo s n) n (mgetD fails n 0)) v) ev 4 0xFF ∧
        c = (List.range 168).foldl (fun t n => sayBytes t (leBytes 1 n ++ leBytes 1 (pumpState t n) ++ leBytes 2 (t.rd F.PMP_TEST_NFAIL n) ++ leBytes 4 (vectorWord v n (vec.contains n)))) b ∧
        d = sayBytes { c with freeCtr := c.freeCtr + 168 } (leBytes 1 (c.rd0 F.PMP_POOL_ACTIVE) ++ leBytes 1 (c.rd0 F.PMP_POOL_SPARES)) ∧
        chipOn u = true ∧ gestaServes u = true ∧ isSafe u = false ∧ consService u = true ∧
        conLine chars = some (.selftestPumps, [])) ∧
    (∃ (s u v d : State) (chars : List Byte) (at_ : Nat) (ev : BootEv), u = s.advance at_ ∧ v = sayBytes u chars ∧
        d = declareTestGroup v ev ∧ chipOn u = true ∧ gestaServes u = true ∧ isSafe u = false ∧ consService u = true ∧
        conLine chars = some (.selftestGroup, []) ∧ u.rd F.GRP_ENT_STATE 0x010 ≠ 0) ∧
    (∃ (s u v d e : State) (chars : List Byte) (at_ : Nat) (cut ok : Bool) (ev : BootEv), u = s.advance at_ ∧
        v = sayBytes u chars ∧ d = declareTestGroup v ev ∧ cut = false ∧
        e = (if ok = true then ((d.wr0 F.GRP_ABORT_LAST_CODE 2).wr0 F.GRP_ABORT_LAST_GID 0x010).wr0 F.GRP_ABORT_SEQ_SEQ 0 else d) ∧
        chipOn u = true ∧ gestaServes u = true ∧ isSafe u = false ∧ consService u = true ∧
        conLine chars = some (.selftestGroup, []) ∧ u.rd F.GRP_ENT_STATE 0x010 = 0 ∧ d.rd F.GRP_ENT_STATE 0x010 = 2) ∧
    (∃ (s u v d f : State) (chars : List Byte) (at_ : Nat) (cut : Bool) (ev : BootEv), u = s.advance at_ ∧
        v = sayBytes u chars ∧ d = declareTestGroup v ev ∧ cut = false ∧ f = resetFields d .GRP_ENT 0x010 ∧ chipOn u = true ∧
        gestaServes u = true ∧ isSafe u = false ∧ consService u = true ∧ conLine chars = some (.selftestGroup, []) ∧
        u.rd F.GRP_ENT_STATE 0x010 = 0 ∧ d.rd F.GRP_ENT_STATE 0x010 ≠ 2) :=
  ⟨⟨r, _, 0, rfl, by decide +kernel⟩,
  ⟨(upPorts (rack owned) 16 8), _, _, (typed "SELFTEST RAILS"), 0, 7, true, rfl, rfl, by decide +kernel⟩,
  ⟨(upPorts (rack owned) 16 8), _, _, (typed "SELFTEST SENSORS"), 0, 7, true, rfl, rfl, by decide +kernel⟩,
  ⟨(upPorts (rack owned) 16 8), _, _, (typed "SELFTEST CISTERNS"), 0, 7, true, rfl, rfl, by decide +kernel⟩,
  ⟨(upPorts (rack owned) 16 8), _, _, (typed "SELFTEST GROUP"), 0, 7, true, rfl, rfl, by decide +kernel⟩,
  ⟨(upPorts (rack owned) 16 8), _, _, (typed "SELFTEST PUMPS"), 0, 7, true, rfl, rfl, by decide +kernel⟩,
  ⟨owned, _, _, (typed "SELFTEST RAILS"), 0, _, rfl, rfl, rfl, by decide +kernel⟩,
  ⟨owned, _, _, (typed "SELFTEST SENSORS"), 0, _, rfl, rfl, rfl, by decide +kernel⟩,
  ⟨owned, _, _, _, (typed "SELFTEST CISTERNS"), 0, _, rfl, rfl, rfl, rfl, by decide +kernel⟩,
  ⟨owned, _, _, _, _, _, (typed "SELFTEST PUMPS"), 0, _, ([]), ([]), ev0, rfl, rfl, rfl, rfl, rfl, rfl, by decide +kernel⟩,
  ⟨(wrs (owned) [(F.GRP_ENT_STATE, 16, 2)]), _, _, _, (typed "SELFTEST GROUP"), 0, ev0, rfl, rfl, rfl, by decide +kernel⟩,
  ⟨(upPorts (rack owned) 16 8), _, _, _, _, (typed "SELFTEST GROUP"), 0, _, false, ev0, rfl, rfl, rfl, rfl, rfl,
      by decide +kernel⟩,
  ⟨owned, _, _, _, _, (typed "SELFTEST GROUP"), 0, _, ev0, rfl, rfl, rfl, rfl, rfl, by decide +kernel⟩⟩

theorem witness_SelfTestsBench :
    (∃ (s u : State) (at_ : Nat), u = s.advance at_ ∧ chipOn u = true) ∧
    (∃ (s u v : State) (chars : List Byte) (at_ e p k : Nat), u = s.advance at_ ∧ v = sayBytes u chars ∧ chipOn u = true ∧
        gestaServes u = true ∧ p < 80 ∧ 1 ≤ k ∧ k ≤ 3 ∧ (isSafe u = true ∧ e = 8 ∨ isSafe u = false ∧ consService u = false ∧
        e = 3 ∨ isSafe u = false ∧ consService u = true ∧ u.gmc.service = false ∧ u.gmc.svc.contains p = false ∧ e = 4) ∧
        conLine chars = some (.selftestLanes, [some p, some k])) ∧
    (∃ (s u v : State) (chars : List Byte) (at_ e p k : Nat), u = s.advance at_ ∧ v = sayBytes u chars ∧ chipOn u = true ∧
        gestaServes u = true ∧ p < 80 ∧ 1 ≤ k ∧ k ≤ 3 ∧ (isSafe u = true ∧ e = 8 ∨ isSafe u = false ∧ consService u = false ∧
        e = 3 ∨ isSafe u = false ∧ consService u = true ∧ u.gmc.service = false ∧ u.gmc.svc.contains p = false ∧ e = 4) ∧
        conLine chars = some (.selftestPort, [some p])) ∧
    (∃ (s u v : State) (chars : List Byte) (at_ e p k : Nat), u = s.advance at_ ∧ v = sayBytes u chars ∧ chipOn u = true ∧
        gestaServes u = true ∧ p < 80 ∧ 1 ≤ k ∧ k ≤ 3 ∧ (isSafe u = true ∧ e = 8 ∨ isSafe u = false ∧ consService u = false ∧
        e = 3 ∨ isSafe u = false ∧ consService u = true ∧ u.gmc.service = false ∧ u.gmc.svc.contains p = false ∧ e = 4) ∧
        conLine chars = some (.selftestHbm, [some 0])) ∧
    (∃ (s u v : State) (chars : List Byte) (at_ e p k : Nat), u = s.advance at_ ∧ v = sayBytes u chars ∧ chipOn u = true ∧
        gestaServes u = true ∧ p < 80 ∧ 1 ≤ k ∧ k ≤ 3 ∧ (isSafe u = true ∧ e = 8 ∨ isSafe u = false ∧ consService u = false ∧
        e = 3 ∨ isSafe u = false ∧ consService u = true ∧ u.gmc.service = false ∧ u.gmc.svc.contains p = false ∧ e = 4) ∧
        conLine chars = some (.selftestDimm, [some 0])) ∧
    (∃ (s u v : State) (chars : List Byte) (at_ e p k : Nat), u = s.advance at_ ∧ v = sayBytes u chars ∧ chipOn u = true ∧
        gestaServes u = true ∧ p < 80 ∧ 1 ≤ k ∧ k ≤ 3 ∧ (isSafe u = true ∧ e = 8 ∨ isSafe u = false ∧ consService u = false ∧
        e = 3 ∨ isSafe u = false ∧ consService u = true ∧ u.gmc.service = false ∧ u.gmc.svc.contains p = false ∧ e = 4) ∧
        conLine chars = some (.selftestWell, [])) ∧
    (∃ (s u v : State) (chars : List Byte) (at_ e p k : Nat), u = s.advance at_ ∧ v = sayBytes u chars ∧ chipOn u = true ∧
        gestaServes u = true ∧ p < 80 ∧ 1 ≤ k ∧ k ≤ 3 ∧ (isSafe u = true ∧ e = 8 ∨ isSafe u = false ∧ consService u = false ∧
        e = 3 ∨ isSafe u = false ∧ consService u = true ∧ u.gmc.service = false ∧ u.gmc.svc.contains p = false ∧ e = 4) ∧
        conLine chars = some (.selftestSync, [])) ∧
    (∃ (s u v : State) (chars : List Byte) (at_ e p k : Nat), u = s.advance at_ ∧ v = sayBytes u chars ∧ chipOn u = true ∧
        gestaServes u = true ∧ p < 80 ∧ 1 ≤ k ∧ k ≤ 3 ∧ (isSafe u = true ∧ e = 8 ∨ isSafe u = false ∧ consService u = false ∧
        e = 3 ∨ isSafe u = false ∧ consService u = true ∧ u.gmc.service = false ∧ u.gmc.svc.contains p = false ∧ e = 4) ∧
        conLine chars = some (.selftestRooms, [])) ∧
    (∃ (s u v : State) (chars : List Byte) (at_ : Nat) (args : List (Option Nat)), u = s.advance at_ ∧ v = sayBytes u chars ∧
        conLine chars = some (.selftestPort, args) ∧ chipOn u = true ∧ gestaServes u = true ∧ isSafe u = false ∧
        consService u = true ∧ arg1 args 80 = none) ∧
    (∃ (s u v : State) (chars : List Byte) (at_ p k : Nat), u = s.advance at_ ∧ v = sayBytes u chars ∧ chipOn u = true ∧
        gestaServes u = true ∧ isSafe u = false ∧ consService u = true ∧ conLine chars = some (.selftestLanes, [some p,
        some k]) ∧ (80 ≤ p ∨ k = 0 ∨ 3 < k)) ∧
    (∃ (s u v : State) (chars : List Byte) (at_ p : Nat), u = s.advance at_ ∧ v = sayBytes u chars ∧ chipOn u = true ∧
        gestaServes u = true ∧ isSafe u = false ∧ consService u = true ∧ p < 80 ∧
        (u.gmc.service = true ∨ u.gmc.svc.contains p = true) ∧ conLine chars = some (.selftestPort, [some p]) ∧
        u.portMode p = 0) ∧
    (∃ (s u v : State) (chars : List Byte) (at_ : Nat) (cut : Bool) (p : Nat), u = s.advance at_ ∧ v = sayBytes u chars ∧
        cut = true ∧ chipOn u = true ∧ gestaServes u = true ∧ isSafe u = false ∧ consService u = true ∧ p < 80 ∧
        (u.gmc.service = true ∨ u.gmc.svc.contains p = true) ∧ conLine chars = some (.selftestPort, [some p]) ∧
        u.portMode p ≠ 0) ∧
    (∃ (s u v a : State) (chars : List Byte) (at_ : Nat) (cut : Bool) (bad : List Nat) (ev : BootEv) (p : Nat),
        u = s.advance at_ ∧ v = sayBytes u chars ∧ cut = false ∧
        a = (portLanes p).foldl (fun s l => scanLane s ev l (bad.contains l)) (setEn v ev p 1) ∧ chipOn u = true ∧
        gestaServes u = true ∧ isSafe u = false ∧ consService u = true ∧ p < 80 ∧
        (u.gmc.service = true ∨ u.gmc.svc.contains p = true) ∧ conLine chars = some (.selftestPort, [some p]) ∧
        u.portMode p ≠ 0) ∧
    (∃ (s u v : State) (chars : List Byte) (at_ p k : Nat), u = s.advance at_ ∧ v = sayBytes u chars ∧ chipOn u = true ∧
        gestaServes u = true ∧ isSafe u = false ∧ consService u = true ∧ p < 80 ∧
        (u.gmc.service = true ∨ u.gmc.svc.contains p = true) ∧ 1 ≤ k ∧ k ≤ 3 ∧ conLine chars = some (.selftestLanes, [some p,
        some k]) ∧ u.portMode p = 0) ∧
    (∃ (s u v : State) (chars : List Byte) (at_ : Nat) (cut : Bool) (p k : Nat), u = s.advance at_ ∧ v = sayBytes u chars ∧
        cut = true ∧ chipOn u = true ∧ gestaServes u = true ∧ isSafe u = false ∧ consService u = true ∧ p < 80 ∧
        (u.gmc.service = true ∨ u.gmc.svc.contains p = true) ∧ 1 ≤ k ∧ k ≤ 3 ∧ conLine chars = some (.selftestLanes, [some p,
        some k]) ∧ u.portMode p ≠ 0) ∧
    (∃ (s u v a b c : State) (chars : List Byte) (at_ : Nat) (cut : Bool) (errs : List Nat) (ev : BootEv) (p k : Nat),
        u = s.advance at_ ∧ v = sayBytes u chars ∧ cut = false ∧
        a = (portLanes p).foldl (fun s l => busWrite ev s (conCore s) (regOff .LNK_PRBS l) 0 15) ((portLanes p).foldl (fun s l => busWrite ev s (conCore s) (regOff .LNK_PRBS l) (3 * 2 ^ 30) 15) (conField (conField v ev F.PRT_CTRL_LOOP p k) ev F.PRT_CTRL_EN p 1)) ∧
        b = ((portLanes p).zipIdx).foldl (fun s e => modLane (s.wr F.LNK_PRBS_ERR_COUNT e.1 (min (2 ^ 32 - 1) (errs.getD e.2 0))) e.1 fun x => { x with prbsNs := (233 * 10 * 2 ^ 32 + 2124) / 2125, prbsAt := none }) a ∧
        c = conField (conField b ev F.PRT_CTRL_LOOP p 0) ev F.PRT_CTRL_EN p (v.rdSw F.PRT_CTRL_EN p) ∧ chipOn u = true ∧
        gestaServes u = true ∧ isSafe u = false ∧ consService u = true ∧ p < 80 ∧
        (u.gmc.service = true ∨ u.gmc.svc.contains p = true) ∧ 1 ≤ k ∧ k ≤ 3 ∧ conLine chars = some (.selftestLanes, [some p,
        some k]) ∧ u.portMode p ≠ 0) ∧
    (∃ (s u v : State) (chars : List Byte) (at_ : Nat) (units slots : List Nat) (args : List (Option Nat)),
        u = s.advance at_ ∧ v = sayBytes u chars ∧ units = ((List.range 20).filter fun d => devThere v d && !devOut v d) ∧
        slots = (if units.any (· < 4) then [0, 1, 2, 3, 4] else []) ++ (if units.any (· ≥ 4) then [8, 9, 10, 11,
        12] else []) ∧ conLine chars = some (.selftestHbm, args) ∧ chipOn u = true ∧ gestaServes u = true ∧ isSafe u = false ∧
        consService u = true ∧ u.gmc.service = true ∧ arg1 args 4 = none) ∧
    (∃ (s u v : State) (chars : List Byte) (at_ : Nat) (units slots : List Nat) (args : List (Option Nat)) (d : Nat),
        u = s.advance at_ ∧ v = sayBytes u chars ∧ units = ((List.range 20).filter fun d => devThere v d && !devOut v d) ∧
        slots = (if units.any (· < 4) then [0, 1, 2, 3, 4] else []) ++ (if units.any (· ≥ 4) then [8, 9, 10, 11,
        12] else []) ∧ conLine chars = some (.selftestHbm, args) ∧ chipOn u = true ∧ gestaServes u = true ∧ isSafe u = false ∧
        consService u = true ∧ u.gmc.service = true ∧ args = [some d] ∧ d < 4 ∧ devOut u d = true) ∧
    (∃ (s u v : State) (chars : List Byte) (at_ : Nat) (cut : Bool) (units slots : List Nat) (args : List (Option Nat)) (d : Nat),
        u = s.advance at_ ∧ v = sayBytes u chars ∧ units = ((List.range 20).filter fun d => devThere v d && !devOut v d) ∧
        slots = (if units.any (· < 4) then [0, 1, 2, 3, 4] else []) ++ (if units.any (· ≥ 4) then [8, 9, 10, 11,
        12] else []) ∧ conLine chars = some (.selftestHbm, args) ∧ cut = true ∧ chipOn u = true ∧ gestaServes u = true ∧
        isSafe u = false ∧ consService u = true ∧ u.gmc.service = true ∧ args = [some d] ∧ d < 4 ∧ devOut u d = false) ∧
    (∃ (s u v : State) (chars : List Byte) (at_ : Nat) (cut : Bool) (units slots : List Nat) (args : List (Option Nat)) (d : Nat),
        u = s.advance at_ ∧ v = sayBytes u chars ∧ units = ((List.range 20).filter fun d => devThere v d && !devOut v d) ∧
        slots = (if units.any (· < 4) then [0, 1, 2, 3, 4] else []) ++ (if units.any (· ≥ 4) then [8, 9, 10, 11,
        12] else []) ∧ conLine chars = some (.selftestHbm, args) ∧ cut = false ∧ chipOn u = true ∧ gestaServes u = true ∧
        isSafe u = false ∧ consService u = true ∧ u.gmc.service = true ∧ args = [some d] ∧ d < 4 ∧ devOut u d = false) ∧
    (∃ (s u v : State) (chars : List Byte) (at_ : Nat) (units slots : List Nat) (args : List (Option Nat)),
        u = s.advance at_ ∧ v = sayBytes u chars ∧ units = ((List.range 20).filter fun d => devThere v d && !devOut v d) ∧
        slots = (if units.any (· < 4) then [0, 1, 2, 3, 4] else []) ++ (if units.any (· ≥ 4) then [8, 9, 10, 11,
        12] else []) ∧ conLine chars = some (.selftestDimm, args) ∧ chipOn u = true ∧ gestaServes u = true ∧
        isSafe u = false ∧ consService u = true ∧ u.gmc.service = true ∧ arg1 args 16 = none) ∧
    (∃ (s u v : State) (chars : List Byte) (at_ : Nat) (units slots : List Nat) (args : List (Option Nat)) (d : Nat),
        u = s.advance at_ ∧ v = sayBytes u chars ∧ units = ((List.range 20).filter fun d => devThere v d && !devOut v d) ∧
        slots = (if units.any (· < 4) then [0, 1, 2, 3, 4] else []) ++ (if units.any (· ≥ 4) then [8, 9, 10, 11,
        12] else []) ∧ conLine chars = some (.selftestDimm, args) ∧ chipOn u = true ∧ gestaServes u = true ∧
        isSafe u = false ∧ consService u = true ∧ u.gmc.service = true ∧ args = [some d] ∧ d < 16 ∧
        (devOut u (4 + d) = true ∨ devThere u (4 + d) = false)) ∧
    (∃ (s u v : State) (chars : List Byte) (at_ : Nat) (cut : Bool) (units slots : List Nat) (args : List (Option Nat)) (d : Nat),
        u = s.advance at_ ∧ v = sayBytes u chars ∧ units = ((List.range 20).filter fun d => devThere v d && !devOut v d) ∧
        slots = (if units.any (· < 4) then [0, 1, 2, 3, 4] else []) ++ (if units.any (· ≥ 4) then [8, 9, 10, 11,
        12] else []) ∧ conLine chars = some (.selftestDimm, args) ∧ cut = true ∧ chipOn u = true ∧ gestaServes u = true ∧
        isSafe u = false ∧ consService u = true ∧ u.gmc.service = true ∧ args = [some d] ∧ d < 16 ∧ devOut u (4 + d) = false ∧
        devThere u (4 + d) = true) ∧
    (∃ (s u v : State) (chars : List Byte) (at_ : Nat) (cut : Bool) (units slots : List Nat) (args : List (Option Nat)) (d : Nat),
        u = s.advance at_ ∧ v = sayBytes u chars ∧ units = ((List.range 20).filter fun d => devThere v d && !devOut v d) ∧
        slots = (if units.any (· < 4) then [0, 1, 2, 3, 4] else []) ++ (if units.any (· ≥ 4) then [8, 9, 10, 11,
        12] else []) ∧ conLine chars = some (.selftestDimm, args) ∧ cut = false ∧ chipOn u = true ∧ gestaServes u = true ∧
        isSafe u = false ∧ consService u = true ∧ u.gmc.service = true ∧ args = [some d] ∧ d < 16 ∧ devOut u (4 + d) = false ∧
        devThere u (4 + d) = true) ∧
    (∃ (s u v : State) (chars : List Byte) (at_ : Nat) (cut : Bool) (units slots : List Nat), u = s.advance at_ ∧
        v = sayBytes u chars ∧ units = ((List.range 20).filter fun d => devThere v d && !devOut v d) ∧
        slots = (if units.any (· < 4) then [0, 1, 2, 3, 4] else []) ++ (if units.any (· ≥ 4) then [8, 9, 10, 11,
        12] else []) ∧ cut = true ∧ chipOn u = true ∧ gestaServes u = true ∧ isSafe u = false ∧ consService u = true ∧
        u.gmc.service = true ∧ conLine chars = some (.selftestWell, [])) ∧
    (∃ (s u v : State) (chars : List Byte) (at_ : Nat) (cut : Bool) (units slots : List Nat), u = s.advance at_ ∧
        v = sayBytes u chars ∧ units = ((List.range 20).filter fun d => devThere v d && !devOut v d) ∧
        slots = (if units.any (· < 4) then [0, 1, 2, 3, 4] else []) ++ (if units.any (· ≥ 4) then [8, 9, 10, 11,
        12] else []) ∧ cut = false ∧ chipOn u = true ∧ gestaServes u = true ∧ isSafe u = false ∧ consService u = true ∧
        u.gmc.service = true ∧ conLine chars = some (.selftestWell, [])) ∧
    (∃ (s u v : State) (chars : List Byte) (at_ : Nat) (cut : Bool) (units slots : List Nat), u = s.advance at_ ∧
        v = sayBytes u chars ∧ units = ((List.range 20).filter fun d => devThere v d && !devOut v d) ∧
        slots = (if units.any (· < 4) then [0, 1, 2, 3, 4] else []) ++ (if units.any (· ≥ 4) then [8, 9, 10, 11,
        12] else []) ∧ cut = true ∧ chipOn u = true ∧ gestaServes u = true ∧ isSafe u = false ∧ consService u = true ∧
        u.gmc.service = true ∧ conLine chars = some (.selftestSync, [])) ∧
    (∃ (s u v a : State) (chars : List Byte) (at_ : Nat) (cut : Bool) (units slots : List Nat), u = s.advance at_ ∧
        v = sayBytes u chars ∧ units = ((List.range 20).filter fun d => devThere v d && !devOut v d) ∧
        slots = (if units.any (· < 4) then [0, 1, 2, 3, 4] else []) ++ (if units.any (· ≥ 4) then [8, 9, 10, 11,
        12] else []) ∧ cut = false ∧
        a = (List.range 8192).foldl (fun s n => (setV ((resetWaiters s n).wr F.WEL_SO_TYPE n 0) n (Config.freeNat s.freeCtr % 2 ^ 64)).tick) v ∧
        chipOn u = true ∧ gestaServes u = true ∧ isSafe u = false ∧ consService u = true ∧ u.gmc.service = true ∧
        conLine chars = some (.selftestSync, [])) ∧
    (∃ (s u v : State) (chars : List Byte) (at_ : Nat) (unfit : Bool), u = s.advance at_ ∧ v = sayBytes u chars ∧
        unfit = (u.isSpine || decide (farSize u < 2 ^ 36) || (List.range 128).any (roomOn u)) ∧ chipOn u = true ∧
        gestaServes u = true ∧ isSafe u = false ∧ consService u = true ∧ u.gmc.service = true ∧
        conLine chars = some (.selftestRooms, []) ∧ unfit = true) ∧
    (∃ (s u v : State) (chars : List Byte) (at_ : Nat) (unfit : Bool), u = s.advance at_ ∧ v = sayBytes u chars ∧
        unfit = (u.isSpine || decide (farSize u < 2 ^ 36) || (List.range 128).any (roomOn u)) ∧ chipOn u = true ∧
        gestaServes u = true ∧ isSafe u = false ∧ consService u = true ∧ u.gmc.service = true ∧
        conLine chars = some (.selftestRooms, []) ∧ unfit = false ∧ semHolder u ≠ 0 ∧ semHolder u ≠ 3) ∧
    (∃ (s u v : State) (chars : List Byte) (at_ : Nat) (cut unfit : Bool), u = s.advance at_ ∧ v = sayBytes u chars ∧
        unfit = (u.isSpine || decide (farSize u < 2 ^ 36) || (List.range 128).any (roomOn u)) ∧ cut = true ∧ chipOn u = true ∧
        gestaServes u = true ∧ isSafe u = false ∧ consService u = true ∧ u.gmc.service = true ∧
        conLine chars = some (.selftestRooms, []) ∧ unfit = false ∧ (semHolder u = 0 ∨ semHolder u = 3)) ∧
    (∃ (s u v a b : State) (chars : List Byte) (at_ : Nat) (cut unfit : Bool) (bad : List Nat), u = s.advance at_ ∧
        v = sayBytes u chars ∧ unfit = (u.isSpine || decide (farSize u < 2 ^ 36) || (List.range 128).any (roomOn u)) ∧
        cut = false ∧
        a = ((List.range 4).filter fun r => !bad.contains r).foldl (fun s r => (testedRoom s r).cntW 26 2) (zeroTop v) ∧
        b = semFree (freeCounts a [24, 25]) ∧ chipOn u = true ∧ gestaServes u = true ∧ isSafe u = false ∧
        consService u = true ∧ u.gmc.service = true ∧ conLine chars = some (.selftestRooms, []) ∧ unfit = false ∧
        (semHolder u = 0 ∨ semHolder u = 3)) :=
  ⟨⟨r, _, 0, rfl, by decide +kernel⟩,
  ⟨gesta, _, _, (typed "SELFTEST LANES 0 LOOP 1"), 0, 3, 0, 1, rfl, rfl, by decide +kernel⟩,
  ⟨gesta, _, _, (typed "SELFTEST PORT 0"), 0, 3, 0, 3, rfl, rfl, by decide +kernel⟩,
  ⟨gesta, _, _, (typed "SELFTEST HBM 0"), 0, 3, 0, 3, rfl, rfl, by decide +kernel⟩,
  ⟨gesta, _, _, (typed "SELFTEST DIMM 0"), 0, 3, 0, 3, rfl, rfl, by decide +kernel⟩,
  ⟨gesta, _, _, (typed "SELFTEST WELL"), 0, 3, 0, 3, rfl, rfl, by decide +kernel⟩,
  ⟨gesta, _, _, (typed "SELFTEST SYNC"), 0, 3, 0, 3, rfl, rfl, by decide +kernel⟩,
  ⟨gesta, _, _, (typed "SELFTEST ROOMS"), 0, 3, 0, 3, rfl, rfl, by decide +kernel⟩,
  ⟨(rack owned), _, _, (typed "SELFTEST PORT"), 0, ((conLine (typed "SELFTEST PORT")).get (by decide +kernel)).2, rfl, rfl,
      (Option.some_get _).symm.trans (congrArg some (pair_of (by decide +kernel))), by decide +kernel⟩,
  ⟨owned, _, _, (typed "SELFTEST LANES 0 LOOP 0"), 0, 0, 0, rfl, rfl, by decide +kernel⟩,
  ⟨owned, _, _, (typed "SELFTEST PORT 0"), 0, 0, rfl, rfl, by decide +kernel⟩,
  ⟨(rack owned), _, _, (typed "SELFTEST PORT 0"), 0, _, 0, rfl, rfl, rfl, by decide +kernel⟩,
  ⟨(rack owned), _, _, _, (typed "SELFTEST PORT 0"), 0, _, ([]), ev0, 0, rfl, rfl, rfl, rfl, by decide +kernel⟩,
  ⟨(wrs owned [(F.WEL_FAR_CFG_NCH, 0, 8)]), _, _, (typed "SELFTEST LANES 0 LOOP 1"), 0, 0, 1, rfl, rfl, by decide +kernel⟩,
  ⟨(rack owned), _, _, (typed "SELFTEST LANES 0 LOOP 3"), 0, _, 0, 3, rfl, rfl, rfl, by decide +kernel⟩,
  ⟨(rack owned), _, _, _, _, _, (typed "SELFTEST LANES 0 LOOP 3"), 0, _, ([]), ev0, 0, 3, rfl, rfl, rfl, rfl, rfl, rfl,
      by decide +kernel⟩,
  ⟨(rack owned), _, _, (typed "SELFTEST HBM"), 0, _, _, ((conLine (typed "SELFTEST HBM")).get (by decide +kernel)).2, rfl,
      rfl, rfl, rfl, (Option.some_get _).symm.trans (congrArg some (pair_of (by decide +kernel))), by decide +kernel⟩,
  ⟨(wrs (owned) [(F.WEL_DEV_OUT, 0, 1)]), _, _, (typed "SELFTEST HBM 0"), 0, _, _,
      ((conLine (typed "SELFTEST HBM 0")).get (by decide +kernel)).2, 0, rfl, rfl, rfl, rfl,
      (Option.some_get _).symm.trans (congrArg some (pair_of (by decide +kernel))), by decide +kernel⟩,
  ⟨(rack owned), _, _, (typed "SELFTEST HBM 0"), 0, _, _, _, ((conLine (typed "SELFTEST HBM 0")).get (by decide +kernel)).2,
      0, rfl, rfl, rfl, rfl, (Option.some_get _).symm.trans (congrArg some (pair_of (by decide +kernel))), rfl,
      by decide +kernel⟩,
  ⟨(rack owned), _, _, (typed "SELFTEST HBM 0"), 0, _, _, _, ((conLine (typed "SELFTEST HBM 0")).get (by decide +kernel)).2,
      0, rfl, rfl, rfl, rfl, (Option.some_get _).symm.trans (congrArg some (pair_of (by decide +kernel))), rfl,
      by decide +kernel⟩,
  ⟨(rack owned), _, _, (typed "SELFTEST DIMM"), 0, _, _, ((conLine (typed "SELFTEST DIMM")).get (by decide +kernel)).2, rfl,
      rfl, rfl, rfl, (Option.some_get _).symm.trans (congrArg some (pair_of (by decide +kernel))), by decide +kernel⟩,
  ⟨(rack owned), _, _, (typed "SELFTEST DIMM 0"), 0, _, _, ((conLine (typed "SELFTEST DIMM 0")).get (by decide +kernel)).2, 0,
      rfl, rfl, rfl, rfl, (Option.some_get _).symm.trans (congrArg some (pair_of (by decide +kernel))), by decide +kernel⟩,
  ⟨(wrs owned [(F.WEL_FAR_CFG_NCH, 0, 8)]), _, _, (typed "SELFTEST DIMM 0"), 0, _, _, _,
      ((conLine (typed "SELFTEST DIMM 0")).get (by decide +kernel)).2, 0, rfl, rfl, rfl, rfl,
      (Option.some_get _).symm.trans (congrArg some (pair_of (by decide +kernel))), rfl, by decide +kernel⟩,
  ⟨(wrs owned [(F.WEL_FAR_CFG_NCH, 0, 8)]), _, _, (typed "SELFTEST DIMM 0"), 0, _, _, _,
      ((conLine (typed "SELFTEST DIMM 0")).get (by decide +kernel)).2, 0, rfl, rfl, rfl, rfl,
      (Option.some_get _).symm.trans (congrArg some (pair_of (by decide +kernel))), rfl, by decide +kernel⟩,
  ⟨owned, _, _, (typed "SELFTEST WELL"), 0, _, _, _, rfl, rfl, rfl, rfl, rfl, by decide +kernel⟩,
  ⟨owned, _, _, (typed "SELFTEST WELL"), 0, _, _, _, rfl, rfl, rfl, rfl, rfl, by decide +kernel⟩,
  ⟨owned, _, _, (typed "SELFTEST SYNC"), 0, _, _, _, rfl, rfl, rfl, rfl, rfl, by decide +kernel⟩,
  ⟨owned, _, _, _, (typed "SELFTEST SYNC"), 0, _, _, _, rfl, rfl, rfl, rfl, rfl, rfl, by decide +kernel⟩,
  ⟨owned, _, _, (typed "SELFTEST ROOMS"), 0, _, rfl, rfl, rfl, by decide +kernel⟩,
  ⟨(wrs (owned) [(F.WEL_FAR_CFG_NCH, 0, 8), (F.WEL_FAR_CFG_DIMM_GIB, 0, 256), (F.GLB_SEM_HOLDER, 0, 1)]), _, _,
      (typed "SELFTEST ROOMS"), 0, _, rfl, rfl, rfl, by decide +kernel⟩,
  ⟨(wrs owned [(F.WEL_FAR_CFG_NCH, 0, 8), (F.WEL_FAR_CFG_DIMM_GIB, 0, 256)]), _, _, (typed "SELFTEST ROOMS"), 0, _, _, rfl,
      rfl, rfl, rfl, by decide +kernel⟩,
  ⟨(wrs owned [(F.WEL_FAR_CFG_NCH, 0, 8), (F.WEL_FAR_CFG_DIMM_GIB, 0, 256)]), _, _, _, _, (typed "SELFTEST ROOMS"), 0, _, _,
      ([]), rfl, rfl, rfl, rfl, rfl, rfl, by decide +kernel⟩⟩

theorem witness_QueueRunsToItsEnd :
    ∃ (s t : State) (i : Instr) (rest : List Instr), exec i { s with pending := rest } = .next t :=
  ⟨r, _, .kick .host 0, [], by rw [exec_kick, execKick]; rfl⟩

theorem witness_AliveRuleKept :
    ∃ (s t : State), step s = .next t ∧ aliveRule s = true :=
  ⟨r, r, rfl, by decide +kernel⟩

theorem witness_ResetState :
    ∃ (s u : State) (lowNs at_ : Nat), u = s.advance at_ ∧ u.pin.perst = true ∧ 100 ≤ lowNs :=
  ⟨r, _, 100, 0, rfl, by decide +kernel⟩

theorem witness_StoredLines :
    ∃ (s t : State) (p n : Nat) (d : List Byte), d.length = n ∧ t = writeLines (linesOf p n) d s ∧ p % 64 = 0 ∧ n % 64 = 0 ∧
        (∀ l ∈ linesOf p n, winOf s l = none ∧ devOut s (devOf s l) = false) :=
  ⟨r, _, 0, _, ([]), rfl, rfl, by decide +kernel⟩

theorem witness_SafeStateIgnoresWrites :
    (∃ (s : State) (m : Master) (val be w i g n k off b kind c : Nat) (pset en : Bool) (ev : BootEv) (x : Instr),
        x ∈ ([ .glbPlaceWrite m val be, .lock m val be, .swcFwdWrite m b pset i val be, .sealA m, .sealB m, .inval m,
        .loadArm m, .timCtrlSrcWrite m val be, .ttBankWrite m b kind i w val be, .ttSealA m, .ttSealB m, .admitA m, .admitB m,
        .issue m, .revert m, .cancel m, .grpEntWrite m g w val be, .grpRankWrite m b i val be, .create m g, .createShape m g,
        .destroy m g, .abort m g, .retire m n, .testGo m n, .restore m n, .welFarCfgWrite m val be, .takeOut m n,
        .soCmdRead m val be, .soCmdFetchAdd m val be, .soCmdCompareSwap m val be, .soCmdSignal m val be,
        .soTypeWrite m n w val be, .valLoWrite m n val be, .valHiWrite m n val be, .hbLateClear m i val be, .drop m n,
        .retrain m n, .portEnWrite m n en, .loop m n k, .escanGo m n, .prbsRxEnWrite m n val be, .crEnWrite m n val be,
        .cqEnWrite m n val be, .tail n val be, .head n val be, .kick m c, .release m ev, .gmcRst m ev, .safeGo m, .coreWarm m,
        .pump m, .pool m, .portGo m n, .pwrCapHostWrite m val be, .pwrCapRackWrite m val be, .pwrBrkReqWrite m val be,
        .pwrThermCfgWrite m val be, .counterLowWrite m off val be, .counterHighWrite m off val be, .telBwCfgWrite m val be,
        .telRingCfgWrite m val be] : List Instr) ∧ isSafe s = true) ∧
    (∃ (s u : State) (at_ : Nat), u = s.advance at_ ∧ isSafe u = true) :=
  ⟨⟨wrs r [(F.FLT_STAT_SAFE, 0, 1)], .host, 0, 15, 0, 0, 0, 0, 0, 0, 0, 0, 0, false, false, ev0, .sealA .host, by simp,
      by decide +kernel⟩,
  ⟨(wrs r [(F.FLT_STAT_SAFE, 0, 1)]), _, 0, rfl, by decide +kernel⟩⟩

theorem witness_SumsHaveNoOrder :
    (∃ (n : Nat) (ls ms : List (List Acc)), ls.Perm ms ∧ (∀ l ∈ ls, l.length = n ∧ ∀ a ∈ l, a.cls ≤ 4)) ∧
    (∃ (n : Nat) (ls ms : List (List Acc)), ls ≠ [] ∧ ms ≠ [] ∧ (∀ l ∈ ls ++ ms, l.length = n ∧ ∀ a ∈ l, a.cls ≤ 4)) :=
  ⟨⟨0, ([]), ([]), by decide +kernel⟩,
  ⟨1, ([[⟨4, 5⟩], [⟨1, 7⟩]]), ([[⟨1, 7⟩], [⟨4, 5⟩]]), by decide +kernel⟩⟩

theorem witness_IntegerOutputs :
    ∃ (f : Nat) (lo hi : Int) (as_ : List Acc) (qs : List Int), ((f = 0x10 ∧ lo = -128 ∧ hi = 127) ∨ (f = 0x11 ∧
        lo = -2147483648 ∧ hi = 2147483647)) ∧ as_.map (·.sum) = qs.map (· * 2 ^ 149) :=
  ⟨0x10, (-128), 127, ([⟨0, 127 * 2 ^ 149⟩]), ([127]), by decide +kernel⟩

theorem witness_ReadsChangeNothing :
    ∃ (s t : State) (m : Master) (off v : Nat), readNow s m off = (v, t) :=
  ⟨r, _, .host, 0, _, pair_parts⟩

theorem witness_SemaphoreRules :
    (∃ (s : State) (m : Master), (semHolder s = 0 ∨ semHolder s = masterCode m)) ∧
    (∃ (s : State) (m : Master), semHolder s ≠ 0 ∧ semHolder s ≠ masterCode m) ∧
    (∃ (s : State) (m : Master) (val : Nat), semHolder s = masterCode m ∧ val % 2 = 1) ∧
    (∃ (s c : State), c = countReg s .host false (regOff .GLB_SEM 0) ∧ semHolder c = 0) ∧
    (∃ (s : State) (m : Master) (be : Nat), (semHolder s ≠ masterCode m ∨ be % 16 ≠ 15)) :=
  ⟨⟨r, .host, by decide +kernel⟩,
  ⟨(wrs r [(F.GLB_SEM_HOLDER, 0, 2)]), .host, by decide +kernel⟩,
  ⟨(wrs r [(F.GLB_SEM_HOLDER, 0, 1)]), .host, 1, by decide +kernel⟩,
  ⟨r, _, rfl, by decide +kernel⟩,
  ⟨r, .host, 15, by decide +kernel⟩⟩

theorem witness_SyncValues :
    (∃ (s : State) (n : Nat), n < 8192 ∧ soType s n ≠ 3) ∧
    (∃ (s : State) (n k : Nat), n < 8192 ∧ k < 8192 ∧ k ≠ n ∧ soType s n ≠ 3) ∧
    (∃ (s : State) (n a0 c : Nat), c = min (soValue s n % 2 ^ 32 + a0 % 2 ^ 32) (2 ^ 32 - 1) ∧ soType s n = 3) :=
  ⟨⟨r, 0, by decide +kernel⟩,
  ⟨r, 0, 1, by decide +kernel⟩,
  ⟨(wrs r [(F.WEL_SO_TYPE, 0, 3)]), 0, 0, _, rfl, by decide +kernel⟩⟩

end Sys2Proof.Tests
end

section
/-! PROOFS. The switch core and the forwarding banks (02 R51; 03 R70 to R77, R84 to R88; 04 R118): the rows of
the core answer their operation's next state wherever the core or the link runs, and what each operation does in
the case its rule names. -/

namespace Sys2Proof.Machine

open Sys2Proof

/-! ## Timed rows of a running core and of a running link -/

/-- A timed row of the core, its operands in range, answers its effect on the state at its moment (15 R424, R427). -/
theorem atTime_whenCore {s u : State} {at_ : Nat} {ok : Bool} {f : State → State} (hu : u = s.advance at_)
    (hok : ok = true) (hrun : coreRuns u = true) :
    atTime s at_ ok (fun s => whenCore s f) = .next (finish u (f u)) := by
  subst hu hok
  rw [atTime_run, whenCore_run hrun]

/-- The same for a row of the link layer (11 R313). -/
theorem atTime_whenLink {s u : State} {at_ : Nat} {ok : Bool} {f : State → State} (hu : u = s.advance at_)
    (hok : ok = true) (hrun : linkRuns u = true) :
    atTime s at_ ok (fun s => whenLink s f) = .next (finish u (f u)) := by
  subst hu hok
  rw [atTime_run, whenLink_run hrun]

/-! ## Register rows whose write is taken -/

/-- A register row, its operands in range, whose write the arbiter executes answers its effect on the counted state. -/
theorem atNow_rowWrite {s : State} {m : Master} {r : RegName} {i w val be : Nat} {ok : Bool} {f : State → State}
    (hok : ok = true) (h : takesWrite s m r i w = true) :
    atNow s ok (fun s => rowWrite s m r i w val be f) = .next (finish s (f (wrote s m r i w))) := by
  subst hok
  rw [atNow_run, rowWrite_taken h]

/-- The same for the row of a go bit, whose master the write has shown to be one. -/
theorem atNow_rowBit {s : State} {m : Master} {f : Field} {r : RegName} {i w : Nat} {tr : Bool} {eff : State → State}
    (hr : f.reg = r) (hw : f.word = w) (h : takesWrite s m r i w = true) :
    atNow s m.ok (fun s => rowBit s m f i tr eff) = .next (finish s (eff (wrote s m r i w))) := by
  rw [takesWrite_ok h, atNow_run, rowBit_taken hr hw h]

/-! ## The rows of cells -/

section Rows

variable {s u : State} {i k at_ pos src vc lp : Nat}

theorem exec_stageOneAdmit_run (hu : u = s.advance at_) (hrun : coreRuns u = true) (hi : i < 80) (hk : k < 80) :
    exec (.stageOneAdmit i k at_) s = .next (finish u (settleSwitch (stageOne u i k))) := by
  rw [exec_stageOneAdmit]
  exact atTime_whenCore hu (by simp [hi, hk]) hrun

theorem exec_stageTwoMove_run {par : Option Nat} (hu : u = s.advance at_) (hrun : coreRuns u = true) (hk : k < 80)
    (hpos : pos ≤ 80) :
    exec (.stageTwoMove k pos par at_) s = .next (finish u (settleSwitch (stageTwo u k pos par))) := by
  rw [exec_stageTwoMove]
  exact atTime_whenCore hu (by simp [hk, hpos]) hrun

theorem exec_resequencerTimeout_run (hu : u = s.advance at_) (hrun : coreRuns u = true) (hsrc : src < 160)
    (hpos : pos ≤ 80) (hvc : vc < 8) :
    exec (.resequencerTimeout src pos vc at_) s = .next (finish u (settleSwitch (reseqSkip u src pos vc))) := by
  rw [exec_resequencerTimeout]
  exact atTime_whenCore hu (by simp [hsrc, hpos, hvc]) hrun

theorem exec_interCellGapTimeout_run (hu : u = s.advance at_) (hrun : coreRuns u = true) (hlp : lp < 160)
    (hvc : vc < 8) :
    exec (.interCellGapTimeout lp vc at_) s = .next (finish u (settleSwitch (gapTimeout u lp vc))) := by
  rw [exec_interCellGapTimeout]
  exact atTime_whenCore hu (by simp [hlp, hvc]) hrun

theorem exec_egressCellSend_store {par : Option Nat} {tx : Bool} (hu : u = s.advance at_) (hrun : linkRuns u = true)
    (hlp : lp < 160) :
    exec (.egressCellSend lp ⟨par, none⟩ tx at_) s = .next (finish u (settleSwitch (egressSlot u lp par tx))) := by
  rw [exec_egressCellSend]
  exact atTime_whenLink hu (by simp [hlp]) hrun

theorem exec_egressCellSend_cistern {par : Option Nat} {tx spoilt : Bool} (hu : u = s.advance at_)
    (hrun : linkRuns u = true) (hlp : lp < 160) :
    exec (.egressCellSend lp ⟨par, some spoilt⟩ tx at_) s =
      .next (finish u (settleSwitch (egressCistern u lp par tx spoilt))) := by
  rw [exec_egressCellSend]
  exact atTime_whenLink hu (by simp [hlp]) hrun

end Rows

/-! ## Stage one (03 R70, R73) -/

theorem offerFirst_nil (s : State) (k : Nat) : offerFirst s k [] = none := rfl

theorem offerFirst_cons_admitted {s t : State} {k : Nat} {c : WaitCell} (cs : List WaitCell)
    (h : admitCell s k c = some t) : offerFirst s k (c :: cs) = some t := by
  simp only [offerFirst, h]

/-- With nothing at the injector slice, the port's cell is taken whoever had the turn, and the injector has the next. -/
theorem stageOne_port_only {s t : State} {i k y : Nat} {c : WaitCell} (hcyc : linkCycle s.now i k = some y)
    (hfree : useFree s.sw.oneUse i y 2 = true) (hinj : offerList s (80 + i) = []) (hport : offerList s i = [c])
    (hadm : admitCell s k c = some t) :
    stageOne s i k =
      modSw t fun w => { w with altPtr := mset 0 w.altPtr i 1, oneUse := useOne w.oneUse i y } := by
  simp only [stageOne, hcyc, hfree, hinj, hport, offerFirst_nil, offerFirst_cons_admitted [] hadm]
  cases mgetD s.sw.altPtr i 0 == 1 <;> rfl

/-! ## Stage two (03 R76) -/

/-- Round robin over one element finds it, before or behind the pointer. -/
theorem leastBy_filter_or_singleton (rank : CellRec → Nat) (p : CellRec → Bool) (c : CellRec) :
    (leastBy rank ([c].filter p)).or (leastBy rank [c]) = some c := by
  cases hp : p c <;> simp [hp, leastBy]

/-- No mirror copy stands among the heads, so none is dropped, and the one head the output store takes is moved. -/
theorem stageTwo_single_head {s : State} {k pos cl y : Nat} {c : CellRec} (hpos : pos ≠ 80)
    (hcyc : moveCycle s k pos = some y) (hheads : crosspointHeads s.sw k pos = [c]) (hmir : isMirCell c = false)
    (hcl : storeClass s.sw c false = some cl) :
    stageTwo s k pos none = touchElig (release (modSw s fun w =>
      { w with
        cells := w.cells.map fun d =>
          if d = c then { c with loc := .store, cls := cl, tArr := s.now, bad := c.bad || false } else d
        rrPtr := mset 0 w.rrPtr pos (c.src * 8 + c.vc + 1)
        twoUse := useOne w.twoUse k y }) (flowKey c.src pos c.vc)) (portOf c.tgt) c.vc := by
  have hdrop : ([c].filter fun d => isMirCell d && (storeClass s.sw d true).isNone) = [] := by simp [hmir]
  have htake : ([c].filter fun d => (storeClass s.sw d (isMirCell d)).isSome) = [c] := by simp [hmir, hcl]
  simp only [stageTwo, hcyc, hheads, hdrop, List.foldl_nil, htake, leastBy_filter_or_singleton, if_neg hpos, hmir, hcl,
    Option.getD_some, Option.isSome_none]

/-! ## The resequencer (03 R77) -/

/-- No packet has a copy under way at any output while none has sent a cell and no cell is released. -/
theorem reseqOpen_nil {w : SwitchSt} {src pos vc : Nat} (hrel : (w.cells.all fun d => !d.rel) = true)
    (hsent : (w.pkts.all fun p => p.tgts.all fun t => t.sent == 0) = true) :
    (w.pkts.flatMap fun p => if p.src == src && p.hdr.vc == vc then
        (p.tgts.filter fun t => posOf t.id == pos && t.live &&
          (t.sent > 0 || w.cells.any fun c => c.pid == p.pid && c.tgt == t.id && c.rel)).map fun t => (p.pid, t.id)
      else []) = [] := by
  simp only [List.all_eq_true, Bool.not_eq_true', beq_iff_eq] at hrel hsent
  rw [List.flatMap_eq_nil_iff]
  intro p hp
  split
  · rw [List.map_eq_nil_iff, List.filter_eq_nil_iff]
    intro t ht
    have hnone : (w.cells.any fun c => c.pid == p.pid && c.tgt == t.id && c.rel) = false := by
      rw [List.any_eq_false]
      intro c hc
      simp [hrel c hc]
    simp [hsent p hp t ht, hnone]
  · rfl

/-- The cell one past the number awaited stands at distance 1 from it. -/
theorem seqDistance_succ {e : Nat} : (e + 1 + 65536 - e) % 65536 = 1 := by omega

/-- One number is missing before the one cell that waits in the store: it is skipped, no copy is ended, kind 0x02. -/
theorem reseqSkip_single_gap {s : State} {src pos vc e : Nat} {c : CellRec} (hpos : pos ≠ 80) (he : e < 65535)
    (hexp : mgetD s.sw.seqExp (flowKey src pos vc) 0 = e)
    (hmine : (s.sw.cells.filter fun d => flowKey d.src (posOf d.tgt) d.vc == flowKey src pos vc && !d.rel) = [c])
    (hloc : c.loc = .store) (hseq : c.seq = e + 1) (hrel : (s.sw.cells.all fun d => !d.rel) = true)
    (hsent : (s.sw.pkts.all fun p => p.tgts.all fun t => t.sent == 0) = true) (hto : s.rd0 F.SWC_RESEQ_TO_TO ≠ 0)
    (hdue : c.tArr + 10 * s.rd0 F.SWC_RESEQ_TO_TO ≤ s.now) :
    reseqSkip s src pos vc = (release (modSw s fun w => { w with skips := w.skips ++ [(flowKey src pos vc, e)] })
      (flowKey src pos vc)).report 4 2 pos 0 0 0 := by
  have hlater : ([c].filter fun d => d.loc == .store && d.seq != e) = [c] := by simp [hloc, hseq]
  have hnum : e % 65536 = e := Nat.mod_eq_of_lt (by omega)
  simp only [reseqSkip, hexp, hmine, hlater, reseqOpen_nil hrel hsent, if_neg hpos]
  simp [hto, hdue, hseq, seqDistance_succ, hnum]

/-! ## Egress (04 R118) -/

section Egress

variable {s v : State} {lp vc tier : Nat} {par : Option Nat} {tx : Bool}

/-- A link that may send, with no cell of its own waiting, fills the slot idle when no queue is picked. -/
theorem egressSlot_none_picked (hopen : egressShut s lp = false) (hctl : (getLink s lp).ctlOut = [])
    (hup : s.linkUp lp = true) (hpause : s.paused lp = false) (hpick : pickVc s lp = (none, v)) :
    egressSlot s lp par tx = pushSlot v lp idleCell := by
  simp [egressSlot, hopen, hctl, hup, hpause, hpick]

theorem egressSlot_picked (hopen : egressShut s lp = false) (hctl : (getLink s lp).ctlOut = [])
    (hup : s.linkUp lp = true) (hpause : s.paused lp = false) (hpick : pickVc s lp = (some (tier, vc), v)) :
    egressSlot s lp par tx = serveVc v lp vc tier par tx := by
  simp [egressSlot, hopen, hctl, hup, hpause, hpick]

theorem egressSlot_control_first {h : Header} {hs : List Header} (hopen : egressShut s lp = false)
    (hctl : (getLink s lp).ctlOut = h :: hs) (hcred : credits s lp 0 ≠ 0) :
    egressSlot s lp par tx = pushCtl (modLink s lp fun l => { l with ctlOut := hs }) lp h := by
  simp only [egressSlot, hopen, hctl, hcred, Bool.false_eq_true, if_false, modLink, List.drop_succ_cons, List.drop_zero]

end Egress

/-! ## The gap between cells (02 R51) -/

/-- A packet still going on whose gap has passed is ended with TCODE 3 and counted, and its rest is dropped. -/
theorem gapTimeout_ends {s : State} {lp vc : Nat} {a : Asm} (hasm : getAsm s lp vc = some a) (hdrop : a.drop = false)
    (hgoes : goesOn s a.pid = true) (hgap : s.rd F.PRT_CELL_GAP_GAP (lp / 2) ≠ 0)
    (hdue : a.tLast + 10 * s.rd F.PRT_CELL_GAP_GAP (lp / 2) ≤ s.now) :
    gapTimeout s lp vc =
      putAsm (discardArr (endPacket s a.pid 3) lp vc 0x0E) lp vc { a with drop := true, pend := 0 } := by
  simp only [gapTimeout, hasm, if_pos (And.intro hgap hdue), asmFail, hdrop, hgoes, Bool.false_eq_true, if_false, if_true]

/-! ## Forwarding banks (03 R84, R85, R88) -/

/-- An entry below 336 of a bank in EDIT or STANDBY takes the write. -/
theorem fwdWrite_open {s : State} {m : Master} {b i val be : Nat} {r : RegName} (hi : i < 336) (hst : bankState s b < 2) :
    fwdWrite s m b r i val be = setBankState (writeWord s m r i 0 val be) b 0 := by
  have hres : ¬((r = .SWC_FWD_A ∨ r = .SWC_FWD_B) ∧ i ≥ 336) := by omega
  rw [fwdWrite, if_neg hres, if_neg (by omega)]

theorem sealBank_of_edit {s : State} {b : Nat} (h : bankState s b = 0) : sealBank s b = setBankState s b 1 := if_pos h

theorem setBankState_a (s : State) (v : Nat) : setBankState s 0 v = s.wr0 F.SWC_BANK_STAT_STATE_A v := rfl

theorem setBankState_b (s : State) (v : Nat) : setBankState s 1 v = s.wr0 F.SWC_BANK_STAT_STATE_B v := rfl

theorem bankDrainEnd_drained {s : State} {b t0 : Nat} (hb : b = 1 - s.rd0 F.SWC_BANK_STAT_ACTIVE)
    (hsince : s.sw.drainSince = some t0) (hst : bankState s b = 3)
    (hhold : t0 + 1000 * s.rd0 F.SWC_BANK_HOLD_HOLD ≤ s.now) (hcount : bankCount s b = 0) :
    bankDrainEnd s = modSw (setBankState s b 1) fun w => { w with drainSince := none } := by
  subst hb
  simp only [bankDrainEnd, hsince]
  exact if_pos ⟨hst, hhold, hcount⟩

theorem exec_swcFwdWrite_taken {s : State} {m : Master} {b i val be : Nat} {pset : Bool} (hb : b < 2) (hval : val < 2 ^ 32)
    (hbe : beOk m be = true) (h : takesWrite s m (if pset then psetReg b else fwdReg b) i 0 = true) :
    exec (.swcFwdWrite m b pset i val be) s = .next (finish s (fwdWrite
      (wrote s m (if pset then psetReg b else fwdReg b) i 0) m b (if pset then psetReg b else fwdReg b) i val be)) := by
  rw [exec_swcFwdWrite]
  exact atNow_rowWrite (by simp only [takesWrite_ok h, hb, hval, hbe, decide_true, Bool.and_self]) h

theorem exec_sealA_taken {s : State} {m : Master} (h : takesWrite s m .SWC_BANK_CTRL 0 0 = true) :
    exec (.sealA m) s = .next (finish s (sealBank (wrote s m .SWC_BANK_CTRL 0 0) 0)) := by
  rw [exec_sealA]
  exact atNow_rowBit (f := F.SWC_BANK_CTRL_SEAL_A) rfl rfl h

theorem exec_sealB_taken {s : State} {m : Master} (h : takesWrite s m .SWC_BANK_CTRL 0 0 = true) :
    exec (.sealB m) s = .next (finish s (sealBank (wrote s m .SWC_BANK_CTRL 0 0) 1)) := by
  rw [exec_sealB]
  exact atNow_rowBit (f := F.SWC_BANK_CTRL_SEAL_B) rfl rfl h

theorem exec_bankDrainEnd_run {s u : State} {at_ : Nat} (hu : u = s.advance at_) (hrun : coreRuns u = true) :
    exec (.bankDrainEnd at_) s = .next (finish u (settleSwitch (bankDrainEnd u))) := by
  rw [exec_bankDrainEnd]
  exact atTime_whenCore hu rfl hrun

/-! ## The obligations -/

/-- Settles O3: each row answers its operation's next state, and each operation is followed through its rule's case. -/
theorem switchCells : Obligations.SwitchCells := by
  unfold Obligations.SwitchCells
  refine ⟨?rows, ?slots, ?stageOne, ?stageTwo, ?skip, ?idle, ?served, ?control, ?gap⟩
  case rows =>
    intro s u i k at_ pos src vc lp par hu hrun hi hk hpos hsrc hvc hlp
    exact ⟨exec_stageOneAdmit_run hu hrun hi hk, exec_stageTwoMove_run hu hrun hk hpos,
      exec_resequencerTimeout_run hu hrun hsrc hpos hvc, exec_interCellGapTimeout_run hu hrun hlp hvc⟩
  case slots =>
    intro s u lp at_ par tx spoilt hu hrun hlp
    exact ⟨exec_egressCellSend_store hu hrun hlp, exec_egressCellSend_cistern hu hrun hlp⟩
  case stageOne =>
    intro s u t i k at_ y c hu hrun hi hk hcyc hfree hinj hport hadm
    rw [exec_stageOneAdmit_run hu hrun hi hk, stageOne_port_only hcyc hfree hinj hport hadm]
  case stageTwo =>
    intro s u k pos at_ cl y c hu hrun hk hpos hcyc hheads hmir hcl
    rw [exec_stageTwoMove_run hu hrun hk hpos.le, stageTwo_single_head hpos.ne hcyc hheads hmir hcl]
  case skip =>
    intro s u src pos vc at_ e c hu hrun hsrc hpos hvc he hexp hmine hloc hseq hrel hsent hto hdue
    rw [exec_resequencerTimeout_run hu hrun hsrc hpos.le hvc,
      reseqSkip_single_gap hpos.ne he hexp hmine hloc hseq hrel hsent hto hdue]
  case idle =>
    intro s u v lp at_ par tx hu hrun hlp hopen hctl hup hpause hpick
    rw [exec_egressCellSend_store hu hrun hlp, egressSlot_none_picked hopen hctl hup hpause hpick]
  case served =>
    intro s u v lp at_ vc tier par tx hu hrun hlp hopen hctl hup hpause hpick
    rw [exec_egressCellSend_store hu hrun hlp, egressSlot_picked hopen hctl hup hpause hpick]
  case control =>
    intro s u lp at_ par tx h hs hu hrun hlp hopen hctl hcred
    rw [exec_egressCellSend_store hu hrun hlp, egressSlot_control_first hopen hctl hcred]
  case gap =>
    intro s u lp vc at_ a hu hrun hlp hvc hasm hdrop hgoes hgap hdue
    rw [exec_interCellGapTimeout_run hu hrun hlp hvc, gapTimeout_ends hasm hdrop hgoes hgap hdue]

/-- Settles O5: each row answers its operation's next state, and the bank moves as R84, R85 and R88 say. -/
theorem forwardingBanks : Obligations.ForwardingBanks := by
  unfold Obligations.ForwardingBanks
  refine ⟨?rows, ?drainRow, ?entry, ?sealA, ?sealB, ?drained⟩
  case rows =>
    intro s m b i val be pset hb hval hbe
    exact ⟨exec_swcFwdWrite_taken hb hval hbe, exec_sealA_taken, exec_sealB_taken⟩
  case drainRow =>
    intro s u at_ hu hrun
    exact exec_bankDrainEnd_run hu hrun
  case entry =>
    intro s c m b i val be hb hi hval hbe htakes hc hst
    rw [exec_swcFwdWrite_taken (pset := false) hb hval hbe htakes]
    simp only [Bool.false_eq_true, if_false, ← hc, fwdWrite_open hi hst]
  case sealA =>
    intro s c m htakes hc hst
    rw [exec_sealA_taken htakes, ← hc, sealBank_of_edit hst, setBankState_a]
  case sealB =>
    intro s c m htakes hc hst
    rw [exec_sealB_taken htakes, ← hc, sealBank_of_edit hst, setBankState_b]
  case drained =>
    intro s u at_ b t0 hu hrun hb hsince hst hhold hcount
    rw [exec_bankDrainEnd_run hu hrun, bankDrainEnd_drained hb hsince hst hhold hcount]

end Sys2Proof.Machine
end

section
/-! PROOFS. Time limits of the switch core (04 R113, R115, R119), the end of a flush (03 R98) and the hold for reordering
(11 R326): the rows answer their operation's next state wherever the core or the link runs, and what each operation does
once its limit has passed. -/

namespace Sys2Proof.Machine

open Sys2Proof

/-! ## The rows of limits -/

section Rows

variable {s u : State} {pid at_ lp vc : Nat}

theorem exec_residencyLimit_run (hu : u = s.advance at_) (hrun : coreRuns u = true) :
    exec (.residencyLimit pid at_) s = .next (finish u (settleSwitch (residencyLimit u pid))) := by
  rw [exec_residencyLimit]
  exact atTime_whenCore hu rfl hrun

theorem exec_starvePromotion_run (hu : u = s.advance at_) (hrun : coreRuns u = true) (hlp : lp < 160) (hvc : vc < 8) :
    exec (.starvePromotion lp vc at_) s = .next (finish u (settleSwitch (starvePromote u lp vc))) := by
  rw [exec_starvePromotion]
  exact atTime_whenCore hu (by simp [hlp, hvc]) hrun

theorem exec_fenceRelease_run (hu : u = s.advance at_) (hrun : coreRuns u = true) (hlp : lp < 160) :
    exec (.fenceRelease lp at_) s = .next (finish u (settleSwitch (fenceRelease u lp))) := by
  rw [exec_fenceRelease]
  exact atTime_whenCore hu (by simp [hlp]) hrun

theorem exec_portFlushDone_run (hu : u = s.advance at_) (hrun : linkRuns u = true) (hlp : lp < 160) :
    exec (.portFlushDone lp at_) s = .next (finish u (settleSwitch (flushOver u lp))) := by
  rw [exec_portFlushDone]
  exact atTime_whenLink hu (by simp [hlp]) hrun

theorem exec_reorderHoldExpire_run (hu : u = s.advance at_) (hrun : linkRuns u = true) (hlp : lp < 160) (hvc : vc < 8) :
    exec (.reorderHoldExpire lp vc at_) s = .next (finish u (reorderExpire u lp vc)) := by
  rw [exec_reorderHoldExpire]
  exact atTime_whenLink hu (by simp [hlp, hvc]) hrun

end Rows

/-! ## What each limit does when it has passed -/

section Limits

variable {s : State} {lp vc t0 : Nat} {p : PktRec}

/-- A packet in the core, not at the station, none of whose cells has left: its one target is the output it is counted on. -/
theorem residencyLimit_single_target {pid : Nat} {t : Target} (hst : s.sw.stationQ.find? (·.pid == pid) = none)
    (hp : findPkt s pid = some p) (hvc3 : 3 ≤ p.hdr.vc) (hvc6 : p.hdr.vc ≤ 6) (htgts : p.tgts = [t])
    (hmir : t.mir = none) (hsent : t.sent = 0) (hlive : t.live = true) (hlp : t.lp < 160) (hlim : s.rd0 F.SWC_RTE_RESLIM_RES_LIM ≠ 0)
    (hdue : p.tHead + 1000 * s.rd0 F.SWC_RTE_RESLIM_RES_LIM < s.now) :
    residencyLimit s pid = (endPacket s pid 5).discard t.lp p.hdr.vc 0x1A false := by
  have hunsent : (p.tgts.all fun t => t.mir.isSome || (t.sent == 0 && t.live)) = true := by simp [htgts, hsent, hlive]
  have hout : ((p.tgts.find? (·.mir.isNone)).map (·.lp)).getD 161 = t.lp := by simp [htgts, hmir]
  simp only [residencyLimit, if_neg hlim, hst, hp, hunsent, hout]
  rw [if_pos ⟨hvc3, hvc6, trivial, hdue⟩, if_neg (by omega)]

/-- An eligible queue of VC 3 to 7, not yet promoted, that has waited STARVE is promoted and counted. -/
theorem starvePromote_due (hvc3 : 3 ≤ vc) (hvc7 : vc ≤ 7) (hsince : (getEgr s lp vc).eligSince = some t0)
    (hprom : (getEgr s lp vc).promoted = none) (helig : eligible s lp vc = true)
    (hlim : s.rd F.PRT_ARB_STARVE (lp / 2) ≠ 0) (hdue : t0 + 1000 * s.rd F.PRT_ARB_STARVE (lp / 2) ≤ s.now) :
    starvePromote s lp vc = (modEgr s lp vc fun e => { e with promoted := some s.now }).cntP lp vc 13 := by
  simp only [starvePromote, hsince]
  exact if_pos ⟨hvc3, hvc7, hlim, hprom, helig, hdue⟩

/-- The first VC3 cell that waits for the port stands at the front of its source's queue, and its packet has no earlier
cross-rack request open: the packet is let go. -/
theorem fenceRelease_front {c : WaitCell} (hwait : (s.sw.wait.find? fun c => c.lp == lp && c.vc == 3) = some c)
    (hfront : s.sw.wait.find? (inQueue c.src lp 3) = some c) (hp : findPkt s c.pid = some p) (hheld : p.fenceHeld = true)
    (hcount : fenceCount s lp p.pid = 0) :
    fenceRelease s lp = updPkt s p.pid fun p => { p with fenceHeld := false } := by
  simp only [fenceRelease, hwait, hp, hfront]
  exact if_pos ⟨beq_self_eq_true _, hheld, hcount⟩

theorem flushOver_eq (s : State) (lp : Nat) :
    flushOver s lp = tryUp (modLink s lp fun l => { l with flushing := false }) lp := rfl

/-- Only what a change makes of the queue's present state matters. -/
theorem modEgr_congr {f g : Egr → Egr} (h : f (getEgr s lp vc) = g (getEgr s lp vc)) :
    modEgr s lp vc f = modEgr s lp vc g := by
  simp only [getEgr] at h
  simp only [modEgr, modSw, h]

/-- The packet held back is noted as let go, whichever was noted before. -/
theorem letGo_held {pid : Nat} (hheld : (getEgr s lp vc).held = some (pid, t0)) :
    letGo s lp vc = modEgr s lp vc fun e => { e with held := none, let_ := some pid } :=
  modEgr_congr (by simp only [hheld, Option.map_some, Option.some_or])

theorem reorderExpire_due {pid : Nat} (hheld : (getEgr s lp vc).held = some (pid, t0)) (hdue : t0 + 10000 ≤ s.now) :
    reorderExpire s lp vc = touchElig (modEgr s lp vc fun e => { e with held := none, let_ := some pid }) lp vc := by
  simp only [reorderExpire, hheld, if_pos hdue, letGo_held hheld]

end Limits

/-! ## The obligation -/

/-- Settles O4: each row answers its operation's next state, and each limit, once passed, does what its rule says. -/
theorem switchLimits : Obligations.SwitchLimits := by
  unfold Obligations.SwitchLimits
  refine ⟨?coreRows, ?linkRows, ?residency, ?starve, ?fence, ?flush, ?hold⟩
  case coreRows =>
    intro s u pid at_ lp vc hu hrun hlp hvc
    exact ⟨exec_residencyLimit_run hu hrun, exec_starvePromotion_run hu hrun hlp hvc, exec_fenceRelease_run hu hrun hlp⟩
  case linkRows =>
    intro s u lp at_ vc hu hrun hlp hvc
    exact ⟨exec_portFlushDone_run hu hrun hlp, exec_reorderHoldExpire_run hu hrun hlp hvc⟩
  case residency =>
    intro s u pid at_ p t hu hrun hst hp hvc3 hvc6 htgts hmir hsent hlive hlp hlim hdue
    rw [exec_residencyLimit_run hu hrun,
      residencyLimit_single_target hst hp hvc3 hvc6 htgts hmir hsent hlive hlp hlim hdue]
  case starve =>
    intro s u lp vc at_ t0 hu hrun hlp hvc3 hvc7 hsince hprom helig hlim hdue
    rw [exec_starvePromotion_run hu hrun hlp (Nat.lt_succ_of_le hvc7),
      starvePromote_due hvc3 hvc7 hsince hprom helig hlim hdue]
  case fence =>
    intro s u lp at_ c p hu hrun hlp hwait hfront hp hheld hcount
    rw [exec_fenceRelease_run hu hrun hlp, fenceRelease_front hwait hfront hp hheld hcount]
  case flush =>
    intro s u lp at_ hu hrun hlp
    rw [exec_portFlushDone_run hu hrun hlp, flushOver_eq]
  case hold =>
    intro s u lp vc at_ pid t0 hu hrun hlp hvc hheld hdue
    rw [exec_reorderHoldExpire_run hu hrun hlp hvc, reorderExpire_due hheld hdue]

end Sys2Proof.Machine
end

section
/-! PROOFS. Fabric time (05 R126 to R136, R139; 16 R449): the rows answer their operation's next state wherever their part
of the block runs; what an edge of TICK, the loss of the source, a new tick, TIM_CTRL and the packets of in-band time do in
the case their rule names. -/

namespace Sys2Proof.Machine

open Sys2Proof

/-! ## Rows of a chip out of reset and rows of the station -/

/-- A timed row that only reset stops, its operands in range, answers its effect on the state at its moment. -/
theorem atTime_whenOn {s u : State} {at_ : Nat} {ok : Bool} {f : State → State} (hu : u = s.advance at_)
    (hok : ok = true) (hrun : chipOn u = true) :
    atTime s at_ ok (fun s => whenOn s f) = .next (finish u (f u)) := by
  subst hu hok
  rw [atTime_run, whenOn_run hrun]

/-- The same for a packet row whose packet stands at the station. -/
theorem atTime_atStation {s u : State} {p : StPkt} {op at_ : Nat} {f : State → State} (hu : u = s.advance at_)
    (hst : stationHas u p op = true) :
    atTime s at_ (decide (p.arr ≤ 161)) (fun s => atStation s p op fun _ => f s) = .next (finish u (f u)) := by
  subst hu
  rw [decide_eq_true (stationHas_arr hst), atTime_run, atStation_run hst]

section Rows

variable {s u : State} {at_ : Nat} {m : Master} {p : StPkt}

theorem exec_tickEdge_run {high : Nat} (hu : u = s.advance at_) (hrun : chipOn u = true) :
    exec (.tickEdge high at_) s = .next (finish u (tickEdge u high)) := by
  rw [exec_tickEdge]
  exact atTime_whenOn hu rfl hrun

theorem exec_holdoverEnter_run (hu : u = s.advance at_) (hrun : chipOn u = true) :
    exec (.holdoverEnter at_) s = .next (finish u (holdoverEnter u)) := by
  rw [exec_holdoverEnter]
  exact atTime_whenOn hu rfl hrun

theorem exec_tickBoundary_run (hu : u = s.advance at_) (hrun : coreRuns u = true) :
    exec (.tickBoundary at_) s = .next (finish u (tickBoundary u)) := by
  rw [exec_tickBoundary]
  exact atTime_whenCore hu rfl hrun

theorem exec_inval_taken (h : takesWrite s m .TIM_CTRL 0 0 = true) :
    exec (.inval m) s = .next (finish s (timeInval (wrote s m .TIM_CTRL 0 0))) := by
  rw [exec_inval]
  exact atNow_rowBit (f := F.TIM_CTRL_INVAL) rfl rfl h

theorem exec_loadArm_taken (h : takesWrite s m .TIM_CTRL 0 0 = true) :
    exec (.loadArm m) s = .next (finish s (timeLoadArm (wrote s m .TIM_CTRL 0 0) m)) := by
  rw [exec_loadArm]
  exact atNow_rowBit (f := F.TIM_CTRL_LOAD_ARM) rfl rfl h

theorem exec_timCtrlSrcWrite_taken {val be : Nat} (hval : val < 2 ^ 32) (hbe : beOk m be = true)
    (h : takesWrite s m .TIM_CTRL 0 0 = true) :
    exec (.timCtrlSrcWrite m val be) s = .next (finish s (timCtrlWrite (wrote s m .TIM_CTRL 0 0) m val be)) := by
  rw [exec_timCtrlSrcWrite]
  exact atNow_rowWrite (by simp only [takesWrite_ok h, hval, hbe, decide_true, Bool.and_self]) h

theorem exec_loadTakeEffect_run (hu : u = s.advance at_) (hrun : coreRuns u = true) :
    exec (.loadTakeEffect at_) s = .next (finish u (loadTakeEffect u)) := by
  rw [exec_loadTakeEffect]
  exact atTime_whenCore hu rfl hrun

theorem exec_syncSend_run (hu : u = s.advance at_) (hrun : coreRuns u = true) :
    exec (.syncSend at_) s = .next (finish u (syncSend u)) := by
  rw [exec_syncSend]
  exact atTime_whenCore hu rfl hrun

theorem exec_delayReqSend_run (hu : u = s.advance at_) (hrun : coreRuns u = true) :
    exec (.delayReqSend at_) s = .next (finish u (delayReqSend u)) := by
  rw [exec_delayReqSend]
  exact atTime_whenCore hu rfl hrun

theorem exec_delayRspReceive_at (hu : u = s.advance at_) (hst : stationHas u p 0x02 = true) :
    exec (.delayRspReceive p at_) s = .next (finish u (delayRsp (takeStation u p) p (rxTime u p))) := by
  rw [exec_delayRspReceive]
  exact atTime_atStation (f := fun s => delayRsp (takeStation s p) p (rxTime s p)) hu hst

theorem exec_syncReceive_at (hu : u = s.advance at_) (hst : stationHas u p 0x02 = true) :
    exec (.syncReceive p at_) s = .next (finish u (syncReceive (takeStation u p) p (rxTime u p))) := by
  rw [exec_syncReceive]
  exact atTime_atStation (f := fun s => syncReceive (takeStation s p) p (rxTime s p)) hu hst

end Rows

/-! ## The correction of the count (05 R129) -/

section Discipline

variable {s : State} {e : Int}

/-- A correction that STEP_THR allows is slewed. -/
theorem applyPhase_slews (hthr : s.rd0 F.TIM_DISC_STEP_THR = 0 ∨ e.natAbs ≤ s.rd0 F.TIM_DISC_STEP_THR)
    (hmax : s.rd0 F.TIM_DISC_SLEW_MAX ≠ 0) :
    applyPhase s e = modTime (s.wr0 F.TIM_PHASE_ERR_ERR (unsigned 32 e)) fun t =>
      { t with slew := -(max (-((s.rd0 F.TIM_DISC_SLEW_MAX : Nat) : Int)) (min ((s.rd0 F.TIM_DISC_SLEW_MAX : Nat) : Int) e)),
               slewAge := 0 } := by
  have hstep : ¬(s.rd0 F.TIM_DISC_STEP_THR ≠ 0 ∧ e.natAbs > s.rd0 F.TIM_DISC_STEP_THR) := by omega
  rw [applyPhase, if_neg hstep, if_pos (Int.natCast_ne_zero.mpr hmax)]

/-- With SLEW_MAX 0 it is only noted. -/
theorem applyPhase_notes (hthr : s.rd0 F.TIM_DISC_STEP_THR = 0 ∨ e.natAbs ≤ s.rd0 F.TIM_DISC_STEP_THR)
    (hmax : s.rd0 F.TIM_DISC_SLEW_MAX = 0) : applyPhase s e = s.wr0 F.TIM_PHASE_ERR_ERR (unsigned 32 e) := by
  have hstep : ¬(s.rd0 F.TIM_DISC_STEP_THR ≠ 0 ∧ e.natAbs > s.rd0 F.TIM_DISC_STEP_THR) := by omega
  rw [applyPhase, if_neg hstep, hmax]
  exact if_neg (not_not_intro rfl)

theorem applyPhase_steps_forward (hthr : s.rd0 F.TIM_DISC_STEP_THR ≠ 0)
    (hbig : s.rd0 F.TIM_DISC_STEP_THR < e.natAbs) (hneg : e < 0) :
    applyPhase s e = ((modTime (s.wr0 F.TIM_PHASE_ERR_ERR (unsigned 32 e)) fun t =>
      { t with count := (t.count + e.natAbs) % 2 ^ 64, still := 0, slew := 0, slewAge := 1000,
               jump := some (s.now, t.count) }).wr0 F.TIM_STAT_STEPPED 1).report 2 2 (unsigned 48 e) := by
  rw [applyPhase, if_pos ⟨hthr, hbig⟩, if_pos hneg]

theorem applyPhase_stands_still (hthr : s.rd0 F.TIM_DISC_STEP_THR ≠ 0)
    (hbig : s.rd0 F.TIM_DISC_STEP_THR < e.natAbs) (hpos : 0 ≤ e) :
    applyPhase s e = ((modTime (s.wr0 F.TIM_PHASE_ERR_ERR (unsigned 32 e)) fun t =>
      { t with still := e.natAbs, slew := 0, slewAge := 1000 }).wr0 F.TIM_STAT_STEPPED 1).report 2 2 (unsigned 48 e) := by
  rw [applyPhase, if_pos ⟨hthr, hbig⟩, if_neg (Int.not_lt.mpr hpos)]

end Discipline

/-! ## An edge of TICK (05 R128, R129, R131, R132) -/

/-- The phase error of an edge: how far the count, adjusted, is from its nearest tick. -/
def edgeError (s : State) : Int := ((s.fabric : Int) + signed 16 (s.rd0 F.TIM_TICK_ADJ_ADJ) + 500) % 1000 - 500

def edgeNoted (s : State) : State := modTime s fun t => { t with lastEdge := some s.now }

/-- The state after an edge's correction: the edge is noted, the correction applied, and holdover ends. -/
def edgeCorrected (s : State) : State := (applyPhase (edgeNoted s) (edgeError s)).wr0 F.TIM_STAT_HOLDOVER 0

section Edge

variable {s : State} {high : Nat}

/-- A pulse that is no marker only corrects the count. -/
theorem tickEdge_plain (hsrc : s.rd0 F.TIM_CTRL_SRC = 0) (hhigh : high ≤ 400) : tickEdge s high = edgeCorrected s := by
  have hmark : ¬isMarker high = true := by simp [isMarker, hhigh]
  rw [tickEdge, if_neg (not_not_intro hsrc), if_neg hmark]
  rfl

/-- What a marker does on the corrected state `d`: a load, the check for a slip. -/
def markerSeen (s d : State) : State :=
  match d.time.armed with
  | some v => takeLoad d v
  | none =>
    if d.flag F.TIM_STAT_VALID ∧ (s.fabric + 500) / 1000 % 65536 ≠ 0 then
      (d.wr0 F.TIM_STAT_SLIP 1).report 2 3 (s.fabric % 2 ^ 48)
    else d

theorem tickEdge_marker (hsrc : s.rd0 F.TIM_CTRL_SRC = 0) (hhigh : 400 < high) :
    tickEdge s high = markerSeen s (edgeCorrected s) := by
  have hmark : isMarker high = true := decide_eq_true hhigh
  rw [tickEdge, if_neg (not_not_intro hsrc), if_pos hmark]
  rfl

variable {d : State}

theorem markerSeen_loads {v : Nat} (harm : d.time.armed = some v) : markerSeen s d = takeLoad d v := by
  simp only [markerSeen, harm]

/-- With nothing armed, where the time is valid and the nearest tick is none of a marker, it shows a slip. -/
theorem markerSeen_slips (harm : d.time.armed = none) (hvalid : d.flag F.TIM_STAT_VALID = true)
    (hnear : (s.fabric + 500) / 1000 % 65536 ≠ 0) :
    markerSeen s d = (d.wr0 F.TIM_STAT_SLIP 1).report 2 3 (s.fabric % 2 ^ 48) := by
  simp only [markerSeen, harm]
  exact if_pos ⟨hvalid, hnear⟩

theorem markerSeen_agrees (harm : d.time.armed = none)
    (hok : d.flag F.TIM_STAT_VALID = false ∨ (s.fabric + 500) / 1000 % 65536 = 0) : markerSeen s d = d := by
  have hslip : ¬(d.flag F.TIM_STAT_VALID = true ∧ (s.fabric + 500) / 1000 % 65536 ≠ 0) := by
    rintro ⟨hvalid, hnear⟩
    exact hok.elim (fun h => Bool.false_ne_true (h.symm.trans hvalid)) hnear
  simp only [markerSeen, harm]
  exact if_neg hslip

end Edge

/-! ## Loss of the source (05 R132) -/

section Holdover

variable {s : State} {t0 : Nat}

theorem holdoverEnter_edges_missed (hn : s.rd0 F.TIM_DISC_LOSS_N ≠ 0) (hhold : s.flag F.TIM_STAT_HOLDOVER = false)
    (hsrc : s.rd0 F.TIM_CTRL_SRC = 0) (hlast : s.time.lastEdge = some t0)
    (hlate : t0 + s.rd0 F.TIM_DISC_LOSS_N * 1000 < s.now) :
    holdoverEnter s = (s.wr0 F.TIM_STAT_HOLDOVER 1).report 2 1 0 := by
  rw [holdoverEnter, if_neg (by simp [hn, hhold]), if_pos ⟨hsrc, by simpa [hlast] using hlate⟩]

theorem holdoverEnter_syncs_missed (hn : s.rd0 F.TIM_DISC_LOSS_N ≠ 0) (hhold : s.flag F.TIM_STAT_HOLDOVER = false)
    (hsrc : s.rd0 F.TIM_CTRL_SRC = 2) (hivl : s.rd0 F.TIM_IB_SYNC_IVL ≠ 0) (hlast : s.time.lastSync = some t0)
    (hlate : t0 + s.rd0 F.TIM_DISC_LOSS_N * (1000 * s.rd0 F.TIM_IB_SYNC_IVL) < s.now) :
    holdoverEnter s = ((s.wr0 F.TIM_STAT_HOLDOVER 1).report 2 1 2).report 2 4 0 := by
  rw [holdoverEnter, if_neg (by simp [hn, hhold]), if_neg (by simp [hsrc]),
    if_pos ⟨hsrc, hivl, by simpa [hlast] using hlate⟩]

end Holdover

/-! ## A new tick (05 R130, R139; 16 R449) -/

/-- The windows of the ACTIVE bank that are open at the present tick. -/
def openWindows (s : State) : List Window :=
  if s.flag F.TIM_STAT_VALID = false ∨ s.rd F.TIM_TT_PER_PERIOD (s.rd0 F.TIM_TT_STAT_ACTIVE) = 0 then []
  else (windowsOf s (s.rd0 F.TIM_TT_STAT_ACTIVE)).filter
    (openAt (s.rd F.TIM_TT_PER_PERIOD (s.rd0 F.TIM_TT_STAT_ACTIVE)) (ttOffset s (s.rd0 F.TIM_TT_STAT_ACTIVE)))

/-- The queues that windows open, each once. -/
def windowQueues (ws : List Window) : List Nat := (ws.map fun w => w.lp * 8 + w.vc).dedup

/-- What a queue may send in a tick by the windows: the sum of the rates of its own. -/
def queueRate (ws : List Window) (k : Nat) : Nat :=
  ((ws.filter fun w => w.lp * 8 + w.vc == k).map (·.rate)).foldl (· + ·) 0

/-- No queue has a budget left. -/
def clearBudgets (s : State) : State :=
  modSw s fun w => { w with egr := (w.egr.map fun e => (e.1, { e.2 with budget := 0 })).filter fun e => e.2 != egrInit }

/-- Each of some queues gets what the windows give it. -/
def giveBudgets (ws : List Window) (ks : List Nat) (s : State) : State :=
  ks.foldl (fun s k => modEgr s (k / 8) (k % 8) fun e => { e with budget := ((queueRate ws k : Nat) : Int) }) s

/-- What a port may send unscheduled in a tick, at a level of power (16 R449). -/
def portBudget (level : Nat) (s : State) (lp : Nat) : Int :=
  ((level * cellsPerTick (s.rd F.PRT_LSTAT_TXW lp) / 64 : Nat) : Int)

/-- A port that is up gets it. -/
def renewPort (level : Nat) (s : State) (lp : Nat) : State :=
  if s.linkUp lp then modEPort s lp fun e => { e with unsched := portBudget level s lp } else s

def renewUnsched (level : Nat) (lps : List Nat) (s : State) : State := lps.foldl (renewPort level) s

/-- The state at a new tick, before the tick is noted. -/
def tickBudgets (s : State) : State :=
  renewUnsched (s.rd0 F.PWR_LEVEL_U_NOW) (List.range 160)
    (giveBudgets (openWindows s) (windowQueues (openWindows s)) (clearBudgets s))

theorem tickBoundary_new (h : s.tickCount ≠ s.time.lastTick) :
    tickBoundary s = modTime { tickBudgets s with
      winOpen := (sortBy (fun a b => decide (a ≤ b)) (windowQueues (openWindows s))).map fun k => (k, true) } fun t =>
        { t with lastTick := s.tickCount } := by
  rw [tickBoundary, if_neg h]
  rfl

/-- What holds of every listed value and of the default holds of the value at every key. -/
theorem mgetD_of_forall {α : Type} {P : α → Prop} {m : List (Nat × α)} {d : α} (hd : P d) (hm : ∀ e ∈ m, P e.2) (k : Nat) :
    P (mgetD m k d) := by
  induction m with
  | nil => exact hd
  | cons e r ih =>
    obtain ⟨j, v⟩ := e
    have hr : P (mgetD r k d) := ih fun e he => hm e (List.mem_cons_of_mem _ he)
    by_cases hk : j = k
    · simpa [mgetD, mget, hk] using hm (j, v) List.mem_cons_self
    · simpa [mgetD, mget, hk] using hr

theorem clearBudgets_budget (s : State) (k : Nat) : (mgetD (clearBudgets s).sw.egr k egrInit).budget = 0 := by
  refine mgetD_of_forall (P := fun e : Egr => e.budget = 0) rfl (fun e he => ?_) k
  obtain ⟨e0, -, rfl⟩ := List.mem_map.mp (List.mem_of_mem_filter he)
  rfl

theorem queueRate_of_no_window {ws : List Window} {k : Nat} (h : k ∉ windowQueues ws) : queueRate ws k = 0 := by
  have hnone : (ws.filter fun w => w.lp * 8 + w.vc == k) = [] := by
    rw [List.filter_eq_nil_iff]
    intro w hw hk
    exact h (List.mem_dedup.mpr (List.mem_map.mpr ⟨w, hw, beq_iff_eq.mp hk⟩))
  rw [queueRate, hnone]
  rfl

theorem modEgr_key (s : State) (k : Nat) (f : Egr → Egr) :
    (modEgr s (k / 8) (k % 8) f).sw.egr = mset egrInit s.sw.egr k (f (mgetD s.sw.egr k egrInit)) := by
  simp only [modEgr, modSw_sw, Nat.div_add_mod']

/-- Giving budgets sets those of the queues named and no other. -/
theorem giveBudgets_budget (ws : List Window) (ks : List Nat) (s : State) (k : Nat) :
    (mgetD (giveBudgets ws ks s).sw.egr k egrInit).budget =
      if k ∈ ks then ((queueRate ws k : Nat) : Int) else (mgetD s.sw.egr k egrInit).budget := by
  induction ks generalizing s with
  | nil => rfl
  | cons j ks ih =>
    rw [giveBudgets, List.foldl_cons, ← giveBudgets, ih, modEgr_key]
    by_cases hj : k = j
    · subst hj
      simp [mgetD_mset_self]
    · simp [mgetD_mset_ne _ _ _ _ hj, hj]

theorem giveBudgets_frame (ws : List Window) (ks : List Nat) (s : State) :
    (giveBudgets ws ks s).regs = s.regs ∧ (giveBudgets ws ks s).time = s.time := by
  induction ks generalizing s with
  | nil => exact ⟨rfl, rfl⟩
  | cons k ks ih => exact ih _

theorem renewPort_frame (level : Nat) (s : State) (lp : Nat) :
    (renewPort level s lp).regs = s.regs ∧ (renewPort level s lp).time = s.time ∧
      (renewPort level s lp).sw.egr = s.sw.egr := by
  unfold renewPort
  split <;> exact ⟨rfl, rfl, rfl⟩

/-- Renewing changes no register, no time and no queue. -/
theorem renewUnsched_frame (level : Nat) (lps : List Nat) (s : State) :
    (renewUnsched level lps s).regs = s.regs ∧ (renewUnsched level lps s).time = s.time ∧
      (renewUnsched level lps s).sw.egr = s.sw.egr := by
  induction lps generalizing s with
  | nil => exact ⟨rfl, rfl, rfl⟩
  | cons lp lps ih =>
    obtain ⟨hregs, htime, hegr⟩ := renewPort_frame level s lp
    obtain ⟨ihregs, ihtime, ihegr⟩ := ih (renewPort level s lp)
    exact ⟨ihregs.trans hregs, ihtime.trans htime, ihegr.trans hegr⟩

theorem rd_of_regs {s t : State} (h : t.regs = s.regs) (f : Field) (i : Nat) : t.rd f i = s.rd f i := by
  simp only [State.rd, h]

theorem linkUp_of_regs {s t : State} (h : t.regs = s.regs) (lp : Nat) : t.linkUp lp = s.linkUp lp := by
  simp only [State.linkUp, State.stage, rd_of_regs h]

theorem portBudget_of_regs {s t : State} (h : t.regs = s.regs) (level lp : Nat) :
    portBudget level t lp = portBudget level s lp := by
  simp only [portBudget, rd_of_regs h]

theorem renewPort_other {level j lp : Nat} {s : State} (h : lp ≠ j) : getEPort (renewPort level s j) lp = getEPort s lp := by
  unfold renewPort
  split
  · simp only [getEPort, modEPort, modSw_sw, mgetD_mset_ne _ _ _ _ h]
  · rfl

theorem renewPort_same {level lp : Nat} {s : State} (hup : s.linkUp lp = true) :
    (getEPort (renewPort level s lp) lp).unsched = portBudget level s lp := by
  simp only [renewPort, hup, if_true, getEPort, modEPort, modSw_sw, mgetD_mset_self]

/-- A port that is up holds its new budget once it has been renewed, whatever ports follow. -/
theorem renewUnsched_keeps {level lp : Nat} {lps : List Nat} {s : State} (hup : s.linkUp lp = true)
    (h : (getEPort s lp).unsched = portBudget level s lp) :
    (getEPort (renewUnsched level lps s) lp).unsched = portBudget level s lp := by
  induction lps generalizing s with
  | nil => exact h
  | cons j lps ih =>
    have hregs := (renewPort_frame level s j).1
    have hnext : (getEPort (renewPort level s j) lp).unsched = portBudget level s lp := by
      by_cases hj : lp = j
      · subst hj
        exact renewPort_same hup
      · rw [renewPort_other hj, h]
    rw [← portBudget_of_regs hregs] at hnext ⊢
    exact ih ((linkUp_of_regs hregs lp).trans hup) hnext

theorem renewUnsched_unsched {level lp : Nat} {lps : List Nat} {s : State} (hmem : lp ∈ lps) (hup : s.linkUp lp = true) :
    (getEPort (renewUnsched level lps s) lp).unsched = portBudget level s lp := by
  induction lps generalizing s with
  | nil => exact absurd hmem List.not_mem_nil
  | cons j lps ih =>
    have hregs := (renewPort_frame level s j).1
    have hup' : (renewPort level s j).linkUp lp = true := (linkUp_of_regs hregs lp).trans hup
    rw [← portBudget_of_regs hregs]
    rcases List.mem_cons.mp hmem with rfl | hin
    · exact renewUnsched_keeps hup' ((renewPort_same hup).trans (portBudget_of_regs hregs _ _).symm)
    · exact ih hin hup'

section Tick

variable (s : State)

/-- A new tick changes no register, and of the time it changes nothing before it is noted. -/
theorem tickBudgets_frame : (tickBudgets s).regs = s.regs ∧ (tickBudgets s).time = s.time := by
  obtain ⟨hregs, htime, -⟩ := renewUnsched_frame (s.rd0 F.PWR_LEVEL_U_NOW) (List.range 160)
    (giveBudgets (openWindows s) (windowQueues (openWindows s)) (clearBudgets s))
  obtain ⟨gregs, gtime⟩ := giveBudgets_frame (openWindows s) (windowQueues (openWindows s)) (clearBudgets s)
  exact ⟨hregs.trans gregs, htime.trans gtime⟩

/-- Every queue has what its open windows give it, and nothing where none is open. -/
theorem tickBudgets_budget (lp vc : Nat) :
    (getEgr (tickBudgets s) lp vc).budget = ((queueRate (openWindows s) (lp * 8 + vc) : Nat) : Int) := by
  rw [getEgr, tickBudgets, (renewUnsched_frame _ _ _).2.2, giveBudgets_budget]
  split
  next => rfl
  next hnone => rw [clearBudgets_budget, queueRate_of_no_window hnone]; rfl

theorem tickBudgets_unsched {lp : Nat} (hlp : lp < 160) (hup : s.linkUp lp = true) :
    (getEPort (tickBudgets s) lp).unsched = portBudget (s.rd0 F.PWR_LEVEL_U_NOW) s lp := by
  have hregs : (giveBudgets (openWindows s) (windowQueues (openWindows s)) (clearBudgets s)).regs = s.regs :=
    (giveBudgets_frame _ _ _).1
  rw [← portBudget_of_regs hregs]
  exact renewUnsched_unsched (List.mem_range.mpr hlp) ((linkUp_of_regs hregs lp).trans hup)

variable {s} (hnew : s.tickCount ≠ s.time.lastTick)
include hnew

theorem tickBoundary_regs : (tickBoundary s).regs = s.regs := by
  rw [tickBoundary_new hnew, modTime_regs]
  simp only [(tickBudgets_frame s).1]

theorem tickBoundary_time : (tickBoundary s).time = { s.time with lastTick := s.tickCount } := by
  rw [tickBoundary_new hnew, modTime_time]
  simp only [(tickBudgets_frame s).2]

theorem tickBoundary_sw : (tickBoundary s).sw = (tickBudgets s).sw := by
  rw [tickBoundary_new hnew, modTime_sw]

theorem tickBoundary_budget (lp vc : Nat) :
    (getEgr (tickBoundary s) lp vc).budget = ((queueRate (openWindows s) (lp * 8 + vc) : Nat) : Int) := by
  rw [← tickBudgets_budget, getEgr, getEgr, tickBoundary_sw hnew]

theorem tickBoundary_unsched {lp : Nat} (hlp : lp < 160) (hup : s.linkUp lp = true) :
    (getEPort (tickBoundary s) lp).unsched = portBudget (s.rd0 F.PWR_LEVEL_U_NOW) s lp := by
  rw [← tickBudgets_unsched s hlp hup, getEPort, getEPort, tickBoundary_sw hnew]

end Tick

/-! ## TIM_CTRL and loads (05 R126, R131) -/

section Control

variable {s : State} {m : Master}

theorem timeInval_uncommitted (h : s.commit = none) : timeInval s = closeWindows (withdrawLoad (s.wr0 F.TIM_STAT_VALID 0)) := by
  have hcommit : (closeWindows (withdrawLoad (s.wr0 F.TIM_STAT_VALID 0))).commit = none := by
    simp [closeWindows, withdrawLoad, h]
  simp [timeInval, hcommit]

theorem timeInval_cancels {k : PendCommit} (h : s.commit = some k) (hmode : k.mode ≠ 0) :
    timeInval s = cancelCommit (closeWindows (withdrawLoad (s.wr0 F.TIM_STAT_VALID 0))) := by
  have hcommit : (closeWindows (withdrawLoad (s.wr0 F.TIM_STAT_VALID 0))).commit = some k := by
    simp [closeWindows, withdrawLoad, h]
  simp [timeInval, hcommit, hmode]

/-- With the time not valid, a load on the tick grid is armed for the sources that take it at a tick. -/
theorem timeLoadArm_arms (hvalid : s.flag F.TIM_STAT_VALID = false)
    (hsrc : s.rd0 F.TIM_CTRL_SRC = 1 ∨ s.rd0 F.TIM_CTRL_SRC = 3) (hgrid : loadValue s % 1000 = 0) :
    timeLoadArm s m =
      (modTime s fun t => { t with armed := some (loadValue s), armTick := s.tickCount }).wr0 F.TIM_CTRL_LOAD_ARM 1 := by
  refine if_neg ?_
  rintro (h | h | ⟨h, -⟩ | ⟨-, h⟩)
  · exact Bool.false_ne_true (hvalid.symm.trans h)
  · omega
  · omega
  · exact h hgrid

theorem loadTakeEffect_next_tick {v : Nat} (hsrc : s.rd0 F.TIM_CTRL_SRC = 1 ∨ s.rd0 F.TIM_CTRL_SRC = 3)
    (harm : s.time.armed = some v) (htick : s.tickCount ≠ s.time.armTick) : loadTakeEffect s = takeLoad s v := by
  simp only [loadTakeEffect, harm]
  exact if_pos ⟨hsrc, htick⟩

theorem timeSrc_in_force {v : Nat} (h : s.rd0 F.TIM_CTRL_SRC = v) : timeSrc s v = s := if_pos h

theorem timeSrc_new {v : Nat} (h : s.rd0 F.TIM_CTRL_SRC ≠ v) :
    timeSrc s v = modTime ((closeWindows (withdrawLoad ((s.wr0 F.TIM_CTRL_SRC v).wr0 F.TIM_STAT_VALID 0))).wr0
      F.TIM_STAT_HOLDOVER 0) fun t => { t with lastEdge := none, lastSync := none } := if_neg h

theorem bitAt_eq_false_of_lt {v i : Nat} (h : v < 2 ^ i) : bitAt v i = false := by
  simp [bitAt, Nat.div_eq_of_lt h]

/-- A write of TIM_CTRL with neither INVAL nor LOAD_ARM writes the fields and then the source. -/
theorem timCtrlWrite_fields {val be : Nat} (hval : val < 16) :
    timCtrlWrite s m val be = timeSrc (writeWord s m .TIM_CTRL 0 0 val be fun f => f != F.TIM_CTRL_SRC)
      (fieldAfter s F.TIM_CTRL_SRC 0 val be) := by
  have hload : bitAt val 4 = false := bitAt_eq_false_of_lt hval
  have hinval : bitAt val 5 = false := bitAt_eq_false_of_lt (by omega)
  simp [timCtrlWrite, hload, hinval]

end Control

/-! ## In-band time (05 R133 to R136) -/

section InBand

variable {s : State} {p : StPkt} {rx : Nat}

theorem syncSend_due (hsrc : s.rd0 F.TIM_CTRL_SRC = 1) (hivl : s.rd0 F.TIM_IB_SYNC_IVL ≠ 0)
    (hdue : s.atTick (s.rd0 F.TIM_IB_SYNC_IVL) = true) :
    syncSend s = emitVc0 (modTime s fun t => { t with syncSeq := (t.syncSeq + 1) % 2 ^ 24 }) (s.rd0 F.TIM_IB_RELAY_LP)
      (timePkt s s.time.syncSeq 0 (s.rd0 F.TIM_STAT_VALID) (unsigned 32 (meanDelay s)) s.fabric 0).1
      (leBytes 8 s.fabric ++ leBytes 8 0) 0 := if_pos ⟨hsrc, hivl, hdue⟩

theorem delayReqSend_slave_due (hsrc : s.rd0 F.TIM_CTRL_SRC = 2) (hivl : s.rd0 F.TIM_IB_SYNC_IVL ≠ 0)
    (hdue : s.atTick (16 * s.rd0 F.TIM_IB_SYNC_IVL) = true) :
    delayReqSend s = emitVc0 s (s.rd0 F.TIM_IB_RELAY_LP) (timePkt s 0 1 0 0 s.fabric 0).1
      (leBytes 8 s.fabric ++ leBytes 8 0) 0 := if_pos ⟨.inr hsrc, hivl, hdue⟩

/-- The mean of one measurement is the measurement. -/
theorem meanDelay_singleton {d : Int} (h : s.time.delays = [d]) : meanDelay s = d := by
  simp [meanDelay, h]

/-- The path delay that a DELAY_RSP measures: half of what the two ways take beside the partner's own time. -/
def measuredDelay (p : StPkt) (t1 t4 : Nat) : Int :=
  (((t4 : Int) - t1) - ((leNat ((p.data.drop 8).take 8) : Int) - leNat (p.data.take 8))) / 2

theorem delayRsp_first {t1 : Nat} (hsrc : s.rd0 F.TIM_CTRL_SRC = 2) (hmode : p.hdr.opw0 % 4 = 2)
    (hreq : s.time.reqAt = some t1) (hnone : s.time.delays = []) :
    delayRsp s p rx = (modTime s fun t => { t with reqAt := none, delays := [measuredDelay p t1 rx] }).wr0
      F.TIM_IB_DELAY_DELAY (unsigned 16 (measuredDelay p t1 rx)) := by
  have hours : ¬((s.rd0 F.TIM_CTRL_SRC ≠ 1 ∧ s.rd0 F.TIM_CTRL_SRC ≠ 2) ∨ p.hdr.opw0 % 4 ≠ 2) := by omega
  have hlist : (modTime s fun t => { t with reqAt := none, delays := (measuredDelay p t1 rx :: t.delays).take 8 }) =
      modTime s fun t => { t with reqAt := none, delays := [measuredDelay p t1 rx] } := by
    simp only [modTime, hnone, List.take_succ_cons, List.take_nil]
  simp only [delayRsp, hreq, if_neg hours]
  rw [← measuredDelay, hlist, meanDelay_singleton rfl]

/-- A SYNC without VALID shows only that its source lives. -/
theorem syncReceive_invalid (hsrc : s.rd0 F.TIM_CTRL_SRC = 2) (hmode : p.hdr.opw0 % 4 = 0)
    (hv : bits p.hdr.opw0 2 1 = 0) :
    syncReceive s p rx = modTime (s.wr0 F.TIM_STAT_HOLDOVER 0) fun t => { t with lastSync := some s.now } := by
  rw [syncReceive, if_neg (by omega), if_pos hv]

/-- A SYNC with VALID corrects a count that is valid. -/
theorem syncReceive_corrects (hsrc : s.rd0 F.TIM_CTRL_SRC = 2) (hmode : p.hdr.opw0 % 4 = 0)
    (hv : bits p.hdr.opw0 2 1 = 1) (hvalid : s.flag F.TIM_STAT_VALID = true) :
    syncReceive s p rx = applyPhase (modTime (s.wr0 F.TIM_STAT_HOLDOVER 0) fun t => { t with lastSync := some s.now })
      ((rx : Int) - ((leNat (p.data.take 8) + p.hdr.opw1 : Nat) + meanDelay s)) := by
  rw [syncReceive, if_neg (by omega), if_neg (by omega), if_pos (.inl hvalid)]

end InBand

/-! ## The obligations -/

/-- Settles O6: each row answers its operation's next state; an edge, the loss of the source and a new tick do what R129,
R132 and R139 say. -/
theorem timeFromTick : Obligations.TimeFromTick := by
  unfold Obligations.TimeFromTick
  refine ⟨?rows, ?tickRow, ?edge, ?marker, ?holdover, ?tick⟩
  case rows =>
    intro s u high at_ hu hrun
    exact ⟨exec_tickEdge_run hu hrun, exec_holdoverEnter_run hu hrun⟩
  case tickRow =>
    intro s u at_ hu hrun
    exact exec_tickBoundary_run hu hrun
  case edge =>
    intro s u c high at_ thr smax e hu hrun hsrc he hthr hsmax hhigh hc
    have herr : e = edgeError u := he
    subst herr hthr hsmax hc
    rw [exec_tickEdge_run hu hrun, tickEdge_plain hsrc hhigh]
    refine ⟨?slews, ?notes, ?forward, ?still⟩
    case slews => intro hsmall hmax; rw [edgeCorrected, applyPhase_slews (s := edgeNoted u) hsmall hmax]; rfl
    case notes => intro hsmall hmax; rw [edgeCorrected, applyPhase_notes (s := edgeNoted u) hsmall hmax]; rfl
    case forward => intro hset hbig hneg; rw [edgeCorrected, applyPhase_steps_forward (s := edgeNoted u) hset hbig hneg]; rfl
    case still => intro hset hbig hpos; rw [edgeCorrected, applyPhase_stands_still (s := edgeNoted u) hset hbig hpos]; rfl
  case marker =>
    intro s u d high at_ e hu hrun hsrc he hhigh hd
    have hcorr : d = edgeCorrected u := by rw [hd, he]; rfl
    subst hcorr
    rw [exec_tickEdge_run hu hrun, tickEdge_marker hsrc hhigh]
    refine ⟨?loads, ?slips, ?agrees⟩
    case loads => intro v harm; rw [markerSeen_loads harm, takeLoad]
    case slips => intro harm hvalid hnear; rw [markerSeen_slips harm hvalid hnear]
    case agrees => intro harm hok; rw [markerSeen_agrees harm hok]
  case holdover =>
    intro s u at_ t0 hu hrun hn hhold
    rw [exec_holdoverEnter_run hu hrun]
    constructor
    · intro hsrc hlast hlate
      rw [holdoverEnter_edges_missed hn hhold hsrc hlast hlate]
    · intro hsrc hivl hlast hlate
      rw [holdoverEnter_syncs_missed hn hhold hsrc hivl hlast hlate]
  case tick =>
    intro s u at_ ws hu hrun hnew hws
    have hopen : ws = openWindows u := hws
    subst hopen
    exact ⟨tickBoundary u, exec_tickBoundary_run hu hrun, tickBoundary_regs hnew, tickBoundary_time hnew,
      fun lp vc _ => tickBoundary_budget hnew lp vc, fun lp => tickBoundary_unsched hnew⟩

/-- Settles O7: each row answers its operation's next state; INVAL, LOAD_ARM, a load and a write of SRC do what R126 and
R131 say. -/
theorem timeControl : Obligations.TimeControl := by
  unfold Obligations.TimeControl
  refine ⟨?rows, ?loadRow, ?inval, ?cancel, ?arm, ?load, ?source⟩
  case rows =>
    intro s m val be hval hbe
    exact ⟨exec_inval_taken, exec_loadArm_taken, exec_timCtrlSrcWrite_taken hval hbe⟩
  case loadRow =>
    intro s u at_ hu hrun
    exact exec_loadTakeEffect_run hu hrun
  case inval =>
    intro s c m htakes hc hnone
    rw [exec_inval_taken htakes, ← hc, timeInval_uncommitted hnone]
  case cancel =>
    intro s c m k htakes hc hpend hmode
    rw [exec_inval_taken htakes, ← hc, timeInval_cancels hpend hmode]
  case arm =>
    intro s c m htakes hc hvalid hsrc hgrid
    rw [exec_loadArm_taken htakes, ← hc, timeLoadArm_arms hvalid hsrc hgrid]
  case load =>
    intro s u at_ v hu hrun hsrc harm htick
    rw [exec_loadTakeEffect_run hu hrun, loadTakeEffect_next_tick hsrc harm htick, takeLoad]
  case source =>
    intro s c d m val be n hval hbe htakes hc hd hn
    have hfit : val < 2 ^ 32 := by omega
    rw [exec_timCtrlSrcWrite_taken hfit hbe htakes, ← hc, timCtrlWrite_fields hval, ← hd, ← hn]
    constructor
    · intro hsame
      rw [timeSrc_in_force hsame]
    · intro hnew
      rw [timeSrc_new hnew]

/-- Settles O8: each row answers its operation's next state; SYNC, DELAY_REQ and DELAY_RSP do what R135 and R136 say. -/
theorem timeInBand : Obligations.TimeInBand := by
  unfold Obligations.TimeInBand
  refine ⟨?rows, ?packetRows, ?sync, ?request, ?response, ?life, ?correction⟩
  case rows =>
    intro s u at_ hu hrun
    exact ⟨exec_syncSend_run hu hrun, exec_delayReqSend_run hu hrun⟩
  case packetRows =>
    intro s u p at_ hu
    exact ⟨exec_delayRspReceive_at hu, exec_syncReceive_at hu⟩
  case sync =>
    intro s u at_ hu hrun hsrc hivl hdue
    rw [exec_syncSend_run hu hrun, syncSend_due hsrc hivl hdue]
  case request =>
    intro s u at_ hu hrun hsrc hivl hdue
    rw [exec_delayReqSend_run hu hrun, delayReqSend_slave_due hsrc hivl hdue]
  case response =>
    intro s u c p at_ t1 d hu hst hc hsrc hmode hreq hnone hd
    rw [exec_delayRspReceive_at hu hst, ← hc, delayRsp_first hsrc hmode hreq hnone, measuredDelay, ← hd]
  case life =>
    intro s u c p at_ hu hst hc hsrc hmode hv
    rw [exec_syncReceive_at hu hst, ← hc, syncReceive_invalid hsrc hmode hv]
  case correction =>
    intro s u c p at_ hu hst hc hsrc hmode hv hvalid
    rw [exec_syncReceive_at hu hst, ← hc, syncReceive_corrects hsrc hmode hv hvalid]

end Sys2Proof.Machine
end

section
/-! PROOFS. Timetables (05 R138 to R144): the rows answer their operation's next state where the write is taken or the core
runs; what a bank's registers, its seal, its admission, its recheck and a missed deadline do in the case their rule names. -/

namespace Sys2Proof.Machine

open Sys2Proof

/-! ## The rows of timetables -/

section Rows

variable {s u : State} {at_ : Nat} {m : Master}

theorem exec_ttBankWrite_taken {b kind i w val be : Nat} (hb : b < 2) (hkind : kind < 4) (hval : val < 2 ^ 32)
    (hbe : beOk m be = true) (h : takesWrite s m (ttReg b kind) (if kind < 2 then b else i) w = true) :
    exec (.ttBankWrite m b kind i w val be) s = .next (finish s (ttBankWrite
      (wrote s m (ttReg b kind) (if kind < 2 then b else i) w) m b (ttReg b kind) (if kind < 2 then b else i) w val be)) := by
  rw [exec_ttBankWrite]
  exact atNow_rowWrite (by simp only [takesWrite_ok h, hb, hkind, hval, hbe, decide_true, Bool.and_self]) h

theorem exec_ttSealA_taken (h : takesWrite s m .TIM_TT_CTRL 0 0 = true) :
    exec (.ttSealA m) s = .next (finish s (ttSeal (wrote s m .TIM_TT_CTRL 0 0) 0)) := by
  rw [exec_ttSealA]
  exact atNow_rowBit (f := F.TIM_TT_CTRL_SEAL_A) rfl rfl h

theorem exec_ttSealB_taken (h : takesWrite s m .TIM_TT_CTRL 0 0 = true) :
    exec (.ttSealB m) s = .next (finish s (ttSeal (wrote s m .TIM_TT_CTRL 0 0) 1)) := by
  rw [exec_ttSealB]
  exact atNow_rowBit (f := F.TIM_TT_CTRL_SEAL_B) rfl rfl h

theorem exec_admitA_taken (h : takesWrite s m .TIM_TT_CTRL 0 0 = true) :
    exec (.admitA m) s = .next (finish s (ttAdmitStart (wrote s m .TIM_TT_CTRL 0 0) 0)) := by
  rw [exec_admitA]
  exact atNow_rowBit (f := F.TIM_TT_CTRL_ADMIT_A) rfl rfl h

theorem exec_admitB_taken (h : takesWrite s m .TIM_TT_CTRL 0 0 = true) :
    exec (.admitB m) s = .next (finish s (ttAdmitStart (wrote s m .TIM_TT_CTRL 0 0) 1)) := by
  rw [exec_admitB]
  exact atNow_rowBit (f := F.TIM_TT_CTRL_ADMIT_B) rfl rfl h

theorem exec_admissionDone_run (hu : u = s.advance at_) (hrun : coreRuns u = true) :
    exec (.admissionDone at_) s = .next (finish u (admissionDone u)) := by
  rw [exec_admissionDone]
  exact atTime_whenCore hu rfl hrun

theorem exec_timetableRecheck_run (hu : u = s.advance at_) (hrun : coreRuns u = true) :
    exec (.timetableRecheck at_) s = .next (finish u (ttRecheck u)) := by
  rw [exec_timetableRecheck]
  exact atTime_whenCore hu rfl hrun

theorem exec_deadlineMiss_run {g : Nat} (hu : u = s.advance at_) (hrun : coreRuns u = true) (hg : g < 4096) :
    exec (.deadlineMiss g at_) s = .next (finish u (settleGroups (deadlineMiss u g))) := by
  rw [exec_deadlineMiss]
  exact atTime_whenCore hu (decide_eq_true hg) hrun

end Rows

/-! ## Banks and their seal (05 R138) -/

section Banks

variable {s : State} {m : Master} {b : Nat}

/-- A bank that is not ACTIVE takes the write while no admission runs, and is in EDIT. -/
theorem ttBankWrite_edits {r : RegName} {i w val be : Nat} (hactive : ttState s b ≠ 3)
    (hbusy : s.flag F.TIM_ADM_STAT_BUSY = false) (hleft : ttState (writeWord s m r i w val be) b ≠ 0) :
    ttBankWrite s m b r i w val be = setTtState (writeWord s m r i w val be) b 0 := by
  rw [ttBankWrite, if_neg (by simp [hactive, hbusy]), if_neg hleft]

theorem ttSeal_of_edit (h : ttState s b = 0) : ttSeal s b = setTtState s b 1 := if_pos h

/-- A sealed bank's admission begins when none runs. -/
theorem ttAdmitStart_sealed (hsealed : ttState s b = 1) (hbusy : s.flag F.TIM_ADM_STAT_BUSY = false) :
    ttAdmitStart s b = (((modTime s fun t => { t with admCut := false }).wr0 F.TIM_ADM_STAT_BUSY 1).wr0
      F.TIM_ADM_STAT_BANK b).wr0 (if b = 0 then F.TIM_TT_CTRL_ADMIT_A else F.TIM_TT_CTRL_ADMIT_B) 1 :=
  if_pos ⟨hsealed, hbusy⟩

end Banks

/-! ## The end of an admission (05 R141, R143) -/

/-- The state that shows a result of admission: no admission runs, and the result stands with its detail. -/
def showAdmission (s : State) (r : AdmResult) : State :=
  (((((((((s.wr0 F.TIM_TT_CTRL_ADMIT_A 0).wr0 F.TIM_TT_CTRL_ADMIT_B 0).wr0 F.TIM_ADM_STAT_BUSY 0).wr0
    F.TIM_ADM_STAT_RESULT r.code).wr0 F.TIM_ADM_STAT_LP r.lp).wr0 F.TIM_ADM_STAT_VC r.vc).wr0 F.TIM_ADM_STAT_GID r.gid).wr0
    F.TIM_ADM_NEED_NEED r.need).wr0 F.TIM_ADM_HAVE_HAVE r.have_).wr0 F.TIM_ADM_TICK_OFFSET r.offset

/-- A running admission ends: a bank that passes uncut becomes ADMITTED. -/
theorem admissionDone_busy {s : State} (hbusy : s.flag F.TIM_ADM_STAT_BUSY = true) :
    admissionDone s = if (ttAdmit s (s.rd0 F.TIM_ADM_STAT_BANK)).code = 0 ∧ s.time.admCut = false then
        setTtState (showAdmission s (ttAdmit s (s.rd0 F.TIM_ADM_STAT_BANK))) (s.rd0 F.TIM_ADM_STAT_BANK) 2
      else showAdmission s (ttAdmit s (s.rd0 F.TIM_ADM_STAT_BANK)) := by
  rw [admissionDone, if_neg (by simp [hbusy])]
  rfl

/-! ## The recheck of the ACTIVE bank (05 R144) -/

/-- The state that shows a result of the recheck. -/
def showRisk (s : State) (r : AdmResult) (risk : Nat) : State :=
  ((((s.wr0 F.TIM_RISK_AT_RISK risk).wr0 F.TIM_RISK_RESULT r.code).wr0 F.TIM_RISK_LP r.lp).wr0 F.TIM_RISK_VC r.vc).wr0
    F.TIM_RISK_GID r.gid

theorem admOk_code : admOk.code = 0 := rfl

section Recheck

variable {s : State}

theorem ttRecheck_holds (hperiod : s.rd F.TIM_TT_PER_PERIOD (s.rd0 F.TIM_TT_STAT_ACTIVE) ≠ 0)
    (hcode : (ttConditions s (s.rd0 F.TIM_TT_STAT_ACTIVE)).code = 0) : ttRecheck s = showRisk s admOk 0 := by
  rw [ttRecheck, if_neg hperiod, if_pos hcode]
  rfl

theorem ttRecheck_fails (hperiod : s.rd F.TIM_TT_PER_PERIOD (s.rd0 F.TIM_TT_STAT_ACTIVE) ≠ 0)
    (hcode : (ttConditions s (s.rd0 F.TIM_TT_STAT_ACTIVE)).code ≠ 0) :
    ttRecheck s = (showRisk s (ttConditions s (s.rd0 F.TIM_TT_STAT_ACTIVE)) 1).report 2 5
      (ttConditions s (s.rd0 F.TIM_TT_STAT_ACTIVE)).code := by
  rw [ttRecheck, if_neg hperiod, if_neg hcode]
  rfl

end Recheck

/-! ## A missed deadline (05 R140) -/

/-- A deadline that has passed is counted once, and a strict one aborts the operation. -/
theorem deadlineMiss_passed {s : State} {g t0 : Nat} {o : GrpOp} {e : TtGroup} (hop : (getGrp s g).op = some o)
    (hstart : o.atStart = some t0) (hgroup : ((ttGroupsOf s (s.rd0 F.TIM_TT_STAT_ACTIVE)).find? (·.gid == g)) = some e)
    (hset : e.deadline ≠ 0) (hdue : t0 + e.deadline ≤ s.tickCount) :
    deadlineMiss s g = if e.strict then
        settleGroups (raiseAbort ((modOp s g fun o => { o with atStart := none }).cntG g 14) g o.seq 6)
      else (modOp s g fun o => { o with atStart := none }).cntG g 14 := by
  simp only [deadlineMiss, hop, hstart, hgroup]
  exact if_pos ⟨hset, hdue⟩

/-! ## The obligation -/

/-- Settles O9: each row answers its operation's next state; the banks, admission, the recheck and deadlines move as R138 to
R144 say. -/
theorem timetables : Obligations.Timetables := by
  unfold Obligations.Timetables
  refine ⟨?rows, ?timedRows, ?edit, ?sealA, ?sealB, ?admitA, ?admitB, ?done, ?recheck, ?deadline⟩
  case rows =>
    intro s m b kind i w val be hb hkind hval hbe
    exact ⟨exec_ttBankWrite_taken hb hkind hval hbe, exec_ttSealA_taken, exec_ttSealB_taken, exec_admitA_taken,
      exec_admitB_taken⟩
  case timedRows =>
    intro s u at_ g hu hrun hg
    exact ⟨exec_admissionDone_run hu hrun, exec_timetableRecheck_run hu hrun, exec_deadlineMiss_run hu hrun hg⟩
  case edit =>
    intro s c m b i w val be hb hval hbe htakes hc hactive hbusy hleft
    have hrow := exec_ttBankWrite_taken (kind := 2) hb (by decide) hval hbe htakes
    rw [hrow, ← ttBankWrite_edits hactive hbusy hleft, hc]
    rfl
  case sealA =>
    intro s c m htakes hc hedit
    rw [exec_ttSealA_taken htakes, ← hc, ttSeal_of_edit hedit]
  case sealB =>
    intro s c m htakes hc hedit
    rw [exec_ttSealB_taken htakes, ← hc, ttSeal_of_edit hedit]
  case admitA =>
    intro s c m htakes hc hsealed hbusy
    rw [exec_admitA_taken htakes, ← hc, ttAdmitStart_sealed hsealed hbusy, if_pos rfl]
  case admitB =>
    intro s c m htakes hc hsealed hbusy
    rw [exec_admitB_taken htakes, ← hc, ttAdmitStart_sealed hsealed hbusy, if_neg one_ne_zero]
  case done =>
    intro s u v at_ r hu hrun hbusy hr hv
    have hshown : v = showAdmission u r := hv
    rw [exec_admissionDone_run hu hrun, admissionDone_busy hbusy, ← hr, ← hshown]
    constructor
    · intro hcode huncut
      rw [if_pos ⟨hcode, huncut⟩]
    · intro hfails
      have hnot : ¬(r.code = 0 ∧ u.time.admCut = false) := by
        rintro ⟨hcode, huncut⟩
        exact hfails.elim (· hcode) fun hcut => Bool.false_ne_true (huncut.symm.trans hcut)
      rw [if_neg hnot]
  case recheck =>
    intro s u at_ b r hu hrun hb hperiod hr
    subst hb
    rw [exec_timetableRecheck_run hu hrun, hr]
    constructor
    · intro hcode
      rw [ttRecheck_holds hperiod hcode, showRisk, admOk_code]
    · intro hcode
      rw [ttRecheck_fails hperiod hcode, showRisk]
  case deadline =>
    intro s u c g at_ t0 o e hu hrun hg hop hstart hgroup hset hdue hc
    rw [exec_deadlineMiss_run hu hrun hg, deadlineMiss_passed hop hstart hgroup hset hdue, ← hc]
    constructor
    · intro hlax
      rw [hlax, if_neg Bool.false_ne_true]
    · intro hstrict
      rw [hstrict, if_pos rfl]

end Sys2Proof.Machine
end

section
/-! PROOFS. Groups are set up and taken down (06 R152 to R159): the rows answer their operation's next state where the write is
taken or the core runs; what a write of an entry, CREATE, CREATE_SHAPE, DESTROY, GROUP_ABORT and the end of HOLD do in the case
their rule names. -/

namespace Sys2Proof.Machine

open Sys2Proof

/-! ## The rows of groups -/

section Rows

variable {s u : State} {m : Master} {g at_ val be : Nat}

theorem exec_grpEntWrite_taken {w : Nat} (hg : g < 4096) (hval : val < 2 ^ 32) (hbe : beOk m be = true)
    (h : takesWrite s m .GRP_ENT g w = true) :
    exec (.grpEntWrite m g w val be) s =
      .next (finish s (groupEntWrite (wrote s m .GRP_ENT g w) m g w val be)) := by
  rw [exec_grpEntWrite]
  exact atNow_rowWrite (by simp only [takesWrite_ok h, hg, hval, hbe, decide_true, Bool.and_self]) h

theorem exec_grpRankWrite_taken {b i : Nat} (hb : b < 2) (hval : val < 2 ^ 32) (hbe : beOk m be = true)
    (h : takesWrite s m (rankReg b) i 0 = true) :
    exec (.grpRankWrite m b i val be) s =
      .next (finish s (groupRankWrite (wrote s m (rankReg b) i 0) m b i val be)) := by
  rw [exec_grpRankWrite]
  exact atNow_rowWrite (by simp only [takesWrite_ok h, hb, hval, hbe, decide_true, Bool.and_self]) h

/-- A command of GRP_CMD for a group answers its effect on the counted state. -/
theorem atNow_groupCmd {eff : State → State} (hg : g < 4096) (h : takesWrite s m .GRP_CMD 0 0 = true) :
    atNow s (m.ok && decide (g < 4096)) (fun s => rowWrite s m .GRP_CMD 0 0 val be eff) =
      .next (finish s (eff (wrote s m .GRP_CMD 0 0))) :=
  atNow_rowWrite (by simp only [takesWrite_ok h, hg, decide_true, Bool.and_self]) h

theorem exec_create_taken (hg : g < 4096) (h : takesWrite s m .GRP_CMD 0 0 = true) :
    exec (.create m g) s = .next (finish s (settleGroups (groupCreate (wrote s m .GRP_CMD 0 0) g false))) := by
  rw [exec_create]
  exact atNow_groupCmd (eff := fun s => settleGroups (groupCreate s g false)) hg h

theorem exec_createShape_taken (hg : g < 4096) (h : takesWrite s m .GRP_CMD 0 0 = true) :
    exec (.createShape m g) s = .next (finish s (settleGroups (groupCreate (wrote s m .GRP_CMD 0 0) g true))) := by
  rw [exec_createShape]
  exact atNow_groupCmd (eff := fun s => settleGroups (groupCreate s g true)) hg h

theorem exec_destroy_taken (hg : g < 4096) (h : takesWrite s m .GRP_CMD 0 0 = true) :
    exec (.destroy m g) s = .next (finish s (settleGroups (groupDestroy (wrote s m .GRP_CMD 0 0) g))) := by
  rw [exec_destroy]
  exact atNow_groupCmd (eff := fun s => settleGroups (groupDestroy s g)) hg h

theorem exec_abort_taken (hg : g < 4096) (h : takesWrite s m .GRP_CMD 0 0 = true) :
    exec (.abort m g) s = .next (finish s (settleGroups (groupAbort (wrote s m .GRP_CMD 0 0) g))) := by
  rw [exec_abort]
  exact atNow_groupCmd (eff := fun s => settleGroups (groupAbort s g)) hg h

theorem exec_groupFree_run (hu : u = s.advance at_) (hrun : coreRuns u = true) (hg : g < 4096) :
    exec (.groupFree g at_) s = .next (finish u (groupFree u g)) := by
  rw [exec_groupFree]
  exact atTime_whenCore (f := fun s => groupFree s g) hu (decide_eq_true hg) hrun

end Rows

section Setup

variable {s : State} {m : Master} {g : Nat}

/-! ## Entries (06 R153, R155) -/

/-- The first write of a FREE group's entry makes it OPEN. -/
theorem groupEntWrite_free {w val be : Nat} (hlive : groupLive s g = false) (hfree : s.rd F.GRP_ENT_STATE g = 0) :
    groupEntWrite s m g w val be = (writeWord s m .GRP_ENT g w val be).wr F.GRP_ENT_STATE g 1 := by
  rw [groupEntWrite, if_neg (by simp [hlive]), if_pos hfree]

theorem groupRankWrite_unlocked {b i val be : Nat} (h : rankLocked s b i = false) :
    groupRankWrite s m b i val be = writeWord s m (rankReg b) i 0 val be := by
  rw [groupRankWrite, if_neg (by simp [h])]

/-! ## CREATE and CREATE_SHAPE (06 R157, R158) -/

/-- CREATE whose checks pass: the group is ACTIVE on bank A and holds nothing. -/
theorem groupCreate_passes (h : createResult s g false (planWritten s g) = 0) :
    groupCreate s g false =
      cmdResult (setGrp ((s.wr F.GRP_ENT_STATE g 2).wr F.GRP_ENT_ACT_BANK g 0) g grpInit) g 0 :=
  if_neg (not_not_intro h)

/-- CREATE_SHAPE whose checks pass does so with the plan that it computes, and notes the shape. -/
theorem groupCreate_shape_passes (h : createResult s g true (planShape s) = 0) :
    groupCreate s g true =
      cmdResult (setGrp (((putShape s g (planShape s)).wr F.GRP_ENT_STATE g 2).wr F.GRP_ENT_ACT_BANK g 0) g
        { grpInit with shaped := some (s.rd0 F.GRP_SHAPE_NCOL, s.rd0 F.GRP_SHAPE_NSLOT) }) g 0 :=
  if_neg (not_not_intro h)

theorem groupCreate_fails (h : createResult s g false (planWritten s g) ≠ 0) :
    groupCreate s g false = cmdResult s g (createResult s g false (planWritten s g)) := if_pos h

theorem groupCreate_shape_fails (h : createResult s g true (planShape s) ≠ 0) :
    groupCreate s g true = cmdResult s g (createResult s g true (planShape s)) := if_pos h

/-! ## DESTROY and GROUP_ABORT (06 R159) -/

/-- A group that DESTROY has made CLOSING, what it had queued withdrawn. -/
def groupClosing (s : State) (g : Nat) : State :=
  modGrp (withdrawQueued (s.wr F.GRP_ENT_STATE g 3) g) g fun x => { x with closingAt := some s.now }

theorem groupDestroy_idle (hactive : groupActive s g = true) (hop : (getGrp (groupClosing s g) g).op = none) :
    groupDestroy s g = cmdResult (groupClosing s g) g 0 := by
  rw [groupClosing] at hop
  simp only [groupDestroy, hactive, hop, Bool.not_true, Bool.false_eq_true, if_false, groupClosing]

theorem groupDestroy_running {o : GrpOp} (hactive : groupActive s g = true)
    (hop : (getGrp (groupClosing s g) g).op = some o) :
    groupDestroy s g = cmdResult (raiseAbort (groupClosing s g) g o.seq 7) g 0 := by
  rw [groupClosing] at hop
  simp only [groupDestroy, hactive, hop, Bool.not_true, Bool.false_eq_true, if_false, groupClosing]

theorem groupDestroy_inactive (h : groupActive s g = false) : groupDestroy s g = cmdResult s g 1 := by
  rw [groupDestroy, if_pos (by simp [h])]

theorem groupAbort_inactive (h : groupActive s g = false) : groupAbort s g = cmdResult s g 1 := by
  rw [groupAbort, if_pos (by simp [h])]

theorem groupAbort_running {o : GrpOp} (hactive : groupActive s g = true) (hop : (getGrp s g).op = some o) :
    groupAbort s g = cmdResult (raiseAbort s g o.seq 7) g 0 := by
  simp only [groupAbort, hactive, hop, Bool.not_true, Bool.false_eq_true, if_false]

/-! ## The end of CLOSING (06 R152) -/

/-- A CLOSING group with nothing in progress is FREE once HOLD has passed: its entry stands at its reset values, it holds
nothing, and its counters are gone. -/
theorem groupFree_held {d : State} {t0 : Nat} (hclosing : s.rd F.GRP_ENT_STATE g = 3) (hop : (getGrp s g).op = none)
    (hat : (getGrp s g).closingAt = some t0) (hhold : t0 + 1000 * s.rd0 F.SWC_BANK_HOLD_HOLD ≤ s.now)
    (hd : d = setGrp (resetFields s .GRP_ENT g) g grpInit) :
    groupFree s g = { d with tel := { d.tel with
      cnt := d.tel.cnt.filter fun e => !(decide (0x100000 + g * 128 ≤ e.1) && decide (e.1 < 0x100000 + (g + 1) * 128))
      waits := d.tel.waits.filter fun e =>
        !(decide (0x100000 + g * 128 ≤ e.1) && decide (e.1 < 0x100000 + (g + 1) * 128)) } } := by
  subst hd
  exact if_pos ⟨hclosing, hop, by simpa [hat] using hhold⟩

end Setup

/-! ## The obligation -/

/-- Settles O10: each row answers its operation's next state; entries, the commands of GRP_CMD and the end of CLOSING do what
R152 to R159 say. -/
theorem groupSetup : Obligations.GroupSetup := by
  unfold Obligations.GroupSetup
  refine ⟨?rows, ?freeRow, ?entry, ?rank, ?create, ?shape, ?destroy, ?inactive, ?abort, ?free⟩
  case rows =>
    intro s m g w val be b i hg hval hbe hb
    exact ⟨exec_grpEntWrite_taken hg hval hbe, exec_grpRankWrite_taken hb hval hbe, exec_create_taken hg,
      exec_createShape_taken hg, exec_destroy_taken hg, exec_abort_taken hg⟩
  case freeRow =>
    intro s u g at_ hu hrun hg
    exact exec_groupFree_run hu hrun hg
  case entry =>
    intro s c m g w val be hg hval hbe htakes hc hlive hfree
    rw [exec_grpEntWrite_taken hg hval hbe htakes, ← hc, groupEntWrite_free hlive hfree]
  case rank =>
    intro s c m b i val be hb hval hbe htakes hc hfree
    rw [exec_grpRankWrite_taken hb hval hbe htakes, ← hc, groupRankWrite_unlocked hfree]
  case create =>
    intro s c m g hg htakes hc
    rw [exec_create_taken hg htakes, ← hc]
    constructor
    · intro hpass
      rw [groupCreate_passes hpass]
    · intro hfail
      rw [groupCreate_fails hfail]
  case shape =>
    intro s c m g hg htakes hc
    rw [exec_createShape_taken hg htakes, ← hc]
    constructor
    · intro hpass
      rw [groupCreate_shape_passes hpass]
    · intro hfail
      rw [groupCreate_shape_fails hfail]
  case destroy =>
    intro s c d m g hg htakes hc hactive hd
    have hclosing : d = groupClosing c g := hd
    subst hclosing
    rw [exec_destroy_taken hg htakes, ← hc]
    constructor
    · intro hop
      rw [groupDestroy_idle hactive hop]
    · intro o hop
      rw [groupDestroy_running hactive hop]
  case inactive =>
    intro s c m g hg htakes hc hinactive
    rw [exec_destroy_taken hg htakes, exec_abort_taken hg htakes, ← hc, groupDestroy_inactive hinactive,
      groupAbort_inactive hinactive]
    exact ⟨rfl, rfl⟩
  case abort =>
    intro s c m g o hg htakes hc hactive hop
    rw [exec_abort_taken hg htakes, ← hc, groupAbort_running hactive hop]
  case free =>
    intro s u d g at_ t0 hu hrun hg hclosing hop hat hhold hd
    rw [exec_groupFree_run hu hrun hg, groupFree_held hclosing hop hat hhold hd]

end Sys2Proof.Machine
end

section
/-! PROOFS. Doorbells, launches, grant requests, waves and grants (06 R164 to R173; 08 R222): the rows answer their operation's
next state where the station holds the packet or the core runs, and what each operation does in the case its rule names. -/

namespace Sys2Proof.Machine

open Sys2Proof

/-! ## The rows of launches and grants -/

/-- A packet row whose effect is a function of the state at its moment, its packet at the station. -/
theorem atTime_stationRow {s u : State} {p : StPkt} {op at_ : Nat} {f : State → State} (hu : u = s.advance at_)
    (hst : stationHas u p op = true) :
    atTime s at_ (decide (p.arr ≤ 161)) (fun s => atStation s p op f) = .next (finish u (f u)) := by
  subst hu
  rw [decide_eq_true (stationHas_arr hst), atTime_run, atStation_run hst]

section Rows

variable {s u : State} {p : StPkt} {g at_ : Nat}

theorem exec_doorbell_at (hu : u = s.advance at_) (hst : stationHas u p 0x14 = true) :
    exec (.doorbell p at_) s = .next (finish u (settleGroups (doorbell u p))) := by
  rw [exec_doorbell]
  exact atTime_stationRow (f := fun s => settleGroups (doorbell s p)) hu hst

theorem exec_grantReq_at (hu : u = s.advance at_) (hst : stationHas u p 0x10 = true) :
    exec (.grantReq p at_) s = .next (finish u (settleGroups (grantReq u p))) := by
  rw [exec_grantReq]
  exact atTime_stationRow (f := fun s => settleGroups (grantReq s p)) hu hst

theorem exec_grant_at (hu : u = s.advance at_) (hst : stationHas u p 0x11 = true) :
    exec (.grant p at_) s = .next (finish u (settleGroups (grantReceive u p))) := by
  rw [exec_grant]
  exact atTime_stationRow (f := fun s => settleGroups (grantReceive s p)) hu hst

theorem exec_launch_run (hu : u = s.advance at_) (hrun : coreRuns u = true) (hg : g < 4096) :
    exec (.launch g at_) s = .next (finish u (settleGroups (launch u g))) := by
  rw [exec_launch]
  exact atTime_whenCore (f := fun s => settleGroups (launch s g)) hu (decide_eq_true hg) hrun

theorem exec_waveGrant_run {hostData : Option (List Byte)} (hu : u = s.advance at_) (hrun : coreRuns u = true) :
    exec (.waveGrant hostData at_) s = .next (finish u (settleGroups (waveGrant u hostData))) := by
  rw [exec_waveGrant]
  exact atTime_whenCore (f := fun s => settleGroups (waveGrant s hostData)) hu rfl hrun

end Rows

/-! ## A DOORBELL (06 R168) -/

section Doorbell

variable {s c : State} {p : StPkt}

/-- How far NEXT_SEQ is past the SEQ of a DOORBELL. -/
def doorbellBack (c : State) (p : StPkt) : Nat := seqSub (nextSeq c p.hdr.gid) p.hdr.seq

/-- How far the SEQ of a DOORBELL is past NEXT_SEQ. -/
def doorbellAhead (c : State) (p : StPkt) : Nat := seqSub p.hdr.seq (nextSeq c p.hdr.gid)

/-- The answer to a DOORBELL: a GRANT of kind 2 on the link it came by. -/
def answerDoorbell (c : State) (p : StPkt) (t : State) : State :=
  sendGrant t p.hdr.gid (linkCode c p.arr) 2 p.hdr.seq 0 0

variable (hc : c = takeStation s p) (hours : collectiveReason c p.hdr p.arr = 0)
  (hrack : c.flag F.GRP_ENT_MODE p.hdr.gid = true)

include hc hours hrack

theorem doorbell_back (h1 : 1 ≤ doorbellBack c p) (hn : doorbellBack c p ≤ 2 ^ c.rd F.GRP_ENT_QLOG p.hdr.gid) :
    doorbell s p = answerDoorbell c p (stDiscard c p 0x1E) := by
  simp only [doorbell, ← hc, hours, hrack, ne_eq, not_true_eq_false, Bool.true_eq_false, if_false]
  exact if_pos ⟨h1, hn⟩

theorem doorbell_ahead (hback : 2 ^ c.rd F.GRP_ENT_QLOG p.hdr.gid < doorbellBack c p)
    (hahead : 2 ^ c.rd F.GRP_ENT_QLOG p.hdr.gid ≤ doorbellAhead c p) :
    doorbell s p = answerDoorbell c p (stDiscard c p 0x1C) := by
  simp only [doorbell, ← hc, hours, hrack, ne_eq, not_true_eq_false, Bool.true_eq_false, if_false]
  rw [if_neg fun h => Nat.not_le.mpr hback h.2]
  exact if_pos hahead

variable {w : List Word}
  (hwithin : doorbellBack c p = 0 ∨ 2 ^ c.rd F.GRP_ENT_QLOG p.hdr.gid < doorbellBack c p)
  (hahead : doorbellAhead c p < 2 ^ c.rd F.GRP_ENT_QLOG p.hdr.gid) (hw : w = wordsOf 16 p.data) (hlen : p.hdr.len = 64)
  (hdesc : descReserved c p.hdr.gid w true = false)

include hwithin hahead hw hlen hdesc

/-- The first DOORBELL of a SEQ within the queue fills the slot and the slot's words. -/
theorem doorbell_first {d e : State} (hd : d = noteFirst c p.hdr.gid p.hdr.seq)
    (hnone : (getGrp d p.hdr.gid).queue.find? (·.seq == p.hdr.seq) = none)
    (he : e = putQstore (modGrp d p.hdr.gid fun x =>
      { x with queue := x.queue ++ [⟨p.hdr.seq, w, [(linkCode c p.arr, w)], none⟩] }) p.hdr.gid p.hdr.seq w)
    (hsame : reqsDiffer e p.hdr.gid p.hdr.seq (signatureOf w (c.rd F.GRP_ENT_GEPOCH p.hdr.gid)) = false) :
    doorbell s p = answerDoorbell c p e := by
  unfold doorbellBack at hwithin
  unfold doorbellAhead at hahead
  simp only [doorbell, ← hc, hours, hrack, ne_eq, not_true_eq_false, Bool.true_eq_false, if_false]
  rw [if_neg (by omega), if_neg (by omega)]
  simp only [← hw, ← hd, hnone, hlen, hdesc, bne_self_eq_false, Bool.or_self, Bool.false_eq_true, if_false, ← he, hsame]
  rfl

/-- Another link's DOORBELL with the slot's signature joins it. -/
theorem doorbell_joins {d : State} {q : QEnt} (hd : d = noteFirst c p.hdr.gid p.hdr.seq)
    (hslot : (getGrp d p.hdr.gid).queue.find? (·.seq == p.hdr.seq) = some q)
    (hsame : signatureOf q.desc (c.rd F.GRP_ENT_GEPOCH p.hdr.gid) = signatureOf w (c.rd F.GRP_ENT_GEPOCH p.hdr.gid)) :
    doorbell s p = answerDoorbell c p (modGrp d p.hdr.gid fun x => { x with queue := x.queue.map fun y =>
      if y.seq = p.hdr.seq then
        { y with rung := y.rung.filter (·.1 != linkCode c p.arr) ++ [(linkCode c p.arr, w)] } else y }) := by
  unfold doorbellBack at hwithin
  unfold doorbellAhead at hahead
  simp only [doorbell, ← hc, hours, hrack, ne_eq, not_true_eq_false, Bool.true_eq_false, if_false]
  rw [if_neg (by omega), if_neg (by omega)]
  simp only [← hw, ← hd, hslot, hlen, hdesc, hsame, bne_self_eq_false, Bool.or_self, Bool.false_eq_true, if_false]
  rfl

end Doorbell

/-! ## LAUNCH (06 R166, R169) -/

section Launch

variable {s : State} {g : Nat} {d : List Word} {hop : Option Nat} (hdesc : launchDesc s g = some (d, hop))

include hdesc

/-- A gate not met is noted, and the progress timer stops. -/
theorem launch_notes_gate (hgate : bitAt (dW d 2) 31 = true) (hnone : (getGrp s g).gate = none)
    (hmet : gateMet s d = false) :
    launch s g = modGrp { s with well := { s.well with regNo := s.well.regNo + 1 } } g
      fun x => { x with gate := some s.well.regNo, timer := none } := by
  simp only [launch, hdesc]
  exact if_pos ⟨hgate, hnone, hmet⟩

theorem launch_waits (hgate : (getGrp s g).gate.isSome = true) (hmet : gateMet s d = false) : launch s g = s := by
  have hnoted : (getGrp s g).gate ≠ none := Option.isSome_iff_ne_none.mp hgate
  simp only [launch, hdesc]
  rw [if_neg fun h => hnoted h.2.1]
  exact if_pos ⟨hgate, hmet⟩

/-- Without a gate, or with one that is met, the operation is launched. -/
theorem launch_launches (h : bitAt (dW d 2) 31 = false ∧ (getGrp s g).gate = none ∨ gateMet s d = true) :
    launch s g = launchNow s g d hop := by
  simp only [launch, hdesc]
  obtain ⟨hgate, hnone⟩ | hmet := h
  · rw [if_neg (by simp [hgate]), if_neg (by simp [hnone])]
  · rw [if_neg (by simp [hmet]), if_neg (by simp [hmet])]

end Launch

/-! ## A GRANT_REQ (06 R165, R171) -/

section GrantReq

variable {s c : State} {p : StPkt} (hc : c = takeStation s p) (hours : collectiveReason c p.hdr p.arr = 0)

include hc hours

theorem grantReq_slot_taken (h : (getGrp c p.hdr.gid).reqs.any (·.link == linkCode c p.arr) = true) :
    grantReq s p = stDiscard c p 0x1B := by
  simp only [grantReq, ← hc, hours, ne_eq, not_true_eq_false, if_false, h, if_true]

variable (hslot : (getGrp c p.hdr.gid).reqs.any (·.link == linkCode c p.arr) = false)
  (hopen : seqEnded c p.hdr.gid p.hdr.seq = false)

include hslot hopen

/-- One with a reserved field, or whose length or OPW0 is not its signature's, aborts its SEQ. -/
theorem grantReq_malformed
    (h : p.hdr.len ≠ 24 ∨ p.hdr.opw0 ≠ dW (descOfSig (p.data.take 24)) 1 ∨
      descReserved c p.hdr.gid (descOfSig (p.data.take 24)) false = true) :
    grantReq s p = settleGroups (raiseAbort c p.hdr.gid p.hdr.seq 2) := by
  simp only [grantReq, ← hc, hours, ne_eq, not_true_eq_false, if_false, hslot, hopen, Bool.false_eq_true]
  exact if_pos h

/-- At a rack station with no operation that runs or is queued for its SEQ there is nothing it could differ from. -/
theorem grantReq_kept (hlen : p.hdr.len = 24) (hopw : p.hdr.opw0 = dW (descOfSig (p.data.take 24)) 1)
    (hdesc : descReserved c p.hdr.gid (descOfSig (p.data.take 24)) false = false)
    (hop : (getGrp c p.hdr.gid).op = none) (hrack : c.isSpine = false)
    (hqueue : (getGrp c p.hdr.gid).queue.find? (·.seq == p.hdr.seq) = none) :
    grantReq s p = modGrp (noteFirst c p.hdr.gid p.hdr.seq) p.hdr.gid fun x =>
      { x with reqs := x.reqs ++ [⟨linkCode c p.arr, p.hdr.seq, p.hdr.opw1, p.hdr.opw0, p.data.take 24, c.now⟩] } := by
  have hform : ¬(p.hdr.len ≠ 24 ∨ p.hdr.opw0 ≠ dW (descOfSig (p.data.take 24)) 1 ∨
      descReserved c p.hdr.gid (descOfSig (p.data.take 24)) false = true) := by
    rintro (h | h | h)
    · exact h hlen
    · exact h hopw
    · exact Bool.false_ne_true (hdesc.symm.trans h)
  simp only [grantReq, ← hc, hours, ne_eq, not_true_eq_false, if_false, hslot, hopen, Bool.false_eq_true]
  rw [if_neg hform]
  simp only [hop, hrack, hqueue, Option.map_none, Option.any_none, Bool.or_self, Bool.false_eq_true, if_false]

end GrantReq

/-! ## A wave (06 R171, R172; 08 R222) -/

section Wave

variable {s v : State} {g : Nat} {o : GrpOp} {cs ds : List Chunk} {hostData : Option (List Byte)}

/-- The wave's chunks stand with the operation, its GRANT_REQs are used up, and the bytes of the host member are counted. -/
def takeWave (g : Nat) (o : GrpOp) (ds : List Chunk) (s : State) : State :=
  modOp ((modGrp s g fun x => { x with reqs := x.reqs.filter (·.seq != o.seq) }).cntG g 10 (hostGiven ds)) g
    fun o' => { o' with nextWave := o.nextWave + 1, chunks := o'.chunks ++ ds }

/-- The bytes that the chunks of a wave want of a link. -/
def waveBytes (ds : List Chunk) (l : GLink) : Nat :=
  (ds.map fun c => ((c.want.find? (·.1 == l)).map (·.2)).getD 0).foldl (· + ·) 0

/-- Each GRANT_REQ for the wave gets its GRANT. -/
def answerReqs (g : Nat) (o : GrpOp) (ds : List Chunk) (rs : List GReq) (s : State) : State :=
  rs.foldl (fun s r => sendGrant s g r.link 0 o.seq (o.nextWave * o.wave) (waveBytes ds r.link)) s

/-- The wave is asked for upwards, and its chunks that are complete go on. -/
def startWave (g : Nat) (o : GrpOp) (ds : List Chunk) (s : State) : State :=
  (ds.map (·.idx)).foldl (fun s i => chunkArrived s g i)
    ((groupUps s g).foldl (fun s l => askUp s g l o.nextWave) s)

/-- A wave that is not too big and finds its space, while no sweep is held, is granted. -/
theorem grantWave_granted (hop : (getGrp s g).op = some o) (hbig : waveTooBig s g (waveChunks s g o) = false)
    (hhold : s.pumpHold = none) (hspace : waveSpace s g (waveChunks s g o) = some (cs, v))
    (hds : ds = giveHost v g o cs hostData) :
    grantWave s g hostData = some (startWave g o ds
      (answerReqs g o ds ((getGrp s g).reqs.filter (·.seq == o.seq)) (takeWave g o ds v))) := by
  subst hds
  simp only [grantWave, hop, hbig, hhold, hspace, Option.isSome_none, Bool.false_eq_true, if_false]
  rfl

/-- The one group that has a wave to grant gets the turn, which is then its own. -/
theorem waveGrant_only_group {t : State} (horder : grantOrder s = [g]) (hturn : s.grpRr.1 ≠ g)
    (hop : (getGrp s g).op = some o) (hwave : grantWave s g hostData = some t) :
    waveGrant s hostData = settleGroups { t with grpRr := (g, o.weight - 1) } := by
  simp only [waveGrant, horder, List.foldl_cons, List.foldl_nil, hwave, hop, Option.map_some, Option.getD_some]
  rw [if_neg fun h => hturn h.1]

end Wave

/-! ## A GRANT from an up link (06 R173) -/

/-- What waits for a GRANT is sent up: every chunk of the operation, where its wave has been granted. -/
def sendWaiting (s : State) (g : Nat) : State :=
  (((getGrp s g).op.map (·.chunks)).getD [] |>.map (·.idx)).foldl (fun s i => trySendUp s g i) s

/-- A GRANT of kind 0 for a wave asked for is noted once, and the next wave is asked for. -/
theorem grantReceive_granted {s c : State} {p : StPkt} {o : GrpOp} {w : Nat} (hc : c = takeStation s p)
    (hours : collectiveReason c p.hdr p.arr = 0) (hopen : seqEnded c p.hdr.gid p.hdr.seq = false)
    (hop : (getGrp c p.hdr.gid).op = some o) (hseq : o.seq = p.hdr.seq) (hkind : p.hdr.opw0 / 2 ^ 30 = 0)
    (hw : w = p.hdr.opw1 / max 1 o.wave) (hasked : o.upReq.contains (linkCode c p.arr, w) = true)
    (hnew : o.upGot.contains (linkCode c p.arr, w) = false) :
    grantReceive s p = sendWaiting (askUp (modOp c p.hdr.gid fun o =>
      { o with upGot := o.upGot ++ [(linkCode c p.arr, w)] }) p.hdr.gid (linkCode c p.arr) (w + 1)) p.hdr.gid := by
  simp only [grantReceive, ← hc, hours, ne_eq, not_true_eq_false, if_false, hopen, Bool.false_eq_true, hop, hseq, hkind,
    or_self, ← hw, hasked, hnew, Bool.not_true]
  rfl

/-! ## The obligation -/

/-- Settles O11: each row answers its operation's next state; doorbells, launches, grant requests, waves and grants do what
R164 to R173 and R222 say. -/
theorem groupLaunch : Obligations.GroupLaunch := by
  unfold Obligations.GroupLaunch
  refine ⟨?packetRows, ?rows, ?doorbell, ?launch, ?request, ?wave, ?grant⟩
  case packetRows =>
    intro s u p at_ hu
    exact ⟨exec_doorbell_at hu, exec_grantReq_at hu, exec_grant_at hu⟩
  case rows =>
    intro s u g at_ hostData hu hrun hg
    exact ⟨exec_launch_run hu hrun hg, exec_waveGrant_run hu hrun⟩
  case doorbell =>
    intro s u c p at_ g seq n l hu hst hc hg hseq hl hours hrack hn
    subst hg hseq hl hn
    rw [exec_doorbell_at hu hst]
    refine ⟨?back, ?ahead, ?within⟩
    case back =>
      intro h1 hn
      rw [doorbell_back hc hours hrack h1 hn, answerDoorbell]
    case ahead =>
      intro hback hahead
      rw [doorbell_ahead hc hours hrack hback hahead, answerDoorbell]
    case within =>
      intro d e w sig hwithin hahead hw hsig hd hlen hdesc
      subst hsig
      constructor
      · intro hnone he hsame
        rw [doorbell_first hc hours hrack hwithin hahead hw hlen hdesc hd hnone he hsame, answerDoorbell]
      · intro q hslot hsame
        rw [doorbell_joins hc hours hrack hwithin hahead hw hlen hdesc hd hslot hsame, answerDoorbell]
  case launch =>
    intro s u g at_ d hop hu hrun hg hdesc
    rw [exec_launch_run hu hrun hg]
    refine ⟨?notes, ?waits, ?launches⟩
    case notes =>
      intro hgate hnone hmet
      rw [launch_notes_gate hdesc hgate hnone hmet]
    case waits =>
      intro hgate hmet
      rw [launch_waits hdesc hgate hmet]
    case launches =>
      intro h
      rw [launch_launches hdesc h]
  case request =>
    intro s u c p at_ g seq l hu hst hc hg hseq hl hours
    subst hg hseq hl
    rw [exec_grantReq_at hu hst]
    refine ⟨?taken, ?malformed, ?kept⟩
    case taken =>
      intro hslot
      rw [grantReq_slot_taken hc hours hslot]
    case malformed =>
      intro hslot hopen hform
      rw [grantReq_malformed hc hours hslot hopen hform]
    case kept =>
      intro hslot hopen hlen hopw hdesc hop hrack hqueue
      rw [grantReq_kept hc hours hslot hopen hlen hopw hdesc hop hrack hqueue]
  case wave =>
    intro s u v a b d at_ g w hostData o cs ds rs hu hrun horder hturn hop hw hbig hhold hspace hds hrs ha hb hd
    have hwave : grantWave u g hostData = some d := by
      rw [grantWave_granted hop hbig hhold hspace hds, hd, hb, ha, hrs, hw]
      rfl
    rw [exec_waveGrant_run hu hrun, waveGrant_only_group horder hturn hop hwave]
  case grant =>
    intro s u c d p at_ g w l o hu hst hc hg hl hours hopen hop hseq hkind hw hasked hnew hd
    subst hg hl
    rw [exec_grant_at hu hst, grantReceive_granted hc hours hopen hop hseq hkind hw hasked hnew, ← hd, sendWaiting]

end Sys2Proof.Machine
end

section
/-! PROOFS. Contributions, dispatches, expert outputs and results (06 R172; 08 R224, R231, R235): the rows answer their
operation's next state where the station holds the packet, and what each does in the case its rule names. -/

namespace Sys2Proof.Machine

open Sys2Proof

/-! ## The rows of data -/

section Rows

variable {s u : State} {p : StPkt} {at_ : Nat}

theorem exec_contrib_at (hu : u = s.advance at_) (hst : stationHas u p 0x12 = true) :
    exec (.contrib p at_) s = .next (finish u (settleGroups (contribution u p))) := by
  rw [exec_contrib]
  exact atTime_stationRow (f := fun s => settleGroups (contribution s p)) hu hst

theorem exec_dispatch_at (hu : u = s.advance at_) (hst : stationHas u p 0x15 = true) :
    exec (.dispatch p at_) s = .next (finish u (settleGroups (contribution u p))) := by
  rw [exec_dispatch]
  exact atTime_stationRow (f := fun s => settleGroups (contribution s p)) hu hst

theorem exec_expertOut_at (hu : u = s.advance at_) (hst : stationHas u p 0x16 = true) :
    exec (.expertOut p at_) s = .next (finish u (settleGroups (contribution u p))) := by
  rw [exec_expertOut]
  exact atTime_stationRow (f := fun s => settleGroups (contribution s p)) hu hst

theorem exec_result_at (hu : u = s.advance at_) (hst : stationHas u p 0x13 = true) :
    exec (.result p at_) s = .next (finish u (settleGroups (resultReceive u p))) := by
  rw [exec_result]
  exact atTime_stationRow (f := fun s => settleGroups (resultReceive s p)) hu hst

end Rows

/-! ## What a packet adds to a chunk -/

/-- The payload of a packet joins what its link has sent to a chunk. -/
def joinGot (l : GLink) (data : List Byte) (k : Chunk) : Chunk :=
  { k with got := k.got.filter (fun x => x.1 != l) ++ [(l, gotOf k l ++ [data])] }

/-- A RESULT joins what has come down of a chunk. Its flags are the chunk's where it does not carry LAST. -/
def joinDown (down : List (List Byte)) (last : Bool) (flags : Nat) (k : Chunk) : Chunk :=
  { k with down := down, flags := if last = true then k.flags else Nat.lor k.flags flags }

section Data

variable {s c : State} {p : StPkt} (hc : c = takeStation s p) (hours : collectiveReason c p.hdr p.arr = 0)

include hc hours

/-! ## Packets of a SEQ that has ended -/

theorem contribution_ended (h : seqEnded c p.hdr.gid p.hdr.seq = true) : contribution s p = stDiscard c p 0x1E := by
  simp only [contribution, ← hc, hours, ne_eq, not_true_eq_false, if_false, h, if_true]

theorem resultReceive_ended (h : seqEnded c p.hdr.gid p.hdr.seq = true) : resultReceive s p = stDiscard c p 0x1E := by
  simp only [resultReceive, ← hc, hours, ne_eq, not_true_eq_false, if_false, h, if_true]

variable (hopen : seqEnded c p.hdr.gid p.hdr.seq = false)

include hopen

theorem contribution_no_operation (hop : (getGrp c p.hdr.gid).op = none) : contribution s p = stDiscard c p 0x1F := by
  simp only [contribution, ← hc, hours, ne_eq, not_true_eq_false, if_false, hopen, Bool.false_eq_true, hop]

variable {o : GrpOp} {k : Chunk} (hop : (getGrp c p.hdr.gid).op = some o) (hseq : o.seq = p.hdr.seq)

include hop hseq

/-! ## A contribution (06 R172; 08 R231, R235) -/

/-- The first packet of a link that a filling chunk wants, with the operation's OPW0 and signature, joins the chunk and is
counted, and the chunk goes on where it is complete. -/
theorem contribution_first {w : GLink × Nat}
    (hchunk : (o.chunks.find? fun k => k.idx == p.hdr.opw1 && k.stage == 0) = some k)
    (hwant : (k.want.find? fun x => x.1 == linkCode c p.arr) = some w) (hnone : gotOf k (linkCode c p.arr) = [])
    (hxp : (c.isSpine && usesXp o.d && !isBarrier o.d && xpReserved p.data) = false) (hopw : p.hdr.opw0 = dW o.d 1)
    (hsig : p.hdr.opw2 = sigcOf (signatureOf o.d o.ep)) :
    contribution s p = chunkArrived ((modChunk c p.hdr.gid p.hdr.opw1 (joinGot (linkCode c p.arr) p.data)).cntG
      p.hdr.gid 10 p.hdr.len) p.hdr.gid p.hdr.opw1 := by
  have hsame : ¬(p.hdr.opw0 ≠ dW o.d 1 ∨ p.hdr.opw2 ≠ sigcOf (signatureOf o.d o.ep)) := by
    rintro (h | h)
    · exact h hopw
    · exact h hsig
  simp only [contribution, ← hc, hours, ne_eq, not_true_eq_false, if_false, hopen, Bool.false_eq_true, hop, hseq, if_true,
    hchunk, hwant, hnone, List.isEmpty_nil, Bool.not_true, Bool.false_and, hxp]
  exact if_neg hsame

/-! ## A RESULT (08 R224, R226) -/

/-- A RESULT of the last up link for a chunk whose partial has gone up, with elements still to come: it joins what has come
down, and its flags are gathered. -/
theorem resultReceive_joins (hchunk : (o.chunks.find? (·.idx == p.hdr.opw1)) = some k)
    (hone : isTwoStage c p.hdr.gid = false) (hlast : linkCode c p.arr = lastUp c p.hdr.gid)
    (hkind : bits p.hdr.opw2 26 2 = 0) (hstage : k.stage = 3) (hsent : k.sentUp.contains (linkCode c p.arr) = true)
    (hcount : opCount o.d ≠ 0) (hcode : opCode o.d = 0)
    (hfew : stageElems false (finalFmt o.d) (k.down ++ [p.data]) < k.elems) :
    resultReceive s p = modOp (modChunk c p.hdr.gid p.hdr.opw1
        (joinDown (k.down ++ [p.data]) (bitAt p.hdr.opw2 31) (bits p.hdr.opw2 28 3))) p.hdr.gid
      fun o => { o with flags := Nat.lor o.flags (bits p.hdr.opw2 28 3) } := by
  have hdata : isBarrier o.d = false := by simp [isBarrier, hcount, hcode]
  have hleft : ¬(1 * k.elems ≤ stageElems false (finalFmt o.d) (k.down ++ [p.data])) := by omega
  rw [hlast] at hsent
  simp only [resultReceive, ← hc, hours, ne_eq, not_true_eq_false, if_false, hopen, Bool.false_eq_true, hop, hseq, if_true,
    hchunk, hone, Bool.false_and, hlast, beq_self_eq_true, hkind, hstage, Bool.true_and, Bool.or_true, Bool.not_true, hsent,
    Bool.or_self, hdata, hcode, OfNat.zero_ne_ofNat, ge_iff_le, hleft, decide_false, Bool.not_false]
  rfl

end Data

/-! ## The obligation -/

/-- Settles O12: each row answers its operation's next state; contributions, dispatches, expert outputs and results do what
R172, R224, R231 and R235 say. -/
theorem groupData : Obligations.GroupData := by
  unfold Obligations.GroupData
  refine ⟨?rows, ?contrib, ?dispatch, ?expertOut, ?result, ?ended, ?idle⟩
  case rows =>
    intro s u p at_ hu
    exact ⟨exec_contrib_at hu, exec_dispatch_at hu, exec_expertOut_at hu, exec_result_at hu⟩
  case contrib =>
    intro s u c p at_ o k w hu hst hc hours hopen hop hseq hchunk hwant hnone hxp hopw hsig
    rw [exec_contrib_at hu hst, contribution_first hc hours hopen hop hseq hchunk hwant hnone hxp hopw hsig]
    rfl
  case dispatch =>
    intro s u c p at_ o k w hu hst hc hours hopen hop hseq hchunk hwant hnone hxp hopw hsig
    rw [exec_dispatch_at hu hst, contribution_first hc hours hopen hop hseq hchunk hwant hnone hxp hopw hsig]
    rfl
  case expertOut =>
    intro s u c p at_ o k w hu hst hc hours hopen hop hseq hchunk hwant hnone hxp hopw hsig
    rw [exec_expertOut_at hu hst, contribution_first hc hours hopen hop hseq hchunk hwant hnone hxp hopw hsig]
    rfl
  case result =>
    intro s u c p at_ o k hu hst hc hours hopen hop hseq hchunk hone hlast hkind hstage hsent hcount hcode hfew
    rw [exec_result_at hu hst,
      resultReceive_joins hc hours hopen hop hseq hchunk hone hlast hkind hstage hsent hcount hcode hfew]
    rfl
  case ended =>
    intro s u c p at_ hu hc hours hended
    have hdata := contribution_ended hc hours hended
    have hresult := resultReceive_ended hc hours hended
    exact ⟨fun hst => hdata ▸ exec_contrib_at hu hst, fun hst => hresult ▸ exec_result_at hu hst,
      fun hst => hdata ▸ exec_dispatch_at hu hst, fun hst => hdata ▸ exec_expertOut_at hu hst⟩
  case idle =>
    intro s u c p at_ hu hc hours hopen hop
    have hdata := contribution_no_operation hc hours hopen hop
    exact ⟨fun hst => hdata ▸ exec_contrib_at hu hst, fun hst => hdata ▸ exec_dispatch_at hu hst,
      fun hst => hdata ▸ exec_expertOut_at hu hst⟩

end Sys2Proof.Machine
end

section
/-! PROOFS. Aborts and time limits of groups (06 R174 to R180): the rows answer their operation's next state where the core runs
or the station holds the packet; what the progress timer, ABORT_REQ, ABORT and TOKEN do in the case their rule names. -/

namespace Sys2Proof.Machine

open Sys2Proof

/-! ## The rows of aborts -/

section Rows

variable {s u : State} {p : StPkt} {g at_ : Nat}

theorem exec_progressTimeout_run (hu : u = s.advance at_) (hrun : coreRuns u = true) (hg : g < 4096) :
    exec (.progressTimeout g at_) s = .next (finish u (settleGroups (progressTimeout u g))) := by
  rw [exec_progressTimeout]
  exact atTime_whenCore (f := fun s => settleGroups (progressTimeout s g)) hu (decide_eq_true hg) hrun

theorem exec_tokenSend_run (hu : u = s.advance at_) (hrun : coreRuns u = true) (hg : g < 4096) :
    exec (.tokenSend g at_) s = .next (finish u (settleGroups (tokenSend u g))) := by
  rw [exec_tokenSend]
  exact atTime_whenCore (f := fun s => settleGroups (tokenSend s g)) hu (decide_eq_true hg) hrun

theorem exec_abortReq_at (hu : u = s.advance at_) (hst : stationHas u p 0x06 = true) :
    exec (.abortReq p at_) s = .next (finish u (settleGroups (abortReq u p))) := by
  rw [exec_abortReq]
  exact atTime_stationRow (f := fun s => settleGroups (abortReq s p)) hu hst

theorem exec_seqctlAbort_at (hu : u = s.advance at_) (hst : stationHas u p 0x06 = true) :
    exec (.seqctlAbort p at_) s = .next (finish u (settleGroups (seqctlAbort u p))) := by
  rw [exec_seqctlAbort]
  exact atTime_stationRow (f := fun s => settleGroups (seqctlAbort s p)) hu hst

theorem exec_token_at (hu : u = s.advance at_) (hst : stationHas u p 0x06 = true) :
    exec (.token p at_) s = .next (finish u (settleGroups (tokenReceive u p))) := by
  rw [exec_token]
  exact atTime_stationRow (f := fun s => settleGroups (tokenReceive s p)) hu hst

end Rows

/-! ## The progress timer (06 R174) -/

section Timer

variable {s : State} {g t0 : Nat} (hgate : (getGrp s g).gate = none) (htimer : (getGrp s g).timer = some t0)

include hgate htimer

/-- The timeout of a running operation. -/
theorem progressTimeout_operation {o : GrpOp} (hop : (getGrp s g).op = some o) (hset : o.gto ≠ 0)
    (hdue : t0 + 1000 * o.gto ≤ s.now) :
    progressTimeout s g = settleGroups (raiseAbort s g (nextSeq s g) 1) := by
  simp only [progressTimeout, hop, htimer]
  exact if_pos ⟨hset, rfl, hgate, hdue⟩

/-- The timeout of a SEQ first heard of and not launched. -/
theorem progressTimeout_first (hop : (getGrp s g).op = none)
    (hfirst : (getGrp s g).firsts.any (·.1 == nextSeq s g) = true) (hset : s.rd F.GRP_ENT_GTO g ≠ 0)
    (hdue : t0 + 1000 * s.rd F.GRP_ENT_GTO g ≤ s.now) :
    progressTimeout s g = settleGroups (raiseAbort s g (nextSeq s g) 1) := by
  simp only [progressTimeout, hop, htimer]
  exact if_pos ⟨hset, hfirst, hgate, hdue⟩

end Timer

/-! ## SEQCTL packets (06 R176 to R180) -/

section Seqctl

variable {s c d e : State} {p : StPkt} (hc : c = takeStation s p) (hours : collectiveReason c p.hdr p.arr = 0)

include hc hours

/-! ### ABORT_REQ (06 R176 to R178) -/

section Request

variable (hkind : seqKind p = 0)
  (hnew : noteKey c p.hdr.gid [p.hdr.seq, 0, seqCode p, p.hdr.opw1 % 2 ^ 20] = (true, d))
  (he : e = forwardSeqctl d p.hdr.gid p)

include hkind hnew he

/-- The acting sequencer decides it. -/
theorem abortReq_decided (hacts : actsFor e p.hdr.gid = true) (hcover : coverWaits e p.hdr.gid = false) :
    abortReq s p = decideAbort e p.hdr.gid p.hdr.seq (seqCode p) := by
  simp only [abortReq, ← hc, hours, ne_eq, not_true_eq_false, if_false, hkind, hnew, Bool.not_true, Bool.false_eq_true, ← he,
    hacts, hcover, Bool.not_false, Bool.and_self, if_true]

/-- A home rack whose sequencer does not act notes it, once and while it is undecided. -/
theorem abortReq_noted (hacts : actsFor e p.hdr.gid = false) (hhome : inHomeRack e p.hdr.gid = true)
    (hopen : (getGrp e p.hdr.gid).decided.contains p.hdr.seq = false)
    (hfirst : (getGrp e p.hdr.gid).asked.contains (p.hdr.seq, seqCode p) = false) :
    abortReq s p = modGrp e p.hdr.gid fun x => { x with asked := (x.asked ++ [(p.hdr.seq, seqCode p)]).take 64 } := by
  simp only [abortReq, ← hc, hours, ne_eq, not_true_eq_false, if_false, hkind, hnew, Bool.not_true, Bool.false_eq_true, ← he,
    hacts, hhome, hopen, hfirst, Bool.false_and, Bool.not_false, Bool.and_self, if_true]

end Request

/-! ### ABORT (06 R179) -/

section Abort

variable (hkind : seqKind p = 1) (hnew : noteKey c p.hdr.gid [p.hdr.seq, 1] = (true, d))
  (he : e = endSeq (forwardSeqctl d p.hdr.gid p) p.hdr.gid p.hdr.seq (seqCode p) true)

include hkind hnew he

theorem seqctlAbort_away (haway : inHomeRack e p.hdr.gid = false) : seqctlAbort s p = e := by
  simp only [seqctlAbort, ← hc, hours, ne_eq, not_true_eq_false, if_false, hkind, hnew, Bool.not_true, Bool.false_eq_true,
    ← he, haway]

/-- In the home rack it counts as decided, and its echo is kept for 2 ms (15 R436). -/
theorem seqctlAbort_home (hhome : inHomeRack e p.hdr.gid = true) :
    seqctlAbort s p = modGrp e p.hdr.gid fun x => { x with
      decided := (p.hdr.seq :: x.decided).take 16
      asked := x.asked.filter (·.1 != p.hdr.seq)
      echo := ((c.now, p.hdr.seq, seqCode p) :: x.echo).filter fun y => decide (c.now ≤ y.1 + 2000000) } := by
  simp only [seqctlAbort, ← hc, hours, ne_eq, not_true_eq_false, if_false, hkind, hnew, Bool.not_true, Bool.false_eq_true,
    ← he, hhome, if_true]

end Abort

/-! ### TOKEN (06 R180) -/

theorem tokenReceive_first (hkind : seqKind p = 2) (hnew : noteKey c p.hdr.gid [p.hdr.seq, 2] = (true, d)) :
    tokenReceive s p = noteToken (forwardSeqctl d p.hdr.gid p) p.hdr.gid p.hdr.seq := by
  simp only [tokenReceive, ← hc, hours, ne_eq, not_true_eq_false, if_false, hkind, hnew, Bool.not_true, Bool.false_eq_true]

end Seqctl

/-- The acting sequencer sends the one TOKEN that is due. -/
theorem tokenSend_due {s : State} {g seq t0 : Nat} (hlive : groupLive s g = true) (hacts : actsFor s g = true)
    (hdue : (getGrp s g).tokenDue = [(seq, t0)]) (hnow : t0 ≤ s.now) : tokenSend s g = sendToken s g seq := by
  have hfind : ([(seq, t0)].find? fun e => decide (e.2 ≤ s.now)) = some (seq, t0) :=
    List.find?_cons_of_pos (decide_eq_true hnow)
  simp only [tokenSend, hlive, hacts, Bool.not_true, Bool.or_self, Bool.false_eq_true, if_false, hdue, hfind]

/-! ## The obligation -/

/-- Settles O13: each row answers its operation's next state; the progress timer, ABORT_REQ, ABORT and TOKEN do what R174 to
R180 say. -/
theorem groupAborts : Obligations.GroupAborts := by
  unfold Obligations.GroupAborts
  refine ⟨?rows, ?packetRows, ?timeout, ?request, ?abort, ?token, ?send⟩
  case rows =>
    intro s u g at_ hu hrun hg
    exact ⟨exec_progressTimeout_run hu hrun hg, exec_tokenSend_run hu hrun hg⟩
  case packetRows =>
    intro s u p at_ hu
    exact ⟨exec_abortReq_at hu, exec_seqctlAbort_at hu, exec_token_at hu⟩
  case timeout =>
    intro s u g at_ t0 n hu hrun hg hn hset hgate htimer hdue
    rw [exec_progressTimeout_run hu hrun hg]
    cases hop : (getGrp u g).op with
    | some o =>
      simp only [hop] at hn
      subst hn
      rw [progressTimeout_operation hgate htimer hop hset hdue]
    | none =>
      simp only [hop] at hn
      by_cases hfirst : (getGrp u g).firsts.any (·.1 == nextSeq u g) = true
      · rw [if_pos hfirst] at hn
        subst hn
        rw [progressTimeout_first hgate htimer hop hfirst hset hdue]
      · rw [if_neg hfirst] at hn
        exact absurd hn hset
  case request =>
    intro s u c d e p at_ g hu hst hc hg hours hkind hnew he
    subst hg
    rw [exec_abortReq_at hu hst]
    constructor
    · intro hacts hcover
      rw [abortReq_decided hc hours hkind hnew he hacts hcover]
    · intro hacts hhome hopen hfirst
      rw [abortReq_noted hc hours hkind hnew he hacts hhome hopen hfirst]
  case abort =>
    intro s u c d e p at_ g hu hst hc hg hours hkind hnew he
    subst hg
    rw [exec_seqctlAbort_at hu hst]
    constructor
    · intro haway
      rw [seqctlAbort_away hc hours hkind hnew he haway]
    · intro hhome
      rw [seqctlAbort_home hc hours hkind hnew he hhome]
  case token =>
    intro s u c d p at_ g hu hst hc hg hours hkind hnew
    subst hg
    rw [exec_token_at hu hst, tokenReceive_first hc hours hkind hnew]
  case send =>
    intro s u g at_ seq t0 hu hrun hg hlive hacts hdue hnow
    rw [exec_tokenSend_run hu hrun hg, tokenSend_due hlive hacts hdue hnow]

end Sys2Proof.Machine
end

section
/-! PROOFS. The exact arithmetic of reductions (07 R194 to R196, R199): accumulators form a commutative semigroup under the sum
of the pumps, so the fold of contributors depends on neither their order nor the tree; an integer output is the quotient of
SUM, clamped, with SAT where the clamp changed it. -/

namespace Sys2Proof.Machine

open Sys2Proof

/-! ## The sum of two accumulators (07 R195) -/

theorem Acc.joinCls_le (a b : Nat) : Acc.joinCls a b ≤ 4 := by
  unfold Acc.joinCls
  split_ifs <;> omega

/-- −0 stays only where both are −0. -/
theorem Acc.joinCls_eq_negZero {a b : Nat} : Acc.joinCls a b = 1 ↔ a = 1 ∧ b = 1 := by
  unfold Acc.joinCls
  split_ifs <;> grind

theorem Acc.joinCls_eq_posInf {a b : Nat} :
    Acc.joinCls a b = 2 ↔ (a = 2 ∨ b = 2) ∧ ¬(a = 3 ∨ b = 3) ∧ ¬(a = 4 ∨ b = 4) := by
  unfold Acc.joinCls
  split_ifs <;> grind

theorem Acc.joinCls_eq_negInf {a b : Nat} :
    Acc.joinCls a b = 3 ↔ (a = 3 ∨ b = 3) ∧ ¬(a = 2 ∨ b = 2) ∧ ¬(a = 4 ∨ b = 4) := by
  unfold Acc.joinCls
  split_ifs <;> grind

/-- A NaN comes from a NaN or from infinities of both signs. -/
theorem Acc.joinCls_eq_nan {a b : Nat} :
    Acc.joinCls a b = 4 ↔ (a = 4 ∨ b = 4) ∨ ((a = 2 ∨ b = 2) ∧ (a = 3 ∨ b = 3)) := by
  unfold Acc.joinCls
  split_ifs <;> grind

/-- Two joined classes agree where they agree on what is −0, +∞, −∞ and NaN. -/
theorem Acc.joinCls_eq_of_iff {a b c d : Nat} (hzero : Acc.joinCls a b = 1 ↔ Acc.joinCls c d = 1)
    (hpos : Acc.joinCls a b = 2 ↔ Acc.joinCls c d = 2) (hneg : Acc.joinCls a b = 3 ↔ Acc.joinCls c d = 3)
    (hnan : Acc.joinCls a b = 4 ↔ Acc.joinCls c d = 4) : Acc.joinCls a b = Acc.joinCls c d := by
  have hl := Acc.joinCls_le a b
  have hr := Acc.joinCls_le c d
  omega

theorem Acc.joinCls_comm (a b : Nat) : Acc.joinCls a b = Acc.joinCls b a := by
  apply Acc.joinCls_eq_of_iff
  case hzero => rw [Acc.joinCls_eq_negZero, Acc.joinCls_eq_negZero, and_comm]
  case hpos => rw [Acc.joinCls_eq_posInf, Acc.joinCls_eq_posInf]; omega
  case hneg => rw [Acc.joinCls_eq_negInf, Acc.joinCls_eq_negInf]; omega
  case hnan => rw [Acc.joinCls_eq_nan, Acc.joinCls_eq_nan]; omega

theorem Acc.joinCls_assoc (a b c : Nat) :
    Acc.joinCls (Acc.joinCls a b) c = Acc.joinCls a (Acc.joinCls b c) := by
  apply Acc.joinCls_eq_of_iff
  case hzero => simp only [Acc.joinCls_eq_negZero, and_assoc]
  case hpos => simp only [Acc.joinCls_eq_posInf, Acc.joinCls_eq_negInf, Acc.joinCls_eq_nan]; omega
  case hneg => simp only [Acc.joinCls_eq_posInf, Acc.joinCls_eq_negInf, Acc.joinCls_eq_nan]; omega
  case hnan => simp only [Acc.joinCls_eq_posInf, Acc.joinCls_eq_negInf, Acc.joinCls_eq_nan]; omega

theorem Acc.add_comm (a b : Acc) : Acc.add a b = Acc.add b a := by
  simp only [Acc.add, Acc.joinCls_comm a.cls, Int.add_comm a.sum]

theorem Acc.add_assoc (a b c : Acc) : Acc.add (Acc.add a b) c = Acc.add a (Acc.add b c) := by
  simp only [Acc.add, Acc.joinCls_assoc, Int.add_assoc]

/-- The start of a sweep adds nothing to itself, whichever class it has. -/
theorem Acc.init_add_self (isInt : Bool) : Acc.add (Acc.init isInt) (Acc.init isInt) = Acc.init isInt := by
  cases isInt <;> rfl

/-! ## The elementwise sum of two contributions -/

theorem addAccs_commutative : Std.Commutative (List.zipWith Acc.add) :=
  ⟨fun _ _ => List.zipWith_comm_of_comm Acc.add_comm⟩

theorem addAccs_associative : Std.Associative (List.zipWith Acc.add) :=
  ⟨fun xs ys zs => by simp only [List.zipWith_zipWith_left, List.zipWith_zipWith_right, Acc.add_assoc]⟩

theorem addAccs_init_left (isInt : Bool) (xs : List Acc) :
    List.zipWith Acc.add (List.replicate xs.length (Acc.init isInt)) xs = xs.map (Acc.add (Acc.init isInt)) := by
  induction xs with
  | nil => rfl
  | cons x xs ih => simp only [List.length_cons, List.replicate_succ, List.zipWith_cons_cons, ih, List.map_cons]

/-! ## The fold of a reduction (07 R194, R196) -/

/-- A SUM over contributors of `n` elements is the plain fold of the elementwise sum from the start of a sweep. -/
theorem foldAccs_sum_eq_foldl {isInt : Bool} {n : Nat} {ls : List (List Acc)} (hlen : ∀ l ∈ ls, l.length = n) :
    foldAccs 0 isInt n ls = ls.foldl (List.zipWith Acc.add) (List.replicate n (Acc.init isInt)) := by
  cases ls with
  | nil => rfl
  | cons l ls =>
    have hl : l.length = n := hlen l List.mem_cons_self
    subst hl
    simp only [foldAccs, if_true, List.foldl_cons, addAccs_init_left]

theorem foldAccs_sum_perm {isInt : Bool} {n : Nat} {ls ms : List (List Acc)} (hperm : ls.Perm ms)
    (hlen : ∀ l ∈ ls, l.length = n) : foldAccs 0 isInt n ls = foldAccs 0 isInt n ms := by
  have := addAccs_commutative
  have := addAccs_associative
  rw [foldAccs_sum_eq_foldl hlen, foldAccs_sum_eq_foldl fun m hm => hlen m (hperm.mem_iff.mpr hm)]
  exact hperm.foldl_eq _

/-- Once in the fold, the start of a sweep may be added in again. -/
theorem addAccs_fold_init (isInt : Bool) (n : Nat) (ls : List (List Acc)) :
    List.zipWith Acc.add (ls.foldl (List.zipWith Acc.add) (List.replicate n (Acc.init isInt)))
        (List.replicate n (Acc.init isInt)) =
      ls.foldl (List.zipWith Acc.add) (List.replicate n (Acc.init isInt)) := by
  have := addAccs_associative
  rw [addAccs_commutative.comm, ← List.foldl_assoc (op := List.zipWith Acc.add), List.zipWith_replicate', Acc.init_add_self]

theorem foldAccs_sum_append {isInt : Bool} {n : Nat} {ls ms : List (List Acc)} (hlen : ∀ l ∈ ls ++ ms, l.length = n) :
    foldAccs 0 isInt n (ls ++ ms) = List.zipWith Acc.add (foldAccs 0 isInt n ls) (foldAccs 0 isInt n ms) := by
  have := addAccs_associative
  rw [foldAccs_sum_eq_foldl hlen, foldAccs_sum_eq_foldl fun l hl => hlen l (List.mem_append_left ms hl),
    foldAccs_sum_eq_foldl fun m hm => hlen m (List.mem_append_right ls hm), List.foldl_append,
    ← List.foldl_assoc (op := List.zipWith Acc.add), addAccs_fold_init]

/-! ## Integer outputs (07 R199) -/

/-- The quotient of a SUM that is a multiple of 2^149 is clamped to the format's range; SAT says that the clamp changed it. -/
theorem roundInt_multiple {f : Nat} {lo hi : Int} {a : Acc} {q : Int} (hlo : -(2 ^ (fmtBits f - 1) : Int) = lo)
    (hhi : (2 ^ (fmtBits f - 1) - 1 : Int) = hi) (hle : lo ≤ hi) (hsum : a.sum = q * 2 ^ 149) :
    roundInt f a = (unsigned (fmtBits f) (max lo (min hi q)), if decide (q < lo) || decide (hi < q) then 1 else 0) := by
  have hquot : a.sum / (2 ^ 149 : Nat) = q := by
    rw [hsum, Nat.cast_pow, Nat.cast_ofNat, Int.mul_ediv_cancel q (by positivity)]
  simp only [roundInt, hquot, hlo, hhi, gt_iff_lt]
  rcases lt_or_ge hi q with habove | hwithin
  · have hclamp : max lo (min hi q) = hi := by omega
    simp [habove, hclamp]
  · rcases lt_or_ge q lo with hbelow | hin
    · have hclamp : max lo (min hi q) = lo := by omega
      simp [hbelow, hclamp, not_lt.mpr hwithin]
    · have hclamp : max lo (min hi q) = q := by omega
      simp [hclamp, not_lt.mpr hwithin, not_lt.mpr hin]

/-- Flags that are one bit each, ORed: the bit is set where one of them, or the start, has it. -/
theorem foldl_lor_bit {α : Type} (p : α → Bool) (xs : List α) (b : Bool) :
    xs.foldl (fun fl x => Nat.lor fl (if p x then 1 else 0)) (if b then 1 else 0) = if b || xs.any p then 1 else 0 := by
  induction xs generalizing b with
  | nil => simp
  | cons x xs ih =>
    have hbit : Nat.lor (if b then 1 else 0) (if p x then 1 else 0) = if (b || p x) then 1 else 0 := by
      cases b <;> cases p x <;> rfl
    rw [List.foldl_cons, hbit, ih, List.any_cons, Bool.or_assoc]

/-- An integer format's outputs, where every SUM is a multiple of 2^149. -/
theorem roundOut_int {f : Nat} {lo hi : Int} {as_ : List Acc} {qs : List Int} (hmx : fmtMx f = false) (hint : fmtInt f = true)
    (hlo : -(2 ^ (fmtBits f - 1) : Int) = lo) (hhi : (2 ^ (fmtBits f - 1) - 1 : Int) = hi) (hle : lo ≤ hi)
    (hsum : as_.map (·.sum) = qs.map (· * 2 ^ 149)) :
    roundOut f as_ = (qs.map fun q => (unsigned (fmtBits f) (max lo (min hi q)), 127),
      if qs.any (fun q => decide (q < lo) || decide (hi < q)) then 1 else 0) := by
  have hround : as_.map (roundInt f) = qs.map fun q =>
      (unsigned (fmtBits f) (max lo (min hi q)), if decide (q < lo) || decide (hi < q) then 1 else 0) :=
    calc as_.map (roundInt f) = (as_.map (·.sum)).map fun v => roundInt f ⟨0, v⟩ := by rw [List.map_map]; rfl
      _ = qs.map fun q => roundInt f ⟨0, q * 2 ^ 149⟩ := by rw [hsum, List.map_map]; rfl
      _ = _ := List.map_congr_left fun q _ => roundInt_multiple hlo hhi hle rfl
  have hflags := foldl_lor_bit (fun q => decide (q < lo) || decide (hi < q)) qs false
  simp only [Bool.false_or, Bool.false_eq_true, if_false] at hflags
  simp only [roundOut, hmx, hint, Bool.false_eq_true, if_false, if_true, hround, List.map_map, List.foldl_map, hflags]
  rfl

/-! ## The obligations -/

/-- Settles O56: the elementwise sum is commutative and associative, and the start of a sweep adds nothing to itself. -/
theorem sumsHaveNoOrder : Obligations.SumsHaveNoOrder := by
  unfold Obligations.SumsHaveNoOrder
  refine ⟨?order, ?tree⟩
  case order =>
    intro isInt n ls ms hperm hall
    exact foldAccs_sum_perm hperm fun l hl => (hall l hl).1
  case tree =>
    intro isInt n ls ms _ _ hall
    exact foldAccs_sum_append fun l hl => (hall l hl).1

/-- Settles O57: both integer formats clamp the quotient of SUM to their range and set SAT where that changed it. -/
theorem integerOutputs : Obligations.IntegerOutputs := by
  unfold Obligations.IntegerOutputs
  rintro f lo hi as_ qs (⟨rfl, rfl, rfl⟩ | ⟨rfl, rfl, rfl⟩) hsum
  · exact roundOut_int (f := 0x10) rfl rfl rfl rfl (by decide) hsum
  · exact roundOut_int (f := 0x11) rfl rfl rfl rfl (by decide) hsum

end Sys2Proof.Machine
end

section
/-! PROOFS. Sweeps of the pumps, their retirement and their self-tests (07 R186, R187, R189, R190, R208 to R214): the rows
answer their operation's next state where the core runs or the write is taken, and what each operation does in the case its
rule names. -/

namespace Sys2Proof.Machine

open Sys2Proof

/-! ## The rows of pumps -/

section Rows

variable {s u : State} {g idx n at_ : Nat}

theorem exec_sweepStart_run (hu : u = s.advance at_) (hrun : coreRuns u = true) (hg : g < 4096) :
    exec (.sweepStart g idx at_) s = .next (finish u (settleGroups (sweepStart u g idx))) := by
  rw [exec_sweepStart]
  exact atTime_whenCore (f := fun s => settleGroups (sweepStart s g idx)) hu (decide_eq_true hg) hrun

theorem exec_sweepDone_run {mismatch : Bool} {parity : Option Bool} (hu : u = s.advance at_) (hrun : coreRuns u = true)
    (hg : g < 4096) :
    exec (.sweepDone g idx mismatch parity at_) s =
      .next (finish u (settleGroups (sweepDone u g idx mismatch parity))) := by
  rw [exec_sweepDone]
  exact atTime_whenCore (f := fun s => settleGroups (sweepDone s g idx mismatch parity)) hu (decide_eq_true hg) hrun

theorem exec_cisternScrub_run {fail bad : Bool} {chunk : Option (Nat × Nat)} (hu : u = s.advance at_)
    (hrun : coreRuns u = true) (hn : n < 168) :
    exec (.cisternScrub n fail chunk bad at_) s = .next (finish u (settleGroups (cisternScrub u n fail chunk bad))) := by
  rw [exec_cisternScrub]
  exact atTime_whenCore (f := fun s => settleGroups (cisternScrub s n fail chunk bad)) hu (decide_eq_true hn) hrun

theorem exec_pumpDrained_run (hu : u = s.advance at_) (hrun : coreRuns u = true) (hn : n < 168) :
    exec (.pumpDrained n at_) s = .next (finish u (pumpDrained u n)) := by
  rw [exec_pumpDrained]
  exact atTime_whenCore (f := fun s => pumpDrained s n) hu (decide_eq_true hn) hrun

theorem exec_selfTestDone_run {nfail : Nat} (hu : u = s.advance at_) (hrun : coreRuns u = true) (hn : n < 168) :
    exec (.selfTestDone n nfail at_) s = .next (finish u (settleGroups (pumpTestDone u n nfail))) := by
  rw [exec_selfTestDone]
  exact atTime_whenCore (f := fun s => settleGroups (pumpTestDone s n nfail)) hu (decide_eq_true hn) hrun

variable {m : Master}

theorem exec_retire_taken (h : takesWrite s m .PMP_CTRL n 0 = true) :
    exec (.retire m n) s = .next (finish s (settleGroups (pumpRetire (wrote s m .PMP_CTRL n 0) n))) := by
  rw [exec_retire]
  exact atNow_rowBit (f := F.PMP_CTRL_RETIRE) (eff := fun s => settleGroups (pumpRetire s n)) rfl rfl h

theorem exec_testGo_taken (h : takesWrite s m .PMP_CTRL n 0 = true) :
    exec (.testGo m n) s = .next (finish s (pumpTestGo (wrote s m .PMP_CTRL n 0) n)) := by
  rw [exec_testGo]
  exact atNow_rowBit (f := F.PMP_CTRL_TEST_GO) (eff := fun s => pumpTestGo s n) rfl rfl h

theorem exec_restore_taken (h : takesWrite s m .PMP_CTRL n 0 = true) :
    exec (.restore m n) s = .next (finish s (pumpRestore (wrote s m .PMP_CTRL n 0) m n)) := by
  rw [exec_restore]
  exact atNow_rowBit (f := F.PMP_CTRL_RESTORE) (eff := fun s => pumpRestore s m n) rfl rfl h

end Rows

/-! ## A sweep starts (07 R189) -/

section Start

variable {s : State} {g idx n : Nat} {c : Chunk} {o : GrpOp} (hchunk : findChunk s g idx 1 = some c)
  (hop : (getGrp s g).op = some o) (hsweeps : sweeps o.d = true)

include hchunk hop hsweeps

theorem sweepStart_no_sweeper (hnone : sweeperFor s c = none) : sweepStart s g idx = giveUpChunk s g c := by
  simp only [sweepStart, hchunk, hop, hsweeps, hnone, Bool.not_true, Bool.false_eq_true, if_false]

theorem sweepStart_idle_sweeper (hsweeper : sweeperFor s c = some n) (hidle : isSweeping s n = false)
    (htest : s.flag F.PMP_TEST_BUSY n = false) :
    sweepStart s g idx = modChunk s g idx fun k => { k with stage := 2, sweeper := n } := by
  simp only [sweepStart, hchunk, hop, hsweeps, hsweeper, hidle, htest, Bool.or_self, Bool.not_true, Bool.false_eq_true,
    if_false]

theorem sweepStart_busy_sweeper (hsweeper : sweeperFor s c = some n)
    (hbusy : isSweeping s n = true ∨ s.flag F.PMP_TEST_BUSY n = true) : sweepStart s g idx = s := by
  simp only [sweepStart, hchunk, hop, hsweeps, hsweeper, Bool.or_eq_true, hbusy, Bool.not_true, Bool.false_eq_true,
    if_false, if_true]

end Start

/-! ## A sweep ends (07 R190, R208, R209) -/

section Done

variable {s : State} {g idx n : Nat} {c : Chunk} {o : GrpOp}

theorem sweepDone_clean (hchunk : findChunk s g idx 2 = some c) (hop : (getGrp s g).op = some o) :
    sweepDone s g idx false none = sweepClean (countSweep s c c.sweeper (laneCycles s g o c)) g o c := by
  simp only [sweepDone, hchunk, hop, Bool.not_false, if_true]

theorem sweepDone_mismatch_first (hchunk : findChunk s g idx 2 = some c) (hop : (getGrp s g).op = some o)
    (hretried : c.retried = false) :
    sweepDone s g idx true none =
      firstMismatch ((countSweep s c c.sweeper (laneCycles s g o c)).report 6 1 c.sweeper) g c := by
  simp only [sweepDone, hchunk, hop, hretried, Bool.not_true, Bool.false_eq_true, if_false]

theorem sweepDone_mismatch_again (hchunk : findChunk s g idx 2 = some c) (hop : (getGrp s g).op = some o)
    (hretried : c.retried = true) :
    sweepDone s g idx true none =
      secondMismatch ((countSweep s c c.sweeper (laneCycles s g o c)).report 6 1 c.sweeper) g c := by
  simp only [sweepDone, hchunk, hop, hretried, Bool.not_true, Bool.false_eq_true, if_false, if_true]

/-- A clean sweep, up to the point where a retirement that is due happens. -/
def sweptClean (s : State) (g : Nat) (o : GrpOp) (c : Chunk) : State :=
  settleGroups (sweepOutputs (modChunk (if c.sweeper = c.pump then s.cntU c.sweeper 0 else (s.cntU c.sweeper 0).cntU c.sweeper 4)
    g c.idx fun k => { k with stage := 1 }) g o c)

theorem sweepClean_stays (hdue : (getPump s c.sweeper).retireNext = 0) : sweepClean s g o c = sweptClean s g o c := by
  simp only [sweepClean, hdue, ne_eq, not_true_eq_false, if_false, sweptClean]

theorem sweepClean_retires (hdue : (getPump s c.sweeper).retireNext ≠ 0) :
    sweepClean s g o c = retirePump (sweptClean s g o c) c.sweeper (getPump s c.sweeper).retireNext := by
  simp only [sweepClean, if_pos hdue, sweptClean]

/-- The first mismatch noted, at times `ts` of the pump's first mismatches, and the chunk set to be swept again. -/
def mismatchNoted (s : State) (g : Nat) (c : Chunk) (ts : List Nat) : State :=
  modChunk ((modPump (s.bump F.PMP_ERRCNT_MISMATCH c.sweeper) c.sweeper fun p => { p with soft := ts }).cntU c.sweeper 3) g c.idx
    fun k => { k with retried := true }

/-- A pump that RETIRE has not named sweeps the chunk again; the soft limit makes its retirement due. -/
theorem firstMismatch_again {ts : List Nat} (hts : ts = (s.now :: (getPump s c.sweeper).soft).take 256)
    (hdue : (getPump s c.sweeper).retireNext ≠ 5) :
    firstMismatch s g c =
      if softReached (mismatchNoted s g c ts) ts then
        modPump (mismatchNoted s g c ts) c.sweeper fun p => { p with retireNext := 2 }
      else mismatchNoted s g c ts := by
  subst hts
  exact if_neg hdue

/-- The first pump that fails over a chunk retires with cause 1, and the chunk waits for another. -/
theorem secondMismatch_first_pump (hnone : c.failedOn = []) :
    secondMismatch s g c = retirePump
      (modChunk s g c.idx fun _ => { c with stage := 1, retried := false, failedOn := [c.sweeper] }) c.sweeper 1 := by
  simp only [secondMismatch, hnone, List.nil_append, List.length_singleton, ge_iff_le, Nat.not_ofNat_le_one, if_false]

end Done

/-! ## The scrubber (07 R213, R214) -/

theorem linePattern_good (s : State) (n : Nat) : linePattern s n false = s := rfl

theorem linePattern_bad (s : State) (n : Nat) : linePattern s n true = retirePump s n 3 := rfl

theorem cisternScrub_free_line {s : State} {n : Nat} {bad : Bool} (hivl : s.rd0 F.PMP_SCRUB_IVL ≠ 0)
    (hstate : pumpState s n = 0 ∨ pumpState s n = 2) :
    cisternScrub s n true none bad = linePattern (cisternParity s n) n bad := by
  have hscrubs : ¬(s.rd0 F.PMP_SCRUB_IVL = 0 ∨ true = false ∨ (pumpState s n ≠ 0 ∧ pumpState s n ≠ 2)) := by
    simp [hivl]
    omega
  simp only [cisternScrub, if_neg hscrubs, Option.bind_none]

/-! ## Retirement (07 R186, R187) -/

section Retirement

variable {s : State} {n k cause : Nat}

theorem pumpDrained_empty (hstate : pumpState s n = 2)
    (hchunks : ((allChunks s).any fun e => e.2.pump == n && e.2.lines != 0) = false)
    (hroutes : (s.grps.any fun e => e.2.route.any fun r => r.pump == n && r.lines != 0) = false) :
    pumpDrained s n = poolCount (s.wr F.PMP_STAT_STATE n 3) := by
  simp only [pumpDrained, hstate, hchunks, hroutes, Bool.or_self, and_self, if_true]

theorem pumpRetire_out (hstate : 1 < pumpState s n) : pumpRetire s n = s := if_pos hstate

theorem pumpRetire_sweeping (hstate : pumpState s n ≤ 1) (hsweep : isSweeping s n = true) :
    pumpRetire s n = modPump s n fun p => { p with retireNext := 5 } := by
  rw [pumpRetire, if_neg hstate.not_gt, if_pos hsweep]

theorem pumpRetire_idle (hstate : pumpState s n ≤ 1) (hsweep : isSweeping s n = false) :
    pumpRetire s n = retirePump s n 5 := by
  rw [pumpRetire, if_neg hstate.not_gt, hsweep, if_neg Bool.false_ne_true]

/-- What a pump that leaves keeps of its history: nothing. -/
def pumpForgotten (s : State) (n : Nat) : State :=
  modPump s n fun p => { p with retireNext := 0, testPass := false, soft := [] }

theorem retirePump_spare (hstate : pumpState s n = 1) :
    retirePump s n cause =
      poolCount ((((pumpForgotten s n).wr F.PMP_STAT_STATE n 3).wr F.PMP_STAT_CAUSE n cause).report 6 2 n) := by
  simp only [retirePump, hstate, if_true, pumpForgotten]

/-- An ACTIVE pump drains, its sweeps stopped. -/
def pumpDraining (s : State) (n cause : Nat) : State :=
  stopSweeps ((((pumpForgotten s n).wr F.PMP_STAT_STATE n 2).wr F.PMP_STAT_CAUSE n cause).report 6 2 n) n

theorem retirePump_active_replaced (hstate : pumpState s n = 0)
    (hspare : ((List.range 168).find? fun k => pumpState (pumpDraining s n cause) k == 1) = some k) :
    retirePump s n cause =
      poolCount (((pumpDraining s n cause).wr F.PMP_STAT_STATE k 0).wr F.PMP_STAT_REPL n k) := by
  simp only [pumpDraining, pumpForgotten] at hspare
  simp only [retirePump, hstate, zero_ne_one, if_false, if_true, hspare, pumpDraining, pumpForgotten]

end Retirement

/-! ## Self-tests and restoration (07 R186, R210) -/

section SelfTest

variable {s : State} {m : Master} {n k : Nat}

theorem pumpTestGo_idle (hbusy : s.flag F.PMP_TEST_BUSY n = false) :
    pumpTestGo s n = (s.wr F.PMP_TEST_BUSY n 1).wr F.PMP_CTRL_TEST_GO n 1 := by
  rw [pumpTestGo, hbusy, if_neg Bool.false_ne_true]

theorem pumpTestGo_busy (hbusy : s.flag F.PMP_TEST_BUSY n = true) : pumpTestGo s n = s := if_pos hbusy

theorem pumpRestore_tested (hstate : pumpState s n = 3) (hpass : (getPump s n).testPass = true) :
    pumpRestore s m n =
      poolCount (((s.wr F.PMP_STAT_STATE n 1).wr F.PMP_STAT_CAUSE n 0).wr F.PMP_STAT_REPL n 0xFF) :=
  if_pos ⟨hstate, hpass⟩

theorem pumpRestore_refused (h : pumpState s n ≠ 3 ∨ (getPump s n).testPass = false) :
    pumpRestore s m n = s.accessFault m 1 (regOff .PMP_CTRL n) := by
  refine if_neg ?_
  rintro ⟨hstate, hpass⟩
  rcases h with h | h
  · exact h hstate
  · exact absurd hpass (by rw [h]; exact Bool.false_ne_true)

theorem pumpTestDone_running {nfail : Nat} (hbusy : s.flag F.PMP_TEST_BUSY n = true) (hsweep : isSweeping s n = false) :
    pumpTestDone s n nfail = pumpTestEnd s n nfail := by
  simp only [pumpTestDone, hbusy, hsweep, Bool.true_eq_false, Bool.false_eq_true, or_self, if_false]

/-- BUSY and the go bit fall at a self-test's end. -/
def testStopped (s : State) (n : Nat) : State := (s.wr F.PMP_TEST_BUSY n 0).wr F.PMP_CTRL_TEST_GO n 0

/-- A self-test that `k` vectors failed: PASS and NFAIL show it, and it is reported. -/
def testFailed (s : State) (n k : Nat) : State :=
  (((testStopped s n).wr F.PMP_TEST_PASS n 0).wr F.PMP_TEST_NFAIL n (min 65535 k)).report 6 6 n

theorem pumpTestEnd_passed {t : State} (ht : t = ((testStopped s n).wr F.PMP_TEST_PASS n 1).wr F.PMP_TEST_NFAIL n 0) :
    pumpTestEnd s n 0 = modPump t n fun p => { p with testPass := decide (2 ≤ pumpState t n) } := by
  subst ht
  rfl

theorem pumpTestEnd_failed (hk : k ≠ 0) :
    pumpTestEnd s n k =
      if pumpState (testFailed s n k) n ≤ 1 then retirePump (testFailed s n k) n 4
      else modPump (testFailed s n k) n fun p => { p with testPass := false } := by
  have hfail : (k == 0) = false := beq_false_of_ne hk
  simp only [pumpTestEnd, hfail, Bool.false_eq_true, if_false, b2n]
  rfl

end SelfTest

/-! ## The obligations -/

/-- Settles O14: each row answers its operation's next state, and sweeps start, end and fail as R189, R190, R208, R209 and
R213 say. -/
theorem pumpSweeps : Obligations.PumpSweeps := by
  unfold Obligations.PumpSweeps
  refine ⟨?rows, ?start, ?clean, ?mismatch, ?scrub⟩
  case rows =>
    intro s u g idx at_ n mismatch fail bad parity chunk hu hrun hg hn
    exact ⟨exec_sweepStart_run hu hrun hg, exec_sweepDone_run hu hrun hg, exec_cisternScrub_run hu hrun hn⟩
  case start =>
    intro s u g idx at_ c o hu hrun hg hchunk hop hsweeps
    rw [exec_sweepStart_run hu hrun hg]
    refine ⟨fun hnone => ?_, fun n hsweeper => ⟨fun hidle htest => ?_, fun hbusy => ?_⟩⟩
    · rw [sweepStart_no_sweeper hchunk hop hsweeps hnone]
    · rw [sweepStart_idle_sweeper hchunk hop hsweeps hsweeper hidle htest]
    · rw [sweepStart_busy_sweeper hchunk hop hsweeps hsweeper hbusy]
  case clean =>
    intro s u v t g idx at_ n lc soon c o hu hrun hg hchunk hop hn hlc hv hsoon ht
    subst hn hlc
    have hcount : countSweep u c c.sweeper (laneCycles u g o c) = v := hv.symm
    have hswept : sweptClean v g o c = t := ht.symm
    rw [exec_sweepDone_run hu hrun hg, sweepDone_clean hchunk hop, hcount, hsoon]
    constructor
    · intro hstays
      rw [sweepClean_stays hstays, hswept]
    · intro hdue
      rw [sweepClean_retires hdue, hswept]
  case mismatch =>
    intro s u v w t g idx at_ n lc c o ts hu hrun hg hchunk hop hn hlc hv hw hts ht
    subst hn hlc
    have hcount : (countSweep u c c.sweeper (laneCycles u g o c)).report 6 1 c.sweeper = w := by rw [hw, hv]; rfl
    have hnoted : mismatchNoted w g c ts = t := ht.symm
    rw [exec_sweepDone_run hu hrun hg]
    refine ⟨fun hfirst hdue hsoft => ?_, fun hfirst hdue hsoft => ?_, fun hagain hnone => ?_⟩
    · rw [sweepDone_mismatch_first hchunk hop hfirst, hcount, firstMismatch_again hts hdue, hnoted, hsoft,
        if_neg Bool.false_ne_true]
    · rw [sweepDone_mismatch_first hchunk hop hfirst, hcount, firstMismatch_again hts hdue, hnoted, if_pos hsoft]
    · rw [sweepDone_mismatch_again hchunk hop hagain, hcount, secondMismatch_first_pump hnone]
  case scrub =>
    intro s u c n at_ hu hrun hn hivl hstate hc
    have hparity : cisternParity u n = c := hc.symm
    constructor
    · rw [exec_cisternScrub_run hu hrun hn, cisternScrub_free_line hivl hstate, hparity, linePattern_good]
    · rw [exec_cisternScrub_run hu hrun hn, cisternScrub_free_line hivl hstate, hparity, linePattern_bad]

/-- Settles O15: each row answers its operation's next state, and pumps drain, retire, are tested and are restored as R186,
R187 and R210 say. -/
theorem pumpStates : Obligations.PumpStates := by
  unfold Obligations.PumpStates
  refine ⟨?rows, ?writes, ?drained, ?retire, ?control, ?selfTest⟩
  case rows =>
    intro s u n at_ nfail hu hrun hn
    exact ⟨exec_pumpDrained_run hu hrun hn, exec_selfTestDone_run hu hrun hn⟩
  case writes =>
    intro s m n
    exact ⟨exec_retire_taken, exec_testGo_taken, exec_restore_taken⟩
  case drained =>
    intro s u n at_ hu hrun hn hstate hchunks hroutes
    rw [exec_pumpDrained_run hu hrun hn, pumpDrained_empty hstate hchunks hroutes]
  case retire =>
    intro s c b m n htakes hc hb
    have hforgot : pumpForgotten c n = b := hb.symm
    rw [exec_retire_taken htakes, ← hc]
    refine ⟨fun hout => ?_, fun hin hsweep => ?_, fun hspare hidle => ?_, fun d k hactive hidle hd hk => ?_⟩
    · rw [pumpRetire_out hout]
    · rw [pumpRetire_sweeping hin hsweep]
    · rw [pumpRetire_idle hspare.le hidle, retirePump_spare hspare, hforgot]
    · have hdraining : pumpDraining c n 5 = d := by rw [hd, pumpDraining, hforgot]
      rw [pumpRetire_idle (hactive.trans_le zero_le_one) hidle,
        retirePump_active_replaced hactive (by rw [hdraining]; exact hk), hdraining]
  case control =>
    intro s c m n htakes hc
    rw [exec_testGo_taken htakes, exec_restore_taken htakes, ← hc]
    refine ⟨fun hidle => ?_, fun hbusy => ?_, fun hstate hpass => ?_, fun hrefused => ?_⟩
    · rw [pumpTestGo_idle hidle]
    · rw [pumpTestGo_busy hbusy]
    · rw [pumpRestore_tested hstate hpass]
    · rw [pumpRestore_refused hrefused]
  case selfTest =>
    intro s u d e n k at_ hu hrun hn hbusy hsweep hd hk he
    have hstopped : testStopped u n = d := hd.symm
    have hfailed : testFailed u n k = e := by rw [he, testFailed, hstopped]
    rw [exec_selfTestDone_run hu hrun hn, exec_selfTestDone_run hu hrun hn, pumpTestDone_running hbusy hsweep,
      pumpTestDone_running hbusy hsweep, pumpTestEnd_failed hk, hfailed]
    refine ⟨?passed, fun hin => ?out, fun hout => ?stays⟩
    case passed => rw [pumpTestEnd_passed rfl, hstopped]
    case out => rw [if_pos hin]
    case stays => rw [if_neg hout.not_ge]

end Sys2Proof.Machine
end

section
/-! PROOFS. Requests of the pool (09 R242 to R261): the rows of READ, WRITE, the ATOMICs and of a request's turn answer their
operation's next state, a request is judged by the checks in R246's order, and one whose turn has come is executed. -/

namespace Sys2Proof.Machine

open Sys2Proof

/-! ## The rows of requests -/

section Rows

variable {s u : State} {p : StPkt} {bad : Option Nat} {evs : List LineEv} {id at_ : Nat}

theorem exec_read_at (hu : u = s.advance at_) (hst : stationHas u p 0x20 = true) :
    exec (.read p at_) s = .next (finish u (wellRequest u p none)) := by
  rw [exec_read]
  exact atTime_stationRow (f := fun s => wellRequest s p none) hu hst

theorem exec_write_at (hu : u = s.advance at_) (hst : stationHas u p 0x21 = true) :
    exec (.write p bad at_) s = .next (finish u (wellRequest u p bad)) := by
  rw [exec_write]
  exact atTime_stationRow (f := fun s => wellRequest s p bad) hu hst

theorem exec_atomicFetchAdd_at (hu : u = s.advance at_) (hst : stationHas u p 0x22 = true) :
    exec (.atomicFetchAdd p bad at_) s = .next (finish u (atomicRow u p 0 bad)) := by
  rw [exec_atomicFetchAdd]
  exact atTime_stationRow (f := fun s => atomicRow s p 0 bad) hu hst

theorem exec_atomicSwap_at (hu : u = s.advance at_) (hst : stationHas u p 0x22 = true) :
    exec (.atomicSwap p bad at_) s = .next (finish u (atomicRow u p 1 bad)) := by
  rw [exec_atomicSwap]
  exact atTime_stationRow (f := fun s => atomicRow s p 1 bad) hu hst

theorem exec_atomicCompareSwap_at (hu : u = s.advance at_) (hst : stationHas u p 0x22 = true) :
    exec (.atomicCompareSwap p bad at_) s = .next (finish u (atomicRow u p 2 bad)) := by
  rw [exec_atomicCompareSwap]
  exact atTime_stationRow (f := fun s => atomicRow s p 2 bad) hu hst

theorem exec_atomicFetchAnd_at (hu : u = s.advance at_) (hst : stationHas u p 0x22 = true) :
    exec (.atomicFetchAnd p bad at_) s = .next (finish u (atomicRow u p 3 bad)) := by
  rw [exec_atomicFetchAnd]
  exact atTime_stationRow (f := fun s => atomicRow s p 3 bad) hu hst

theorem exec_atomicFetchOr_at (hu : u = s.advance at_) (hst : stationHas u p 0x22 = true) :
    exec (.atomicFetchOr p bad at_) s = .next (finish u (atomicRow u p 4 bad)) := by
  rw [exec_atomicFetchOr]
  exact atTime_stationRow (f := fun s => atomicRow s p 4 bad) hu hst

theorem exec_atomicFetchXor_at (hu : u = s.advance at_) (hst : stationHas u p 0x22 = true) :
    exec (.atomicFetchXor p bad at_) s = .next (finish u (atomicRow u p 5 bad)) := by
  rw [exec_atomicFetchXor]
  exact atTime_stationRow (f := fun s => atomicRow s p 5 bad) hu hst

theorem exec_wellRequestComplete_run (hu : u = s.advance at_) (hrun : coreRuns u = true) :
    exec (.wellRequestComplete id evs at_) s = .next (finish u (settleSwitch (wellComplete u id evs))) := by
  rw [exec_wellRequestComplete]
  exact atTime_whenCore (f := fun s => settleSwitch (wellComplete s id evs)) hu rfl hrun

theorem stationHas_opcode {op : Nat} (hst : stationHas u p op = true) : p.hdr.opcode = op := by
  simp only [stationHas, Bool.and_eq_true, decide_eq_true_eq] at hst
  exact hst.1.2

end Rows

/-! ## How a request is judged (R246) -/

/-- A request of `n` bytes counted in its tier, its page and the filters, under a class of access. -/
def requestCounted (c : State) (p : StPkt) (cls n : Nat) : State :=
  countAccess (countHot (cntTier c (reqAddr p.hdr) cls) (reqAddr p.hdr)) 0 3 cls (reqAddr p.hdr) n
    (if p.arr < 160 then some p.arr else none)

/-- The checks in their order on the state `c`, their refusal or the admission on the counted state `d`. -/
def requestJudged (c d : State) (p : StPkt) (n : Nat) (whole : Nat → Bool) (kind : WKind) (bad : Option Nat) : State :=
  if c.well.poolUntil.isSome = true then refuse d p.hdr (reqAddr p.hdr) 0x0D
  else if formCode p.hdr p.data ≠ 0 then refuse d p.hdr (reqAddr p.hdr) (formCode p.hdr p.data)
  else if placeCode c (reqAddr p.hdr) n whole ≠ 0 then refuse d p.hdr (reqAddr p.hdr) (placeCode c (reqAddr p.hdr) n whole)
  else if bad.isSome = true then
    refuse (d.report 7 6 (reqAddr p.hdr / 64 * 64 + 64 * bad.getD 0)) p.hdr (reqAddr p.hdr) 8
  else admitReq d kind (reqAddr p.hdr) n p.data [] p.hdr p.arr

section Requests

variable {s c : State} {p : StPkt} {bad : Option Nat}

theorem wellRequest_read (hc : c = takeStation s p) (hop : p.hdr.opcode = 0x20) (hdst : p.hdr.dst = c.selfEid) :
    wellRequest s p none = requestJudged c (requestCounted c p 0 (bits p.hdr.opw2 0 13)) p (bits p.hdr.opw2 0 13)
      (fun _ => false) .read none := by
  subst hc
  simp [wellRequest, requestJudged, requestCounted, hop, hdst]

theorem wellRequest_write (hc : c = takeStation s p) (hop : p.hdr.opcode = 0x21) (hdst : p.hdr.dst = c.selfEid) :
    wellRequest s p bad =
      requestJudged c (requestCounted c p 1 p.hdr.len) p p.hdr.len (fun _ => true) .write bad := by
  subst hc
  cases bad <;> simp [wellRequest, requestJudged, requestCounted, hop, hdst]

theorem wellRequest_atomic (hc : c = takeStation s p) (hop : p.hdr.opcode = 0x22) (hdst : p.hdr.dst = c.selfEid) :
    wellRequest s p bad = requestJudged c (requestCounted c p 2 8) p 8 (fun _ => false)
      (.atomic (bits p.hdr.opw1 28 4)) bad := by
  subst hc
  cases bad <;> simp [wellRequest, requestJudged, requestCounted, hop, hdst]

/-- An ATOMIC whose ATOP is the row's own is that row's event. -/
theorem atomicRow_own {k : Nat} (h : bits p.hdr.opw1 28 4 = k) : atomicRow s p k bad = wellRequest s p bad :=
  if_neg fun hother => hother.2 h

end Requests

/-! ## A request whose turn has come (R250, R261) -/

section Turn

variable {s d : State} {id : Nat} {evs : List LineEv} {r : WReq}

theorem wellComplete_turn (hfind : (s.well.queue.find? (·.id == id)) = some r) (hturn : mayRun s r = true)
    (hd : d = modWell s fun w => { w with queue := w.queue.filter (·.id != id) }) :
    wellComplete s id evs = runReq d r evs := by
  subst hd
  simp only [wellComplete, hfind]
  exact if_pos hturn

theorem wellComplete_stays (hfind : (s.well.queue.find? (·.id == id)) = some r) (hturn : mayRun s r = false) :
    wellComplete s id evs = s := by
  simp only [wellComplete, hfind, hturn, Bool.false_eq_true, if_false]

theorem runReq_unmoved (h : fwdOf d r.addr = none) : runReq d r evs = runOn d r evs := by
  simp only [runReq, h, Option.isNone_none, if_true]

theorem runReq_moved (h : (fwdOf d r.addr).isSome = true)
    (hkind : [WKind.roomWrite, .roomRead, .apRead, .apWrite].contains r.kind = false) :
    runReq d r evs = refuse d r.hdr r.addr 5 := by
  rw [runReq, if_neg (by simpa [Option.isSome_iff_ne_none] using h)]
  cases hk : r.kind <;> simp_all

theorem runReq_aperture_moved (h : (fwdOf d r.addr).isSome = true) (hkind : r.kind = .apRead ∨ r.kind = .apWrite) :
    runReq d r evs = apRefuse d r.addr := by
  rw [runReq, if_neg (by simpa [Option.isSome_iff_ne_none] using h)]
  obtain hk | hk := hkind <;> simp only [hk]

end Turn

/-! ## The obligation -/

/-- Settles O16: each row answers its operation's next state, each request is judged by R246's checks, and one whose turn has
come leaves the queue and is executed or, its page moved, refused. -/
theorem wellRequests : Obligations.WellRequests := by
  unfold Obligations.WellRequests
  refine ⟨?rows, ?turnRow, ?judged, ?turn⟩
  case rows =>
    intro s u p at_ bad hu
    exact ⟨exec_read_at hu, exec_write_at hu, exec_atomicFetchAdd_at hu, exec_atomicSwap_at hu,
      exec_atomicCompareSwap_at hu, exec_atomicFetchAnd_at hu, exec_atomicFetchOr_at hu, exec_atomicFetchXor_at hu⟩
  case turnRow =>
    intro s u id at_ evs hu hrun
    exact exec_wellRequestComplete_run hu hrun
  case judged =>
    intro s u c p at_ a n lk arr hu hc hdst ha hlk harr
    subst ha harr
    refine ⟨fun d hst hn hd => ?read, fun d bad hst hn hd => ?write, fun d t bad hst hd ht => ?atomic⟩
    case read =>
      subst hn
      have hcounted : requestCounted c p 0 (bits p.hdr.opw2 0 13) = d := hd.symm
      rw [exec_read_at hu hst, wellRequest_read hc (stationHas_opcode hst) hdst, hcounted]
      simp only [requestJudged, Option.isSome_none, Bool.false_eq_true, if_false]
    case write =>
      subst hn
      have hcounted : requestCounted c p 1 p.hdr.len = d := hd.symm
      rw [exec_write_at hu hst, wellRequest_write hc (stationHas_opcode hst) hdst, hcounted, requestJudged]
    case atomic =>
      have hcounted : requestCounted c p 2 8 = d := hd.symm
      have hown : ∀ k, lk = k → finish u (atomicRow u p k bad) = t := by
        intro k hk
        rw [ht, atomicRow_own (hlk.symm.trans hk), wellRequest_atomic hc (stationHas_opcode hst) hdst, hcounted,
          requestJudged, hlk]
      refine ⟨fun hk => ?_, fun hk => ?_, fun hk => ?_, fun hk => ?_, fun hk => ?_, fun hk => ?_⟩
      · rw [exec_atomicFetchAdd_at hu hst, hown 0 hk]
      · rw [exec_atomicSwap_at hu hst, hown 1 hk]
      · rw [exec_atomicCompareSwap_at hu hst, hown 2 hk]
      · rw [exec_atomicFetchAnd_at hu hst, hown 3 hk]
      · rw [exec_atomicFetchOr_at hu hst, hown 4 hk]
      · rw [exec_atomicFetchXor_at hu hst, hown 5 hk]
  case turn =>
    intro s u d id at_ evs r hu hrun hfind hd
    rw [exec_wellRequestComplete_run hu hrun]
    refine ⟨fun hturn hstays => ?_, fun hturn hmoved hkind => ?_, fun hturn hmoved hkind => ?_, fun hturn => ?_⟩
    · rw [wellComplete_turn hfind hturn hd, runReq_unmoved hstays]
    · rw [wellComplete_turn hfind hturn hd, runReq_moved hmoved hkind]
    · rw [wellComplete_turn hfind hturn hd, runReq_aperture_moved hmoved hkind]
    · rw [wellComplete_stays hfind hturn]

end Sys2Proof.Machine
end

section
/-! PROOFS. The well's devices, windows, scrubber, migrations, contexts and aperture (09 R238 to R263; 12 R331): the rows answer
their operation's next state, and what each operation does in the case its rule names. -/

namespace Sys2Proof.Machine

open Sys2Proof

/-! ## The rows of the well's upkeep -/

section Rows

variable {s u : State} {m : Master} {ev : BootEv} {evs : List LineEv} {at_ : Nat}

theorem exec_wellInitDone_run (hu : u = s.advance at_) (hrun : coreRuns u = true) :
    exec (.wellInitDone ev at_) s = .next (finish u (settleSwitch (siteLock ev (initDone u)))) := by
  rw [exec_wellInitDone]
  exact atTime_whenCore (f := fun s => settleSwitch (siteLock ev (initDone s))) hu rfl hrun

theorem exec_mirrorFillDone_run {w : Nat} (hu : u = s.advance at_) (hrun : coreRuns u = true) (hw : w < 16) :
    exec (.mirrorFillDone w evs at_) s = .next (finish u (fillDone u w evs)) := by
  rw [exec_mirrorFillDone]
  exact atTime_whenCore (f := fun s => fillDone s w evs) hu (decide_eq_true hw) hrun

theorem exec_patrolScrub_run {far : Bool} (hu : u = s.advance at_) (hrun : coreRuns u = true) :
    exec (.patrolScrub far evs at_) s = .next (finish u (patrol u far evs)) := by
  rw [exec_patrolScrub]
  exact atTime_whenCore (f := fun s => patrol s far evs) hu rfl hrun

theorem exec_migrationDone_run (hu : u = s.advance at_) (hrun : coreRuns u = true) :
    exec (.migrationDone evs at_) s = .next (finish u (migDone u evs)) := by
  rw [exec_migrationDone]
  exact atTime_whenCore (f := fun s => migDone s evs) hu rfl hrun

theorem exec_contextTimeout_run {c : Nat} (hu : u = s.advance at_) (hrun : coreRuns u = true) (hc : c < 262144) :
    exec (.contextTimeout c at_) s = .next (finish u (settleSwitch (contextTimeout u c))) := by
  rw [exec_contextTimeout]
  exact atTime_whenCore (f := fun s => settleSwitch (contextTimeout s c)) hu (decide_eq_true hc) hrun

theorem exec_welFarCfgWrite_taken {val be : Nat} (hval : val < 2 ^ 32) (hbe : beOk m be = true)
    (h : takesWrite s m .WEL_FAR_CFG 0 0 = true) :
    exec (.welFarCfgWrite m val be) s = .next (finish s (farCfgWrite (wrote s m .WEL_FAR_CFG 0 0) m val be)) := by
  rw [exec_welFarCfgWrite]
  exact atNow_rowWrite (by simp only [takesWrite_ok h, hval, hbe, decide_true, Bool.and_self]) h

theorem exec_takeOut_taken {d : Nat} (h : takesWrite s m .WEL_DEV d 0 = true) :
    exec (.takeOut m d) s = .next (finish s (takeOut (wrote s m .WEL_DEV d 0) d)) := by
  rw [exec_takeOut]
  exact atNow_rowBit (f := F.WEL_DEV_TAKE_OUT) rfl rfl h

/-- A timed row that only the safe state and reset stop, its operands in range (15 R424). -/
theorem atTime_whenLive {ok : Bool} {f : State → State} (hu : u = s.advance at_) (hok : ok = true)
    (hrun : liveRuns u = true) : atTime s at_ ok (fun s => whenLive s f) = .next (finish u (f u)) := by
  subst hu hok
  rw [atTime_run, whenLive_run hrun]

theorem exec_bar4Access_run {kind : ApAccess} {b n : Nat} {data : List Byte} {en : List Bool} (hu : u = s.advance at_)
    (hrun : liveRuns u = true) (hb : b < 2 ^ 36) :
    exec (.bar4Access kind b n data en at_) s = .next (finish u (apertureAccess u kind b n data en)) := by
  rw [exec_bar4Access]
  exact atTime_whenLive (f := fun s => apertureAccess s kind b n data en) hu (decide_eq_true hb) hrun

end Rows

/-! ## Zero fill, population, devices, windows and the scrubber (R239, R241, R253, R254, R257) -/

section Devices

variable {s : State} {m : Master} {d w val be : Nat} {evs : List LineEv}

theorem initDone_clearing (h : s.well.clearing = true) :
    initDone s = ({ modWell s (fun w => { w with clearing := false }) with mem := [] } : State).wr0 F.WEL_STAT_INIT_DONE 1 :=
  if_pos h

theorem farCfgWrite_populates (hinit : s.flag F.WEL_STAT_INIT_DONE = false)
    (hn : fieldAfter s F.WEL_FAR_CFG_NCH 0 val be ∈ [0, 1, 2, 4, 8]) :
    farCfgWrite s m val be = writeWord s m .WEL_FAR_CFG 0 0 val be := by
  rw [farCfgWrite, if_neg (by simp [hinit])]
  exact if_pos (by simpa using hn)

theorem farCfgWrite_refused (h : s.flag F.WEL_STAT_INIT_DONE = true ∨
    fieldAfter s F.WEL_FAR_CFG_NCH 0 val be ∉ [0, 1, 2, 4, 8]) :
    farCfgWrite s m val be = s.accessFault m 1 (regOff .WEL_FAR_CFG 0) := by
  rw [farCfgWrite]
  split
  · rfl
  next hinit => exact if_neg (by simpa using h.resolve_left hinit)

theorem takeOut_out (h : devOut s d = true) : takeOut s d = s := if_pos h

/-- A device in service goes out: OUT is set, its STACK_OK or DIMM_OK cleared, kind 0x05 reported, its windows degraded. -/
theorem takeOut_in_service {e : State} (h : devOut s d = false) (he : e = s.wr F.WEL_DEV_OUT d 1) :
    takeOut s d = (List.range 16).foldl (fun s w =>
      if (winState s w == 1 || winState s w == 2) && (winDevs s w).contains d then degrade s w else s)
      ((if d < 4 then e.wr0 F.WEL_STAT_STACK_OK (putBits (e.rd0 F.WEL_STAT_STACK_OK) d 1 0)
        else e.wr0 F.WEL_STAT_DIMM_OK (putBits (e.rd0 F.WEL_STAT_DIMM_OK) (d - 4) 1 0)).report 7 5 d) := by
  subst he
  exact if_neg (by simp [h])

/-- A fill that met no line with an event copies its window whole and makes it mirrored. -/
theorem fillDone_clean (h : winState s w = 1) :
    fillDone s w [] =
      (modWell (copyPrefix s w (winSize s w)) fun x => { x with wins := mdel x.wins w }).wr F.WEL_MIR_STATE w 2 := by
  simp only [fillDone, List.filter_nil, List.foldl_nil, h, ne_eq, not_true_eq_false, if_false]

theorem patrol_near_line {e : LineEv} (hset : s.rd0 F.WEL_SCRUB_NEAR_H ≠ 0) (hnear : e.addr < farBase)
    (hpop : populated s e.addr = true) : patrol s false [e] = (readLine s [e] e.addr).2 := by
  simp [patrol, hset, hnear, hpop]

end Devices

/-! ## Migrations and contexts (R248, R259, R260) -/

section Migrations

variable {s t : State} {evs : List LineEv}

/-- A copy whose lines all moved is counted in both tiers and completed; no migration waits behind it. -/
theorem migDone_copy {g : Mig} (hmigs : s.well.migs = [g]) (hwaits : migWaits s = false) (hcopy : g.move = false)
    (hmoved : moveLines evs g.src g.dst 32768 0 s = ((g.src, 0), t)) :
    migDone s evs = migNext 0 (hostDone
      ((cntTier (cntTier (modWell t fun w => { w with migs := [] }) g.src 3 (2 ^ 21)) g.dst 4 (2 ^ 21)).cntW
        (if g.dst < farBase then 40 else 41)) g.hop 0 0 0 0) := by
  simp only [migDone, hmigs, hwaits, hmoved, hcopy, Bool.false_eq_true, if_false, ne_eq, not_true_eq_false,
    List.length_nil]

theorem contextTimeout_due {c : Nat} {x : Ctx} (hopen : mget s.ctx c = some x) (hlim : s.rd0 F.WEL_CTX_CFG_TO ≠ 0)
    (hdue : x.openAt + 1000 * s.rd0 F.WEL_CTX_CFG_TO ≤ s.now) (hpool : s.well.poolUntil = none) :
    contextTimeout s c = injectUnicast ((({ s with ctx := mdel s.ctx c } : State).cntW 33).report 7 7 c)
      (mkHdr 0x2B x.srcE 5 s.selfEid 0 0 (c % 2048) 0 0 (x.opcode * 2 ^ 24 + 6)) [] true := by
  simp only [contextTimeout, hopen]
  exact if_neg (by simp [hlim, hpool, hdue])

end Migrations

/-! ## The aperture (R263) -/

/-- The pool address of an access at byte `b` of the aperture. -/
def apAddr (s : State) (b : Nat) : Nat := s.rd0 F.WEL_AP_BASE_BASE * 2 ^ 36 + b

/-- An access of the aperture counted in its tier, under the tier's slot `k`, in its page and in the filters. -/
def apCounted (s : State) (k b n : Nat) : State :=
  countAccess (countHot (cntTier s (apAddr s b) k) (apAddr s b)) 0 0 7 (apAddr s b) n

/-- The checks of an aperture access in their order: its refusal or its admission on the counted state `c`. -/
def apJudged (s c : State) (kind : WKind) (b n : Nat) (data : List Byte) (en : List Bool) (whole : Nat → Bool)
    (bad : Option Nat) : State :=
  if (¬(s.rd0 F.WEL_AP_BASE_BASE ≤ 3 ∨ 0x40 ≤ s.rd0 F.WEL_AP_BASE_BASE ∧ s.rd0 F.WEL_AP_BASE_BASE ≤ 0x7F)) ∨
      2 ^ 36 < b + n ∨ s.well.poolUntil.isSome = true then apRefuse c (apAddr s b)
  else if placeCode s (apAddr s b) n whole ≠ 0 then apRefuse c (apAddr s b)
  else if bad.isSome = true then apRefuse (c.report 7 6 (apAddr s b / 64 * 64 + 64 * bad.getD 0)) (apAddr s b)
  else admitReq c kind (apAddr s b) n data en (headerOf []) 160

section Aperture

variable {s : State} {b n : Nat} {data : List Byte} {en : List Bool} {bad : Option Nat}

theorem apertureAccess_d3hot {kind : ApAccess} (h : s.host.pcie.dstate = 3) :
    apertureAccess s kind b n data en = s.emit .bar4Ur := if_pos h

theorem apertureAccess_atomicOp : apertureAccess s .atomicOp b n data en = s.emit .bar4Ur := ite_self _

theorem apertureAccess_read (h : s.host.pcie.dstate ≠ 3) :
    apertureAccess s .rd b n data en = apJudged s (apCounted s 0 b n) .apRead b n data en (fun _ => false) none := by
  rw [apertureAccess, if_neg h]
  simp only [aperture, apJudged, apCounted, apAddr, b2n, Bool.false_and, Bool.false_eq_true, if_false, Bool.or_eq_true,
    Bool.not_eq_true', ← Bool.not_eq_true, Bool.and_eq_true, decide_eq_true_eq, or_assoc, gt_iff_lt, Option.isSome_none]

theorem apertureAccess_write (h : s.host.pcie.dstate ≠ 3) :
    apertureAccess s (.wr bad) b n data en =
      apJudged s (apCounted s 1 b n) .apWrite b n data en (fun l => wholeLine (apAddr s b) n en l) bad := by
  rw [apertureAccess, if_neg h]
  simp only [aperture, apJudged, apCounted, apAddr, b2n, Bool.true_and, if_true, Bool.or_eq_true, Bool.not_eq_true',
    ← Bool.not_eq_true, Bool.and_eq_true, decide_eq_true_eq, or_assoc, gt_iff_lt]
  -- what is left differs in how the place check is decided alone, there of `true && wholeLine …`
  rfl

end Aperture

/-! ## The obligation -/

/-- Settles O17: each row answers its operation's next state, and devices, windows, the scrubber, migrations, contexts and
aperture accesses do what R239 to R263 say in the named cases. -/
theorem wellUpkeep : Obligations.WellUpkeep := by
  unfold Obligations.WellUpkeep
  refine ⟨?rows, ?writes, ?apertureRow, ?zeroFill, ?population, ?outOfService, ?fill, ?scrub, ?migration, ?context,
    ?accesses⟩
  case rows =>
    intro s u ev at_ w c evs far hu hrun hw hc
    exact ⟨exec_wellInitDone_run hu hrun, exec_mirrorFillDone_run hu hrun hw, exec_patrolScrub_run hu hrun,
      exec_migrationDone_run hu hrun, exec_contextTimeout_run hu hrun hc⟩
  case writes =>
    intro s m val be d hval hbe
    exact ⟨exec_welFarCfgWrite_taken hval hbe, exec_takeOut_taken⟩
  case apertureRow =>
    intro s u kind b n at_ data en hu hrun hb
    exact exec_bar4Access_run hu hrun hb
  case zeroFill =>
    intro s u ev at_ hu hrun hclearing
    rw [exec_wellInitDone_run hu hrun, initDone_clearing hclearing]
  case population =>
    intro s c m val be hval hbe htakes hc
    rw [exec_welFarCfgWrite_taken hval hbe htakes, ← hc]
    refine ⟨fun hinit hn => ?_, fun hrefused => ?_⟩
    · rw [farCfgWrite_populates hinit hn]
    · rw [farCfgWrite_refused hrefused]
  case outOfService =>
    intro s c e m d htakes hc he
    rw [exec_takeOut_taken htakes, ← hc]
    refine ⟨fun hout => ?_, fun hserves => ?_⟩
    · rw [takeOut_out hout]
    · rw [takeOut_in_service hserves he]
  case fill =>
    intro s u w at_ hu hrun hw hfilling
    rw [exec_mirrorFillDone_run hu hrun hw, fillDone_clean hfilling]
  case scrub =>
    intro s u e at_ hu hrun hset hnear hpop
    rw [exec_patrolScrub_run hu hrun, patrol_near_line hset hnear hpop]
  case migration =>
    intro s u t g at_ evs hu hrun hmigs hwaits hcopy hmoved
    rw [exec_migrationDone_run hu hrun, migDone_copy hmigs hwaits hcopy hmoved]
  case context =>
    intro s u c at_ x hu hrun hc hopen hlim hdue hpool
    rw [exec_contextTimeout_run hu hrun hc, contextTimeout_due hopen hlim hdue hpool]
  case accesses =>
    intro s u c b n at_ base a data en hu hrun hb hbase ha
    subst hbase
    have haddr : apAddr u b = a := ha.symm
    refine ⟨fun hd3 kind => ?d3hot, ?atomicOp, fun hd3 hc => ?read, fun hd3 hc bad => ?write⟩
    case d3hot => rw [exec_bar4Access_run hu hrun hb, apertureAccess_d3hot hd3]
    case atomicOp => rw [exec_bar4Access_run hu hrun hb, apertureAccess_atomicOp]
    case read =>
      have hcounted : apCounted u 0 b n = c := by rw [hc, apCounted, haddr]
      rw [exec_bar4Access_run hu hrun hb, apertureAccess_read hd3, hcounted]
      simp only [apJudged, haddr, Option.isSome_none, Bool.false_eq_true, if_false]
    case write =>
      have hcounted : apCounted u 1 b n = c := by rw [hc, apCounted, haddr]
      rw [exec_bar4Access_run hu hrun hb, apertureAccess_write hd3, hcounted, apJudged, haddr]

end Sys2Proof.Machine
end

section
/-! PROOFS. Sync objects by packet (09 R268 to R272): the rows answer their operation's next state where the station holds the
packet or the core runs; an operation that a check refuses, each that passes, and a waiter whose ticks have passed. -/

namespace Sys2Proof.Machine

open Sys2Proof

/-! ## The rows of sync packets -/

section Rows

variable {s u : State} {p : StPkt} {at_ : Nat}

theorem exec_soRead_at (hu : u = s.advance at_) (hst : stationHas u p 0x30 = true) :
    exec (.soRead p at_) s = .next (finish u (settleSwitch (soOp u p 0))) := by
  rw [exec_soRead]
  exact atTime_stationRow (f := fun s => settleSwitch (soOp s p 0)) hu hst

theorem exec_soFetchAdd_at (hu : u = s.advance at_) (hst : stationHas u p 0x30 = true) :
    exec (.soFetchAdd p at_) s = .next (finish u (settleSwitch (soOp u p 1))) := by
  rw [exec_soFetchAdd]
  exact atTime_stationRow (f := fun s => settleSwitch (soOp s p 1)) hu hst

theorem exec_soCompareSwap_at (hu : u = s.advance at_) (hst : stationHas u p 0x30 = true) :
    exec (.soCompareSwap p at_) s = .next (finish u (settleSwitch (soOp u p 2))) := by
  rw [exec_soCompareSwap]
  exact atTime_stationRow (f := fun s => settleSwitch (soOp s p 2)) hu hst

theorem exec_waitGe_at (hu : u = s.advance at_) (hst : stationHas u p 0x30 = true) :
    exec (.waitGe p at_) s = .next (finish u (settleSwitch (soOp u p 3))) := by
  rw [exec_waitGe]
  exact atTime_stationRow (f := fun s => settleSwitch (soOp s p 3)) hu hst

theorem exec_waitEq_at (hu : u = s.advance at_) (hst : stationHas u p 0x30 = true) :
    exec (.waitEq p at_) s = .next (finish u (settleSwitch (soOp u p 4))) := by
  rw [exec_waitEq]
  exact atTime_stationRow (f := fun s => settleSwitch (soOp s p 4)) hu hst

theorem exec_signal_at (hu : u = s.advance at_) (hst : stationHas u p 0x30 = true) :
    exec (.signal p at_) s = .next (finish u (settleSwitch (soOp u p 5))) := by
  rw [exec_signal]
  exact atTime_stationRow (f := fun s => settleSwitch (soOp s p 5)) hu hst

theorem exec_soCancel_at (hu : u = s.advance at_) (hst : stationHas u p 0x30 = true) :
    exec (.soCancel p at_) s = .next (finish u (settleSwitch (soOp u p 6))) := by
  rw [exec_soCancel]
  exact atTime_stationRow (f := fun s => settleSwitch (soOp s p 6)) hu hst

theorem exec_soWaitTimeout_run {n k : Nat} (hu : u = s.advance at_) (hrun : coreRuns u = true) (hn : n < 8192) :
    exec (.soWaitTimeout n k at_) s = .next (finish u (settleSwitch (soTimeout u n k))) := by
  rw [exec_soWaitTimeout]
  exact atTime_whenCore (f := fun s => settleSwitch (soTimeout s n k)) hu (decide_eq_true hn) hrun

end Rows

/-! ## An operation that arrives (R267, R268) -/

/-- What an operation that passed its checks does on the counted state. -/
def soExecuted (d : State) (p : StPkt) (n op : Nat) : State :=
  if op = 3 ∨ op = 4 then soWait d p.hdr n op (leNat (p.data.take 8))
  else if op = 6 then soCancel d p.hdr n
  else if op = 0 then sendSo d p.hdr 0 (soValue d n)
  else scan (sendSo (soDo d n op (leNat (p.data.take 8)) (leNat ((p.data.drop 8).take 8))) p.hdr 0 (soValue d n)) n

/-- The code that the pool's reset or a check of the counted state `d` gives. -/
def soJudged (c d : State) (p : StPkt) : Nat :=
  if c.well.poolUntil.isSome = true then 0x0D else soCode d p.hdr p.data

section Operations

variable {s c d : State} {p : StPkt} {op : Nat}

/-- An operation under its own row, at the chip that it names, is counted, judged, and refused or executed. -/
theorem soOp_own (hc : c = takeStation s p) (hdst : p.hdr.dst = c.selfEid) (hop : bits p.hdr.opw0 28 4 = op)
    (hd : d = soCount c 3 (if p.arr < 160 then some p.arr else none)) :
    soOp s p op = if soJudged c d p ≠ 0 then sendErr d p.hdr (soJudged c d p) p.hdr.opw0 p.hdr.opw1
      else soExecuted d p (p.hdr.opw0 % 8192) op := by
  simp only [soOp, hop, ← hc, hdst, ← hd, ne_eq, not_true_eq_false, and_false, if_false]
  rfl

theorem soExecuted_read {n : Nat} : soExecuted d p n 0 = sendSo d p.hdr 0 (soValue d n) := by
  simp [soExecuted]

/-- FETCH_ADD, COMPARE_SWAP and SIGNAL answer V as it was and start a scan. -/
theorem soExecuted_changes {n : Nat} (hop : op = 1 ∨ op = 2 ∨ op = 5) : soExecuted d p n op =
    scan (sendSo (soDo d n op (leNat (p.data.take 8)) (leNat ((p.data.drop 8).take 8))) p.hdr 0 (soValue d n)) n := by
  rw [soExecuted, if_neg (by omega), if_neg (by omega), if_neg (by omega)]

theorem soExecuted_wait {n : Nat} (hop : op = 3 ∨ op = 4) :
    soExecuted d p n op = soWait d p.hdr n op (leNat (p.data.take 8)) := if_pos hop

theorem soExecuted_cancel {n : Nat} : soExecuted d p n 6 = soCancel d p.hdr n := by
  simp [soExecuted]

end Operations

/-! ## A wait that arrives (R271) -/

/-- A wait at the end of the waiters, its number used up. -/
def waitRegistered (s : State) (q : Header) (n : Nat) (ge cons : Bool) (a0 : Nat) : State :=
  modWell s fun x => { x with
    waiters := x.waiters ++ [⟨n, ge, cons, a0, q.srcE, q.opw2, q.opw0, s.now, q.opw1, s.well.regNo⟩]
    regNo := x.regNo + 1 }

section Waits

variable {s : State} {q : Header} {n a0 : Nat}

theorem soWait_ge_holds (hty : soType s n ≠ 2) (hv : a0 ≤ soValue s n) :
    soWait s q n 3 a0 = sendSo s q 1 (soValue s n) := by
  simp [soWait, hty, hv]

theorem soWait_ge_takes (hty : soType s n = 2) (hv : a0 ≤ soValue s n) (hfirst : (soWaiters s n).any (·.cons) = false) :
    soWait s q n 3 a0 = scan (sendSo (setV s n (soValue s n - a0)) q 1
      (soValue (setV s n (soValue s n - a0)) n)) n := by
  simp only [soWait, hty, hfirst, decide_eq_true hv, beq_self_eq_true, Bool.and_false, Bool.not_false, Bool.and_self,
    if_true]

/-- A WAIT_GE that does not hold, or stands behind a consuming waiter, is registered while there is room. -/
theorem soWait_ge_waits (h : soValue s n < a0 ∨ soType s n = 2 ∧ (soWaiters s n).any (·.cons) = true) :
    soWait s q n 3 a0 = if 16384 ≤ s.well.waiters.length then sendSo ((s.cntW 19).report 7 8 n) q 3 (soValue s n)
      else scan (sendSo (waitRegistered s q n true (soType s n == 2) a0) q 2 (soValue s n)) n := by
  have hno : (decide (soValue s n ≥ a0) && !(soType s n == 2 && (soWaiters s n).any (·.cons))) = false := by
    obtain hv | ⟨hty, hqueued⟩ := h
    · simp [hv]
    · simp [hty, hqueued]
  simp only [soWait, beq_self_eq_true, Bool.true_and, if_true, hno, Bool.false_eq_true, if_false]
  rfl

theorem soWait_eq_holds (hv : soValue s n = a0) : soWait s q n 4 a0 = sendSo s q 1 (soValue s n) := by
  simp [soWait, hv]

theorem soWait_eq_waits (hv : soValue s n ≠ a0) :
    soWait s q n 4 a0 = if 16384 ≤ s.well.waiters.length then sendSo ((s.cntW 19).report 7 8 n) q 3 (soValue s n)
      else scan (sendSo (waitRegistered s q n false false a0) q 2 (soValue s n)) n := by
  have hno : (soValue s n == a0) = false := beq_eq_false_iff_ne.mpr hv
  simp only [soWait, hno, Nat.reduceBEq, Nat.reduceEqDiff, Bool.false_and, Bool.false_eq_true, if_false]
  rfl

/-- A waiter of the object whose ticks have passed at a tick boundary is removed and told so. -/
theorem soTimeout_due {k : Nat} {w : Waiter} (hw : (soWaiters s n)[k]? = some w) (hticks : w.ticks ≠ 0)
    (hdue : w.since + 1000 * w.ticks ≤ s.now - s.fabric % 1000) :
    soTimeout s n k = notify ((dropWaiter s w).cntW 18) w 4 := by
  simp only [soTimeout, hw]
  exact if_neg (not_or.mpr ⟨hticks, hdue.not_gt⟩)

end Waits

/-! ## The obligation -/

/-- Settles O18: each row answers its operation's next state, and operations, waits and timeouts go as R268 to R272 say. -/
theorem syncPackets : Obligations.SyncPackets := by
  unfold Obligations.SyncPackets
  refine ⟨?rows, ?timeoutRow, ?operations, ?timeout⟩
  case rows =>
    intro s u p at_ hu
    exact ⟨exec_soRead_at hu, exec_soFetchAdd_at hu, exec_soCompareSwap_at hu, exec_waitGe_at hu, exec_waitEq_at hu,
      exec_signal_at hu, exec_soCancel_at hu⟩
  case timeoutRow =>
    intro s u n k at_ hu hrun hn
    exact exec_soWaitTimeout_run hu hrun hn
  case operations =>
    intro s u c d p at_ n op code v a0 a1 hu hst hc hdst hn hop hd hcode hv ha0 ha1
    have hjudged : soJudged c d p = code := hcode.symm
    have hown : ∀ k, op = k → soOp u p k = if code ≠ 0 then sendErr d p.hdr code p.hdr.opw0 p.hdr.opw1
        else soExecuted d p n k := by
      intro k hk
      rw [soOp_own hc hdst (hop.symm.trans hk) hd, hjudged, hn]
    rw [exec_soRead_at hu hst, exec_soFetchAdd_at hu hst, exec_soCompareSwap_at hu hst, exec_waitGe_at hu hst,
      exec_waitEq_at hu hst, exec_signal_at hu hst, exec_soCancel_at hu hst]
    refine ⟨fun hbad t ht => ?refused, fun hgood hk => ?read, fun hgood hk => ?fetchAdd, fun hgood hk => ?compareSwap,
      fun hgood hk => ?signal, fun hgood hk => ?cancel, fun hgood hk hty hle => ?geHolds,
      fun hgood hk hty hle hfirst => ?geTakes, fun hgood hk hwaits hroom => ?geRegisters,
      fun hgood hk hwaits hfull => ?geFull, fun hgood hk heq => ?eqHolds, fun hgood hk hne hroom => ?eqRegisters,
      fun hgood hk hne hfull => ?eqFull⟩
    case refused =>
      have hrefused : ∀ k, op = k → finish u (settleSwitch (soOp u p k)) = t := by
        intro k hk
        rw [hown k hk, if_pos hbad, ht]
      exact ⟨fun hk => by rw [hrefused 0 hk], fun hk => by rw [hrefused 1 hk], fun hk => by rw [hrefused 2 hk],
        fun hk => by rw [hrefused 3 hk], fun hk => by rw [hrefused 4 hk], fun hk => by rw [hrefused 5 hk],
        fun hk => by rw [hrefused 6 hk]⟩
    all_goals rw [hown _ hk, if_neg (not_not.mpr hgood)]
    case read => rw [soExecuted_read, hv]
    case fetchAdd => rw [soExecuted_changes (by decide), hv, ha0, ha1]
    case compareSwap => rw [soExecuted_changes (by decide), hv, ha0, ha1]
    case signal => rw [soExecuted_changes (by decide), hv, ha0, ha1]
    case cancel => rw [soExecuted_cancel]; rfl
    all_goals rw [soExecuted_wait (by decide), ← ha0]; subst hv
    case geHolds => rw [soWait_ge_holds hty hle]
    case geTakes => rw [soWait_ge_takes hty hle hfirst]
    case geRegisters => rw [soWait_ge_waits hwaits, if_neg hroom.not_ge, waitRegistered]
    case geFull => rw [soWait_ge_waits hwaits, if_pos hfull]
    case eqHolds => rw [soWait_eq_holds heq]
    case eqRegisters => rw [soWait_eq_waits hne, if_neg hroom.not_ge, waitRegistered]
    case eqFull => rw [soWait_eq_waits hne, if_pos hfull]
  case timeout =>
    intro s u n k at_ w hu hrun hn hw hticks hdue
    rw [exec_soWaitTimeout_run hu hrun hn, soTimeout_due hw hticks hdue]

end Sys2Proof.Machine
end

section
/-! PROOFS. Sync objects by register (09 R268, R273; 13 R370): the rows answer their operation's next state where the write is
taken; WEL_SO_CMD written whole, and the words of an object. -/

namespace Sys2Proof.Machine

open Sys2Proof

/-! ## The rows of sync registers -/

section Rows

variable {s : State} {m : Master} {val be n w : Nat}

/-- Every master may write a whole word. -/
theorem beOk_whole (m : Master) : beOk m 15 = true := by simp [beOk]

theorem exec_soCmdRead_taken (hval : val < 2 ^ 32) (hbe : beOk m be = true) (h : takesWrite s m .WEL_SO_CMD 0 0 = true) :
    exec (.soCmdRead m val be) s =
      .next (finish s (settleSwitch (soCmdRow (wrote s m .WEL_SO_CMD 0 0) m val be 0))) := by
  rw [exec_soCmdRead]
  exact atNow_rowWrite (f := fun s => settleSwitch (soCmdRow s m val be 0))
    (by simp only [takesWrite_ok h, hval, hbe, decide_true, Bool.and_self]) h

theorem exec_soCmdFetchAdd_taken (hval : val < 2 ^ 32) (hbe : beOk m be = true)
    (h : takesWrite s m .WEL_SO_CMD 0 0 = true) :
    exec (.soCmdFetchAdd m val be) s =
      .next (finish s (settleSwitch (soCmdRow (wrote s m .WEL_SO_CMD 0 0) m val be 1))) := by
  rw [exec_soCmdFetchAdd]
  exact atNow_rowWrite (f := fun s => settleSwitch (soCmdRow s m val be 1))
    (by simp only [takesWrite_ok h, hval, hbe, decide_true, Bool.and_self]) h

theorem exec_soCmdCompareSwap_taken (hval : val < 2 ^ 32) (hbe : beOk m be = true)
    (h : takesWrite s m .WEL_SO_CMD 0 0 = true) :
    exec (.soCmdCompareSwap m val be) s =
      .next (finish s (settleSwitch (soCmdRow (wrote s m .WEL_SO_CMD 0 0) m val be 2))) := by
  rw [exec_soCmdCompareSwap]
  exact atNow_rowWrite (f := fun s => settleSwitch (soCmdRow s m val be 2))
    (by simp only [takesWrite_ok h, hval, hbe, decide_true, Bool.and_self]) h

theorem exec_soCmdSignal_taken (hval : val < 2 ^ 32) (hbe : beOk m be = true)
    (h : takesWrite s m .WEL_SO_CMD 0 0 = true) :
    exec (.soCmdSignal m val be) s =
      .next (finish s (settleSwitch (soCmdRow (wrote s m .WEL_SO_CMD 0 0) m val be 5))) := by
  rw [exec_soCmdSignal]
  exact atNow_rowWrite (f := fun s => settleSwitch (soCmdRow s m val be 5))
    (by simp only [takesWrite_ok h, hval, hbe, decide_true, Bool.and_self]) h

theorem exec_soTypeWrite_taken (hval : val < 2 ^ 32) (hbe : beOk m be = true) (h : takesWrite s m .WEL_SO n w = true) :
    exec (.soTypeWrite m n w val be) s = .next (finish s (if w ≤ 1 then soTypeWrite (wrote s m .WEL_SO n w) m n w val be
      else wrote s m .WEL_SO n w)) := by
  rw [exec_soTypeWrite]
  exact atNow_rowWrite (f := fun s => if w ≤ 1 then soTypeWrite s m n w val be else s)
    (by simp only [takesWrite_ok h, hval, hbe, decide_true, Bool.and_self]) h

theorem exec_valLoWrite_taken (hval : val < 2 ^ 32) (hbe : beOk m be = true) (h : takesWrite s m .WEL_SO n 2 = true) :
    exec (.valLoWrite m n val be) s = .next (finish s (soValLo (wrote s m .WEL_SO n 2) m n val be)) := by
  rw [exec_valLoWrite]
  exact atNow_rowWrite (f := fun s => soValLo s m n val be)
    (by simp only [takesWrite_ok h, hval, hbe, decide_true, Bool.and_self]) h

theorem exec_valHiWrite_taken (hval : val < 2 ^ 32) (hbe : beOk m be = true) (h : takesWrite s m .WEL_SO n 3 = true) :
    exec (.valHiWrite m n val be) s = .next (finish s (settleSwitch (soValHi (wrote s m .WEL_SO n 3) m n val be))) := by
  rw [exec_valHiWrite]
  exact atNow_rowWrite (f := fun s => settleSwitch (soValHi s m n val be))
    (by simp only [takesWrite_ok h, hval, hbe, decide_true, Bool.and_self]) h

end Rows

/-! ## WEL_SO_CMD written whole -/

/-- V as it was in WEL_SO_RES, and STATUS 0. -/
def soAnswered (c : State) (n : Nat) : State :=
  ((c.wr0 F.WEL_SO_RES_LO_VAL (soValue c n % 2 ^ 32)).wr0 F.WEL_SO_RES_HI_VAL (soValue c n / 2 ^ 32)).wr0
    F.WEL_SO_CSTAT_STATUS 0

/-- The operations that WEL_SO_CMD knows. -/
def soCmdOps : List Nat := [0, 1, 2, 5]

section Command

variable {s c : State} {m : Master} {val n op : Nat}

/-- A whole write under its operation's own row is counted and judged: a second argument where none is taken, then an object
not in use, then the operation. -/
theorem soCmdRow_own (hc : c = soCount s (masterCode m - 1) none) (hn : n = val % 8192) (hop : bits val 28 4 = op)
    (hknown : op ∈ soCmdOps) :
    soCmdRow s m val 15 op = if op ≠ 2 ∧ soArg c 1 ≠ 0 then c.wr0 F.WEL_SO_CSTAT_STATUS 0x0C
      else if soType c n = 0 then c.wr0 F.WEL_SO_CSTAT_STATUS 9
      else if op = 0 then soAnswered c n
      else scan (soDo (soAnswered c n) n op (soArg c 0) (soArg c 1)) n := by
  have hvalid : (op == 0 || op == 1 || op == 2 || op == 5) = true := by
    simpa [soCmdOps, or_assoc] using hknown
  rw [soCmdRow, hop, if_neg fun hother => hother.2 rfl]
  simp [soCmd, wholeBe, soAnswered, hop, hvalid, ← hc, ← hn]

/-- An operation on an object in use, with no second argument but COMPARE_SWAP's, is executed. -/
theorem soCmdRow_executed (hc : c = soCount s (masterCode m - 1) none) (hn : n = val % 8192) (hop : bits val 28 4 = op)
    (hknown : op ∈ soCmdOps) (harg : op = 2 ∨ soArg c 1 = 0) (hused : soType c n ≠ 0) :
    soCmdRow s m val 15 op =
      if op = 0 then soAnswered c n else scan (soDo (soAnswered c n) n op (soArg c 0) (soArg c 1)) n := by
  rw [soCmdRow_own hc hn hop hknown, if_neg (by tauto), if_neg hused]

theorem soCmdRow_second_argument (hc : c = soCount s (masterCode m - 1) none) (hn : n = val % 8192)
    (hop : bits val 28 4 = op) (hknown : op ∈ soCmdOps) (hnone : op ≠ 2) (harg : soArg c 1 ≠ 0) :
    soCmdRow s m val 15 op = c.wr0 F.WEL_SO_CSTAT_STATUS 0x0C := by
  rw [soCmdRow_own hc hn hop hknown, if_pos ⟨hnone, harg⟩]

theorem soCmdRow_unused (hc : c = soCount s (masterCode m - 1) none) (hn : n = val % 8192) (hop : bits val 28 4 = op)
    (hknown : op ∈ soCmdOps) (harg : op = 2 ∨ soArg c 1 = 0) (hunused : soType c n = 0) :
    soCmdRow s m val 15 op = c.wr0 F.WEL_SO_CSTAT_STATUS 9 := by
  rw [soCmdRow_own hc hn hop hknown, if_neg (by tauto), if_pos hunused]

end Command

/-! ## The words of an object (R273) -/

section Words

variable {s : State} {m : Master} {n w val be : Nat}

theorem soTypeWrite_known (h : w = 0 → fieldAfter s F.WEL_SO_TYPE n val be < 5) :
    soTypeWrite s m n w val be = resetWaiters (writeWord s m .WEL_SO n w val be) n :=
  if_neg fun hbad => (h hbad.1).not_ge hbad.2

theorem soTypeWrite_reserved (hw : w = 0) (h : 5 ≤ fieldAfter s F.WEL_SO_TYPE n val be) :
    soTypeWrite s m n w val be = s.accessFault m 1 (regOff .WEL_SO n) := if_pos ⟨hw, h⟩

theorem soValLo_eq : soValLo s m n val be =
    { s with heldW := mput s.heldW (soHoldKey m n) (fieldAfter s F.WEL_SO_VAL_LO n val be) } := rfl

theorem soValHi_eq {d : State} (hd : d = setV { s with heldW := mdel s.heldW (soHoldKey m n) } n
      (fieldAfter s F.WEL_SO_VAL_HI n val be * 2 ^ 32 + mgetD s.heldW (soHoldKey m n) 0)) :
    soValHi s m n val be = scan (modWell (genUp s d n false)
      fun w => { w with mute := w.mute.filter fun k => !(entriesOf s n).contains k }) n := by
  rw [hd, soValHi]

end Words

/-! ## The obligation -/

/-- Settles O19: each row answers its operation's next state, and WEL_SO_CMD and an object's words do what R268 and R273 say. -/
theorem syncRegisters : Obligations.SyncRegisters := by
  unfold Obligations.SyncRegisters
  refine ⟨?rows, ?command, ?typeOrTarget, ?valLo, ?valHi⟩
  case rows =>
    intro s m val be n w hval hbe
    exact ⟨exec_soCmdRead_taken hval hbe, exec_soCmdFetchAdd_taken hval hbe, exec_soCmdCompareSwap_taken hval hbe,
      exec_soCmdSignal_taken hval hbe, exec_soTypeWrite_taken hval hbe, exec_valLoWrite_taken hval hbe,
      exec_valHiWrite_taken hval hbe⟩
  case command =>
    intro s c d m val n op hval htakes hc hn hop hd
    have hanswered : soAnswered c n = d := hd.symm
    have hbe := beOk_whole m
    rw [exec_soCmdRead_taken hval hbe htakes, exec_soCmdFetchAdd_taken hval hbe htakes,
      exec_soCmdCompareSwap_taken hval hbe htakes, exec_soCmdSignal_taken hval hbe htakes]
    refine ⟨fun hk harg hused => ?read, fun hk harg hused => ?fetchAdd, fun hk hused => ?compareSwap,
      fun hk harg hused => ?signal, fun hk harg => ?secondArgument, fun hk hunused => ?unused⟩
    all_goals subst hk
    case read => rw [soCmdRow_executed hc hn hop.symm (by decide) (.inr harg) hused, if_pos rfl, hanswered]
    case fetchAdd =>
      rw [soCmdRow_executed hc hn hop.symm (by decide) (.inr harg) hused, if_neg (by decide), hanswered]
    case compareSwap =>
      rw [soCmdRow_executed hc hn hop.symm (by decide) (.inl rfl) hused, if_neg (by decide), hanswered]
    case signal =>
      rw [soCmdRow_executed hc hn hop.symm (by decide) (.inr harg) hused, if_neg (by decide), hanswered]
    case secondArgument => rw [soCmdRow_second_argument hc hn hop.symm (by decide) (by decide) harg]
    case unused => rw [soCmdRow_unused hc hn hop.symm (by decide) (.inl rfl) hunused]
  case typeOrTarget =>
    intro s c m n w val be hval hbe hw htakes hc
    rw [exec_soTypeWrite_taken hval hbe htakes, if_pos (Nat.le_of_lt_succ hw), ← hc]
    refine ⟨fun hknown => ?_, fun hw0 hreserved => ?_⟩
    · rw [soTypeWrite_known hknown]
    · rw [soTypeWrite_reserved hw0 hreserved]
  case valLo =>
    intro s c m n val be hval hbe htakes hc
    rw [exec_valLoWrite_taken hval hbe htakes, ← hc, soValLo_eq]
  case valHi =>
    intro s c d m n val be hval hbe htakes hc hd
    rw [exec_valHiWrite_taken hval hbe htakes, ← hc, soValHi_eq hd]

end Sys2Proof.Machine
end

section
/-! PROOFS. The value of a sync object (09 R268): what each operation makes of it, and that no other object's value moves, not
even by the room commits that a generation starts (10 R288), whose registers stand behind the objects'. -/

namespace Sys2Proof.Machine

open Sys2Proof

/-! ## Where the registers of sync objects and of rooms stand -/

theorem rd_wr_same (s : State) (f : Field) (i v : Nat) : (s.wr f i v).rd f i = v % 2 ^ f.width := by
  unfold State.wr
  split <;> simp_all only [State.rd, if_true, if_false, Bool.false_eq_true, fget_fset_self]

theorem rd_wr_other (s : State) {f g : Field} {i j : Nat} (v : Nat) (h : fkey g j ≠ fkey f i) :
    (s.wr f i v).rd g j = s.rd g j := by
  unfold State.wr
  split
  · simp only [State.rd, fget_fset_ne _ _ h]
  · simp only [State.rd, fget_fset_ne _ _ h]

/-! The bit addresses of the fields of sync object `n` that an operation writes. -/

theorem fkey_syncObject {f : Field} (hf : f.reg = .WEL_SO) (n : Nat) :
    fkey f n = (0x3400000 + 32 * n + 4 * f.word) * 8 + f.lsb := by
  simp only [fkey, hf, regOff, regInfo, dimOffset, List.map_nil, List.foldl_nil]
  omega

theorem fkey_valLo (n : Nat) : fkey F.WEL_SO_VAL_LO n = (0x3400008 + 32 * n) * 8 :=
  (fkey_syncObject rfl n).trans (by simp only [F.WEL_SO_VAL_LO]; omega)

theorem fkey_valHi (n : Nat) : fkey F.WEL_SO_VAL_HI n = (0x340000C + 32 * n) * 8 :=
  (fkey_syncObject rfl n).trans (by simp only [F.WEL_SO_VAL_HI]; omega)

theorem fkey_lastTick (n : Nat) : fkey F.WEL_SO_LAST_TICK n = (0x3400010 + 32 * n) * 8 :=
  (fkey_syncObject rfl n).trans (by simp only [F.WEL_SO_LAST_TICK]; omega)

/-- The bit address at which the registers of rooms and of their commits begin. -/
def roomKeys : Nat := 0x3800100 * 8

theorem roomKeys_le_room {f : Field} (hf : f.reg = .RMS_ROOM) (r : Nat) : roomKeys ≤ fkey f r := by
  simp only [roomKeys, fkey, hf, regOff, regInfo]
  omega

theorem roomKeys_le_commits {f : Field} (hf : f.reg = .RMS_CMT) (k : Nat) : roomKeys ≤ fkey f k := by
  simp only [roomKeys, fkey, hf, regOff, regInfo]
  omega

/-! ## Room commits -/

section Commits

variable {g : Field} {j : Nat}

theorem rd_wr_room (hg : fkey g j < roomKeys) {f : Field} (hf : f.reg = .RMS_ROOM) (s : State) (r v : Nat) :
    (s.wr f r v).rd g j = s.rd g j :=
  rd_wr_other s v (hg.trans_le (roomKeys_le_room hf r)).ne

theorem commitRoom_rd (hg : fkey g j < roomKeys) (s : State) (r : Nat) : (commitRoom s r).rd g j = s.rd g j := by
  rw [commitRoom, State.cntW, cnt_rd, rd_wr_room hg rfl, rd_wr_room hg rfl, rd_wr_room hg rfl]
  split
  · rw [rd_wr_room hg rfl, rd_wr_room hg rfl, rd_wr_room hg rfl, rd_wr_room hg rfl]
  · split
    · rw [rd_wr_room hg rfl]
    · rfl

/-- Room commits change registers of rooms and of their commits alone. -/
theorem roomCommits_rd (hg : fkey g j < roomKeys) (s : State) (n : Nat) : (roomCommits s n).rd g j = s.rd g j := by
  have hrooms : ∀ (rs : List Nat) (t : State), (rs.foldl commitRoom t).rd g j = t.rd g j := fun rs t =>
    List.foldlRecOn (motive := fun x : State => x.rd g j = t.rd g j) rs commitRoom rfl
      fun x hx r _ => (commitRoom_rd hg x r).trans hx
  refine List.foldlRecOn (motive := fun x : State => x.rd g j = s.rd g j) _ _ rfl fun x hx k _ => ?_
  rw [State.bump, rd_wr_other _ _ (hg.trans_le (roomKeys_le_commits rfl k)).ne, hrooms, hx]

end Commits

/-! ## V under an operation -/

section Values

variable {s : State} {n k : Nat}

theorem soValue_genUp (s0 : State) (done : Bool) (hk : k < 8192) : soValue (genUp s0 s n done) k = soValue s k := by
  have hlo : fkey F.WEL_SO_VAL_LO k < roomKeys := by rw [fkey_valLo, roomKeys]; omega
  have hhi : fkey F.WEL_SO_VAL_HI k < roomKeys := by rw [fkey_valHi, roomKeys]; omega
  unfold genUp
  split
  · simp only [soValue, roomCommits_rd hlo, roomCommits_rd hhi]
  · rfl

theorem soValue_wr_lastTick (v : Nat) : soValue (s.wr F.WEL_SO_LAST_TICK n v) k = soValue s k := by
  have hlo : fkey F.WEL_SO_VAL_LO k ≠ fkey F.WEL_SO_LAST_TICK n := by rw [fkey_valLo, fkey_lastTick]; omega
  have hhi : fkey F.WEL_SO_VAL_HI k ≠ fkey F.WEL_SO_LAST_TICK n := by rw [fkey_valHi, fkey_lastTick]; omega
  simp only [soValue, rd_wr_other s v hlo, rd_wr_other s v hhi]

/-- Setting V writes its two words; LAST_TICK is no part of it. -/
theorem soValue_setV (v : Nat) : soValue (setV s n v) k =
    soValue ((s.wr F.WEL_SO_VAL_LO n (v % 2 ^ 32)).wr F.WEL_SO_VAL_HI n (v / 2 ^ 32 % 2 ^ 32)) k := by
  unfold setV
  split
  · rfl
  · exact soValue_wr_lastTick _

theorem soValue_setV_same (v : Nat) : soValue (setV s n v) n = v % 2 ^ 64 := by
  have hne : fkey F.WEL_SO_VAL_LO n ≠ fkey F.WEL_SO_VAL_HI n := by rw [fkey_valLo, fkey_valHi]; omega
  have hlo : F.WEL_SO_VAL_LO.width = 32 := rfl
  have hhi : F.WEL_SO_VAL_HI.width = 32 := rfl
  rw [soValue_setV, soValue, rd_wr_same, rd_wr_other _ _ hne, rd_wr_same, hlo, hhi]
  omega

theorem soValue_setV_other (v : Nat) (h : k ≠ n) : soValue (setV s n v) k = soValue s k := by
  have hlolo : fkey F.WEL_SO_VAL_LO k ≠ fkey F.WEL_SO_VAL_LO n := by rw [fkey_valLo, fkey_valLo]; omega
  have hlohi : fkey F.WEL_SO_VAL_LO k ≠ fkey F.WEL_SO_VAL_HI n := by rw [fkey_valLo, fkey_valHi]; omega
  have hhilo : fkey F.WEL_SO_VAL_HI k ≠ fkey F.WEL_SO_VAL_LO n := by rw [fkey_valHi, fkey_valLo]; omega
  have hhihi : fkey F.WEL_SO_VAL_HI k ≠ fkey F.WEL_SO_VAL_HI n := by rw [fkey_valHi, fkey_valHi]; omega
  rw [soValue_setV]
  simp only [soValue, rd_wr_other _ _ hlolo, rd_wr_other _ _ hlohi, rd_wr_other _ _ hhilo, rd_wr_other _ _ hhihi]

theorem soDo_value_same (sop a0 a1 : Nat) (hn : n < 8192) :
    soValue (soDo s n sop a0 a1) n = (soApply s n sop a0 a1).1 % 2 ^ 64 :=
  (soValue_genUp s _ hn).trans (soValue_setV_same _)

theorem soDo_value_other (sop a0 a1 : Nat) (hk : k < 8192) (h : k ≠ n) :
    soValue (soDo s n sop a0 a1) k = soValue s k :=
  (soValue_genUp s _ hk).trans (soValue_setV_other _ h)

/-- What an operation makes of the V of an object that is no BARRIER, before it is cut to 64 bits. -/
theorem soApply_value (sop a0 a1 : Nat) (hty : soType s n ≠ 3) : (soApply s n sop a0 a1).1 % 2 ^ 64 =
    if sop = 1 then (soValue s n + a0) % 2 ^ 64
    else if sop = 2 then (if soValue s n = a1 then a0 else soValue s n) % 2 ^ 64
    else if sop = 5 then (if soType s n = 4 then a0 else soValue s n + a0) % 2 ^ 64
    else soValue s n % 2 ^ 64 := by
  unfold soApply
  split
  case isTrue fetchAdd => exact Nat.mod_mod _ _
  split
  case isTrue compareSwap => rfl
  split
  case isTrue signal =>
    rw [if_neg hty]
    split
    · rfl
    · exact Nat.mod_mod _ _
  case isFalse => rfl

/-- A SIGNAL of a BARRIER. -/
theorem soApply_barrier {a0 a1 c : Nat} (hty : soType s n = 3)
    (hc : c = min (soValue s n % 2 ^ 32 + a0 % 2 ^ 32) (2 ^ 32 - 1)) :
    soApply s n 5 a0 a1 = if s.rd F.WEL_SO_TARGET n ≠ 0 ∧ s.rd F.WEL_SO_TARGET n ≤ c then
      ((soValue s n / 2 ^ 32 + 1) % 2 ^ 32 * 2 ^ 32, true) else (soValue s n / 2 ^ 32 * 2 ^ 32 + c, false) := by
  subst hc
  rw [soApply, if_neg (by decide), if_neg (by decide), if_pos rfl, if_pos hty]

end Values

/-! ## The obligation -/

/-- Settles O60: the value that an operation applies is what `setV` leaves, and nothing else of it reaches an object's value. -/
theorem syncValues : Obligations.SyncValues := by
  unfold Obligations.SyncValues
  refine ⟨?same, ?other, ?barrier⟩
  case same =>
    intro s n sop a0 a1 hn hty
    rw [soDo_value_same sop a0 a1 hn, soApply_value sop a0 a1 hty]
  case other =>
    intro s n k sop a0 a1 _ hk hne _
    exact soDo_value_other sop a0 a1 hk hne
  case barrier =>
    intro s n a0 a1 c hty hc
    exact soApply_barrier hty hc

end Sys2Proof.Machine
end

section
/-! PROOFS. Whole lines of the pool (09 R250 to R252): lines in service that no mirror window covers are stored as their bytes, and
a clean read gives them back. -/

namespace Sys2Proof.Machine

open Sys2Proof

/-! ## Runs of bytes -/

theorem memWrite_append (s : State) (p : Nat) (a b : List Byte) :
    memWrite s p (a ++ b) = memWrite (memWrite s p a) (p + a.length) b := by
  induction a generalizing s p with
  | nil => rfl
  | cons x xs ih =>
    rw [List.cons_append, memWrite, ih, memWrite, List.length_cons, Nat.add_right_comm, Nat.add_assoc]

theorem memBytes_length (s : State) (p n : Nat) : (memBytes s p n).length = n := by
  rw [memBytes, List.length_map, List.length_range]

theorem memBytes_add (s : State) (p a b : Nat) : memBytes s p (a + b) = memBytes s p a ++ memBytes s (p + a) b := by
  simp only [memBytes, List.range_add, List.map_append, List.map_map, Function.comp_def, Nat.add_assoc]

/-- A run of stored bytes reads back whole. -/
theorem memBytes_memWrite (s : State) (p : Nat) (d : List Byte) : memBytes (memWrite s p d) p d.length = d := by
  refine List.ext_getElem (memBytes_length _ _ _) fun i _ hi => ?_
  simp only [memBytes, List.getElem_map, List.getElem_range]
  rw [memByte_memWrite, if_pos ⟨Nat.le_add_right p i, Nat.add_lt_add_left hi p⟩, Nat.add_sub_cancel_left,
    List.getD_eq_getElem _ _ hi]

/-! ## One line -/

/-- A line whose device is in service and that no running window covers. -/
def plainLine (s : State) (l : Nat) : Prop := winOf s l = none ∧ devOut s (devOf s l) = false

section Line

variable {s t : State} {l : Nat}

theorem winOf_of_regs (h : t.regs = s.regs) : winOf t l = winOf s l := by
  cases s; cases t; cases h; rfl

theorem devOf_of_regs (h : t.regs = s.regs) : devOf t l = devOf s l := by
  cases s; cases t; cases h; rfl

theorem devOut_of_regs {d : Nat} (h : t.regs = s.regs) : devOut t d = devOut s d := by
  cases s; cases t; cases h; rfl

/-- Whether a line is plain is read from registers. -/
theorem plainLine_of_regs (h : t.regs = s.regs) (hl : plainLine s l) : plainLine t l := by
  rwa [plainLine, winOf_of_regs h, devOf_of_regs h, devOut_of_regs h]

theorem writeLine_plain (hl : plainLine s l) (d : List Byte) : writeLine s l d = memWrite s l d := by
  obtain ⟨hwin, hdev⟩ := hl
  simp only [writeLine, hwin, hdev, Bool.false_eq_true, if_false]

/-- A line without an event reads as its bytes and changes nothing. -/
theorem readLine_plain (hl : plainLine s l) : readLine s [] l = ((0, memBytes s l 64), s) := by
  obtain ⟨-, hdev⟩ := hl
  simp [readLine, lineEv, corrected, hdev]

end Line

/-! ## A range of lines -/

/-- The lines of a range of whole lines, by their number. -/
theorem linesOf_whole {p : Nat} (hp : p % 64 = 0) (k : Nat) : linesOf p (64 * k) = List.range' p k 64 := by
  cases k with
  | zero => rfl
  | succ k =>
    have hcount : (p + 64 * (k + 1) - 1) / 64 - p / 64 + 1 = k + 1 := by omega
    have hfirst : p / 64 * 64 = p := by omega
    rw [linesOf, if_neg (by omega), hcount, hfirst]
    exact List.ext_getElem (by simp) fun i _ _ => by simp

section Range

variable {s : State} {p k : Nat}

theorem plainLines_head (h : ∀ l ∈ List.range' p (k + 1) 64, plainLine s l) : plainLine s p :=
  h p (by simp [List.range'_succ])

theorem plainLines_tail (h : ∀ l ∈ List.range' p (k + 1) 64, plainLine s l) :
    ∀ l ∈ List.range' (p + 64) k 64, plainLine s l :=
  fun l hl => h l (by simp [List.range'_succ, hl])

/-- Writing plain lines stores their bytes one after the other. -/
theorem writeLines_plain {d : List Byte} (h : ∀ l ∈ List.range' p k 64, plainLine s l) (hd : d.length = 64 * k) :
    writeLines (List.range' p k 64) d s = memWrite s p d := by
  induction k generalizing s p d with
  | zero =>
    obtain rfl : d = [] := List.eq_nil_of_length_eq_zero hd
    rfl
  | succ k ih =>
    have htake : (d.take 64).length = 64 := by rw [List.length_take]; omega
    have hdrop : (d.drop 64).length = 64 * k := by rw [List.length_drop]; omega
    have hrest : ∀ l ∈ List.range' (p + 64) k 64, plainLine (memWrite s p (d.take 64)) l := fun l hl =>
      plainLine_of_regs (memWrite_regs _ _ _) (plainLines_tail h l hl)
    calc writeLines (List.range' p (k + 1) 64) d s
        = writeLines (List.range' (p + 64) k 64) (d.drop 64) (memWrite s p (d.take 64)) := by
          rw [List.range'_succ, writeLines, writeLine_plain (plainLines_head h)]
      _ = memWrite (memWrite s p (d.take 64)) (p + 64) (d.drop 64) := ih hrest hdrop
      _ = memWrite s p d := by
          have happend := memWrite_append s p (d.take 64) (d.drop 64)
          rw [List.take_append_drop, htake] at happend
          exact happend.symm

/-- A clean read of plain lines gives their bytes and changes nothing. -/
theorem readLines_plain (h : ∀ l ∈ List.range' p k 64, plainLine s l) :
    readLines [] (List.range' p k 64) s = ((0, 0, memBytes s p (64 * k)), s) := by
  induction k generalizing p with
  | zero => rfl
  | succ k ih =>
    have hbytes : memBytes s p (64 * (k + 1)) = memBytes s p 64 ++ memBytes s (p + 64) (64 * k) := by
      rw [← memBytes_add, Nat.mul_succ, Nat.add_comm]
    simp only [List.range'_succ, readLines, readLine_plain (plainLines_head h), ih (plainLines_tail h), hbytes, ne_eq,
      not_true_eq_false, if_false]

end Range

/-! ## The obligation -/

/-- Settles O54: by induction on the number of lines a write of plain lines is a write of their bytes, and a clean read of
them reads those bytes. -/
theorem storedLines : Obligations.StoredLines := by
  unfold Obligations.StoredLines
  intro s t p n d hp hn hd hplain ht
  obtain ⟨k, rfl⟩ : ∃ k, n = 64 * k := ⟨n / 64, by omega⟩
  rw [linesOf_whole hp] at hplain ht ⊢
  have hstored : t = memWrite s p d := ht.trans (writeLines_plain hplain hd)
  have hplain' : ∀ l ∈ List.range' p k 64, plainLine t l := by
    rw [hstored]
    exact fun l hl => plainLine_of_regs (memWrite_regs _ _ _) (hplain l hl)
  refine ⟨fun a => ?bytes, ?regs, ?well, ?reads⟩
  case bytes => rw [hstored, memByte_memWrite, hd]
  case regs => rw [hstored, memWrite_regs]
  case well => rw [hstored, memWrite_well]
  case reads => rw [readLines_plain hplain', ← hd, hstored, memBytes_memWrite]

end Sys2Proof.Machine
end

section
/-! PROOFS. Rooms (10 R282 to R292): the rows answer their operation's next state where the station holds the packet, the core runs
or the write is taken; a room write and a room read are judged by R283's checks in their order; heartbeats. -/

namespace Sys2Proof.Machine

open Sys2Proof

/-! ## The rows of rooms -/

section Rows

variable {s u : State} {p : StPkt} {bad : Option Nat} {at_ : Nat} {m : Master} {i val be : Nat}

theorem exec_roomSnap_at (hu : u = s.advance at_) (hst : stationHas u p 0x40 = true) :
    exec (.roomSnap p bad at_) s = .next (finish u (roomWrite u p true bad)) := by
  rw [exec_roomSnap]
  exact atTime_stationRow (f := fun s => roomWrite s p true bad) hu hst

theorem exec_roomJrnl_at (hu : u = s.advance at_) (hst : stationHas u p 0x41 = true) :
    exec (.roomJrnl p bad at_) s = .next (finish u (roomWrite u p false bad)) := by
  rw [exec_roomJrnl]
  exact atTime_stationRow (f := fun s => roomWrite s p false bad) hu hst

theorem exec_roomRead_at (hu : u = s.advance at_) (hst : stationHas u p 0x42 = true) :
    exec (.roomRead p at_) s = .next (finish u (roomRead u p)) := by
  rw [exec_roomRead]
  exact atTime_stationRow (f := fun s => roomRead s p) hu hst

theorem exec_heartbeatCheck_run (hu : u = s.advance at_) (hrun : coreRuns u = true) :
    exec (.heartbeatCheck at_) s = .next (finish u (heartbeatCheck u)) := by
  rw [exec_heartbeatCheck]
  exact atTime_whenCore (f := heartbeatCheck) hu rfl hrun

theorem exec_hbLateClear_taken (hval : val < 2 ^ 32) (hbe : beOk m be = true)
    (h : takesWrite s m .RMS_HB_LATE i 0 = true) :
    exec (.hbLateClear m i val be) s = .next (finish s (lateClear (wrote s m .RMS_HB_LATE i 0) m i val be)) := by
  rw [exec_hbLateClear]
  exact atNow_rowWrite (f := fun s => lateClear s m i val be)
    (by simp only [takesWrite_ok h, hval, hbe, decide_true, Bool.and_self]) h

end Rows

/-! ## How a room write is judged (R283, R284) -/

/-- An admitted write of the room raises OPEN_HIGH to its last line and joins the queue at pool address `addr`. -/
def roomWriteAdmitted (d : State) (p : StPkt) (addr : Nat) : State :=
  admitReq (d.wr F.RMS_ROOM_OPEN_HIGH (roomOf p.hdr)
      (max (d.rd F.RMS_ROOM_OPEN_HIGH (roomOf p.hdr)) ((p.hdr.opw2 * 64 + p.hdr.len) / 64)))
    .roomWrite addr p.hdr.len p.data [] p.hdr p.arr

/-- The generation's writing is open with a kind (1 a snapshot, 2 the journal), nothing written beyond line `low`. -/
def roomOpened (d : State) (r kind low : Nat) : State :=
  (d.wr F.RMS_ROOM_OPEN_KIND r kind).wr F.RMS_ROOM_OPEN_HIGH r low

/-- The checks in their order on the state `c`, their refusal or the admission on the counted state `d`, for a write of a kind to
the area of `size` bytes at `base`, of which the lines below `low` are committed. -/
def roomWriteJudged (c d : State) (p : StPkt) (kind low base size : Nat) (bad : Option Nat) : State :=
  if c.well.poolUntil.isSome = true then roomRefuse c p.hdr 0x0D false
  else if roomCode c p.hdr false ≠ 0 then roomRefuse c p.hdr (roomCode c p.hdr false) false
  else if p.hdr.opw1 ≠ nextGen c (roomOf p.hdr) ∨ c.rd F.RMS_ROOM_OPEN_KIND (roomOf p.hdr) ≠ 0 ∧
      c.rd F.RMS_ROOM_OPEN_KIND (roomOf p.hdr) ≠ kind then roomRefuse c p.hdr 0x12 false
  else if p.hdr.len % 64 ≠ 0 ∨ size < p.hdr.opw2 * 64 + p.hdr.len ∨ p.hdr.opw2 < low then roomRefuse c p.hdr 0x14 false
  else if bad.isSome = true then
    roomRefuse (d.report 7 6 (base + p.hdr.opw2 * 64 + 64 * bad.getD 0)) p.hdr 8 false
  else if ((linesOf (base + p.hdr.opw2 * 64) p.hdr.len).any fun l => unserved c l true) = true then
    roomRefuse d p.hdr 7 false
  else if c.rd F.RMS_ROOM_OPEN_KIND (roomOf p.hdr) = 0 then
    roomWriteAdmitted (roomOpened d (roomOf p.hdr) kind low) p (base + p.hdr.opw2 * 64)
  else roomWriteAdmitted d p (base + p.hdr.opw2 * 64)

section Judged

variable {s c d : State} {p : StPkt} {base size : Nat} {bad : Option Nat}

/-- A snapshot is written to the slot that is not the base's, from its first line. -/
theorem roomWrite_snap (hc : c = takeStation s p)
    (harea : (base, size) = areaOf c (roomOf p.hdr) (bits p.hdr.opw0 31 1) (1 - c.rd F.RMS_ROOM_BSLOT (roomOf p.hdr)))
    (hd : d = roomCount c p (base + p.hdr.opw2 * 64) p.hdr.len) :
    roomWrite s p true bad = roomWriteJudged c d p 1 0 base size bad := by
  subst hc hd
  by_cases hopen : (takeStation s p).rd F.RMS_ROOM_OPEN_KIND (roomOf p.hdr) = 0 <;>
    simp [roomWrite, roomWriteJudged, roomWriteAdmitted, roomOpened, ← harea, hopen]

/-- The journal is written behind its committed lines. -/
theorem roomWrite_jrnl (hc : c = takeStation s p)
    (harea : (base, size) = areaOf c (roomOf p.hdr) (bits p.hdr.opw0 31 1) 2)
    (hd : d = roomCount c p (base + p.hdr.opw2 * 64) p.hdr.len) :
    roomWrite s p false bad =
      roomWriteJudged c d p 2 (c.rd F.RMS_ROOM_JCMT (roomOf p.hdr)) base size bad := by
  subst hc hd
  by_cases hopen : (takeStation s p).rd F.RMS_ROOM_OPEN_KIND (roomOf p.hdr) = 0 <;>
    simp [roomWrite, roomWriteJudged, roomWriteAdmitted, roomOpened, ← harea, hopen]

end Judged

/-! ## Heartbeats (R292) -/

/-- While the watch is on, each room on and not yet late whose heartbeat stands still is marked and reported. -/
theorem heartbeatCheck_watching {s : State} (hen : s.flag F.RMS_HB_CFG_EN = true) (hmiss : s.rd0 F.RMS_HB_CFG_MISS ≠ 0)
    (hivl : s.rd0 F.RMS_HB_CFG_IVL ≠ 0) :
    heartbeatCheck s = ((List.range 128).filter fun r => roomOn s r && !roomLate s r && heartStill s r).foldl (fun s r =>
      (s.wr F.RMS_HB_LATE_LATE (r / 32) (putBits (s.rd F.RMS_HB_LATE_LATE (r / 32)) (r % 32) 1 1)).report 8 1 r) s :=
  if_neg (by simp [hen, hmiss, hivl])

/-! ## The obligation -/

/-- Settles O20: each row answers its operation's next state, room writes and reads are judged by R283's checks, and heartbeats
are watched as R292 says. -/
theorem rooms : Obligations.Rooms := by
  unfold Obligations.Rooms
  refine ⟨?stationRows, ?heartbeatRow, ?lateRow, ?snap, ?jrnl, ?read, ?heartbeat, ?late⟩
  case stationRows =>
    intro s u p bad at_ hu
    exact ⟨exec_roomSnap_at hu, exec_roomJrnl_at hu, exec_roomRead_at hu⟩
  case heartbeatRow =>
    intro s u at_ hu hrun
    exact exec_heartbeatCheck_run hu hrun
  case lateRow =>
    intro s m i val be hval hbe htakes
    exact exec_hbLateClear_taken hval hbe htakes
  case snap =>
    intro s u c d p at_ r base size off bad hu hst hc hr harea hoff hd
    subst hr hoff
    rw [exec_roomSnap_at hu hst, roomWrite_snap hc harea hd]
    simp only [roomWriteJudged, roomWriteAdmitted, roomOpened, Nat.not_lt_zero, or_false]
  case jrnl =>
    intro s u c d e p at_ r base size off bad hu hst hc hr harea hoff hd he
    subst hr hoff
    have hopened : roomOpened d (roomOf p.hdr) 2 (c.rd F.RMS_ROOM_JCMT (roomOf p.hdr)) = e := he.symm
    rw [exec_roomJrnl_at hu hst, roomWrite_jrnl hc harea hd]
    simp only [roomWriteJudged, roomWriteAdmitted, hopened]
  case read =>
    intro s u c d p at_ r base size off n lim k hu hst hc hr hk harea hoff hn hlim hd
    subst hr hk hoff hn hlim hd hc
    rw [exec_roomRead_at hu hst]
    simp only [roomRead, ← harea, gt_iff_lt]
  case heartbeat =>
    intro s u at_ hu hrun hen hmiss hivl
    rw [exec_heartbeatCheck_run hu hrun, heartbeatCheck_watching hen hmiss hivl]
  case late =>
    intro s c m i val be _ hval hbe htakes hc
    rw [exec_hbLateClear_taken hval hbe htakes, ← hc, lateClear]

end Sys2Proof.Machine
end

section
/-! PROOFS. Blocks, link control words and replay (11 R301 to R310): the rows answer their operation's next state wherever the
link runs; a received block or codeword, the link control word both ways, and the replay timer. -/

namespace Sys2Proof.Machine

open Sys2Proof

/-! ## The rows of blocks and link control words -/

section Rows

variable {s u : State} {lp at_ : Nat} {b : RxBlock}

theorem exec_linkBlockReceive_run (hu : u = s.advance at_) (hrun : linkRuns u = true) (hlp : lp < 160) (hok : b.ok = true) :
    exec (.linkBlockReceive lp b at_) s = .next (finish u (settleSwitch (blockReceive u lp b))) := by
  rw [exec_linkBlockReceive]
  exact atTime_whenLink (f := fun s => settleSwitch (blockReceive s lp b)) hu (by simp [hlp, hok]) hrun

theorem exec_lcwBuild_run (hu : u = s.advance at_) (hrun : linkRuns u = true) (hlp : lp < 160) :
    exec (.lcwBuild lp at_) s = .next (finish u (settleSwitch (lcwBuild u lp))) := by
  rw [exec_lcwBuild]
  exact atTime_whenLink (f := fun s => settleSwitch (lcwBuild s lp)) hu (decide_eq_true hlp) hrun

theorem exec_lcwReceive_run (hu : u = s.advance at_) (hrun : linkRuns u = true) (hlp : lp < 160) :
    exec (.lcwReceive lp at_) s = .next (finish u (settleSwitch (lcwReceive u lp))) := by
  rw [exec_lcwReceive]
  exact atTime_whenLink (f := fun s => settleSwitch (lcwReceive s lp)) hu (decide_eq_true hlp) hrun

theorem exec_replayTimeout_run (hu : u = s.advance at_) (hrun : linkRuns u = true) (hlp : lp < 160) :
    exec (.replayTimeout lp at_) s = .next (finish u (settleSwitch (replayTimeout u lp))) := by
  rw [exec_replayTimeout]
  exact atTime_whenLink (f := fun s => settleSwitch (replayTimeout s lp)) hu (decide_eq_true hlp) hrun

end Rows

/-! ## A block that arrives (R305 to R307) -/

section Blocks

variable {s d : State} {lp pos : Nat} {b : RxBlock} {ys : List Nat}

theorem fecCounts_nil (s : State) (lp : Nat) : fecCounts s lp [] = s := rfl

/-- Blocks flow from stage 8 to stage 10. -/
theorem blocksFlow_iff : blocksFlow s lp = true ↔ 8 ≤ s.stage lp ∧ s.stage lp ≤ 10 := by simp [blocksFlow]

/-- On a link not stopped, with no FEC errors, a block is put together with no uncorrectable word. -/
theorem blockReceive_block (hcode : b.code = none) (hflow : blocksFlow s lp = true) (hopen : (getLink s lp).stopped = false)
    (hfec : b.fec = []) : blockReceive s lp b = takeBlock s lp b false := by
  simp [blockReceive, hcode, hflow, hopen, hfec, fecCounts_nil]

theorem takeBlock_good
    (hd : d = setLink s lp (gatherLcw (getLink s lp) b.lcw (b.crc == blockCrc (getLink s lp).rxSeq b.slots b.lcw)))
    (hcrc : b.crc = blockCrc (getLink s lp).rxSeq b.slots b.lcw) :
    takeBlock s lp b false = (b.slots.zipIdx.filter fun x => !x.1.isIdle).foldl (fun s x =>
        receiveCell (modLink s lp fun k => { k with grant := mset 0 k.grant x.1.vc (mgetD k.grant x.1.vc 0 - 1) }) lp x.1
          (b.par.contains x.2))
      (modLink d lp fun k => { k with rxSeq := (k.rxSeq + 1) % 4096, replayWait := false, nak := false }) := by
  subst hd
  rw [← beq_iff_eq] at hcrc
  simp only [takeBlock, hcrc, Bool.not_false, Bool.and_self, if_true]

/-- A block whose CRC fails is counted and starts the wait for replay; within that wait it is left. -/
theorem takeBlock_bad
    (hd : d = setLink s lp (gatherLcw (getLink s lp) b.lcw (b.crc == blockCrc (getLink s lp).rxSeq b.slots b.lcw)))
    (hcrc : b.crc ≠ blockCrc (getLink s lp).rxSeq b.slots b.lcw) :
    takeBlock s lp b false = if (getLink s lp).replayWait = true then d
      else modLink (d.bump F.PRT_LERR_BAD_BLOCKS lp) lp fun k => { k with replayWait := true, nak := true } := by
  subst hd
  rw [← beq_eq_false_iff_ne] at hcrc
  simp only [takeBlock, hcrc, Bool.and_false, Bool.false_eq_true, if_false]

/-! A codeword on a lane: sent back by a loopback slave, kept for its last level before blocks flow, else recovered. -/

theorem blockReceive_code_slave (hcode : b.code = some (pos, ys)) (hslave : s.flag F.PRT_LSTAT_LOOP_SLAVE lp = true) :
    blockReceive s lp b = s.emit (.levels (laneAt s lp pos) ys) := by
  simp only [blockReceive, hcode, hslave, if_true]

theorem blockReceive_code_locking (hcode : b.code = some (pos, ys)) (hslave : s.flag F.PRT_LSTAT_LOOP_SLAVE lp = false)
    (hst : s.stage lp = 6 ∨ s.stage lp = 7) :
    blockReceive s lp b = modLane s (laneAt s lp pos) fun x => { x with rxPrev := ys.getLastD 0 } := by
  simp only [blockReceive, hcode, hslave, Bool.false_eq_true, if_false, if_pos hst]

theorem blockReceive_code_flowing (hcode : b.code = some (pos, ys)) (hslave : s.flag F.PRT_LSTAT_LOOP_SLAVE lp = false)
    (hflow : blocksFlow s lp = true) (hopen : (getLink s lp).stopped = false) (hfec : b.fec = []) :
    blockReceive s lp b = codeReceive s lp pos ys false b.par := by
  have hst : ¬(s.stage lp = 6 ∨ s.stage lp = 7) := by have := blocksFlow_iff.mp hflow; omega
  simp [blockReceive, hcode, hslave, hst, hflow, hopen, hfec, fecCounts_nil]

end Blocks

/-! ## The link control word (R306, R307, R310) -/

section ControlWord

variable {s d : State} {lp w : Nat}

theorem lcwBuild_run_starts (hflow : blocksFlow s lp = true) (hawake : s.flag F.PRT_LSTAT_EIDLE_TX lp = false)
    (hstart : (getLink s lp).txCount % 32 = 0) (hnew : (getLink s lp).lcwRun ≠ some (getLink s lp).txCount) :
    lcwBuild s lp = buildLcw s lp := if_pos ⟨hflow, hawake, hstart, hnew⟩

/-- The early half acknowledges blocks, and with its NAK bit starts the replay. -/
theorem lcwReceive_early (hearly : (getLink s lp).rxEarly = some w) (hready : (getLink s lp).rxReady = none)
    (hd : d = takeAck (modLink s lp fun k => { k with rxEarly := none }) lp (w % 4096)) :
    lcwReceive s lp = if bitAt w 12 = true then replay d lp else d := by
  subst hd
  simp only [lcwReceive, hearly, hready]

/-- The whole word gives the limits of its kind, and the second kind takes a link at stage 8 that is not stopped to IDENT. -/
theorem lcwReceive_whole (hearly : (getLink s lp).rxEarly = none) (hready : (getLink s lp).rxReady = some w)
    (hflow : blocksFlow s lp = true)
    (hd : d = [0, 1, 2, 3].foldl (fun s i => touchElig s lp (4 * bits w 13 1 + i)) (modLink s lp fun k => { k with
      rxReady := none
      limIn := [0, 1, 2, 3].foldl (fun m i => mset 0 m (4 * bits w 13 1 + i) (bits w (14 + 12 * i) 12)) (getLink s lp).limIn
      rxKinds := Nat.lor (getLink s lp).rxKinds (2 ^ bits w 13 1) })) :
    lcwReceive s lp = if d.stage lp = 8 ∧ Nat.lor (getLink s lp).rxKinds (2 ^ bits w 13 1) = 3 ∧
      (getLink d lp).stopped = false then enterStage d lp 9 else d := by
  subst hd
  simp only [lcwReceive, hearly, hready, hflow, Bool.not_true, Bool.false_eq_true, if_false]

end ControlWord

/-! ## The replay timer (R307, R308) -/

section Replay

variable {s : State} {lp n lim : Nat} {b : TxBlock} {bs : List TxBlock}

theorem replayTimeout_due (hto : s.rd F.PRT_LINK_CFG_REPLAY_TO (lp / 2) ≠ 0) (hretry : (getLink s lp).retry = b :: bs)
    (hflow : blocksFlow s lp = true) (hdue : (getLink s lp).ackAt + 100 * s.rd F.PRT_LINK_CFG_REPLAY_TO (lp / 2) ≤ s.now) :
    replayTimeout s lp = replay s lp := if_pos ⟨hto, by simp [hretry], hflow, hdue⟩

theorem replay_limit_reached (hretry : (getLink s lp).retry = b :: bs) (hwhole : (getLink s lp).restripe = false)
    (hn : n = if (getLink s lp).resends ≠ 0 ∧ (getLink s lp).resendSeq = b.seq then (getLink s lp).resends else 0)
    (hlim : lim = s.rd F.PRT_LINK_CFG_REPLAY_MAX (lp / 2)) (hset : lim ≠ 0) (hmax : lim ≤ n) (hup : s.linkUp lp = true) :
    replay s lp = linkDown s lp 2 := by
  have hreached : lim ≠ 0 ∧ n ≥ lim ∧ s.linkUp lp = true := ⟨hset, hmax, hup⟩
  simp only [replay, hretry, hwhole, ← hn, ← hlim, Bool.false_eq_true, if_false, if_pos hreached]

/-- With no block in progress every block not acknowledged goes out again at once. -/
theorem replay_resends (hretry : (getLink s lp).retry = b :: bs) (hwhole : (getLink s lp).restripe = false)
    (hn : n = if (getLink s lp).resends ≠ 0 ∧ (getLink s lp).resendSeq = b.seq then (getLink s lp).resends else 0)
    (hlim : lim = s.rd F.PRT_LINK_CFG_REPLAY_MAX (lp / 2)) (hbelow : lim = 0 ∨ n < lim ∨ s.linkUp lp = false)
    (hslots : (getLink s lp).txSlots = []) :
    replay s lp = resendAll (linkFault ((modLink s lp fun k =>
      { k with resends := n + 1, resendSeq := b.seq, ackAt := s.now, again := false }).bump F.PRT_LERR_REPLAYS lp) lp 0x32) lp := by
  have hnot : ¬(lim ≠ 0 ∧ n ≥ lim ∧ s.linkUp lp = true) := by
    rintro ⟨hset, hmax, hup⟩
    rcases hbelow with hzero | hless | hdown
    · exact hset hzero
    · exact hmax.not_gt hless
    · simp [hdown] at hup
  simp only [replay, hretry, hwhole, ← hn, ← hlim, Bool.false_eq_true, if_false, if_neg hnot, modLink, hslots,
    List.isEmpty_nil, Bool.not_true, if_true]

end Replay

/-! ## The obligation -/

/-- Settles O21: each row answers its operation's next state, and blocks, codewords, link control words and the replay timer go
as R301 to R310 say. -/
theorem linkBlocks : Obligations.LinkBlocks := by
  unfold Obligations.LinkBlocks
  refine ⟨?rows, ?block, ?codeword, ?build, ?early, ?whole, ?timer⟩
  case rows =>
    intro s u lp at_ b hu hrun hlp hok
    exact ⟨exec_linkBlockReceive_run hu hrun hlp hok, exec_lcwBuild_run hu hrun hlp, exec_lcwReceive_run hu hrun hlp,
      exec_replayTimeout_run hu hrun hlp⟩
  case block =>
    intro s u d lp at_ b hu hrun hlp hok hcode hflow hopen hfec hd
    rw [exec_linkBlockReceive_run hu hrun hlp hok, blockReceive_block hcode hflow hopen hfec]
    refine ⟨fun hcrc => ?good, fun hcrc hwait => ?bad, fun hcrc hwait => ?waiting⟩
    case good => rw [takeBlock_good hd hcrc]
    case bad => rw [takeBlock_bad hd hcrc, if_neg (ne_true_of_eq_false hwait)]
    case waiting => rw [takeBlock_bad hd hcrc, if_pos hwait]
  case codeword =>
    intro s u lp at_ pos ys b hu hrun hlp hok hcode
    rw [exec_linkBlockReceive_run hu hrun hlp hok]
    refine ⟨fun hslave => ?slave, fun hslave hst => ?locking, fun hslave hflow hopen hfec => ?flowing⟩
    case slave => rw [blockReceive_code_slave hcode hslave]
    case locking => rw [blockReceive_code_locking hcode hslave hst]
    case flowing => rw [blockReceive_code_flowing hcode hslave hflow hopen hfec]
  case build =>
    intro s u lp at_ hu hrun hlp hflow hawake hstart hnew
    rw [exec_lcwBuild_run hu hrun hlp, lcwBuild_run_starts hflow hawake hstart hnew]
  case early =>
    intro s u d lp at_ w hu hrun hlp hearly hready hd
    rw [exec_lcwReceive_run hu hrun hlp, lcwReceive_early hearly hready hd]
    refine ⟨fun hack => ?_, fun hnak => ?_⟩
    · rw [if_neg (ne_true_of_eq_false hack)]
    · rw [if_pos hnak]
  case whole =>
    intro s u d lp at_ w hu hrun hlp hflow hearly hready hd
    rw [exec_lcwReceive_run hu hrun hlp, lcwReceive_whole hearly hready hflow hd]
    refine ⟨fun hst => ?_, fun hst hkinds hopen => ?_⟩
    · rw [if_neg fun h => hst h.1]
    · rw [if_pos ⟨hst, hkinds, hopen⟩]
  case timer =>
    intro s u lp at_ n lim b bs hu hrun hlp hto hretry hflow hdue hwhole hn hlim
    rw [exec_replayTimeout_run hu hrun hlp, replayTimeout_due hto hretry hflow hdue]
    refine ⟨fun hset hmax hup => ?limit, fun hbelow hslots => ?resent⟩
    case limit => rw [replay_limit_reached hretry hwhole hn hlim hset hmax hup]
    case resent => rw [replay_resends hretry hwhole hn hlim hbelow hslots]

end Sys2Proof.Machine
end

section
/-! PROOFS. Bring-up and IDENT (11 R313 to R319): the rows answer their operation's next state wherever the link runs; training
frames, the ends and limits of the stages, retries, and the partner's identity. -/

namespace Sys2Proof.Machine

open Sys2Proof

/-! ## The rows of bring-up -/

section Rows

variable {s u : State} {lp pos at_ ready bad frame : Nat} {p : StPkt}

theorem exec_trainingFrameReceive_run (hu : u = s.advance at_) (hrun : linkRuns u = true) (hlp : lp < 160) (hpos : pos < 8) :
    exec (.trainingFrameReceive lp pos frame at_) s =
      .next (finish u (settleSwitch (trainingFrame u lp pos frame))) := by
  rw [exec_trainingFrameReceive]
  exact atTime_whenLink (f := fun s => settleSwitch (trainingFrame s lp pos frame)) hu (by simp [hlp, hpos]) hrun

theorem exec_eqDone_run (hu : u = s.advance at_) (hrun : linkRuns u = true) (hlp : lp < 160) :
    exec (.eqDone lp ready at_) s = .next (finish u (settleSwitch (eqDone u lp ready))) := by
  rw [exec_eqDone]
  exact atTime_whenLink (f := fun s => settleSwitch (eqDone s lp ready)) hu (decide_eq_true hlp) hrun

theorem exec_fecLockDone_run (hu : u = s.advance at_) (hrun : linkRuns u = true) (hlp : lp < 160) :
    exec (.fecLockDone lp bad at_) s = .next (finish u (settleSwitch (fecLockDone u lp bad))) := by
  rw [exec_fecLockDone]
  exact atTime_whenLink (f := fun s => settleSwitch (fecLockDone s lp bad)) hu (decide_eq_true hlp) hrun

theorem exec_deskewDone_run (hu : u = s.advance at_) (hrun : linkRuns u = true) (hlp : lp < 160) :
    exec (.deskewDone lp bad at_) s = .next (finish u (settleSwitch (deskewDone u lp bad))) := by
  rw [exec_deskewDone]
  exact atTime_whenLink (f := fun s => settleSwitch (deskewDone s lp bad)) hu (decide_eq_true hlp) hrun

theorem exec_bringupStageTimeout_run (hu : u = s.advance at_) (hrun : linkRuns u = true) (hlp : lp < 160) :
    exec (.bringupStageTimeout lp at_) s = .next (finish u (settleSwitch (stageTimeout u lp))) := by
  rw [exec_bringupStageTimeout]
  exact atTime_whenLink (f := fun s => settleSwitch (stageTimeout s lp)) hu (decide_eq_true hlp) hrun

theorem exec_bringupRetry_run (hu : u = s.advance at_) (hrun : linkRuns u = true) (hlp : lp < 160) :
    exec (.bringupRetry lp at_) s = .next (finish u (settleSwitch (bringupRetry u lp))) := by
  rw [exec_bringupRetry]
  exact atTime_whenLink (f := fun s => settleSwitch (bringupRetry s lp)) hu (decide_eq_true hlp) hrun

theorem exec_identSend_run (hu : u = s.advance at_) (hrun : linkRuns u = true) (hlp : lp < 160) :
    exec (.identSend lp at_) s = .next (finish u (settleSwitch (identSend u lp))) := by
  rw [exec_identSend]
  exact atTime_whenLink (f := fun s => settleSwitch (identSend s lp)) hu (decide_eq_true hlp) hrun

theorem exec_ident_run (hu : u = s.advance at_) (hrun : linkRuns u = true) (harr : p.arr ≤ 161) :
    exec (.ident p at_) s = .next (finish u (settleSwitch (identReceive u p))) := by
  rw [exec_ident]
  exact atTime_whenLink (f := fun s => settleSwitch (identReceive s p)) hu (decide_eq_true harr) hrun

end Rows

/-! ## A training frame on a lane that takes part (R314, R315) -/

section Frames

variable {s d : State} {lp pos l v x : Nat}

theorem trainingFrame_slave (hlink : s.lpExists lp = true) (hpos : pos < linkWidth s lp) (hl : l = laneAt s lp pos)
    (hin : (getLane s l).excluded = false) (hslave : s.flag F.PRT_LSTAT_LOOP_SLAVE lp = true) :
    trainingFrame s lp pos v = s.emit (.echo l v) := by
  subst hl
  simp [trainingFrame, hlink, hpos, hin, hslave]

theorem trainingFrame_illegible (hlink : s.lpExists lp = true) (hpos : pos < linkWidth s lp) (hl : l = laneAt s lp pos)
    (hin : (getLane s l).excluded = false) (hown : s.flag F.PRT_LSTAT_LOOP_SLAVE lp = false) (hst : s.stage lp = 1)
    (hread : readFrame v (s.flag F.LNK_STAT_POL_INV l) = none) :
    trainingFrame s lp pos v = modLane s l fun x => { x with good := 0 } := by
  subst hl
  simp [trainingFrame, hlink, hpos, hin, hown, hst, hread]

/-- Outside stage 2, where a lane's polarity is settled, a legible frame that asks for no loopback takes a link that is up down,
acts in its stage in bring-up, and is left where a retry waits. -/
theorem trainingFrame_legible (hlink : s.lpExists lp = true) (hpos : pos < linkWidth s lp) (hl : l = laneAt s lp pos)
    (hin : (getLane s l).excluded = false) (hown : s.flag F.PRT_LSTAT_LOOP_SLAVE lp = false)
    (hread : readFrame v (s.flag F.LNK_STAT_POL_INV l) = some x) (hloop : bits x 32 2 ≠ 1) (hst : s.stage lp ≠ 2) :
    trainingFrame s lp pos v = if s.stage lp = 10 then linkDown s lp 4
      else if 1 ≤ s.stage lp ∧ s.stage lp ≤ 7 ∧ (getLink s lp).retryAt.isNone = true then frameInStage s lp pos x
      else s := by
  subst hl
  have hecho : (bits x 32 2 == 1) = false := beq_eq_false_iff_ne.mpr hloop
  have hflip : (s.stage lp == 2) = false := beq_eq_false_iff_ne.mpr hst
  simp [trainingFrame, hlink, hpos, hin, hown, hread, hecho, hflip]

/-- In stage 1 a frame of the same width locks its lane, and the sixteenth moves the link on. -/
theorem frameInStage_detect (hl : l = laneAt s lp pos) (hst : s.stage lp = 1)
    (hwidth : bits x 44 1 = b2n (s.portMode (lp / 2) == 2))
    (hd : d = modLink ((modLane s l fun y => { y with good := y.good + 1 }).wr F.LNK_STAT_LOCK l 1) lp
      (fun k => { k with peerMask := bits x 35 8 })) :
    frameInStage s lp pos x = if (getLane d l).good ≥ 16 then advanceStage d lp 2 else d := by
  subst hl hd
  simp only [frameInStage, hst, if_true, if_neg (not_not_intro hwidth)]

end Frames

/-! ## The ends and limits of the stages (R311, R314) -/

/-- The link as credit init begins: with fresh credits, nothing of it but its run of failures, its flush, its clocking mode and the
partner's mask kept, and stopped where the credits were refused. -/
def creditInitLink (s c : State) (lp : Nat) (refused : Bool) : Link :=
  { linkInit with
    failRun := (getLink c lp).failRun, flushing := (getLink c lp).flushing, clkMode := (getLink c lp).clkMode
    peerMask := (getLink c lp).peerMask, stopped := refused
    cred := (List.range 8).foldl (fun m v => mset 0 m v (rsvCells s lp v)) []
    flex := (List.range 8).foldl (fun m v => mset 0 m v (flexCells s lp v)) [] }

/-- The lanes that take part are in use, with no words yet either way. -/
def lanesInUse (s : State) (lp : Nat) : State :=
  (liveLanes s lp).foldl (fun s p =>
    modLane (s.wr F.LNK_STAT_IN_USE (laneAt s lp p) 1) (laneAt s lp p) fun x => { x with txWords := [], rxWords := [] }) s

section Stages

variable {s c d e : State} {lp ready bad tx rx t0 : Nat} {refused : Bool}

theorem eqDone_in_eq (hst : s.stage lp = 5) : eqDone s lp ready =
    advanceStage (excludeLanes s lp ((liveLanes s lp).filter fun p => !bitAt ready p)) lp 6 := if_neg (not_not_intro hst)

theorem fecLockDone_in_lock (hst : s.stage lp = 6) : fecLockDone s lp bad =
    advanceStage (excludeLanes s lp ((liveLanes s lp).filter (bitAt bad))) lp 7 := if_neg (not_not_intro hst)

/-- Deskew with too few lanes left in either direction fails the attempt. -/
theorem deskewDone_too_narrow (hst : s.stage lp = 7) (hc : c = excludeLanes s lp ((liveLanes s lp).filter (bitAt bad)))
    (htx : tx = (getLink s lp).peerMask % 2 ^ linkWidth s lp) (hrx : rx = rxMask c lp)
    (hfew : popCount tx < minLanes s lp ∨ popCount rx < minLanes s lp) : deskewDone s lp bad = attemptFail c lp := by
  subst hc htx hrx
  rw [deskewDone, if_neg (not_not_intro hst)]
  exact if_pos hfew

/-- Deskew with lanes enough, in no far-end loop, ends with the masks agreed, fresh credits and blocks flowing. -/
theorem deskewDone_credit_init (hst : s.stage lp = 7) (hc : c = excludeLanes s lp ((liveLanes s lp).filter (bitAt bad)))
    (htx : tx = (getLink s lp).peerMask % 2 ^ linkWidth s lp) (hrx : rx = rxMask c lp)
    (hrefused : refused = (((List.range 8).any fun v => rsvCells s lp v == 0) || decide (bufCells s lp < sumRsv s lp)))
    (hd : d = setLink (setMasks c lp tx rx) lp (creditInitLink s c lp refused))
    (he : e = enterStage (lanesInUse d lp) lp 8) (hmintx : minLanes s lp ≤ popCount tx) (hminrx : minLanes s lp ≤ popCount rx)
    (hloop : s.rd F.PRT_CTRL_LOOP (lp / 2) ≠ 3) :
    deskewDone s lp bad = if refused = true then linkFault e lp 0x36 else e := by
  subst hc htx hrx hrefused hd he
  have hwide := not_or_intro hmintx.not_gt hminrx.not_gt
  rw [deskewDone, if_neg (not_not_intro hst)]
  exact (if_neg hwide).trans (if_neg hloop)

/-- A limit passed fails the attempt in stages 4 to 7, and in stage 8 of a link not stopped. -/
theorem stageTimeout_fails (hlow : 4 ≤ s.stage lp) (hhigh : s.stage lp ≤ 8)
    (hopen : s.stage lp = 8 → (getLink s lp).stopped = false)
    (hdue : (getLink s lp).stageAt + (if s.stage lp = 5 then 30000000 else if s.stage lp = 6 then 2000000 else 1000000) ≤ s.now) :
    stageTimeout s lp = attemptFail s lp := by
  have hstays : ¬(s.stage lp < 2 ∨ s.stage lp > 8 ∨
      s.now < (getLink s lp).stageAt + (if s.stage lp = 5 then 30000000 else if s.stage lp = 6 then 2000000 else 1000000) ∨
      (s.stage lp = 8 ∧ (getLink s lp).stopped = true)) := by
    rintro (h | h | h | ⟨hst, hstop⟩)
    · omega
    · omega
    · exact hdue.not_gt h
    · simp [hopen hst] at hstop
  rw [stageTimeout, if_neg hstays, if_neg (by omega), if_neg (by omega)]

theorem bringupRetry_due (hretry : (getLink s lp).retryAt = some t0) (hdue : t0 ≤ s.now) :
    bringupRetry s lp = sendFrames (modLink s lp fun l =>
      { l with retryAt := none, stageAt := s.now, clkMode := s.rd F.PRT_CTRL_CLKMODE (lp / 2) }) lp := by
  simp only [bringupRetry, hretry, if_pos hdue]

end Stages

/-! ## The partner's identity (R318) -/

section Ident

variable {s c d : State} {p : StPkt} {lp : Nat} {ok : Bool}

theorem identSend_due (hst : s.stage lp = 9)
    (hwait : s.flag F.PRT_PEER_VALID lp = false ∨ s.flag F.GLB_PLACE_LOCK = false) :
    identSend s lp = portCell s lp (identHdr s lp) := by
  have hboth : (s.flag F.PRT_PEER_VALID lp && s.flag F.GLB_PLACE_LOCK) = false := by
    rcases hwait with h | h <;> simp [h]
  simp [identSend, hst, hboth]

/-- An IDENT in stage 9 is kept; the expected one takes the link on, and another is reported. -/
theorem identReceive_in_ident (hc : c = takeCtl s p) (hlp : lp = p.arr) (hst : c.stage lp = 9) (hop : p.hdr.opcode = 1)
    (hok : ok = identOk c lp p.hdr.srcE (bits p.hdr.opw0 0 7))
    (hd : d = ((((c.wr F.PRT_PEER_VALID lp 1).wr F.PRT_PEER_MATCH lp (b2n ok)).wr F.PRT_PEER_HALF lp
      (bits p.hdr.opw0 8 1)).wr F.PRT_PEER_PPORT lp (bits p.hdr.opw0 0 7)).wr F.PRT_PEER_EID lp p.hdr.srcE) :
    identReceive s p = if ok = true then tryUp d lp else linkFault d lp 0x33
      (lp + p.hdr.srcE * 2 ^ 8 + bits p.hdr.opw0 0 7 * 2 ^ 28 + bits p.hdr.opw0 8 1 * 2 ^ 35) := by
  subst hc hlp hok hd
  have hident : ¬((takeCtl s p).stage p.arr ≠ 9 ∨ p.hdr.opcode ≠ 1) := by simp [hst, hop]
  rw [identReceive, if_neg hident]

end Ident

/-! ## The obligation -/

/-- Settles O22: each row answers its operation's next state, and training frames, stages and IDENT go as R313 to R319 say. -/
theorem linkBringUp : Obligations.LinkBringUp := by
  unfold Obligations.LinkBringUp
  refine ⟨?rows, ?frame, ?eq, ?fecLock, ?deskew, ?limit, ?retry, ?identSend, ?identReceive⟩
  case rows =>
    intro s u lp pos frame at_ ready bad p hu hrun hlp hpos harr
    exact ⟨exec_trainingFrameReceive_run hu hrun hlp hpos, exec_eqDone_run hu hrun hlp, exec_fecLockDone_run hu hrun hlp,
      exec_deskewDone_run hu hrun hlp, exec_bringupStageTimeout_run hu hrun hlp, exec_bringupRetry_run hu hrun hlp,
      exec_identSend_run hu hrun hlp, exec_ident_run hu hrun harr⟩
  case frame =>
    intro s u lp pos v at_ l hu hrun hlp hpos hlink hwidth hl hin
    rw [exec_trainingFrameReceive_run hu hrun hlp hpos]
    refine ⟨fun hslave => ?slave, fun hown hst hread => ?illegible, fun x hown hread hloop => ⟨fun hst => ?up,
      fun hlow hhigh hst hretry => ?inStage, fun d hst hretry hport hd => ?detect⟩⟩
    case slave => rw [trainingFrame_slave hlink hwidth hl hin hslave]
    case illegible => rw [trainingFrame_illegible hlink hwidth hl hin hown hst hread]
    case up => rw [trainingFrame_legible hlink hwidth hl hin hown hread hloop (by omega), if_pos hst]
    case inStage =>
      rw [trainingFrame_legible hlink hwidth hl hin hown hread hloop hst, if_neg (by omega),
        if_pos ⟨hlow, hhigh, by rw [hretry]; rfl⟩]
    case detect =>
      rw [trainingFrame_legible hlink hwidth hl hin hown hread hloop (by omega), if_neg (by omega),
        if_pos ⟨by omega, by omega, by rw [hretry]; rfl⟩, frameInStage_detect hl hst hport hd]
      refine ⟨fun hgood => ?_, fun hgood => ?_⟩
      · rw [if_neg hgood.not_ge]
      · rw [if_pos hgood]
  case eq =>
    intro s u lp ready at_ hu hrun hlp hst
    rw [exec_eqDone_run hu hrun hlp, eqDone_in_eq hst]
  case fecLock =>
    intro s u lp bad at_ hu hrun hlp hst
    rw [exec_fecLockDone_run hu hrun hlp, fecLockDone_in_lock hst]
  case deskew =>
    intro s u c d e lp bad at_ tx rx refused hu hrun hlp hst hc htx hrx hrefused hd he
    rw [exec_deskewDone_run hu hrun hlp]
    refine ⟨fun hfew => ?narrow, fun hmintx hminrx hloop => ?creditInit⟩
    case narrow => rw [deskewDone_too_narrow hst hc htx hrx hfew]
    case creditInit => rw [deskewDone_credit_init hst hc htx hrx hrefused hd he hmintx hminrx hloop]
  case limit =>
    intro s u lp at_ hu hrun hlp hlow hhigh hopen hdue
    rw [exec_bringupStageTimeout_run hu hrun hlp, stageTimeout_fails hlow hhigh hopen hdue]
  case retry =>
    intro s u lp at_ t0 hu hrun hlp hretry hdue
    rw [exec_bringupRetry_run hu hrun hlp, bringupRetry_due hretry hdue]
  case identSend =>
    intro s u lp at_ hu hrun hlp hst hwait
    rw [exec_identSend_run hu hrun hlp, identSend_due hst hwait]
  case identReceive =>
    intro s u c d p at_ lp ok hu hrun harr hc hlp hst hop hok hd
    rw [exec_ident_run hu hrun harr, identReceive_in_ident hc hlp hst hop hok hd]
    refine ⟨fun hexpected => ?_, fun hother => ?_⟩
    · rw [if_pos hexpected]
    · rw [if_neg (ne_true_of_eq_false hother)]

end Sys2Proof.Machine
end

section
/-! PROOFS. Lanes lost and dropped, re-stripe and electrical idle (11 R319 to R322): the rows answer their operation's next state
wherever the link runs, or where the write is taken. -/

namespace Sys2Proof.Machine

open Sys2Proof

/-! ## The rows of lanes and idling -/

section Rows

variable {s u : State} {lp mask peer at_ l : Nat} {m : Master}

theorem exec_laneLockLoss_run (hu : u = s.advance at_) (hrun : linkRuns u = true) (hlp : lp < 160) :
    exec (.laneLockLoss lp mask at_) s = .next (finish u (settleSwitch (lockLoss u lp mask))) := by
  rw [exec_laneLockLoss]
  exact atTime_whenLink (f := fun s => settleSwitch (lockLoss s lp mask)) hu (decide_eq_true hlp) hrun

theorem exec_restripeDone_run (hu : u = s.advance at_) (hrun : linkRuns u = true) (hlp : lp < 160) :
    exec (.restripeDone lp peer at_) s = .next (finish u (settleSwitch (restripeDone u lp peer))) := by
  rw [exec_restripeDone]
  exact atTime_whenLink (f := fun s => settleSwitch (restripeDone s lp peer)) hu (decide_eq_true hlp) hrun

theorem exec_eidleEnter_run (hu : u = s.advance at_) (hrun : linkRuns u = true) (hlp : lp < 160) :
    exec (.eidleEnter lp at_) s = .next (finish u (settleSwitch (eidleEnter u lp))) := by
  rw [exec_eidleEnter]
  exact atTime_whenLink (f := fun s => settleSwitch (eidleEnter s lp)) hu (decide_eq_true hlp) hrun

theorem exec_eidleExit_run (hu : u = s.advance at_) (hrun : linkRuns u = true) (hlp : lp < 160) :
    exec (.eidleExit lp at_) s = .next (finish u (settleSwitch (eidleExit u lp))) := by
  rw [exec_eidleExit]
  exact atTime_whenLink (f := fun s => settleSwitch (eidleExit s lp)) hu (decide_eq_true hlp) hrun

theorem exec_drop_taken (h : takesWrite s m .LNK_CTRL l 0 = true) :
    exec (.drop m l) s =
      .next (finish s (settleSwitch (lnkCtrlWrite (wrote s m .LNK_CTRL l 0) m l (2 ^ 31) 15))) := by
  rw [exec_drop]
  exact atNow_rowBit (f := F.LNK_CTRL_DROP) (eff := fun s => settleSwitch (lnkCtrlWrite s m l (2 ^ 31) 15)) rfl rfl h

end Rows

/-! ## Lanes lost and dropped (R319, R320) -/

section Lost

variable {s d : State} {lp mask lost : Nat}

/-- Of a link that is up, the loss of every lane it receives on takes it down, and that of some drops those. -/
theorem lockLoss_up (hup : s.linkUp lp = true) (hlost : lost = maskOf (((positions s lp).filter (bitAt mask)).map (rxPos s lp)))
    (hd : d = ((positions s lp).filter (bitAt mask)).foldl (fun s p => s.wr F.LNK_STAT_LOCK (laneAt s lp p) 0) s) :
    lockLoss s lp mask =
      if Nat.land (s.rd F.PRT_LSTAT_RXMASK lp) lost = s.rd F.PRT_LSTAT_RXMASK lp then linkDown d lp 1
      else ((positions s lp).filter (bitAt mask)).foldl (fun s p => dropLane s lp p 1) d := by
  subst hlost hd
  simp only [lockLoss, hup, Bool.not_true, Bool.false_eq_true, if_false]

/-- LNK_CTRL written whole with DROP set takes the lane out of its link. -/
theorem lnkCtrlWrite_drop (s : State) (m : Master) (l : Nat) :
    lnkCtrlWrite s m l (2 ^ 31) 15 = dropLane s (linkOfLane s l).1 (linkOfLane s l).2 3 := by
  have hwhole : wholeBe 15 = true := rfl
  have hdrop : bitAt (2 ^ 31) 31 = true := by decide
  simp only [lnkCtrlWrite, hwhole, hdrop, Bool.true_eq_false, if_false, if_true]

end Lost

/-! ## The end of a re-stripe (R321) -/

section Restripe

variable {s d : State} {lp peer tx : Nat}

theorem restripeDone_own (hup : s.linkUp lp = true) (hown : (getLink s lp).restripe = true)
    (htx : tx = Nat.land (s.rd F.PRT_LSTAT_TXMASK lp) peer) (hd : d = setMasks s lp tx (s.rd F.PRT_LSTAT_RXMASK lp)) :
    restripeDone s lp peer = if popCount tx < minLanes s lp then linkDown d lp 3
      else if tx = s.rd F.PRT_LSTAT_TXMASK lp then resendAll (modLink d lp fun k => { k with restripe := false }) lp
      else conditionChange (resendAll (modLink d lp fun k => { k with restripe := false }) lp) (some lp) := by
  subst htx hd
  simp only [restripeDone, hup, hown, Bool.not_true, Bool.false_eq_true, if_false, if_true]

end Restripe

/-! ## Electrical idle (R322) -/

section Idle

variable {s : State} {lp : Nat}

theorem eidleEnter_due (hidle : idleOk s lp = true)
    (hwhy : s.flag F.PWR_STAT_BRAKE = true ∨ s.rd F.PRT_CTRL_EIDLE_T (lp / 2) ≠ 0 ∧
      (getLink s lp).idleSince.any (fun a => decide (a + 100 * s.rd F.PRT_CTRL_EIDLE_T (lp / 2) ≤ s.now)) = true) :
    eidleEnter s lp = s.wr F.PRT_LSTAT_EIDLE_TX lp 1 := if_pos ⟨hidle, hwhy⟩

theorem eidleExit_due (hidle : s.flag F.PRT_LSTAT_EIDLE_TX lp = true)
    (hwork : cellReady s lp = true ∨ lcwChanged s lp = true) :
    eidleExit s lp = sendBurst (s.wr F.PRT_LSTAT_EIDLE_TX lp 0) lp :=
  if_pos ⟨hidle, (Bool.or_eq_true _ _).mpr hwork⟩

end Idle

/-! ## The obligation -/

/-- Settles O23: each row answers its operation's next state, and lanes lost or dropped, re-stripes and electrical idle go as R319
to R322 say. -/
theorem linkLanes : Obligations.LinkLanes := by
  unfold Obligations.LinkLanes
  refine ⟨?rows, ?dropRow, ?lost, ?restripe, ?drop, ?enter, ?exit⟩
  case rows =>
    intro s u lp mask at_ peer hu hrun hlp
    exact ⟨exec_laneLockLoss_run hu hrun hlp, exec_restripeDone_run hu hrun hlp, exec_eidleEnter_run hu hrun hlp,
      exec_eidleExit_run hu hrun hlp⟩
  case dropRow =>
    intro s m l htakes
    exact exec_drop_taken htakes
  case lost =>
    intro s u d lp mask at_ lost hu hrun hlp hup hlost hd
    rw [exec_laneLockLoss_run hu hrun hlp, lockLoss_up hup hlost hd]
    refine ⟨fun hall => ?_, fun hsome => ?_⟩
    · rw [if_pos hall]
    · rw [if_neg hsome]
  case restripe =>
    intro s u d lp peer at_ tx hu hrun hlp hup hown htx hd
    rw [exec_restripeDone_run hu hrun hlp, restripeDone_own hup hown htx hd]
    refine ⟨fun hfew => ?narrow, fun hmin hsame => ?same, fun hmin hfewer => ?fewer⟩
    case narrow => rw [if_pos hfew]
    case same => rw [if_neg hmin.not_gt, if_pos hsame]
    case fewer => rw [if_neg hmin.not_gt, if_neg hfewer]
  case drop =>
    intro s c m l htakes hc
    rw [exec_drop_taken htakes, ← hc, lnkCtrlWrite_drop]
  case enter =>
    intro s u lp at_ hu hrun hlp _ hidle hwhy
    rw [exec_eidleEnter_run hu hrun hlp, eidleEnter_due hidle hwhy]
  case exit =>
    intro s u lp at_ hu hrun hlp hidle hwork
    rw [exec_eidleExit_run hu hrun hlp, eidleExit_due hidle hwork]

end Sys2Proof.Machine
end

section
/-! PROOFS. Port controls and lane tests (11 R319, R323 to R325): the rows answer their operation's next state where the write is
taken, or wherever the link runs; RETRAIN, EN and LOOP, the end of an echo, eye scans and PRBS. -/

namespace Sys2Proof.Machine

open Sys2Proof

/-! ## The rows of port controls and lane tests -/

section Rows

variable {s u : State} {m : Master} {n k l lp val be at_ : Nat} {en : Bool}

theorem exec_retrain_taken (h : takesWrite s m .PRT_CTRL n 0 = true) :
    exec (.retrain m n) s = .next (finish s (settleSwitch (portCtl (wrote s m .PRT_CTRL n 0) n
      ((wrote s m .PRT_CTRL n 0).rd F.PRT_CTRL_EN n) ((wrote s m .PRT_CTRL n 0).rd F.PRT_CTRL_LOOP n) true))) := by
  rw [exec_retrain]
  exact atNow_rowBit (f := F.PRT_CTRL_RETRAIN)
    (eff := fun s => settleSwitch (portCtl s n (s.rd F.PRT_CTRL_EN n) (s.rd F.PRT_CTRL_LOOP n) true)) rfl rfl h

theorem exec_portEnWrite_taken (h : takesWrite s m .PRT_CTRL n 0 = true) :
    exec (.portEnWrite m n en) s = .next (finish s (settleSwitch (prtCtrlWrite (wrote s m .PRT_CTRL n 0) m n
      (b2n en * 2 ^ 31 + s.rdSw F.PRT_CTRL_LOOP n * 2 ^ 28 + s.rdSw F.PRT_CTRL_CLKMODE n * 2 ^ 26) 8))) := by
  rw [exec_portEnWrite, execPortEnWrite, takesWrite_ok h, atNow_run, rowWrite_taken h]

theorem exec_loop_taken (hk : k < 4) (h : takesWrite s m .PRT_CTRL n 0 = true) :
    exec (.loop m n k) s = .next (finish s (settleSwitch (prtCtrlWrite (wrote s m .PRT_CTRL n 0) m n
      (s.rdSw F.PRT_CTRL_EN n * 2 ^ 31 + k % 4 * 2 ^ 28 + s.rdSw F.PRT_CTRL_CLKMODE n * 2 ^ 26) 8))) := by
  rw [exec_loop, execLoop, takesWrite_ok h, decide_eq_true hk, Bool.and_self, atNow_run, rowWrite_taken h]

theorem exec_escanGo_taken (h : takesWrite s m .LNK_ESCAN l 0 = true) :
    exec (.escanGo m l) s = .next (finish s (escanGo (wrote s m .LNK_ESCAN l 0) l)) := by
  rw [exec_escanGo]
  exact atNow_rowBit (f := F.LNK_ESCAN_GO) (eff := fun s => escanGo s l) rfl rfl h

theorem exec_prbsRxEnWrite_taken (hval : val < 2 ^ 32) (hbe : beOk m be = true) (h : takesWrite s m .LNK_PRBS l 0 = true) :
    exec (.prbsRxEnWrite m l val be) s = .next (finish s (prbsWrite (wrote s m .LNK_PRBS l 0) m l val be)) := by
  rw [exec_prbsRxEnWrite]
  exact atNow_rowWrite (f := fun s => prbsWrite s m l val be)
    (by simp only [takesWrite_ok h, hval, hbe, decide_true, Bool.and_self]) h

theorem exec_loopEchoEnd_run (hu : u = s.advance at_) (hrun : linkRuns u = true) (hlp : lp < 160) :
    exec (.loopEchoEnd lp at_) s = .next (finish u (settleSwitch (echoEnd u lp))) := by
  rw [exec_loopEchoEnd]
  exact atTime_whenLink (f := fun s => settleSwitch (echoEnd s lp)) hu (decide_eq_true hlp) hrun

theorem exec_escanDone_run (hu : u = s.advance at_) (hrun : linkRuns u = true) (hl : l < 640) :
    exec (.escanDone l n at_) s = .next (finish u (settleSwitch (escanDone u l n))) := by
  rw [exec_escanDone]
  exact atTime_whenLink (f := fun s => settleSwitch (escanDone s l n)) hu (decide_eq_true hl) hrun

end Rows

/-! ## PRT_CTRL and the end of an echo (R319, R324) -/

section Controls

variable {s : State} {m : Master} {n lp v : Nat}

/-- RETRAIN restarts the links of a port in use whatever EN and LOOP were. -/
theorem portCtl_retrain {oldEn oldLoop : Nat} (hused : s.portMode n ≠ 0) :
    portCtl s n oldEn oldLoop true = (linksOf s n).foldl (fun s lp => restartLink s lp 5) s := by
  rw [portCtl, if_pos (Or.inr (Or.inr rfl)), if_neg hused]

/-- A write of the byte of EN, RETRAIN and LOOP stores the word and acts on what it changed. -/
theorem prtCtrlWrite_top_byte : prtCtrlWrite s m n v 8 =
    portCtl (writeWord s m .PRT_CTRL n 0 v 8) n (s.rd F.PRT_CTRL_EN n) (s.rd F.PRT_CTRL_LOOP n) (bitAt v 30) := by
  have htop : bitAt 8 3 = true := by decide
  rw [prtCtrlWrite, htop, Bool.and_true]

theorem echoEnd_slave (hslave : s.flag F.PRT_LSTAT_LOOP_SLAVE lp = true) : echoEnd s lp = startDetect s lp := if_pos hslave

end Controls

/-! ## Eye scans and PRBS (R323, R325) -/

section Tests

variable {s d : State} {m : Master} {l n val be : Nat}

theorem escanGo_starts (hidle : s.flag F.LNK_ESCAN_BUSY l = false) (hst : 5 ≤ s.stage (linkOfLane s l).1)
    (hlen : s.rd F.LNK_ESCAN_LOG2N l ≠ 0) : escanGo s l = (s.wr F.LNK_ESCAN_BUSY l 1).wr F.LNK_ESCAN_GO l 1 := by
  have hready : ¬(s.flag F.LNK_ESCAN_BUSY l = true ∨ s.stage (linkOfLane s l).1 < 5) :=
    not_or_intro (Bool.eq_false_iff.mp hidle) hst.not_gt
  rw [escanGo]
  exact (if_neg hready).trans (if_neg hlen)

theorem escanDone_busy (hbusy : s.flag F.LNK_ESCAN_BUSY l = true) : escanDone s l n =
    ((s.wr F.LNK_ESCAN_BUSY l 0).wr F.LNK_ESCAN_GO l 0).wr F.LNK_ESCAN_ERR_ERR l (min n (2 ^ 32 - 1)) := if_pos hbusy

/-- Both counts freeze and the generator follows TX_EN; RX_EN clears the counts and starts the checker. -/
theorem prbsWrite_eq (hd : d = prbsDrive (writeWord (if bitAt be 3 then prbsFreeze s l else s) m .LNK_PRBS l 0 val be) l) :
    prbsWrite s m l val be = if (bitAt val 30 && bitAt be 3) = true then
        prbsStart (modLane (d.wr F.LNK_PRBS_ERR_COUNT l 0) l fun x => { x with prbsNs := 0, prbsAt := none }) l
      else d := by
  rw [hd, prbsWrite]

end Tests

/-! ## The obligation -/

/-- Settles O24: each row answers its operation's next state, and port controls, echoes, eye scans and PRBS go as R319 and R323 to
R325 say. -/
theorem portControls : Obligations.PortControls := by
  unfold Obligations.PortControls
  refine ⟨?writeRows, ?linkRows, ?retrain, ?enable, ?loop, ?echo, ?scanGo, ?scanDone, ?prbs⟩
  case writeRows =>
    intro s m n k l val be en hk hval hbe
    exact ⟨exec_retrain_taken, exec_portEnWrite_taken, exec_loop_taken hk, exec_escanGo_taken,
      exec_prbsRxEnWrite_taken hval hbe⟩
  case linkRows =>
    intro s u lp at_ l n hu hrun hlp hl
    exact ⟨exec_loopEchoEnd_run hu hrun hlp, exec_escanDone_run hu hrun hl⟩
  case retrain =>
    intro s c m n htakes hc hused
    rw [exec_retrain_taken htakes, ← hc, portCtl_retrain hused]
  case enable =>
    intro s c m n v en htakes hc hv
    rw [exec_portEnWrite_taken htakes, ← hc, ← hv, prtCtrlWrite_top_byte]
  case loop =>
    intro s c m n k v hk htakes hc hv
    rw [exec_loop_taken hk htakes, Nat.mod_eq_of_lt hk, ← hc, ← hv, prtCtrlWrite_top_byte]
  case echo =>
    intro s u lp at_ hu hrun hlp hslave
    rw [exec_loopEchoEnd_run hu hrun hlp, echoEnd_slave hslave]
  case scanGo =>
    intro s c m l htakes hc hidle hst hlen
    rw [exec_escanGo_taken htakes, ← hc, escanGo_starts hidle hst hlen]
  case scanDone =>
    intro s u l n at_ hu hrun hl hbusy
    rw [exec_escanDone_run hu hrun hl, escanDone_busy hbusy]
  case prbs =>
    intro s c d m l val be hval hbe htakes hc hd
    rw [exec_prbsRxEnWrite_taken hval hbe htakes, ← hc, prbsWrite_eq hd]
    refine ⟨fun hcheck => ?_, fun hnone => ?_⟩
    · rw [if_pos hcheck]
    · rw [if_neg (ne_true_of_eq_false hnone)]

end Sys2Proof.Machine
end

section
/-! PROOFS. The semaphore and the passes over the configuration image (12 R361, R362; 13 R381 to R383): the rows answer their
operation's next state where the chip runs or the write is taken; what a read, a write and a lapse make of the semaphore, and
what a pass leaves of the image's CRC. -/

namespace Sys2Proof.Machine

open Sys2Proof

/-! ## The rows of the semaphore and of passes -/

section Rows

variable {s u : State} {m : Master} {ev : BootEv} {at_ : Nat} {parity : List Nat}

theorem exec_semRead_ok (hm : m.ok = true) :
    exec (.semRead m) s = .next (finish s (busRead s m (regOff .GLB_SEM 0))) := by
  rw [exec_semRead, execSemRead, hm, atNow_run]

theorem exec_release_taken (h : takesWrite s m .GLB_SEM 0 0 = true) :
    exec (.release m ev) s = .next (finish s (settleSite ev (semWrite (wrote s m .GLB_SEM 0 0) m 1 15))) := by
  rw [exec_release]
  exact atNow_rowWrite (f := fun s => settleSite ev (semWrite s m 1 15)) (takesWrite_ok h) h

theorem exec_semLeaseLapse_run (hu : u = s.advance at_) (hrun : chipOn u = true) :
    exec (.semLeaseLapse ev at_) s = .next (finish u (settleSite ev (semLapse u))) := by
  rw [exec_semLeaseLapse]
  exact atTime_whenOn (f := fun s => settleSite ev (semLapse s)) hu rfl hrun

theorem exec_configCrcPass_run (hu : u = s.advance at_) (hrun : chipOn u = true)
    (hparity : parity.all (· < 2 ^ 26) = true) :
    exec (.configCrcPass ⟨parity, at_⟩) s = .next (finish u (crcPass (parity.foldl parityFound u))) := by
  rw [exec_configCrcPass]
  exact atTime_whenOn (f := fun s => crcPass (parity.foldl parityFound s)) hu hparity hrun

end Rows

/-! ## GLB_SEM among the registers -/

theorem locate_sem : locate (regOff .GLB_SEM 0) = some (.GLB_SEM, 0, 0) := by decide +kernel

section Semaphore

variable {s c : State} {m : Master} {val be k : Nat}

theorem readNow_sem : readNow s m (regOff .GLB_SEM 0) = (readAt (semRead s m) m (regOff .GLB_SEM 0), semRead s m) := by
  simp only [readNow, locate_sem, if_true]

theorem readAt_sem : readAt s m (regOff .GLB_SEM 0) = semWord s m := by
  simp only [readAt, locate_sem]
  rfl

/-- GLB_SEM carries no parity, so reading it checks none (13 R383). -/
theorem softCheck_sem : softCheck s (regOff .GLB_SEM 0) = s := by
  have hplain : (collectorWord (regOff .GLB_SEM 0) || parityWord (regOff .GLB_SEM 0)) = false := by decide +kernel
  rw [softCheck, hplain]
  rfl

/-! ## A read (R361) -/

theorem semRead_takes (h : semHolder s = 0 ∨ semHolder s = masterCode m) : semRead s m = semTake s (masterCode m) := if_pos h

theorem semRead_leaves (hheld : semHolder s ≠ 0) (hother : semHolder s ≠ masterCode m) : semRead s m = s :=
  if_neg (not_or_intro hheld hother)

theorem semRemain_le : semRemain s ≤ 65535 := by
  unfold semRemain
  split
  · exact Nat.zero_le _
  · exact Nat.min_le_left ..

theorem b2n_lt (b : Bool) : b2n b < 2 := by cases b <;> decide

/-- GOT says whether the reader holds the semaphore. -/
theorem bits_semWord_got : bits (semWord s m) 30 1 = b2n (semHolder s == masterCode m) := by
  have hgot := b2n_lt (semHolder s == masterCode m)
  have hremain := semRemain_le (s := s)
  simp only [semWord, bits, F.GLB_SEM_HELD, F.GLB_SEM_GOT, F.GLB_SEM_HOLDER, F.GLB_SEM_DIRTY, F.GLB_SEM_REMAIN]
  omega

theorem semWord_lt : semWord s m < 2 ^ 32 := by
  have hgot := b2n_lt (semHolder s == masterCode m)
  have hremain := semRemain_le (s := s)
  simp only [semWord, F.GLB_SEM_HELD, F.GLB_SEM_GOT, F.GLB_SEM_HOLDER, F.GLB_SEM_DIRTY, F.GLB_SEM_REMAIN]
  omega

/-- A read of all four bytes returns the word (13 R368). -/
theorem enabledBytes_whole {v : Nat} (hv : v < 2 ^ 32) : enabledBytes v 15 = v :=
  (Nat.and_two_pow_sub_one_eq_mod v 32).trans (Nat.mod_eq_of_lt hv)

/-- A read that the bus performs answers the word as the read leaves it. -/
theorem busRead_sem (hon : chipOn s = true) (hopen : mustHold s (regOff .GLB_SEM 0) = false)
    (hawake : m = .host → s.host.pcie.dstate ≠ 3) (hc : c = countReg s m false (regOff .GLB_SEM 0)) :
    busRead s m (regOff .GLB_SEM 0) =
      (semRead c m).emit (.readData m (regOff .GLB_SEM 0) (readAt (semRead c m) m (regOff .GLB_SEM 0))) := by
  have hbus : ¬(m = .host ∧ s.host.pcie.dstate = 3) := fun h => hawake h.1 h.2
  simp only [busRead, hon, hopen, if_neg hbus, ← hc, readNow_sem, Bool.not_true, Bool.false_eq_true, if_false]
  rw [readAt_sem, enabledBytes_whole semWord_lt]

theorem masterCode_lt (m : Master) : masterCode m < 4 := by cases m <;> simp [masterCode]

theorem masterCode_ne_zero (m : Master) : masterCode m ≠ 0 := by cases m <;> simp [masterCode]

theorem semTake_holder : semHolder (semTake s k) = k % 4 :=
  (rd_wr_other _ _ (by decide)).trans (rd_wr_same s F.GLB_SEM_HOLDER 0 k)

theorem semTake_held : (semTake s k).rd0 F.GLB_SEM_HELD = 1 := rd_wr_same _ F.GLB_SEM_HELD 0 1

theorem semTake_semEnd : (semTake s k).semEnd =
    if s.rd0 F.GLB_SEM_CFG_LEASE = 0 then none else some (s.now + 1000000 * s.rd0 F.GLB_SEM_CFG_LEASE) := rfl

/-! ## A write (R361) -/

theorem semWrite_partial (hbe : wholeBe be = false) :
    semWrite s m val be = (s.accessFault m 2 (regOff .GLB_SEM 0)).report 3 5 (masterCode m) (masterCode m) 2 := if_pos hbe

theorem semWrite_not_holder (hbe : wholeBe be = true) (hother : semHolder s ≠ masterCode m) :
    semWrite s m val be = (s.accessFault m 1 (regOff .GLB_SEM 0)).report 3 5 (masterCode m) (masterCode m) 2 := by
  rw [semWrite, if_neg (ne_false_of_eq_true hbe), if_pos hother]

theorem semWrite_release (hbe : wholeBe be = true) (hown : semHolder s = masterCode m) (hval : bitAt val 0 = true) :
    semWrite s m val be = semFree s := by
  rw [semWrite, if_neg (ne_false_of_eq_true hbe), if_neg (not_not_intro hown), if_pos hval]

theorem semFree_holder : semHolder (semFree s) = 0 :=
  (rd_wr_other _ _ (by decide)).trans (rd_wr_same s F.GLB_SEM_HOLDER 0 0)

/-! ## The lease (R362) -/

theorem semLapse_due (h : s.semEnd.any (fun t => decide (t ≤ s.now)) = true) :
    semLapse s = (semFree s).report 3 3 (semHolder s) := by
  obtain ⟨t, hend, hpast⟩ := (Option.any_eq_true ..).mp h
  simp only [semLapse, hend, if_pos (of_decide_eq_true hpast)]

theorem semLapse_running (h : s.semEnd.any (fun t => decide (t ≤ s.now)) = false) : semLapse s = s := by
  unfold semLapse
  split
  next t hend => exact if_neg (by simpa [hend] using h)
  next => rfl

/-! ## A REG_READ of it (R347, R361) -/

/-- A run of register reads steps over its first word. -/
theorem regReads_succ_state (off : Nat) : (regReads (k + 1) off s).2 =
    (regReads k (off + 4) (readNow (countReg (softCheck s off) .host false off) .host off).2).2 := rfl

end Semaphore

/-! ## Passes over the configuration image (13 R381 to R383) -/

section Pass

variable {s d e : State} {off : Nat}

theorem crcPass_abandoned (h : s.passCut = true) : crcPass s = { s with passCut := false } := if_pos h

/-- A pass with no commit in it leaves its CRC, and counts a mismatch while the check is on. -/
theorem crcPass_whole (hcut : s.passCut = false) (hd : d = s.wr0 F.GLB_CFG_CRC_CUR_CUR (configCrc s))
    (he : e = d.bump F.GLB_CFG_CRC_CTRL_MCOUNT 0) :
    crcPass s = if s.flag F.GLB_CFG_CRC_CTRL_EN = false ∨ configCrc s = s.rd0 F.GLB_CFG_CRC_REF_REF then d
      else if e.flag F.GLB_CFG_CRC_CTRL_MISMATCH = true then e
      else (e.wr0 F.GLB_CFG_CRC_CTRL_MISMATCH 1).report 0 6 (regOff .GLB_CFG_CRC_CUR 0) := by
  subst hd he
  exact if_neg (ne_true_of_eq_false hcut)

theorem parityFound_collector (h : collectorWord off = true) : parityFound s off = safeEnter s 1 (off % 2 ^ 20) := if_pos h

theorem parityFound_parity (hplain : collectorWord off = false) (h : parityWord off = true) :
    parityFound s off = s.report 0 7 off := by
  rw [parityFound, if_neg (ne_true_of_eq_false hplain), if_pos h]

end Pass

/-! ## The obligations -/

/-- Settles O59: a read takes or leaves the semaphore by its holder, the holder's whole write frees it, any other write is
refused. -/
theorem semaphoreRules : Obligations.SemaphoreRules := by
  unfold Obligations.SemaphoreRules
  refine ⟨?takes, ?leaves, ?release, ?regRead, ?refused⟩
  case takes =>
    intro s m hfree
    have hholder : semHolder (semTake s (masterCode m)) = masterCode m :=
      semTake_holder.trans (Nat.mod_eq_of_lt (masterCode_lt m))
    refine ⟨_, _, readNow_sem, semRead_takes hfree, ?_⟩
    rw [semRead_takes hfree, readAt_sem, bits_semWord_got, hholder, beq_self_eq_true]
    exact ⟨rfl, rfl, semTake_held, semTake_semEnd⟩
  case leaves =>
    intro s m hheld hother
    refine ⟨semWord s m, ?_, ?_⟩
    · rw [readNow_sem, semRead_leaves hheld hother, readAt_sem]
    · rw [bits_semWord_got, beq_false_of_ne hother]
      rfl
  case release =>
    intro s m val hown hodd
    have hbit : bitAt val 0 = true := by simpa [bitAt] using hodd
    exact ⟨semWrite_release rfl hown hbit, semFree_holder, rfl⟩
  case regRead =>
    intro s c k hc hfree
    rw [regReads_succ_state, softCheck_sem, ← hc, readNow_sem, semRead_takes (.inl hfree)]
  case refused =>
    intro s m val be hrefused
    cases hbe : wholeBe be with
    | false => exact ⟨2, .inr rfl, semWrite_partial hbe⟩
    | true =>
      have hother : semHolder s ≠ masterCode m := hrefused.resolve_right (not_not_intro (beq_iff_eq.mp hbe))
      exact ⟨1, .inl rfl, semWrite_not_holder hbe hother⟩

/-- Settles O30: each row answers its operation's next state; reads, releases and lapses of the semaphore go as R361 and R362
say, passes and parity failures as 13 R381 to R383. -/
theorem semaphore : Obligations.Semaphore := by
  unfold Obligations.Semaphore
  refine ⟨?readRow, ?releaseRow, ?timedRows, ?read, ?release, ?lapse, ?pass, ?parity⟩
  case readRow =>
    intro s m hm
    exact exec_semRead_ok hm
  case releaseRow =>
    intro s m ev htakes
    exact exec_release_taken htakes
  case timedRows =>
    intro s u ev at_ parity hu hrun hparity
    exact ⟨exec_semLeaseLapse_run hu hrun, exec_configCrcPass_run hu hrun hparity⟩
  case read =>
    intro s c d m hm hon hopen hawake hc hd
    have hread : semRead c m = d := hd.symm
    rw [exec_semRead_ok hm, busRead_sem hon hopen hawake hc, hread]
  case release =>
    intro s c m ev htakes hc
    rw [exec_release_taken htakes, ← hc]
    refine ⟨fun hown => ?_, fun hother => ?_⟩
    · rw [semWrite_release rfl hown (by decide), semFree]
    · rw [semWrite_not_holder rfl hother]
  case lapse =>
    intro s u ev at_ hu hrun
    rw [exec_semLeaseLapse_run hu hrun]
    refine ⟨fun hrunning => ?_, fun hdue => ?_⟩
    · rw [semLapse_running hrunning]
    · rw [semLapse_due hdue]
  case pass =>
    intro s u d e at_ hu hrun hd he
    rw [exec_configCrcPass_run hu hrun rfl, List.foldl_nil]
    refine ⟨fun hcut => ?abandoned, fun hcut hsame => ?same, fun hcut hen hdiffer => ?differs⟩
    case abandoned => rw [crcPass_abandoned hcut]
    case same => rw [crcPass_whole hcut hd he, if_pos hsame]
    case differs =>
      rw [crcPass_whole hcut hd he, if_neg (not_or_intro (ne_false_of_eq_true hen) hdiffer)]
      refine ⟨fun hknown => ?_, fun hfirst => ?_⟩
      · rw [if_pos hknown]
      · rw [if_neg (ne_true_of_eq_false hfirst)]
  case parity =>
    intro s u off at_ hu hrun hoff
    rw [exec_configCrcPass_run hu hrun (by simpa using hoff), List.foldl_cons, List.foldl_nil]
    refine ⟨fun hplain hparity => ?_, fun hcollector => ?_⟩
    · rw [parityFound_parity hplain hparity]
    · rw [parityFound_collector hcollector]

end Sys2Proof.Machine
end

section
/-! PROOFS. Control requests and register messages over MCTP (12 R357, R358): the rows answer their operation's next state
wherever the chip runs; what a message is answered with by its width, length and offset, and by whether the arbiter takes it. -/

namespace Sys2Proof.Machine

open Sys2Proof

/-! ## The rows of MCTP -/

section Rows

variable {s u : State} {pcie : Bool} {width len tag off val cmd at_ : Nat} {ev : BootEv}

theorem exec_read32_run (hu : u = s.advance at_) (hrun : chipOn u = true) :
    exec (.read32 pcie width len tag off at_) s =
      .next (finish u (mctpOpen u pcie fun v => regMsgRead v pcie width len tag off)) := by
  rw [exec_read32]
  exact atTime_whenOn (f := fun s => mctpOpen s pcie fun v => regMsgRead v pcie width len tag off) hu rfl hrun

theorem exec_write32_run (hu : u = s.advance at_) (hrun : chipOn u = true) (hval : val < 2 ^ 32) :
    exec (.write32 pcie width len tag off val ev at_) s =
      .next (finish u (mctpOpen u pcie fun v => settleSite ev (regMsgWrite v pcie width len tag off val ev))) := by
  rw [exec_write32]
  exact atTime_whenOn (f := fun s => mctpOpen s pcie fun v => settleSite ev (regMsgWrite v pcie width len tag off val ev))
    hu (decide_eq_true hval) hrun

theorem exec_vendorUnknownCmd_run (hu : u = s.advance at_) (hrun : chipOn u = true) :
    exec (.vendorUnknownCmd pcie cmd tag off at_) s =
      .next (finish u (mctpOpen u pcie fun v => regMsgUnknown v pcie cmd tag off)) := by
  rw [exec_vendorUnknownCmd]
  exact atTime_whenOn (f := fun s => mctpOpen s pcie fun v => regMsgUnknown v pcie cmd tag off) hu rfl hrun

theorem exec_setEndpointId_run {eid : Nat} (hu : u = s.advance at_) (hrun : chipOn u = true) :
    exec (.setEndpointId pcie eid at_) s = .next (finish u (mctpSetEid u pcie eid)) := by
  rw [exec_setEndpointId]
  exact atTime_whenOn (f := fun s => mctpSetEid s pcie eid) hu rfl hrun

theorem exec_getEndpointId_run (hu : u = s.advance at_) (hrun : chipOn u = true) :
    exec (.getEndpointId pcie at_) s = .next (finish u (mctpGetEid u pcie)) := by
  rw [exec_getEndpointId]
  exact atTime_whenOn (f := fun s => mctpGetEid s pcie) hu rfl hrun

theorem exec_getMctpVersionSupport_run {kind : Nat} (hu : u = s.advance at_) (hrun : chipOn u = true) :
    exec (.getMctpVersionSupport pcie kind at_) s = .next (finish u (mctpGetVersion u pcie kind)) := by
  rw [exec_getMctpVersionSupport]
  exact atTime_whenOn (f := fun s => mctpGetVersion s pcie kind) hu rfl hrun

theorem exec_getMessageTypeSupport_run (hu : u = s.advance at_) (hrun : chipOn u = true) :
    exec (.getMessageTypeSupport pcie at_) s = .next (finish u (mctpGetTypes u pcie)) := by
  rw [exec_getMessageTypeSupport]
  exact atTime_whenOn (f := fun s => mctpGetTypes s pcie) hu rfl hrun

theorem exec_getVendorDefinedMessageSupport_run {sel : Nat} (hu : u = s.advance at_) (hrun : chipOn u = true) :
    exec (.getVendorDefinedMessageSupport pcie sel at_) s = .next (finish u (mctpGetVendor u pcie sel)) := by
  rw [exec_getVendorDefinedMessageSupport]
  exact atTime_whenOn (f := fun s => mctpGetVendor s pcie sel) hu rfl hrun

end Rows

/-! ## Register messages (R358) -/

section Messages

variable {s d : State} {pcie : Bool} {width len need tag off val cmd cc : Nat} {ev : BootEv} {f : State → State}

theorem mctpOpen_without_eid (h : mctpEid s pcie = 0) : mctpOpen s pcie f = s := if_pos h

theorem mctpOpen_with_eid (h : mctpEid s pcie ≠ 0) : mctpOpen s pcie f = f s := if_neg h

/-- A message of one aligned register word of BAR0 passes the check. -/
theorem regMsgCode_good (hoff : off < 0x4000000) (halign : off % 4 = 0) : regMsgCode 4 need need off = 0 := by
  simp [regMsgCode, hoff, halign]

theorem regMsgRead_refused (hcc : regMsgCode width len 10 off = cc) (hne : cc ≠ 0) :
    regMsgRead s pcie width len tag off =
      (sendMctp s pcie (.mctp (regResponse 1 cc tag off (Config.freeNat s.freeCtr)))).tick := by
  subst hcc
  exact if_pos hne

theorem regMsgWrite_refused (hcc : regMsgCode width len 14 off = cc) (hne : cc ≠ 0) :
    regMsgWrite s pcie width len tag off val ev = sendMctp s pcie (.mctp (regResponse 2 cc tag off 0)) := by
  subst hcc
  exact if_pos hne

theorem regMsgRead_good (hcc : regMsgCode width len 10 off = 0)
    (hd : d = countReg (softCheck s off) (viaMaster pcie) false off) :
    regMsgRead s pcie width len tag off =
      if mustHold s off = true then hold s ⟨viaMaster pcie, false, off, 0, 15, some tag⟩
      else sendMctp (readNow d (viaMaster pcie) off).2 pcie
        (.mctp (regResponse 1 0 tag off (readNow d (viaMaster pcie) off).1)) := by
  rw [hd]
  exact if_neg (not_not_intro hcc)

theorem regMsgWrite_good (hcc : regMsgCode width len 14 off = 0)
    (hd : d = busWrite ev { s with lastFault := none } (viaMaster pcie) off val 15) :
    regMsgWrite s pcie width len tag off val ev =
      if (mayWrite s (viaMaster pcie) && mustHold s off) = true then hold s ⟨viaMaster pcie, true, off, val, 15, some tag⟩
      else sendMctp d pcie (.mctp (regResponse 2 (if d.lastFault.isSome then 4 else 0) tag off 0)) := by
  subst hd
  exact if_neg (not_not_intro hcc)

theorem regMsgUnknown_known (hcmd : cmd < 256) (h : cmd = 1 ∨ cmd = 2) : regMsgUnknown s pcie cmd tag off = s := by
  rw [regMsgUnknown, Nat.mod_eq_of_lt hcmd, if_pos h]

theorem regMsgUnknown_answer (hcmd : cmd < 256) (h1 : cmd ≠ 1) (h2 : cmd ≠ 2) : regMsgUnknown s pcie cmd tag off =
    (sendMctp s pcie (.mctp (regResponse cmd 5 tag off (Config.freeNat s.freeCtr)))).tick := by
  rw [regMsgUnknown, Nat.mod_eq_of_lt hcmd, if_neg (not_or_intro h1 h2)]
  rfl

end Messages

/-! ## Control requests (R357) -/

section Control

variable {s : State} {pcie : Bool} {eid sel : Nat}

theorem mctpSetEid_reserved (heid : eid < 256) (h : eid = 0 ∨ eid = 255) :
    mctpSetEid s pcie eid = sendMctp s pcie (.mctp [1, 2]) := by
  rw [mctpSetEid, Nat.mod_eq_of_lt heid, if_pos h]

theorem mctpSetEid_kept (heid : eid < 256) (hnull : eid ≠ 0) (hall : eid ≠ 255) : mctpSetEid s pcie eid =
    sendMctp (modBus s fun b => { b with eids := mput b.eids (viaKey pcie) eid }) pcie (.mctp ([1, 0, 0] ++ leBytes 1 eid)) := by
  rw [mctpSetEid, Nat.mod_eq_of_lt heid, if_neg (not_or_intro hnull hall)]

theorem mctpGetVendor_eq : mctpGetVendor s pcie sel = sendMctp s pcie (.mctp
    (if sel = 0 then [6, 0, 0xFF, 0] ++ (leBytes 2 Config.vendorId.toNat).reverse ++ [0, 0] else [6, 2])) :=
  (apply_ite (fun bs => sendMctp s pcie (.mctp bs)) ..).symm

end Control

/-! ## The obligation -/

/-- Settles O33: each row answers its operation's next state, register messages are checked and answered as R358 says, control
requests as R357. -/
theorem mctpMessages : Obligations.MctpMessages := by
  unfold Obligations.MctpMessages
  refine ⟨?rows, ?unassigned, ?refused, ?read, ?write, ?unknown, ?setEid, ?control⟩
  case rows =>
    intro s u pcie width len tag off at_ val cmd eid kind sel ev hu hrun hval
    exact ⟨exec_read32_run hu hrun, exec_write32_run hu hrun hval, exec_vendorUnknownCmd_run hu hrun,
      exec_setEndpointId_run hu hrun, exec_getEndpointId_run hu hrun, exec_getMctpVersionSupport_run hu hrun,
      exec_getMessageTypeSupport_run hu hrun, exec_getVendorDefinedMessageSupport_run hu hrun⟩
  case unassigned =>
    intro s u pcie width len tag off val cmd at_ ev hu hrun heid hval
    rw [exec_read32_run hu hrun, exec_write32_run hu hrun hval, exec_vendorUnknownCmd_run hu hrun]
    simp only [mctpOpen_without_eid heid, and_self]
  case refused =>
    intro s u pcie width len tag off val cc at_ ev hu hrun heid hval hne
    refine ⟨fun hcc => ?_, fun hcc => ?_⟩
    · rw [exec_read32_run hu hrun, mctpOpen_with_eid heid, regMsgRead_refused hcc.symm hne]
    · rw [exec_write32_run hu hrun hval, mctpOpen_with_eid heid, regMsgWrite_refused hcc.symm hne]
  case read =>
    intro s u d pcie tag off at_ hu hrun heid hoff halign hd
    rw [exec_read32_run hu hrun, mctpOpen_with_eid heid, regMsgRead_good (regMsgCode_good hoff halign) hd]
    refine ⟨fun hopen => ?_, fun hheld => ?_⟩
    · rw [if_neg (ne_true_of_eq_false hopen)]
    · rw [if_pos hheld]
  case write =>
    intro s u d pcie tag off val at_ ev hu hrun heid hoff halign hval hd
    rw [exec_write32_run hu hrun hval, mctpOpen_with_eid heid, regMsgWrite_good (regMsgCode_good hoff halign) hd]
    refine ⟨fun hnow => ?_, fun hmay hheld => ?_⟩
    · rw [if_neg (ne_true_of_eq_false (Bool.and_eq_false_iff.mpr hnow))]
    · rw [if_pos (Bool.and_eq_true_iff.mpr ⟨hmay, hheld⟩)]
  case unknown =>
    intro s u pcie cmd tag off at_ hu hrun heid hcmd
    rw [exec_vendorUnknownCmd_run hu hrun, mctpOpen_with_eid heid]
    refine ⟨fun hknown => ?_, fun h1 h2 => ?_⟩
    · rw [regMsgUnknown_known hcmd hknown]
    · rw [regMsgUnknown_answer hcmd h1 h2]
  case setEid =>
    intro s u pcie eid at_ hu hrun heid
    rw [exec_setEndpointId_run hu hrun]
    refine ⟨fun hreserved => ?_, fun hnull hall => ?_⟩
    · rw [mctpSetEid_reserved heid hreserved]
    · rw [mctpSetEid_kept heid hnull hall]
  case control =>
    intro s u pcie kind sel at_ hu hrun
    rw [exec_getEndpointId_run hu hrun, exec_getMctpVersionSupport_run hu hrun, exec_getMessageTypeSupport_run hu hrun,
      exec_getVendorDefinedMessageSupport_run hu hrun, mctpGetVendor_eq, mctpGetEid, mctpGetVersion, mctpGetTypes]
    exact ⟨rfl, rfl, rfl, rfl⟩

end Sys2Proof.Machine
end

section
/-! PROOFS. The I3C target (12 R356): the rows answer their operation's next state wherever the chip runs; what the command codes
make of the dynamic address and of the enabled events, and what a target with an address answers. -/

namespace Sys2Proof.Machine

open Sys2Proof

/-! ## The rows of the I3C target -/

section Rows

variable {s u : State} {addr mask act at_ : Nat}

theorem exec_entdaa_run (hu : u = s.advance at_) (hrun : chipOn u = true) :
    exec (.entdaa addr at_) s = .next (finish u (i3cEntdaa u addr)) := by
  rw [exec_entdaa]
  exact atTime_whenOn (f := fun s => i3cEntdaa s addr) hu rfl hrun

theorem exec_rstdaa_run (hu : u = s.advance at_) (hrun : chipOn u = true) :
    exec (.rstdaa at_) s = .next (finish u (i3cSetAddr u none)) := by
  rw [exec_rstdaa]
  exact atTime_whenOn (f := fun s => i3cSetAddr s none) hu rfl hrun

theorem exec_enec_run (hu : u = s.advance at_) (hrun : chipOn u = true) :
    exec (.enec mask at_) s = .next (finish u (i3cEvents u true mask)) := by
  rw [exec_enec]
  exact atTime_whenOn (f := fun s => i3cEvents s true mask) hu rfl hrun

theorem exec_disec_run (hu : u = s.advance at_) (hrun : chipOn u = true) :
    exec (.disec mask at_) s = .next (finish u (i3cEvents u false mask)) := by
  rw [exec_disec]
  exact atTime_whenOn (f := fun s => i3cEvents s false mask) hu rfl hrun

theorem exec_rstact_run (hu : u = s.advance at_) (hrun : chipOn u = true) :
    exec (.rstact act at_) s = .next (finish u (modBus u fun b => { b with rstAct := act % 256 })) := by
  rw [exec_rstact]
  exact atTime_whenOn (f := fun s => modBus s fun b => { b with rstAct := act % 256 }) hu rfl hrun

/-! Directed commands. -/

theorem exec_setnewda_run (hu : u = s.advance at_) (hrun : chipOn u = true) :
    exec (.setnewda addr at_) s = .next (finish u (i3cDirected u fun v => i3cSetAddr v (some addr))) := by
  rw [exec_setnewda]
  exact atTime_whenOn (f := fun s => i3cDirected s fun v => i3cSetAddr v (some addr)) hu rfl hrun

theorem exec_getpid_run (hu : u = s.advance at_) (hrun : chipOn u = true) :
    exec (.getpid at_) s = .next (finish u (i3cDirected u i3cGetPid)) := by
  rw [exec_getpid]
  exact atTime_whenOn (f := fun s => i3cDirected s i3cGetPid) hu rfl hrun

theorem exec_getbcr_run (hu : u = s.advance at_) (hrun : chipOn u = true) :
    exec (.getbcr at_) s = .next (finish u (i3cDirected u fun v => v.emit (.i3c (Config.blob 1)))) := by
  rw [exec_getbcr]
  exact atTime_whenOn (f := fun s => i3cDirected s fun v => v.emit (.i3c (Config.blob 1))) hu rfl hrun

theorem exec_getdcr_run (hu : u = s.advance at_) (hrun : chipOn u = true) :
    exec (.getdcr at_) s = .next (finish u (i3cDirected u fun v => v.emit (.i3c (Config.blob 2)))) := by
  rw [exec_getdcr]
  exact atTime_whenOn (f := fun s => i3cDirected s fun v => v.emit (.i3c (Config.blob 2))) hu rfl hrun

theorem exec_getstatus_run (hu : u = s.advance at_) (hrun : chipOn u = true) :
    exec (.getstatus at_) s = .next (finish u (i3cDirected u i3cGetStatus)) := by
  rw [exec_getstatus]
  exact atTime_whenOn (f := fun s => i3cDirected s i3cGetStatus) hu rfl hrun

theorem exec_getmrl_run (hu : u = s.advance at_) (hrun : chipOn u = true) :
    exec (.getmrl at_) s = .next (finish u (i3cDirected u fun v => v.emit (.i3c [0, 69, 1]))) := by
  rw [exec_getmrl]
  exact atTime_whenOn (f := fun s => i3cDirected s fun v => v.emit (.i3c [0, 69, 1])) hu rfl hrun

theorem exec_getmwl_run (hu : u = s.advance at_) (hrun : chipOn u = true) :
    exec (.getmwl at_) s = .next (finish u (i3cDirected u fun v => v.emit (.i3c [0, 69]))) := by
  rw [exec_getmwl]
  exact atTime_whenOn (f := fun s => i3cDirected s fun v => v.emit (.i3c [0, 69])) hu rfl hrun

end Rows

/-! ## Addresses and events -/

section Target

variable {s : State} {addr mask v : Nat} {f : State → State}

theorem i3cDirected_without_address (h : s.bus.i3cAddr = none) : i3cDirected s f = s := if_neg (by simp [h])

theorem i3cDirected_with_address (h : s.bus.i3cAddr.isSome = true) : i3cDirected s f = f s := if_pos h

theorem i3cEntdaa_with_address (h : s.bus.i3cAddr.isSome = true) : i3cEntdaa s addr = s := if_pos h

theorem i3cEntdaa_without_address (haddr : addr < 128) (h : s.bus.i3cAddr = none) : i3cEntdaa s addr =
    (modBus (i3cPid s).2 fun b => { b with i3cAddr := some addr }).emit
      (.i3c ((i3cPid s).1 ++ Config.blob 1 ++ Config.blob 2)) := by
  rw [i3cEntdaa, if_neg (by simp [h]), Nat.mod_eq_of_lt haddr]

/-- Once drawn, the provisional ID stays. -/
theorem i3cPid_drawn (h : s.bus.i3cPid = some v) :
    i3cPid s = ((leBytes 6 ((Config.mipiId.toNat * 2 + 1) * 2 ^ 32 + v)).reverse, s) := by
  simp only [i3cPid, h, i3cPidBytes]

theorem i3cSetAddr_some (haddr : addr < 128) :
    i3cSetAddr s (some addr) = modBus s fun b => { b with i3cAddr := some addr } := by
  rw [i3cSetAddr, Option.map_some, Nat.mod_eq_of_lt haddr]

theorem i3cEvents_set (hmask : mask < 256) :
    i3cEvents s true mask = modBus s fun b => { b with events := Nat.lor b.events mask } := by
  simp only [i3cEvents, Nat.mod_eq_of_lt hmask, if_true]

theorem i3cEvents_clear (hmask : mask < 256) :
    i3cEvents s false mask = modBus s fun b => { b with events := b.events - Nat.land b.events mask } := by
  simp only [i3cEvents, Nat.mod_eq_of_lt hmask, Bool.false_eq_true, if_false]

end Target

/-! ## The obligation -/

/-- Settles O34: each row answers its operation's next state, and the target keeps and answers what R356 says. -/
theorem i3cTarget : Obligations.I3cTarget := by
  unfold Obligations.I3cTarget
  refine ⟨?rows, ?entdaa, ?broadcast, ?unaddressed, ?directed⟩
  case rows =>
    intro s u addr at_ mask act hu hrun
    exact ⟨exec_entdaa_run hu hrun, exec_rstdaa_run hu hrun, exec_enec_run hu hrun, exec_disec_run hu hrun,
      exec_rstact_run hu hrun, exec_setnewda_run hu hrun, exec_getpid_run hu hrun, exec_getbcr_run hu hrun,
      exec_getdcr_run hu hrun, exec_getstatus_run hu hrun, exec_getmrl_run hu hrun, exec_getmwl_run hu hrun⟩
  case entdaa =>
    intro s u addr at_ hu hrun haddr
    rw [exec_entdaa_run hu hrun]
    refine ⟨fun hhas => ?_, fun v hnone hpid => ?_, fun hnone hpid => ?_⟩
    · rw [i3cEntdaa_with_address hhas]
    · rw [i3cEntdaa_without_address haddr hnone, i3cPid_drawn hpid]
    · rw [i3cEntdaa_without_address haddr hnone]
  case broadcast =>
    intro s u at_ mask act hu hrun hmask hact
    rw [exec_rstdaa_run hu hrun, exec_enec_run hu hrun, exec_disec_run hu hrun, exec_rstact_run hu hrun,
      i3cEvents_set hmask, i3cEvents_clear hmask, Nat.mod_eq_of_lt hact]
    exact ⟨rfl, rfl, rfl, rfl⟩
  case unaddressed =>
    intro s u at_ addr hu hrun hnone
    rw [exec_setnewda_run hu hrun, exec_getpid_run hu hrun, exec_getbcr_run hu hrun, exec_getdcr_run hu hrun,
      exec_getstatus_run hu hrun, exec_getmrl_run hu hrun, exec_getmwl_run hu hrun]
    simp only [i3cDirected_without_address hnone, and_self]
  case directed =>
    intro s u at_ hu hrun hhas
    rw [exec_getpid_run hu hrun, exec_getbcr_run hu hrun, exec_getdcr_run hu hrun, exec_getstatus_run hu hrun,
      exec_getmrl_run hu hrun, exec_getmwl_run hu hrun]
    simp only [i3cDirected_with_address hhas, i3cGetPid, i3cGetStatus, and_true]
    intro addr haddr
    rw [exec_setnewda_run hu hrun, i3cDirected_with_address hhas, i3cSetAddr_some haddr]

end Sys2Proof.Machine
end

section
/-! PROOFS. DOE discovery and SPDM (12 R330; 14 R408): the rows answer their operation's next state wherever the chip runs; what a
request is answered by DOE, by whether Gesta serves, and that MCTP carries the same requests. -/

namespace Sys2Proof.Machine

open Sys2Proof

/-! ## The rows of DOE and SPDM -/

section Rows

variable {s u : State} {index way ver slot off len at_ : Nat} {nonce : List Byte}

theorem exec_doeDiscovery_run (hu : u = s.advance at_) (hrun : chipOn u = true) :
    exec (.doeDiscovery index at_) s = .next (finish u (doeDiscovery u index)) := by
  rw [exec_doeDiscovery]
  exact atTime_whenOn (f := fun s => doeDiscovery s index) hu rfl hrun

theorem exec_getVersion_run (hu : u = s.advance at_) (hrun : chipOn u = true) (hway : way < 3) :
    exec (.getVersion way at_) s = .next (finish u (spdmVia u way fun v => spdmVersion v way)) := by
  rw [exec_getVersion]
  exact atTime_whenOn (f := fun s => spdmVia s way fun v => spdmVersion v way) hu (decide_eq_true hway) hrun

theorem exec_getCapabilities_run (hu : u = s.advance at_) (hrun : chipOn u = true) (hway : way < 3) :
    exec (.getCapabilities way ver at_) s = .next (finish u (spdmVia u way fun v => spdmCaps v way ver)) := by
  rw [exec_getCapabilities]
  exact atTime_whenOn (f := fun s => spdmVia s way fun v => spdmCaps v way ver) hu (decide_eq_true hway) hrun

theorem exec_negotiateAlgorithms_run (hu : u = s.advance at_) (hrun : chipOn u = true) (hway : way < 3) :
    exec (.negotiateAlgorithms way at_) s = .next (finish u (spdmVia u way fun v => spdmAlgs v way)) := by
  rw [exec_negotiateAlgorithms]
  exact atTime_whenOn (f := fun s => spdmVia s way fun v => spdmAlgs v way) hu (decide_eq_true hway) hrun

theorem exec_getDigests_run (hu : u = s.advance at_) (hrun : chipOn u = true) (hway : way < 3) :
    exec (.getDigests way at_) s = .next (finish u (spdmVia u way fun v => spdmDigests v way)) := by
  rw [exec_getDigests]
  exact atTime_whenOn (f := fun s => spdmVia s way fun v => spdmDigests v way) hu (decide_eq_true hway) hrun

theorem exec_getCertificate_run (hu : u = s.advance at_) (hrun : chipOn u = true) (hway : way < 3) :
    exec (.getCertificate way slot off len at_) s =
      .next (finish u (spdmVia u way fun v => spdmCert v way slot off len)) := by
  rw [exec_getCertificate]
  exact atTime_whenOn (f := fun s => spdmVia s way fun v => spdmCert v way slot off len) hu (decide_eq_true hway) hrun

theorem exec_challenge_run (hu : u = s.advance at_) (hrun : chipOn u = true) (hway : way < 3) :
    exec (.challenge way slot nonce at_) s = .next (finish u (spdmVia u way fun v => spdmChallenge v way slot nonce)) := by
  rw [exec_challenge]
  exact atTime_whenOn (f := fun s => spdmVia s way fun v => spdmChallenge v way slot nonce) hu (decide_eq_true hway) hrun

theorem exec_getMeasurements_run (hu : u = s.advance at_) (hrun : chipOn u = true) (hway : way < 3) :
    exec (.getMeasurements way index nonce at_) s =
      .next (finish u (spdmVia u way fun v => spdmMeasure v way index nonce)) := by
  rw [exec_getMeasurements]
  exact atTime_whenOn (f := fun s => spdmVia s way fun v => spdmMeasure v way index nonce) hu (decide_eq_true hway) hrun

end Rows

/-! ## The ways in (12 R330, 14 R408) -/

section Ways

variable {s : State} {f : State → State} {way code index : Nat}

theorem spdmVia_doe_busy (h : gestaServes s = false) : spdmVia s 0 f = s.emit .doeBusy := by
  simp [spdmVia, h]

theorem spdmVia_doe (h : gestaServes s = true) : spdmVia s 0 f = f s := by
  simp [spdmVia, h]

theorem spdmVia_mctp (h : gestaServes s = true) (hway : way = 1 ∨ way = 2) (heid : mctpEid s (way == 1) ≠ 0) :
    spdmVia s way f = f s := by
  have hbound : ¬ way > 2 := by omega
  have hmctp : way ≠ 0 := by omega
  simp only [spdmVia, if_neg hbound, h, Bool.not_true, Bool.false_eq_true, if_false, if_neg hmctp, mctpOpen_with_eid heid]

/-- By DOE an answer is the data object alone. -/
theorem spdmSend_doe (parts : List (List Byte)) : spdmSend s 0 code parts = s.emit (.spdm 0 code parts) := rfl

theorem doeDiscovery_busy (h : gestaServes s = false) : doeDiscovery s index = s.emit .doeBusy := by
  simp [doeDiscovery, h]

theorem doeDiscovery_serves (h : gestaServes s = true) : doeDiscovery s index = s.emit (.doe
    (if index = 0 then [1, 0, 0, 1] else if index = 1 then [1, 0, 1, 0] else [0xFF, 0xFF, 0, 0])) := by
  rw [doeDiscovery, h, apply_ite Out.doe, apply_ite Out.doe, apply_ite s.emit, apply_ite s.emit]
  rfl

end Ways

/-! ## SPDM's answers by DOE (14 R408) -/

section Answers

variable {s : State} {ver slot off len i : Nat} {nonce : List Byte} {body bs : List (List Byte)}

theorem spdmCaps_known (h : ver = 0x12 ∨ ver = 0x13) : spdmCaps s 0 ver =
    (modBus s fun b => { b with spdm := mput b.spdm 0 ver }).emit (.spdm 0 2 [[1], [1], [2]]) := if_pos h

theorem spdmCaps_other (h2 : ver ≠ 0x12) (h3 : ver ≠ 0x13) : spdmCaps s 0 ver = s.emit (.spdm 0 0x7F []) :=
  if_neg (not_or_intro h2 h3)

theorem spdmCert_eq : spdmCert s 0 slot off len = s.emit (
    if slot = 0 ∧ off < (spdmChain s).length then .spdm 0 5 [((spdmChain s).drop off).take len,
      leBytes 2 ((spdmChain s).length - off - min len ((spdmChain s).length - off))]
    else .spdm 0 0x7F []) :=
  (apply_ite s.emit ..).symm

theorem spdmChallenge_other_slot (h : slot ≠ 0) : spdmChallenge s 0 slot nonce = s.emit (.spdm 0 0x7F []) := if_pos h

theorem spdmChallenge_slot (h : slot = 0)
    (hbody : body = [Config.sha384 (spdmChain s), spdmNonce s, Config.sha384 ((measureBlocks s).flatMap id)]) :
    spdmChallenge s 0 slot nonce = ({ s with freeCtr := s.freeCtr + 32 } : State).emit
      (.spdm 0 6 (body ++ [Config.ecdsaSign s.gmc.alias_ (nonce ++ body.flatMap id)])) := by
  subst hbody
  exact if_neg (not_not_intro h)

/-- The last two of the nine measurements stand there whatever the boot measured. -/
theorem measureBlocks_ne_nil : measureBlocks s ≠ [] := by
  simp [measureBlocks, measures]

theorem spdmMeasure_other_index (h : i = 0 ∨ 9 < i ∧ i ≠ 0xFF) : spdmMeasure s 0 i nonce = s.emit (.spdm 0 0x7F []) := by
  have hall : i ≠ 0xFF := by omega
  have hone : ¬(1 ≤ i ∧ i ≤ 9) := by omega
  simp only [spdmMeasure, if_neg hall, if_neg hone, List.isEmpty_nil, if_true, spdmSend_doe]

theorem spdmMeasure_index (h : 1 ≤ i ∧ i ≤ 9 ∨ i = 0xFF)
    (hbs : bs = if i = 0xFF then measureBlocks s else [(measureBlocks s).getD (i - 1) []]) :
    spdmMeasure s 0 i nonce = ({ s with freeCtr := s.freeCtr + 32 } : State).emit (.spdm 0 7 (bs ++
      [spdmNonce s, Config.ecdsaSign s.gmc.alias_ (nonce ++ spdmNonce s ++ bs.flatMap id)])) := by
  have hpick : (if i = 0xFF then measureBlocks s
      else if 1 ≤ i ∧ i ≤ 9 then [(measureBlocks s).getD (i - 1) []] else []) = bs := by
    rw [hbs]
    split
    · rfl
    next hall => exact if_pos (h.resolve_right hall)
  have hsome : bs ≠ [] := by
    rw [hbs]
    split
    · exact measureBlocks_ne_nil
    · exact List.cons_ne_nil _ _
  simp only [spdmMeasure, hpick, List.isEmpty_iff, if_neg hsome, spdmSend_doe]

end Answers

/-! ## The obligation -/

/-- Settles O35: each row answers its operation's next state, Gesta's answers by DOE are those of R330 and R408, and MCTP carries
the same. -/
theorem spdmAndDoe : Obligations.SpdmAndDoe := by
  unfold Obligations.SpdmAndDoe
  refine ⟨?rows, ?busy, ?serves, ?certificate, ?challenge, ?measurements, ?mctp⟩
  case rows =>
    intro s u index at_ way ver slot off len nonce hu hrun hway
    exact ⟨exec_doeDiscovery_run hu hrun, exec_getVersion_run hu hrun hway, exec_getCapabilities_run hu hrun hway,
      exec_negotiateAlgorithms_run hu hrun hway, exec_getDigests_run hu hrun hway, exec_getCertificate_run hu hrun hway,
      exec_challenge_run hu hrun hway, exec_getMeasurements_run hu hrun hway⟩
  case busy =>
    intro s u at_ i ver slot off len index nonce hu hrun hbusy
    rw [exec_doeDiscovery_run hu hrun, doeDiscovery_busy hbusy, exec_getVersion_run hu hrun three_pos,
      exec_getCapabilities_run hu hrun three_pos, exec_negotiateAlgorithms_run hu hrun three_pos,
      exec_getDigests_run hu hrun three_pos, exec_getCertificate_run hu hrun three_pos,
      exec_challenge_run hu hrun three_pos, exec_getMeasurements_run hu hrun three_pos]
    simp only [spdmVia_doe_busy hbusy, and_self]
  case serves =>
    intro s u at_ i ver hu hrun hserves
    rw [exec_doeDiscovery_run hu hrun, doeDiscovery_serves hserves, exec_getVersion_run hu hrun three_pos,
      exec_getCapabilities_run hu hrun three_pos, exec_negotiateAlgorithms_run hu hrun three_pos,
      exec_getDigests_run hu hrun three_pos]
    simp only [spdmVia_doe hserves]
    refine ⟨trivial, rfl, fun hknown => ?_, fun h2 h3 => ?_, rfl, rfl⟩
    · rw [spdmCaps_known hknown]
    · rw [spdmCaps_other h2 h3]
  case certificate =>
    intro s u at_ slot off len hu hrun hserves
    rw [exec_getCertificate_run hu hrun three_pos, spdmVia_doe hserves, spdmCert_eq]
  case challenge =>
    intro s u at_ slot nonce body hu hrun hserves hbody
    rw [exec_challenge_run hu hrun three_pos, spdmVia_doe hserves]
    refine ⟨fun hother => ?_, fun hslot => ?_⟩
    · rw [spdmChallenge_other_slot hother]
    · rw [spdmChallenge_slot hslot hbody]
  case measurements =>
    intro s u at_ i nonce bs hu hrun hserves hbs
    rw [exec_getMeasurements_run hu hrun three_pos, spdmVia_doe hserves]
    refine ⟨fun hother => ?_, fun hindex => ?_⟩
    · rw [spdmMeasure_other_index hother]
    · rw [spdmMeasure_index hindex hbs]
  case mctp =>
    intro s u at_ way ver slot off len index nonce hu hrun hserves hway heid
    have hbound : way < 3 := by omega
    rw [exec_getVersion_run hu hrun hbound, exec_getCapabilities_run hu hrun hbound,
      exec_negotiateAlgorithms_run hu hrun hbound, exec_getDigests_run hu hrun hbound,
      exec_getCertificate_run hu hrun hbound, exec_challenge_run hu hrun hbound, exec_getMeasurements_run hu hrun hbound]
    simp only [spdmVia_mctp hserves hway heid, and_self]

end Sys2Proof.Machine
end

section
/-! PROOFS. The host's rings (12 R332 to R339, R343, R344): the rows answer their operation's next state where the write is taken
or the chip runs; control words of command and completion rings, doorbells and descriptor fetch. -/

namespace Sys2Proof.Machine

open Sys2Proof

/-! ## The rows of rings -/

section Rows

variable {s u : State} {m : Master} {n val be at_ : Nat} {words : List Word} {ev : BootEv}

theorem exec_crEnWrite_taken (hval : val < 2 ^ 32) (hbe : beOk m be = true) (h : takesWrite s m .HST_CR n 0 = true) :
    exec (.crEnWrite m n val be) s = .next (finish s (crWrite (wrote s m .HST_CR n 0) m n 0 val be)) := by
  rw [exec_crEnWrite]
  exact atNow_rowWrite (f := fun s => crWrite s m n 0 val be)
    (by simp only [takesWrite_ok h, hval, hbe, decide_true, Bool.and_self]) h

theorem exec_cqEnWrite_taken (hval : val < 2 ^ 32) (hbe : beOk m be = true) (h : takesWrite s m .HST_CQ n 0 = true) :
    exec (.cqEnWrite m n val be) s = .next (finish s (cqWrite (wrote s m .HST_CQ n 0) m n 0 val be)) := by
  rw [exec_cqEnWrite]
  exact atNow_rowWrite (f := fun s => cqWrite s m n 0 val be)
    (by simp only [takesWrite_ok h, hval, hbe, decide_true, Bool.and_self]) h

/-- A row without a time that only the safe state and reset stop, its operands in range (15 R424). -/
theorem atNow_whenLive {ok : Bool} {f : State → State} (hok : ok = true) (hrun : liveRuns s = true) :
    atNow s ok (fun s => whenLive s f) = .next (finish s (f s)) := by
  subst hok
  rw [atNow_run, whenLive_run hrun]

theorem exec_tail_run (hrun : liveRuns s = true) (hn : n < 128) (hval : val < 2 ^ 32) (hbe : be < 16) :
    exec (.tail n val be) s = .next (finish s (if s.host.pcie.dstate = 3 then s else tailWrite s n val be)) := by
  rw [exec_tail]
  exact atNow_whenLive (f := fun s => if s.host.pcie.dstate = 3 then s else tailWrite s n val be)
    (by simp only [hn, hval, hbe, decide_true, Bool.and_self]) hrun

theorem exec_head_run (hrun : liveRuns s = true) (hn : n < 128) (hval : val < 2 ^ 32) (hbe : be < 16) :
    exec (.head n val be) s = .next (finish s (if s.host.pcie.dstate = 3 then s else headWrite s n val be)) := by
  rw [exec_head]
  exact atNow_whenLive (f := fun s => if s.host.pcie.dstate = 3 then s else headWrite s n val be)
    (by simp only [hn, hval, hbe, decide_true, Bool.and_self]) hrun

theorem exec_descriptorFetch_run (hu : u = s.advance at_) (hrun : liveRuns u = true) :
    exec (.descriptorFetch words at_) s = .next (finish u (fetchDescriptor u words)) := by
  rw [exec_descriptorFetch]
  exact atTime_whenLive (f := fun s => fetchDescriptor s words) hu rfl hrun

theorem exec_functionLevelReset_run (hu : u = s.advance at_) (hrun : chipOn u = true) :
    exec (.functionLevelReset ev at_) s = .next (finish u (settleSite ev (hostReset (resetTaken u 5 none)))) := by
  rw [exec_functionLevelReset]
  exact atTime_whenOn (f := fun s => settleSite ev (hostReset (resetTaken s 5 none))) hu rfl hrun

theorem exec_dlDown_run (hu : u = s.advance at_) (hrun : chipOn u = true) :
    exec (.dlDown ev at_) s = .next (finish u (settleSite ev (hostReset (resetTaken u 5 none)))) := by
  rw [exec_dlDown]
  exact atTime_whenOn (f := fun s => settleSite ev (hostReset (resetTaken s 5 none))) hu rfl hrun

end Rows

/-! ## The control word of a command ring (R335, R344) -/

section CommandRing

variable {c d : State} {m : Master} {r val be : Nat}

theorem crWrite_without_enable
    (hd : d = guardedWrite c m .HST_CR r 0 val be (fun f => c.rd F.HST_CR_STATE r != 0 && crLocked f) (· == F.HST_CR_EN))
    (hbe : bitAt be 3 = false) : crWrite c m r 0 val be = d := by
  rw [hd]
  exact if_pos (.inr hbe)

/-- EN 1 opens a DISABLED ring whose size and completion ring are good, and leaves one that is open or STOPPED. -/
theorem crWrite_enable
    (hd : d = guardedWrite c m .HST_CR r 0 val be (fun f => c.rd F.HST_CR_STATE r != 0 && crLocked f) (· == F.HST_CR_EN))
    (hbe : bitAt be 3 = true) (hval : bitAt val 31 = true) :
    crWrite c m r 0 val be =
      if c.rd F.HST_CR_STATE r = 1 ∨ c.rd F.HST_CR_STATE r = 3 then d
      else if c.rd F.HST_CR_STATE r = 0 ∧ 4 ≤ d.rd F.HST_CR_LOG2N r ∧ d.rd F.HST_CR_LOG2N r ≤ 12 ∧
          d.flag F.HST_CQ_EN (d.rd F.HST_CR_CQ r) = true then
        ((((d.wr F.HST_CR_EN r 1).wr F.HST_CR_STATE r 1).wr F.HST_CR_ERR r 0).wr F.HST_CR_HEAD r 0).wr F.HST_CR_TAIL r 0
      else d.accessFault m 1 (regOff .HST_CR r) := by
  rw [hd]
  exact (if_neg (by simp [hbe])).trans (if_pos hval)

/-- EN 0 stops a ring that is open or STOPPED. -/
theorem crWrite_disable
    (hd : d = guardedWrite c m .HST_CR r 0 val be (fun f => c.rd F.HST_CR_STATE r != 0 && crLocked f) (· == F.HST_CR_EN))
    (hbe : bitAt be 3 = true) (hval : bitAt val 31 = false) :
    crWrite c m r 0 val be =
      if c.rd F.HST_CR_STATE r = 1 ∨ c.rd F.HST_CR_STATE r = 3 then
        settleRing ((d.wr F.HST_CR_EN r 0).wr F.HST_CR_STATE r 2) r
      else d := by
  rw [hd]
  exact (if_neg (by simp [hbe])).trans (if_neg (ne_true_of_eq_false hval))

end CommandRing

/-! ## The control word of a completion ring (R335, R343) -/

section CompletionRing

variable {c d e : State} {m : Master} {q val be : Nat}

theorem cqWrite_enable_kept
    (hd : d = guardedWrite c m .HST_CQ q 0 val be (fun f => c.flag F.HST_CQ_EN q && cqLocked f) (· == F.HST_CQ_EN))
    (h : bitAt be 3 = false ∨ bitAt val 31 = c.flag F.HST_CQ_EN q) : cqWrite c m q 0 val be = cqIrq d q := by
  rw [hd]
  exact congrArg (cqIrq · q) (if_pos (.inr h))

/-- EN 1 empties a ring that was off and arms its interrupt, where its size is good. -/
theorem cqWrite_enable
    (hd : d = guardedWrite c m .HST_CQ q 0 val be (fun f => c.flag F.HST_CQ_EN q && cqLocked f) (· == F.HST_CQ_EN))
    (he : e = (((d.wr F.HST_CQ_EN q 1).wr F.HST_CQ_HEAD q 0).wr F.HST_CQ_TAIL q 0).wr F.HST_CQ_PHASE q 1)
    (hbe : bitAt be 3 = true) (hval : bitAt val 31 = true) (hoff : c.flag F.HST_CQ_EN q = false) :
    cqWrite c m q 0 val be = cqIrq (if 4 ≤ d.rd F.HST_CQ_LOG2N q ∧ d.rd F.HST_CQ_LOG2N q ≤ 12 then
        arm { e with host := { e.host with written := mdel e.host.written q } } q
      else d.accessFault m 1 (regOff .HST_CQ q)) q := by
  rw [he, hd]
  exact congrArg (cqIrq · q) ((if_neg (by simp [hbe, hval, hoff])).trans (if_pos hval))

/-- EN 0 turns a ring off that no enabled command ring names. -/
theorem cqWrite_disable
    (hd : d = guardedWrite c m .HST_CQ q 0 val be (fun f => c.flag F.HST_CQ_EN q && cqLocked f) (· == F.HST_CQ_EN))
    (hbe : bitAt be 3 = true) (hval : bitAt val 31 = false) (hon : c.flag F.HST_CQ_EN q = true) :
    cqWrite c m q 0 val be =
      cqIrq (if ((List.range 128).any fun r => d.flag F.HST_CR_EN r && d.rd F.HST_CR_CQ r == q) = true then
        d.accessFault m 1 (regOff .HST_CQ q)
      else d.wr F.HST_CQ_EN q 0) q := by
  rw [hd]
  exact congrArg (cqIrq · q) ((if_neg (by simp [hbe, hval, hon])).trans (if_neg (ne_true_of_eq_false hval)))

end CompletionRing

/-! ## Doorbells (R334, R336, R343) -/

section Doorbells

variable {s : State} {r q val be : Nat}

theorem wholeBe_of_ne (hbe : be < 16) (h : be ≠ 15) : wholeBe be = false := by
  rw [wholeBe, Nat.mod_eq_of_lt hbe]
  exact beq_false_of_ne h

theorem tailWrite_partial (h : wholeBe be = false) : tailWrite s r val be = doorbellFault s := if_pos (by simp [h])

theorem headWrite_partial (h : wholeBe be = false) : headWrite s q val be = doorbellFault s := if_pos (by simp [h])

theorem headWrite_whole : headWrite s q val 15 = cqIrq (arm (s.wr F.HST_CQ_HEAD q (val % 4096)) q) q := rfl

theorem tailWrite_not_active (h : s.rd F.HST_CR_STATE r ≠ 1) : tailWrite s r val 15 = s := if_pos h

/-- A TAIL that is no place of an ACTIVE ring stops it. -/
theorem tailWrite_active (h : s.rd F.HST_CR_STATE r = 1) : tailWrite s r val 15 =
    if val % 4096 ≥ 2 ^ s.rd F.HST_CR_LOG2N r then stopRing s r 1 else s.wr F.HST_CR_TAIL r (val % 4096) :=
  if_neg (not_not_intro h)

end Doorbells

/-! ## Descriptor fetch (R337 to R339) -/

section Fetch

variable {s d e : State} {words : List Word} {r st : Nat}

theorem fetchDescriptor_none (h : fetchRing s = none) : fetchDescriptor s words = s := by
  simp only [fetchDescriptor, h]

/-- HEAD moves on, and the descriptor becomes the newest operation, which ends at once where it is refused. -/
theorem fetchDescriptor_some (h : fetchRing s = some r)
    (hst : st = fetchStatus s ⟨r, words.take 16, 0, 0, 0, 0, 0, false⟩)
    (hd : d = s.wr F.HST_CR_HEAD r ((s.rd F.HST_CR_HEAD r + 1) % 2 ^ s.rd F.HST_CR_LOG2N r))
    (he : e = { d with host := { d.host with
      ops := mput d.host.ops s.host.nextOp ⟨r, words.take 16, 0, 0, 0, 0, 0, false⟩
      nextOp := s.host.nextOp + 1, rr := r } }) :
    fetchDescriptor s words = if st = 0 then e else hostDone e s.host.nextOp st 0 0 0 := by
  rw [he, hd, hst]
  simp only [fetchDescriptor, h]

end Fetch

/-! ## The obligation -/

/-- Settles O26: each row answers its operation's next state, and rings are enabled, rung and fetched from as R332 to R344
say. -/
theorem hostRings : Obligations.HostRings := by
  unfold Obligations.HostRings
  refine ⟨?writeRows, ?doorbellRows, ?fetchRow, ?resetRows, ?command, ?completion, ?doorbells, ?noFetch, ?fetch, ?resets⟩
  case writeRows =>
    intro s m ring val be q hval hbe
    exact ⟨exec_crEnWrite_taken hval hbe, exec_cqEnWrite_taken hval hbe⟩
  case doorbellRows =>
    intro s ring val be q hrun hring hval hbe hq
    exact ⟨exec_tail_run hrun hring hval hbe, exec_head_run hrun hq hval hbe⟩
  case fetchRow =>
    intro s u words at_ hu hrun
    exact exec_descriptorFetch_run hu hrun
  case resetRows =>
    intro s u ev at_ hu hrun
    exact ⟨exec_functionLevelReset_run hu hrun, exec_dlDown_run hu hrun⟩
  case command =>
    intro s c d m r val be off hval hbe htakes hc hoff hd
    rw [exec_crEnWrite_taken hval hbe htakes, ← hc, hoff]
    refine ⟨fun hpart => ?part, fun hen hset hst hlow hhigh hcq => ?opens, fun hen hset hst hbad => ?badRing,
      fun hen hset hst => ?stopping, fun hen hset hst => ?stays, fun hen hclear hst => ?stops, fun hen hclear hst => ?off⟩
    case part => rw [crWrite_without_enable hd hpart]
    case opens => rw [crWrite_enable hd hen hset, if_neg (by omega), if_pos ⟨hst, hlow, hhigh, hcq⟩]
    case badRing =>
      have hrefused : ¬(c.rd F.HST_CR_STATE r = 0 ∧ 4 ≤ d.rd F.HST_CR_LOG2N r ∧ d.rd F.HST_CR_LOG2N r ≤ 12 ∧
          d.flag F.HST_CQ_EN (d.rd F.HST_CR_CQ r) = true) := by
        rintro ⟨-, hlow, hhigh, hcq⟩
        rcases hbad with hsmall | hbig | hcqOff
        · omega
        · omega
        · exact ne_true_of_eq_false hcqOff hcq
      rw [crWrite_enable hd hen hset, if_neg (by omega), if_neg hrefused]
    case stopping => rw [crWrite_enable hd hen hset, if_neg (by omega), if_neg (by omega)]
    case stays => rw [crWrite_enable hd hen hset, if_pos hst]
    case stops => rw [crWrite_disable hd hen hclear, if_pos hst]
    case off => rw [crWrite_disable hd hen hclear, if_neg (by omega)]
  case completion =>
    intro s c d e m q val be off hval hbe htakes hc hoff hd he
    rw [exec_cqEnWrite_taken hval hbe htakes, ← hc, hoff]
    refine ⟨fun hkept => ?kept, fun hen hset hwas hlow hhigh => ?on, fun hen hset hwas hsize => ?badSize,
      fun hen hclear hwas hused => ?used, fun hen hclear hwas hfree => ?off⟩
    case kept => rw [cqWrite_enable_kept hd hkept]
    case on => rw [cqWrite_enable hd he hen hset hwas, if_pos ⟨hlow, hhigh⟩]
    case badSize => rw [cqWrite_enable hd he hen hset hwas, if_neg (by omega)]
    case used => rw [cqWrite_disable hd hen hclear hwas, if_pos hused]
    case off => rw [cqWrite_disable hd hen hclear hwas, if_neg (ne_true_of_eq_false hfree)]
  case doorbells =>
    intro s r val be hr hval hbe hrun
    rw [exec_tail_run hrun hr hval hbe, exec_head_run hrun hr hval hbe]
    refine ⟨fun hcold => ?d3, fun hwarm hpart => ?part, fun hwarm hwhole => ?whole⟩
    case d3 => simp only [if_pos hcold, and_self]
    case part =>
      have hbytes := wholeBe_of_ne hbe hpart
      rw [if_neg hwarm, if_neg hwarm, tailWrite_partial hbytes, headWrite_partial hbytes]
      exact ⟨rfl, rfl⟩
    case whole =>
      subst hwhole
      rw [if_neg hwarm, if_neg hwarm, headWrite_whole]
      refine ⟨fun hst => ?_, fun hst hbeyond => ?_, fun hst hin => ?_, rfl⟩
      · rw [tailWrite_not_active hst]
      · rw [tailWrite_active hst, if_pos hbeyond]
      · rw [tailWrite_active hst, if_neg hin.not_ge]
  case noFetch =>
    intro s u ws at_ hu hrun hnone
    rw [exec_descriptorFetch_run hu hrun, fetchDescriptor_none hnone]
  case fetch =>
    intro s u d e ws at_ r st hu hrun hring hst hd he
    rw [exec_descriptorFetch_run hu hrun, fetchDescriptor_some hring hst hd he]
    refine ⟨fun haccepted => ?_, fun hrefused => ?_⟩
    · rw [if_pos haccepted]
    · rw [if_neg hrefused]
  case resets =>
    intro s u ev at_ hu hrun
    exact ⟨exec_functionLevelReset_run hu hrun, exec_dlDown_run hu hrun⟩

end Sys2Proof.Machine
end

section
/-! PROOFS. The operations of command rings (12 R337, R338, R345 to R353): the rows answer their operation's next state where the
chip or the core runs; what each kind of descriptor does once its operation starts, and what it waits for. -/

namespace Sys2Proof.Machine

open Sys2Proof

/-! ## The rows of operations -/

section Rows

variable {s u : State} {n at_ : Nat} {words : List Word} {ev : BootEv} {data : List Byte} {evs : List LineEv}
  {bad : Option Nat}

theorem exec_nop_run (hu : u = s.advance at_) (hrun : liveRuns u = true) :
    exec (.nop n at_) s = .next (finish u (opNop u n)) := by
  rw [exec_nop]
  exact atTime_whenLive (f := fun s => opNop s n) hu rfl hrun

theorem exec_recvPost_run (hu : u = s.advance at_) (hrun : liveRuns u = true) :
    exec (.recvPost n at_) s = .next (finish u (opRecvPost u n)) := by
  rw [exec_recvPost]
  exact atTime_whenLive (f := fun s => opRecvPost s n) hu rfl hrun

theorem exec_regRead_run (hu : u = s.advance at_) (hrun : liveRuns u = true) :
    exec (.regRead n at_) s = .next (finish u (opRegRead u n)) := by
  rw [exec_regRead]
  exact atTime_whenLive (f := fun s => opRegRead s n) hu rfl hrun

theorem exec_regWrite_run (hu : u = s.advance at_) (hrun : liveRuns u = true) :
    exec (.regWrite n words ev at_) s = .next (finish u (settleSite ev (opRegWrite u n words ev))) := by
  rw [exec_regWrite]
  exact atTime_whenLive (f := fun s => settleSite ev (opRegWrite s n words ev)) hu rfl hrun

theorem exec_dma_run (hu : u = s.advance at_) (hrun : coreRuns u = true) :
    exec (.dma n data evs bad at_) s = .next (finish u (opDma u n data evs bad)) := by
  rw [exec_dma]
  exact atTime_whenCore (f := fun s => opDma s n data evs bad) hu rfl hrun

theorem exec_migrate_run (hu : u = s.advance at_) (hrun : coreRuns u = true) :
    exec (.migrate n at_) s = .next (finish u (opMigrate u n)) := by
  rw [exec_migrate]
  exact atTime_whenCore (f := fun s => opMigrate s n) hu rfl hrun

theorem exec_roomExport_run (hu : u = s.advance at_) (hrun : coreRuns u = true) :
    exec (.roomExport n evs at_) s = .next (finish u (opRoomExport u n evs)) := by
  rw [exec_roomExport]
  exact atTime_whenCore (f := fun s => opRoomExport s n evs) hu rfl hrun

theorem exec_telDump_run (hu : u = s.advance at_) (hrun : coreRuns u = true) :
    exec (.telDump n bad at_) s = .next (finish u (opTelDump u n bad)) := by
  rw [exec_telDump]
  exact atTime_whenCore (f := fun s => opTelDump s n bad) hu rfl hrun

theorem exec_groupOp_run (hu : u = s.advance at_) (hrun : coreRuns u = true) :
    exec (.groupOp n at_) s = .next (finish u (opGroup u n)) := by
  rw [exec_groupOp]
  exact atTime_whenCore (f := fun s => opGroup s n) hu rfl hrun

theorem exec_fabricSend_run (hu : u = s.advance at_) (hrun : coreRuns u = true) :
    exec (.fabricSend n data at_) s = .next (finish u (settleSwitch (opFabricSend u n data))) := by
  rw [exec_fabricSend]
  exact atTime_whenCore (f := fun s => settleSwitch (opFabricSend s n data)) hu rfl hrun

end Rows

/-! ## ROOM_EXPORT (R350) -/

/-- ROOM_EXPORT once it starts, on the started state `d`: its checks in their order, then the lines read and written to host
memory. -/
def exportStarted (d : State) (n : Nat) (ws : List Word) (base lim cmt : Nat) (evs : List LineEv) : State :=
  if d.well.poolUntil.isSome then hostDone d n 0x0D 0 0 0
  else if bits (dW ws 1) 28 2 ≥ 2 then hostDone d n 0x0C 0 0 0
  else if dW ws 2 = 0 then hostDone d n 0 0 0 0
  else if dW ws 2 % 64 ≠ 0 ∨ dW ws 3 * 64 + dW ws 2 > lim then hostDone d n 0x14 0 0 (base + dW ws 3 * 64)
  else if dW ws 3 * 64 + dW ws 2 > cmt then hostDone d n 0x15 0 0 (base + dW ws 3 * 64)
  else
    match readLines evs (linesOf (base + dW ws 3 * 64) (dW ws 2))
      (countPages (countAccess d 0 0 4 (base + dW ws 3 * 64) (dW ws 2)) (base + dW ws 3 * 64) (dW ws 2)) with
    | ((c, p, bytes), t) =>
      let k := if c = 0 then dW ws 2 else p - (base + dW ws 3 * 64)
      let v := if k = 0 then t else (t.cntW 25 k).emit (.hostWrite (hostAddr ws) (bytes.take k))
      hostDone (if c = 0 then v else v.report 8 4 (bits (dW ws 1) 16 7)) n c 0 k (if c = 0 then 0 else p)

section Export

variable {d : State} {n base lim cmt : Nat} {ws : List Word} {evs : List LineEv} (hpool : d.well.poolUntil = none)
include hpool

omit hpool in
theorem exportStarted_pool_reset (h : d.well.poolUntil.isSome = true) :
    exportStarted d n ws base lim cmt evs = hostDone d n 0x0D 0 0 0 := if_pos h

theorem exportStarted_reserved_area (harea : 2 ≤ bits (dW ws 1) 28 2) :
    exportStarted d n ws base lim cmt evs = hostDone d n 0x0C 0 0 0 := by
  rw [exportStarted, if_neg (by simp [hpool]), if_pos harea]

variable (harea : bits (dW ws 1) 28 2 < 2)
include harea

theorem exportStarted_empty (hsize : dW ws 2 = 0) :
    exportStarted d n ws base lim cmt evs = hostDone d n 0 0 0 0 := by
  rw [exportStarted, if_neg (by simp [hpool]), if_neg harea.not_ge, if_pos hsize]

variable (hsize : dW ws 2 ≠ 0)
include hsize

theorem exportStarted_misplaced (hbad : dW ws 2 % 64 ≠ 0 ∨ lim < dW ws 3 * 64 + dW ws 2) :
    exportStarted d n ws base lim cmt evs = hostDone d n 0x14 0 0 (base + dW ws 3 * 64) := by
  rw [exportStarted, if_neg (by simp [hpool]), if_neg harea.not_ge, if_neg hsize, if_pos hbad]

variable (hlines : dW ws 2 % 64 = 0) (hlim : dW ws 3 * 64 + dW ws 2 ≤ lim)
include hlines hlim

theorem exportStarted_uncommitted (hbeyond : cmt < dW ws 3 * 64 + dW ws 2) :
    exportStarted d n ws base lim cmt evs = hostDone d n 0x15 0 0 (base + dW ws 3 * 64) := by
  rw [exportStarted, if_neg (by simp [hpool]), if_neg harea.not_ge, if_neg hsize, if_neg (by omega), if_pos hbeyond]

/-- Lines read without a failure are written to host memory whole. -/
theorem exportStarted_reads {a : Nat} {bytes : List Byte} {t : State} (hcmt : dW ws 3 * 64 + dW ws 2 ≤ cmt)
    (hread : readLines evs (linesOf (base + dW ws 3 * 64) (dW ws 2)) (countPages
      (countAccess d 0 0 4 (base + dW ws 3 * 64) (dW ws 2)) (base + dW ws 3 * 64) (dW ws 2)) = ((0, a, bytes), t)) :
    exportStarted d n ws base lim cmt evs = hostDone ((t.cntW 25 (dW ws 2)).emit
      (.hostWrite (hostAddr ws) (bytes.take (dW ws 2)))) n 0 0 (dW ws 2) 0 := by
  rw [exportStarted, if_neg (by simp [hpool]), if_neg harea.not_ge, if_neg hsize, if_neg (by omega), if_neg hcmt.not_gt,
    hread]
  simp only [if_true, if_neg hsize]

end Export

theorem opRoomExport_eq {s : State} {n base lim cmt : Nat} {o : HostOp} {evs : List LineEv}
    (hop : mget s.host.ops n = some o)
    (harea : exportArea s (bits (dW o.words 1) 16 7) (bits (dW o.words 1) 31 1) (bits (dW o.words 1) 28 2) = (base, lim, cmt)) :
    opRoomExport s n evs = if lineWaits s (base + dW o.words 3 * 64) (dW o.words 2) false = true then s
      else hostOp s n 6 fun d _ => exportStarted d n o.words base lim cmt evs := by
  unfold opRoomExport
  rw [hop]
  simp only [harea]
  rfl

/-! ## DMA to the pool and FABRIC_SEND (R348, R352) -/

/-- DMA to the pool once it starts, on the started state `d`: refused whole, or its lines moved in rising order. -/
def dmaToPool (d : State) (n len src dst : Nat) (data : List Byte) (evs : List LineEv) (bad : Option Nat) : State :=
  if len = 0 then hostDone d n 0 0 0 0
  else if d.well.poolUntil.isSome then hostDone d n 0x0D 0 0 src
  else if (dmaCode d 0 src dst len).1 ≠ 0 then hostDone d n (dmaCode d 0 src dst len).1 0 0 (dmaCode d 0 src dst len).2
  else
    match dmaLines 0 src dst evs bad (len / 64) data ⟨0, 0, 0, []⟩ d with
    | (r, t) => hostDone t n r.code 0 (64 * r.lines) r.addr

section ToPool

variable {s : State} {n : Nat} {o : HostOp} {data : List Byte} {evs : List LineEv} {bad : Option Nat}
  (hop : mget s.host.ops n = some o) (hdir : dW o.words 1 % 4 = 0)
include hop hdir

theorem opDma_waits (hwaits : lineWaits s (poolAddr o.words 4) (dW o.words 2) true = true) :
    opDma s n data evs bad = s := by
  simp [opDma, hop, hdir, hwaits]

theorem opDma_toPool (hfree : lineWaits s (poolAddr o.words 4) (dW o.words 2) true = false) :
    opDma s n data evs bad = hostOp s n 4 fun d _ =>
      if dW o.words 6 ≠ 0 ∨ dW o.words 7 ≠ 0 then hostDone d n 0x80 0 0 0
      else dmaToPool d n (dW o.words 2) (poolAddr o.words 4) (poolAddr o.words 6) data evs bad := by
  simp [opDma, hop, hdir, hfree, dmaToPool]

end ToPool

section Lines

variable {d : State} {n len src dst c a : Nat} {data : List Byte} {evs : List LineEv} {bad : Option Nat}

theorem dmaToPool_empty (hlen : len = 0) : dmaToPool d n len src dst data evs bad = hostDone d n 0 0 0 0 := if_pos hlen

theorem dmaToPool_pool_reset (hlen : len ≠ 0) (h : d.well.poolUntil.isSome = true) :
    dmaToPool d n len src dst data evs bad = hostDone d n 0x0D 0 0 src := by
  rw [dmaToPool, if_neg hlen, if_pos h]

theorem dmaToPool_refused (hlen : len ≠ 0) (hpool : d.well.poolUntil = none) (hcode : dmaCode d 0 src dst len = (c, a))
    (hc : c ≠ 0) : dmaToPool d n len src dst data evs bad = hostDone d n c 0 0 a := by
  rw [dmaToPool, if_neg hlen, if_neg (by simp [hpool]), hcode, if_pos hc]

theorem dmaToPool_moves {r : DmaOut} {t : State} (hlen : len ≠ 0) (hpool : d.well.poolUntil = none)
    (hcode : dmaCode d 0 src dst len = (0, 0))
    (hlines : dmaLines 0 src dst evs bad (len / 64) data ⟨0, 0, 0, []⟩ d = (r, t)) :
    dmaToPool d n len src dst data evs bad = hostDone t n r.code 0 (64 * r.lines) r.addr := by
  rw [dmaToPool, if_neg hlen, if_neg (by simp [hpool]), hcode, if_neg (not_not_intro rfl), hlines]

end Lines

/-- The header that FABRIC_SEND builds from its descriptor's words: a FABRIC_SEND of the host's own endpoint. -/
def sendHdr (d : State) (ws : List Word) (vc len : Nat) : Header :=
  let h := mkHdr 0x50 (dW ws 1 % 2 ^ 20) vc d.hostEid len 0 (dW ws 6) (dW ws 3) (dW ws 4) (dW ws 5)
  { h with w1 := wput h.w1 27 1 (bits (dW ws 1) 31 1), w2 := wput h.w2 16 16 (bits (dW ws 2) 16 16) }

/-- FABRIC_SEND puts the cells of its packet on the host path, and is over once stage one has admitted them. -/
def fabricSent (d : State) (n : Nat) (ws : List Word) (vc len : Nat) (payload : List Byte) : State :=
  settleSends (modOp1
    ((mkCells (sendHdr d ws vc len) (payload.take len ++ List.replicate (len - payload.length) 0)).foldl
      (fun s c => receiveCell s 160 c) d) n fun o => { o with addr := d.sw.nextPid + 1 })

/-! ## An operation that is not there or may not start (R337) -/

section Idle

variable {s : State} {n : Nat} (hidle : ∀ o : HostOp, mget s.host.ops n = some o → canStart s n = false)
include hidle

theorem startOp_idle {kind : Nat} {f : State → List Word → State} : startOp s n kind f = s := by
  unfold startOp
  split
  · rfl
  next o hop => exact if_neg (by simp [hidle o hop])

theorem hostOp_idle {kind : Nat} {f : State → List Word → State} : hostOp s n kind f = s := startOp_idle hidle

theorem opRegRead_idle : opRegRead s n = s := by
  unfold opRegRead
  split
  · rfl
  · exact hostOp_idle hidle

theorem opRegWrite_idle {words : List Word} {ev : BootEv} : opRegWrite s n words ev = s := by
  unfold opRegWrite
  split
  · rfl
  · exact hostOp_idle hidle

theorem opDma_idle {data : List Byte} {evs : List LineEv} {bad : Option Nat} : opDma s n data evs bad = s := by
  unfold opDma
  split
  · rfl
  · dsimp only
    split
    · rfl
    · exact hostOp_idle hidle

theorem opRoomExport_idle {evs : List LineEv} : opRoomExport s n evs = s := by
  cases hop : mget s.host.ops n with
  | none => simp only [opRoomExport, hop]
  | some o =>
    rcases harea : exportArea s (bits (dW o.words 1) 16 7) (bits (dW o.words 1) 31 1) (bits (dW o.words 1) 28 2) with
      ⟨base, lim, cmt⟩
    rw [opRoomExport_eq hop harea, hostOp_idle hidle, ite_self]

end Idle

/-- A run of reads of at least one register answers some words. -/
theorem regReads_ne_nil {k off : Nat} {s : State} (h : k ≠ 0) : (regReads k off s).1 ≠ [] := by
  cases k with
  | zero => exact absurd rfl h
  | succ k => exact List.cons_ne_nil _ _

/-! ## An operation that starts (R337, R338) -/

section Starts

variable {s d : State} {n kind : Nat} {o : HostOp} {f : State → List Word → State}
  (hop : mget s.host.ops n = some o) (hstart : canStart s n = true)
  (hd : d = modOp1 s n fun o => { o with stage := 1 })
include hop hstart hd

theorem startOp_runs (hkind : opKind o = kind) : startOp s n kind f = f d o.words := by
  simp only [startOp, hop, hstart, hkind, beq_self_eq_true, Bool.and_self, if_true, ← hd]

theorem hostOp_reserved (hkind : opKind o = kind) (hres : wordsReserved kind o.words = true) :
    hostOp s n kind f = hostDone d n 0x80 0 0 0 := by
  rw [hostOp, startOp_runs hop hstart hd hkind, if_pos hres]

theorem hostOp_runs (hkind : opKind o = kind) (hres : wordsReserved kind o.words = false) :
    hostOp s n kind f = f d o.words := by
  rw [hostOp, startOp_runs hop hstart hd hkind, if_neg (ne_true_of_eq_false hres)]

/-! ### RECV_POST (R353) -/

theorem opRecvPost_runs (hkind : opKind o = 9) (hres : wordsReserved 9 o.words = false) :
    opRecvPost s n = if d.hostEpOn = false then hostDone d n 0x85 0 0 0
      else if 4096 ≤ d.host.recv.length then hostDone d n 0x86 0 0 0
      else { d with host := { d.host with recv := d.host.recv ++ [n] } } := by
  simp only [opRecvPost, hostOp_runs hop hstart hd hkind hres, Bool.not_eq_true', ge_iff_le]

/-! ### REG_READ and REG_WRITE (R347) -/

omit hstart hd in
theorem opRegRead_held (h : regHeld s o.words = true) : opRegRead s n = s :=
  if_pos (by simp [hop, h])

omit hstart hd in
theorem opRegWrite_held {ws : List Word} {ev : BootEv} (h : regHeld s o.words = true) : opRegWrite s n ws ev = s :=
  if_pos (by simp [hop, h])

theorem opRegRead_refused (hopen : regHeld s o.words = false) (hkind : opKind o = 3)
    (hbad : wordsReserved 3 o.words = true ∨ regRange o.words = false) : opRegRead s n = hostDone d n 0x80 0 0 0 := by
  rw [opRegRead, if_neg (by simp [hop, hopen])]
  cases hres : wordsReserved 3 o.words with
  | true => exact hostOp_reserved hop hstart hd hkind hres
  | false =>
    have hrange : regRange o.words = false := hbad.resolve_left (ne_true_of_eq_false hres)
    rw [hostOp_runs hop hstart hd hkind hres, hrange]
    rfl

theorem opRegWrite_refused {ws : List Word} {ev : BootEv} (hopen : regHeld s o.words = false) (hkind : opKind o = 2)
    (hbad : wordsReserved 2 o.words = true ∨ regRange o.words = false) :
    opRegWrite s n ws ev = hostDone d n 0x80 0 0 0 := by
  rw [opRegWrite, if_neg (by simp [hop, hopen])]
  cases hres : wordsReserved 2 o.words with
  | true => exact hostOp_reserved hop hstart hd hkind hres
  | false =>
    have hrange : regRange o.words = false := hbad.resolve_left (ne_true_of_eq_false hres)
    rw [hostOp_runs hop hstart hd hkind hres, hrange]
    rfl

/-- The words read are written to host memory together. -/
theorem opRegRead_runs (hopen : regHeld s o.words = false) (hkind : opKind o = 3) (hres : wordsReserved 3 o.words = false)
    (hrange : regRange o.words = true) (hlen : dW o.words 2 ≠ 0) :
    opRegRead s n = hostDone ((regReads (dW o.words 2) (dW o.words 1) d).2.emit (.hostWrite (hostAddr o.words)
      ((regReads (dW o.words 2) (dW o.words 1) d).1.flatMap (leBytes 4)))) n 0 0 (dW o.words 2) 0 := by
  have hsome : (regReads (dW o.words 2) (dW o.words 1) d).1.isEmpty = false := by
    rw [List.isEmpty_eq_false_iff]
    exact regReads_ne_nil hlen
  rw [opRegRead, if_neg (by simp [hop, hopen]), hostOp_runs hop hstart hd hkind hres, hrange]
  simp only [hsome, Bool.not_true, Bool.false_eq_true, if_false]

/-- The words up to the first access fault are written, and the fault's offset is the operation's address. -/
theorem opRegWrite_runs {ws : List Word} {ev : BootEv} {k : Nat} {fault : Option Nat} {t : State}
    (hopen : regHeld s o.words = false) (hkind : opKind o = 2) (hres : wordsReserved 2 o.words = false)
    (hrange : regRange o.words = true)
    (hwrites : regWrites ev (dW o.words 1) 0 ((List.range (dW o.words 2)).map fun i => ws.getD i 0) d = ((k, fault), t)) :
    opRegWrite s n ws ev = hostDone t n (if fault.isSome then 0x84 else 0) 0 k (fault.getD 0) := by
  rw [opRegWrite, if_neg (by simp [hop, hopen]), hostOp_runs hop hstart hd hkind hres, hrange]
  simp only [hwrites, Bool.not_true, Bool.false_eq_true, if_false]
  cases fault <;> rfl

/-! ### DMA to the pool (R348) -/

section ToPool

variable {data : List Byte} {evs : List LineEv} {bad : Option Nat}

theorem opDma_refused (hkind : opKind o = 4) (hdir : dW o.words 1 % 4 = 0)
    (hfree : lineWaits s (poolAddr o.words 4) (dW o.words 2) true = false)
    (hbad : wordsReserved 4 o.words = true ∨ dW o.words 6 ≠ 0 ∨ dW o.words 7 ≠ 0) :
    opDma s n data evs bad = hostDone d n 0x80 0 0 0 := by
  rw [opDma_toPool hop hdir hfree]
  cases hres : wordsReserved 4 o.words with
  | true => rw [hostOp_reserved hop hstart hd hkind hres]
  | false => rw [hostOp_runs hop hstart hd hkind hres, if_pos (hbad.resolve_left (ne_true_of_eq_false hres))]

theorem opDma_runs (hkind : opKind o = 4) (hdir : dW o.words 1 % 4 = 0)
    (hfree : lineWaits s (poolAddr o.words 4) (dW o.words 2) true = false)
    (hres : wordsReserved 4 o.words = false) (h6 : dW o.words 6 = 0) (h7 : dW o.words 7 = 0) :
    opDma s n data evs bad = dmaToPool d n (dW o.words 2) (poolAddr o.words 4) (poolAddr o.words 6) data evs bad := by
  rw [opDma_toPool hop hdir hfree, hostOp_runs hop hstart hd hkind hres,
    if_neg (not_or_intro (not_not_intro h6) (not_not_intro h7))]

end ToPool

/-! ### MIGRATE, TEL_DUMP and GROUP_OP (R346, R349, R351) -/

theorem opMigrate_runs (hkind : opKind o = 5) (hres : wordsReserved 5 o.words = false) :
    opMigrate s n = if d.well.poolUntil.isSome = true then hostDone d n 0x0D 0 0 0
      else migQueue d ⟨n, poolAddr o.words 4, poolAddr o.words 6, dW o.words 1 % 2 == 1, dW o.words 2, 0⟩ := by
  rw [opMigrate, hostOp_runs hop hstart hd hkind hres]

theorem opGroup_runs (hkind : opKind o = 1) :
    opGroup s n = if bits (dW o.words 0) 16 11 ≠ 0 then hostDone d n 0x80 0 0 0
      else settleGroups (groupOp d n o.words) := by
  rw [opGroup, startOp_runs hop hstart hd hkind]

/-! ### FABRIC_SEND (R352) -/

theorem opFabricSend_runs {payload : List Byte} {vc len : Nat} (hkind : opKind o = 8) (hres : wordsReserved 8 o.words = false)
    (hvc : vc = bits (dW o.words 1) 27 3) (hlen : len = dW o.words 2 % 2 ^ 13) :
    opFabricSend s n payload = if d.hostEpOn = false then hostDone d n 0x85 0 0 0
      else if (vc ≠ 3 ∧ vc ≠ 7) ∨ len > 4096 ∨ eidKind (dW o.words 1 % 2 ^ 20) > 1 then hostDone d n 0x80 0 0 0
      else fabricSent d n o.words vc len payload := by
  rw [hvc, hlen]
  simp only [opFabricSend, hostOp_runs hop hstart hd hkind hres, Bool.not_eq_true']
  rfl

end Starts

/-! ## The obligation -/

/-- Settles O27: each row answers its operation's next state; an operation that may not start waits, one that starts ends or
goes on as its kind's rule of R345 to R353 says. -/
theorem hostOperations : Obligations.HostOperations := by
  unfold Obligations.HostOperations
  refine ⟨?liveRows, ?coreRows, ?idle, ?registers, ?pool, ?exports, ?send⟩
  case liveRows =>
    intro s u n at_ words ev hu hrun
    exact ⟨exec_nop_run hu hrun, exec_recvPost_run hu hrun, exec_regRead_run hu hrun, exec_regWrite_run hu hrun⟩
  case coreRows =>
    intro s u n at_ data payload evs bad fail hu hrun
    exact ⟨exec_dma_run hu hrun, exec_migrate_run hu hrun, exec_roomExport_run hu hrun, exec_telDump_run hu hrun,
      exec_groupOp_run hu hrun, exec_fabricSend_run hu hrun⟩
  case idle =>
    intro s u n at_ ws pl bs evs ev fail bad hu hrun hidle
    rw [exec_dma_run hu hrun, exec_migrate_run hu hrun, exec_roomExport_run hu hrun, exec_telDump_run hu hrun,
      exec_groupOp_run hu hrun, exec_fabricSend_run hu hrun, opDma_idle hidle, opMigrate, opTelDump, opFabricSend, opGroup,
      opRoomExport_idle hidle, startOp_idle hidle]
    simp only [hostOp_idle hidle, and_true]
    intro hlive
    rw [exec_nop_run hu hlive, exec_recvPost_run hu hlive, exec_regRead_run hu hlive, exec_regWrite_run hu hlive, opNop,
      opRecvPost, hostOp_idle hidle, hostOp_idle hidle, opRegRead_idle hidle, opRegWrite_idle hidle]
    exact ⟨rfl, rfl, rfl, rfl⟩
  case registers =>
    intro s u d x n at_ o ws ev hu hrun hop hstart hd hx
    rw [exec_nop_run hu hrun, exec_recvPost_run hu hrun, exec_regRead_run hu hrun, exec_regWrite_run hu hrun, hx]
    refine ⟨fun hkind hres => ?nopReserved, fun hkind hres => ?nop, fun hkind hres => ?postReserved,
      fun hkind hres hep => ?noEndpoint, fun hkind hres hep hfull => ?fullPool, fun hkind hres hep hroom => ?posted,
      fun hheld => ?held, fun hopen hkind hbad => ?readRefused, fun hopen hkind hres hrange hlen => ?reads,
      fun hopen hkind hbad => ?writeRefused,
      fun k t hopen hkind hres hrange => ⟨fun hwrites => ?writes, fun off hwrites => ?writeFault⟩⟩
    case nopReserved => rw [opNop, hostOp_reserved hop hstart hd hkind hres]
    case nop => rw [opNop, hostOp_runs hop hstart hd hkind hres]
    case postReserved => rw [opRecvPost, hostOp_reserved hop hstart hd hkind hres]
    case noEndpoint => rw [opRecvPost_runs hop hstart hd hkind hres, if_pos hep]
    case fullPool => rw [opRecvPost_runs hop hstart hd hkind hres, if_neg (ne_false_of_eq_true hep), if_pos hfull]
    case posted => rw [opRecvPost_runs hop hstart hd hkind hres, if_neg (ne_false_of_eq_true hep), if_neg hroom.not_ge]
    case held =>
      rw [opRegRead_held hop hheld, opRegWrite_held hop hheld]
      exact ⟨rfl, rfl⟩
    case readRefused => rw [opRegRead_refused hop hstart hd hopen hkind hbad]
    case reads => rw [opRegRead_runs hop hstart hd hopen hkind hres hrange hlen]
    case writeRefused => rw [opRegWrite_refused hop hstart hd hopen hkind hbad]
    case writes =>
      rw [opRegWrite_runs hop hstart hd hopen hkind hres hrange hwrites]
      rfl
    case writeFault =>
      rw [opRegWrite_runs hop hstart hd hopen hkind hres hrange hwrites]
      rfl
  case pool =>
    intro s u d x p n at_ src o data evs bad fail hu hrun hop hstart hd hx hsrc hp
    rw [exec_dma_run hu hrun, exec_migrate_run hu hrun, exec_telDump_run hu hrun, exec_groupOp_run hu hrun, hx, hp, hsrc]
    refine ⟨fun _ hdir hwaits => ?waits, fun hkind hdir hfree hbad => ?refused,
      fun hkind hdir hfree hres h6 h7 => ⟨fun hlen => ?empty, fun hlen hpool => ?poolReset,
        fun c a hlen hpool hcode hc => ?code, fun r t hlen hpool hcode hlines => ?moves⟩,
      fun hkind hres => ?migrateReserved, fun hkind hres hpool => ?migrateReset, fun hkind hres hpool => ?migrates,
      fun hkind hres => ?dumpReserved, fun hkind hres => ?dumps, fun hkind hres => ?groupReserved,
      fun hkind hres => ?groups⟩
    case waits => rw [opDma_waits hop hdir hwaits]
    case refused => rw [opDma_refused hop hstart hd hkind hdir hfree hbad]
    case empty => rw [opDma_runs hop hstart hd hkind hdir hfree hres h6 h7, dmaToPool_empty hlen]
    case poolReset => rw [opDma_runs hop hstart hd hkind hdir hfree hres h6 h7, dmaToPool_pool_reset hlen hpool]
    case code => rw [opDma_runs hop hstart hd hkind hdir hfree hres h6 h7, dmaToPool_refused hlen hpool hcode hc]
    case moves => rw [opDma_runs hop hstart hd hkind hdir hfree hres h6 h7, dmaToPool_moves hlen hpool hcode hlines]
    case migrateReserved => rw [opMigrate, hostOp_reserved hop hstart hd hkind hres]
    case migrateReset => rw [opMigrate_runs hop hstart hd hkind hres, if_pos hpool]
    case migrates => rw [opMigrate_runs hop hstart hd hkind hres, if_neg (by simp [hpool])]
    case dumpReserved => rw [opTelDump, hostOp_reserved hop hstart hd hkind hres]
    case dumps => rw [opTelDump, hostOp_runs hop hstart hd hkind hres]
    case groupReserved => rw [opGroup_runs hop hstart hd hkind, if_pos hres]
    case groups => rw [opGroup_runs hop hstart hd hkind, if_neg (not_not_intro hres)]
  case exports =>
    intro s u d n at_ base lim cmt from_ size o evs hu hrun hop hstart hd hkind harea hsize hfrom
    rw [hsize, hfrom, exec_roomExport_run hu hrun, opRoomExport_eq hop harea]
    intro hfree
    rw [if_neg (ne_true_of_eq_false hfree)]
    refine ⟨fun hres => ?reserved, fun hres => ?runs⟩
    case reserved => rw [hostOp_reserved hop hstart hd hkind hres]
    case runs =>
      rw [hostOp_runs hop hstart hd hkind hres]
      refine ⟨fun hpool => ?_, fun hpool => ⟨fun hlate => ?_, fun hearly => ⟨fun h0 => ?_, fun h0 hbad => ?_,
        fun h0 hlines hlim hbeyond => ?_, fun a bs t h0 hlines hlim hcmt hread => ?_⟩⟩⟩
      · rw [exportStarted_pool_reset hpool]
      · rw [exportStarted_reserved_area hpool hlate]
      · rw [exportStarted_empty hpool hearly h0]
      · rw [exportStarted_misplaced hpool hearly h0 hbad]
      · rw [exportStarted_uncommitted hpool hearly h0 hlines hlim hbeyond]
      · rw [exportStarted_reads hpool hearly h0 hlines hlim hcmt hread]
  case send =>
    intro s u d n at_ vc len o h pl hu hrun hop hstart hd hkind hvc hlen hh
    rw [exec_fabricSend_run hu hrun]
    refine ⟨fun hres => ?reserved, fun hres hep => ?noEndpoint, fun hres hep hbad => ?refused,
      fun hres hep hgood hlong hdst => ?sends⟩
    case reserved => rw [opFabricSend, hostOp_reserved hop hstart hd hkind hres]
    case noEndpoint => rw [opFabricSend_runs hop hstart hd hkind hres hvc hlen, if_pos hep]
    case refused =>
      rw [opFabricSend_runs hop hstart hd hkind hres hvc hlen, if_neg (ne_false_of_eq_true hep), if_pos (by omega)]
    case sends =>
      rw [opFabricSend_runs hop hstart hd hkind hres hvc hlen, if_neg (ne_false_of_eq_true hep), if_neg (by omega), hh]
      rfl

end Sys2Proof.Machine
end

section
/-! PROOFS. Completions, their interrupts, deliveries and failed reads of host memory (12 R331, R341 to R344, R353, R354): the
rows answer their operation's next state where the chip or the core runs, and what each does in the case its rule names. -/

namespace Sys2Proof.Machine

open Sys2Proof

/-! ## The rows of completions and deliveries -/

section Rows

variable {s u : State} {q at_ addr cause : Nat} {op : Option Nat}

theorem exec_completionWrite_run (hu : u = s.advance at_) (hrun : liveRuns u = true) (hq : q < 128) :
    exec (.completionWrite q at_) s = .next (finish u (completionWrite u q)) := by
  rw [exec_completionWrite]
  exact atTime_whenLive (f := fun s => completionWrite s q) hu (decide_eq_true hq) hrun

theorem exec_cqIrqTimer_run (hu : u = s.advance at_) (hrun : liveRuns u = true) (hq : q < 128) :
    exec (.cqIrqTimer q at_) s = .next (finish u (cqIrq u q)) := by
  rw [exec_cqIrqTimer]
  exact atTime_whenLive (f := fun s => cqIrq s q) hu (decide_eq_true hq) hrun

theorem exec_hostReadFail_run (hu : u = s.advance at_) (hrun : liveRuns u = true) (hcause : cause < 4) :
    exec (.hostReadFail op ⟨addr, cause⟩ at_) s = .next (finish u (settleGroups (hostReadFail u op addr cause))) := by
  rw [exec_hostReadFail]
  exact atTime_whenLive (f := fun s => settleGroups (hostReadFail s op addr cause)) hu (decide_eq_true hcause) hrun

theorem exec_hostPathDeliver_run (hu : u = s.advance at_) (hrun : coreRuns u = true) :
    exec (.hostPathDeliver at_) s = .next (finish u (hostDeliver u)) := by
  rw [exec_hostPathDeliver]
  exact atTime_whenCore (f := fun s => hostDeliver s) hu rfl hrun

end Rows

/-! ## Completion entries (R341, R342) -/

/-- The oldest finished operation of a completion ring whose entry is not held. -/
def freshOf (s : State) (q : Nat) : Option Nat :=
  s.host.ready.find? fun n => (mget s.host.ops n).any fun o => o.stage == 2 && opCq s o == q

section Entries

variable {s d : State} {q n : Nat} {o : HostOp}

/-- With room, the entry of a held operation, or else of a fresh one, is written. -/
theorem completionWrite_entry (hroom : cqHasRoom s q = true) (hnext : (heldOf s q).head?.or (freshOf s q) = some n)
    (hop : mget s.host.ops n = some o) : completionWrite s q = writeEntry s q n o := by
  unfold freshOf at hnext
  simp only [completionWrite, hroom, if_true, hnext, hop]

theorem completionWrite_none (hheld : heldOf s q = []) (hfresh : freshOf s q = none) : completionWrite s q = s := by
  unfold freshOf at hfresh
  simp only [completionWrite, hheld, hfresh, List.head?_nil, Option.or_none, ite_self]

theorem completionWrite_no_room_none (hroom : cqHasRoom s q = false) (hfresh : freshOf s q = none) :
    completionWrite s q = s := by
  unfold freshOf at hfresh
  simp only [completionWrite, hroom, Bool.false_eq_true, if_false, hfresh]

/-- Without room the entry is held, and the first to be so sets FULL. -/
theorem completionWrite_no_room_some (hroom : cqHasRoom s q = false) (hfresh : freshOf s q = some n)
    (hd : d = modOp1 s n fun o => { o with stage := 3 }) :
    completionWrite s q = if d.flag F.HST_CQ_FULL q = true then d else hstFault (d.wr F.HST_CQ_FULL q 1) 2 q := by
  unfold freshOf at hfresh
  simp only [completionWrite, hroom, Bool.false_eq_true, if_false, hfresh, ← hd]

end Entries

/-! ## Interrupts (R343) -/

section Interrupts

variable {s : State} {q : Nat}

theorem cqIrq_count_reached (hen : s.flag F.HST_CQ_EN q = true) (hirq : s.flag F.HST_CQ_IRQ_EN q = true)
    (harmed : s.host.armed.contains q = true) (hcnt : s.rd F.HST_CQ_CNT q ≠ 0)
    (hreached : s.rd F.HST_CQ_CNT q ≤ cqPending s q) :
    cqIrq s q = sendMsix { s with host := { s.host with armed := s.host.armed.filter (· != q) } } (s.rd F.HST_CQ_VEC q) := by
  have hready : (s.flag F.HST_CQ_EN q && s.flag F.HST_CQ_IRQ_EN q && s.host.armed.contains q) = true := by
    rw [hen, hirq, harmed]
    rfl
  rw [cqIrq, if_pos hready]
  exact if_pos (by simp [hcnt, hreached])

theorem cqIrq_quiet
    (h : s.flag F.HST_CQ_EN q = false ∨ s.flag F.HST_CQ_IRQ_EN q = false ∨ s.host.armed.contains q = false) :
    cqIrq s q = s := by
  have hquiet : (s.flag F.HST_CQ_EN q && s.flag F.HST_CQ_IRQ_EN q && s.host.armed.contains q) = false := by
    rw [Bool.and_eq_false_iff, Bool.and_eq_false_iff, or_assoc]
    exact h
  rw [cqIrq, if_neg (ne_true_of_eq_false hquiet)]

end Interrupts

/-! ## Packets for the host (R353, R354) -/

section Deliveries

variable {s d : State} {p : HostPkt} {ps : List HostPkt}

theorem hostDeliver_nothing (hq : s.sw.hostQ = []) : hostDeliver s = hostCollect s := by
  simp only [hostDeliver, hq]

/-! A packet that is neither a mirror copy nor a result. -/

section Packet

variable (hq : s.sw.hostQ = p :: ps) (hmir : p.mir = none) (hres : p.res = none)
  (hd : d = hostCollect (modSw s fun w => { w with hostQ := ps }))
include hq hmir hres hd

theorem hostDeliver_other_opcode (hother : p.pkt.hdr.opcode ≠ 0x50) :
    hostDeliver s = hostDiscard d p.pkt.arr p.pkt.hdr.vc 0x27 := by
  simp only [hostDeliver, hq, hmir, hres, Option.isSome_none, Bool.false_eq_true, if_false, ← hd, if_pos hother]

theorem hostDeliver_no_buffer (hsend : p.pkt.hdr.opcode = 0x50) (hnone : d.host.recv = []) :
    hostDeliver s = hostDiscard d p.pkt.arr p.pkt.hdr.vc 0x26 := by
  simp only [hostDeliver, hq, hmir, hres, Option.isSome_none, Bool.false_eq_true, if_false, ← hd,
    if_neg (not_not_intro hsend), hnone]

theorem hostDeliver_received {n : Nat} {ns : List Nat} (hsend : p.pkt.hdr.opcode = 0x50) (hbuf : d.host.recv = n :: ns) :
    hostDeliver s = hostDone (({ d with host := { d.host with recv := ns } } : State).emit
      (.hostWrite (((mget d.host.ops n).map fun o => hostAddr o.words).getD 0)
        (p.pkt.hdr.words.flatMap wbytes ++ p.pkt.data))) n 0 0 p.pkt.hdr.len 0 := by
  simp only [hostDeliver, hq, hmir, hres, Option.isSome_none, Bool.false_eq_true, if_false, ← hd,
    if_neg (not_not_intro hsend), hbuf]

end Packet

end Deliveries

/-! ## Failed reads of host memory (R331, R344) -/

section ReadFailures

variable {s d : State} {n r addr cause : Nat} {o : HostOp}

/-- A GROUP_OP goes on without its data. -/
theorem hostReadFail_group (hop : mget s.host.ops n = some o) (hkind : opKind o = 1) (hstage : o.stage = 1) :
    hostReadFail s (some n) addr cause = readFault s cause addr := by
  simp only [hostReadFail, hop, hkind, hstage, and_self, if_true]

/-- An operation that reads host memory starts, and ends with the failure. -/
theorem hostReadFail_operation (hop : mget s.host.ops n = some o) (hstart : canStart s n = true)
    (hd : d = modOp1 s n fun o => { o with stage := 1 })
    (hkind : opKind o = 2 ∨ opKind o = 8 ∨ opKind o = 4 ∧ dW o.words 1 % 4 = 0)
    (hres : wordsReserved (opKind o) o.words = false) :
    hostReadFail s (some n) addr cause = hostDone (readFault d cause addr) n 0x82 0 0 0 := by
  have hgroup : ¬(opKind o = 1 ∧ o.stage = 1) := by omega
  simp only [hostReadFail, hop]
  rw [if_neg hgroup, if_pos ⟨hkind, hres⟩, startOp_runs hop hstart hd rfl]

theorem fetchFail_none (h : fetchRing s = none) : fetchFail s cause = s := by
  simp only [fetchFail, h]

theorem fetchFail_some (h : fetchRing s = some r) : fetchFail s cause =
    stopRing (readFault { s with host := { s.host with rr := r } } cause
      (s.rd F.HST_CR_BASE_HI r * 2 ^ 32 + s.rd F.HST_CR_BASE_LO r * 2 ^ 12 + 64 * s.rd F.HST_CR_HEAD r)) r 2 := by
  simp only [fetchFail, h]

end ReadFailures

/-! ## The obligation -/

/-- Settles O28: each row answers its operation's next state; completions, interrupts, deliveries and failed reads go as R331,
R341 to R344, R353 and R354 say. -/
theorem hostCompletions : Obligations.HostCompletions := by
  unfold Obligations.HostCompletions
  refine ⟨?liveRows, ?deliverRow, ?entries, ?interrupts, ?nothing, ?deliver, ?operation, ?fetch⟩
  case liveRows =>
    intro s u q at_ addr cause op hu hrun hq hcause
    exact ⟨exec_completionWrite_run hu hrun hq, exec_cqIrqTimer_run hu hrun hq, exec_hostReadFail_run hu hrun hcause⟩
  case deliverRow =>
    intro s u at_ hu hrun
    exact exec_hostPathDeliver_run hu hrun
  case entries =>
    intro s u q at_ hu hrun hq
    rw [exec_completionWrite_run hu hrun hq]
    refine ⟨fun n o hroom hheld hop => ?held, fun n o hroom hheld hfresh hop => ?fresh, fun _ hheld hfresh => ?none,
      fun hfull hfresh => ?fullNone, fun n d hfull hfresh hd => ?full⟩
    case held => rw [completionWrite_entry hroom (by rw [hheld, Option.some_or]) hop]
    case fresh => rw [completionWrite_entry hroom (by rw [hheld, List.head?_nil, Option.none_or]; exact hfresh) hop]
    case none => rw [completionWrite_none hheld hfresh]
    case fullNone => rw [completionWrite_no_room_none hfull hfresh]
    case full =>
      rw [completionWrite_no_room_some hfull hfresh hd]
      refine ⟨fun hset => ?_, fun hfirst => ?_⟩
      · rw [if_pos hset]
      · rw [if_neg (ne_true_of_eq_false hfirst)]
  case interrupts =>
    intro s u q at_ hu hrun hq
    rw [exec_cqIrqTimer_run hu hrun hq]
    refine ⟨fun hen hirq harmed hcnt hreached => ?_, fun hquiet => ?_⟩
    · rw [cqIrq_count_reached hen hirq harmed hcnt hreached]
    · rw [cqIrq_quiet hquiet]
  case nothing =>
    intro s u at_ hu hrun hempty
    rw [exec_hostPathDeliver_run hu hrun, hostDeliver_nothing hempty]
  case deliver =>
    intro s u d p ps at_ hu hrun hqueue hmir hres hd
    rw [exec_hostPathDeliver_run hu hrun]
    refine ⟨fun hother => ?_, fun hsend hnone => ?_, fun n ns hsend hbuf => ?_⟩
    · rw [hostDeliver_other_opcode hqueue hmir hres hd hother]
    · rw [hostDeliver_no_buffer hqueue hmir hres hd hsend hnone]
    · rw [hostDeliver_received hqueue hmir hres hd hsend hbuf]
  case operation =>
    intro s u n at_ addr cause o hcause hu hrun hop
    rw [exec_hostReadFail_run hu hrun hcause]
    refine ⟨fun hkind hstage => ?_, fun hstart hkind hres => ?_⟩
    · rw [hostReadFail_group hop hkind hstage]
    · rw [hostReadFail_operation hop hstart rfl hkind hres]
  case fetch =>
    intro s u at_ addr cause hcause hu hrun
    rw [exec_hostReadFail_run hu hrun hcause, hostReadFail]
    refine ⟨fun hnone => ?_, fun r hring => ?_⟩
    · rw [fetchFail_none hnone]
    · rw [fetchFail_some hring]

end Sys2Proof.Machine
end

section
/-! PROOFS. The register file and reads of it (13 R367, R370, R372 to R375): a field reads back what was written and nothing
else of either copy moves; a read changes no register but GLB_SEM's, and nothing else but a latch. -/

namespace Sys2Proof.Machine

open Sys2Proof

/-! ## Software's copy of a field -/

section Fields

variable {f g : Field} {i j : Nat}

theorem rdSw_wr_same (s : State) (f : Field) (i v : Nat) : (s.wr f i v).rdSw f i = v % 2 ^ f.width := by
  unfold State.wr
  split <;> simp_all only [State.rdSw, if_true, if_false, Bool.false_eq_true, fget_fset_self]

theorem rdSw_wr_other (s : State) (v : Nat) (h : fkey g j ≠ fkey f i) : (s.wr f i v).rdSw g j = s.rdSw g j := by
  unfold State.wr
  split
  · simp only [State.rdSw, fget_fset_ne _ _ h]
  · simp only [State.rdSw, fget_fset_ne _ _ h]

/-- Software's write of a Shadowed field reaches its shadow alone (13 R375). -/
theorem wrSw_shadowed (s : State) (v : Nat) (hsh : f.shadowed = true) :
    s.wrSw f i v = { s with regs := { s.regs with shadow := fset s.regs.shadow f i v } } := if_pos hsh

theorem rd_wrSw_shadowed (s : State) (v : Nat) (hsh : f.shadowed = true) (g : Field) (j : Nat) :
    (s.wrSw f i v).rd g j = s.rd g j := by
  rw [wrSw_shadowed s v hsh]
  rfl

theorem rdSw_wrSw_same (s : State) (v : Nat) (hsh : f.shadowed = true) : (s.wrSw f i v).rdSw f i = v % 2 ^ f.width := by
  rw [wrSw_shadowed s v hsh, State.rdSw, if_pos hsh]
  exact fget_fset_self ..

theorem rdSw_wrSw_other (s : State) (v : Nat) (hsh : f.shadowed = true) (h : fkey g j ≠ fkey f i) :
    (s.wrSw f i v).rdSw g j = s.rdSw g j := by
  rw [wrSw_shadowed s v hsh]
  simp only [State.rdSw, fget_fset_ne _ _ h]

end Fields

/-! ## What a read leaves (13 R370, R372) -/

section Reads

variable {s : State} {m : Master} {off i w : Nat} {f : Field}

/-- The fields by which a read of GLB_SEM takes the semaphore are HOLDER and HELD. -/
theorem semRead_other_field (hholder : fkey f i ≠ fkey F.GLB_SEM_HOLDER 0) (hheld : fkey f i ≠ fkey F.GLB_SEM_HELD 0) :
    (semRead s m).rd f i = s.rd f i ∧ (semRead s m).rdSw f i = s.rdSw f i := by
  by_cases hfree : semHolder s = 0 ∨ semHolder s = masterCode m
  · rw [semRead_takes hfree]
    exact ⟨(rd_wr_other _ _ hheld).trans (rd_wr_other _ _ hholder),
      (rdSw_wr_other _ _ hheld).trans (rdSw_wr_other _ _ hholder)⟩
  · obtain ⟨hheld, hother⟩ := not_or.mp hfree
    rw [semRead_leaves hheld hother]
    exact ⟨rfl, rfl⟩

theorem readNow_sem_state (h : locate off = some (.GLB_SEM, i, w)) : (readNow s m off).2 = semRead s m := by
  simp only [readNow, h, if_true]

/-- A read that is of no first half and not of GLB_SEM changes nothing. -/
theorem readNow_quiet_state (hsem : ∀ i w, locate off ≠ some (.GLB_SEM, i, w))
    (hhalf : ∀ r i w, locate off = some (r, i, w) → firstHalf r w = false) : (readNow s m off).2 = s := by
  match hoff : locate off with
  | none => simp only [readNow, hoff]
  | some (r, i, w) =>
    have hr : r ≠ .GLB_SEM := fun h => hsem i w (h ▸ hoff)
    simp only [readNow, hoff, if_neg hr, hhalf r i w hoff, Bool.false_eq_true, if_false]
    split <;> rfl

theorem readNow_latch_state (hsem : ∀ i w, locate off ≠ some (.GLB_SEM, i, w)) :
    ∃ l, (readNow s m off).2 = { s with latch := l } := by
  by_cases hhalf : ∀ r i w, locate off = some (r, i, w) → firstHalf r w = false
  · exact ⟨s.latch, readNow_quiet_state hsem hhalf⟩
  · push Not at hhalf
    obtain ⟨r, i, w, hoff, hfirst⟩ := hhalf
    have hr : r ≠ .GLB_SEM := fun h => hsem i w (h ▸ hoff)
    have hfirst : firstHalf r w = true := eq_true_of_ne_false hfirst
    simp only [readNow, hoff, if_neg hr, hfirst, if_true]
    exact ⟨_, rfl⟩

end Reads

/-! ## The obligations -/

/-- Settles O53: each copy of the file is a map that reads back the key that was set and no other, and `wr` sets every copy of a
field, software's write the shadow alone. -/
theorem registersReadBack : Obligations.RegistersReadBack := by
  unfold Obligations.RegistersReadBack
  intro s f i v
  refine ⟨rd_wr_same s f i v, rdSw_wr_same s f i v, fun g j h => ?other, fun hsh => ?shadow⟩
  case other => exact ⟨rd_wr_other s v h, rdSw_wr_other s v h⟩
  case shadow =>
    exact ⟨rdSw_wrSw_same s v hsh, rd_wrSw_shadowed s v hsh, fun g j h => rdSw_wrSw_other s v hsh h⟩

/-- Settles O58: a read leaves the state of its case: of GLB_SEM as the semaphore's rule does, of a first half another latch, of
anything else the same state. -/
theorem readsChangeNothing : Obligations.ReadsChangeNothing := by
  unfold Obligations.ReadsChangeNothing
  intro s t m off v hread
  obtain rfl : (readNow s m off).2 = t := by rw [hread]
  refine ⟨fun f i hholder hheld => ?fields, fun hsem => ?elsewhere⟩
  case fields =>
    by_cases hsem : ∃ i w, locate off = some (.GLB_SEM, i, w)
    · obtain ⟨i, w, hoff⟩ := hsem
      rw [readNow_sem_state hoff]
      exact semRead_other_field hholder hheld
    · push Not at hsem
      obtain ⟨l, hlatch⟩ := readNow_latch_state hsem
      rw [hlatch]
      exact ⟨rfl, rfl⟩
  case elsewhere =>
    obtain ⟨l, hlatch⟩ := readNow_latch_state hsem
    exact ⟨by rw [hlatch], readNow_quiet_state hsem, l, hlatch⟩

end Sys2Proof.Machine
end

section
/-! PROOFS. Register rows (13 R367, R368, R370, R371; 12 R334; 01 R27 to R30): the rows answer their words' next state; an access
is its words in rising order; what a write of SWC_RESEQ_TO, a read of TIM_NOW_LO, a doorbell page's read and a write of GLB_PLACE
do. -/

namespace Sys2Proof.Machine

open Sys2Proof

/-! ## The rows -/

section Rows

variable {s : State} {m : Master} {off val be : Nat} {ev : BootEv} {acc : ReadAcc}

theorem exec_registerWrite_ok (hacc : accessOk m off be = true) (hval : val < 2 ^ (32 * beWords be)) :
    exec (.registerWrite m off val be ev) s = .next (finish s (settleSite ev (accessWrite ev s m off val be))) := by
  rw [exec_registerWrite, execRegisterWrite, hacc, decide_eq_true hval]
  exact atNow_run

theorem exec_latchedPairRead_ok (hacc : accessOk m off acc.be = true) :
    exec (.latchedPairRead m off acc) s = .next (finish s (accessRead s m off acc)) := by
  rw [exec_latchedPairRead, execLatchedPairRead, hacc]
  exact atNow_run

theorem exec_glbPlaceWrite_taken (hval : val < 2 ^ 32) (hbe : beOk m be = true) (h : takesWrite s m .GLB_PLACE 0 0 = true) :
    exec (.glbPlaceWrite m val be) s = .next (finish s (settleSwitch (placeWrite (wrote s m .GLB_PLACE 0 0) m val be))) := by
  rw [exec_glbPlaceWrite]
  exact atNow_rowWrite (f := fun s => settleSwitch (placeWrite s m val be))
    (by simp only [takesWrite_ok h, hval, hbe, decide_true, Bool.and_self]) h

theorem exec_lock_taken (hval : val < 2 ^ 32) (hbe : beOk m be = true) (h : takesWrite s m .GLB_PLACE 0 0 = true) :
    exec (.lock m val be) s = .next (finish s (settleSwitch (placeWrite (wrote s m .GLB_PLACE 0 0) m
      (if bitAt val 31 then val else val + 2 ^ 31) (Nat.lor be 8)))) := by
  rw [exec_lock]
  exact atNow_rowWrite
    (f := fun s => settleSwitch (placeWrite s m (if bitAt val 31 then val else val + 2 ^ 31) (Nat.lor be 8)))
    (by simp only [takesWrite_ok h, hval, hbe, decide_true, Bool.and_self]) h

end Rows

/-! ## The words of an access (R367, R371) -/

section Words

variable {s : State} {m : Master} {off val be bad : Nat} {ev : BootEv}

theorem beOk_lt (hbe : beOk m be = true) : be < 16 := by
  simp only [beOk, Bool.and_eq_true, decide_eq_true_eq] at hbe
  exact hbe.1

theorem beWords_word (hbe : be < 16) : beWords be = 1 := by
  revert be
  decide

/-- The host makes accesses of one word of BAR0 and of BAR2. -/
theorem accessOk_host (hbe : be < 16) (hoff : off % 4 = 0)
    (hin : off + 4 ≤ 2 ^ 26 ∨ 2 ^ 28 ≤ off ∧ off + 4 ≤ 2 ^ 29) : accessOk .host off be = true := by
  have hwords (n : Nat) (hn : 4 ≤ n) : be < 2 ^ n := Nat.lt_of_lt_of_le hbe (Nat.pow_le_pow_right Nat.two_pos hn)
  simp only [accessOk, Master.ok, hoff, beWords_word hbe, beq_self_eq_true, Bool.and_eq_true, Bool.or_eq_true, decide_eq_true_eq,
    true_and]
  exact ⟨hwords 4096 (by decide), .inl hin⟩

/-- Every master can make an access of one word of BAR0. -/
theorem accessOk_word (hm : m.ok = true) (hbe : beOk m be = true) (hoff : off % 4 = 0) (hin : off + 4 ≤ 2 ^ 26) :
    accessOk m off be = true := by
  have hlt := beOk_lt hbe
  have hother : off < 2 ^ 26 := by omega
  cases m with
  | host => exact accessOk_host hlt hoff (.inl hin)
  | sideband => simp only [accessOk, hm, hoff, hother, hbe, beq_self_eq_true, decide_true, Bool.and_self]
  | gesta c => simp only [accessOk, hm, hoff, hother, hbe, beq_self_eq_true, decide_true, Bool.and_self]

theorem accessWrite_word (hbe : be < 16) (hval : val < 2 ^ 32) :
    accessWrite ev s m off val be = wordWrite ev s m off val be := by
  simp only [accessWrite, beWords_word hbe, List.range_one, List.foldl_cons, List.foldl_nil, Nat.mul_zero, Nat.add_zero,
    Nat.pow_zero, Nat.div_one, Nat.mod_eq_of_lt hval, Nat.mod_eq_of_lt hbe]

theorem accessWrite_two_words (hval : val < 2 ^ 64) :
    accessWrite ev s m off val 255 =
      wordWrite ev (wordWrite ev s m off (val % 2 ^ 32) 15) m (off + 4) (val / 2 ^ 32) 15 := by
  have hhigh : val / 2 ^ 32 % 2 ^ 32 = val / 2 ^ 32 := Nat.mod_eq_of_lt (by omega)
  have hlow : val / 2 ^ (32 * 0) = val := by rw [Nat.mul_zero, Nat.pow_zero, Nat.div_one]
  have htwo : List.range (beWords 255) = [0, 1] := by decide
  rw [accessWrite, htwo, List.foldl_cons, List.foldl_cons, List.foldl_nil, Nat.mul_one, Nat.mul_one, hhigh, hlow]
  rfl

theorem accessRead_word (hbe : be < 16) : accessRead s m off ⟨be, bad⟩ = wordRead s m off be (bitAt bad 0) := by
  simp only [accessRead, beWords_word hbe, List.range_one, List.foldl_cons, List.foldl_nil, Nat.mul_zero, Nat.add_zero,
    Nat.pow_zero, Nat.div_one, Nat.mod_eq_of_lt hbe]

/-- A whole read of one word whose parity is good. -/
theorem exec_latchedPairRead_word (hacc : accessOk m off 15 = true) :
    exec (.latchedPairRead m off ⟨15, 0⟩) s = .next (finish s (wordRead s m off 15 false)) := by
  rw [exec_latchedPairRead_ok (acc := ⟨15, 0⟩) hacc, accessRead_word (by decide), bitAt_eq_false_of_lt (by decide)]

theorem wordWrite_bar0 (hoff : off < bar2Base) : wordWrite ev s m off val be = busWrite ev s m off val be := if_pos hoff

/-- A read of BAR0 that meets no parity failure is the bus's. -/
theorem wordRead_bar0 (hoff : off < bar2Base) : wordRead s m off be false = busRead s m off be := if_pos hoff

end Words

/-! ## The bus -/

section Bus

variable {s c : State} {m : Master} {r : RegName} {off i w val be : Nat} {ev : BootEv}

/-- A write that the arbiter executes at once is the register's own, on the counted state. -/
theorem busWrite_taken (hloc : locate (regOff r i + 4 * w) = some (r, i, w)) (h : takesWrite s m r i w = true) :
    busWrite ev s m (regOff r i + 4 * w) val be = configured (writeReg ev (wrote s m r i w) m r i w val be) r := by
  simp only [takesWrite, Bool.and_eq_true, Bool.not_eq_true'] at h
  obtain ⟨⟨⟨⟨-, hmay⟩, -⟩, -⟩, hopen⟩ := h
  simp only [busWrite, hmay, hopen, writeNow, hloc, wrote, Bool.not_true, Bool.false_and, Bool.false_eq_true, if_false]

theorem configured_other (h : [RegName.FLT_SRC_CFG, .FLT_KSEV, .FLT_SEVMAP, .FLT_PIN].contains r = false) :
    configured s r = s := by
  rw [configured, h, Bool.and_false]
  rfl

/-- A read that the bus performs at once answers its enabled bytes. -/
theorem busRead_now (hon : chipOn s = true) (hopen : mustHold s off = false) (hawake : m = .host → s.host.pcie.dstate ≠ 3)
    (hc : c = countReg s m false off) :
    busRead s m off be = (readNow c m off).2.emit (.readData m off (enabledBytes (readNow c m off).1 be)) := by
  have hbus : ¬(m = .host ∧ s.host.pcie.dstate = 3) := fun h => hawake h.1 h.2
  simp only [busRead, hon, hopen, if_neg hbus, ← hc, Bool.not_true, Bool.false_eq_true, if_false]

theorem mustHold_of_running (h : inCoreReset s = false) : mustHold s off = false := by
  rw [mustHold, h, Bool.false_and, Bool.false_and]

end Bus

/-! ## SWC_RESEQ_TO and TIM_NOW (R368, R370) -/

section Registers

variable {s c : State} {m : Master} {val be : Nat} {ev : BootEv}

theorem locate_reseqTo : locate (regOff .SWC_RESEQ_TO 0) = some (.SWC_RESEQ_TO, 0, 0) := by decide +kernel

theorem writeReg_reseqTo : writeReg ev s m .SWC_RESEQ_TO 0 0 val be =
    s.wr F.SWC_RESEQ_TO_TO 0 (fieldAfter s F.SWC_RESEQ_TO_TO 0 val be) := rfl

theorem busWrite_reseqTo (h : takesWrite s m .SWC_RESEQ_TO 0 0 = true) :
    busWrite ev s m (regOff .SWC_RESEQ_TO 0) val be = (wrote s m .SWC_RESEQ_TO 0 0).wr F.SWC_RESEQ_TO_TO 0
      (fieldAfter (wrote s m .SWC_RESEQ_TO 0 0) F.SWC_RESEQ_TO_TO 0 val be) := by
  rw [← writeReg_reseqTo (ev := ev) (m := m)]
  exact (busWrite_taken locate_reseqTo h).trans (configured_other (by decide))

theorem locate_timeLow : locate (regOff .TIM_NOW_LO 0) = some (.TIM_NOW_LO, 0, 0) := by decide +kernel

theorem locate_timeHigh : locate (regOff .TIM_NOW_LO 0 + 4) = some (.TIM_NOW_HI, 0, 0) := by decide +kernel

theorem readAt_timeLow : readAt s m (regOff .TIM_NOW_LO 0) = s.fabric % 2 ^ 32 := by
  simp only [readAt, locate_timeLow]
  rfl

theorem readAt_timeHigh : readAt s m (regOff .TIM_NOW_LO 0 + 4) = s.fabric / 2 ^ 32 := by
  simp only [readAt, locate_timeHigh]
  rfl

/-- The read of TIM_NOW_LO latches the other half at TIM_NOW_HI for its master. -/
theorem readNow_timeLow : readNow s m (regOff .TIM_NOW_LO 0) = (s.fabric % 2 ^ 32,
    { s with latch := mput s.latch (masterCode m * 2 ^ 26 + regOff .TIM_NOW_HI 0) (s.fabric / 2 ^ 32) }) := by
  have hsem : RegName.TIM_NOW_LO ≠ .GLB_SEM := by decide
  have hfirst : firstHalf .TIM_NOW_LO 0 = true := rfl
  have hkey : masterCode m * 2 ^ 26 + regOff .TIM_NOW_LO 0 + 4 = masterCode m * 2 ^ 26 + regOff .TIM_NOW_HI 0 :=
    (Nat.add_assoc ..).trans (congrArg _ (by decide))
  simp only [readNow, locate_timeLow, if_neg hsem, hfirst, if_true, hkey, readAt_timeLow,
    readAt_timeHigh]

theorem busRead_timeLow (hon : chipOn s = true) (hrun : inCoreReset s = false) (hawake : m = .host → s.host.pcie.dstate ≠ 3)
    (hc : c = countReg s m false (regOff .TIM_NOW_LO 0)) :
    busRead s m (regOff .TIM_NOW_LO 0) =
      ({ c with latch := mput c.latch (masterCode m * 2 ^ 26 + regOff .TIM_NOW_HI 0) (c.fabric / 2 ^ 32) } : State).emit
        (.readData m (regOff .TIM_NOW_LO 0) (c.fabric % 2 ^ 32)) := by
  rw [busRead_now hon (mustHold_of_running hrun) hawake hc, readNow_timeLow,
    enabledBytes_whole (Nat.mod_lt _ (Nat.two_pow_pos 32))]

end Registers

/-! ## The doorbell pages of BAR2 (12 R334) -/

section Doorbells

variable {s : State} {m : Master} {q x be : Nat} {bad : Bool}

theorem wordRead_bar2 (hon : chipOn s = true) (hawake : s.host.pcie.dstate ≠ 3) (hx : x < 2 ^ 28) :
    wordRead s m (bar2Base + x) be bad = bar2Read s x be := by
  have hbar0 : ¬bar2Base + x < bar2Base := by omega
  have hcfg : ¬cfgBase ≤ bar2Base + x := by
    simp only [cfgBase, bar2Base]
    omega
  rw [wordRead, if_neg hbar0, if_neg (ne_false_of_eq_true hon), if_neg hcfg, if_neg hawake, Nat.add_sub_cancel_left]

theorem doorbellAt_completion (hq : q < 128) : doorbellAt (0x80000 + 4096 * q) = some (q, true, true) := by
  have hpage : (0x80000 + 4096 * q) / 4096 % 128 = q := by omega
  have hword : (0x80000 + 4096 * q) % 4096 = 0 := by omega
  have hin : 0x80000 + 4096 * q < 0x100000 := by omega
  simp only [doorbellAt, hpage, hword, hin, true_or, and_self, if_true, Nat.le_add_right, decide_true, beq_self_eq_true]

theorem bar2Read_completion (hq : q < 128) : bar2Read s (0x80000 + 4096 * q) be =
    s.emit (.readData .host (bar2Base + (0x80000 + 4096 * q)) (enabledBytes (s.rd F.HST_CQ_HEAD q) be)) := by
  have hlow : ¬0x1000000 ≤ 0x80000 + 4096 * q := by omega
  simp only [bar2Read, if_neg hlow, doorbellAt_completion hq]

end Doorbells

/-! ## GLB_PLACE (01 R27, R30) -/

section Place

variable {s d : State} {m : Master} {val be : Nat}

theorem bitAt_eq_testBit (v i : Nat) : bitAt v i = v.testBit i := by
  rw [Nat.testBit_eq_decide_div_mod_eq, bitAt, beq_eq_decide]

theorem bitAt_eq_true_of_le {v i : Nat} (hlow : 2 ^ i ≤ v) (hhigh : v < 2 ^ (i + 1)) : bitAt v i = true := by
  have hone : v / 2 ^ i = 1 := Nat.div_eq_of_lt_le (by omega) (by rw [Nat.pow_succ] at hhigh; omega)
  rw [bitAt, hone]
  rfl

/-- LOCK writes its own byte whatever else it enables. -/
theorem bitAt_lock_byte : bitAt (Nat.lor be 8) 3 = true := by
  rw [bitAt_eq_testBit]
  exact (Nat.testBit_or be 8 3).trans (Bool.or_true _)

/-- The place as a write of the unlocked register leaves it before LOCK is judged. -/
def placed (s : State) (m : Master) (val be : Nat) : State :=
  (List.range 160).foldl rejudge (followPlace s (writeWord s m .GLB_PLACE 0 0 val be fun f => f != F.GLB_PLACE_LOCK))

theorem placeWrite_unlocked (hopen : s.flag F.GLB_PLACE_LOCK = false) (hval : bitAt val 31 = false) :
    placeWrite s m val be = placed s m val be := by
  simp only [placeWrite, hopen, hval, Bool.false_and, Bool.false_eq_true, if_false]
  rfl

theorem placeWrite_locks (hopen : s.flag F.GLB_PLACE_LOCK = false) (hval : bitAt val 31 = true) (hbe : bitAt be 3 = true)
    (hd : d = placed s m val be) (hgood : placeRefused d = false) :
    placeWrite s m val be = (List.range 160).foldl tryUp (d.wr0 F.GLB_PLACE_LOCK 1) := by
  rw [placed] at hd
  simp only [placeWrite, hopen, hval, hbe, ← hd, hgood, Bool.and_self, Bool.false_eq_true, if_false, if_true]

end Place

/-! ## The obligation -/

/-- Settles O2: each row answers its operation's next state; an access is the accesses of its words, and the registers named do
what R368, R370, R334 and 01 R27 to R30 say. -/
theorem registerRows : Obligations.RegisterRows := by
  unfold Obligations.RegisterRows
  refine ⟨?rows, ?placeRows, ?twoWords, ?reseqTo, ?timeNow, ?doorbell, ?place, ?lock⟩
  case rows =>
    intro s m off val be ev acc hwrite hval hread
    exact ⟨exec_registerWrite_ok hwrite hval, exec_latchedPairRead_ok hread⟩
  case placeRows =>
    intro s m val be hval hbe
    exact ⟨exec_glbPlaceWrite_taken hval hbe, exec_lock_taken hval hbe⟩
  case twoWords =>
    intro s m off val ev hacc hval
    have hwords : val < 2 ^ (32 * beWords 255) := hval
    rw [exec_registerWrite_ok hacc hwords, accessWrite_two_words hval]
  case reseqTo =>
    intro s m val be ev hval hbe htakes
    have hlt := beOk_lt hbe
    have hword : val < 2 ^ (32 * beWords be) := by rwa [beWords_word hlt]
    have hacc := accessOk_word (off := regOff .SWC_RESEQ_TO 0) (takesWrite_ok htakes) hbe (by decide) (by decide)
    rw [exec_registerWrite_ok hacc hword, accessWrite_word hlt hval, wordWrite_bar0 (by decide), busWrite_reseqTo htakes]
  case timeNow =>
    intro s c m hm hon hrun hawake hc
    have hacc := accessOk_word (off := regOff .TIM_NOW_LO 0) hm (beOk_whole m) (by decide) (by decide)
    rw [exec_latchedPairRead_word hacc, wordRead_bar0 (by decide), busRead_timeLow hon hrun hawake hc]
  case doorbell =>
    intro s q hon hawake hq
    have hbase : bar2Base = 2 ^ 28 := rfl
    have hacc : accessOk .host (bar2Base + 0x80000 + 4096 * q) 15 = true :=
      accessOk_host (by decide) (by omega) (.inr (by omega))
    rw [exec_latchedPairRead_word hacc, Nat.add_assoc, wordRead_bar2 hon hawake (by omega), bar2Read_completion hq]
  case place =>
    intro s c m val be hval hbe htakes hc hopen
    rw [exec_glbPlaceWrite_taken (by omega) hbe htakes, ← hc, placeWrite_unlocked hopen (bitAt_eq_false_of_lt hval), placed]
  case lock =>
    intro s c d m val be hlow hhigh hbe htakes hc hopen hd hgood
    have hset : bitAt val 31 = true := bitAt_eq_true_of_le hlow hhigh
    rw [exec_lock_taken hhigh hbe htakes, ← hc, hset, if_pos rfl, placeWrite_locks hopen hset bitAt_lock_byte hd hgood]

end Sys2Proof.Machine
end

section
/-! PROOFS. Commits (05 R145, R146; 13 R376 to R379): the rows answer their operation's next state where the write is taken or the
core runs; what an issue, a revert, a cancellation and the boundary make of the commit in each case their rules name. -/

namespace Sys2Proof.Machine

open Sys2Proof

/-! ## The rows of commits -/

section Rows

variable {s u : State} {m : Master} {ev : BootEv} {at_ : Nat}

theorem exec_issue_taken (h : takesWrite s m .GLB_CMT 0 0 = true) :
    exec (.issue m) s = .next (finish s (cmtWrite (wrote s m .GLB_CMT 0 0) m 1 15)) := by
  rw [exec_issue]
  exact atNow_rowBit (eff := fun s => cmtWrite s m 1 15) rfl rfl h

theorem exec_revert_taken (h : takesWrite s m .GLB_CMT 0 0 = true) :
    exec (.revert m) s = .next (finish s (cmtWrite (wrote s m .GLB_CMT 0 0) m 2 15)) := by
  rw [exec_revert]
  exact atNow_rowBit (eff := fun s => cmtWrite s m 2 15) rfl rfl h

theorem exec_cancel_taken (h : takesWrite s m .TIM_CMT_WHEN 0 0 = true) :
    exec (.cancel m) s = .next (finish s (cancelWrite (wrote s m .TIM_CMT_WHEN 0 0))) := by
  rw [exec_cancel]
  exact atNow_rowBit rfl rfl h

theorem exec_commitTakeEffect_run (hu : u = s.advance at_) (hrun : coreRuns u = true) :
    exec (.commitTakeEffect ev at_) s = .next (finish u (siteAfterCommit ev u (settleSwitch (takeCommit u)))) := by
  rw [exec_commitTakeEffect]
  exact atTime_whenCore (f := fun s => siteAfterCommit ev s (settleSwitch (takeCommit s))) hu rfl hrun

end Rows

/-! ## ISSUE (R376) -/

section Issue

variable {s d : State} {m : Master} {why b k off : Nat}

theorem cmtWrite_issue : cmtWrite s m 1 15 = issueCommit s m := rfl

theorem issueCommit_not_holder (hd : d = s.wr0 F.GLB_CMT_STAT_MASTER (masterCode m)) (hother : semHolder d ≠ masterCode m) :
    issueCommit s m = (cmtResult d 5 0).report 3 4 (masterCode m) (masterCode m) 3 := by
  subst hd
  exact if_pos hother

variable (hd : d = s.wr0 F.GLB_CMT_STAT_MASTER (masterCode m)) (hown : semHolder d = masterCode m)
include hd hown

theorem issueCommit_refused (hbound : commitBoundary d (d.rd0 F.TIM_CMT_WHEN_MODE) = .inr why) :
    issueCommit s m = (cmtResult d 4 0).wr0 F.TIM_CMT_STAT_RESULT why := by
  simp only [issueCommit, ← hd, if_neg (not_not_intro hown), hbound]

theorem issueCommit_failed (hbound : commitBoundary d (d.rd0 F.TIM_CMT_WHEN_MODE) = .inl b)
    (hcheck : firstCheck d (atShadows d) issueChecks = some (k, off)) :
    issueCommit s m = ((cmtResult d 6 k).wr0 F.GLB_CMT_OFS_OFFSET off).report 0 4 off (masterCode m) 3 := by
  simp only [issueCommit, ← hd, if_neg (not_not_intro hown), hbound, hcheck]

theorem issueCommit_pends (hbound : commitBoundary d (d.rd0 F.TIM_CMT_WHEN_MODE) = .inl b)
    (hcheck : firstCheck d (atShadows d) issueChecks = none) :
    issueCommit s m =
      { (cmtResult d 1 0).wr0 F.TIM_CMT_STAT_PENDING 1 with commit := some ⟨d.rd0 F.TIM_CMT_WHEN_MODE, b, m⟩ } := by
  simp only [issueCommit, ← hd, if_neg (not_not_intro hown), hbound, hcheck]

end Issue

/-! ## REVERT and CANCEL (R379, R146) -/

section Withdraw

variable {s : State} {m : Master} {k : PendCommit}

theorem cmtWrite_revert :
    cmtWrite s m 2 15 = if s.commit.isSome then s.accessFault m 3 (regOff .GLB_CMT 0) else revertShadows s := rfl

theorem cancelWrite_keeps (h : s.commit = none ∨ s.commit.any (boundaryReached s) = true) : cancelWrite s = s := by
  rcases h with hnone | hreached
  · simp only [cancelWrite, cancelCommit, hnone, Option.any_none, Bool.false_eq_true, if_false]
  · exact if_pos hreached

theorem cancelWrite_withdraws (hk : s.commit = some k) (hearly : boundaryReached s k = false) :
    cancelWrite s = (((({ s with commit := none } : State).wr0 F.TIM_CMT_STAT_PENDING 0).wr0 F.TIM_CMT_STAT_RESULT 2).wr0
      F.GLB_CMT_STAT_RESULT 3) := by
  simp only [cancelWrite, cancelCommit, hk, Option.any_some, hearly, Bool.false_eq_true, if_false]

end Withdraw

/-! ## The boundary (R377, R378) -/

section Boundary

variable {s c : State} {k : PendCommit} {n off : Nat}

theorem takeCommit_not_due (h : s.commit = none ∨ s.commit.any (boundaryReached s) = false) : takeCommit s = s := by
  match hk : s.commit with
  | none => simp only [takeCommit, hk]
  | some k =>
    have hearly : boundaryReached s k = false := by simpa [hk] using h
    simp only [takeCommit, hk, hearly, if_true]

variable (hk : s.commit = some k) (hdue : boundaryReached s k = true)
  (hc : c = ({ s with commit := none } : State).wr0 F.TIM_CMT_STAT_PENDING 0)
include hk hdue hc

theorem takeCommit_failed (hcheck : firstCheck s (atShadows s) boundaryChecks = some (n, off)) :
    takeCommit s = ((cmtResult c 7 n).wr0 F.GLB_CMT_OFS_OFFSET off).report 0 5 off := by
  simp only [takeCommit, hk, hdue, Bool.true_eq_false, if_false, hcheck, ← hc]

theorem takeCommit_taken (hcheck : firstCheck s (atShadows s) boundaryChecks = none) {d : State}
    (hd : d = ((cmtResult (commitEffects c) 2 0).wr0 F.GLB_SEM_DIRTY 0).wr0 F.TIM_CMT_STAT_RESULT 1) :
    takeCommit s =
      { d.wr0 F.GLB_CMT_STAT_TAKEN ((s.rd0 F.GLB_CMT_STAT_TAKEN + 1) % 65536) with passCut := true } := by
  simp only [takeCommit, hk, hdue, Bool.true_eq_false, if_false, hcheck, ← hc, ← hd]

end Boundary

/-! ## The obligation -/

/-- Settles O29: each row answers its operation's next state, and commits are issued, reverted, withdrawn and taken as 13 R376 to
R379 and 05 R145 and R146 say. -/
theorem commits : Obligations.Commits := by
  unfold Obligations.Commits
  refine ⟨?writeRows, ?timedRow, ?issue, ?revert, ?cancel, ?notDue, ?due⟩
  case writeRows =>
    intro s m
    exact ⟨exec_issue_taken, exec_revert_taken, exec_cancel_taken⟩
  case timedRow =>
    intro s u ev at_ hu hrun
    exact exec_commitTakeEffect_run hu hrun
  case issue =>
    intro s c d m htakes hc hd
    rw [exec_issue_taken htakes, ← hc, cmtWrite_issue]
    refine ⟨fun hother => ?_, fun why hown hbound => ?_, fun b k off hown hbound hcheck => ?_, fun b hown hbound hcheck => ?_⟩
    · rw [issueCommit_not_holder hd hother]
    · rw [issueCommit_refused hd hown hbound]
    · rw [issueCommit_failed hd hown hbound hcheck]
    · rw [issueCommit_pends hd hown hbound hcheck]
  case revert =>
    intro s c m htakes hc
    rw [exec_revert_taken htakes, ← hc, cmtWrite_revert]
    refine ⟨fun hpends => ?_, fun hnone => ?_⟩
    · rw [if_pos hpends]
    · rw [hnone, Option.isSome_none, if_neg Bool.false_ne_true, revertShadows, hnone]
  case cancel =>
    intro s c m htakes hc
    rw [exec_cancel_taken htakes, ← hc]
    refine ⟨fun hkept => ?_, fun k hk hearly => ?_⟩
    · rw [cancelWrite_keeps hkept]
    · rw [cancelWrite_withdraws hk hearly]
  case notDue =>
    intro s u ev at_ hu hrun hearly
    rw [exec_commitTakeEffect_run hu hrun, takeCommit_not_due hearly]
  case due =>
    intro s u c d ev at_ k hu hrun hk hdue hc
    rw [exec_commitTakeEffect_run hu hrun]
    refine ⟨fun n off hcheck => ?_, fun hcheck hd => ?_⟩
    · rw [takeCommit_failed hk hdue hc hcheck]
    · rw [takeCommit_taken hk hdue hc hcheck hd]

end Sys2Proof.Machine
end

section
/-! PROOFS. What reset leaves (13 R384, 15 R432): a register file that lists nothing reads as reset, and the end of the row of a
cold reset leaves the cold state as it is but for the counters of waits. -/

namespace Sys2Proof.Machine

open Sys2Proof

/-! ## Registers at reset -/

/-- A file that lists no field holds every field at its reset value, in either copy. -/
theorem rd_of_empty_regs {s : State} (h : s.regs = ⟨[], [], []⟩) (f : Field) (i : Nat) :
    s.rd f i = resetOf f i ∧ s.rdSw f i = resetOf f i := by
  simp only [State.rd, State.rdSw, h, ite_self]
  exact ⟨rfl, rfl⟩

theorem aliveRule_reset : aliveRule State.reset = true := by decide

/-! ## Waits at the end of a row (17 R467, R468) -/

/-- Steps that each change the telemetry alone change it alone together. -/
theorem foldl_tel_only {f : State → Nat → State} (hf : ∀ s a, ∃ x, f s a = { s with tel := x }) (l : List Nat) (s : State) :
    ∃ x, l.foldl f s = { s with tel := x } := by
  induction l generalizing s with
  | nil => exact ⟨s.tel, rfl⟩
  | cons a l ih =>
    obtain ⟨x, hx⟩ := hf s a
    obtain ⟨y, hy⟩ := ih (f s a)
    exact ⟨y, by rw [List.foldl_cons, hy, hx]⟩

theorem settleWaits_tel_only (s0 s : State) : ∃ x, settleWaits s0 s = { s with tel := x } := by
  obtain ⟨x, hended⟩ := foldl_tel_only (f := endWait) (fun _ _ => ⟨_, rfl⟩)
    ((waitingNow s0).filter fun a => !(waitingNow s).contains a) s
  obtain ⟨y, hstarted⟩ := foldl_tel_only (f := startWait) (fun _ _ => ⟨_, rfl⟩)
    ((waitingNow s).filter fun a => !(waitingNow s0).contains a) { s with tel := x }
  exact ⟨y, by rw [settleWaits, hended, hstarted]⟩

/-! ## The chip cold reset (R432) -/

section ColdReset

variable {s u : State} {lowNs at_ : Nat}

theorem settlePumps_no_pumps (h : s.pumps = []) : settlePumps s = s := by
  simp only [settlePumps, h, List.filter_nil, List.map_nil, List.foldl_nil, ite_self]

theorem settleHealth_off (h : chipOn s = false) : settleHealth u s = s := by
  simp only [settleHealth, h, Bool.false_and, Bool.false_eq_true, if_false]

theorem settleHeld_not_safe (h : isSafe s = false) : settleHeld u s = s := by
  simp only [settleHeld, h, Bool.false_and, Bool.false_eq_true, if_false]

theorem coldReset_off : chipOn (coldReset u) = false := by
  simp only [chipOn, coldReset, Bool.and_false, Bool.false_and]

theorem coldReset_not_safe : isSafe (coldReset u) = false := rfl

/-- ALIVE and its flag already stand at their reset values. -/
theorem settleAlive_coldReset : settleAlive (coldReset u) = coldReset u := by
  rw [settleAlive, if_neg]
  · rfl
  · rw [aliveHolds, coldReset_off]
    simp

theorem finish_coldReset (u : State) : ∃ x, finish u (coldReset u) = { coldReset u with tel := x } := by
  obtain ⟨x, hx⟩ := settleWaits_tel_only u (coldReset u)
  refine ⟨x, ?_⟩
  rw [finish, settlePumps_no_pumps rfl, settleHealth_off coldReset_off, settleHeld_not_safe coldReset_not_safe]
  exact (congrArg (settleWaits u) settleAlive_coldReset).trans hx

/-- PERST_N low for long enough resets the chip cold (19 R494). -/
theorem perstAssert_resets (hperst : s.pin.perst = true) (hlow : 100 ≤ lowNs) : perstAssert s lowNs = coldReset s := by
  rw [perstAssert, hperst, decide_eq_true hlow]
  rfl

theorem exec_perstNAssert_next (hu : u = s.advance at_) :
    exec (.perstNAssert ⟨lowNs, at_⟩) s = .next (finish u (perstAssert u lowNs)) := by
  subst hu
  rfl

end ColdReset

/-! ## The obligation -/

/-- Settles O52: reset and the cold reset list no field, and the row of PERST_N ends in the cold state with the counters of waits
settled. -/
theorem resetState : Obligations.ResetState := by
  unfold Obligations.ResetState
  refine ⟨⟨aliveRule_reset, rfl, reset_wf, rfl⟩, fun f i => rd_of_empty_regs rfl f i, ?cold⟩
  case cold =>
    intro s u lowNs at_ hu hperst hlow
    obtain ⟨x, hend⟩ := finish_coldReset u
    refine ⟨{ coldReset u with tel := x }, ?_, rfl, rfl, rfl, rfl, rfl, rfl, rfl, rfl, rfl, rfl, fun f i _ => ?_⟩
    · rw [exec_perstNAssert_next hu, perstAssert_resets hperst hlow, hend]
    · exact (rd_of_empty_regs rfl f i).1

end Sys2Proof.Machine
end

section
/-! PROOFS. One step of the block (14 R387; logs 18 and 19): the front of the queue runs on the queue's rest. -/

namespace Sys2Proof.Machine

open Sys2Proof

theorem step_pending_cons (c : Instr) (rest : List Instr) (s : State) :
    step { s with pending := c :: rest } = exec c { s with pending := rest } := rfl

theorem step_pending_nil {s : State} (h : s.pending = []) : step s = .next s := by rw [step, h]

/-- Settles O1: the two cases of the queue. -/
theorem stepRunsFront : Obligations.StepRunsFront := by
  unfold Obligations.StepRunsFront
  exact ⟨step_pending_cons, fun _ => step_pending_nil⟩

end Sys2Proof.Machine
end

section
/-! PROOFS. Gesta's watch over itself (14 R388, R402, R405, R406; 18 R482): the rows answer their operation's next state where
the chip runs or the write is taken; when a kick is taken, what a lapsed watchdog leads to, and what the limits of a trial
image, of the update lock and of the boot ROM's last line do. -/

namespace Sys2Proof.Machine

open Sys2Proof

/-! ## The rows of the watch -/

section Rows

variable {s u : State} {m : Master} {c at_ : Nat} {ev : BootEv}

theorem exec_kick_ok (hm : m.ok = true) (hc : c < 2) : exec (.kick m c) s = .next (finish s (kickRow s m c)) := by
  rw [exec_kick, execKick, hm, decide_eq_true hc]
  exact atNow_run

theorem exec_watchdogLapse_run (hu : u = s.advance at_) (hrun : chipOn u = true) (hc : c < 2) :
    exec (.watchdogLapse c ev at_) s = .next (finish u (watchdogLapse u c ev)) := by
  rw [exec_watchdogLapse]
  exact atTime_whenOn (f := fun s => watchdogLapse s c ev) hu (decide_eq_true hc) hrun

theorem exec_gmcRst_taken (h : takesWrite s m .GMC_CTRL 0 0 = true) :
    exec (.gmcRst m ev) s = .next (finish s (gmcReset (wrote s m .GMC_CTRL 0 0) ev none)) := by
  rw [exec_gmcRst]
  exact atNow_rowBit (eff := fun s => gmcReset s ev none) rfl rfl h

theorem exec_trialConfirm_run (hu : u = s.advance at_) (hrun : chipOn u = true) :
    exec (.trialConfirm at_) s = .next (finish u (trialConfirm u)) := by
  rw [exec_trialConfirm]
  exact atTime_whenOn hu rfl hrun

theorem exec_updateLockExpire_run (hu : u = s.advance at_) (hrun : chipOn u = true) :
    exec (.updateLockExpire at_) s = .next (finish u (updateLockExpire u)) := by
  rw [exec_updateLockExpire]
  exact atTime_whenOn hu rfl hrun

theorem exec_romLineRepeat_run (hu : u = s.advance at_) (hrun : chipOn u = true) :
    exec (.romLineRepeat at_) s = .next (finish u (romRepeat u)) := by
  rw [exec_romLineRepeat]
  exact atTime_whenOn hu rfl hrun

end Rows

/-! ## Kicks and lapses (R388) -/

section Watchdog

variable {s : State} {m : Master} {k : Nat} {ev : BootEv}

theorem kickRow_taken (hk : k < 2) (h : mayWrite s m = true ∨ m = .gesta k ∧ chipOn s = true ∧ isSafe s = false) :
    kickRow s m k = wdtWrite (countReg s m true (regOff .GMC_WDT 0)) m (2 ^ k) 1 := by
  refine if_pos ⟨Nat.le_of_lt_succ hk, ?_⟩
  obtain hmay | ⟨hown, hon, hlive⟩ := h
  · rw [hmay, Bool.true_or]
  · simp [hown, hon, hlive]

theorem kickRow_refused (hmay : mayWrite s m = false) (hm : m ≠ .gesta k) : kickRow s m k = s :=
  if_neg fun h => by simp [hmay, hm] at h

theorem watchdogLapse_not_lapsed (h : s.rd0 F.GMC_WDT_PERIOD = 0 ∨ s.now < kickOf s k + 1000000 * s.rd0 F.GMC_WDT_PERIOD ∨
    (coreRole s k < 2 ∧ (s.rd0 F.GMC_STAT_STAGE ≠ 8 ∨ coreRole s k ≠ 0))) : watchdogLapse s k ev = s := by
  refine if_pos ?_
  obtain hper | hearly | ⟨hoff, hout⟩ := h
  · exact .inr (.inl hper)
  · exact .inr (.inr (.inr hearly))
  · exact .inr (.inr (.inl ⟨hoff, fun ⟨hstage, hrole⟩ => hout.elim (· hstage) (· hrole)⟩))

/-- The state in which a core that worked has left its role for want of a kick (15 R439, R440). -/
def coreLapsed (s : State) (k : Nat) : State := settleAlive (daFault (coreLeaves (gmcFault s 4 k) k 1) 6 k)

/-- A working core lapses: Gesta goes on with the other core where that one works, and is reset where it does not. -/
theorem watchdogLapse_lapsed (hk : k < 2) (hper : s.rd0 F.GMC_WDT_PERIOD ≠ 0) (hrole : 2 ≤ coreRole s k)
    (hdue : kickOf s k + 1000000 * s.rd0 F.GMC_WDT_PERIOD ≤ s.now) :
    watchdogLapse s k ev = if coreRole s (1 - k) < 2 then gmcReset (coreLapsed s k) ev none else coreLapsed s k := by
  have hlive : ¬(k > 1 ∨ s.rd0 F.GMC_WDT_PERIOD = 0 ∨
      (coreRole s k < 2 ∧ ¬(s.rd0 F.GMC_STAT_STAGE = 8 ∧ coreRole s k = 0)) ∨
      s.now < kickOf s k + 1000000 * s.rd0 F.GMC_WDT_PERIOD) := by omega
  simp only [watchdogLapse, if_neg hlive, if_neg (Nat.not_lt.mpr hrole), coreLapsed]

end Watchdog

/-! ## The limits of a trial image, of the update lock and of the boot ROM's line (R405, R406, R482) -/

section Limits

variable {s : State} {t0 : Nat} {text : String}

theorem confirmRunning_on_trial (htrial : bcTrial (bootControl s) = 1) (hslot : bcPrefer (bootControl s) = runSlot s) :
    confirmRunning s = (bcWrite s 0 (bcTries (bootControl s)) (bcPrefer (bootControl s))).wr0 F.GMC_STAT_TRIAL 0 :=
  congrArg (State.wr0 · F.GMC_STAT_TRIAL 0) (if_pos ⟨htrial, hslot⟩)

theorem confirmRunning_not_on_trial (h : bcTrial (bootControl s) ≠ 1 ∨ bcPrefer (bootControl s) ≠ runSlot s) :
    confirmRunning s = s.wr0 F.GMC_STAT_TRIAL 0 :=
  congrArg (State.wr0 · F.GMC_STAT_TRIAL 0) (if_neg (not_and_or.mpr h))

theorem romRepeat_due (hline : s.gmc.line = some (text, t0))
    (hstage : s.rd0 F.GMC_STAT_STAGE = 0x0E ∨ s.rd0 F.GMC_STAT_STAGE = 0x0F) (hdue : t0 + 10000000000 ≤ s.now) :
    romRepeat s = modGmc (s.emit (.line text)) fun g => { g with line := some (text, s.now) } := by
  simp only [romRepeat, hline]
  exact if_pos ⟨hstage, hdue⟩

theorem romRepeat_not_due (hline : s.gmc.line = some (text, t0))
    (h : s.rd0 F.GMC_STAT_STAGE ≠ 0x0E ∧ s.rd0 F.GMC_STAT_STAGE ≠ 0x0F ∨ s.now < t0 + 10000000000) : romRepeat s = s := by
  simp only [romRepeat, hline]
  exact if_neg (by omega)

end Limits

/-! ## The obligation -/

/-- Settles O32: each row answers its operation's next state; kicks, lapses, a GMC reset and the limits of Gesta do what R388,
R402, R405, R406 and R482 say. -/
theorem gestaWatch : Obligations.GestaWatch := by
  unfold Obligations.GestaWatch
  refine ⟨?kickRow, ?timed, ?reset, ?kick, ?lapse, ?resetOnce, ?trial, ?lock, ?line⟩
  case kickRow => exact fun s m c => exec_kick_ok
  case timed =>
    intro s u c at_ ev hu hrun hc
    exact ⟨exec_watchdogLapse_run hu hrun hc, exec_trialConfirm_run hu hrun, exec_updateLockExpire_run hu hrun,
      exec_romLineRepeat_run hu hrun⟩
  case reset => exact fun s m ev => exec_gmcRst_taken
  case kick =>
    intro s m k hm hk
    rw [exec_kick_ok hm hk]
    refine ⟨fun htaken => ?_, fun hmay hother => ?_⟩
    · rw [kickRow_taken hk htaken]
    · rw [kickRow_refused hmay hother]
  case lapse =>
    intro s u k ev at_ hu hrun hk
    rw [exec_watchdogLapse_run hu hrun hk]
    refine ⟨fun hnot => ?_, fun hper hrole hdue => ?_⟩
    · rw [watchdogLapse_not_lapsed hnot]
    · rw [watchdogLapse_lapsed hk hper hrole hdue]
      refine ⟨fun hworks => ?_, fun halone => ?_⟩
      · rw [if_neg (Nat.not_lt.mpr hworks), coreLapsed]
      · rw [if_pos halone, coreLapsed]
  case resetOnce =>
    intro s c m ev htaken hc
    rw [exec_gmcRst_taken htaken, hc]
  case trial =>
    intro s u at_ due hu hrun hdue
    rw [exec_trialConfirm_run hu hrun]
    refine ⟨fun hnot => ?_, fun hnow htrial hslot => ?_, fun hnow hother => ?_⟩
    · rw [trialConfirm, if_neg (mt hdue.mpr hnot)]
    · rw [trialConfirm, if_pos (hdue.mp hnow), confirmRunning_on_trial htrial hslot]
    · rw [trialConfirm, if_pos (hdue.mp hnow), confirmRunning_not_on_trial hother]
  case lock =>
    intro s u at_ hu hrun
    rw [exec_updateLockExpire_run hu hrun]
    refine ⟨fun hidle => ?_, fun huse => ?_⟩
    · rw [updateLockExpire, if_pos hidle]
    · rw [updateLockExpire, if_neg (ne_true_of_eq_false huse)]
  case line =>
    intro s u at_ t0 text hu hrun hline
    rw [exec_romLineRepeat_run hu hrun]
    refine ⟨fun hstage hdue => ?_, fun hnot => ?_⟩
    · rw [romRepeat_due hline hstage hdue]
    · rw [romRepeat_not_due hline hnot]

end Sys2Proof.Machine
end

section
/-! PROOFS. A firmware update over PLDM (14 R406, R407): the rows answer their operation's next state wherever the chip runs; what
each command answers under the lock at its step, and that any other is answered as out of order. -/

namespace Sys2Proof.Machine

open Sys2Proof

/-! ## The rows of the update -/

section Rows

variable {s u : State} {pcie ok : Bool} {at_ comp off : Nat} {data : List Byte} {act : Activate} {ev : BootEv}

theorem exec_requestUpdate_run (hu : u = s.advance at_) (hrun : chipOn u = true) :
    exec (.requestUpdate pcie at_) s = .next (finish u (pldmVia u pcie fun v => pldmRequest v pcie)) := by
  rw [exec_requestUpdate]
  exact atTime_whenOn (f := fun s => pldmVia s pcie fun v => pldmRequest v pcie) hu rfl hrun

theorem exec_passComponentTable_run (hu : u = s.advance at_) (hrun : chipOn u = true) :
    exec (.passComponentTable pcie comp at_) s = .next (finish u (pldmVia u pcie fun v => pldmTable v pcie comp)) := by
  rw [exec_passComponentTable]
  exact atTime_whenOn (f := fun s => pldmVia s pcie fun v => pldmTable v pcie comp) hu rfl hrun

theorem exec_updateComponent_run (hu : u = s.advance at_) (hrun : chipOn u = true) :
    exec (.updateComponent pcie comp at_) s = .next (finish u (pldmVia u pcie fun v => pldmUpdate v pcie comp)) := by
  rw [exec_updateComponent]
  exact atTime_whenOn (f := fun s => pldmVia s pcie fun v => pldmUpdate v pcie comp) hu rfl hrun

theorem exec_pldmFirmwareTransfer_run (hu : u = s.advance at_) (hrun : chipOn u = true) :
    exec (.pldmFirmwareTransfer pcie off data ok at_) s =
      .next (finish u (pldmVia u pcie fun v => pldmData v pcie off data ok)) := by
  rw [exec_pldmFirmwareTransfer]
  exact atTime_whenOn (f := fun s => pldmVia s pcie fun v => pldmData v pcie off data ok) hu rfl hrun

theorem exec_verifyComplete_run (hu : u = s.advance at_) (hrun : chipOn u = true) :
    exec (.verifyComplete pcie at_) s = .next (finish u (pldmVia u pcie fun v => pldmVerify v pcie)) := by
  rw [exec_verifyComplete]
  exact atTime_whenOn (f := fun s => pldmVia s pcie fun v => pldmVerify v pcie) hu rfl hrun

theorem exec_applyComplete_run (hu : u = s.advance at_) (hrun : chipOn u = true) :
    exec (.applyComplete pcie at_) s = .next (finish u (pldmVia u pcie fun v => pldmApply v pcie)) := by
  rw [exec_applyComplete]
  exact atTime_whenOn (f := fun s => pldmVia s pcie fun v => pldmApply v pcie) hu rfl hrun

theorem exec_activateFirmware_run (hu : u = s.advance at_) (hrun : chipOn u = true) :
    exec (.activateFirmware act ev at_) s =
      .next (finish u (pldmVia u act.pcie fun v => pldmActivate v act.pcie act.self ev)) := by
  rw [exec_activateFirmware]
  exact atTime_whenOn (f := fun s => pldmVia s act.pcie fun v => pldmActivate v act.pcie act.self ev) hu rfl hrun

end Rows

/-! ## Who is answered, and in which order (R406, R407) -/

section Order

variable {s : State} {pcie ok : Bool} {cmd n : Nat} {f : State → State}

theorem pldmVia_serves (hserves : gestaServes s = true) (heid : mctpEid s pcie ≠ 0) : pldmVia s pcie f = f s := by
  rw [pldmVia, if_pos hserves, mctpOpen_with_eid heid]

theorem pldmStep_in_order (hlock : lockedBy s 1 = true) (hok : ok = true) :
    pldmStep s pcie cmd ok f = pldmSay (f (takeLock s 1)) pcie cmd 0 := by
  rw [pldmStep, hlock, hok, Bool.and_self, if_pos rfl]

theorem pldmStep_out_of_order (h : lockedBy s 1 = false ∨ ok = false) :
    pldmStep s pcie cmd ok f = pldmSay s pcie cmd 0x80 :=
  if_neg (ne_true_of_eq_false (Bool.and_eq_false_iff.mpr h))

theorem pldmRequest_free (h : s.gmc.upd.lock = none) :
    pldmRequest s pcie = pldmSay (setStep (takeLock s 1) 1) pcie 0x10 0 := by
  simp only [pldmRequest, h, Option.isSome_none, Bool.false_eq_true, if_false]

theorem pldmRequest_held (h : s.gmc.upd.lock.isSome = true) : pldmRequest s pcie = pldmSay s pcie 0x10 0x81 := if_pos h

end Order

/-! ## The steps of an update (R407) -/

section Steps

variable {s : State} {pcie ok self : Bool} {comp off : Nat} {data : List Byte} {ev : BootEv}

/-- The test of the step and of the component that a command names. -/
theorem step_and_component_eq_false {n k c : Nat} (h : n ≠ k ∨ c ≠ 1) : (n == k && c == 1) = false := by
  simpa [Decidable.imp_iff_not_or] using h

theorem pldmTable_in_order (hlock : lockedBy s 1 = true) (hstep : s.gmc.upd.step = 1) (hcomp : comp = 1) :
    pldmTable s pcie comp = pldmSay (setStep (takeLock s 1) 2) pcie 0x13 0 :=
  pldmStep_in_order hlock (by rw [hstep, hcomp]; rfl)

theorem pldmTable_out_of_order (h : lockedBy s 1 = false ∨ s.gmc.upd.step ≠ 1 ∨ comp ≠ 1) :
    pldmTable s pcie comp = pldmSay s pcie 0x13 0x80 :=
  pldmStep_out_of_order (h.imp_right step_and_component_eq_false)

theorem pldmUpdate_in_order (hlock : lockedBy s 1 = true) (hstep : s.gmc.upd.step = 2) (hcomp : comp = 1) :
    pldmUpdate s pcie comp = pldmSay
      (modGmc (flashErase (takeLock s 1) (slotBase (otherSlot (takeLock s 1))) 0x1F00000)
        fun g => { g with upd := { g.upd with step := 3, got := 0, verified := false } }) pcie 0x14 0 :=
  pldmStep_in_order hlock (by rw [hstep, hcomp]; rfl)

theorem pldmUpdate_out_of_order (h : lockedBy s 1 = false ∨ s.gmc.upd.step ≠ 2 ∨ comp ≠ 1) :
    pldmUpdate s pcie comp = pldmSay s pcie 0x14 0x80 :=
  pldmStep_out_of_order (h.imp_right step_and_component_eq_false)

theorem pldmData_in_order (hlock : lockedBy s 1 = true) (hstep : s.gmc.upd.step = 3) (hfits : off + data.length ≤ 0x1F00000) :
    pldmData s pcie off data ok = pldmSay
      (if ok then modGmc (flashPut data (slotBase (otherSlot s) + off) (takeLock s 1))
        fun g => { g with upd := { g.upd with got := g.upd.got + data.length } }
      else flashFail (takeLock s 1) (slotBase (otherSlot s) + off) data.length) pcie 0x15 0 := by
  rw [pldmData, pldmStep_in_order hlock (by rw [hstep, decide_eq_true hfits]; rfl)]

theorem pldmData_out_of_order (h : lockedBy s 1 = false ∨ s.gmc.upd.step ≠ 3 ∨ 0x1F00000 < off + data.length) :
    pldmData s pcie off data ok = pldmSay s pcie 0x15 0x80 := by
  rw [pldmData, pldmStep_out_of_order (h.imp_right fun hbad => by simpa [Decidable.imp_iff_not_or] using hbad)]

theorem pldmVerify_in_order (hlock : lockedBy s 1 = true) (hstep : s.gmc.upd.step = 3) :
    pldmVerify s pcie = pldmSay
      (modGmc (slotJudge (takeLock s 1) (otherSlot s)).2 fun g => { g with upd := { g.upd with
        step := if (slotJudge (takeLock s 1) (otherSlot s)).1 = 0 then 4 else 3
        verified := (slotJudge (takeLock s 1) (otherSlot s)).1 == 0 } })
      pcie 0x17 (slotJudge (takeLock s 1) (otherSlot s)).1 := by
  rw [pldmVerify, if_pos (Bool.and_eq_true_iff.mpr ⟨hlock, beq_iff_eq.mpr hstep⟩)]

theorem pldmVerify_out_of_order (h : lockedBy s 1 = false ∨ s.gmc.upd.step ≠ 3) :
    pldmVerify s pcie = pldmSay s pcie 0x17 0x80 :=
  if_neg (ne_true_of_eq_false (Bool.and_eq_false_iff.mpr (h.imp_right beq_eq_false_iff_ne.mpr)))

theorem pldmApply_in_order (hlock : lockedBy s 1 = true) (hstep : s.gmc.upd.step = 4) :
    pldmApply s pcie =
      pldmSay (setStep (trialState (bcWrite (takeLock s 1) 1 3 (otherSlot (takeLock s 1)))) 5) pcie 0x18 0 :=
  pldmStep_in_order hlock (beq_iff_eq.mpr hstep)

theorem pldmApply_out_of_order (h : lockedBy s 1 = false ∨ s.gmc.upd.step ≠ 4) :
    pldmApply s pcie = pldmSay s pcie 0x18 0x80 :=
  pldmStep_out_of_order (h.imp_right beq_eq_false_iff_ne.mpr)

theorem pldmActivate_in_order {e : State} (hlock : lockedBy s 1 = true) (hstep : s.gmc.upd.step = 5)
    (he : e = (pldmSay (modGmc (freeLock s) fun g => { g with ucodePending := true }) pcie 0x1A 0).emit .ucodePending) :
    pldmActivate s pcie self ev = if self then gmcReset e ev none else e := by
  subst he
  exact if_pos (by rw [hlock, hstep]; rfl)

theorem pldmActivate_out_of_order (h : lockedBy s 1 = false ∨ s.gmc.upd.step ≠ 5) :
    pldmActivate s pcie self ev = pldmSay s pcie 0x1A 0x80 :=
  if_neg (ne_true_of_eq_false (Bool.and_eq_false_iff.mpr (h.imp_right beq_eq_false_iff_ne.mpr)))

end Steps

end Sys2Proof.Machine

/-! ## The obligation -/

namespace Sys2Proof

open Machine

/-- Settles O36: each row answers its operation's next state, and an update goes from step to step as R407 says, answered as out
of order elsewhere. Named in `Sys2Proof`, as the model's `Machine.pldmUpdate` is the operation of one of the steps. -/
theorem pldmUpdate : Obligations.PldmUpdate := by
  unfold Obligations.PldmUpdate
  refine ⟨?rows, ?steps⟩
  case rows =>
    intro s u pcie ok at_ comp off data act ev hu hrun
    exact ⟨exec_requestUpdate_run hu hrun, exec_passComponentTable_run hu hrun, exec_updateComponent_run hu hrun,
      exec_pldmFirmwareTransfer_run hu hrun, exec_verifyComplete_run hu hrun, exec_applyComplete_run hu hrun,
      exec_activateFirmware_run hu hrun⟩
  case steps =>
    intro s u d pcie at_ n hu hrun hserves heid hd hn
    subst hd hn
    rw [exec_requestUpdate_run hu hrun, exec_verifyComplete_run hu hrun, exec_applyComplete_run hu hrun,
      pldmVia_serves hserves heid, pldmVia_serves hserves heid, pldmVia_serves hserves heid]
    refine ⟨?free, ?held, ?components, ?transfer, ?verify, ?notVerify, ?apply, ?notApply, ?activate⟩
    case free => exact fun hfree => by rw [pldmRequest_free hfree]
    case held => exact fun hheld => by rw [pldmRequest_held hheld]
    case components =>
      intro c
      rw [exec_passComponentTable_run hu hrun, exec_updateComponent_run hu hrun, pldmVia_serves hserves heid,
        pldmVia_serves hserves heid]
      refine ⟨fun hlock hstep hc => ?_, fun hbad => ?_, fun hlock hstep hc => ?_, fun hbad => ?_⟩
      · rw [pldmTable_in_order hlock hstep hc]
      · rw [pldmTable_out_of_order hbad]
      · rw [pldmUpdate_in_order hlock hstep hc]
      · rw [pldmUpdate_out_of_order hbad]
    case transfer =>
      intro off data
      refine ⟨fun hlock hstep hfits => ?_, fun ok hbad => ?_⟩
      · rw [exec_pldmFirmwareTransfer_run hu hrun, exec_pldmFirmwareTransfer_run hu hrun, pldmVia_serves hserves heid,
          pldmVia_serves hserves heid, pldmData_in_order hlock hstep hfits, pldmData_in_order hlock hstep hfits]
        exact ⟨rfl, rfl⟩
      · rw [exec_pldmFirmwareTransfer_run hu hrun, pldmVia_serves hserves heid, pldmData_out_of_order hbad]
    case verify => exact fun hlock hstep => by rw [pldmVerify_in_order hlock hstep]
    case notVerify => exact fun hbad => by rw [pldmVerify_out_of_order hbad]
    case apply => exact fun hlock hstep => by rw [pldmApply_in_order hlock hstep]
    case notApply => exact fun hbad => by rw [pldmApply_out_of_order hbad]
    case activate =>
      intro ev self e he
      rw [exec_activateFirmware_run hu hrun, pldmVia_serves hserves heid]
      refine ⟨fun hlock hstep => ?_, fun hbad => ?_⟩
      · rw [pldmActivate_in_order hlock hstep he]
      · rw [pldmActivate_out_of_order hbad]

end Sys2Proof
end

section
/-! PROOFS. The mailboxes (14 R405, R406, R409, R410): the rows answer their operation's next state wherever the chip runs; which
requests Gesta takes, and what each command answers, case by case of its arguments, of the update lock and of the flash. -/

namespace Sys2Proof.Machine

open Sys2Proof

/-! ## The rows of the mailboxes -/

section Rows

variable {s u : State} {mb at_ : Nat} {ok : Bool}

theorem exec_getInfo_run (hu : u = s.advance at_) (hrun : chipOn u = true) (hmb : mb < 2) :
    exec (.getInfo mb at_) s = .next (finish u (mbServe u mb 1 fun v => mbGetInfo v mb)) := by
  rw [exec_getInfo]
  exact atTime_whenOn (f := fun s => mbServe s mb 1 fun v => mbGetInfo v mb) hu (decide_eq_true hmb) hrun

theorem exec_flashRead_run (hu : u = s.advance at_) (hrun : chipOn u = true) (hmb : mb < 2) :
    exec (.flashRead mb at_) s = .next (finish u (mbServe u mb 2 fun v => mbFlashRead v mb)) := by
  rw [exec_flashRead]
  exact atTime_whenOn (f := fun s => mbServe s mb 2 fun v => mbFlashRead v mb) hu (decide_eq_true hmb) hrun

theorem exec_flashErase_run (hu : u = s.advance at_) (hrun : chipOn u = true) (hmb : mb < 2) :
    exec (.flashErase mb ok at_) s = .next (finish u (mbServe u mb 3 fun v => mbFlashErase v mb ok)) := by
  rw [exec_flashErase]
  exact atTime_whenOn (f := fun s => mbServe s mb 3 fun v => mbFlashErase v mb ok) hu (decide_eq_true hmb) hrun

theorem exec_flashWrite_run (hu : u = s.advance at_) (hrun : chipOn u = true) (hmb : mb < 2) :
    exec (.flashWrite mb ok at_) s = .next (finish u (mbServe u mb 4 fun v => mbFlashWrite v mb ok)) := by
  rw [exec_flashWrite]
  exact atTime_whenOn (f := fun s => mbServe s mb 4 fun v => mbFlashWrite v mb ok) hu (decide_eq_true hmb) hrun

theorem exec_verifySlot_run (hu : u = s.advance at_) (hrun : chipOn u = true) (hmb : mb < 2) :
    exec (.verifySlot mb at_) s = .next (finish u (mbServe u mb 5 fun v => mbVerifySlot v mb)) := by
  rw [exec_verifySlot]
  exact atTime_whenOn (f := fun s => mbServe s mb 5 fun v => mbVerifySlot v mb) hu (decide_eq_true hmb) hrun

theorem exec_setPrefer_run (hu : u = s.advance at_) (hrun : chipOn u = true) (hmb : mb < 2) :
    exec (.setPrefer mb at_) s = .next (finish u (mbServe u mb 6 fun v => mbSetPrefer v mb)) := by
  rw [exec_setPrefer]
  exact atTime_whenOn (f := fun s => mbServe s mb 6 fun v => mbSetPrefer v mb) hu (decide_eq_true hmb) hrun

theorem exec_confirm_run (hu : u = s.advance at_) (hrun : chipOn u = true) (hmb : mb < 2) :
    exec (.confirm mb at_) s = .next (finish u (mbServe u mb 7 fun v => mbConfirm v mb)) := by
  rw [exec_confirm]
  exact atTime_whenOn (f := fun s => mbServe s mb 7 fun v => mbConfirm v mb) hu (decide_eq_true hmb) hrun

theorem exec_logRead_run (hu : u = s.advance at_) (hrun : chipOn u = true) (hmb : mb < 2) :
    exec (.logRead mb at_) s = .next (finish u (mbServe u mb 8 fun v => mbLogRead v mb)) := by
  rw [exec_logRead]
  exact atTime_whenOn (f := fun s => mbServe s mb 8 fun v => mbLogRead v mb) hu (decide_eq_true hmb) hrun

theorem exec_mailboxUnknownCmd_run (hu : u = s.advance at_) (hrun : chipOn u = true) (hmb : mb < 2) :
    exec (.mailboxUnknownCmd mb at_) s = .next (finish u (mbUnknown u mb)) := by
  rw [exec_mailboxUnknownCmd]
  exact atTime_whenOn (f := fun s => mbUnknown s mb) hu (decide_eq_true hmb) hrun

end Rows

/-! ## Which requests are taken (R410) -/

section Requests

variable {s : State} {m cmd a n : Nat} {f : State → State}

theorem mbServe_taken (hserves : gestaServes s = true) (hreq : s.gmc.mbox.contains m = true)
    (hcmd : cmd = bits (mbWord s m 0) 24 8) : mbServe s m cmd f = f s :=
  if_pos ⟨hserves, hreq, hcmd.symm⟩

/-- No request waits: none is in the mailbox, or its word of command is still clear. -/
theorem mbServe_no_request (hcmd : cmd ≠ 0) (h : s.gmc.mbox.contains m = false ∨ bits (mbWord s m 0) 24 8 = 0) :
    mbServe s m cmd f = s := by
  refine if_neg fun ⟨_, hreq, hword⟩ => ?_
  obtain hnone | hzero := h
  · exact ne_true_of_eq_false hnone hreq
  · exact hcmd (hword.symm.trans hzero)

theorem mbPlain_with_data (hlen : mbLen s m ≠ 0) : mbPlain s m f = mboxRespond s m 2 [] [] := if_pos hlen

theorem mbPlain_without_data (hlen : mbLen s m = 0) : mbPlain s m f = f s := if_neg (not_not_intro hlen)

theorem mbUpdate_locked (hlock : lockedBy s 1 = true) : mbUpdate s m a n f = mboxRespond s m 8 [] [] := if_pos hlock

theorem mbUpdate_refused (hlock : lockedBy s 1 = false) (href : flashRefused s a n = true) :
    mbUpdate s m a n f = mboxRespond s m 3 [] [] := by
  rw [mbUpdate, if_neg (ne_true_of_eq_false hlock), if_pos href]

theorem mbUpdate_taken (hlock : lockedBy s 1 = false) (href : flashRefused s a n = false) :
    mbUpdate s m a n f = f (takeLock s 0) := by
  rw [mbUpdate, if_neg (ne_true_of_eq_false hlock), if_neg (ne_true_of_eq_false href)]

theorem mbUnknown_of_table (hlow : 1 ≤ bits (mbWord s m 0) 24 8) (hhigh : bits (mbWord s m 0) 24 8 ≤ 8) :
    mbUnknown s m = s := if_pos ⟨hlow, hhigh⟩

theorem mbUnknown_answers (hserves : gestaServes s = true) (hreq : s.gmc.mbox.contains m = true)
    (h : bits (mbWord s m 0) 24 8 = 0 ∨ 8 < bits (mbWord s m 0) 24 8) : mbUnknown s m = mboxRespond s m 1 [] [] := by
  have hout : ¬(1 ≤ bits (mbWord s m 0) 24 8 ∧ bits (mbWord s m 0) 24 8 ≤ 8) := by omega
  rw [mbUnknown, if_neg hout, mbServe_taken hserves hreq rfl]

end Requests

/-! ## The flash (R406, R409) -/

section Flash

variable {s : State} {m : Nat} {ok : Bool}

theorem mbFlashRead_bad_arguments (hlen : mbLen s m = 0)
    (h : mbArg s m 0 % 4 ≠ 0 ∨ mbArg s m 1 % 4 ≠ 0 ∨ 4064 < mbArg s m 1) : mbFlashRead s m = mboxRespond s m 2 [] [] := by
  rw [mbFlashRead, mbPlain_without_data hlen]
  exact if_pos h

/-- A read whose arguments are good is answered by its range: 0x03 where that reaches the reserved flash. -/
theorem mbFlashRead_good_arguments (hlen : mbLen s m = 0) (ha : mbArg s m 0 % 4 = 0) (hn : mbArg s m 1 % 4 = 0)
    (hmax : mbArg s m 1 ≤ 4064) : mbFlashRead s m =
      if 0x3F00000 ≤ mbArg s m 0 ∨ 0x3F00000 < mbArg s m 0 + mbArg s m 1 then mboxRespond s m 3 [] []
      else mboxRespond { s with freeCtr := s.freeCtr + mbArg s m 1 } m 0 [] (flashSeen s (mbArg s m 0) (mbArg s m 1)) := by
  rw [mbFlashRead, mbPlain_without_data hlen]
  exact if_neg (by omega)

theorem mbFlashErase_bad_arguments (hlen : mbLen s m = 0) (h : mbArg s m 0 % 65536 ≠ 0 ∨ mbArg s m 1 % 65536 ≠ 0) :
    mbFlashErase s m ok = mboxRespond s m 2 [] [] := by
  rw [mbFlashErase, mbPlain_without_data hlen]
  exact if_pos h

theorem mbFlashErase_good_arguments (hlen : mbLen s m = 0) (ha : mbArg s m 0 % 65536 = 0) (hn : mbArg s m 1 % 65536 = 0) :
    mbFlashErase s m ok = mbUpdate s m (mbArg s m 0) (mbArg s m 1) fun v =>
      if ok then mboxRespond (flashErase (freeLog v (mbArg s m 0) (mbArg s m 1)) (mbArg s m 0) (mbArg s m 1)) m 0 [] []
      else mboxRespond (flashFail (freeLog v (mbArg s m 0) (mbArg s m 1)) (mbArg s m 0) (mbArg s m 1)) m 4 [] [] := by
  rw [mbFlashErase, mbPlain_without_data hlen]
  exact if_neg (by omega)

theorem mbFlashWrite_bad_arguments (h : mbArg s m 0 % 4 ≠ 0 ∨ mbLen s m % 4 ≠ 0 ∨ 4064 < mbLen s m) :
    mbFlashWrite s m ok = mboxRespond s m 2 [] [] := if_pos h

theorem mbFlashWrite_good_arguments (ha : mbArg s m 0 % 4 = 0) (hn : mbLen s m % 4 = 0) (hmax : mbLen s m ≤ 4064) :
    mbFlashWrite s m ok = mbUpdate s m (mbArg s m 0) (mbLen s m) fun v =>
      if ok then
        mboxRespond (flashProgram (mbData v m (mbLen s m)) (mbArg s m 0) (freeLog v (mbArg s m 0) (mbLen s m))) m 0 [] []
      else mboxRespond (flashFail (freeLog v (mbArg s m 0) (mbLen s m)) (mbArg s m 0) (mbLen s m)) m 4 [] [] :=
  if_neg (by omega)

end Flash

/-! ## Slots and the event log (R405, R409) -/

section Slots

variable {s d : State} {m : Nat} {e : List Byte}

theorem mbVerifySlot_no_slot (hlen : mbLen s m = 0) (h : 1 < mbArg s m 0) : mbVerifySlot s m = mboxRespond s m 2 [] [] := by
  rw [mbVerifySlot, mbPlain_without_data hlen]
  exact if_pos h

theorem mbVerifySlot_judged (hlen : mbLen s m = 0) (h : mbArg s m 0 ≤ 1) : mbVerifySlot s m =
    mboxRespond (slotJudge s (mbArg s m 0)).2 m (slotJudge s (mbArg s m 0)).1
      (slotInfo (slotJudge s (mbArg s m 0)).2 (mbArg s m 0)) [] := by
  simp only [mbVerifySlot, mbPlain_without_data hlen, if_neg (Nat.not_lt.mpr h)]

theorem mbSetPrefer_no_slot (hlen : mbLen s m = 0) (h : 1 < mbArg s m 0) : mbSetPrefer s m = mboxRespond s m 2 [] [] := by
  rw [mbSetPrefer, mbPlain_without_data hlen]
  exact if_pos h

theorem mbSetPrefer_locked (hlen : mbLen s m = 0) (h : mbArg s m 0 ≤ 1) (hlock : lockedBy s 1 = true) :
    mbSetPrefer s m = mboxRespond s m 8 [] [] := by
  simp only [mbSetPrefer, mbPlain_without_data hlen, if_neg (Nat.not_lt.mpr h), if_pos hlock]

theorem mbSetPrefer_judged (hlen : mbLen s m = 0) (h : mbArg s m 0 ≤ 1) (hlock : lockedBy s 1 = false)
    (hd : d = trialState (freeLock (bcWrite (slotJudge s (mbArg s m 0)).2 (mbArg s m 1 % 2) (3 * (mbArg s m 1 % 2))
      (mbArg s m 0)))) :
    mbSetPrefer s m = if (slotJudge s (mbArg s m 0)).1 = 0 then mboxRespond d m 0 [0, 0, 0, 0, bootControl d] []
      else mboxRespond (slotJudge s (mbArg s m 0)).2 m 5 [] [] := by
  subst hd
  simp only [mbSetPrefer, mbPlain_without_data hlen, if_neg (Nat.not_lt.mpr h), if_neg (ne_true_of_eq_false hlock)]
  exact ite_not ..

theorem mbLogRead_no_entry (hlen : mbLen s m = 0) (h : s.gmc.log[mbArg s m 0]? = none) :
    mbLogRead s m = mboxRespond s.tick m (Config.freeNat s.freeCtr % 256) [] [] := by
  simp only [mbLogRead, mbPlain_without_data hlen, h]

theorem mbLogRead_entry (hlen : mbLen s m = 0) (h : s.gmc.log[mbArg s m 0]? = some e) :
    mbLogRead s m = mboxRespond s m 0 [] (e.take 4064) := by
  simp only [mbLogRead, mbPlain_without_data hlen, h]

end Slots

/-! ## The obligation -/

/-- Settles O37: each row answers its operation's next state, and Gesta takes and answers each command as R405, R406, R409 and R410
say. -/
theorem mailboxes : Obligations.Mailboxes := by
  unfold Obligations.Mailboxes
  refine ⟨?rows, ?noRequest, ?commands⟩
  case rows =>
    intro s u mb at_ ok hu hrun hmb
    exact ⟨exec_getInfo_run hu hrun hmb, exec_flashRead_run hu hrun hmb, exec_flashErase_run hu hrun hmb,
      exec_flashWrite_run hu hrun hmb, exec_verifySlot_run hu hrun hmb, exec_setPrefer_run hu hrun hmb,
      exec_confirm_run hu hrun hmb, exec_logRead_run hu hrun hmb, exec_mailboxUnknownCmd_run hu hrun hmb⟩
  case noRequest =>
    intro s u mb at_ ok hu hrun hmb hnone
    have hidle : ∀ cmd ≠ 0, ∀ f, mbServe u mb cmd f = u := fun _ hcmd _ => mbServe_no_request hcmd hnone
    rw [exec_getInfo_run hu hrun hmb, exec_flashRead_run hu hrun hmb, exec_flashErase_run hu hrun hmb,
      exec_flashWrite_run hu hrun hmb, exec_verifySlot_run hu hrun hmb, exec_setPrefer_run hu hrun hmb,
      exec_confirm_run hu hrun hmb, exec_logRead_run hu hrun hmb]
    simp [hidle]
  case commands =>
    intro s u d mb at_ cmd len a n ok hu hrun hserves hmb hreq hcmd hlen ha hn
    subst hlen ha hn
    have hserve : ∀ {k f}, cmd = k → mbServe u mb k f = f u := fun hk => mbServe_taken hserves hreq (hk.symm.trans hcmd)
    rw [exec_getInfo_run hu hrun hmb, exec_flashRead_run hu hrun hmb, exec_verifySlot_run hu hrun hmb,
      exec_setPrefer_run hu hrun hmb, exec_confirm_run hu hrun hmb, exec_logRead_run hu hrun hmb,
      exec_mailboxUnknownCmd_run hu hrun hmb]
    refine ⟨?info, ?withData, ?read, ?erase, ?write, ?verify, ?prefer, ?confirm, ?log, ?unknown, ?known⟩
    case info => exact fun hk hempty => by rw [hserve hk, mbGetInfo, mbPlain_without_data hempty]
    case withData =>
      intro hdata
      refine ⟨fun hk => ?_, fun hk => ?_, fun hk => ?_, fun hk => ?_, fun hk => ?_, fun hk => ?_, fun hk => ?_⟩
      · rw [hserve hk, mbGetInfo, mbPlain_with_data hdata]
      · rw [hserve hk, mbFlashRead, mbPlain_with_data hdata]
      · rw [exec_flashErase_run hu hrun hmb, hserve hk, mbFlashErase, mbPlain_with_data hdata]
      · rw [hserve hk, mbVerifySlot, mbPlain_with_data hdata]
      · rw [hserve hk, mbSetPrefer, mbPlain_with_data hdata]
      · rw [hserve hk, mbConfirm, mbPlain_with_data hdata]
      · rw [hserve hk, mbLogRead, mbPlain_with_data hdata]
    case read =>
      intro hk hempty
      rw [hserve hk]
      refine ⟨fun hbad => ?_, fun ha hn hmax hres => ?_, fun ha hn hmax hfrom hto => ?_⟩
      · rw [mbFlashRead_bad_arguments hempty hbad]
      · rw [mbFlashRead_good_arguments hempty ha hn hmax, if_pos hres]
      · rw [mbFlashRead_good_arguments hempty ha hn hmax, if_neg (not_or_intro (Nat.not_le.mpr hfrom) (Nat.not_lt.mpr hto))]
    case erase =>
      intro hk hempty
      simp only [exec_flashErase_run hu hrun hmb, hserve hk]
      refine ⟨fun hbad => ?_, fun ha hn hlock => ?_, fun ha hn hlock href => ?_, fun ha hn hlock href hd => ?_⟩
      · rw [mbFlashErase_bad_arguments hempty hbad]
      · rw [mbFlashErase_good_arguments hempty ha hn, mbUpdate_locked hlock]
      · rw [mbFlashErase_good_arguments hempty ha hn, mbUpdate_refused hlock href]
      · subst hd
        simp [mbFlashErase_good_arguments hempty ha hn, mbUpdate_taken hlock href]
    case write =>
      intro hk
      simp only [exec_flashWrite_run hu hrun hmb, hserve hk]
      refine ⟨fun hbad => ?_, fun ha hn hmax hlock => ?_, fun ha hn hmax hlock href => ?_,
        fun ha hn hmax hlock href hd => ?_⟩
      · rw [mbFlashWrite_bad_arguments hbad]
      · rw [mbFlashWrite_good_arguments ha hn hmax, mbUpdate_locked hlock]
      · rw [mbFlashWrite_good_arguments ha hn hmax, mbUpdate_refused hlock href]
      · subst hd
        simp [mbFlashWrite_good_arguments ha hn hmax, mbUpdate_taken hlock href]
    case verify =>
      intro hk hempty
      rw [hserve hk]
      refine ⟨fun hno => ?_, fun hslot => ?_⟩
      · rw [mbVerifySlot_no_slot hempty hno]
      · rw [mbVerifySlot_judged hempty hslot]
    case prefer =>
      intro hk hempty
      rw [hserve hk]
      refine ⟨fun hno => ?_, fun hslot hlock => ?_, fun hslot hlock hd => ?_⟩
      · rw [mbSetPrefer_no_slot hempty hno]
      · rw [mbSetPrefer_locked hempty hslot hlock]
      · rw [mbSetPrefer_judged hempty hslot hlock hd]
    case confirm => exact fun hk hempty => by rw [hserve hk, mbConfirm, mbPlain_without_data hempty]
    case log =>
      intro hk hempty
      rw [hserve hk]
      refine ⟨fun hnone => ?_, fun e hentry => ?_⟩
      · rw [mbLogRead_no_entry hempty hnone]
      · rw [mbLogRead_entry hempty hentry]
    case unknown => exact fun hout => by rw [mbUnknown_answers hserves hreq (hcmd ▸ hout)]
    case known => exact fun hlow hhigh => by rw [mbUnknown_of_table (hcmd ▸ hlow) (hcmd ▸ hhigh)]

end Sys2Proof.Machine
end

section
/-! PROOFS. What holds of every command (logs 1, 17, 18, 19; 15 R421): each answers either the state as it was, where its operands
name nothing of the block, or the end of a row; hence no command stops the block, and ALIVE's rule stands after each. -/

namespace Sys2Proof.Machine

open Sys2Proof

/-! ## The form of a meaning -/

theorem now_le_advance (s : State) (at_ : Nat) : s.now ≤ (s.advance at_).now := by
  unfold State.advance
  split
  · next h => exact h.le
  · exact Nat.le_refl s.now

/-- A state in which a row of `s` begins: `s` itself, or `s` at the row's moment (log 1). -/
def RowStart (s u : State) : Prop := u = s ∨ ∃ at_, u = s.advance at_

/-- What a row of `s` may answer: the state as it was, or the end of the row. -/
def RowAnswer (s : State) (o : Host.Outcome State Fault Refusal) : Prop :=
  o = .next s ∨ ∃ u v, RowStart s u ∧ o = .next (finish u v)

theorem rowAnswer_atTime (s : State) (at_ : Nat) (ok : Bool) (f : State → State) : RowAnswer s (atTime s at_ ok f) := by
  cases ok
  · exact .inl rfl
  · exact .inr ⟨s.advance at_, f (s.advance at_), .inr ⟨at_, rfl⟩, atTime_run⟩

theorem rowAnswer_atNow (s : State) (ok : Bool) (f : State → State) : RowAnswer s (atNow s ok f) := by
  cases ok
  · exact .inl rfl
  · exact .inr ⟨s, f s, .inl rfl, atNow_run⟩

/-- Writes, reads and doorbells act at the clock as it stands; every other row has its moment. -/
theorem exec_rowAnswer (i : Instr) (s : State) : RowAnswer s (exec i s) := by
  cases i
  case registerWrite | latchedPairRead | glbPlaceWrite | lock | swcFwdWrite | sealA | sealB | inval | loadArm |
      timCtrlSrcWrite | ttBankWrite | ttSealA | ttSealB | admitA | admitB | issue | revert | cancel | grpEntWrite |
      grpRankWrite | create | createShape | destroy | abort | retire | testGo | restore | welFarCfgWrite | takeOut |
      soCmdRead | soCmdFetchAdd | soCmdCompareSwap | soCmdSignal | soTypeWrite | valLoWrite | valHiWrite | hbLateClear
      | drop | retrain | portEnWrite | loop | escanGo | prbsRxEnWrite | crEnWrite | cqEnWrite | tail | head | semRead
      | release | kick | gmcRst | safeGo | coreWarm | pump | pool | portGo | pwrCapHostWrite | pwrCapRackWrite |
      pwrBrkReqWrite | pwrThermCfgWrite | counterLowWrite | counterHighWrite | telBwCfgWrite | telRingCfgWrite =>
    unfold exec
    exact rowAnswer_atNow ..
  all_goals
    unfold exec
    exact rowAnswer_atTime ..

/-! ## The end of a row -/

theorem settleAlive_now (s : State) : (settleAlive s).now = s.now := by
  unfold settleAlive
  split
  · split
    · rfl
    · exact wr0_now ..
  · exact wr0_now ..

theorem settleAlive_pending (s : State) : (settleAlive s).pending = s.pending := by
  unfold settleAlive
  split
  · split
    · rfl
    · exact wr0_pending ..
  · exact wr0_pending ..

/-- A row ends with ALIVE settled, on the clock and the queue with which it began, and with the counters of waits. -/
theorem finish_settles (u v : State) : ∃ w x, finish u v = { settleAlive w with tel := x } ∧ w.now = u.now ∧ w.pending = u.pending := by
  obtain ⟨x, hx⟩ := settleWaits_tel_only u
    (settleAlive { settleHeld u (settleHealth u (settlePumps v)) with now := u.now, pending := u.pending })
  exact ⟨_, x, hx, rfl, rfl⟩

theorem finish_now (u v : State) : (finish u v).now = u.now := by
  obtain ⟨w, x, hend, hnow, -⟩ := finish_settles u v
  rw [hend]
  exact (settleAlive_now w).trans hnow

theorem finish_pending (u v : State) : (finish u v).pending = u.pending := by
  obtain ⟨w, x, hend, -, hpending⟩ := finish_settles u v
  rw [hend]
  exact (settleAlive_pending w).trans hpending

/-! ## ALIVE (15 R421) -/

/-- ALIVE's conditions do not ask whether it runs. -/
theorem aliveHolds_wr_aliveRun (s : State) (v : Nat) : aliveHolds (s.wr0 F.FLT_STAT_ALIVE_RUN v) = aliveHolds s := by
  have hsafe : (s.wr0 F.FLT_STAT_ALIVE_RUN v).rd F.FLT_STAT_SAFE 0 = s.rd F.FLT_STAT_SAFE 0 :=
    rd_wr_other s v (by decide)
  have hstage : (s.wr0 F.FLT_STAT_ALIVE_RUN v).rd F.GMC_STAT_STAGE 0 = s.rd F.GMC_STAT_STAGE 0 :=
    rd_wr_other s v (by decide)
  have hrole0 : (s.wr0 F.FLT_STAT_ALIVE_RUN v).rd F.GMC_STAT_ROLE0 0 = s.rd F.GMC_STAT_ROLE0 0 :=
    rd_wr_other s v (by decide)
  have hrole1 : (s.wr0 F.FLT_STAT_ALIVE_RUN v).rd F.GMC_STAT_ROLE1 0 = s.rd F.GMC_STAT_ROLE1 0 :=
    rd_wr_other s v (by decide)
  simp only [aliveHolds, chipOn, isSafe, State.flag, State.rd0, activeCore, coreRole, hsafe, hstage, hrole0, hrole1,
    wr0_pin]

theorem aliveRule_settleAlive (s : State) : aliveRule (settleAlive s) = true := by
  unfold settleAlive
  split
  · next hholds =>
    rw [aliveRule]
    split
    · rw [hholds, Bool.true_or]
    · rw [aliveHolds_wr_aliveRun, hholds, Bool.true_or]
  · have hlow : (s.wr0 F.FLT_STAT_ALIVE_RUN 0).flag F.FLT_STAT_ALIVE_RUN = false := by
      rw [State.flag, State.wr0, rd_wr_same]
      rfl
    exact Bool.or_eq_true_iff.mpr (.inr (by rw [Bool.not_false, Bool.true_and]; exact congrArg not hlow))

theorem aliveRule_finish (u v : State) : aliveRule (finish u v) = true := by
  obtain ⟨w, x, hend, -, -⟩ := finish_settles u v
  rw [hend]
  exact aliveRule_settleAlive w

/-! ## The obligations of every command -/

/-- Settles O51: a step that ends a row settles ALIVE last, and any other leaves the state but for its queue. -/
theorem aliveRuleKept : Obligations.AliveRuleKept := by
  unfold Obligations.AliveRuleKept
  intro s t hrule hstep
  match hp : s.pending with
  | [] =>
    rw [step_pending_nil hp] at hstep
    cases hstep
    exact hrule
  | i :: rest =>
    simp only [step, hp] at hstep
    obtain hsame | ⟨u, v, -, hend⟩ := exec_rowAnswer i { s with pending := rest }
    · rw [hsame] at hstep
      cases hstep
      exact hrule
    · rw [hend] at hstep
      cases hstep
      exact aliveRule_finish u v

/-- Settles O49: the end of a row keeps the clock and the queue with which the row began. -/
theorem everyCommandCompletes : Obligations.EveryCommandCompletes := by
  unfold Obligations.EveryCommandCompletes
  intro i s
  obtain hsame | ⟨u, v, hu, hend⟩ := exec_rowAnswer i s
  · exact ⟨s, hsame, rfl, Nat.le_refl _⟩
  · refine ⟨finish u v, hend, ?_, ?_⟩
    · rw [finish_pending]
      obtain rfl | ⟨at_, rfl⟩ := hu
      · rfl
      · exact advance_pending ..
    · rw [finish_now]
      obtain rfl | ⟨at_, rfl⟩ := hu
      · exact Nat.le_refl _
      · exact now_le_advance ..

theorem run_succ_of_exec {s t : State} {i : Instr} {rest : List Instr} (k : Nat)
    (h : exec i { s with pending := rest } = .next t) :
    Host.Core.run Sys2Proof.core (k + 1) { s with pending := i :: rest } = Host.Core.run Sys2Proof.core k t := by
  have hstep : Sys2Proof.core.step { s with pending := i :: rest } = .next t := h
  simp only [Host.Core.run, hstep]

/-- The queue is emptied command by command, each of which completes and leaves the rest as it stands. -/
theorem run_pending_length (q : List Instr) : ∀ s : State, s.pending = q →
    ∃ t : State, Host.Core.run Sys2Proof.core q.length s = .next t ∧ t.pending = [] ∧ s.now ≤ t.now := by
  induction q with
  | nil => exact fun s hs => ⟨s, rfl, hs, Nat.le_refl _⟩
  | cons i rest ih =>
    intro s hs
    obtain ⟨t, hexec, hrest, hnow⟩ := everyCommandCompletes i { s with pending := rest }
    obtain ⟨e, hrun, hempty, hlater⟩ := ih t hrest
    have hfront : s = { s with pending := i :: rest } := by rw [← hs]
    refine ⟨e, ?_, hempty, hnow.trans hlater⟩
    rw [hfront, List.length_cons, run_succ_of_exec rest.length hexec, hrun]

/-- Settles O50: by induction on the queue, with O49 at each command. -/
theorem queueRunsToItsEnd : Obligations.QueueRunsToItsEnd := by
  unfold Obligations.QueueRunsToItsEnd
  exact ⟨fun s => run_pending_length s.pending s rfl, fun s t i rest k h => run_succ_of_exec k h⟩

end Sys2Proof.Machine
end

section
/-! PROOFS. The safe state (15 R421, R424, R425; 17 R467, R468): a row that does nothing there ends with ALIVE held low and with no
counter of waits begun or ended, since no wait asks whether ALIVE runs. -/

namespace Sys2Proof.Machine

open Sys2Proof

/-! ## States that no wait can tell apart -/

/-- Two states that may differ in ALIVE_RUN, in pins, clocks and records, but in nothing that a wait for a credit or for cistern
space asks about. -/
structure WaitsAlike (s t : State) : Prop where
  sw : t.sw = s.sw
  links : t.links = s.links
  grps : t.grps = s.grps
  live : t.regs.live = s.regs.live
  plain : ∀ k, k ≠ fkey F.FLT_STAT_ALIVE_RUN 0 → mget t.regs.plain k = mget s.regs.plain k

section Alike

variable {s t : State} {g idx b n v : Nat} {o : GrpOp} {cs : List Chunk}

theorem WaitsAlike.rd (h : WaitsAlike s t) {f : Field} {i : Nat} (hf : fkey f i ≠ fkey F.FLT_STAT_ALIVE_RUN 0) :
    t.rd f i = s.rd f i := by
  simp only [State.rd, fget, h.live, h.plain _ hf]

/-- A register that stands behind FLT_STAT reads alike, whatever its index. -/
theorem WaitsAlike.rd_behind (h : WaitsAlike s t) {f : Field} (hf : 0x100008 ≤ (regInfo f.reg).base) (i : Nat) :
    t.rd f i = s.rd f i := by
  have hkey : fkey F.FLT_STAT_ALIVE_RUN 0 = 0x100004 * 8 + 27 := rfl
  refine h.rd ?_
  simp only [fkey, regOff] at hkey ⊢
  omega

theorem WaitsAlike.selfEid (h : WaitsAlike s t) : t.selfEid = s.selfEid :=
  h.rd (f := F.GLB_PLACE_SELF_EID) (i := 0) (by decide)

/-- A write of a field that has no shadow keeps states alike. -/
theorem WaitsAlike.wr (h : WaitsAlike s t) {f : Field} (hf : f.shadowed = false) (i v : Nat) :
    WaitsAlike (s.wr f i v) (t.wr f i v) where
  sw := by simp only [wr_sw, h.sw]
  links := by simp only [wr_links, h.links]
  grps := by simp only [wr_grps, h.grps]
  live := by simp only [State.wr, hf, Bool.false_eq_true, if_false, h.live]
  plain k hk := by
    simp only [State.wr, hf, Bool.false_eq_true, if_false, fset]
    by_cases hkey : k = fkey f i
    · subst hkey
      simp only [mset]
      split <;> simp only [mget_mdel_self, mget_mput_self]
    · rw [mget_mset_ne _ _ _ hkey, mget_mset_ne _ _ _ hkey, h.plain k hk]

/-! ## Waves (06 R172) -/

theorem getGrp_alike (h : WaitsAlike s t) : getGrp t g = getGrp s g := by simp only [getGrp, h.grps]

theorem isSpine_alike (h : WaitsAlike s t) : t.isSpine = s.isSpine := by simp only [State.isSpine, h.selfEid]

theorem line_alike (h : WaitsAlike s t) : t.line = s.line := by simp only [State.line, h.selfEid]

theorem isTwoStage_alike (h : WaitsAlike s t) : isTwoStage t g = isTwoStage s g := by
  simp only [isTwoStage, State.flag, h.rd_behind (f := F.GRP_ENT_ROW_ST) (by decide),
    h.rd_behind (f := F.GRP_ENT_COL_ST) (by decide)]

theorem isStaged_alike (h : WaitsAlike s t) : isStaged t g = isStaged s g := by
  simp only [isStaged, State.flag, h.rd_behind (f := F.GRP_ENT_ROW_ST) (by decide),
    h.rd_behind (f := F.GRP_ENT_COL_ST) (by decide)]

theorem midSpine_alike (h : WaitsAlike s t) : midSpine t g = midSpine s g := by
  simp only [midSpine, isSpine_alike h, line_alike h, isTwoStage_alike h]

theorem rowRanks_alike (h : WaitsAlike s t) : rowRanks t g = rowRanks s g := by
  simp only [rowRanks, getGrp_alike h]

theorem childRanks_alike (h : WaitsAlike s t) : childRanks t g n = childRanks s g n := by
  simp only [childRanks, getGrp_alike h, line_alike h]

theorem nRank_alike (h : WaitsAlike s t) : t.rd F.GRP_ENT_NRANK g = s.rd F.GRP_ENT_NRANK g :=
  h.rd_behind (by decide) g

theorem coveredRanks_alike (h : WaitsAlike s t) : coveredRanks t g = coveredRanks s g := by
  simp only [coveredRanks, midSpine_alike h, rowRanks_alike h, nRank_alike h]

theorem memberWant_alike (h : WaitsAlike s t) (r : Option RouteRec) : memberWant t g o r idx n = memberWant s g o r idx n := by
  simp only [memberWant, nRank_alike h]

theorem chunkWant_alike (h : WaitsAlike s t) : chunkWant t g o idx = chunkWant s g o idx := by
  simp only [chunkWant, isSpine_alike h, childRanks_alike h, getGrp_alike h, memberWant_alike h]

theorem chunkLines_alike (h : WaitsAlike s t) (want : List (GLink × Nat)) :
    chunkLines t g o idx want = chunkLines s g o idx want := by
  simp only [chunkLines, nRank_alike h, rowRanks_alike h, isSpine_alike h, isStaged_alike h, isTwoStage_alike h,
    coveredRanks_alike h, midSpine_alike h]

theorem waveChunks_alike (h : WaitsAlike s t) : waveChunks t g o = waveChunks s g o := by
  simp only [waveChunks, chunkWant_alike h, chunkLines_alike h]

theorem waveReady_alike (h : WaitsAlike s t) : waveReady t g = waveReady s g := by
  simp only [waveReady, getGrp_alike h]

/-- The entries of either bank's timetable groups stand behind FLT_STAT. -/
theorem ttGrpReg_behind : 0x100008 ≤ (regInfo (ttGrpReg b)).base := by
  unfold ttGrpReg
  split <;> decide

theorem ttGroupsOf_alike (h : WaitsAlike s t) : ttGroupsOf t b = ttGroupsOf s b := by
  have hrd : ∀ (f : Field) i, t.rd (f.onReg (ttGrpReg b)) i = s.rd (f.onReg (ttGrpReg b)) i :=
    fun f i => h.rd_behind (f := f.onReg (ttGrpReg b)) ttGrpReg_behind i
  simp only [ttGroupsOf, hrd]

theorem openSpace_alike (h : WaitsAlike s t) : openSpace t g = openSpace s g := by
  simp only [openSpace, State.rd0, activePumps, ttGroupsOf_alike h, h.rd_behind (f := F.TIM_TT_STAT_ACTIVE) (by decide),
    h.rd_behind (f := F.TIM_TT_PER_PERIOD) (by decide), h.rd_behind (f := F.PMP_POOL_ACTIVE) (by decide)]
  rfl

theorem cistMax_alike (h : WaitsAlike s t) : t.rd F.GRP_ENT_CIST_MAX g = s.rd F.GRP_ENT_CIST_MAX g :=
  h.rd_behind (by decide) g

theorem waveTooBig_alike (h : WaitsAlike s t) : waveTooBig t g cs = waveTooBig s g cs := by
  simp only [waveTooBig, cistMax_alike h, openSpace_alike h]

theorem cistFree_alike (h : WaitsAlike s t) : t.rd F.PMP_CIST_FREE n = s.rd F.PMP_CIST_FREE n :=
  h.rd_behind (by decide) n

theorem pickPump_alike (h : WaitsAlike s t) : pickPump t n = pickPump s n := by
  simp only [pickPump, cistFree_alike h, pumpState, State.flag, h.rd_behind (f := F.PMP_STAT_STATE) (by decide),
    h.rd_behind (f := F.PMP_TEST_BUSY) (by decide)]
  rfl

/-- Chunks find their places in one state where they do in the other, each place taken in both. -/
theorem placeChunks_alike (cs : List Chunk) : ∀ {s t : State}, WaitsAlike s t →
    (placeChunks t cs).isNone = (placeChunks s cs).isNone := by
  induction cs with
  | nil => exact fun _ => rfl
  | cons c cs ih =>
    intro s t h
    simp only [placeChunks, pickPump_alike h]
    by_cases hc : c.lines = 0
    · simp only [hc, if_true, Option.isNone_map, ih h]
    · simp only [hc, if_false]
      cases pickPump s c.lines with
      | none => rfl
      | some n =>
        simp only [Option.isNone_map, cistFree_alike h]
        exact ih (h.wr rfl n _)

theorem waveSpace_alike (h : WaitsAlike s t) : (waveSpace t g cs).isNone = (waveSpace s g cs).isNone := by
  have hheld : heldLines t g = heldLines s g := by simp only [heldLines, getGrp_alike h]
  simp only [waveSpace, cistMax_alike h, hheld]
  split
  · rfl
  · exact placeChunks_alike cs h

theorem waveWaits_alike (h : WaitsAlike s t) : waveWaits t g = waveWaits s g := by
  simp only [waveWaits, getGrp_alike h, waveChunks_alike h, waveReady_alike h, waveTooBig_alike h, waveSpace_alike h]

/-! ## Waits -/

theorem waitingNow_alike (h : WaitsAlike s t) : waitingNow t = waitingNow s := by
  have hready : ∀ lp vc, readyOn t lp vc = readyOn s lp vc := fun lp vc => by
    simp only [readyOn, getEgr, pktReady, h.sw]
  have hcredits : ∀ lp vc, credits t lp vc = credits s lp vc := fun lp vc => by
    simp only [credits, getLink, h.links]
  have hwaves : waveWaits t = waveWaits s := funext fun _ => waveWaits_alike h
  simp only [waitingNow, h.sw, h.grps, hready, hcredits, hwaves]

/-- With the same waits before and after, none begins and none ends. -/
theorem settleWaits_alike (h : WaitsAlike s t) : settleWaits s t = t := by
  have hnone : ∀ l : List Nat, (l.filter fun a => !l.contains a) = [] := fun l => by
    rw [List.filter_eq_nil_iff]
    intro a ha
    simp [ha]
  simp only [settleWaits, waitingNow_alike h, hnone, List.foldl_nil]

end Alike

/-! ## Rows that do nothing in the safe state (15 R425) -/

section Safe

variable {s : State}

theorem aliveHolds_safe (h : isSafe s = true) : aliveHolds s = false := by simp [aliveHolds, h]

theorem settleAlive_alike (h : isSafe s = true) : WaitsAlike s (settleAlive s) := by
  have hregs : (s.wr0 F.FLT_STAT_ALIVE_RUN 0).regs.plain = fset s.regs.plain F.FLT_STAT_ALIVE_RUN 0 0 := rfl
  rw [settleAlive, if_neg (ne_true_of_eq_false (aliveHolds_safe h))]
  exact {
    sw := wr_sw ..
    links := wr_links ..
    grps := wr_grps ..
    live := rfl
    plain := fun k hk => (congrArg (mget · k) hregs).trans (mget_mset_ne _ _ _ hk) }

/-- A row that has done nothing ends with ALIVE settled, which the safe state holds low. -/
theorem finish_self_safe (h : isSafe s = true) : finish s s = settleAlive s := by
  have hpumps : settlePumps s = s := if_pos h
  have hhealth : settleHealth s s = s := by simp [settleHealth, h]
  have hheld : settleHeld s s = s := by simp [settleHeld, h]
  rw [finish, hpumps, hhealth, hheld]
  exact settleWaits_alike (settleAlive_alike h)

theorem atNow_idle_safe {ok : Bool} {f : State → State} (h : isSafe s = true) (hf : f s = s) :
    atNow s ok f = .next s ∨ atNow s ok f = .next (settleAlive s) := by
  cases ok
  · exact .inl rfl
  · exact .inr (by rw [atNow_run, hf, finish_self_safe h])

theorem kickRow_safe {m : Master} {c : Nat} (h : isSafe s = true) : kickRow s m c = s := by
  simp [kickRow, mayWrite, h]

end Safe

/-- Settles O55: no write passes the arbiter, no doorbell or descriptor the host's block, and the row ends with ALIVE settled. -/
theorem safeStateIgnoresWrites : Obligations.SafeStateIgnoresWrites := by
  unfold Obligations.SafeStateIgnoresWrites
  refine ⟨?writes, ?fetch⟩
  case writes =>
    intro s m val be w i g n k off b kind c pset en ev x hsafe hx
    fin_cases hx
    all_goals
      unfold exec
      exact atNow_idle_safe hsafe
        (by simp only [rowBit_safe hsafe, rowWrite_safe hsafe, kickRow_safe hsafe, whenLive_safe hsafe])
  case fetch =>
    intro s u ws at_ hu hsafe
    subst hu
    rw [exec_descriptorFetch, execDescriptorFetch, atTime_run, whenLive_safe hsafe, finish_self_safe hsafe]

end Sys2Proof.Machine
end

section
/-! PROOFS. Pauses (15 R428): the rows answer their operation's next state where the link layer runs; what PAUSE, RESUME and the
limit of a pause make of the link. -/

namespace Sys2Proof.Machine

open Sys2Proof

/-! ## The rows of pauses -/

section Rows

variable {s u : State} {p : StPkt} {at_ lp : Nat}

theorem exec_pause_run (hu : u = s.advance at_) (hrun : linkRuns u = true) (harr : p.arr ≤ 161) :
    exec (.pause p at_) s = .next (finish u (settleSwitch (pauseReceive u p))) := by
  rw [exec_pause]
  exact atTime_whenLink (f := fun s => settleSwitch (pauseReceive s p)) hu (decide_eq_true harr) hrun

theorem exec_resume_run (hu : u = s.advance at_) (hrun : linkRuns u = true) (harr : p.arr ≤ 161) :
    exec (.resume p at_) s = .next (finish u (settleSwitch (resumeReceive u p))) := by
  rw [exec_resume]
  exact atTime_whenLink (f := fun s => settleSwitch (resumeReceive s p)) hu (decide_eq_true harr) hrun

theorem exec_pauseLimitExpire_run (hu : u = s.advance at_) (hrun : linkRuns u = true) (hlp : lp < 160) :
    exec (.pauseLimitExpire lp at_) s = .next (finish u (settleSwitch (pauseLimit u lp))) := by
  rw [exec_pauseLimitExpire]
  exact atTime_whenLink (f := fun s => settleSwitch (pauseLimit s lp)) hu (decide_eq_true hlp) hrun

end Rows

/-! ## What a pause does (R428) -/

section Pauses

variable {s c : State} {p : StPkt} {lp t0 : Nat}

theorem pauseReceive_on_up_link (hc : c = takeCtl s p) (hup : c.linkUp p.arr = true) (hop : p.hdr.opcode = 3)
    (hkind : bits p.hdr.opw0 24 8 = 0) : pauseReceive s p = linkFault
      (modLink ((c.wr (pausedField p.arr) (p.arr / 2) 1).wr F.PRT_PAUSE_LAST_DUR (p.arr / 2) (min 16383 (p.hdr.opw0 % 65536)))
        p.arr fun k => { k with pausedAt := some c.now }) p.arr 0x37 := by
  subst hc
  exact if_neg (by simp [hup, hop, hkind])

theorem resumeReceive_resumes (hc : c = takeCtl s p) (hop : p.hdr.opcode = 3) (hkind : bits p.hdr.opw0 24 8 = 1) :
    resumeReceive s p =
      modLink (c.wr (pausedField p.arr) (p.arr / 2) 0) p.arr fun k => { k with pausedAt := none } := by
  subst hc
  exact if_neg (by simp [hop, hkind])

theorem pauseLimit_due (hsince : (getLink s lp).pausedAt = some t0) (hlim : s.rd F.PRT_PAUSE_LIMIT (lp / 2) ≠ 0)
    (hup : s.linkUp lp = true) (hdue : t0 + 1000000 * s.rd F.PRT_PAUSE_LIMIT (lp / 2) ≤ s.now) :
    pauseLimit s lp = linkFault (linkDown s lp 7) lp 0x38 := by
  simp only [pauseLimit, hsince]
  exact if_pos ⟨hlim, hup, hdue⟩

end Pauses

/-! ## The obligation -/

/-- Settles O25: each row answers its operation's next state; PAUSE, RESUME and the limit do what R428 says. -/
theorem pauses : Obligations.Pauses := by
  unfold Obligations.Pauses
  refine ⟨?rows, ?pause, ?resume, ?limit⟩
  case rows =>
    intro s u p at_ lp hu hrun harr hlp
    exact ⟨exec_pause_run hu hrun harr, exec_resume_run hu hrun harr, exec_pauseLimitExpire_run hu hrun hlp⟩
  case pause =>
    intro s u c p at_ hu hrun harr hc hup hop hkind
    rw [exec_pause_run hu hrun harr, pauseReceive_on_up_link hc hup hop hkind]
  case resume =>
    intro s u c p at_ hu hrun harr hc hop hkind
    rw [exec_resume_run hu hrun harr, resumeReceive_resumes hc hop hkind]
  case limit =>
    intro s u lp at_ t0 hu hrun hlp hsince hlim hup hdue
    rw [exec_pauseLimitExpire_run hu hrun hlp, pauseLimit_due hsince hlim hup hdue]

end Sys2Proof.Machine
end

section
/-! PROOFS. Reset pins, REFCLK and supplies (11 R313; 14 R398 to R403; 15 R432; 16 R457; 19 R498): the rows answer their operation's
next state at any time, and what each level of a pin or supply makes of the chip. -/

namespace Sys2Proof.Machine

open Sys2Proof

/-! ## The rows of pins and supplies -/

section Rows

variable {s u : State} {lowNs at_ : Nat} {ev : BootEv}

/-- A timed row without operands out of range answers its effect on the state at its moment. -/
theorem atTime_true {f : State → State} (hu : u = s.advance at_) : atTime s at_ true f = .next (finish u (f u)) := by
  subst hu
  exact atTime_run

theorem exec_perstNRelease_next (hu : u = s.advance at_) :
    exec (.perstNRelease ev at_) s = .next (finish u (perstRelease u ev)) := by
  rw [exec_perstNRelease]
  exact atTime_true (f := fun s => perstRelease s ev) hu

theorem exec_recoveryNAssert_next (hu : u = s.advance at_) :
    exec (.recoveryNAssert ⟨lowNs, at_⟩) s = .next (finish u (recoveryAssert u lowNs)) := by
  rw [exec_recoveryNAssert]
  exact atTime_true (f := fun s => recoveryAssert s lowNs) hu

theorem exec_recoveryNRelease_next (hu : u = s.advance at_) :
    exec (.recoveryNRelease ev at_) s = .next (finish u (recoveryRelease u ev)) := by
  rw [exec_recoveryNRelease]
  exact atTime_true (f := fun s => recoveryRelease s ev) hu

theorem exec_refclkLoss_next (hu : u = s.advance at_) :
    exec (.refclkLoss at_) s = .next (finish u (settleSwitch (refclkLoss u))) := by
  rw [exec_refclkLoss]
  exact atTime_true (f := fun s => settleSwitch (refclkLoss s)) hu

theorem exec_refclkReturn_next (hu : u = s.advance at_) :
    exec (.refclkReturn ev at_) s = .next (finish u (refclkReturn u ev)) := by
  rw [exec_refclkReturn]
  exact atTime_true (f := fun s => refclkReturn s ev) hu

theorem exec_alwaysOnSupplyUp_next (hu : u = s.advance at_) :
    exec (.alwaysOnSupplyUp at_) s = .next (finish u (aonUp u)) := by
  rw [exec_alwaysOnSupplyUp]
  exact atTime_true hu

theorem exec_supplyRemoval_next (hu : u = s.advance at_) :
    exec (.supplyRemoval at_) s = .next (finish u (supplyRemoval u)) := by
  rw [exec_supplyRemoval]
  exact atTime_true hu

end Rows

/-! ## PERST_N (R398, R432) -/

section Perst

variable {s d : State} {lowNs : Nat} {low : Bool} {ev : BootEv}

theorem perstAssert_ignored (h : s.pin.perst = false ∨ lowNs < 100) : perstAssert s lowNs = s :=
  if_neg (by simpa [Decidable.imp_iff_not_or] using h)

variable (hlow : low = (s.pin.bootDue && !s.pin.perst && !s.pin.epo))
  (hd : d = { s with pin := { s.pin with perst := s.pin.aon, supplies := s.pin.aon, noBoot := s.pin.noBoot || low } })
include hlow hd

theorem perstRelease_no_boot (h : s.pin.aon = false ∨ s.pin.bootDue = false) : perstRelease s ev = d := by
  subst hd hlow
  exact if_pos (by simpa using h)

theorem perstRelease_boots (haon : s.pin.aon = true) (hdue : s.pin.bootDue = true) :
    perstRelease s ev = if (trayWrites d ev).pin.refclk then coldStart (trayWrites d ev) ev
      else { trayWrites d ev with pin := { (trayWrites d ev).pin with waitClk := true } } := by
  subst hd hlow
  exact if_neg (by simp [haon, hdue])

end Perst

/-! ## RECOVERY_N (R402, R403) -/

section Recovery

variable {s d e : State} {lowNs : Nat} {ev : BootEv}

theorem recoveryAssert_ignored (h : s.pin.recovery = false ∨ lowNs < 1000) : recoveryAssert s lowNs = s := if_pos h

theorem recoveryAssert_off (hd : d = { s with pin := { s.pin with recovery := false } }) (hpin : s.pin.recovery = true)
    (hlow : 1000 ≤ lowNs) (hoff : chipOn d = false) : recoveryAssert s lowNs = d := by
  subst hd
  rw [recoveryAssert, if_neg (by simp [hpin, Nat.not_lt.mpr hlow])]
  exact if_pos (by rw [hoff, Bool.not_false])

theorem recoveryAssert_on (hd : d = { s with pin := { s.pin with recovery := false } }) (hpin : s.pin.recovery = true)
    (hlow : 1000 ≤ lowNs) (hon : chipOn d = true) : recoveryAssert s lowNs =
      modGmc (gmcDown (resetTaken d 6 none)).2 fun g => { g with mbox := (gmcDown d).1 } := by
  subst hd
  rw [recoveryAssert, if_neg (by simp [hpin, Nat.not_lt.mpr hlow])]
  exact if_neg (by rw [hon]; exact Bool.false_ne_true)

theorem recoveryRelease_high (hpin : s.pin.recovery = true) : recoveryRelease s ev = s := if_pos hpin

variable (hd : d = { s with pin := { s.pin with recovery := true } }) (hpin : s.pin.recovery = false)
include hd hpin

theorem recoveryRelease_off (hoff : chipOn d = false) : recoveryRelease s ev = d := by
  subst hd
  rw [recoveryRelease, if_neg (ne_true_of_eq_false hpin)]
  exact if_pos (by rw [hoff, Bool.not_false])

theorem recoveryRelease_on (hon : chipOn d = true)
    (he : e = (trayWrites d ev).gmc.mbox.foldl (fun s m => mboxRespond s m 7 [] []) (trayWrites d ev)) :
    recoveryRelease s ev = if e.flag F.GLB_PLACE_LOCK then romBoot e false ev else afterCold (romBoot e true ev) ev := by
  subst hd he
  rw [recoveryRelease, if_neg (ne_true_of_eq_false hpin)]
  exact if_neg (by rw [hon]; exact Bool.false_ne_true)

end Recovery

/-! ## REFCLK (11 R313) -/

section Refclk

variable {s d : State} {ev : BootEv}

theorem refclkLoss_eq (hd : d = { s with pin := { s.pin with refclk := false, alive := false } }) :
    refclkLoss s = if chipOn s then settleGroups (refclkPorts d 1) else d := by
  subst hd
  rfl

theorem refclkReturn_eq (hd : d = { s with pin := { s.pin with refclk := true } }) :
    refclkReturn s ev = if s.pin.refclk then d else if s.pin.waitClk then coldStart d ev
      else if chipOn d then (List.range 160).foldl (fun s lp =>
        if s.lpExists lp && s.flag F.PRT_CTRL_EN (lp / 2) then startDetect s lp else s) d
      else d := by
  subst hd
  rfl

end Refclk

/-! ## The obligation -/

/-- Settles O31: each row answers its operation's next state, and the pins and supplies do what their rules say. -/
theorem pinsAndSupplies : Obligations.PinsAndSupplies := by
  unfold Obligations.PinsAndSupplies
  refine ⟨?rows, ?perstLow, ?perstHigh, ?recoveryLow, ?recoveryHigh, ?lost, ?returned, ?aon, ?removed⟩
  case rows =>
    intro s u lowNs at_ ev hu
    exact ⟨exec_perstNAssert_next hu, exec_perstNRelease_next hu, exec_recoveryNAssert_next hu,
      exec_recoveryNRelease_next hu, exec_refclkLoss_next hu, exec_refclkReturn_next hu, exec_alwaysOnSupplyUp_next hu,
      exec_supplyRemoval_next hu⟩
  case perstLow =>
    intro s u lowNs at_ hu
    rw [exec_perstNAssert_next hu]
    refine ⟨fun hpin hlow => ?_, fun hnot => ?_⟩
    · rw [perstAssert_resets hpin hlow]
    · rw [perstAssert_ignored hnot]
  case perstHigh =>
    intro s u d ev at_ low hu hlow hd
    rw [exec_perstNRelease_next hu]
    refine ⟨fun hnot => ?_, fun haon hdue hclk => ?_, fun haon hdue hclk => ?_⟩
    · rw [perstRelease_no_boot hlow hd hnot]
    · rw [perstRelease_boots hlow hd haon hdue, if_pos hclk]
    · rw [perstRelease_boots hlow hd haon hdue, if_neg (ne_true_of_eq_false hclk)]
  case recoveryLow =>
    intro s u d lowNs at_ hu hd
    rw [exec_recoveryNAssert_next hu]
    refine ⟨fun hnot => ?_, fun hpin hlow hoff => ?_, fun hpin hlow hon => ?_⟩
    · rw [recoveryAssert_ignored hnot]
    · rw [recoveryAssert_off hd hpin hlow hoff]
    · rw [recoveryAssert_on hd hpin hlow hon]
  case recoveryHigh =>
    intro s u d e ev at_ hu hd he
    rw [exec_recoveryNRelease_next hu]
    refine ⟨fun hpin => ?_, fun hpin hoff => ?_, fun hpin hon hlock => ?_, fun hpin hon hlock => ?_⟩
    · rw [recoveryRelease_high hpin]
    · rw [recoveryRelease_off hd hpin hoff]
    · rw [recoveryRelease_on hd hpin hon he, if_pos hlock]
    · rw [recoveryRelease_on hd hpin hon he, if_neg (ne_true_of_eq_false hlock)]
  case lost =>
    intro s u d at_ hu hd
    rw [exec_refclkLoss_next hu, refclkLoss_eq hd]
    refine ⟨fun hoff => ?_, fun hon => ?_⟩
    · rw [if_neg (ne_true_of_eq_false hoff)]
    · rw [if_pos hon]
  case returned =>
    intro s u d ev at_ hu hd
    rw [exec_refclkReturn_next hu, refclkReturn_eq hd]
    refine ⟨fun hclk => ?_, fun hclk hwait => ?_, fun hclk hwait hoff => ?_, fun hclk hwait hon => ?_⟩
    · rw [if_pos hclk]
    · rw [if_neg (ne_true_of_eq_false hclk), if_pos hwait]
    · rw [if_neg (ne_true_of_eq_false hclk), if_neg (ne_true_of_eq_false hwait), if_neg (ne_true_of_eq_false hoff)]
    · rw [if_neg (ne_true_of_eq_false hclk), if_neg (ne_true_of_eq_false hwait), if_pos hon]
  case aon => exact fun s u at_ hu => exec_alwaysOnSupplyUp_next hu
  case removed => exact fun s u at_ hu => exec_supplyRemoval_next hu

end Sys2Proof.Machine
end

section
/-! PROOFS. Resets by GLB_RST and their ends (13 R384; 15 R426 to R431): the rows answer their operation's next state where the write
is taken or the chip lives; what each go bit starts, in and out of a core warm reset, and what each end gives back. -/

namespace Sys2Proof.Machine

open Sys2Proof

/-! ## The rows of resets -/

section Rows

variable {s u : State} {m : Master} {n at_ : Nat} {fail : Option Nat} {ev : BootEv}

theorem exec_coreWarm_taken (h : takesWrite s m .GLB_RST 0 0 = true) :
    exec (.coreWarm m) s = .next (finish s (rstWrite (wrote s m .GLB_RST 0 0) m (2 ^ 31) 15)) := by
  rw [exec_coreWarm]
  exact atNow_rowBit (f := F.GLB_RST_CORE_WARM) (eff := fun s => rstWrite s m (2 ^ 31) 15) rfl rfl h

theorem exec_pump_taken (h : takesWrite s m .GLB_RST 0 0 = true) :
    exec (.pump m) s = .next (finish s (rstWrite (wrote s m .GLB_RST 0 0) m (2 ^ 30) 15)) := by
  rw [exec_pump]
  exact atNow_rowBit (f := F.GLB_RST_PUMP) (eff := fun s => rstWrite s m (2 ^ 30) 15) rfl rfl h

theorem exec_pool_taken (h : takesWrite s m .GLB_RST 0 0 = true) :
    exec (.pool m) s = .next (finish s (rstWrite (wrote s m .GLB_RST 0 0) m (2 ^ 29) 15)) := by
  rw [exec_pool]
  exact atNow_rowBit (f := F.GLB_RST_POOL) (eff := fun s => rstWrite s m (2 ^ 29) 15) rfl rfl h

theorem exec_portGo_taken (hn : n < 128) (h : takesWrite s m .GLB_RST 0 0 = true) :
    exec (.portGo m n) s =
      .next (finish s (settleSwitch (rstWrite (wrote s m .GLB_RST 0 0) m (2 ^ 28 + n % 128) 15))) := by
  rw [exec_portGo]
  exact atNow_rowWrite (f := fun s => settleSwitch (rstWrite s m (2 ^ 28 + n % 128) 15))
    (by simp only [takesWrite_ok h, hn, decide_true, Bool.and_self]) h

theorem exec_pumpResetEnd_run (hu : u = s.advance at_) (hrun : liveRuns u = true) :
    exec (.pumpResetEnd at_) s = .next (finish u (pumpResetEnd u)) := by
  rw [exec_pumpResetEnd]
  exact atTime_whenLive hu rfl hrun

theorem exec_poolResetEnd_run (hu : u = s.advance at_) (hrun : liveRuns u = true) :
    exec (.poolResetEnd at_) s = .next (finish u (poolResetEnd u)) := by
  rw [exec_poolResetEnd]
  exact atTime_whenLive hu rfl hrun

theorem exec_coreWarmResetEnd_run (hu : u = s.advance at_) (hrun : liveRuns u = true) :
    exec (.coreWarmResetEnd fail ev at_) s = .next (finish u (coreWarmEnd u ev fail)) := by
  rw [exec_coreWarmResetEnd]
  exact atTime_whenLive (f := fun s => coreWarmEnd s ev fail) hu rfl hrun

end Rows

/-! ## The go bits (R384, R426 to R430) -/

section Go

variable {s d : State} {m : Master} {n : Nat}

theorem rstWrite_coreWarm : rstWrite s m (2 ^ 31) 15 = coreWarm (s.wr0 F.GLB_RST_CORE_WARM 1) none := rfl

theorem rstWrite_pump : rstWrite s m (2 ^ 30) 15 = pumpReset (s.wr0 F.GLB_RST_PUMP 1) none := rfl

theorem rstWrite_pool : rstWrite s m (2 ^ 29) 15 = poolReset (s.wr0 F.GLB_RST_POOL 1) none := rfl

/-- PORT_GO stands in bit 28, above the port's number. -/
theorem portGo_bits (hn : n < 128) : bits (2 ^ 28 + n % 128) 28 4 = 1 ∧ (2 ^ 28 + n % 128) % 128 = n := by
  simp only [bits]
  omega

theorem rstWrite_no_such_port (hn : n < 128) (hport : 80 ≤ n) :
    rstWrite s m (2 ^ 28 + n % 128) 15 = s.accessFault m 2 (regOff .GLB_RST 0) := by
  obtain ⟨hgo, hnum⟩ := portGo_bits hn
  exact if_pos (.inr (.inr ⟨hgo, by rw [hnum]; exact hport⟩))

theorem rstWrite_port (hport : n < 80) : rstWrite s m (2 ^ 28 + n % 128) 15 = portReset s n none := by
  obtain ⟨hgo, hnum⟩ := portGo_bits (n := n) (by omega)
  simp only [rstWrite, hgo, hnum]
  rw [if_neg (by simp [wholeBe, hport])]
  rfl

theorem coreWarm_in_reset (h : inCoreReset s = true) : coreWarm s none = s := if_pos h

theorem pumpReset_held (h : s.pumpHold.isSome = true ∨ inCoreReset s = true) : pumpReset s none = s := if_pos h

theorem pumpReset_taken (hfree : s.pumpHold = none) (hwarm : inCoreReset s = false) :
    pumpReset s none = settleGroups (settleBusy (pumpDomainReset (resetTaken s 2 none))) :=
  if_neg (by simp [hfree, hwarm])

theorem poolReset_held (h : s.well.poolUntil.isSome = true ∨ inCoreReset s = true) : poolReset s none = s := if_pos h

theorem poolReset_taken (hfree : s.well.poolUntil = none) (hwarm : inCoreReset s = false) :
    poolReset s none = settleBusy (poolEffects (resetTaken s 3 none)) := if_neg (by simp [hfree, hwarm])

theorem portReset_waits (hport : n < 80) (hwarm : inCoreReset s = true) (hd : d = s.wr0 F.GLB_RST_PORT_GO 1) :
    portReset s n none = { d with rst := { d.rst with ports := d.rst.ports.filter (·.1 != n) ++ [(n, none)] } } := by
  subst hd
  rw [portReset, if_neg (Nat.not_le.mpr hport)]
  exact if_pos hwarm

theorem inCoreReset_wr0 (f : Field) (v : Nat) : inCoreReset (s.wr0 f v) = inCoreReset s := by
  simp only [inCoreReset, wr0_rst]

end Go

/-! ## The ends (R429, R431) -/

section Ends

variable {s d e f : State} {ev : BootEv} {fail : Option Nat}

theorem pumpResetEnd_idle (h : s.pumpHold = none ∨ inCoreReset s = true) : pumpResetEnd s = s :=
  if_pos (by simpa using h)

theorem pumpResetEnd_held (hheld : s.pumpHold.isSome = true) (hwarm : inCoreReset s = false) :
    pumpResetEnd s = settleGroups (settleBusy { s with pumpHold := none }) :=
  if_neg (by simpa [hwarm, Option.isSome_iff_ne_none] using hheld)

theorem poolResetEnd_idle (h : s.well.poolUntil = none ∨ inCoreReset s = true) : poolResetEnd s = s :=
  if_pos (by simpa using h)

theorem poolResetEnd_held (hheld : s.well.poolUntil.isSome = true) (hwarm : inCoreReset s = false) :
    poolResetEnd s = settleBusy (modWell s fun w => { w with poolUntil := none }) :=
  if_neg (by simpa [hwarm, Option.isSome_iff_ne_none] using hheld)

theorem coreWarmEnd_idle (hwarm : inCoreReset s = false) : coreWarmEnd s ev fail = s :=
  if_pos (by rw [hwarm, Bool.not_false])

theorem coreWarmEnd_ends (hwarm : inCoreReset s = true)
    (hd : d = (List.range 160).foldl (fun s lp => if s.linkUp lp then portCell s lp (pauseHdr 1 20) else s)
      (settleBusy { s with
        rst := ⟨none, [], [], s.rst.running⟩, pumpHold := none, well := { s.well with poolUntil := none } }))
    (he : e = s.rst.ports.foldl (fun s p => portReset (s.wr0 F.GLB_RST_PORT_GO 0) p.1 p.2) d)
    (hf : f = s.rst.held.foldl (runHeld ev) (siteAfterCommit ev e (takeCommit e))) :
    coreWarmEnd s ev fail = settleGroups (dumpNext (f.tel.queue.length + 1) fail f) := by
  have hrun : ¬(!inCoreReset s) = true := by rw [hwarm]; exact Bool.false_ne_true
  simp only [coreWarmEnd, if_neg hrun, ← hd, ← he, ← hf]

end Ends

/-! ## The obligation -/

/-- Settles O38: each row answers its operation's next state; a go bit starts its reset outside one of its kind, and the ends give
back what was held, as R426 to R431 say. -/
theorem resets : Obligations.Resets := by
  unfold Obligations.Resets
  refine ⟨?goRows, ?endRows, ?core, ?pump, ?pool, ?port, ?ends, ?coreEnd⟩
  case goRows =>
    intro s m n hn
    exact ⟨exec_coreWarm_taken, exec_pump_taken, exec_pool_taken, exec_portGo_taken hn⟩
  case endRows =>
    intro s u at_ fail ev hu hrun
    exact ⟨exec_pumpResetEnd_run hu hrun, exec_poolResetEnd_run hu hrun, exec_coreWarmResetEnd_run hu hrun⟩
  case core =>
    intro s c d m htakes hc hd
    rw [exec_coreWarm_taken htakes, ← hc, rstWrite_coreWarm, ← hd]
    refine ⟨fun hwarm => ?_, fun _ => rfl⟩
    rw [coreWarm_in_reset (by rw [hd, inCoreReset_wr0, hwarm])]
  case pump =>
    intro s c d m htakes hc hd
    have hhold : d.pumpHold = c.pumpHold := by rw [hd, wr0_pumpHold]
    have hrst : inCoreReset d = inCoreReset c := by rw [hd, inCoreReset_wr0]
    rw [exec_pump_taken htakes, ← hc, rstWrite_pump, ← hd, ← hhold, ← hrst]
    refine ⟨fun hheld => ?_, fun hfree hwarm => ?_⟩
    · rw [pumpReset_held hheld]
    · rw [pumpReset_taken hfree hwarm]
  case pool =>
    intro s c d m htakes hc hd
    have hwell : d.well = c.well := by rw [hd, wr0_well]
    have hrst : inCoreReset d = inCoreReset c := by rw [hd, inCoreReset_wr0]
    rw [exec_pool_taken htakes, ← hc, rstWrite_pool, ← hd, ← hwell, ← hrst]
    refine ⟨fun hheld => ?_, fun hfree hwarm => ?_⟩
    · rw [poolReset_held hheld]
    · rw [poolReset_taken hfree hwarm]
  case port =>
    intro s c d m n hn htakes hc hd
    rw [exec_portGo_taken hn htakes, ← hc]
    refine ⟨fun hport => ?_, fun hport hwarm => ?_, fun hport _ => ?_⟩
    · rw [rstWrite_no_such_port hn hport]
    · rw [rstWrite_port hport, portReset_waits hport hwarm hd]
    · rw [rstWrite_port hport]
  case ends =>
    intro s u at_ hu hrun
    rw [exec_pumpResetEnd_run hu hrun, exec_poolResetEnd_run hu hrun]
    refine ⟨fun hidle => ?_, fun hheld hwarm => ?_, fun hidle => ?_, fun hheld hwarm => ?_⟩
    · rw [pumpResetEnd_idle hidle]
    · rw [pumpResetEnd_held hheld hwarm]
    · rw [poolResetEnd_idle hidle]
    · rw [poolResetEnd_held hheld hwarm]
  case coreEnd =>
    intro s u d e f ev fail at_ hu hrun
    rw [exec_coreWarmResetEnd_run hu hrun]
    refine ⟨fun hwarm => ?_, fun hwarm hd he hf => ?_⟩
    · rw [coreWarmEnd_idle hwarm]
    · rw [coreWarmEnd_ends hwarm hd he hf]

end Sys2Proof.Machine
end

section
/-! PROOFS. Fault messages, the safe state, FAULT_N and ALIVE (15 R412 to R424; 18 R480): the rows answer their operation's next state
where the chip runs or the write is taken; what a source's message, SAFE_GO and the two timed events do. -/

namespace Sys2Proof.Machine

open Sys2Proof

/-! ## The rows of faults -/

section Rows

variable {s u : State} {m : Master} {src at_ : Nat} {bad parity : Option Nat} {ev : BootEv}

theorem exec_faultMessage_run (hu : u = s.advance at_) (hrun : chipOn u = true) (hsrc : src < 1024) :
    exec (.faultMessage src bad parity ev at_) s =
      .next (finish u (settleSwitch (settleSite ev (faultMessage u src bad parity ev)))) := by
  rw [exec_faultMessage]
  exact atTime_whenOn (f := fun s => settleSwitch (settleSite ev (faultMessage s src bad parity ev))) hu
    (decide_eq_true hsrc) hrun

theorem exec_faultNMinEnd_run (hu : u = s.advance at_) (hrun : chipOn u = true) :
    exec (.faultNMinEnd at_) s = .next (finish u (faultMinEnd u)) := by
  rw [exec_faultNMinEnd]
  exact atTime_whenOn hu rfl hrun

theorem exec_aliveToggle_run (hu : u = s.advance at_) (hrun : chipOn u = true) :
    exec (.aliveToggle at_) s = .next (finish u (aliveToggle u)) := by
  rw [exec_aliveToggle]
  exact atTime_whenOn hu rfl hrun

theorem exec_safeGo_taken (h : takesWrite s m .FLT_CTRL 0 0 = true) :
    exec (.safeGo m) s = .next (finish s (safeEnter (wrote s m .FLT_CTRL 0 0) 3 0)) := by
  rw [exec_safeGo]
  exact atNow_rowBit (f := F.FLT_CTRL_SAFE_GO) (eff := fun s => safeEnter s 3 0) rfl rfl h

end Rows

/-! ## What counting an access leaves (17 R464) -/

section Counted

variable {s : State} {m : Master} {r : RegName} {i w : Nat}

theorem countAccess_tel_only (s : State) (space priv cls addr size : Nat) (lp : Option Nat) :
    ∃ x, countAccess s space priv cls addr size lp = { s with tel := x } :=
  foldl_tel_only (fun s a => by
    split
    · exact ⟨_, rfl⟩
    · exact ⟨s.tel, rfl⟩) (List.range 16) s

theorem wrote_tel_only : ∃ x, wrote s m r i w = { s with tel := x } := by
  unfold wrote countReg
  exact countAccess_tel_only ..

theorem isSafe_wrote : isSafe (wrote s m r i w) = isSafe s := by
  obtain ⟨x, hx⟩ := wrote_tel_only (s := s) (m := m) (r := r) (i := i) (w := w)
  rw [hx]
  rfl

/-- The arbiter takes no write in the safe state (15 R425). -/
theorem takesWrite_not_safe (h : takesWrite s m r i w = true) : isSafe s = false := by
  simp only [takesWrite, mayWrite, Bool.and_eq_true, Bool.not_eq_true'] at h
  obtain ⟨⟨⟨⟨-, ⟨-, hsafe⟩, -⟩, -⟩, -⟩, -⟩ := h
  exact hsafe

end Counted

/-! ## Messages (R412 to R416) -/

section Messages

variable {s d : State} {src r off : Nat} {bad parity : Option Nat} {ev : BootEv} {m : HeldMsg}

theorem faultMessage_none (h : mget s.flt.held src = none) : faultMessage s src bad parity ev = s := by
  simp only [faultMessage, h]

variable (h : mget s.flt.held src = some m) (hd : d = modFlt s fun f => { f with held := mdel f.held src })
include h hd

theorem faultMessage_bad_crc : faultMessage s src (some r) parity ev = safeEnter d 2 (r % 1024) := by
  simp only [faultMessage, h, ← hd]

theorem faultMessage_bad_word : faultMessage s src none (some off) ev = safeEnter d 1 (off % 2 ^ 20) := by
  simp only [faultMessage, h, ← hd]

theorem faultMessage_whole : faultMessage s src none none ev = takeMessage d src m ev := by
  simp only [faultMessage, h, ← hd]

omit h hd in
theorem takeMessage_disabled (hen : d.flag F.FLT_SRC_CFG_EN src = false) : takeMessage d src m ev = d := if_pos hen

end Messages

/-! ## The safe state, FAULT_N and ALIVE (R420 to R423) -/

section Safe

variable {s d : State} {cause place : Nat}

theorem safeEnter_first (hsafe : isSafe s = false)
    (hd : d = (List.range 160).foldl (fun s lp => if s.lpExists lp then s.wr F.PRT_LSTAT_EIDLE_TX lp 1 else s)
      (((s.wr0 F.FLT_STAT_SAFE 1).wr0 F.FLT_STAT_CAUSE cause).wr0 F.FLT_STAT_WHERE place)) :
    safeEnter s cause place = settleAlive (({ d with
      flt := { d.flt with safeAt := some s.now }
      host := { d.host with pcie := { d.host.pcie with aer := Nat.lor d.host.pcie.aer (2 ^ 22) } } } : State).emit
        .errFatal) := by
  subst hd
  exact if_neg (ne_true_of_eq_false hsafe)

theorem faultMinEnd_due (h : s.flt.latchAt.any (fun t => decide (t + 10000 ≤ s.now)) = true) :
    faultMinEnd s = { s with flt := { s.flt with latchAt := none } } := if_pos h

theorem faultMinEnd_early (h : s.flt.latchAt.any (fun t => decide (t + 10000 ≤ s.now)) = false) : faultMinEnd s = s :=
  if_neg (ne_true_of_eq_false h)

theorem aliveToggle_due (hrun : s.flag F.FLT_STAT_ALIVE_RUN = true) (hclk : s.pin.refclk = true)
    (hdue : s.pin.aliveAt + 500000 ≤ s.now) :
    aliveToggle s = { s with pin := { s.pin with alive := !s.pin.alive, aliveAt := s.now } } :=
  if_pos ⟨hrun, hclk, hdue⟩

theorem aliveToggle_still (h : s.flag F.FLT_STAT_ALIVE_RUN = false ∨ s.pin.refclk = false ∨ s.now < s.pin.aliveAt + 500000) :
    aliveToggle s = s := by
  refine if_neg fun ⟨hrun, hclk, hdue⟩ => ?_
  obtain hstill | hlost | hearly := h
  · exact Bool.false_ne_true (hstill.symm.trans hrun)
  · exact Bool.false_ne_true (hlost.symm.trans hclk)
  · omega

end Safe

/-! ## The obligation -/

/-- Settles O39: each row answers its operation's next state; messages, SAFE_GO, FAULT_N and ALIVE do what R412 to R424 say. -/
theorem faultsAndSafeState : Obligations.FaultsAndSafeState := by
  unfold Obligations.FaultsAndSafeState
  refine ⟨?timed, ?safeRow, ?message, ?safeGo, ?pinEnd, ?toggle⟩
  case timed =>
    intro s u src at_ bad parity ev hu hrun hsrc
    exact ⟨exec_faultMessage_run hu hrun hsrc, exec_faultNMinEnd_run hu hrun, exec_aliveToggle_run hu hrun⟩
  case safeRow => exact fun s m => exec_safeGo_taken
  case message =>
    intro s u d src at_ bad parity ev hu hrun hsrc
    rw [exec_faultMessage_run hu hrun hsrc]
    refine ⟨fun hnone => ?_, fun m hheld hd => ⟨?_, ?_, ?_, ?_⟩⟩
    · rw [faultMessage_none hnone]
    · rintro r rfl
      rw [faultMessage_bad_crc hheld hd]
    · rintro off rfl rfl
      rw [faultMessage_bad_word hheld hd]
    · rintro rfl rfl hen
      rw [faultMessage_whole hheld hd, takeMessage_disabled hen]
    · rintro rfl rfl -
      rw [faultMessage_whole hheld hd]
  case safeGo =>
    intro s c d m htakes hc hd
    have hsafe : isSafe c = false := by rw [hc, isSafe_wrote, takesWrite_not_safe htakes]
    rw [exec_safeGo_taken htakes, ← hc, safeEnter_first hsafe hd]
  case pinEnd =>
    intro s u at_ hu hrun
    rw [exec_faultNMinEnd_run hu hrun]
    refine ⟨fun hdue => ?_, fun hearly => ?_⟩
    · rw [faultMinEnd_due hdue]
    · rw [faultMinEnd_early hearly]
  case toggle =>
    intro s u at_ hu hrun
    rw [exec_aliveToggle_run hu hrun]
    refine ⟨fun halive hclk hdue => ?_, fun hstill => ?_⟩
    · rw [aliveToggle_due halive hclk hdue]
    · rw [aliveToggle_still hstill]

end Sys2Proof.Machine
end

section
/-! PROOFS. Dual active operation (06 R182; 15 R433 to R440): the rows answer their operation's next state where the core or the chip
runs; when HEALTH is sent and what one from the partner does, the sequencer's test, cover, the claims of the role, and the roles
of the Gesta cores. -/

namespace Sys2Proof.Machine

open Sys2Proof

/-! ## The rows of dual active operation -/

section Rows

variable {s u : State} {p : StPkt} {c at_ : Nat} {ok : Bool}

theorem exec_healthSend_run (hu : u = s.advance at_) (hrun : coreRuns u = true) :
    exec (.healthSend at_) s = .next (finish u (healthDue u)) := by
  rw [exec_healthSend]
  exact atTime_whenCore hu rfl hrun

theorem exec_health_at (hu : u = s.advance at_) (hst : stationHas u p 0x05 = true) :
    exec (.health p at_) s = .next (finish u (settleGroups (healthReceive u p))) := by
  rw [exec_health]
  exact atTime_stationRow (f := fun s => settleGroups (healthReceive s p)) hu hst

theorem exec_seqKnownAnswerTest_run (hu : u = s.advance at_) (hrun : coreRuns u = true) :
    exec (.seqKnownAnswerTest ok at_) s = .next (finish u (settleGroups (seqTest u ok))) := by
  rw [exec_seqKnownAnswerTest]
  exact atTime_whenCore (f := fun s => settleGroups (seqTest s ok)) hu rfl hrun

theorem exec_coverDecideStart_run (hu : u = s.advance at_) (hrun : coreRuns u = true) :
    exec (.coverDecideStart at_) s = .next (finish u (settleGroups (coverDecide u))) := by
  rw [exec_coverDecideStart]
  exact atTime_whenCore (f := fun s => settleGroups (coverDecide s)) hu rfl hrun

theorem exec_takebackClaim_run (hu : u = s.advance at_) (hrun : coreRuns u = true) :
    exec (.takebackClaim at_) s = .next (finish u (takebackClaim u)) := by
  rw [exec_takebackClaim]
  exact atTime_whenCore hu rfl hrun

theorem exec_takebackComplete_run (hu : u = s.advance at_) (hrun : coreRuns u = true) :
    exec (.takebackComplete at_) s = .next (finish u (takebackComplete u)) := by
  rw [exec_takebackComplete]
  exact atTime_whenCore hu rfl hrun

theorem exec_takebackTimeout_run (hu : u = s.advance at_) (hrun : coreRuns u = true) :
    exec (.takebackTimeout at_) s = .next (finish u (takebackTimeout u)) := by
  rw [exec_takebackTimeout]
  exact atTime_whenCore hu rfl hrun

theorem exec_partnerSilent_run (hu : u = s.advance at_) (hrun : coreRuns u = true) :
    exec (.partnerSilent at_) s = .next (finish u (partnerSilent u)) := by
  rw [exec_partnerSilent]
  exact atTime_whenCore hu rfl hrun

theorem exec_gestaCoreResign_run (hu : u = s.advance at_) (hrun : chipOn u = true) (hc : c < 2) :
    exec (.gestaCoreResign c at_) s = .next (finish u (coreResign u c)) := by
  rw [exec_gestaCoreResign]
  exact atTime_whenOn (f := fun s => coreResign s c) hu (decide_eq_true hc) hrun

theorem exec_gestaTakeback_run (hu : u = s.advance at_) (hrun : chipOn u = true) :
    exec (.gestaTakeback at_) s = .next (finish u (coreTakeback u)) := by
  rw [exec_gestaTakeback]
  exact atTime_whenOn hu rfl hrun

end Rows

/-! ## HEALTH (R435, R436) -/

section Health

variable {s c d : State} {p : StPkt} {fl t0 : Nat} {late : Bool}

theorem healthDue_first (h : s.flt.sent = none) : healthDue s = sendHealth s := by simp only [healthDue, h]

theorem healthDue_sent (h : s.flt.sent = some (t0, fl)) : healthDue s =
    if fl ≠ healthFlags s ∨ t0 + 1000 * s.rd0 F.FLT_DA_CFG_HIVL ≤ s.now then sendHealth s else s := by
  simp only [healthDue, h]

variable (hc : c = takeStation s p)
  (hlate : late = (c.flt.pSeq.any fun q => !(decide (1 ≤ (p.hdr.opw2 + 2 ^ 32 - q) % 2 ^ 32)
    && decide ((p.hdr.opw2 + 2 ^ 32 - q) % 2 ^ 32 < 2 ^ 31))))
include hc hlate

theorem healthReceive_not_kept (h : c.isRack = false ∨
    bits p.hdr.opw0 0 20 ≠ mkEid c.ownRow c.ownCol (eidSlot c.selfEid) 2 (partnerPlane c) ∨ late = true) :
    healthReceive s p = c := by
  subst hc hlate
  exact if_pos (.inr (by rwa [Bool.not_eq_true']))

theorem healthReceive_kept (hop : p.hdr.opcode = 5) (hfl : fl = p.hdr.opw1 % 64)
    (hd : d = modFlt ((c.wr0 F.FLT_DA_STAT_P_SEEN 1).wr0 F.FLT_DA_STAT_P_FLAGS fl) fun f =>
      { f with pSeq := some p.hdr.opw2, pAt := some c.now, silent := false
               yielded := f.yielded || (f.claimAt.isSome && !bitAt fl 4) })
    (hrack : c.isRack = true)
    (horigin : bits p.hdr.opw0 0 20 = mkEid c.ownRow c.ownCol (eidSlot c.selfEid) 2 (partnerPlane c))
    (hnew : late = false) :
    healthReceive s p =
      if bitAt fl 2 then sendHealth { d.wr0 F.FLT_DA_STAT_COVER_ACT 0 with coverFrom := none }
      else if bitAt fl 1 && d.flag F.FLT_DA_STAT_SEQ_OK && !d.flag F.FLT_DA_STAT_COVER_ACT then
        healthOnChange (coverResend (daFault { d.wr0 F.FLT_DA_STAT_COVER_ACT 1 with coverFrom := some (d.now + 2000000) } 2
          (partnerPlane c)))
      else d := by
  have hnow : d.now = c.now := by simp only [hd, modFlt, wr0_now]
  have hkept : ¬(p.hdr.opcode ≠ 5 ∨ (!c.isRack) = true ∨
      bits p.hdr.opw0 0 20 ≠ mkEid c.ownRow c.ownCol (eidSlot c.selfEid) 2 (partnerPlane c) ∨ late = true) := by
    simp [hop, hrack, horigin, hnew]
  simp only [healthReceive, ← hc, ← hlate, if_neg hkept, ← hfl, ← hd, hnow]

end Health

/-! ## The sequencer's test and cover (R433, R434, R437) -/

section Cover

variable {s d : State} {ok : Bool}

theorem seqTest_unchanged (h : s.isRack = false ∨ ok = s.flag F.FLT_DA_STAT_SEQ_OK) : seqTest s ok = s := by
  rw [seqTest]
  cases hrack : s.isRack with
  | false => rfl
  | true =>
    obtain hno | rfl := h
    · exact absurd (hrack.symm.trans hno) (by decide)
    · cases hseq : s.flag F.FLT_DA_STAT_SEQ_OK <;> rfl

theorem seqTest_first_good (hd : d = s.wr0 F.FLT_DA_STAT_SEQ_OK 1) (hrack : s.isRack = true)
    (hbad : s.flag F.FLT_DA_STAT_SEQ_OK = false) :
    seqTest s true = if s.flag F.FLT_DA_STAT_RESIGNED then healthOnChange (modFlt d fun f => { f with okSince := some s.now })
      else healthOnChange (d.wr0 F.FLT_DA_STAT_OWN_ACT 1) := by
  rw [seqTest, hrack, hbad, ← hd]
  rfl

theorem seqTest_first_bad (hrack : s.isRack = true) (hgood : s.flag F.FLT_DA_STAT_SEQ_OK = true) :
    seqTest s false = seqResign (s.wr0 F.FLT_DA_STAT_SEQ_OK 0) := by
  rw [seqTest, hrack, hgood]
  rfl

theorem coverDecide_not_due (h : s.coverFrom.any (fun t => decide (t ≤ s.now)) = false) : coverDecide s = s := by
  rw [coverDecide]
  match hc : s.coverFrom with
  | none => rfl
  | some t => exact if_pos (by simpa [hc] using h)

theorem coverDecide_due (h : s.coverFrom.any (fun t => decide (t ≤ s.now)) = true) :
    coverDecide s = decideAsked { s with coverFrom := none } (Nat.xor s.plane 8) := by
  rw [coverDecide]
  match hc : s.coverFrom with
  | none => simp [hc] at h
  | some t => exact if_neg (by simpa [hc] using h)

end Cover

/-! ## Claims and the partner's silence (R438, R439) -/

section Claims

variable {s : State}

/-- A claim is a second old and the partner has not yielded, which has not been reported. -/
theorem takebackTimeout_condition (c : Bool) :
    ((!s.flt.yielded) = true ∧ (!s.flt.claimLate) = true ∧ c = true) ↔
      (s.flt.yielded = false ∧ s.flt.claimLate = false ∧ c = true) := by
  rw [Bool.not_eq_true', Bool.not_eq_true']

end Claims

/-! ## The Gesta cores (R440) -/

section Cores

variable {s : State} {k : Nat}

theorem coreResign_out (hrole : coreRole s k < 2) : coreResign s k = s := if_pos (.inr hrole)

theorem coreResign_resigns (hk : k < 2) (hrole : 2 ≤ coreRole s k) : coreResign s k =
    settleAlive (daFault (modGmc (coreLeaves s k 0) fun g => { g with resigned := mput g.resigned k s.now }) 6 k) :=
  if_neg (by omega)

end Cores

/-! ## The obligation -/

/-- Settles O40: each row answers its operation's next state; HEALTH, the test, cover, the claims and the cores' roles follow R433 to
R440. -/
theorem dualActive : Obligations.DualActive := by
  unfold Obligations.DualActive
  refine ⟨?coreRows, ?stationRow, ?chipRows, ?send, ?receive, ?test, ?cover, ?claim, ?complete, ?late, ?resign, ?takeback⟩
  case coreRows =>
    intro s u at_ ok hu hrun
    exact ⟨exec_healthSend_run hu hrun, exec_seqKnownAnswerTest_run hu hrun, exec_coverDecideStart_run hu hrun,
      exec_takebackClaim_run hu hrun, exec_takebackComplete_run hu hrun, exec_takebackTimeout_run hu hrun,
      exec_partnerSilent_run hu hrun⟩
  case stationRow => exact fun s u p at_ hu hst => exec_health_at hu hst
  case chipRows =>
    intro s u c at_ hu hrun hc
    exact ⟨exec_gestaCoreResign_run hu hrun hc, exec_gestaTakeback_run hu hrun⟩
  case send =>
    intro s u at_ hu hrun
    rw [exec_healthSend_run hu hrun]
    refine ⟨fun hnone => ?_, fun t0 fl hsent => ⟨fun hdue => ?_, fun hsame hearly => ?_⟩⟩
    · rw [healthDue_first hnone]
    · rw [healthDue_sent hsent, if_pos hdue]
    · rw [healthDue_sent hsent, if_neg (not_or_intro (not_not_intro hsame) (Nat.not_le.mpr hearly))]
  case receive =>
    intro s u c d p at_ fl late hu hst hc hop hfl hlate hd
    rw [exec_health_at hu hst]
    refine ⟨fun hnot => ?_, fun hrack horigin hnew => ?_⟩
    · rw [healthReceive_not_kept hc hlate hnot]
    · rw [healthReceive_kept hc hlate hop hfl hd hrack horigin hnew]
      refine ⟨fun hclaim => ?_, fun hclaim hgone hseq hcover => ?_, fun hclaim hkept => ?_⟩
      · rw [if_pos hclaim]
      · rw [if_neg (ne_true_of_eq_false hclaim), if_pos (by rw [hgone, hseq, hcover]; rfl)]
      · rw [if_neg (ne_true_of_eq_false hclaim), if_neg (by simpa [Decidable.imp_iff_not_or, or_assoc] using hkept)]
  case test =>
    intro s u d ok at_ hu hrun hd
    rw [exec_seqKnownAnswerTest_run hu hrun]
    refine ⟨fun hsame => ?_, fun hrack hok hbad => ?_, fun hrack hok hgood => ?_⟩
    · rw [seqTest_unchanged hsame]
    · rw [hok, seqTest_first_good hd hrack hbad]
      refine ⟨fun hres => ?_, fun hres => ?_⟩
      · rw [if_pos hres]
      · rw [if_neg (ne_true_of_eq_false hres)]
    · rw [hok, seqTest_first_bad hrack hgood]
  case cover =>
    intro s u at_ hu hrun
    rw [exec_coverDecideStart_run hu hrun]
    refine ⟨fun hearly => ?_, fun hdue => ?_⟩
    · rw [coverDecide_not_due hearly]
    · rw [coverDecide_due hdue, decideAsked]
  case claim =>
    intro s u at_ due hu hrun hdue
    rw [exec_takebackClaim_run hu hrun]
    refine ⟨fun hnot => ?_, fun hnow => ?_⟩
    · rw [takebackClaim, if_neg (mt hdue.mpr hnot)]
    · rw [takebackClaim, if_pos (hdue.mp hnow)]
  case complete =>
    intro s u d at_ due hu hrun hdue hd
    rw [exec_takebackComplete_run hu hrun]
    refine ⟨fun hnot => ?_, fun hnow => ?_⟩
    · rw [takebackComplete, if_neg (mt hdue.mpr hnot)]
    · rw [takebackComplete, if_pos (hdue.mp hnow), hd]
  case late =>
    intro s u at_ late gone hu hrun hlate hgone
    rw [exec_takebackTimeout_run hu hrun, exec_partnerSilent_run hu hrun, takebackTimeout, partnerSilent]
    refine ⟨fun hnot => ?_, fun hnow => ?_, fun hnot => ?_, fun hnow => ?_⟩
    · rw [if_neg (mt ((takebackTimeout_condition _).trans hlate.symm).mp hnot)]
    · rw [if_pos (((takebackTimeout_condition _).trans hlate.symm).mpr hnow)]
    · rw [if_neg (mt hgone.mpr hnot)]
    · rw [if_pos (hgone.mp hnow)]
  case resign =>
    intro s u k at_ hu hrun hk
    rw [exec_gestaCoreResign_run hu hrun hk]
    refine ⟨fun hout => ?_, fun hrole => ?_⟩
    · rw [coreResign_out hout]
    · rw [coreResign_resigns hk hrole]
  case takeback =>
    intro s u d at_ due hu hrun hd hdue
    rw [exec_gestaTakeback_run hu hrun, coreTakeback, ← hd]
    refine ⟨fun hnot => ?_, fun hnow => ?_⟩
    · rw [if_neg (mt hdue.mpr hnot)]
    · rw [if_pos (hdue.mp hnow)]

end Sys2Proof.Machine
end

section
/-! PROOFS. Power caps and the power loop (16 R443 to R452, R455): the rows answer their operation's next state where the chip runs or
the write is taken; what a loop period, a write of a cap, a lapsed lease and the end of a CAPDROP do. -/

namespace Sys2Proof.Machine

open Sys2Proof

/-! ## The rows of power caps -/

section Rows

variable {s u : State} {m : Master} {p at_ val be : Nat}

theorem exec_powerLoop_run (hu : u = s.advance at_) (hrun : chipOn u = true) :
    exec (.powerLoop p at_) s = .next (finish u (powerLoop u p)) := by
  rw [exec_powerLoop]
  exact atTime_whenOn (f := fun s => powerLoop s p) hu rfl hrun

theorem exec_rackLeaseLapse_run (hu : u = s.advance at_) (hrun : chipOn u = true) :
    exec (.rackLeaseLapse at_) s = .next (finish u (leaseLapse u)) := by
  rw [exec_rackLeaseLapse]
  exact atTime_whenOn hu rfl hrun

theorem exec_capdropEnd_run (hu : u = s.advance at_) (hrun : chipOn u = true) :
    exec (.capdropEnd at_) s = .next (finish u (capdropEnd u)) := by
  rw [exec_capdropEnd]
  exact atTime_whenOn hu rfl hrun

variable (hval : val < 2 ^ 32) (hbe : beOk m be = true)
include hval hbe

theorem exec_pwrCapHostWrite_taken (h : takesWrite s m .PWR_CAP_HOST 0 0 = true) :
    exec (.pwrCapHostWrite m val be) s = .next (finish s (capHostWrite (wrote s m .PWR_CAP_HOST 0 0) m val be)) := by
  rw [exec_pwrCapHostWrite]
  exact atNow_rowWrite (f := fun s => capHostWrite s m val be)
    (by simp only [takesWrite_ok h, hval, hbe, decide_true, Bool.and_self]) h

theorem exec_pwrCapRackWrite_taken (h : takesWrite s m .PWR_CAP_RACK 0 0 = true) :
    exec (.pwrCapRackWrite m val be) s = .next (finish s (capRackWrite (wrote s m .PWR_CAP_RACK 0 0) m val be)) := by
  rw [exec_pwrCapRackWrite]
  exact atNow_rowWrite (f := fun s => capRackWrite s m val be)
    (by simp only [takesWrite_ok h, hval, hbe, decide_true, Bool.and_self]) h

end Rows

/-! ## The loop (R446 to R452) -/

/-- A loop period, step by step; a CAPDROP that did not begin in it ends at its end where BRK_HOLD is 0. -/
theorem powerLoop_period {s a b c d e : State} {p f w : Nat} {slow : Bool}
    (ha : a = heatAgain (modPwr (s.wr0 F.PWR_MEAS_P p) fun w => { w with thLast := w.thLast.map (spanP p) }))
    (hb : b = settleCap (setPt a (thermalLimit a)))
    (hfw : (f, w) = if b.pwr.capdrop.isSome = true then (b.pwr.f, b.pwr.u) else loopStep b p)
    (hslow : slow = decide (f < fCapFor b (b.rd0 F.PWR_STAT_EFF_CAP)))
    (hc : c = modPwr b fun x => { x with f := f, u := w, tPeak := none })
    (hd : d = if slow = true ∧ s.flag F.PWR_STAT_OVERRUN = false then pwrFault c 9 f else c)
    (he : e = settleLevels (d.wr0 F.PWR_STAT_OVERRUN (b2n slow))) :
    powerLoop s p =
      if s.rd0 F.PWR_BRK_CFG_BRK_HOLD = 0 ∧ s.pwr.capdrop.isSome = true ∧ e.pwr.capdrop = s.pwr.capdrop then
        setCause (modPwr e fun w => { w with capdrop := none }) F.PWR_BRK_STAT_CAPDROP false
      else e := by
  simp only [powerLoop, ← ha, ← hb, ← hfw, ← hslow, ← hc, ← hd, ← he]

/-! ## Leases and CAPDROP (R443 to R445, R452) -/

section Caps

variable {s d : State} {m : Master} {val be l : Nat}

theorem capRackWrite_lease (hd : d = writeWord s m .PWR_CAP_RACK 0 0 val be) (hl : l = d.rd0 F.PWR_LEASE_LEASE) (h : l ≠ 0) :
    capRackWrite s m val be = settleCap ((modPwr d fun w =>
      { w with rack := 1, leaseEnd := some (s.now + 100000000 * l) }).wr0 F.PWR_STAT_LEASE_OK 1) := by
  simp only [capRackWrite, ← hd, ← hl, if_neg h, bne_iff_ne.mpr h, b2n, if_true]

theorem capRackWrite_no_lease (hd : d = writeWord s m .PWR_CAP_RACK 0 0 val be) (hl : l = d.rd0 F.PWR_LEASE_LEASE)
    (h : l = 0) : capRackWrite s m val be =
      settleCap ((modPwr d fun w => { w with rack := 1, leaseEnd := none }).wr0 F.PWR_STAT_LEASE_OK 0) := by
  simp only [capRackWrite, ← hd, ← hl, h, if_true]
  rfl

theorem leaseLapse_lapsed (h : s.pwr.leaseEnd.any (fun t => decide (t ≤ s.now)) = true) : leaseLapse s =
    settleCap (pwrFault ((modPwr s fun w => { w with rack := 2, leaseEnd := none }).wr0 F.PWR_STAT_LEASE_OK 0) 1
      (s.rd0 F.PWR_LEASE_FALLBACK)) := if_pos h

theorem leaseLapse_running (h : s.pwr.leaseEnd.any (fun t => decide (t ≤ s.now)) = false) : leaseLapse s = s :=
  if_neg (ne_true_of_eq_false h)

theorem capdropEnd_due (hhold : s.rd0 F.PWR_BRK_CFG_BRK_HOLD ≠ 0)
    (hdue : s.pwr.capdrop.any (fun t => decide (t + 1000000 * s.rd0 F.PWR_BRK_CFG_BRK_HOLD ≤ s.now)) = true) :
    capdropEnd s = setCause (modPwr s fun w => { w with capdrop := none }) F.PWR_BRK_STAT_CAPDROP false :=
  if_pos ⟨hhold, hdue⟩

theorem capdropEnd_not_due (h : s.rd0 F.PWR_BRK_CFG_BRK_HOLD = 0 ∨
    s.pwr.capdrop.any (fun t => decide (t + 1000000 * s.rd0 F.PWR_BRK_CFG_BRK_HOLD ≤ s.now)) = false) : capdropEnd s = s :=
  if_neg fun ⟨hhold, hdue⟩ => h.elim hhold fun hnot => Bool.false_ne_true (hnot.symm.trans hdue)

end Caps

/-! ## The obligation -/

/-- Settles O41: each row answers its operation's next state; the loop, the caps, the lease and CAPDROP follow R443 to R455. -/
theorem powerCaps : Obligations.PowerCaps := by
  unfold Obligations.PowerCaps
  refine ⟨?timedRows, ?writeRows, ?period, ?host, ?rack, ?lapse, ?drop⟩
  case timedRows =>
    intro s u p at_ hu hrun
    exact ⟨exec_powerLoop_run hu hrun, exec_rackLeaseLapse_run hu hrun, exec_capdropEnd_run hu hrun⟩
  case writeRows =>
    intro s m val be hval hbe
    exact ⟨exec_pwrCapHostWrite_taken hval hbe, exec_pwrCapRackWrite_taken hval hbe⟩
  case period =>
    intro s u a b c d e p at_ f w slow hu hrun ha hb hfw hslow hc hd he
    rw [exec_powerLoop_run hu hrun, powerLoop_period ha hb hfw hslow hc hd he]
    refine ⟨fun hhold hdrop hsame => ?_, fun hkept => ?_⟩
    · rw [if_pos ⟨hhold, hdrop, hsame⟩]
    · rw [if_neg]
      rintro ⟨hhold, hdrop, hsame⟩
      obtain hlong | hnone | hnew := hkept
      · exact hlong hhold
      · exact Option.isSome_iff_ne_none.mp hdrop hnone
      · exact hnew hsame
  case host =>
    intro s c m val be hval hbe htakes hc
    rw [exec_pwrCapHostWrite_taken hval hbe htakes, ← hc, capHostWrite]
  case rack =>
    intro s c d m val be l hval hbe htakes hc hd hl
    rw [exec_pwrCapRackWrite_taken hval hbe htakes, ← hc]
    refine ⟨fun hlease => ?_, fun hzero => ?_⟩
    · rw [capRackWrite_lease hd hl hlease]
    · rw [capRackWrite_no_lease hd hl hzero]
  case lapse =>
    intro s u at_ hu hrun
    rw [exec_rackLeaseLapse_run hu hrun]
    refine ⟨fun hlapsed => ?_, fun hruns => ?_⟩
    · rw [leaseLapse_lapsed hlapsed]
    · rw [leaseLapse_running hruns]
  case drop =>
    intro s u at_ hu hrun
    rw [exec_capdropEnd_run hu hrun]
    refine ⟨fun hhold hdue => ?_, fun hnot => ?_⟩
    · rw [capdropEnd_due hhold hdue]
    · rw [capdropEnd_not_due hnot]

end Sys2Proof.Machine
end

section
/-! PROOFS. The power brake, coolant and heat (16 R450 to R461): the rows answer their operation's next state; what a request and
each pin make of the brake's causes, what samples of the sensors do, and when the chip shuts down. -/

namespace Sys2Proof.Machine

open Sys2Proof

/-! ## The rows of the brake and of heat -/

section Rows

variable {s u : State} {m : Master} {high : Bool} {lowNs at_ loopR val be : Nat} {rs : List Int} {tin tout : Int}

/-- A timed row that sets a pin first and, where the chip is on, lets the pin act: setting one does not turn the chip on. -/
theorem atTime_pin_then_whenOn {f g : State → State} (hu : u = s.advance at_) (hon : chipOn (g u) = chipOn u) :
    atTime s at_ true (fun s => whenOn (g s) f) = .next (finish u (if chipOn u then f (g u) else g u)) := by
  subst hu
  rw [atTime_run, whenOn, hon]

theorem exec_pwrbrkNChange_next (hu : u = s.advance at_) :
    exec (.pwrbrkNChange high lowNs at_) s = .next (finish u
      (if chipOn u then brakePin { u with pin := { u.pin with pwrbrk := high } } F.PWR_BRK_STAT_PIN high lowNs
        else { u with pin := { u.pin with pwrbrk := high } })) := by
  rw [exec_pwrbrkNChange]
  exact atTime_pin_then_whenOn (f := fun s => brakePin s F.PWR_BRK_STAT_PIN high lowNs)
    (g := fun s => { s with pin := { s.pin with pwrbrk := high } }) hu rfl

theorem exec_busUvNChange_next (hu : u = s.advance at_) :
    exec (.busUvNChange high lowNs at_) s = .next (finish u
      (if chipOn u then brakePin { u with pin := { u.pin with busUv := high } } F.PWR_BRK_STAT_UV high lowNs
        else { u with pin := { u.pin with busUv := high } })) := by
  rw [exec_busUvNChange]
  exact atTime_pin_then_whenOn (f := fun s => brakePin s F.PWR_BRK_STAT_UV high lowNs)
    (g := fun s => { s with pin := { s.pin with busUv := high } }) hu rfl

theorem exec_coolantFailNChange_next (hu : u = s.advance at_) :
    exec (.coolantFailNChange high lowNs at_) s = .next (finish u
      (if chipOn u then coolantPin { u with pin := { u.pin with coolant := high } } high lowNs
        else { u with pin := { u.pin with coolant := high } })) := by
  rw [exec_coolantFailNChange]
  exact atTime_pin_then_whenOn (f := fun s => coolantPin s high lowNs)
    (g := fun s => { s with pin := { s.pin with coolant := high } }) hu rfl

theorem exec_coolantShutdown_run (hu : u = s.advance at_) (hrun : chipOn u = true) :
    exec (.coolantShutdown at_) s = .next (finish u (coolantShutdown u)) := by
  rw [exec_coolantShutdown]
  exact atTime_whenOn hu rfl hrun

theorem exec_diodeSample_run (hu : u = s.advance at_) (hrun : chipOn u = true) :
    exec (.diodeSample rs at_) s = .next (finish u (diodeSample u rs)) := by
  rw [exec_diodeSample]
  exact atTime_whenOn (f := fun s => diodeSample s rs) hu rfl hrun

theorem exec_thermistorRead_run (hu : u = s.advance at_) (hrun : chipOn u = true) :
    exec (.thermistorRead tin tout loopR at_) s = .next (finish u (thermistorRead u tin tout loopR)) := by
  rw [exec_thermistorRead]
  exact atTime_whenOn (f := fun s => thermistorRead s tin tout loopR) hu rfl hrun

theorem exec_thermtripN_next (hu : u = s.advance at_) : exec (.thermtripN at_) s = .next (finish u (thermTrip u)) := by
  rw [exec_thermtripN]
  exact atTime_true hu

theorem exec_epoN_next (hu : u = s.advance at_) :
    exec (.epoN high lowNs at_) s = .next (finish u (epoPin u high lowNs)) := by
  rw [exec_epoN]
  exact atTime_true (f := fun s => epoPin s high lowNs) hu

variable (hval : val < 2 ^ 32) (hbe : beOk m be = true)
include hval hbe

theorem exec_pwrBrkReqWrite_taken (h : takesWrite s m .PWR_BRK_REQ 0 0 = true) :
    exec (.pwrBrkReqWrite m val be) s = .next (finish s (brkReqWrite (wrote s m .PWR_BRK_REQ 0 0) m val be)) := by
  rw [exec_pwrBrkReqWrite]
  exact atNow_rowWrite (f := fun s => brkReqWrite s m val be)
    (by simp only [takesWrite_ok h, hval, hbe, decide_true, Bool.and_self]) h

theorem exec_pwrThermCfgWrite_taken (h : takesWrite s m .PWR_THERM_CFG 0 0 = true) :
    exec (.pwrThermCfgWrite m val be) s = .next (finish s (thermCfgWrite (wrote s m .PWR_THERM_CFG 0 0) m val be)) := by
  rw [exec_pwrThermCfgWrite]
  exact atNow_rowWrite (f := fun s => thermCfgWrite s m val be)
    (by simp only [takesWrite_ok h, hval, hbe, decide_true, Bool.and_self]) h

end Rows

/-! ## Requests and pins (R450, R451, R455) -/

section Brake

variable {s d : State} {m : Master} {val be n : Nat} {h r high : Bool} {f : Field}

theorem brkReqWrite_eq (hd : d = writeWord s m .PWR_BRK_REQ 0 0 val be) (hh : h = d.flag F.PWR_BRK_REQ_HOST_REQ)
    (hr : r = d.flag F.PWR_BRK_REQ_RACK_REQ) : brkReqWrite s m val be =
      if h then setCause (setCause d F.PWR_BRK_STAT_HOST_REQ h) F.PWR_BRK_STAT_RACK_REQ r
      else setCause (setCause d F.PWR_BRK_STAT_RACK_REQ r) F.PWR_BRK_STAT_HOST_REQ h := by
  subst hd hh hr
  rfl

theorem brakePin_high (hhigh : high = true) : brakePin s f high n = setCause s f false := if_pos hhigh

theorem brakePin_short (hhigh : high = false) (hn : n < 500) : brakePin s f high n = s := by
  rw [brakePin, if_neg (ne_true_of_eq_false hhigh), if_pos hn]

theorem brakePin_low (hhigh : high = false) (hn : 500 ≤ n) : brakePin s f high n = setCause s f true := by
  rw [brakePin, if_neg (ne_true_of_eq_false hhigh), if_neg (Nat.not_lt.mpr hn)]

variable (hpin : s.pin.coolant = high)
include hpin

/-- The coolant's pin, its level stored, times the failure and acts as a brake pin. -/
theorem coolantPin_eq : coolantPin s high n = brakePin (modPwr s fun w => { w with
    coolSince := if high then none else if n < 500 then w.coolSince else some (w.coolSince.getD (s.now - n)) })
    F.PWR_BRK_STAT_COOL high n := by
  subst hpin
  rfl

theorem coolantPin_high (hhigh : high = true) :
    coolantPin s high n = setCause (modPwr s fun w => { w with coolSince := none }) F.PWR_BRK_STAT_COOL false := by
  simp only [coolantPin_eq hpin, brakePin_high hhigh, if_pos hhigh]

theorem coolantPin_short (hhigh : high = false) (hn : n < 500) : coolantPin s high n = s := by
  simp only [coolantPin_eq hpin, brakePin_short hhigh hn, if_neg (ne_true_of_eq_false hhigh), if_pos hn]
  rfl

theorem coolantPin_low (hhigh : high = false) (hn : 500 ≤ n) : coolantPin s high n =
    setCause (modPwr s fun w => { w with coolSince := some (w.coolSince.getD (s.now - n)) }) F.PWR_BRK_STAT_COOL true := by
  simp only [coolantPin_eq hpin, brakePin_low hhigh hn, if_neg (ne_true_of_eq_false hhigh), if_neg (Nat.not_lt.mpr hn)]

end Brake

/-! ## Thresholds, shutdown and the pins of heat (R453, R455, R457, R461) -/

section Heat

variable {s d : State} {m : Master} {val be cf n : Nat} {xs : List Nat} {high : Bool}

theorem coolantShutdown_eq (hcf : cf = s.rd0 F.PWR_COOL_CFG_CF_SHUT) : coolantShutdown s =
    if cf ≠ 0 ∧ (s.pwr.coolSince.any (fun t => decide (t + 100000000 * cf ≤ s.now)) = true ∨
      s.pwr.leakSince.any (fun t => decide (t + 100000000 * cf ≤ s.now)) = true) then thermalShutdown s 2 else s := by
  subst hcf
  rfl

theorem thermCfgWrite_eq (hd : d = writeWord s m .PWR_THERM_CFG 0 0 val be)
    (hxs : xs = ([F.PWR_THERM_CFG_T_THR, F.PWR_THERM_CFG_T_OPER, F.PWR_THERM_CFG_T_SHUT].map d.rd0).filter (· != 0)) :
    thermCfgWrite s m val be =
      if ((xs.zip (xs.drop 1)).all fun e => decide (e.1 < e.2)) = true ∧ d.rd0 F.PWR_THERM_CFG_T_SHUT ≤ 112 then d
      else s.accessFault m 1 (regOff .PWR_THERM_CFG 0) := by
  subst hxs hd
  rfl

theorem epoPin_level (hd : d = { s with pin := { s.pin with epo := high } })
    (h : high = true ∨ n < 200 ∨ chipOn s = false) : epoPin s high n = d := by
  subst hd
  exact if_pos h

theorem epoPin_safe (hd : d = { s with pin := { s.pin with epo := high } }) (hhigh : high = false) (hn : 200 ≤ n)
    (hon : chipOn s = true) : epoPin s high n = safeEnter d 4 0 := by
  subst hd
  exact if_neg (by simp [hhigh, Nat.not_lt.mpr hn, hon])

end Heat

/-! ## The obligation -/

/-- Settles O42: each row answers its operation's next state; requests, pins, samples and thresholds do what R450 to R461 say. -/
theorem brakeAndHeat : Obligations.BrakeAndHeat := by
  unfold Obligations.BrakeAndHeat
  refine ⟨?writeRows, ?chipRows, ?pinRows, ?request, ?pins, ?shutdown, ?diodes, ?thermistors, ?thresholds, ?trip, ?epo⟩
  case writeRows =>
    intro s m val be hval hbe
    exact ⟨exec_pwrBrkReqWrite_taken hval hbe, exec_pwrThermCfgWrite_taken hval hbe⟩
  case chipRows =>
    intro s u high lowNs at_ loopR rs tin tout hu hrun
    rw [exec_pwrbrkNChange_next hu, exec_busUvNChange_next hu, exec_coolantFailNChange_next hu, if_pos hrun, if_pos hrun,
      if_pos hrun]
    exact ⟨rfl, rfl, rfl, exec_coolantShutdown_run hu hrun, exec_diodeSample_run hu hrun, exec_thermistorRead_run hu hrun⟩
  case pinRows =>
    intro s u at_ lowNs high hu
    exact ⟨exec_thermtripN_next hu, exec_epoN_next hu⟩
  case request =>
    intro s c d m val be h r hval hbe htakes hc hd hh hr
    rw [exec_pwrBrkReqWrite_taken hval hbe htakes, ← hc, brkReqWrite_eq hd hh hr]
    refine ⟨fun hon => ?_, fun hoff => ?_⟩
    · rw [if_pos hon, hon]
    · rw [if_neg (ne_true_of_eq_false hoff), hoff]
  case pins =>
    intro s u a b c high n at_ hu ha hb hc
    have hcool : c.pin.coolant = high := by rw [hc]
    have hnow : c.now = u.now := by rw [hc]
    rw [exec_pwrbrkNChange_next hu, exec_busUvNChange_next hu, exec_coolantFailNChange_next hu, ← ha, ← hb, ← hc]
    refine ⟨fun hoff => ?_, fun hon hhigh => ?_, fun hon hhigh hn => ?_, fun hon hhigh hn => ?_⟩
    · rw [if_neg (ne_true_of_eq_false hoff), if_neg (ne_true_of_eq_false hoff), if_neg (ne_true_of_eq_false hoff)]
      exact ⟨rfl, rfl, rfl⟩
    · rw [if_pos hon, if_pos hon, if_pos hon, brakePin_high hhigh, brakePin_high hhigh, coolantPin_high hcool hhigh]
      exact ⟨rfl, rfl, rfl⟩
    · rw [if_pos hon, if_pos hon, if_pos hon, brakePin_short hhigh hn, brakePin_short hhigh hn,
        coolantPin_short hcool hhigh hn]
      exact ⟨rfl, rfl, rfl⟩
    · rw [if_pos hon, if_pos hon, if_pos hon, brakePin_low hhigh hn, brakePin_low hhigh hn,
        coolantPin_low hcool hhigh hn, hnow]
      exact ⟨rfl, rfl, rfl⟩
  case shutdown =>
    intro s u at_ cf due hu hrun hcf hdue
    rw [exec_coolantShutdown_run hu hrun, coolantShutdown_eq hcf]
    refine ⟨fun hnow => ?_, fun hnot => ?_⟩
    · rw [if_pos (hdue.mp hnow)]
    · rw [if_neg (mt hdue.mpr hnot)]
  case diodes =>
    intro s u a b c d e rs used dev at_ hot oper shut top tj isHot hu hrun ha hdev hb htop hused htj hhot hc hoper hshut hd
      hisHot he
    have hsample : diodeSample u rs = if isHot = true ∧ u.pwr.hotLast = true then thermalShutdown e 1
        else if ([[0, 1, 2, 3], [4, 5, 6, 7], [16, 17, 18, 19]].any fun g => g.all (sensorFailed e)) = true then
          thermalShutdown e 3
        else e := by
      subst he hisHot hd hshut hoper hc hhot htj hused htop hb hdev ha
      rfl
    have hcool : isHot = false ∨ u.pwr.hotLast = false → ¬(isHot = true ∧ u.pwr.hotLast = true) := by
      rintro (hnow | hlast) ⟨hhot, hwas⟩
      · exact Bool.false_ne_true (hnow.symm.trans hhot)
      · exact Bool.false_ne_true (hlast.symm.trans hwas)
    rw [exec_diodeSample_run hu hrun, hsample]
    refine ⟨fun hnow hlast => ?_, fun hnot hdead => ?_, fun hnot halive => ?_⟩
    · rw [if_pos ⟨hnow, hlast⟩]
    · rw [if_neg (hcool hnot), if_pos hdead]
    · rw [if_neg (hcool hnot), if_neg (ne_true_of_eq_false halive)]
  case thermistors =>
    intro s u a b c d e f g tin tout useIn loopR at_ imax hot leak hu hrun ha hb hc hd himax huse hhot he hf hleak hg
    have hread : thermistorRead u tin tout loopR = setCause g F.PWR_BRK_STAT_LEAK leak := by
      subst hg hleak hf he hhot huse himax hd hc hb ha
      rfl
    rw [exec_thermistorRead_run hu hrun, hread]
  case thresholds =>
    intro s c d m val be xs hval hbe htakes hc hd hxs
    rw [exec_pwrThermCfgWrite_taken hval hbe htakes, ← hc, thermCfgWrite_eq hd hxs]
    refine ⟨fun hord hmax => ?_, fun hbad => ?_⟩
    · rw [if_pos ⟨hord, hmax⟩]
    · rw [if_neg]
      rintro ⟨hord, hmax⟩
      obtain hdis | hover := hbad
      · exact Bool.false_ne_true (hdis.symm.trans hord)
      · omega
  case trip =>
    intro s u at_ hu
    rw [exec_thermtripN_next hu, thermTrip]
    refine ⟨fun haon => ?_, fun haon => ?_⟩
    · rw [if_pos haon]
    · rw [if_neg (ne_true_of_eq_false haon)]
  case epo =>
    intro s u d high n at_ hu hd
    rw [exec_epoN_next hu]
    refine ⟨fun hlevel => ?_, fun hhigh hn hon => ?_⟩
    · rw [epoPin_level hd hlevel]
    · rw [epoPin_safe hd hhigh hn hon]

end Sys2Proof.Machine
end

section
/-! PROOFS. Telemetry (17 R464, R471, R473 to R478): the rows answer their operation's next state where the write is taken or the core
runs; what the writes of counters and of the two registers, the end of a bandwidth window and the ends of dumps do. -/

namespace Sys2Proof.Machine

open Sys2Proof

/-! ## The rows of telemetry -/

section Rows

variable {s u : State} {m : Master} {off val be at_ : Nat} {fail : Option Nat}

theorem exec_bwWindowEnd_run (hu : u = s.advance at_) (hrun : coreRuns u = true) :
    exec (.bwWindowEnd at_) s = .next (finish u (bwWindowEnd u)) := by
  rw [exec_bwWindowEnd]
  exact atTime_whenCore hu rfl hrun

theorem exec_periodicDumpStart_run (hu : u = s.advance at_) (hrun : coreRuns u = true) :
    exec (.periodicDumpStart fail at_) s = .next (finish u (periodicDump u fail)) := by
  rw [exec_periodicDumpStart]
  exact atTime_whenCore (f := fun s => periodicDump s fail) hu rfl hrun

theorem exec_dumpEnd_run (hu : u = s.advance at_) (hrun : coreRuns u = true) :
    exec (.dumpEnd fail at_) s = .next (finish u (dumpEnd u fail)) := by
  rw [exec_dumpEnd]
  exact atTime_whenCore (f := fun s => dumpEnd s fail) hu rfl hrun

variable (hval : val < 2 ^ 32) (hbe : beOk m be = true)
include hval hbe

theorem exec_counterLowWrite_taken (hoff : off < 1601536) (h : takesWrite s m .TEL_CNT (off / 8) 0 = true) :
    exec (.counterLowWrite m off val be) s =
      .next (finish s (counterLow (wrote s m .TEL_CNT (off / 8) 0) m (off / 8 * 8) val be)) := by
  rw [exec_counterLowWrite]
  exact atNow_rowWrite (f := fun s => counterLow s m (off / 8 * 8) val be)
    (by simp only [takesWrite_ok h, hoff, hval, hbe, decide_true, Bool.and_self]) h

theorem exec_counterHighWrite_taken (hoff : off < 1601536) (h : takesWrite s m .TEL_CNT (off / 8) 1 = true) :
    exec (.counterHighWrite m off val be) s =
      .next (finish s (counterHigh (wrote s m .TEL_CNT (off / 8) 1) m (off / 8 * 8) val be)) := by
  rw [exec_counterHighWrite]
  exact atNow_rowWrite (f := fun s => counterHigh s m (off / 8 * 8) val be)
    (by simp only [takesWrite_ok h, hoff, hval, hbe, decide_true, Bool.and_self]) h

theorem exec_telBwCfgWrite_taken (h : takesWrite s m .TEL_BW_CFG 0 0 = true) :
    exec (.telBwCfgWrite m val be) s = .next (finish s (bwCfgWrite (wrote s m .TEL_BW_CFG 0 0) m val be)) := by
  rw [exec_telBwCfgWrite]
  exact atNow_rowWrite (f := fun s => bwCfgWrite s m val be)
    (by simp only [takesWrite_ok h, hval, hbe, decide_true, Bool.and_self]) h

theorem exec_telRingCfgWrite_taken (h : takesWrite s m .TEL_RING_CFG 0 0 = true) :
    exec (.telRingCfgWrite m val be) s = .next (finish s (ringCfgWrite (wrote s m .TEL_RING_CFG 0 0) m val be)) := by
  rw [exec_telRingCfgWrite]
  exact atNow_rowWrite (f := fun s => ringCfgWrite s m val be)
    (by simp only [takesWrite_ok h, hval, hbe, decide_true, Bool.and_self]) h

end Rows

/-! ## Counters (R464) -/

section Counters

variable {s : State} {m : Master} {k val be : Nat}

theorem eight_mul_div (k : Nat) : 8 * k / 8 = k := by omega

theorem counterLow_eq (hval : val < 2 ^ 32) : counterLow s m (k * 8) val be = { s with
    heldW := mput s.heldW (masterCode m * 2 ^ 26 + telBase + 8 * k) (mergeWord (counterVal s (8 * k) % 2 ^ 32) val be) } := by
  simp only [counterLow, Nat.mul_comm k 8, eight_mul_div, Nat.mod_eq_of_lt hval]

theorem counterHigh_eq (hval : val < 2 ^ 32) : counterHigh s m (k * 8) val be = setCounter
    { s with heldW := mdel s.heldW (masterCode m * 2 ^ 26 + telBase + 8 * k) } (8 * k)
    (mergeWord (counterVal s (8 * k) / 2 ^ 32) val be % 65536 * 2 ^ 32 +
      mgetD s.heldW (masterCode m * 2 ^ 26 + telBase + 8 * k) 0) := by
  simp only [counterHigh, Nat.mul_comm k 8, eight_mul_div, Nat.mod_eq_of_lt hval]

end Counters

/-! ## Bandwidth windows (R471) -/

section Windows

variable {s d : State} {m : Master} {val be win : Nat}

theorem bwWindowEnd_not_due (hwin : win = s.rd0 F.TEL_BW_CFG_WIN) (h : win = 0 ∨ s.atTick win = false) :
    bwWindowEnd s = s := by
  subst hwin
  exact if_pos h

/-- LAST and PEAK of a link stand in counters of their own: PEAK is not the counter that LAST was just written to. -/
theorem bwWindowEnd_ends {put : List (Nat × Nat) → Nat → Nat → Nat → List (Nat × Nat)} (hwin : win = s.rd0 F.TEL_BW_CFG_WIN)
    (hput : put = fun c lp k v => mset 0 (mset 0 c (0x180000 + (lp * 4 + k) * 8) v) (0x180000 + (lp * 4 + k) * 8 + 16)
      (max v (mgetD (mset 0 c (0x180000 + (lp * 4 + k) * 8) v) (0x180000 + (lp * 4 + k) * 8 + 16) 0)))
    (hne : win ≠ 0) (htick : s.atTick win = true) :
    bwWindowEnd s = modTel s fun t => { t with
      cnt := (List.range 160).foldl (fun c lp => put (put c lp 0 (mgetD t.bwTx lp 0)) lp 1 (mgetD t.bwRx lp 0)) t.cnt
      bwTx := [], bwRx := [], winStart := s.now } := by
  have hpeak : ∀ (c : List (Nat × Nat)) (a v : Nat), mgetD (mset 0 c a v) (a + 16) 0 = mgetD c (a + 16) 0 :=
    fun c a v => mgetD_mset_ne _ _ _ _ (by omega)
  subst hwin hput
  simp only [hpeak]
  exact if_neg (by simp [hne, htick])

theorem bwCfgWrite_eq (hd : d = writeWord s m .TEL_BW_CFG 0 0 val be) : bwCfgWrite s m val be =
    if be % 8 = 0 then d
    else if d.rd0 F.TEL_BW_CFG_WIN > 65536 then s.accessFault m 1 (regOff .TEL_BW_CFG 0)
    else modTel d fun t => { t with bwTx := [], bwRx := [], winStart := s.now } := by
  subst hd
  rfl

end Windows

/-! ## Dumps (R473 to R478) -/

section Dumps

variable {s d e : State} {ivl : Nat} {fail : Option Nat} {busy : Bool} {q r : DumpReq}

theorem periodicDump_eq (hivl : ivl = s.rd0 F.TEL_PER_IVL_IVL)
    (hbusy : busy = (s.tel.running.any (·.hop.isNone) || s.tel.queue.any (·.hop.isNone))) :
    periodicDump s fail = if s.flag F.TEL_PER_CFG_EN = false ∨ ivl = 0 ∨ s.atTick ivl = false then s
      else if busy then telFault (s.bump F.TEL_DROP_SKIPPED 0) 2 (s.rd0 F.TEL_STAT_DUMP_SEQ)
      else dumpAsk s ⟨s.rd0 F.TEL_PER_CFG_SEL, s.flag F.TEL_PER_CFG_CLEAR, none, 0, 0, 0, none, false⟩ fail := by
  subst hivl hbusy
  rfl

theorem dumpEnd_none (h : s.tel.running = none) : dumpEnd s fail = s := by simp only [dumpEnd, h]

theorem dumpEnd_running (h : s.tel.running = some q)
    (hput : dumpPut s q (mkRec s 3 0 (s.rd0 F.TEL_STAT_DUMP_SEQ) s.fabric (dumpFlags q) 0 []) fail = (d, r))
    (he : e = dumpClose d r) : dumpEnd s fail = dumpNext (e.tel.queue.length + 1) fail e := by
  simp only [dumpEnd, h, hput, ← he]

end Dumps

/-! ## The obligation -/

/-- Settles O43: each row answers its operation's next state; counters, windows, the ring and dumps follow R464 to R478. -/
theorem telemetry : Obligations.Telemetry := by
  unfold Obligations.Telemetry
  refine ⟨?writeRows, ?timedRows, ?low, ?high, ?window, ?windowCfg, ?ringCfg, ?periodic, ?dump⟩
  case writeRows =>
    intro s m off val be hoff hval hbe
    exact ⟨exec_counterLowWrite_taken hval hbe hoff, exec_counterHighWrite_taken hval hbe hoff,
      exec_telBwCfgWrite_taken hval hbe, exec_telRingCfgWrite_taken hval hbe⟩
  case timedRows =>
    intro s u at_ fail hu hrun
    exact ⟨exec_bwWindowEnd_run hu hrun, exec_periodicDumpStart_run hu hrun, exec_dumpEnd_run hu hrun⟩
  case low =>
    intro s c m k val be hk hval hbe htakes hc
    rw [exec_counterLowWrite_taken hval hbe (by omega) (by rwa [eight_mul_div]), eight_mul_div, ← hc, counterLow_eq hval]
  case high =>
    intro s c m k val be hk hval hbe htakes hc
    rw [exec_counterHighWrite_taken hval hbe (by omega) (by rwa [eight_mul_div]), eight_mul_div, ← hc, counterHigh_eq hval]
  case window =>
    intro s u at_ win put hu hrun hwin hput
    rw [exec_bwWindowEnd_run hu hrun]
    refine ⟨fun hnot => ?_, fun hne htick => ?_⟩
    · rw [bwWindowEnd_not_due hwin hnot]
    · rw [bwWindowEnd_ends hwin hput hne htick]
  case windowCfg =>
    intro s c d m val be hval hbe htakes hc hd
    rw [exec_telBwCfgWrite_taken hval hbe htakes, ← hc, bwCfgWrite_eq hd]
    refine ⟨fun hnone => ?_, fun hsome hover => ?_, fun hsome hfits => ?_⟩
    · rw [if_pos hnone]
    · rw [if_neg hsome, if_pos hover]
    · rw [if_neg hsome, if_neg (Nat.not_lt.mpr hfits)]
  case ringCfg =>
    intro s c d e m val be off on lock hval hbe htakes hc hon hoff hlock hd he
    have hwrite : ringCfgWrite c m val be = if bitAt be 3 = false then e
        else if bitAt val 31 = false then e.wr0 F.TEL_RING_CFG_EN 0
        else if e.rd0 F.TEL_RING_CFG_PAGES = 0 then e.accessFault m 1 off
        else if on = true then e else setW (e.wr0 F.TEL_RING_CFG_EN 1) 0 := by
      subst he hd hlock hoff hon
      rfl
    rw [exec_telRingCfgWrite_taken hval hbe htakes, ← hc, hwrite]
    refine ⟨fun hbyte => ?_, fun hbyte hen => ?_, fun hbyte hen hpages => ?_, fun hbyte hen hpages hwas => ?_,
      fun hbyte hen hpages hwas => ?_⟩
    · rw [if_pos hbyte]
    · rw [if_neg (ne_false_of_eq_true hbyte), if_pos hen]
    · rw [if_neg (ne_false_of_eq_true hbyte), if_neg (ne_false_of_eq_true hen), if_pos hpages]
    · rw [if_neg (ne_false_of_eq_true hbyte), if_neg (ne_false_of_eq_true hen), if_neg hpages, if_pos hwas]
    · rw [if_neg (ne_false_of_eq_true hbyte), if_neg (ne_false_of_eq_true hen), if_neg hpages,
        if_neg (ne_true_of_eq_false hwas)]
  case periodic =>
    intro s u at_ ivl fail busy hu hrun hivl hbusy
    rw [exec_periodicDumpStart_run hu hrun, periodicDump_eq hivl hbusy]
    have hdue : u.flag F.TEL_PER_CFG_EN = true → ivl ≠ 0 → u.atTick ivl = true →
        ¬(u.flag F.TEL_PER_CFG_EN = false ∨ ivl = 0 ∨ u.atTick ivl = false) :=
      fun hen hne htick => by simp [hen, hne, htick]
    refine ⟨fun hnot => ?_, fun hen hne htick hruns => ?_, fun hen hne htick hfree => ?_⟩
    · rw [if_pos hnot]
    · rw [if_neg (hdue hen hne htick), if_pos hruns]
    · rw [if_neg (hdue hen hne htick), if_neg (ne_true_of_eq_false hfree)]
  case dump =>
    intro s u at_ fail hu hrun
    rw [exec_dumpEnd_run hu hrun]
    refine ⟨fun hnone => ?_, fun d e q r hruns hput he => ?_⟩
    · rw [dumpEnd_none hnone]
    · rw [dumpEnd_running hruns hput he]

end Sys2Proof.Machine
end

section
/-! PROOFS. The console (file 18): a line that comes in where Gesta serves, what its row is run on, and the refusals of the quiet
and the bench commands. -/

namespace Sys2Proof.Machine

open Sys2Proof

/-- A console row answers its own operation where the chip is on. -/
theorem console_run {s u : State} {at_ : Nat} {g : State → State} (hu : u = s.advance at_) (hon : chipOn u = true) :
    atTime s at_ true (fun s => whenOn s fun s => settleSwitch (g s)) = .next (finish u (settleSwitch (g u))) :=
  atTime_whenOn (f := fun s => settleSwitch (g s)) hu rfl hon

theorem conRead_serves {v : State} {f : State → State} (hserves : gestaServes v = true) : conRead v f = f v :=
  if_pos hserves

theorem conRead_mute {v : State} {f : State → State} (hmute : gestaServes v = false) : conRead v f = v :=
  if_neg (ne_true_of_eq_false hmute)

theorem conRow_mute {u : State} {c : ConCmd} {chars : List Byte} {f : State → List (Option Nat) → State}
    (hmute : gestaServes u = false) : conRow u c chars f = u :=
  conRead_mute hmute

theorem conRow_line {u : State} {c : ConCmd} {chars : List Byte} {f : State → List (Option Nat) → State}
    {args : List (Option Nat)} (hserves : gestaServes u = true) (hline : conLine chars = some (c, args)) :
    conRow u c chars f = f (sayBytes u chars) args := by
  simp [conRow, conRead_serves hserves, hline]

theorem bare_args {f : State → State} {v : State} {args : List (Option Nat)} (hargs : args ≠ []) :
    bare f v args = conErr v 2 := by
  simp [bare, hargs]

theorem withArg_some {v : State} {p lim : Nat} {f : Nat → State} (hp : p < lim) : withArg v [some p] lim f = f p := by
  simp [withArg, arg1, hp]

theorem withArg_none {v : State} {args : List (Option Nat)} {lim : Nat} {f : Nat → State} (hargs : arg1 args lim = none) :
    withArg v args lim f = conErr v 2 := by
  simp [withArg, hargs]

/-- Characters come in at time `at_` on a chip that is on and whose Gesta serves: `u` is the state then and `v` the one after their
echo. -/
structure AtConsole (s u v : State) (chars : List Byte) (at_ : Nat) : Prop where
  advanced : u = s.advance at_
  echoed : v = sayBytes u chars
  on : chipOn u = true
  serving : gestaServes u = true

namespace AtConsole

variable {s u v w : State} {chars : List Byte} {at_ : Nat} {c : ConCmd} {args : List (Option Nat)}

theorem serves (h : AtConsole s u v chars at_) : gestaServes v = true := by
  rw [h.echoed]; exact h.serving

/-- A row on the line that names it. -/
theorem runs {f : State → List (Option Nat) → State} (h : AtConsole s u v chars at_)
    (hline : conLine chars = some (c, args)) (hf : f v args = w) :
    atTime s at_ true (fun s => whenOn s fun s => settleSwitch (conRow s c chars f)) = .next (finish u (settleSwitch w)) := by
  rw [console_run h.advanced h.on, conRow_line h.serving hline, ← h.echoed, hf]

/-- A row of a command without arguments on the bare line that names it. -/
theorem runs_bare {f : State → State} (h : AtConsole s u v chars at_) (hline : conLine chars = some (c, [])) (hf : f v = w) :
    atTime s at_ true (fun s => whenOn s fun s => settleSwitch (conRow s c chars (bare f))) =
      .next (finish u (settleSwitch w)) :=
  h.runs hline hf

/-- A command without arguments on a line with other words after it. -/
theorem runs_wordy {f : State → State} (h : AtConsole s u v chars at_) (hargs : args ≠ [])
    (hline : conLine chars = some (c, args)) :
    atTime s at_ true (fun s => whenOn s fun s => settleSwitch (conRow s c chars (bare f))) =
      .next (finish u (settleSwitch (conErr v 2))) :=
  h.runs hline (bare_args hargs)

end AtConsole

end Sys2Proof.Machine
end

section
/-! PROOFS. The read commands of the console (obligation O44). -/

namespace Sys2Proof.Machine

open Sys2Proof

theorem conRegRd_range {v : State} {args : List (Option Nat)} {off n : Nat} (hserves : gestaServes v = true)
    (hargs : args = [some off, some n] ∨ args = [some off] ∧ n = 1) :
    conRegRd v args = if off % 4 = 0 ∧ 1 ≤ n ∧ off + 4 * n ≤ 0x4000000
      then conOk (conWords v ((List.range n).map fun i => off + 4 * i)) else conErr v 2 := by
  obtain rfl | ⟨rfl, rfl⟩ := hargs <;> exact conRead_serves hserves

theorem conRegRd_malformed {v : State} {args : List (Option Nat)} (hserves : gestaServes v = true)
    (hargs : args = [] ∨ 3 ≤ args.length ∨ none ∈ args) : conRegRd v args = conErr v 2 := by
  rw [conRegRd, conRead_serves hserves]
  match args, hargs with
  | [], _ => rfl
  | [none], _ => rfl
  | [none, _], _ => rfl
  | [some _, none], _ => rfl
  | _ :: _ :: _ :: _, _ => simp
  | [some _], hargs => simp at hargs
  | [some _, some _], hargs => simp at hargs

theorem conLog_all {v : State} (hserves : gestaServes v = true) : conLog v [] = conOk (v.gmc.log.foldl sayBytes v) :=
  conRead_serves hserves

theorem conLog_entry {v : State} {i : Nat} {e : List Byte} (hserves : gestaServes v = true) (he : v.gmc.log[i]? = some e) :
    conLog v [some i] = conOk (sayBytes v e) := by
  simp only [conLog, conRead_serves hserves, he]

theorem conLog_absent {v : State} {i : Nat} (hserves : gestaServes v = true) (he : v.gmc.log[i]? = none) :
    conLog v [some i] = conErr v 2 := by
  simp only [conLog, conRead_serves hserves, he]

theorem conLog_malformed {v : State} {args : List (Option Nat)} (hserves : gestaServes v = true)
    (hargs : 2 ≤ args.length ∨ none ∈ args) : conLog v args = conErr v 2 := by
  rw [conLog, conRead_serves hserves]
  match args, hargs with
  | [none], _ => rfl
  | _ :: _ :: _, _ => simp
  | [], hargs => simp at hargs
  | [some _], hargs => simp at hargs

theorem conUnknown_mute {u : State} {chars : List Byte} (hmute : gestaServes u = false) : conUnknown u chars = u :=
  conRead_mute hmute

theorem conUnknown_empty {u : State} {chars : List Byte} (hserves : gestaServes u = true) (hline : spelled chars = some []) :
    conUnknown u chars = sayBytes u chars := by
  simp only [conUnknown, conRead_serves hserves, hline]

theorem conUnknown_words {u : State} {chars : List Byte} {w : List Nat} {ws : List (List Nat)}
    (hserves : gestaServes u = true) (hline : spelled chars = some (w :: ws)) (hparse : conParse (w :: ws) = none) :
    conUnknown u chars = conErr (sayBytes u chars)
      (if conTable.any fun e => e.1.head?.map letters == some w then 2 else 1) := by
  simp [conUnknown, conRead_serves hserves, hline, hparse]

/-- Settles O44: a row where Gesta does not serve leaves the state, and where it does, its operation runs on the echoed line. -/
theorem consoleReads : Obligations.ConsoleReads := by
  unfold Obligations.ConsoleReads
  refine ⟨fun s u chars at_ hu hon => ?rows, fun s u chars at_ hu hon hmute => ?mute,
    fun s u v chars at_ args hu hv hon hserving hargs => ?wordy, fun s u v w chars at_ hu hv hon hserving hw => ?plain,
    fun s u v chars at_ args hu hv hon hserving => ?numbered, fun s u v chars at_ hu hv hon hserving => ?unknown⟩
  case rows =>
    exact ⟨console_run hu hon, console_run hu hon, console_run hu hon, console_run hu hon, console_run hu hon,
      console_run hu hon, console_run hu hon, console_run hu hon, console_run hu hon, console_run hu hon, console_run hu hon⟩
  case mute =>
    have quiet {c : ConCmd} {f : State → List (Option Nat) → State} :
        atTime s at_ true (fun s => whenOn s fun s => settleSwitch (conRow s c chars f)) = .next (finish u (settleSwitch u)) := by
      rw [console_run hu hon, conRow_mute hmute]
    refine ⟨quiet, quiet, quiet, quiet, quiet, quiet, quiet, quiet, quiet, quiet, ?_⟩
    exact (console_run (g := fun s => conUnknown s chars) hu hon).trans (by rw [conUnknown_mute hmute])
  case wordy =>
    have h : AtConsole s u v chars at_ := ⟨hu, hv, hon, hserving⟩
    exact ⟨h.runs_wordy hargs, h.runs_wordy hargs, h.runs_wordy hargs, h.runs_wordy hargs, h.runs_wordy hargs,
      h.runs_wordy hargs⟩
  case plain =>
    have h : AtConsole s u v chars at_ := ⟨hu, hv, hon, hserving⟩
    subst hw
    exact ⟨fun hline => h.runs_bare hline (conRead_serves h.serves), fun hline => h.runs_bare hline (conRead_serves h.serves),
      fun hline => h.runs_bare hline (conRead_serves h.serves), fun hline => h.runs_bare hline (conRead_serves h.serves),
      fun hline => h.runs_bare hline (conRead_serves h.serves), fun hline => h.runs_bare hline (conRead_serves h.serves)⟩
  case numbered =>
    have h : AtConsole s u v chars at_ := ⟨hu, hv, hon, hserving⟩
    refine ⟨fun hline => ⟨?_, fun harg => ?_⟩, fun hline => ⟨?_, fun harg => ?_⟩,
      fun hline => ⟨fun off n hargs => ⟨fun h4 h1 hend => ?_, fun hbad => ?_⟩, fun hbad => ?_⟩,
      fun hline => ⟨?_, ?_, fun hbad => ?_⟩⟩
    · rintro p rfl hp
      exact h.runs hline ((conRead_serves h.serves).trans (withArg_some hp))
    · exact h.runs hline ((conRead_serves h.serves).trans (withArg_none harg))
    · rintro l rfl hl
      exact h.runs hline ((conRead_serves h.serves).trans (withArg_some hl))
    · exact h.runs hline ((conRead_serves h.serves).trans (withArg_none harg))
    · exact h.runs hline ((conRegRd_range h.serves hargs).trans (if_pos ⟨h4, h1, hend⟩))
    · exact h.runs hline ((conRegRd_range h.serves hargs).trans (if_neg (by omega)))
    · exact h.runs hline (conRegRd_malformed h.serves hbad)
    · rintro rfl
      exact h.runs hline (conLog_all h.serves)
    · rintro i rfl
      exact ⟨fun e he => h.runs hline (conLog_entry h.serves he), fun he => h.runs hline (conLog_absent h.serves he)⟩
    · exact h.runs hline (conLog_malformed h.serves hbad)
  case unknown =>
    have run : exec (.consoleUnknownCommand ⟨chars, at_⟩) s = .next (finish u (settleSwitch (conUnknown u chars))) :=
      console_run hu hon
    subst hv
    refine ⟨fun hline => ?_, fun w ws hline hparse => ?_⟩
    · rw [run, conUnknown_empty hserving hline]
    · rw [run, conUnknown_words hserving hline hparse]

end Sys2Proof.Machine
end

section
/-! PROOFS. The quiet commands of the console (obligation O45): what refuses one, and what each does where nothing does. -/

namespace Sys2Proof.Machine

open Sys2Proof

/-- A quiet command is refused with code `e`: in the safe state, or with the console out of service. -/
def QuietRefused (u : State) (e : Nat) : Prop :=
  isSafe u = true ∧ e = 8 ∨ isSafe u = false ∧ consService u = false ∧ e = 3

theorem conQuiet_refused {v : State} {e : Nat} {f : State → State} (hserves : gestaServes v = true)
    (hrefused : QuietRefused v e) : conQuiet v f = conErr v e := by
  rw [conQuiet, conRead_serves hserves]
  obtain ⟨hsafe, rfl⟩ | ⟨hsafe, hout, rfl⟩ := hrefused
  · exact if_pos hsafe
  · simp [hsafe, hout]

theorem conQuiet_runs {v : State} {f : State → State} (hserves : gestaServes v = true) (hsafe : isSafe v = false)
    (hin : consService v = true) : conQuiet v f = f v := by
  rw [conQuiet, conRead_serves hserves]
  simp [hsafe, hin]

theorem AtConsole.refused_echo {s u v : State} {chars : List Byte} {at_ e : Nat} (h : AtConsole s u v chars at_)
    (hrefused : QuietRefused u e) : QuietRefused v e := by
  rw [h.echoed]; exact hrefused

/-- Characters come in where the console takes quiet commands. -/
structure AtQuiet (s u v : State) (chars : List Byte) (at_ : Nat) : Prop extends AtConsole s u v chars at_ where
  calm : isSafe u = false
  inService : consService u = true

theorem AtQuiet.quiet {s u v : State} {chars : List Byte} {at_ : Nat} {f : State → State} (h : AtQuiet s u v chars at_) :
    conQuiet v f = f v :=
  conQuiet_runs h.serves (by rw [h.echoed]; exact h.calm) (by rw [h.echoed]; exact h.inService)

section
variable {s u v : State} {chars : List Byte} {at_ : Nat} {args : List (Option Nat)} {ev : BootEv}

/-- REG WR answers as a row of the site, whose boot events settle. -/
theorem AtConsole.regWr {w : State} (h : AtConsole s u v chars at_) (hline : conLine chars = some (.regWr, args))
    (hw : conRegWr v args ev = w) :
    exec (.regWr chars ev at_) s = .next (finish u (settleSwitch (settleSite ev w))) := by
  have run : exec (.regWr chars ev at_) s =
      .next (finish u (settleSwitch (settleSite ev (conRow u .regWr chars fun v args => conRegWr v args ev)))) :=
    console_run (g := fun s => settleSite ev (conRow s .regWr chars fun v args => conRegWr v args ev)) h.advanced h.on
  rw [run, conRow_line h.serving hline, ← h.echoed, hw]

theorem AtQuiet.conRegWr_word (h : AtQuiet s u v chars at_) (off w : Nat) :
    conRegWr v [some off, some w] ev = if off % 4 = 0 ∧ off < 0x4000000 ∧ w < 2 ^ 32 then
      if off = regOff .GMC_CTRL 0 ∧ bitAt w 31 = true then conGmcReset v ev off w else conOk (busWrite ev v (conCore v) off w 15)
    else conErr v 2 :=
  h.quiet

theorem AtQuiet.conRegWr_malformed (h : AtQuiet s u v chars at_) (hargs : args.length ≠ 2 ∨ none ∈ args) :
    conRegWr v args ev = conErr v 2 := by
  rw [conRegWr, h.quiet]
  match args, hargs with
  | [], _ => rfl
  | [some _], _ => rfl
  | [none], _ => rfl
  | [none, _], _ => rfl
  | [some _, none], _ => rfl
  | _ :: _ :: _ :: _, _ => simp
  | [some _, some _], hargs => simp at hargs

theorem AtQuiet.conAtest_selection (h : AtQuiet s u v chars at_) {sel idx : Nat}
    (hargs : args = [some sel, some idx] ∨ args = [some sel] ∧ idx = 0) :
    conAtest v args ev =
      if sel < 8 ∧ idx < 256 ∧ atestOk sel idx = true then conOk (leaveAtest v ev sel idx) else conErr v 2 := by
  obtain rfl | ⟨rfl, rfl⟩ := hargs <;> exact h.quiet

theorem AtQuiet.conAtest_malformed (h : AtQuiet s u v chars at_) (hargs : args = [] ∨ 3 ≤ args.length ∨ none ∈ args) :
    conAtest v args ev = conErr v 2 := by
  rw [conAtest, h.quiet]
  match args, hargs with
  | [], _ => rfl
  | [none], _ => rfl
  | [none, _], _ => rfl
  | [some _, none], _ => rfl
  | _ :: _ :: _ :: _, _ => simp
  | [some _], hargs => simp at hargs
  | [some _, some _], hargs => simp at hargs

end

/-- Settles O45: what refuses a quiet command stands before its arguments; where nothing does, each is its own operation. -/
theorem consoleQuiet : Obligations.ConsoleQuiet := by
  unfold Obligations.ConsoleQuiet
  refine ⟨fun s u chars ev at_ hu hon => ?rows, fun s u v chars at_ e ev args hu hv hon hserving hrefused => ?refused,
    fun s u v chars at_ ev args hu hv hon hserving hcalm hin => ?numbered,
    fun s u v chars at_ ev hu hv hon hserving hcalm hin => ?plain⟩
  case rows =>
    exact ⟨console_run (g := fun s => settleSite ev (conRow s .regWr chars fun v args => conRegWr v args ev)) hu hon,
      console_run hu hon, console_run hu hon, console_run hu hon, console_run hu hon, console_run hu hon, console_run hu hon⟩
  case refused =>
    have h : AtConsole s u v chars at_ := ⟨hu, hv, hon, hserving⟩
    have stops {f : State → State} : conQuiet v f = conErr v e := conQuiet_refused h.serves (h.refused_echo hrefused)
    exact ⟨fun hline => h.regWr hline stops, fun hline => h.runs hline stops, fun hline => h.runs hline stops,
      fun hline => h.runs hline stops, fun hline => h.runs_bare hline stops, fun hline => h.runs_bare hline stops,
      fun hline => h.runs_bare hline stops⟩
  case numbered =>
    have h : AtQuiet s u v chars at_ := ⟨⟨hu, hv, hon, hserving⟩, hcalm, hin⟩
    refine ⟨fun hline => ⟨?_, ?_, fun hbad => h.regWr hline (h.conRegWr_malformed hbad)⟩,
      fun hline => ⟨?_, fun harg => h.runs hline (h.quiet.trans (withArg_none harg))⟩,
      fun hline => ⟨fun sel idx hargs => ⟨fun hsel hidx hok => ?_, fun hbad => ?_⟩,
        fun hbad => h.runs hline (h.conAtest_malformed hbad)⟩,
      fun hline => ⟨?_, fun harg => h.runs hline (h.quiet.trans (withArg_none harg))⟩⟩
    · rintro off w rfl h4 hoff hw
      refine ⟨fun hother => h.regWr hline ?_, fun hctrl hgo => h.regWr hline ?_⟩
      · rw [h.conRegWr_word, if_pos ⟨h4, hoff, hw⟩, if_neg hother]
      · rw [h.conRegWr_word, if_pos ⟨h4, hoff, hw⟩, if_pos ⟨hctrl, hgo⟩]
        rfl
    · rintro off w rfl hbad
      exact h.regWr hline ((h.conRegWr_word off w).trans (if_neg (by omega)))
    · rintro i rfl hi
      exact h.runs hline (h.quiet.trans (withArg_some hi))
    · exact h.runs hline ((h.conAtest_selection hargs).trans (if_pos ⟨hsel, hidx, hok⟩))
    · refine h.runs hline ((h.conAtest_selection hargs).trans (if_neg ?_))
      rintro ⟨hsel, hidx, hok⟩
      simp [hok] at hbad
      omega
    · rintro p rfl hp
      exact h.runs hline (h.quiet.trans (withArg_some hp))
  case plain =>
    have h : AtQuiet s u v chars at_ := ⟨⟨hu, hv, hon, hserving⟩, hcalm, hin⟩
    have up : (List.range 160).any v.linkUp = (List.range 160).any u.linkUp := by rw [h.echoed]; rfl
    exact ⟨fun hline => ⟨fun hup => h.runs_bare hline (h.quiet.trans (if_pos (up.trans hup))),
        fun hdown => h.runs_bare hline (h.quiet.trans (if_neg (ne_true_of_eq_false (up.trans hdown))))⟩,
      fun hline => h.runs_bare hline h.quiet, fun hline => h.runs_bare hline h.quiet⟩

end Sys2Proof.Machine
end

section
/-! PROOFS. The resets from the console (obligation O46), and the bench commands they are. -/

namespace Sys2Proof.Machine

open Sys2Proof

/-- A bench command, for the chip or for a port, is refused with code `e`: as a quiet command is, or outside service state. -/
def BenchRefused (u : State) (p e : Nat) : Prop :=
  isSafe u = true ∧ e = 8 ∨ isSafe u = false ∧ consService u = false ∧ e = 3 ∨
    isSafe u = false ∧ consService u = true ∧ u.gmc.service = false ∧ u.gmc.svc.contains p = false ∧ e = 4

theorem conBench_refused {v : State} {p e : Nat} {f : State → State} {port : Option Nat} (hserves : gestaServes v = true)
    (hrefused : BenchRefused v p e) (hport : port = none ∨ port = some p) : conBench v port f = conErr v e := by
  obtain hsafe | hout | ⟨hsafe, hin, hservice, hsvc, rfl⟩ := hrefused
  · exact conQuiet_refused hserves (.inl hsafe)
  · exact conQuiet_refused hserves (.inr hout)
  · rw [conBench, conQuiet_runs hserves hsafe hin]
    obtain rfl | rfl := hport
    · simp [hservice]
    · simp [hservice] at hsvc ⊢
      exact fun hmem => absurd hmem hsvc

theorem AtConsole.bench_refused {s u v : State} {chars : List Byte} {at_ p e : Nat} {f : State → State} {port : Option Nat}
    (h : AtConsole s u v chars at_) (hrefused : BenchRefused u p e) (hport : port = none ∨ port = some p) :
    conBench v port f = conErr v e :=
  conBench_refused h.serves (by rw [h.echoed]; exact hrefused) hport

theorem AtQuiet.bench_chip {s u v : State} {chars : List Byte} {at_ : Nat} {f : State → State} {port : Option Nat}
    (h : AtQuiet s u v chars at_) (hservice : u.gmc.service = true) : conBench v port f = f v := by
  have hecho : v.gmc.service = true := by rw [h.echoed]; exact hservice
  rw [conBench, h.quiet]
  simp [hecho]

theorem AtQuiet.bench_port {s u v : State} {chars : List Byte} {at_ p : Nat} {f : State → State}
    (h : AtQuiet s u v chars at_) (hservice : u.gmc.service = true ∨ u.gmc.svc.contains p = true) :
    conBench v (some p) f = f v := by
  obtain hservice | hsvc := hservice
  · exact h.bench_chip hservice
  · have hecho : v.gmc.svc.contains p = true := by rw [h.echoed]; exact hsvc
    rw [conBench, h.quiet]
    exact if_pos (by rw [Option.any_some, hecho, Bool.or_true])

theorem conResetPort_port {v : State} {ev : BootEv} {p : Nat} (hp : p < 80) :
    conResetPort v [some p] ev = conBench v (some p) fun s => conReset s ev (regOff .GLB_RST 0) (2 ^ 28 + p) := by
  simp [conResetPort, arg1, hp]

theorem conResetPort_malformed {v : State} {ev : BootEv} {args : List (Option Nat)} (hargs : arg1 args 80 = none) :
    conResetPort v args ev = conQuiet v fun s => conErr s 2 := by
  simp [conResetPort, hargs]

/-- Settles O46: each is a bench command, RESET PORT for its own port, whose operation is the write of its go bit. -/
theorem consoleResets : Obligations.ConsoleResets := by
  unfold Obligations.ConsoleResets
  refine ⟨fun s u chars ev at_ hu hon => ?rows, fun s u v chars at_ e p ev args hu hv hon hserving hargs hp hrefused => ?refused,
    fun s u v chars at_ ev args hu hv hon hserving hcalm hin hline => ?port,
    fun s u v chars at_ ev hu hv hon hserving hcalm hin hservice => ?chip⟩
  case rows =>
    exact ⟨console_run hu hon, console_run hu hon, console_run hu hon, console_run hu hon, console_run hu hon⟩
  case refused =>
    have h : AtConsole s u v chars at_ := ⟨hu, hv, hon, hserving⟩
    have stops {f : State → State} : conBench v none f = conErr v e := h.bench_refused hrefused (.inl rfl)
    subst hargs
    exact ⟨fun hline => h.runs hline ((conResetPort_port hp).trans (h.bench_refused hrefused (.inr rfl))),
      fun hline => h.runs_bare hline stops, fun hline => h.runs_bare hline stops, fun hline => h.runs_bare hline stops,
      fun hline => h.runs_bare hline stops⟩
  case port =>
    have h : AtQuiet s u v chars at_ := ⟨⟨hu, hv, hon, hserving⟩, hcalm, hin⟩
    refine ⟨fun harg => h.runs hline ((conResetPort_malformed harg).trans h.quiet), ?_⟩
    rintro p rfl hp hservice
    exact h.runs hline ((conResetPort_port hp).trans (h.bench_port hservice))
  case chip =>
    have h : AtQuiet s u v chars at_ := ⟨⟨hu, hv, hon, hserving⟩, hcalm, hin⟩
    exact ⟨fun hline => h.runs_bare hline (h.bench_chip hservice), fun hline => h.runs_bare hline (h.bench_chip hservice),
      fun hline => h.runs_bare hline (h.bench_chip hservice), fun hline => h.runs_bare hline (h.bench_chip hservice)⟩

end Sys2Proof.Machine
end

section
/-! PROOFS. The self-tests that need a quiet chip (obligation O47). -/

namespace Sys2Proof.Machine

open Sys2Proof

theorem cutOr_cut {v : State} {f : State → State} : cutOr v true f = conErr v 7 := rfl

/-- A self-test is refused with code `e`: as a quiet command is, or stopped by another, where the test's group is not there. -/
def TestRefused (u : State) (cut : Bool) (e : Nat) : Prop :=
  isSafe u = true ∧ e = 8 ∨ isSafe u = false ∧ consService u = false ∧ e = 3 ∨
    isSafe u = false ∧ consService u = true ∧ cut = true ∧ u.rd F.GRP_ENT_STATE 0x010 = 0 ∧ e = 7

/-- A quiet command whose operation ends with ERR 0x07 where it is stopped ends so, and else as its refusals say. -/
theorem AtConsole.test_refused {s u v : State} {chars : List Byte} {at_ e : Nat} {cut : Bool} {f : State → State}
    (h : AtConsole s u v chars at_) (hrefused : TestRefused u cut e)
    (hcut : cut = true → v.rd F.GRP_ENT_STATE 0x010 = 0 → f v = conErr v 7) : conQuiet v f = conErr v e := by
  obtain hsafe | hout | ⟨hsafe, hin, hstopped, hfree, rfl⟩ := hrefused
  · exact conQuiet_refused h.serves (h.refused_echo (.inl hsafe))
  · exact conQuiet_refused h.serves (h.refused_echo (.inr hout))
  · have quiet : AtQuiet s u v chars at_ := ⟨h, hsafe, hin⟩
    exact quiet.quiet.trans (hcut hstopped (by rw [h.echoed]; exact hfree))

theorem AtConsole.group_echo {s u v : State} {chars : List Byte} {at_ : Nat} (h : AtConsole s u v chars at_) :
    v.rd F.GRP_ENT_STATE 0x010 = u.rd F.GRP_ENT_STATE 0x010 := by
  rw [h.echoed]; rfl

section
variable {s u v : State} {chars : List Byte} {at_ : Nat} {cut ok : Bool} {ev : BootEv}

theorem AtQuiet.testGroup_there (h : AtQuiet s u v chars at_) (hthere : u.rd F.GRP_ENT_STATE 0x010 ≠ 0) :
    testGroup v cut ok ev = conErr v 9 :=
  h.quiet.trans (if_pos (by rwa [h.group_echo]))

/-- The group test runs on a free entry: a group that was declared is aborted and destroyed, another's entry is cleared. -/
theorem AtQuiet.testGroup_free (h : AtQuiet s u v chars at_) (hfree : u.rd F.GRP_ENT_STATE 0x010 = 0) :
    testGroup v false ok ev =
      let d := declareTestGroup v ev
      let made := d.rd F.GRP_ENT_STATE 0x010 = 2
      let e := if made ∧ ok = true
        then ((d.wr0 F.GRP_ABORT_LAST_CODE 2).wr0 F.GRP_ABORT_LAST_GID 0x010).wr0 F.GRP_ABORT_SEQ_SEQ 0 else d
      testResult (if made then settleGroups (groupDestroy e 0x010) else resetFields e .GRP_ENT 0x010)
        "GROUP" "ALL" [("0x010", if made ∧ ok = true then 0 else 2)] :=
  h.quiet.trans (if_neg (by rw [h.group_echo, hfree]; exact fun h => h rfl))

end

/-- Settles O47: a refusal or a stop ends each test; otherwise its operation is the one of the statement, step for step. -/
theorem selfTestsQuiet : Obligations.SelfTestsQuiet := by
  unfold Obligations.SelfTestsQuiet
  refine ⟨fun s u cut badB ok bad vec ev chars at_ fails hu hon => ?rows,
    fun s u v chars at_ e cut ok disagrees bad fails ev hu hv hon hserving hrefused => ?refused,
    fun s u v a b c d chars at_ units bad vec fails ev disagrees hu hv hon hserving hcalm hin hunits => ?tests,
    fun s u v d e f chars at_ cut ok ev hu hv hon hserving hcalm hin hline hd => ?group⟩
  case rows =>
    exact ⟨console_run hu hon, console_run hu hon, console_run hu hon, console_run hu hon, console_run hu hon⟩
  case refused =>
    have h : AtConsole s u v chars at_ := ⟨hu, hv, hon, hserving⟩
    have stops {g : State → State → State} : conQuiet v (fun s => cutOr s cut (g s)) = conErr v e :=
      h.test_refused hrefused fun hcut _ => by rw [hcut]; exact cutOr_cut
    have group : testGroup v cut ok ev = conErr v e :=
      h.test_refused hrefused fun hcut hfree => by rw [if_neg (not_not_intro hfree), hcut]; exact cutOr_cut
    exact ⟨fun hline => h.runs_bare hline stops, fun hline => h.runs_bare hline stops, fun hline => h.runs_bare hline stops,
      fun hline => h.runs_bare hline group, fun hline => h.runs_bare hline stops⟩
  case tests =>
    have h : AtQuiet s u v chars at_ := ⟨⟨hu, hv, hon, hserving⟩, hcalm, hin⟩
    subst hunits
    refine ⟨fun hline => h.runs_bare hline h.quiet, fun hline => h.runs_bare hline h.quiet,
      fun hline ha => h.runs_bare hline (h.quiet.trans ?_), fun hline hb hc hd => h.runs_bare hline (h.quiet.trans ?_)⟩
    · have held : a = ((if v.gmc.service then (allChunks v).filter fun e => e.2.lines != 0 else []).foldl
          (fun s e => giveUpChunk s e.1 e.2) v) := by
        rw [ha, show v.gmc.service = u.gmc.service by rw [hv]; rfl]
        split <;> rfl
      rw [held]
      rfl
    · rw [hd, hc, hb]
      rfl
  case group =>
    have h : AtQuiet s u v chars at_ := ⟨⟨hu, hv, hon, hserving⟩, hcalm, hin⟩
    refine ⟨fun hthere => h.runs_bare hline (h.testGroup_there hthere), ?_, ?_⟩
    · rintro hfree rfl hmade he
      refine h.runs_bare hline ((h.testGroup_free hfree).trans ?_)
      simp only [← hd, hmade, true_and, if_true, ← he]
    · rintro hfree rfl hother hf
      refine h.runs_bare hline ((h.testGroup_free hfree).trans ?_)
      simp only [← hd, hother, false_and, if_false, ← hf]

end Sys2Proof.Machine
end

section
/-! PROOFS. The self-tests that need service state (obligation O48). -/

namespace Sys2Proof.Machine

open Sys2Proof

namespace AtConsole

variable {s u v : State} {chars : List Byte} {at_ : Nat}

/-! The echo of a line leaves what the tests ask the chip for. -/

theorem portMode_echo (h : AtConsole s u v chars at_) (p : Nat) : v.portMode p = u.portMode p := by
  rw [h.echoed]; rfl

theorem devOut_echo (h : AtConsole s u v chars at_) (d : Nat) : devOut v d = devOut u d := by
  rw [h.echoed]; rfl

theorem devThere_echo (h : AtConsole s u v chars at_) (d : Nat) : devThere v d = devThere u d := by
  rw [h.echoed]; rfl

theorem semHolder_echo (h : AtConsole s u v chars at_) : semHolder v = semHolder u := by
  rw [h.echoed]; rfl

theorem roomsUnfit_echo (h : AtConsole s u v chars at_) :
    (v.isSpine || decide (farSize v < 2 ^ 36) || (List.range 128).any (roomOn v)) =
      (u.isSpine || decide (farSize u < 2 ^ 36) || (List.range 128).any (roomOn u)) := by
  rw [h.echoed]; rfl

end AtConsole

section
variable {v : State} {p k : Nat} {cut up : Bool} {bad errs : List Nat} {ev : BootEv} {args : List (Option Nat)}

theorem testLanes_outOfRange (hrange : 80 ≤ p ∨ k = 0 ∨ 3 < k) :
    testLanes v [some p, some k] cut errs ev = conQuiet v fun s => conErr s 2 :=
  if_pos hrange

/-- The lane test of a port: its mode, a stop, then the test itself. -/
theorem testLanes_inRange (hp : p < 80) (hk : 1 ≤ k) (hk3 : k ≤ 3) :
    testLanes v [some p, some k] cut errs ev = conBench v (some p) fun s =>
      if s.portMode p = 0 then conErr s 9
      else cutOr s cut fun s =>
        let s1 := conField (conField s ev F.PRT_CTRL_LOOP p k) ev F.PRT_CTRL_EN p 1
        let s2 := (portLanes p).foldl (fun s l => busWrite ev s (conCore s) (regOff .LNK_PRBS l) (3 * 2 ^ 30) 15) s1
        let s3 := (portLanes p).foldl (fun s l => busWrite ev s (conCore s) (regOff .LNK_PRBS l) 0 15) s2
        let s4 := ((portLanes p).zipIdx).foldl (fun s e =>
          modLane (s.wr F.LNK_PRBS_ERR_COUNT e.1 (min (2 ^ 32 - 1) (errs.getD e.2 0))) e.1
            fun x => { x with prbsNs := (233 * 10 * 2 ^ 32 + 2124) / 2125, prbsAt := none }) s3
        let s5 := conField (conField s4 ev F.PRT_CTRL_LOOP p 0) ev F.PRT_CTRL_EN p (s.rdSw F.PRT_CTRL_EN p)
        testReport s5 "LANES" ("P" ++ decStr p ++ " LOOP" ++ decStr k) (((portLanes p).zipIdx).map fun e =>
          ("L" ++ decStr e.1, laneVerdict k (errs.getD e.2 0), laneDetail (errs.getD e.2 0))) :=
  if_neg (by omega)

theorem testPort_malformed (hargs : arg1 args 80 = none) :
    testPort v args cut up bad ev = conQuiet v fun s => conErr s 2 := by
  simp [testPort, hargs]

/-- The test of a port: its mode, a stop, then the test itself. -/
theorem testPort_port (hp : p < 80) :
    testPort v [some p] cut up bad ev = conBench v (some p) fun s =>
      if s.portMode p = 0 then conErr s 9
      else cutOr s cut fun s =>
        let s1 := (portLanes p).foldl (fun s l => scanLane s ev l (bad.contains l)) (setEn s ev p 1)
        testResult (setEn s1 ev p (s.rdSw F.PRT_CTRL_EN p)) "PORT" ("P" ++ decStr p)
          (("P" ++ decStr p, if up then 0 else 2) :: (portLanes p).map fun l => ("L" ++ decStr l, failIf bad l)) := by
  have harg : arg1 [some p] 80 = some p := if_pos hp
  simp only [testPort, harg]

end

section
variable {s u v : State} {chars : List Byte} {at_ corr unc d : Nat} {cut : Bool} {bad : List Nat} {args : List (Option Nat)}

theorem AtQuiet.testHbm_malformed (h : AtQuiet s u v chars at_) (hservice : u.gmc.service = true)
    (hargs : arg1 args 4 = none) : testHbm v args cut corr unc = conErr v 2 :=
  (h.bench_chip hservice).trans (withArg_none hargs)

theorem AtQuiet.testHbm_device (h : AtQuiet s u v chars at_) (hservice : u.gmc.service = true) (hd : d < 4) :
    testHbm v [some d] cut corr unc =
      if devOut u d then conErr v 9 else cutOr v cut fun v => march v "HBM" d corr unc := by
  rw [← h.devOut_echo]
  exact (h.bench_chip hservice).trans (withArg_some hd)

theorem AtQuiet.testDimm_malformed (h : AtQuiet s u v chars at_) (hservice : u.gmc.service = true)
    (hargs : arg1 args 16 = none) : testDimm v args cut corr unc = conErr v 2 :=
  (h.bench_chip hservice).trans (withArg_none hargs)

theorem AtQuiet.testDimm_device (h : AtQuiet s u v chars at_) (hservice : u.gmc.service = true) (hd : d < 16) :
    testDimm v [some d] cut corr unc = if devOut u (4 + d) || !devThere u (4 + d) then conErr v 9
      else cutOr v cut fun v => march v "DIMM" (4 + d) corr unc := by
  rw [← h.devOut_echo, ← h.devThere_echo]
  exact (h.bench_chip hservice).trans (withArg_some hd)

/-- The rooms test: where it does not apply, the semaphore of another, a stop, then the test itself. -/
theorem AtQuiet.testRooms_service (h : AtQuiet s u v chars at_) (hservice : u.gmc.service = true) :
    testRooms v cut bad =
      if u.isSpine || decide (farSize u < 2 ^ 36) || (List.range 128).any (roomOn u) then conErr v 9
      else if semHolder u ≠ 0 ∧ semHolder u ≠ 3 then conErr v 5
      else cutOr v cut fun v =>
        let a := ((List.range 4).filter fun r => !bad.contains r).foldl (fun s r => (testedRoom s r).cntW 26 2) (zeroTop v)
        let b := semFree (freeCounts a [24, 25])
        testResult (b.wr0 F.GLB_CMT_STAT_TAKEN ((b.rd0 F.GLB_CMT_STAT_TAKEN + Config.freeNat b.freeCtr) % 65536)).tick
          "ROOMS" "ALL" ((List.range 4).map fun r => (decStr r, failIf bad r)) := by
  rw [← h.roomsUnfit_echo, ← h.semHolder_echo]
  exact h.bench_chip hservice

end

/-- Settles O48: each is a bench command, whose operation asks first for what stops it and is then the one of the statement. -/
theorem selfTestsBench : Obligations.SelfTestsBench := by
  unfold Obligations.SelfTestsBench
  refine ⟨fun s u chars cut up errs bad ev at_ corr unc hu hon => ?rows,
    fun s u v chars at_ e p k corr unc cut up bad errs ev hu hv hon hserving hp hk hk3 hrefused => ?refused,
    fun s u v a b c chars at_ cut up bad errs ev args hu hv hon hserving hcalm hin => ?ports,
    fun s u v a chars at_ corr unc cut bad units slots args hu hv hon hserving hcalm hin hservice hunits hslots => ?devices,
    fun s u v a b chars at_ cut unfit bad hu hv hon hserving hcalm hin hservice hline hunfit => ?rooms⟩
  case rows =>
    exact ⟨console_run hu hon, console_run hu hon, console_run hu hon, console_run hu hon, console_run hu hon,
      console_run hu hon, console_run hu hon⟩
  case refused =>
    have h : AtConsole s u v chars at_ := ⟨hu, hv, hon, hserving⟩
    have chip {f : State → State} : conBench v none f = conErr v e := h.bench_refused hrefused (.inl rfl)
    have port {f : State → State} : conBench v (some p) f = conErr v e := h.bench_refused hrefused (.inr rfl)
    exact ⟨fun hline => h.runs hline ((testLanes_inRange hp hk hk3).trans port),
      fun hline => h.runs hline ((testPort_port hp).trans port), fun hline => h.runs hline chip,
      fun hline => h.runs hline chip, fun hline => h.runs_bare hline chip, fun hline => h.runs_bare hline chip,
      fun hline => h.runs_bare hline chip⟩
  case ports =>
    have h : AtQuiet s u v chars at_ := ⟨⟨hu, hv, hon, hserving⟩, hcalm, hin⟩
    refine ⟨fun hline harg => h.runs hline ((testPort_malformed harg).trans h.quiet),
      fun p k hline hrange => h.runs hline ((testLanes_outOfRange hrange).trans h.quiet), fun p hp hservice => ?_⟩
    rw [← h.portMode_echo]
    refine ⟨fun hline => ?_, fun k hk hk3 hline => ?_⟩
    · have run := (testPort_port (cut := cut) (up := up) (bad := bad) (ev := ev) hp).trans (h.bench_port hservice)
      refine ⟨fun hmode => h.runs hline (run.trans (if_pos hmode)), ?_, ?_⟩
      · rintro hmode rfl
        exact h.runs hline (run.trans (if_neg hmode))
      · rintro hmode rfl ha
        exact h.runs hline (run.trans ((if_neg hmode).trans (by rw [ha]; rfl)))
    · have run := (testLanes_inRange (cut := cut) (errs := errs) (ev := ev) hp hk hk3).trans (h.bench_port hservice)
      refine ⟨fun hmode => h.runs hline (run.trans (if_pos hmode)), ?_, ?_⟩
      · rintro hmode rfl
        exact h.runs hline (run.trans (if_neg hmode))
      · rintro hmode rfl ha hb hc
        exact h.runs hline (run.trans ((if_neg hmode).trans (by rw [hc, hb, ha]; rfl)))
  case devices =>
    have h : AtQuiet s u v chars at_ := ⟨⟨hu, hv, hon, hserving⟩, hcalm, hin⟩
    refine ⟨fun hline => ⟨fun harg => h.runs hline (h.testHbm_malformed hservice harg), ?hbm⟩,
      fun hline => ⟨fun harg => h.runs hline (h.testDimm_malformed hservice harg), ?dimm⟩, fun hline => ?well,
      fun hline => ?sync⟩
    case hbm =>
      rintro d rfl hd
      have run := h.testHbm_device (cut := cut) (corr := corr) (unc := unc) hservice hd
      refine ⟨fun hout => h.runs hline (run.trans (if_pos hout)), ?_, ?_⟩
      all_goals
        rintro hthere rfl
        exact h.runs hline (run.trans (if_neg (ne_true_of_eq_false hthere)))
    case dimm =>
      rintro d rfl hd
      have run := h.testDimm_device (cut := cut) (corr := corr) (unc := unc) hservice hd
      refine ⟨fun hout => h.runs hline (run.trans (if_pos (by simpa using hout))), ?_, ?_⟩
      all_goals
        rintro hused hthere rfl
        exact h.runs hline (run.trans (if_neg (by simp [hused, hthere])))
    case well =>
      subst hunits hslots
      refine ⟨?_, ?_⟩
      all_goals
        rintro rfl
        exact h.runs_bare hline (h.bench_chip hservice)
    case sync =>
      refine ⟨?_, ?_⟩
      · rintro rfl
        exact h.runs_bare hline (h.bench_chip hservice)
      · rintro rfl ha
        exact h.runs_bare hline ((h.bench_chip hservice).trans (by rw [ha]; rfl))
  case rooms =>
    have h : AtQuiet s u v chars at_ := ⟨⟨hu, hv, hon, hserving⟩, hcalm, hin⟩
    have run := h.testRooms_service (cut := cut) (bad := bad) hservice
    rw [← hunfit] at run
    refine ⟨fun hno => h.runs_bare hline (run.trans (if_pos hno)),
      fun hfit h0 h3 => h.runs_bare hline (run.trans ((if_neg (ne_true_of_eq_false hfit)).trans (if_pos ⟨h0, h3⟩))),
      fun hfit hsem => ?_⟩
    have free := run.trans ((if_neg (ne_true_of_eq_false hfit)).trans (if_neg (by omega)))
    refine ⟨?_, ?_⟩
    · rintro rfl
      exact h.runs_bare hline free
    · rintro rfl ha hb
      exact h.runs_bare hline (free.trans (by rw [hb, ha]; rfl))

end Sys2Proof.Machine
end
